-- ==== Sys2Proof/Word.lean ====
section
/-! DEFINITION. The word types of the machine and their plainest arithmetic (spec/00 R3, R6: values are bit strings,
numbers unbounded until they are written). -/

namespace Sys2Proof

/-- A 64-bit register or address. -/
abbrev Word := BitVec 64
/-- One byte of memory. -/
abbrev Byte := BitVec 8
/-- A run of bytes, lowest address first (spec/00 R3). -/
abbrev Bytes := List Byte
/-- The 2,048 bits of a vector register, lane `i` in bits 32i+31 : 32i (spec/07 R154). -/
abbrev VReg := BitVec 2048

/-- A condition as a number: 1 or 0. -/
def bit (b : Bool) : Nat := if b then 1 else 0

end Sys2Proof
end

