-- ==== Sys2Proof/Config.lean ====
section
/-! DEFINITION. What the device's spec leaves open, as constants without a body (free values), and the figures that the
spec fixes for this device. Nothing in Lean can evaluate a free value; a statement about one holds for every value. -/

namespace Sys2Proof.Config

/-- An unconstrained value of 64 bits; the argument is the number of free values drawn before (log 9). -/
opaque freeValue : Nat → Word
/-- An unconstrained byte of the position `n` of draw `c` (log 9). -/
opaque freeByte : (c n : Nat) → Byte
/-- The bits of an approximation of spec/07 Table 7.3 inside its bound: function number and FP32 operand (R160, log 10). -/
opaque approximation : (fn : Nat) → BitVec 32 → BitVec 32
/-- BOOTID, drawn by the ROM's random source at each reset (spec/18 R385): the argument counts resets (log 8). -/
opaque bootId : Nat → Word
/-- AES-256 in XTS mode on a 16-byte unit (spec/15 R314), a permutation of its values: key, physical unit address (log 11). -/
opaque cipher : (key unit : Nat) → Equiv.Perm (BitVec 128)
/-- ECDSA verification on P-521 over SHA-512 (spec/18 R382): key, message, signature (log 11). -/
opaque verify : Bytes → Bytes → Bytes → Bool
/-- SHA-512 (spec/18 R387), an algorithm of another standard (log 11). -/
opaque sha512 : Bytes → Bytes
/-- Whether the AES-256 key wrap of a MEMKEY payload unwraps under the module's key-agreement key, and the key: that key, the payload
(spec/18 R382, log 11). -/
opaque unwrapKey : Bytes → Bytes → Option Bytes
/-- The response of the SPDM responder to a request in its session state: request code, message, transcript, measurements, the
certificates of slot 0, and the alias key, with which it signs (spec/18 R387; SPDM 1.3 is a standard of its own, log 11). -/
opaque spdmResponse : Nat → Bytes → Bytes → Bytes → Bytes → Bytes → Bytes
/-- The device secret, fused at manufacture (spec/18 R386). -/
opaque deviceSecret : Bytes
/-- The derivation of a P-521 key from a secret, for a purpose (spec/18 R386: 0 identity, 1 key agreement, 2 alias; log 11). -/
opaque deriveKey : (purpose : Nat) → Bytes → Bytes
/-- The X.509 certificate of a key, signed by another, which names a measurement (spec/18 R386, log 11): signer, key, measurement. -/
opaque certify : Bytes → Bytes → Bytes → Bytes
/-- The number of a Sprinell status that spec/18 R388 names without one: 0 NOTREADY, 1 a failed command (log 44). -/
opaque sprinellStatus : Nat → Nat
/-- The IDE_KM responder (spec/16 R352, log 11). -/
opaque ideKmResponse : Bytes → Bytes → Bytes
/-- The Ghekin configuration key, fused at manufacture (spec/18 Table 18.3). -/
opaque ghekinKey : Bytes
/-- This module's serial number (spec/18 R382, R386). -/
opaque moduleSerial : Word
/-- The Bolyen ROM image and the fuse configuration, which measurements 1 and 2 hash (spec/18 Table 18.6). -/
opaque romImage : Bytes
/-- See `romImage`. -/
opaque fuses : Bytes
/-- The certificates from the Ghekin root to that of the identity key, issued at manufacture (spec/18 R386). -/
opaque certificates : Bytes
/-- Which packages are configured in the pod (spec/01 R21): a fact of the installation (log 13). -/
opaque configuredPackage : Nat → Bool
/-- Modules configured in the pod, the load-time parameter POD_MODULES (spec/05 Table 5.13, log 13). -/
opaque podModules : Nat
/-- The other modules a partition spans: module number, and the masks of its tiles on it (spec/17 R357, log 13). -/
opaque peerTiles : (part pkg : Nat) → Nat
/-- The modules (packages) that a partition spans besides this one (spec/17 R357, log 13). -/
opaque peerModules : (part : Nat) → List Nat
/-- The capacity in bytes of a partition's image store (spec/14 Table 14.5 NOSPACE; no figure is given, log 14). -/
opaque imageStore : Nat

/-- Bytes of DRAM on a die: 72 GiB (spec/00 R9). -/
def dramBytes : Nat := 77309411328
/-- The system region: the top 2 GiB of each die's DRAM (spec/15 R403). -/
def systemBytes : Nat := 2147483648
/-- ARGBASE, inside the system region (spec/14 R297, spec/15 R403): the ROM fixes it; the model takes the region's
start. DESIGN CHOICE: log 15. -/
def argBase : Nat := dramBytes - systemBytes
/-- Tun entries of a die (spec/01 R19). -/
def tunEntries : Nat := 196608

end Sys2Proof.Config
end

