-- ==== Sys2Proof/Syntax.lean ====
section
/-! DEFINITION. The instructions and events of the RK9: one constructor of `Instr` for each row of
spec/opcode_table.json: the operations and events of the device's units, whose arguments say which unit or record they
act on, and the encoded Xaril instructions (spec/05 R107). -/

namespace Sys2Proof

/-- A scalar or vector register number (spec/05 Table 5.2). -/
abbrev Reg := Fin 32
/-- A mask register number (spec/05 Table 5.2). -/
abbrev MReg := Fin 8
/-- A level `.L0` to `.L7` (spec/00 R7). -/
abbrev Level := Fin 8
/-- An accumulator tile number (spec/05 Table 5.2). -/
abbrev Acc := Fin 64
/-- The mask of a vector word: `none` is MK = 0 (spec/07 R155). -/
abbrev VMask := Option MReg
/-- The counter tag of an engine command: `none` is NC = 1 (spec/05 R107). -/
abbrev KTag := Option (Fin 16)
/-- The counter of CANCEL: `none` is KEN = 0 (spec/10 R227). -/
abbrev CTag := Option (Fin 16)
/-- An F field: SIGNED in bit 4, a format code in bits 3:0 (spec/07 R158). -/
abbrev FormatField := Fin 32
/-- An access size code (spec/06 Table 6.11). -/
abbrev SizeCode := Fin 8

/-- The ordering suffix of an atomic (spec/06 R148). -/
inductive AmoOrder where
  | none | acq | rel | ar
  deriving DecidableEq, Repr

/-- The rounding field of an instruction: a code of spec/03 Table 3.13, or the code held in RM (spec/05 R110). -/
inductive Rc where
  | rne | rtz | rup | rdn | sr | fromRM
  deriving DecidableEq, Repr

/-- A decrement message (spec/14 Table 14.10): target handle, mark, edge position (0xFF for none), source number. -/
structure Decrement where
  target : Word
  mark : Byte
  epos : Byte
  src : Nat
  /-- The instance of a SUCC decrement or a DEC, which its target must belong to (spec/10 R231, R233). -/
  owner : Option (Nat × Nat) := none
  /-- The request of a DEC, which takes the reply. -/
  reply : Option Nat := none
  /-- A DEC: its issuer alone is told of a failure (spec/10 R231). -/
  told : Bool := false
  /-- The die of the record that sends it (spec/17 R376). -/
  die : Nat := 0
  deriving DecidableEq, Repr

/-- The kinds of token a channel carries (spec/02 R52). -/
inductive TokenKind where
  | data | message | endTok | endCancelled
  deriving DecidableEq, Repr

/-- A token on its way to a receiving endpoint: its beats as bytes, whether its tail is among them (spec/02 R52, R53), and
the poison mark of its source (spec/17 R371). -/
structure Token where
  kind : TokenKind
  bytes : Bytes
  tail : Bool
  bad : Bool := false
  /-- The channel it belongs to, by instance and template channel (spec/02 R51). -/
  chan : Option (Nat × Nat) := none
  /-- A channel deposit in place of a withdrawn lane group: the entry, and the index of its first beat there (spec/16 R340). -/
  place : Option (Nat × Nat) := none
  /-- The source number, PART and ADDR of its deposits, which a guard checks and logs (spec/17 R360, R363). -/
  origin : Option (Nat × Nat × Word) := none
  deriving DecidableEq, Repr

/-- A packet of the fabrics: the header of spec/16 Table 16.2, the value of its reserved fields, and its data. -/
structure Packet where
  kind : Nat
  cls : Nat
  trim : Bool
  pois : Bool
  rel : Bool
  perf : Bool
  src : Nat
  part : Nat
  dest : Nat
  seq : Nat
  eport : Nat
  iport : Nat
  addr : Word
  aux : Word
  reserved : Nat
  data : Bytes
  /-- BEATS: payload beats, and ILEN: inline bytes (spec/16 R337). -/
  beats : Nat := 0
  ilen : Nat := 0
  /-- The bytes that a store or load of the vector port touches, as runs of an offset and a length from ADDR up; none listed is all of
  them (log 24). -/
  enable : List (Nat × Nat) := []
  deriving DecidableEq, Repr

/-- A translation on its way to a TLB: the home and its GEN, the partition, and words 0 to 2 of the entry (spec/15 R321). -/
structure Fill where
  home : Nat
  part : Nat
  gen : Nat
  w0 : Word
  w1 : Word
  w2 : Word
  /-- The asker, 0 for none, and the context of a Fathom engine (spec/15 R320). -/
  by_ : Nat := 0
  ctx : Nat := 0
  deriving DecidableEq, Repr

/-- An invalidation on its way to a TLB (spec/13 R281 TLB.INV, spec/15 R321): the issuing slot, the operand words,
and the GEN it carries when a home advanced. -/
structure Invalidation where
  slot : Nat
  part : Nat
  home : Nat
  gen : Option Nat
  va : Word
  how : Word
  /-- What the TLB has still to see performed before it acknowledges, once the invalidation has reached it: an access as (0,
  request) or (slot + 1, serial of a vector entry). -/
  waits : Option (List (Nat × Nat)) := none
  /-- The wait of the issuing slot that it belongs to. -/
  serial : Nat := 0
  deriving DecidableEq, Repr

/-- A hardware error found in a store of state: the UNIT and DIE of spec/17 Table 17.9, the tile, the address or
record entry, and the source number. -/
structure ErrorReport where
  unit : Nat
  die : Nat
  gtile : Nat
  addr : Nat
  src : Nat
  deriving DecidableEq, Repr

/-- Every row of spec/opcode_table.json: first the 125 operations and events, then the 321 encoded instructions.
Register arguments are named as the fields of spec/05 R107. Arguments of events: `slot` is global tile × 4 + slot,
`gtile` a global tile ID, `id` a request of `State.requests`, `die entry` a Tun record, `remote` bytes that a host or
peer supplied and `bad` their poison mark. (Events stand first because compiled Lean code can build only the first 245 constructors of a type.) -/
inductive Instr where
  /-- TLOGHEAD_READ (R269): A read of TLOGHEAD acquires every trap-log record it counts. -/
  | tlogheadRead (part : Nat)
  /-- ATOMFN_HIGH_WRITE (R270): A write of an ATOMFN high half stores it in a holding word. -/
  | atomfnHighWrite (part : Nat) (j : Fin 48) (v : Word)
  /-- ATOMFN_LOW_WRITE (R270): A write of an ATOMFN low half installs or invalidates the descriptor after checking it. -/
  | atomfnLowWrite (part : Nat) (j : Fin 48) (v : Word)
  /-- SCALAR_RESULT (R128): A multi-cycle scalar result is written to its register after its latency. -/
  | scalarResult (slot : Nat)
  /-- WAIT_COMPLETE (R35): A BLOCKED wait whose condition is met completes outside the rotation and the slot returns to ISSUE. -/
  | waitComplete (slot : Nat)
  /-- REPLY_ARRIVAL (R345): A reply to a load, atomic, request or MSG.SEND reaches the issuing tile's reply unit and is written, forwarded or discarded. -/
  | replyArrival (id : Nat) (value : Nat) (poison : Bool)
  /-- LOAD_PERFORM (R86): A load reaches its owning unit and its value is fixed there. -/
  | loadPerform (id : Nat)
  /-- STORE_PERFORM (R86): A store or deposit reaches its owning unit and takes effect. -/
  | storePerform (id : Nat)
  /-- ATOMIC_EXECUTE (R102): An atomic runs at the owner's atomic unit as one indivisible step and returns its result. -/
  | atomicExecute (id : Nat)
  /-- BARRIER_REQUEST (R247): A barrier request acts on the barrier word at its tile's atomic unit. -/
  | barrierRequest (id : Nat)
  /-- SPAWN_REQUEST (R230): The Tun creates the spawned task's record or fails the request. -/
  | spawnRequest (id : Nat)
  /-- SCOPE_REQUEST (R237): The scope home opens a scope or resolves a scope ID and replies. -/
  | scopeRequest (id : Nat)
  /-- CANCEL_REQUEST (R238): The scope record's home makes the scope and its ACTIVE descendants CANCELLING, or replies otherwise. -/
  | cancelRequest (id : Nat)
  /-- CANCEL_BROADCAST (R238): The CANCELLING state reaches a dispatcher or slot holding tasks of the subtree. -/
  | cancelBroadcast (die entry : Nat)
  /-- KILL (R241): A kill takes effect at a kill point; the task becomes DEAD and its effects settle. -/
  | kill (slot : Nat)
  /-- KILL_HOLD_EXPIRY (R240): A kill-hold region expires after 4,096 cycles and sets the expiry mark. -/
  | killHoldExpiry (slot : Nat)
  /-- END_COMMIT (R235): END commits: closes endpoints, leaves barriers, releases and decrements successors. -/
  | endCommit (slot : Nat)
  /-- DECREMENT_MESSAGE (R307): A decrement arrives at the Tun record and is applied, absorbed or refused. -/
  | decrementMessage (m : Decrement)
  /-- SUCC_FAILURE_NOTICE (R231): A SUCC decrement failure notice returns to the tile where the task ended and is counted. -/
  | succFailureNotice (gtile : Nat)
  /-- SCOPE_CLOSE (R33): A sealed and empty ACTIVE scope becomes CLOSED. -/
  | scopeClose (scope : Nat)
  /-- ACK_DELIVERY (R245): A drained CANCELLING subtree becomes CANCELLED; the acknowledgement record is written and the counter uncharged. -/
  | ackDelivery (scope : Nat)
  /-- COMPLETION_RECORD (R295): A command's completion record is written after its stores are performed, and DONE advances. -/
  | completionRecord (cmd : Nat)
  /-- COMMAND_STORE (R292): A host 64-byte store to a queue window is accepted into the ring or dropped. -/
  | commandStore (queue offset : Nat) (data : Bytes)
  /-- QCFG_WRITE (R291): A queue configuration word write is applied or refused. -/
  | qcfgWrite (queue : Nat) (high : Bool) (v : Word)
  /-- REGISTER_WRITE (R271): A write to a register that has no row of its own. -/
  | registerWrite (gtile offset : Nat) (v : Word)
  /-- NOP (R294): A NOP command completes OK once taken. -/
  | nopCommand (queue : Nat)
  /-- LOAD (R125): A LOAD command checks and loads an image whole or not at all. -/
  | loadImage (queue : Nat) (remote : Bytes) (bad : Bool)
  /-- UNLOAD (R294): An UNLOAD command unloads an image, or completes BUSY. -/
  | unloadImage (queue : Nat)
  /-- RUN (R296): A RUN command validates, writes the instance's records and opens its root scope. -/
  | runGraph (queue : Nat) (remote : Bytes) (bad : Bool)
  /-- CANCEL_COMMAND (R294): A CANCEL command cancels the root scope of an instance. -/
  | cancelCommand (queue : Nat)
  /-- ADAPTER_PREFETCH (R300): The ROM reads ahead in a ring and prefetches adapter entries. -/
  | adapterPrefetch (queue : Nat)
  /-- DISPATCH_SELECT (R306): The dispatcher's arbiter selects a ready list and the mode chooses a task, which becomes CHOSEN. -/
  | dispatchSelect (die part : Nat)
  /-- PLACE (R310): The placer finds a tile or footprint for the CHOSEN entry and grants its resources. -/
  | place (die part : Nat)
  /-- PREFETCH_READ_ISSUE (R304): A merged prefetch read issues after its first member has waited 256 cycles. -/
  | prefetchReadIssue (die : Nat) (remote : Bytes) (bad : Bool)
  /-- TASK_RUNNABLE (R301): With code present, prefetches done and holds released, the entry becomes RUNNABLE. -/
  | taskRunnable (die entry : Nat)
  /-- TASK_START (R27): The argument block is written, registers are set and the task's first instruction issues. -/
  | taskStart (die entry : Nat)
  /-- SPAWN_TREE_DELIVERY (R232): SPAWN.TREE reaches a position along the spanning tree and starts or refuses its slots. -/
  | spawnTreeDelivery (id : Nat)
  /-- PREEMPT_TRIGGER (R311): A CHOSEN task unplaced for 4,096 cycles triggers pre-emption of lower-class victims. -/
  | preemptTrigger (die part : Nat)
  /-- SAVE_BEGIN (R283): A slot reaches a quiescent point and enters SAVING. -/
  | saveBegin (slot : Nat)
  /-- SAVE_COMPLETE (R285): The save image is complete, the grant ends and the task becomes PREEMPTED. -/
  | saveComplete (slot : Nat)
  /-- PREEMPT_ABANDON (R283): No quiescent point within PQLIMIT cycles abandons the pre-emption. -/
  | preemptAbandon (slot : Nat)
  /-- RESUME (R289): A PREEMPTED task is restored through PLACING and continues. -/
  | resume (die entry : Nat)
  /-- SLOT_TRAP (R274): A precise trap is taken at an instruction boundary and delivered as SUPER, TASK or CANCEL. -/
  | slotTrap (slot : Nat) (cause : Byte) (tval : Word)
  /-- DEFERRED_TRAP (R273): A trap found at a queue head or at entry begin is taken after earlier entries complete. -/
  | deferredTrap (slot : Nat)
  /-- HANDLER_ENTRY (R55): At a handler point with a message waiting, the slot switches to HANDLER. -/
  | handlerEntry (slot : Nat)
  /-- MESSAGE_ARRIVAL (R54): A message reaches a tile's inbox and is queued or refused. -/
  | messageArrival (gtile : Nat) (data : Bytes) (reply : Option Nat)
  /-- TOKEN_ARRIVAL (R216): A token's beats or a control token reach the receiving endpoint's backing queue. -/
  | tokenArrival (gtile ch : Nat) (token : Token)
  /-- ALLOWANCE_RETURN (R49): Returned allowance units reach the sender. -/
  | allowanceReturn (gtile ch units : Nat)
  /-- CHANNEL_BROKEN_NOTICE (R51): A sender's endpoint learns that its receiver ended or died and becomes BROKEN. -/
  | channelBrokenNotice (gtile ch : Nat)
  /-- LANE_GROUP_WITHDRAW (R340): A lane group is withdrawn from a gang and its channel continues on packets. -/
  | laneGroupWithdraw (gtile ch : Nat)
  /-- RESIDENCY_RECORD (R253): A residency record replaces its entry in an S-tile's residency table, or is refused. -/
  | residencyRecord (gtile expert : Nat) (w0 w1 : Word) (engine : Option Nat)
  /-- ENGINE_SEGMENT (R202): An engine operation writes one segment once its destination is translated and its source read. -/
  | engineSegment (gtile g : Nat) (remote : Bytes) (bad : Bool)
  /-- ENGINE_COMPLETE (R203): An engine operation completes, writes its record, uncharges its counter and posts its message. -/
  | engineComplete (gtile g : Nat)
  /-- AG_PORT_REQUEST (R208): A generator bound by AG.PORT takes a token as a request and executes or discards it. -/
  | agPortRequest (gtile g : Nat)
  /-- VECTOR_ENTRY_BEGIN (R156): A vector entry binds and reads its vector and mask sources. -/
  | vectorEntryBegin (slot : Nat)
  /-- VECTOR_ENTRY_COMPLETE (R156): A vector entry writes its destinations and flags in the last cycle of its cost. -/
  | vectorEntryComplete (gtile : Nat)
  /-- VECTOR_LOAD_DATA (R156): A vector load's data arrives and its destination is written. -/
  | vectorLoadData (slot : Nat) (remote : Bytes) (poison : Bool)
  /-- MATRIX_ENTRY_BIND (R182): A matrix entry binds to the Scruple array once its conditions hold. -/
  | matrixEntryBind (slot : Nat)
  /-- MATRIX_ENTRY_COMPLETE (R181): A matrix entry completes and its results become visible. -/
  | matrixEntryComplete (gtile : Nat)
  /-- SELECT_ENTRY_BIND (R252): A select entry binds to the select unit. -/
  | selectEntryBind (slot : Nat)
  /-- SELECT_ENTRY_COMPLETE (R252): A select entry completes and writes its results and flags. -/
  | selectEntryComplete (gtile : Nat)
  /-- GANG_CYCLE_RESUME (R47): Eight die cycles after the last late slot can issue, every lockstep member issues the gang cycle. -/
  | gangCycleResume (gang : Nat)
  /-- UALINK_INGRESS (R327): A packet enters at a UALink ingress port, is guarded and translated again. -/
  | ualinkIngress (port : Nat) (p : Packet)
  /-- PARKED_RETRY (R333): Stopped and parked accesses retry translation when GEN advances. -/
  | parkedRetry (part home : Nat)
  /-- ACCEPT_NOTICE (R342): An accept notice frees the retry-buffer copy of a packet. -/
  | acceptNotice (src dest seq : Nat) (perf : Bool)
  /-- ROUTER_TRIM (R343): A class 3 packet that has waited 32 cycles for buffer space is trimmed. -/
  | routerTrim (src dest seq : Nat)
  /-- TRIMMED_HEAD_ARRIVAL (R344): A trimmed head reaches its destination, which enters go-back and requests a resend. -/
  | trimmedHeadArrival (src dest seq : Nat)
  /-- RESEND_REQUEST (R344): A resend request makes the source resend a flow from its retry buffer. -/
  | resendRequest (src dest seq : Nat)
  /-- WALK_COMPLETE (R321): A page walk completes, or restarts when GEN has changed. -/
  | walkComplete (walk : Nat)
  /-- TLB_FILL (R321): A fill reaches a TLB and is installed or discarded as stale. -/
  | tlbFill (tlb : Nat) (fill : Fill)
  /-- TLB_INVALIDATION (R322): An invalidation reaches a TLB, which drops entries and acknowledges. -/
  | tlbInvalidation (tlb : Nat) (inv : Invalidation)
  /-- FRAME_START (R364): A time-slot frame starts every 8,192 cycles; new lend states and clock steps take effect. -/
  | frameStart
  /-- DEADLOCK_SNAPSHOT (R367): Every 65,536 cycles each die snapshots its BLOCKED slots. -/
  | deadlockSnapshot (die : Nat)
  /-- SNAPSHOT_EXCHANGE (R367): The dies of a partition exchange deadlock snapshots. -/
  | snapshotExchange (part : Nat)
  /-- TIMESTAMP_SYNC (R351): The master's timestamp arrives and the module adjusts its counter rate. -/
  | timestampSync (master : Nat) (delay : Nat)
  /-- LINK_DELAY_ECHO (R351): An echo round trip measures a link's delay. -/
  | linkDelayEcho (port roundTrip : Nat)
  /-- PATROL_SCRUB (R370): Patrol scrubbing reads and corrects DRAM granules. -/
  | patrolScrub (die granule : Nat)
  /-- CORRECTED_ERROR (R370): A corrected error is counted and logged. -/
  | correctedError (e : ErrorReport)
  /-- UNCORRECTABLE_ERROR (R370): An uncorrectable error marks data poisoned or ends the affected state. -/
  | uncorrectableError (e : ErrorReport)
  /-- LINK_RETRAIN (R370): Repeated link failure retrains the link. -/
  | linkRetrain (die link : Nat)
  /-- DIE_LOST (R374): A die is lost by heartbeat timeout, control-state error, rail fault or thermal trip. -/
  | dieLost (die : Nat)
  /-- HOST_MEM_READ (R353): A host CXL.mem read reaches the home die cache. -/
  | hostMemRead (hpa size : Nat)
  /-- HOST_MEM_WRITE (R353): A host CXL.mem write is performed at the home die cache. -/
  | hostMemWrite (hpa : Nat) (data : Bytes)
  /-- BACK_INVALIDATE_RESPONSE (R354): The host's response to a back-invalidate snoop lets the device access proceed. -/
  | backInvalidateResponse (die line : Nat) (data : Option Bytes)
  /-- HOST_ERROR_COMPLETION (R356): A host request completes with an error and is treated as a refusal. -/
  | hostErrorCompletion (id : Nat)
  /-- HOST_COMPLETION_TIMEOUT (R356): A host request with no completion within 50 µs is treated as a refusal. -/
  | hostCompletionTimeout (id : Nat)
  /-- FOREIGN_UALINK_REQUEST (R347): A read, write or atomic request from another device receives an error response. -/
  | foreignUalinkRequest (port : Nat)
  /-- COLD_RESET (R379): Main power applied starts a cold reset of the whole module. -/
  | coldReset
  /-- WARM_RESET (R379): A CXL reset or the Sprinell RESET starts a warm reset of the whole module. -/
  | warmReset
  /-- RAILS_DONE (R380): Rail sequencing ends and SELFTEST begins. -/
  | railsDone
  /-- SELFTEST_DONE (R380): SRAM self-test ends and DRAMINIT begins. -/
  | selftestDone (good : BitVec 4)
  /-- DRAMINIT_DONE (R380): DRAM training and zeroing end and IDENTITY begins. -/
  | draminitDone (good : BitVec 4)
  /-- IDENTITY_DONE (R386): Identity, key-agreement and alias keys are derived and measurements taken. -/
  | identityDone
  /-- LINKS_DONE (R380): Links are trained and the module is READY. -/
  | linksDone (good : BitVec 4)
  /-- GOVERNOR_SAMPLE (R390): Every 10 µs the governor measures board power and chooses the clock step. -/
  | governorSample (watts average : Nat)
  /-- TELEMETRY_REFRESH (R389): Telemetry registers are refreshed every 1 ms. -/
  | telemetryRefresh (watts : Nat) (temp : Word)
  /-- THERMAL_LIMIT (R391): A temperature crosses a limit and refresh or clock-step action follows. -/
  | thermalLimit (die : Nat) (dram compute : Int)
  /-- THERMAL_TRIP (R391): A thermal trip or rail fault cuts a die's rails and the die is lost. -/
  | thermalTrip (die : Nat)
  /-- BLOB (R383): A Sprinell BLOB command queues a signed blob and returns its status. -/
  | queueBlob (data : Bytes)
  /-- REG_RD (R388): A Sprinell command that reads a Sprinell register. -/
  | regRd (reg : Nat)
  /-- PL_SET (R388): A Sprinell command that sets the working power limit. -/
  | plSet (watts : Nat)
  /-- LOG_RD (R388): A Sprinell command that reads guard-log or error-log records. -/
  | logRd (errorLog : Bool) (index count : Nat)
  /-- CNT_RD (R388): A Sprinell command that reads die, link or port counters. -/
  | cntRd (die index : Nat)
  /-- RESET (R388): A Sprinell command that starts a warm reset. -/
  | resetCommand
  /-- OWNER (R383): An OWNER blob replaces the owner key. -/
  | ownerBlob
  /-- MODULE (R383): A MODULE blob sets the package number and frame table. -/
  | moduleBlob
  /-- PARTITION (R358): A PARTITION blob configures or reconfigures a partition. -/
  | partitionBlob
  /-- MEMKEY (R383): A MEMKEY blob loads a memory key after flushing lines held under that KEYID. -/
  | memkeyBlob
  /-- LINKKEY (R383): A LINKKEY blob loads UALinkSec keys for a port. -/
  | linkkeyBlob
  /-- KEY_SWITCH (R383): A port's next UALinkSec key switch applies the loaded link key. -/
  | keySwitch (port : Nat)
  /-- POWER (R383): A POWER blob sets PLMAX and lowers the working limit if needed. -/
  | powerBlob
  /-- GET_VERSION (R387): An SPDM GET_VERSION request. -/
  | getVersion (msg : Bytes)
  /-- GET_CAPABILITIES (R387): An SPDM GET_CAPABILITIES request. -/
  | getCapabilities (msg : Bytes)
  /-- NEGOTIATE_ALGORITHMS (R387): An SPDM NEGOTIATE_ALGORITHMS request. -/
  | negotiateAlgorithms (msg : Bytes)
  /-- GET_DIGESTS (R387): An SPDM GET_DIGESTS request. -/
  | getDigests (msg : Bytes)
  /-- GET_CERTIFICATE (R387): An SPDM GET_CERTIFICATE request. -/
  | getCertificate (msg : Bytes)
  /-- CHALLENGE (R387): An SPDM CHALLENGE request, answered with the alias key. -/
  | challenge (msg : Bytes)
  /-- GET_MEASUREMENTS (R387): An SPDM GET_MEASUREMENTS request, answered with the current measurements. -/
  | getMeasurements (msg : Bytes)
  /-- KEY_EXCHANGE (R387): An SPDM KEY_EXCHANGE request. -/
  | keyExchange (msg : Bytes)
  /-- FINISH (R387): An SPDM FINISH request. -/
  | finish (msg : Bytes)
  /-- END_SESSION (R387): An SPDM END_SESSION request. -/
  | endSession (msg : Bytes)
  /-- IDE_KM (R352): An IDE_KM key-management message inside an SPDM session. -/
  | ideKm (msg : Bytes)
  /-- TIME_SLOT_START (R364): Every 64 cycles a framed unit enters its next time slot and serves only that slot's user, so traffic waiting for its partition's slot moves on. -/
  | timeSlotStart (cls unit : Nat)
  /-- ROTATION_TURN (R359): The command core's 256-cycle turn, or the dispatcher's or home unit's 64-cycle turn, passes to the next configured partition, whose waiting work then proceeds. -/
  | rotationTurn (die unit : Nat)
  /-- CONFIGURATION_REQUEST (R380): A CXL.io configuration request arrives from the host and receives Configuration Request Retry Status until the module is READY. -/
  | configurationRequest (msg : Bytes)
  /-- ADD (R129): Writes xa + xb to xd. -/
  | add (d : Reg) (a : Reg) (b : Reg)
  /-- SUB (R129): Writes xa − xb to xd. -/
  | sub (d : Reg) (a : Reg) (b : Reg)
  /-- AND (R129): Writes the bitwise AND of xa and xb to xd. -/
  | and (d : Reg) (a : Reg) (b : Reg)
  /-- OR (R129): Writes the bitwise OR of xa and xb to xd. -/
  | or (d : Reg) (a : Reg) (b : Reg)
  /-- XOR (R129): Writes the bitwise XOR of xa and xb to xd. -/
  | xor (d : Reg) (a : Reg) (b : Reg)
  /-- ANDN (R129): Writes xa AND NOT xb to xd. -/
  | andn (d : Reg) (a : Reg) (b : Reg)
  /-- ADDW (R129): Adds xa and xb at 32 bits and writes the sign-extended result to xd. -/
  | addw (d : Reg) (a : Reg) (b : Reg)
  /-- SUBW (R129): Subtracts xb from xa at 32 bits and writes the sign-extended result to xd. -/
  | subw (d : Reg) (a : Reg) (b : Reg)
  /-- ADDS (R129): Adds xa and xb as signed values with saturation and sets SAT if the result saturated. -/
  | adds (d : Reg) (a : Reg) (b : Reg)
  /-- SUBS (R129): Subtracts xb from xa as signed values with saturation and sets SAT if the result saturated. -/
  | subs (d : Reg) (a : Reg) (b : Reg)
  /-- MIN (R129): Writes the signed minimum of xa and xb to xd. -/
  | min (d : Reg) (a : Reg) (b : Reg)
  /-- MAX (R129): Writes the signed maximum of xa and xb to xd. -/
  | max (d : Reg) (a : Reg) (b : Reg)
  /-- MINU (R129): Writes the unsigned minimum of xa and xb to xd. -/
  | minu (d : Reg) (a : Reg) (b : Reg)
  /-- MAXU (R129): Writes the unsigned maximum of xa and xb to xd. -/
  | maxu (d : Reg) (a : Reg) (b : Reg)
  /-- ABS (R129): Writes the saturated absolute value of xa to xd and sets SAT when xa is −2^63. -/
  | abs (d : Reg) (a : Reg)
  /-- MUL (R130): Writes the low 64 bits of the product of xa and xb to xd. -/
  | mul (d : Reg) (a : Reg) (b : Reg)
  /-- MULH (R130): Writes the high 64 bits of the signed product of xa and xb to xd. -/
  | mulh (d : Reg) (a : Reg) (b : Reg)
  /-- MULHU (R130): Writes the high 64 bits of the unsigned product of xa and xb to xd. -/
  | mulhu (d : Reg) (a : Reg) (b : Reg)
  /-- MULHSU (R130): Writes the high 64 bits of the product of signed xa and unsigned xb to xd. -/
  | mulhsu (d : Reg) (a : Reg) (b : Reg)
  /-- MULW (R130): Writes the 32-bit product of xa and xb, sign-extended, to xd. -/
  | mulw (d : Reg) (a : Reg) (b : Reg)
  /-- DIV (R130): Writes the signed quotient of xa by xb, truncated towards zero, to xd; division by zero and overflow set flags. -/
  | div (d : Reg) (a : Reg) (b : Reg)
  /-- DIVU (R130): Writes the unsigned quotient of xa by xb to xd; division by zero sets DivZero. -/
  | divu (d : Reg) (a : Reg) (b : Reg)
  /-- REM (R130): Writes the signed remainder of xa by xb to xd. -/
  | rem (d : Reg) (a : Reg) (b : Reg)
  /-- REMU (R130): Writes the unsigned remainder of xa by xb to xd. -/
  | remu (d : Reg) (a : Reg) (b : Reg)
  /-- SLL (R131): Shifts xa left by bits 5:0 of xb and writes the result to xd. -/
  | sll (d : Reg) (a : Reg) (b : Reg)
  /-- SRL (R131): Shifts xa right logically by bits 5:0 of xb and writes the result to xd. -/
  | srl (d : Reg) (a : Reg) (b : Reg)
  /-- SRA (R131): Shifts xa right arithmetically by bits 5:0 of xb and writes the result to xd. -/
  | sra (d : Reg) (a : Reg) (b : Reg)
  /-- ROL (R131): Rotates xa left by bits 5:0 of xb and writes the result to xd. -/
  | rol (d : Reg) (a : Reg) (b : Reg)
  /-- ROR (R131): Rotates xa right by bits 5:0 of xb and writes the result to xd. -/
  | ror (d : Reg) (a : Reg) (b : Reg)
  /-- CLZ (R131): Writes the number of leading zero bits of xa to xd. -/
  | clz (d : Reg) (a : Reg)
  /-- CTZ (R131): Writes the number of trailing zero bits of xa to xd. -/
  | ctz (d : Reg) (a : Reg)
  /-- POPC (R131): Writes the number of one bits of xa to xd. -/
  | popc (d : Reg) (a : Reg)
  /-- BSWAP (R131): Writes the bytes of xa in reverse order to xd. -/
  | bswap (d : Reg) (a : Reg)
  /-- BREV (R131): Writes the bits of xa in reverse order to xd. -/
  | brev (d : Reg) (a : Reg)
  /-- EXTU (R131): Extracts the bit field of xa that xb describes and writes it to xd, zero-extended. -/
  | extu (d : Reg) (a : Reg) (b : Reg)
  /-- EXTS (R131): Extracts the bit field of xa that xb describes and writes it to xd, sign-extended. -/
  | exts (d : Reg) (a : Reg) (b : Reg)
  /-- INS (R131): Replaces the bit field of xd that xb describes with the low bits of xa. -/
  | ins (d : Reg) (a : Reg) (b : Reg)
  /-- SEQ (R132): Writes 1 to xd if xa equals xb, else 0. -/
  | seq (d : Reg) (a : Reg) (b : Reg)
  /-- SNE (R132): Writes 1 to xd if xa differs from xb, else 0. -/
  | sne (d : Reg) (a : Reg) (b : Reg)
  /-- SLT (R132): Writes 1 to xd if xa is less than xb as signed values, else 0. -/
  | slt (d : Reg) (a : Reg) (b : Reg)
  /-- SLTU (R132): Writes 1 to xd if xa is less than xb as unsigned values, else 0. -/
  | sltu (d : Reg) (a : Reg) (b : Reg)
  /-- SGE (R132): Writes 1 to xd if xa is at least xb as signed values, else 0. -/
  | sge (d : Reg) (a : Reg) (b : Reg)
  /-- SGEU (R132): Writes 1 to xd if xa is at least xb as unsigned values, else 0. -/
  | sgeu (d : Reg) (a : Reg) (b : Reg)
  /-- CMOVZ (R132): Copies xa to xd if xb is zero; otherwise xd is unchanged. -/
  | cmovz (d : Reg) (a : Reg) (b : Reg)
  /-- CMOVNZ (R132): Copies xa to xd if xb is non-zero; otherwise xd is unchanged. -/
  | cmovnz (d : Reg) (a : Reg) (b : Reg)
  /-- FADD (R135): Writes the FP32 sum of xa and xb, rounded under RM, to xd. -/
  | fadd (d : Reg) (a : Reg) (b : Reg)
  /-- FSUB (R135): Writes the FP32 difference of xa and xb, rounded under RM, to xd. -/
  | fsub (d : Reg) (a : Reg) (b : Reg)
  /-- FMUL (R135): Writes the FP32 product of xa and xb, rounded under RM, to xd. -/
  | fmul (d : Reg) (a : Reg) (b : Reg)
  /-- FDIV (R135): Writes the FP32 quotient of xa by xb, rounded under RM, to xd. -/
  | fdiv (d : Reg) (a : Reg) (b : Reg)
  /-- FSQRT (R135): Writes the FP32 square root of xa, rounded under RM, to xd. -/
  | fsqrt (d : Reg) (a : Reg)
  /-- FMADD (R135): Writes xa × xb + xd in FP32, rounded once, to xd. -/
  | fmadd (d : Reg) (a : Reg) (b : Reg)
  /-- FMIN (R135): Writes the smaller of two FP32 values to xd, with −0 below +0 and a NaN operand ignored. -/
  | fmin (d : Reg) (a : Reg) (b : Reg)
  /-- FMAX (R135): Writes the larger of two FP32 values to xd, on the same terms as FMIN. -/
  | fmax (d : Reg) (a : Reg) (b : Reg)
  /-- FABS (R135): Writes xa with bit 31 cleared to xd. -/
  | fabs (d : Reg) (a : Reg)
  /-- FNEG (R135): Writes xa with bit 31 inverted to xd. -/
  | fneg (d : Reg) (a : Reg)
  /-- FEQ (R135): Writes 1 to xd if the two FP32 values are equal, else 0; a NaN gives 0 with no flag. -/
  | feq (d : Reg) (a : Reg) (b : Reg)
  /-- FLT (R135): Writes 1 to xd if xa is less than xb in FP32; a NaN gives 0 and sets Invalid. -/
  | flt (d : Reg) (a : Reg) (b : Reg)
  /-- FLE (R135): Writes 1 to xd if xa is at most xb in FP32; a NaN gives 0 and sets Invalid. -/
  | fle (d : Reg) (a : Reg) (b : Reg)
  /-- FCLASS (R135): Writes a one-hot class code of the FP32 value in xa to xd. -/
  | fclass (d : Reg) (a : Reg)
  /-- FTOI (R135): Converts the FP32 value in xa to a signed 64-bit integer under RM. -/
  | ftoi (d : Reg) (a : Reg)
  /-- FTOU (R135): Converts the FP32 value in xa to an unsigned 64-bit integer under RM. -/
  | ftou (d : Reg) (a : Reg)
  /-- ITOF (R135): Rounds the signed integer in xa to FP32 and writes it to xd. -/
  | itof (d : Reg) (a : Reg)
  /-- UTOF (R135): Rounds the unsigned integer in xa to FP32 and writes it to xd. -/
  | utof (d : Reg) (a : Reg)
  /-- ADDI (R133): Adds the sign-extended 12-bit immediate to xa and writes the result to xd. -/
  | addi (d : Reg) (a : Reg) (i : BitVec 12)
  /-- ANDI (R133): ANDs xa with the sign-extended immediate and writes the result to xd. -/
  | andi (d : Reg) (a : Reg) (i : BitVec 12)
  /-- ORI (R133): ORs xa with the zero-extended immediate and writes the result to xd. -/
  | ori (d : Reg) (a : Reg) (i : BitVec 12)
  /-- XORI (R133): XORs xa with the zero-extended immediate and writes the result to xd. -/
  | xori (d : Reg) (a : Reg) (i : BitVec 12)
  /-- SLLI (R133): Shifts xa left by the immediate and writes the result to xd. -/
  | slli (d : Reg) (a : Reg) (i : BitVec 6)
  /-- SRLI (R133): Shifts xa right logically by the immediate and writes the result to xd. -/
  | srli (d : Reg) (a : Reg) (i : BitVec 6)
  /-- SRAI (R133): Shifts xa right arithmetically by the immediate and writes the result to xd. -/
  | srai (d : Reg) (a : Reg) (i : BitVec 6)
  /-- RORI (R133): Rotates xa right by the immediate and writes the result to xd. -/
  | rori (d : Reg) (a : Reg) (i : BitVec 6)
  /-- SEQI (R133): Writes 1 to xd if xa equals the sign-extended immediate, else 0. -/
  | seqi (d : Reg) (a : Reg) (i : BitVec 12)
  /-- SNEI (R133): Writes 1 to xd if xa differs from the sign-extended immediate, else 0. -/
  | snei (d : Reg) (a : Reg) (i : BitVec 12)
  /-- SLTI (R133): Writes 1 to xd if xa is less than the immediate as signed values, else 0. -/
  | slti (d : Reg) (a : Reg) (i : BitVec 12)
  /-- SLTUI (R133): Writes 1 to xd if xa is less than the sign-extended immediate as unsigned values, else 0. -/
  | sltui (d : Reg) (a : Reg) (i : BitVec 12)
  /-- ADDIW (R133): Adds the immediate to xa at 32 bits and writes the sign-extended result to xd. -/
  | addiw (d : Reg) (a : Reg) (i : BitVec 12)
  /-- LI (R133): Writes the sign-extended 12-bit immediate to xd. -/
  | li (d : Reg) (i : BitVec 12)
  /-- SHORI (R133): Writes (xa << 12) + the immediate to xd. -/
  | shori (d : Reg) (a : Reg) (i : BitVec 12)
  /-- RDSR (R113): Reads a special register into xd. -/
  | rdsr (d : Reg) (sr : BitVec 12)
  /-- WRSR (R113): Writes xa to a writable special register, after checking its reserved bits and the rounding code. -/
  | wrsr (a : Reg) (sr : BitVec 12)
  /-- SETSR (R113): ORs xa into a writable special register. -/
  | setsr (a : Reg) (sr : BitVec 12)
  /-- CLRSR (R113): Clears the bits of xa in a writable special register. -/
  | clrsr (a : Reg) (sr : BitVec 12)
  /-- LIT (R134): Loads the 64-bit literal entry idx, as patched at load, into xd. -/
  | lit (d : Reg) (idx : BitVec 14)
  /-- LIT_W (R134): Loads the low 32 bits of literal entry idx, sign-extended, into xd. -/
  | litW (d : Reg) (idx : BitVec 14)
  /-- BEQZ (R136): Branches to PC + 4 × off if xc is zero. -/
  | beqz (c : Reg) (off : BitVec 19)
  /-- BNEZ (R136): Branches if xc is non-zero. -/
  | bnez (c : Reg) (off : BitVec 19)
  /-- BLTZ (R136): Branches if xc is negative. -/
  | bltz (c : Reg) (off : BitVec 19)
  /-- BGEZ (R136): Branches if xc is not negative. -/
  | bgez (c : Reg) (off : BitVec 19)
  /-- BGTZ (R136): Branches if xc is positive. -/
  | bgtz (c : Reg) (off : BitVec 19)
  /-- BLEZ (R136): Branches if xc is not positive. -/
  | blez (c : Reg) (off : BitVec 19)
  /-- CALL (R136): Writes PC + 4 to xc and jumps to the target. -/
  | call (c : Reg) (off : BitVec 19)
  /-- JMP (R136): Jumps to PC + 4 × off. -/
  | jmp (off : BitVec 19)
  /-- JR (R137): Jumps to the address in xa (assembled as RET as well). -/
  | jr (a : Reg)
  /-- JALR (R137): Jumps to the address in xa and writes PC + 4 to xd. -/
  | jalr (d : Reg) (a : Reg)
  /-- YIELD (R137): Offers a handler point and otherwise has no effect. -/
  | yield
  /-- TRAP (R138): Raises the precise Software Trap with code n. -/
  | trap (n : Fin 32)
  /-- ECALL (R138): Raises the precise Environment Call with service number n. -/
  | ecall (n : Fin 32)
  /-- TS_READ (R139): Writes the global timestamp Now() to xd. -/
  | tsRead (d : Reg)
  /-- LOOP (R141): Pushes a hardware loop level with the count from xa, or skips the body when the count is zero. -/
  | loop (a : Reg) (i : BitVec 12)
  /-- LOOP_I (R141): Pushes a hardware loop level with the immediate count n. -/
  | loopI (n : Fin 32) (i : BitVec 12)
  /-- LD_B (R143): Loads a byte, sign-extended, into xd. -/
  | ldB (d : Reg) (a : Reg) (off : BitVec 11)
  /-- LD_BU (R143): Loads a byte, zero-extended, into xd. -/
  | ldBu (d : Reg) (a : Reg) (off : BitVec 11)
  /-- LD_H (R143): Loads a halfword, sign-extended, into xd. -/
  | ldH (d : Reg) (a : Reg) (off : BitVec 11)
  /-- LD_HU (R143): Loads a halfword, zero-extended, into xd. -/
  | ldHu (d : Reg) (a : Reg) (off : BitVec 11)
  /-- LD_W (R143): Loads a word, sign-extended, into xd. -/
  | ldW (d : Reg) (a : Reg) (off : BitVec 11)
  /-- LD_WU (R143): Loads a word, zero-extended, into xd. -/
  | ldWu (d : Reg) (a : Reg) (off : BitVec 11)
  /-- LD (R143): Loads 8 bytes into xd. -/
  | ld (d : Reg) (a : Reg) (off : BitVec 11)
  /-- ST_B (R143): Stores the low byte of xd. -/
  | stB (d : Reg) (a : Reg) (off : BitVec 11)
  /-- ST_H (R143): Stores the low halfword of xd. -/
  | stH (d : Reg) (a : Reg) (off : BitVec 11)
  /-- ST_W (R143): Stores the low word of xd. -/
  | stW (d : Reg) (a : Reg) (off : BitVec 11)
  /-- ST (R143): Stores the 8 bytes of xd. -/
  | st (d : Reg) (a : Reg) (off : BitVec 11)
  /-- LD_ACQ (R146): Loads from X[a] as an acquire at the named level; no later access is accepted until its data arrives. -/
  | ldAcq (d : Reg) (a : Reg) (lvl : Level) (sz : SizeCode)
  /-- ST_REL (R146): Stores to X[a] as a release at the named level, accepted only once earlier accesses are performed. -/
  | stRel (d : Reg) (a : Reg) (lvl : Level) (sz : SizeCode)
  /-- FENCE (R147): Acts as a release and an acquire at the named level and enters the fence order. -/
  | fence (lvl : Level)
  /-- AMO_ADD (R148): Atomically adds operand a to the word at X[a] and returns the old word. -/
  | amoAdd (d : Reg) (a : Reg) (w64 : Bool) (ord : AmoOrder) (lvl : Level)
  /-- AMO_AND (R148): Atomically ANDs operand a into the word and returns the old word. -/
  | amoAnd (d : Reg) (a : Reg) (w64 : Bool) (ord : AmoOrder) (lvl : Level)
  /-- AMO_OR (R148): Atomically ORs operand a into the word and returns the old word. -/
  | amoOr (d : Reg) (a : Reg) (w64 : Bool) (ord : AmoOrder) (lvl : Level)
  /-- AMO_XOR (R148): Atomically XORs operand a into the word and returns the old word. -/
  | amoXor (d : Reg) (a : Reg) (w64 : Bool) (ord : AmoOrder) (lvl : Level)
  /-- AMO_SWAP (R148): Atomically replaces the word with operand a and returns the old word. -/
  | amoSwap (d : Reg) (a : Reg) (w64 : Bool) (ord : AmoOrder) (lvl : Level)
  /-- AMO_CAS (R148): Atomically writes operand b if the word equals operand a and returns the old word. -/
  | amoCas (d : Reg) (a : Reg) (w64 : Bool) (ord : AmoOrder) (lvl : Level)
  /-- AMO_MINS (R148): Atomically keeps the signed minimum of the word and operand a. -/
  | amoMins (d : Reg) (a : Reg) (w64 : Bool) (ord : AmoOrder) (lvl : Level)
  /-- AMO_MINU (R148): Atomically keeps the unsigned minimum of the word and operand a. -/
  | amoMinu (d : Reg) (a : Reg) (w64 : Bool) (ord : AmoOrder) (lvl : Level)
  /-- AMO_MAXS (R148): Atomically keeps the signed maximum of the word and operand a. -/
  | amoMaxs (d : Reg) (a : Reg) (w64 : Bool) (ord : AmoOrder) (lvl : Level)
  /-- AMO_MAXU (R148): Atomically keeps the unsigned maximum of the word and operand a. -/
  | amoMaxu (d : Reg) (a : Reg) (w64 : Bool) (ord : AmoOrder) (lvl : Level)
  /-- AMO_FADD32 (R148): Atomically adds operand a to a 4-byte FP32 word with round to nearest even. -/
  | amoFadd32 (d : Reg) (a : Reg) (ord : AmoOrder) (lvl : Level)
  /-- AMO_HIST (R148): Atomically adds operand b to the histogram bin that operand a selects and returns its old value. -/
  | amoHist (d : Reg) (a : Reg) (ord : AmoOrder) (lvl : Level)
  /-- AMO_DECZ (R148): Atomically decrements the word unless it is zero. -/
  | amoDecz (d : Reg) (a : Reg) (w64 : Bool) (ord : AmoOrder) (lvl : Level)
  /-- AMO_TAKE (R103): Atomically takes a ring slot from the FREE/NEXT word, or returns all ones when none is free. -/
  | amoTake (d : Reg) (a : Reg) (ord : AmoOrder) (lvl : Level)
  /-- AMO_RETURN (R103): Atomically adds operand a to FREE with saturation. -/
  | amoReturn (d : Reg) (a : Reg) (ord : AmoOrder) (lvl : Level)
  /-- ATOM_INV (R148): Runs registered atomic function 16–63 on the word at X[a]. -/
  | atomInv (d : Reg) (a : Reg) (id : Fin 64) (ord : AmoOrder) (lvl : Level)
  /-- VFADD (R159): Adds lanes in FP32. -/
  | vfadd (d : Reg) (a : Reg) (b : Reg) (m : VMask)
  /-- VFSUB (R159): Subtracts lanes in FP32. -/
  | vfsub (d : Reg) (a : Reg) (b : Reg) (m : VMask)
  /-- VFMUL (R159): Multiplies lanes in FP32. -/
  | vfmul (d : Reg) (a : Reg) (b : Reg) (m : VMask)
  /-- VFDIV (R159): Divides lanes in FP32. -/
  | vfdiv (d : Reg) (a : Reg) (b : Reg) (m : VMask)
  /-- VFSQRT (R159): Takes lane square roots in FP32. -/
  | vfsqrt (d : Reg) (a : Reg) (m : VMask)
  /-- VFMA (R159): Computes a × b + d per lane, rounded once. -/
  | vfma (d : Reg) (a : Reg) (b : Reg) (m : VMask)
  /-- VFNMA (R159): Computes d − a × b per lane, rounded once. -/
  | vfnma (d : Reg) (a : Reg) (b : Reg) (m : VMask)
  /-- VFMIN (R159): Takes the FP32 minimum of two lanes. -/
  | vfmin (d : Reg) (a : Reg) (b : Reg) (m : VMask)
  /-- VFMAX (R159): Takes the FP32 maximum of two lanes. -/
  | vfmax (d : Reg) (a : Reg) (b : Reg) (m : VMask)
  /-- VFABS (R159): Clears bit 31 of each lane. -/
  | vfabs (d : Reg) (a : Reg) (m : VMask)
  /-- VFNEG (R159): Inverts bit 31 of each lane. -/
  | vfneg (d : Reg) (a : Reg) (m : VMask)
  /-- VFSCALEB (R159): Multiplies each lane by a power of two given by vb, rounded once. -/
  | vfscaleb (d : Reg) (a : Reg) (b : Reg) (m : VMask)
  /-- VFMULS (R159): Multiplies each lane by the scalar FP32 in xb. -/
  | vfmuls (d : Reg) (a : Reg) (b : Reg) (m : VMask)
  /-- VFMAS (R159): Computes a × s + d per lane with scalar s, rounded once. -/
  | vfmas (d : Reg) (a : Reg) (b : Reg) (m : VMask)
  /-- VFRCP (R160): Approximates 1/a per lane. -/
  | vfrcp (d : Reg) (a : Reg) (m : VMask)
  /-- VFRSQ (R160): Approximates 1/√a per lane. -/
  | vfrsq (d : Reg) (a : Reg) (m : VMask)
  /-- VFEXP2 (R160): Approximates 2^a per lane. -/
  | vfexp2 (d : Reg) (a : Reg) (m : VMask)
  /-- VFEXP (R160): Approximates e^a per lane. -/
  | vfexp (d : Reg) (a : Reg) (m : VMask)
  /-- VFLOG2 (R160): Approximates log2 a per lane. -/
  | vflog2 (d : Reg) (a : Reg) (m : VMask)
  /-- VFTANH (R160): Approximates tanh a per lane. -/
  | vftanh (d : Reg) (a : Reg) (m : VMask)
  /-- VFSIGM (R160): Approximates the logistic sigmoid per lane. -/
  | vfsigm (d : Reg) (a : Reg) (m : VMask)
  /-- VFSIN (R160): Approximates sin a per lane. -/
  | vfsin (d : Reg) (a : Reg) (m : VMask)
  /-- VFCOS (R160): Approximates cos a per lane. -/
  | vfcos (d : Reg) (a : Reg) (m : VMask)
  /-- VADD (R161): Adds 32-bit lanes. -/
  | vadd (d : Reg) (a : Reg) (b : Reg) (m : VMask)
  /-- VSUB (R161): Subtracts 32-bit lanes. -/
  | vsub (d : Reg) (a : Reg) (b : Reg) (m : VMask)
  /-- VMUL (R161): Multiplies 32-bit lanes, keeping the low bits. -/
  | vmul (d : Reg) (a : Reg) (b : Reg) (m : VMask)
  /-- VMULH (R161): Writes the high 32 bits of the signed lane products. -/
  | vmulh (d : Reg) (a : Reg) (b : Reg) (m : VMask)
  /-- VMULHU (R161): Writes the high 32 bits of the unsigned lane products. -/
  | vmulhu (d : Reg) (a : Reg) (b : Reg) (m : VMask)
  /-- VADDS (R161): Adds signed lanes with saturation. -/
  | vadds (d : Reg) (a : Reg) (b : Reg) (m : VMask)
  /-- VSUBS (R161): Subtracts signed lanes with saturation. -/
  | vsubs (d : Reg) (a : Reg) (b : Reg) (m : VMask)
  /-- VADDUS (R161): Adds unsigned lanes with saturation. -/
  | vaddus (d : Reg) (a : Reg) (b : Reg) (m : VMask)
  /-- VSUBUS (R161): Subtracts unsigned lanes with saturation. -/
  | vsubus (d : Reg) (a : Reg) (b : Reg) (m : VMask)
  /-- VMIN (R161): Takes the signed minimum of two lanes. -/
  | vmin (d : Reg) (a : Reg) (b : Reg) (m : VMask)
  /-- VMAX (R161): Takes the signed maximum of two lanes. -/
  | vmax (d : Reg) (a : Reg) (b : Reg) (m : VMask)
  /-- VMINU (R161): Takes the unsigned minimum of two lanes. -/
  | vminu (d : Reg) (a : Reg) (b : Reg) (m : VMask)
  /-- VMAXU (R161): Takes the unsigned maximum of two lanes. -/
  | vmaxu (d : Reg) (a : Reg) (b : Reg) (m : VMask)
  /-- VABS (R161): Takes the saturated absolute value of each lane. -/
  | vabs (d : Reg) (a : Reg) (m : VMask)
  /-- VAND (R161): ANDs the lanes bitwise. -/
  | vand (d : Reg) (a : Reg) (b : Reg) (m : VMask)
  /-- VOR (R161): ORs the lanes bitwise. -/
  | vor (d : Reg) (a : Reg) (b : Reg) (m : VMask)
  /-- VXOR (R161): XORs the lanes bitwise. -/
  | vxor (d : Reg) (a : Reg) (b : Reg) (m : VMask)
  /-- VANDN (R161): Computes a AND NOT b per lane. -/
  | vandn (d : Reg) (a : Reg) (b : Reg) (m : VMask)
  /-- VNOT (R161): Inverts every bit of each lane. -/
  | vnot (d : Reg) (a : Reg) (m : VMask)
  /-- VSLL (R161): Shifts lanes left. -/
  | vsll (d : Reg) (a : Reg) (b : Reg) (m : VMask)
  /-- VSRL (R161): Shifts lanes right logically. -/
  | vsrl (d : Reg) (a : Reg) (b : Reg) (m : VMask)
  /-- VSRA (R161): Shifts lanes right arithmetically. -/
  | vsra (d : Reg) (a : Reg) (b : Reg) (m : VMask)
  /-- VPOPC (R161): Counts the one bits of each lane. -/
  | vpopc (d : Reg) (a : Reg) (m : VMask)
  /-- VCLZ (R161): Counts the leading zero bits of each lane. -/
  | vclz (d : Reg) (a : Reg) (m : VMask)
  /-- VQMUL (R161): Computes a rounded, saturated Q31 product per lane. -/
  | vqmul (d : Reg) (a : Reg) (b : Reg) (m : VMask)
  /-- VSRAR (R161): Shifts lanes right arithmetically with rounding. -/
  | vsrar (d : Reg) (a : Reg) (b : Reg) (m : VMask)
  /-- VADDX (R161): Adds a scalar to each lane. -/
  | vaddx (d : Reg) (a : Reg) (b : Reg) (m : VMask)
  /-- VMULX (R161): Multiplies each lane by a scalar. -/
  | vmulx (d : Reg) (a : Reg) (b : Reg) (m : VMask)
  /-- VMACX (R161): Adds the product of each signed lane and a scalar into vd. -/
  | vmacx (d : Reg) (a : Reg) (b : Reg) (m : VMask)
  /-- VSRAX (R161): Shifts lanes right arithmetically by a scalar count. -/
  | vsrax (d : Reg) (a : Reg) (b : Reg) (m : VMask)
  /-- VFEQ (R162): Sets mask bits where the FP32 lanes are equal. -/
  | vfeq (d : MReg) (a : Reg) (b : Reg) (m : VMask)
  /-- VFLT (R162): Sets mask bits where a < b in FP32. -/
  | vflt (d : MReg) (a : Reg) (b : Reg) (m : VMask)
  /-- VFLE (R162): Sets mask bits where a ≤ b in FP32. -/
  | vfle (d : MReg) (a : Reg) (b : Reg) (m : VMask)
  /-- VFUN (R162): Sets mask bits where either lane is NaN. -/
  | vfun (d : MReg) (a : Reg) (b : Reg) (m : VMask)
  /-- VEQ (R162): Sets mask bits where the integer lanes are equal. -/
  | veq (d : MReg) (a : Reg) (b : Reg) (m : VMask)
  /-- VNE (R162): Sets mask bits where the integer lanes differ. -/
  | vne (d : MReg) (a : Reg) (b : Reg) (m : VMask)
  /-- VLT (R162): Sets mask bits where a < b as signed values. -/
  | vlt (d : MReg) (a : Reg) (b : Reg) (m : VMask)
  /-- VLE (R162): Sets mask bits where a ≤ b as signed values. -/
  | vle (d : MReg) (a : Reg) (b : Reg) (m : VMask)
  /-- VLTU (R162): Sets mask bits where a < b as unsigned values. -/
  | vltu (d : MReg) (a : Reg) (b : Reg) (m : VMask)
  /-- VLEU (R162): Sets mask bits where a ≤ b as unsigned values. -/
  | vleu (d : MReg) (a : Reg) (b : Reg) (m : VMask)
  /-- VEQX (R162): Sets mask bits where a lane equals a scalar. -/
  | veqx (d : MReg) (a : Reg) (b : Reg) (m : VMask)
  /-- VLTX (R162): Sets mask bits where a lane is below a scalar as signed values. -/
  | vltx (d : MReg) (a : Reg) (b : Reg) (m : VMask)
  /-- VGTX (R162): Sets mask bits where a lane is above a scalar as signed values. -/
  | vgtx (d : MReg) (a : Reg) (b : Reg) (m : VMask)
  /-- VSEL (R163): Selects each lane from va or vb by mask m. -/
  | vsel (d : Reg) (a : Reg) (b : Reg) (m : MReg)
  /-- MAND (R163): ANDs two mask registers. -/
  | mand (d : MReg) (a : MReg) (b : MReg)
  /-- MOR (R163): ORs two mask registers. -/
  | mor (d : MReg) (a : MReg) (b : MReg)
  /-- MXOR (R163): XORs two mask registers. -/
  | mxor (d : MReg) (a : MReg) (b : MReg)
  /-- MANDN (R163): Computes ma AND NOT mb. -/
  | mandn (d : MReg) (a : MReg) (b : MReg)
  /-- MNOT (R163): Inverts a mask register. -/
  | mnot (d : MReg) (a : MReg)
  /-- MPOPC (R163): Writes the number of set bits of a mask to xd. -/
  | mpopc (d : Reg) (a : MReg)
  /-- MFIRST (R163): Writes the index of the lowest set mask bit, or 64 if none is set, to xd. -/
  | mfirst (d : Reg) (a : MReg)
  /-- MMOV (R163): Copies xa into a mask register. -/
  | mmov (d : MReg) (a : Reg)
  /-- MRD (R163): Copies a mask register into xd. -/
  | mrd (d : Reg) (a : MReg)
  /-- VBCAST (R164): Broadcasts the low word of xa to every lane. -/
  | vbcast (d : Reg) (a : Reg) (m : VMask)
  /-- VSPLAT (R164): Copies lane s of va to every lane. -/
  | vsplat (d : Reg) (a : Reg) (b : Reg) (m : VMask)
  /-- VPERM (R164): Permutes the lanes of va by the indices in vb. -/
  | vperm (d : Reg) (a : Reg) (b : Reg) (m : VMask)
  /-- VPERM2 (R164): Permutes across two registers by 7-bit indices. -/
  | vperm2 (d : Reg) (a : Reg) (b : Reg) (m : VMask)
  /-- VROT (R164): Rotates the lanes by s. -/
  | vrot (d : Reg) (a : Reg) (b : Reg) (m : VMask)
  /-- VSLIDEUP (R164): Slides the lanes up by s, filling with zero. -/
  | vslideup (d : Reg) (a : Reg) (b : Reg) (m : VMask)
  /-- VSLIDEDN (R164): Slides the lanes down by s, filling with zero. -/
  | vslidedn (d : Reg) (a : Reg) (b : Reg) (m : VMask)
  /-- VZIP (R164): Interleaves the lower halves of va and vb. -/
  | vzip (d : Reg) (a : Reg) (b : Reg) (m : VMask)
  /-- VUNZIP (R164): De-interleaves the even lanes of va and vb. -/
  | vunzip (d : Reg) (a : Reg) (b : Reg) (m : VMask)
  /-- VCOMPRESS (R164): Packs the lanes selected by mask m into the low lanes and zeroes the rest. -/
  | vcompress (d : Reg) (a : Reg) (m : MReg)
  /-- VLANE (R164): Writes each lane's own index. -/
  | vlane (d : Reg) (m : VMask)
  /-- VMVX (R164): Moves lane s of va to xd. -/
  | vmvx (d : Reg) (a : Reg) (b : Reg)
  /-- VINS (R164): Inserts the low word of xa into lane s. -/
  | vins (d : Reg) (a : Reg) (b : Reg)
  /-- VREDADD (R165): Writes the exact signed sum of the active lanes to xd. -/
  | vredadd (d : Reg) (a : Reg) (m : VMask)
  /-- VREDADDU (R165): Writes the exact unsigned sum of the active lanes to xd. -/
  | vredaddu (d : Reg) (a : Reg) (m : VMask)
  /-- VREDMIN (R165): Writes the signed minimum of the active lanes to xd. -/
  | vredmin (d : Reg) (a : Reg) (m : VMask)
  /-- VREDMAX (R165): Writes the signed maximum of the active lanes to xd. -/
  | vredmax (d : Reg) (a : Reg) (m : VMask)
  /-- VREDMINU (R165): Writes the unsigned minimum of the active lanes to xd. -/
  | vredminu (d : Reg) (a : Reg) (m : VMask)
  /-- VREDMAXU (R165): Writes the unsigned maximum of the active lanes to xd. -/
  | vredmaxu (d : Reg) (a : Reg) (m : VMask)
  /-- VREDFADD (R166): Sums the active lanes in FP32 by a fixed tree. -/
  | vredfadd (d : Reg) (a : Reg) (m : VMask)
  /-- VREDFMIN (R165): Writes the FP32 minimum of the active lanes. -/
  | vredfmin (d : Reg) (a : Reg) (m : VMask)
  /-- VREDFMAX (R165): Writes the FP32 maximum of the active lanes. -/
  | vredfmax (d : Reg) (a : Reg) (m : VMask)
  /-- VSCANADD (R165): Writes an inclusive integer running sum over the active lanes. -/
  | vscanadd (d : Reg) (a : Reg) (m : VMask)
  /-- VSCANFADD (R166): Writes an inclusive FP32 running sum over the active lanes, in lane order. -/
  | vscanfadd (d : Reg) (a : Reg) (m : VMask)
  /-- VREDFADDX (R167): Writes the exact sum of the active lanes, rounded once, to xd. -/
  | vredfaddx (d : Reg) (a : Reg) (m : VMask)
  /-- VCVT (R169): Encodes each FP32 lane into a packed operand format under rc. -/
  | vcvt (d : Reg) (a : Reg) (fmt : FormatField) (m : VMask) (p : Fin 4) (rc : Rc)
  /-- VCVT_F32 (R169): Decodes packed elements exactly into FP32 lanes. -/
  | vcvtF32 (d : Reg) (a : Reg) (fmt : FormatField) (m : VMask) (p : Fin 4)
  /-- VFTOI (R169): Converts FP32 lanes to signed 32-bit integers. -/
  | vftoi (d : Reg) (a : Reg) (m : VMask) (rc : Rc)
  /-- VFTOU (R169): Converts FP32 lanes to unsigned 32-bit integers. -/
  | vftou (d : Reg) (a : Reg) (m : VMask) (rc : Rc)
  /-- VITOF (R169): Rounds signed lanes to FP32. -/
  | vitof (d : Reg) (a : Reg) (m : VMask) (rc : Rc)
  /-- VUTOF (R169): Rounds unsigned lanes to FP32. -/
  | vutof (d : Reg) (a : Reg) (m : VMask) (rc : Rc)
  /-- VCVT_MX (R170): Packs FP32 lanes into an E8M0-scaled format with the given scales. -/
  | vcvtMx (d : Reg) (a : Reg) (b : Reg) (m : VMask) (p : Fin 4) (rc : Rc)
  /-- VCVT_F32_MX (R170): Unpacks E8M0-scaled elements into FP32 lanes. -/
  | vcvtF32Mx (d : Reg) (a : Reg) (b : Reg) (m : VMask) (p : Fin 4) (rc : Rc)
  /-- VMXSC (R170): Computes the two block scales of the lanes and writes them to xd. -/
  | vmxsc (d : Reg) (a : Reg) (fmt : FormatField) (m : VMask)
  /-- VRAND (R171): Fills each active lane with a reproducible stochastic word. -/
  | vrand (d : Reg) (m : VMask)
  /-- VNARROW (R169): Saturates lanes into a packed integer format. -/
  | vnarrow (d : Reg) (a : Reg) (fmt : FormatField) (m : VMask) (p : Fin 4)
  /-- VWIDEN (R169): Extends packed integer elements into lanes. -/
  | vwiden (d : Reg) (a : Reg) (fmt : FormatField) (m : VMask) (p : Fin 4)
  /-- VLD (R172): Loads consecutive elements into a vector register. -/
  | vld (d : Reg) (a : Reg) (m : VMask) (es : Fin 4)
  /-- VST (R172): Stores consecutive elements from a vector register. -/
  | vst (d : Reg) (a : Reg) (m : VMask) (es : Fin 4)
  /-- VLDS (R172): Loads elements at a scalar stride. -/
  | vlds (d : Reg) (a : Reg) (b : Reg) (m : VMask) (es : Fin 4)
  /-- VSTS (R172): Stores elements at a scalar stride. -/
  | vsts (d : Reg) (a : Reg) (b : Reg) (m : VMask) (es : Fin 4)
  /-- VGATHER (R172): Loads elements at per-lane offsets into one tile's scratchpad. -/
  | vgather (d : Reg) (a : Reg) (b : Reg) (m : VMask) (es : Fin 4)
  /-- VSCATTER (R172): Stores elements at per-lane offsets in increasing lane order. -/
  | vscatter (d : Reg) (a : Reg) (b : Reg) (m : VMask) (es : Fin 4)
  /-- MMA (R188): Queues the exact product of the head A block and a B latch into an accumulator tile, then frees the head. -/
  | mma (acc : Acc) (qa : Fin 4) (bl : Fin 4)
  /-- MMA_KEEP (R188): As MMA, keeping the head A block. -/
  | mmaKeep (acc : Acc) (qa : Fin 4) (bl : Fin 4)
  /-- MMA_SEG (R188): As MMA, with the B latch chosen per row by tags in xb. -/
  | mmaSeg (acc : Acc) (qa : Fin 4) (b : Reg)
  /-- MMA_SEG_KEEP (R188): As MMA.SEG, keeping the head A block. -/
  | mmaSegKeep (acc : Acc) (qa : Fin 4) (b : Reg)
  /-- QA_LD (R189): Reserves a FIFO tail position and copies a 13,888-byte image into it. -/
  | qaLd (qa : Fin 4) (a : Reg)
  /-- BL_LD (R189): Copies a 13,888-byte image into a B latch. -/
  | blLd (bl : Fin 4) (a : Reg)
  /-- QA_POP (R189): Frees the head position of a FIFO once it is FULL. -/
  | qaPop (qa : Fin 4)
  /-- MX_WAIT (R194): Waits for every earlier matrix entry of the slot and retires them. -/
  | mxWait
  /-- ACC_CLR (R190): Clears an accumulator tile and sets its base exponent. -/
  | accClr (acc : Acc) (a : Reg)
  /-- ACC_REBASE (R190): Rebases an accumulator tile to a new base exponent. -/
  | accRebase (acc : Acc) (a : Reg)
  /-- ACC_ADD (R190): Adds one accumulator tile into another exactly. -/
  | accAdd (acc : Acc) (src : Acc)
  /-- ACC_LD (R191): Replaces an accumulator tile with an accumulator image from memory. -/
  | accLd (acc : Acc) (a : Reg)
  /-- ACC_ST (R191): Writes the image of an accumulator tile to memory. -/
  | accSt (acc : Acc) (a : Reg)
  /-- ACC_CVT (R192): Converts an accumulator tile with one rounding into an operand image or FP32 rows in memory. -/
  | accCvt (acc : Acc) (a : Reg) (b : Reg) (rc : Rc)
  /-- ACC_CVT_Q (R192): Converts an accumulator tile into a reserved FIFO position. -/
  | accCvtQ (acc : Acc) (qa : Fin 4) (b : Reg) (rc : Rc)
  /-- PREC_I (R193): Writes PREC from the immediate format fields. -/
  | precI (d : BitVec 5) (a : BitVec 5) (b : BitVec 4)
  /-- PREC_X (R193): Swaps PREC with xa, returning the old value in xd. -/
  | precX (d : Reg) (a : Reg)
  /-- CP (R204): Issues a byte copy to an address generator. -/
  | cp (d : Reg) (p : Reg) (k : KTag) (g : Fin 8)
  /-- CP_2D (R204): Issues a strided row copy to an address generator. -/
  | cp2d (d : Reg) (p : Reg) (k : KTag) (g : Fin 8)
  /-- CP_FILL (R204): Issues a fill with an 8-byte pattern. -/
  | cpFill (d : Reg) (p : Reg) (k : KTag) (g : Fin 8)
  /-- CP_GATHER (R205): Issues an indexed gather on a Fathom engine. -/
  | cpGather (d : Reg) (p : Reg) (k : KTag) (g : Fin 8)
  /-- CP_SCATTER (R205): Issues an indexed scatter on a Fathom engine. -/
  | cpScatter (d : Reg) (p : Reg) (k : KTag) (g : Fin 8)
  /-- CP_DECOMP (R206): Issues an MXFP4 unpack into operand images or tokens on a Fathom engine. -/
  | cpDecomp (d : Reg) (p : Reg) (k : KTag) (g : Fin 8)
  /-- FIFO_FEED (R207): Issues a fill of a FIFO with images from memory or from a channel. -/
  | fifoFeed (d : Reg) (p : Reg) (k : KTag) (g : Fin 8)
  /-- AG_PORT (R208): Binds a generator to a receiving endpoint whose tokens are copy requests. -/
  | agPort (d : Reg) (p : Reg) (k : KTag) (g : Fin 8)
  /-- SEND (R215): Sends a data tile as a token on a channel, waiting for allowance. -/
  | send (d : Reg) (ch : Fin 16) (b : Reg)
  /-- SEND_RAW (R215): Sends 64 bytes as a message token on a channel. -/
  | sendRaw (d : Reg) (ch : Fin 16) (b : Reg)
  /-- RECV (R216): Frees the held entry and waits for the next token on a channel. -/
  | recv (d : Reg) (ch : Fin 16)
  /-- TRYRECV (R216): As RECV, without waiting; returns EMPTY if nothing is at the head. -/
  | tryrecv (d : Reg) (ch : Fin 16)
  /-- ALT (R217): Waits on several channels and receives from the one whose head became complete earliest. -/
  | alt (d : Reg) (a : Reg)
  /-- CH_GRANT (R218): Returns allowance units to the sender of a MANUAL channel. -/
  | chGrant (d : Reg) (ch : Fin 16) (b : Reg)
  /-- CH_CLOSE (R218): Queues END after every earlier token and releases at the channel's scope. -/
  | chClose (ch : Fin 16)
  /-- WAITLT (R221): Blocks while a counter is at or above the immediate threshold, then retires the counted operations. -/
  | waitlt (k : Fin 16) (n : Fin 32)
  /-- WAITLT_X (R221): As WAITLT, with the threshold taken from xb. -/
  | waitltX (k : Fin 16) (b : Reg)
  /-- K_RD (R222): Reads a completion counter into xd. -/
  | kRd (d : Reg) (k : Fin 16)
  /-- K_ADD (R222): Adds xb to a completion counter with saturation. -/
  | kAdd (k : Fin 16) (b : Reg)
  /-- MSG_SEND (R224): Sends 64 bytes to a tile's inbox and returns the queued or refused reply. -/
  | msgSend (d : Reg) (a : Reg) (b : Reg)
  /-- MSG_END (R225): Dequeues the message in hand and acquires for the tile. -/
  | msgEnd
  /-- SPAWN (R230): Sends a request that creates one task from a spawn block. -/
  | spawn (d : Reg) (a : Reg)
  /-- SPAWN_TREE (R232): Starts the issuer's kernel on every reserved slot of its gang along a spanning tree. -/
  | spawnTree (d : Reg) (a : Reg) (b : Reg)
  /-- DEC (R233): Decrements the counter of the task named by a handle. -/
  | dec (d : Reg) (a : Reg)
  /-- TASK_INS (R236): Writes the task's INSTAT to xd. -/
  | taskIns (d : Reg)
  /-- SCOPE_OPEN (R237): Opens a child scope and replies with its handle. -/
  | scopeOpen (d : Reg) (a : Reg)
  /-- SCOPE_ID (R237): Replies with the handle of the own scope or of a template scope. -/
  | scopeId (d : Reg) (a : Reg)
  /-- CANCEL (R238): Cancels a scope with an optional acknowledgement record and counter. -/
  | cancel (d : Reg) (a : Reg) (b : Reg) (k : CTag)
  /-- CANCEL_WAIT (R239): Blocks until a scope is CLOSED or CANCELLED and returns its outcome. -/
  | cancelWait (d : Reg) (a : Reg)
  /-- KILL_HOLD (R240): Opens a kill-hold region of 4,096 cycles. -/
  | killHold
  /-- KILL_OPEN (R240): Closes the open region, or reports and clears an expiry mark. -/
  | killOpen (d : Reg)
  /-- BAR_JOIN (R247): Records a barrier membership and returns the phase. -/
  | barJoin (d : Reg) (a : Reg)
  /-- BAR_ARRIVE (R247): Arrives at a barrier as a release. -/
  | barArrive (d : Reg) (a : Reg)
  /-- BAR_WAIT (R247): Blocks until the barrier's phase differs from xb, then acquires. -/
  | barWait (d : Reg) (a : Reg) (b : Reg)
  /-- BAR_LEAVE (R247): Arrives if needed, departs and removes the membership. -/
  | barLeave (d : Reg) (a : Reg)
  /-- GANG_SYNC (R249): Blocks until every gang member has reached this generation, with release and acquire at GANG. -/
  | gangSync (d : Reg)
  /-- END (R235): Ends the task with a status and waits until all its effects have completed. -/
  | endTask (a : Reg)
  /-- SEL_CFG (R250): Writes the select configuration and empties the tournament state. -/
  | selCfg (a : Reg)
  /-- SEL_MASK (R250): Loads the 1,024-bit dead mask from scratchpad. -/
  | selMask (a : Reg)
  /-- SEL_DEAD (R250): Sets or clears one bit of the dead mask. -/
  | selDead (a : Reg) (b : Reg)
  /-- TOPK (R251): Starts a tournament and ranks the k best eligible experts. -/
  | topk (d : Reg) (a : Reg) (b : Reg) (k : Fin 16)
  /-- TOPK_MORE (R251): Continues the current tournament for k more winners. -/
  | topkMore (d : Reg) (a : Reg) (b : Reg) (k : Fin 16)
  /-- SEL_RES (R253): Reads a word of a residency entry, optionally invalidating the entry. -/
  | selRes (d : Reg) (a : Reg)
  /-- SEL_WAIT (R252): Waits for earlier select entries and retires them. -/
  | selWait
  /-- CSRRD (R269): Reads a system or special register into xd. -/
  | csrrd (d : Reg) (csr : BitVec 12)
  /-- CSRRW (R269): Reads a register into xd and writes xa to it. -/
  | csrrw (d : Reg) (a : Reg) (csr : BitVec 12)
  /-- CSRRS (R269): Reads a register into xd and sets the bits of xa in it. -/
  | csrrs (d : Reg) (a : Reg) (csr : BitVec 12)
  /-- CSRRC (R269): Reads a register into xd and clears the bits of xa in it. -/
  | csrrc (d : Reg) (a : Reg) (csr : BitVec 12)
  /-- TRET (R276): Leaves the trap bank and resumes at EPC. -/
  | tret
  /-- IDLE (R281): Blocks an inbox owner until the next MSG.END. -/
  | idle
  /-- TLB_INV (R281): Drops translations in the chosen scope and waits for every TLB and home. -/
  | tlbInv (a : Reg) (b : Reg)
  /-- GUARD_WR (R362): Writes an inbound permit on every module of the partition. -/
  | guardWr (d : Reg) (a : Reg) (b : Reg)
  /-- FRAME_WR (R281): Sets the lend state of a time slot from the next frame start. -/
  | frameWr (d : Reg) (a : Reg) (b : Reg)
  /-- SLOT_SAVE (R281): Pre-empts a task and holds it, replying with its image address. -/
  | slotSave (d : Reg) (a : Reg)
  /-- SLOT_RESTORE (R281): Checks a held task's image and posts it for resumption. -/
  | slotRestore (d : Reg) (a : Reg) (b : Reg)
  deriving DecidableEq, Repr

end Sys2Proof
end

