-- ==== Sys2Proof/WellFormed.lean ====
section
/-! DEFINITION. The checks of spec/05 R110 step 1 that the operand types of `Instr` do not already make:
operand values and modifier codes that raise Illegal Instruction whatever the state. -/

namespace Sys2Proof

/-- The numbers of spec/05 Table 5.4. -/
def SpecialReg.assigned (n : BitVec 12) : Bool :=
  decide (n.toNat ≤ 5) || decide (0x10 ≤ n.toNat ∧ n.toNat ≤ 0x15)

/-- A load's size code: 7 is reserved (spec/06 Table 6.11). -/
def SizeCode.isLoad (s : SizeCode) : Bool := s != 7

/-- A store's size code: the odd codes and 7 are reserved (spec/06 Table 6.11). -/
def SizeCode.isStore (s : SizeCode) : Bool := s.val % 2 == 0

/-- With ORD = 0b00, lvl is reserved (spec/06 R148). -/
def levelUsed (ord : AmoOrder) (lvl : Level) : Bool := decide (ord ≠ .none) || lvl == 0

/-- The length in bytes of a packed run of 64 elements of a format code (spec/07 Table 7.9); CB4 has none. -/
def packedRunLength (code : Nat) : Option Nat :=
  match code with
  | 0 => some 8
  | 1 => some 16
  | 2 => some 32
  | 3 => some 32
  | 4 => some 64
  | 5 => some 64
  | 6 => some 96
  | 7 => some 128
  | 8 => some 32
  | 9 => some 64
  | 10 => some 64
  | 11 => some 64
  | 12 => some 64
  | 13 => some 128
  | 14 => some 128
  | _ => none

/-- The part P of a packed operand lies inside the register (spec/07 R168): (P + 1) × L ≤ 256. -/
def partFits (fmt : FormatField) (p : Fin 4) : Bool :=
  match packedRunLength (fmt.val % 16) with
  | some l => decide ((p.val + 1) * l ≤ 256)
  | none => true

/-- Well-formed instructions: the words that pass spec/05 R110 step 1. Events have no word and no such check. -/
def Instr.wf : Instr → Bool
  | .tlogheadRead _ => true
  | .atomfnHighWrite _ _ _ => true
  | .atomfnLowWrite _ _ _ => true
  | .scalarResult _ => true
  | .waitComplete _ => true
  | .replyArrival _ _ _ => true
  | .loadPerform _ => true
  | .storePerform _ => true
  | .atomicExecute _ => true
  | .barrierRequest _ => true
  | .spawnRequest _ => true
  | .scopeRequest _ => true
  | .cancelRequest _ => true
  | .cancelBroadcast _ _ => true
  | .kill _ => true
  | .killHoldExpiry _ => true
  | .endCommit _ => true
  | .decrementMessage _ => true
  | .succFailureNotice _ => true
  | .scopeClose _ => true
  | .ackDelivery _ => true
  | .completionRecord _ => true
  | .commandStore _ _ _ => true
  | .qcfgWrite _ _ _ => true
  | .registerWrite _ _ _ => true
  | .nopCommand _ => true
  | .loadImage _ _ _ => true
  | .unloadImage _ => true
  | .runGraph _ _ _ => true
  | .cancelCommand _ => true
  | .adapterPrefetch _ => true
  | .dispatchSelect _ _ => true
  | .place _ _ => true
  | .prefetchReadIssue _ _ _ => true
  | .taskRunnable _ _ => true
  | .taskStart _ _ => true
  | .spawnTreeDelivery _ => true
  | .preemptTrigger _ _ => true
  | .saveBegin _ => true
  | .saveComplete _ => true
  | .preemptAbandon _ => true
  | .resume _ _ => true
  | .slotTrap _ _ _ => true
  | .deferredTrap _ => true
  | .handlerEntry _ => true
  | .messageArrival _ _ _ => true
  | .tokenArrival _ _ _ => true
  | .allowanceReturn _ _ _ => true
  | .channelBrokenNotice _ _ => true
  | .laneGroupWithdraw _ _ => true
  | .residencyRecord _ _ _ _ _ => true
  | .engineSegment _ _ _ _ => true
  | .engineComplete _ _ => true
  | .agPortRequest _ _ => true
  | .vectorEntryBegin _ => true
  | .vectorEntryComplete _ => true
  | .vectorLoadData _ _ _ => true
  | .matrixEntryBind _ => true
  | .matrixEntryComplete _ => true
  | .selectEntryBind _ => true
  | .selectEntryComplete _ => true
  | .gangCycleResume _ => true
  | .ualinkIngress _ _ => true
  | .parkedRetry _ _ => true
  | .acceptNotice _ _ _ _ => true
  | .routerTrim _ _ _ => true
  | .trimmedHeadArrival _ _ _ => true
  | .resendRequest _ _ _ => true
  | .walkComplete _ => true
  | .tlbFill _ _ => true
  | .tlbInvalidation _ _ => true
  | .frameStart => true
  | .deadlockSnapshot _ => true
  | .snapshotExchange _ => true
  | .timestampSync _ _ => true
  | .linkDelayEcho _ _ => true
  | .patrolScrub _ _ => true
  | .correctedError _ => true
  | .uncorrectableError _ => true
  | .linkRetrain _ _ => true
  | .dieLost _ => true
  | .hostMemRead _ _ => true
  | .hostMemWrite _ _ => true
  | .backInvalidateResponse _ _ _ => true
  | .hostErrorCompletion _ => true
  | .hostCompletionTimeout _ => true
  | .foreignUalinkRequest _ => true
  | .coldReset => true
  | .warmReset => true
  | .railsDone => true
  | .selftestDone _ => true
  | .draminitDone _ => true
  | .identityDone => true
  | .linksDone _ => true
  | .governorSample _ _ => true
  | .telemetryRefresh _ _ => true
  | .thermalLimit _ _ _ => true
  | .thermalTrip _ => true
  | .queueBlob _ => true
  | .regRd _ => true
  | .plSet _ => true
  | .logRd _ _ _ => true
  | .cntRd _ _ => true
  | .resetCommand => true
  | .ownerBlob => true
  | .moduleBlob => true
  | .partitionBlob => true
  | .memkeyBlob => true
  | .linkkeyBlob => true
  | .keySwitch _ => true
  | .powerBlob => true
  | .getVersion _ => true
  | .getCapabilities _ => true
  | .negotiateAlgorithms _ => true
  | .getDigests _ => true
  | .getCertificate _ => true
  | .challenge _ => true
  | .getMeasurements _ => true
  | .keyExchange _ => true
  | .finish _ => true
  | .endSession _ => true
  | .ideKm _ => true
  | .timeSlotStart _ _ => true
  | .rotationTurn _ _ => true
  | .configurationRequest _ => true
  | .add _ _ _ => true
  | .sub _ _ _ => true
  | .and _ _ _ => true
  | .or _ _ _ => true
  | .xor _ _ _ => true
  | .andn _ _ _ => true
  | .addw _ _ _ => true
  | .subw _ _ _ => true
  | .adds _ _ _ => true
  | .subs _ _ _ => true
  | .min _ _ _ => true
  | .max _ _ _ => true
  | .minu _ _ _ => true
  | .maxu _ _ _ => true
  | .abs _ _ => true
  | .mul _ _ _ => true
  | .mulh _ _ _ => true
  | .mulhu _ _ _ => true
  | .mulhsu _ _ _ => true
  | .mulw _ _ _ => true
  | .div _ _ _ => true
  | .divu _ _ _ => true
  | .rem _ _ _ => true
  | .remu _ _ _ => true
  | .sll _ _ _ => true
  | .srl _ _ _ => true
  | .sra _ _ _ => true
  | .rol _ _ _ => true
  | .ror _ _ _ => true
  | .clz _ _ => true
  | .ctz _ _ => true
  | .popc _ _ => true
  | .bswap _ _ => true
  | .brev _ _ => true
  | .extu _ _ _ => true
  | .exts _ _ _ => true
  | .ins _ _ _ => true
  | .seq _ _ _ => true
  | .sne _ _ _ => true
  | .slt _ _ _ => true
  | .sltu _ _ _ => true
  | .sge _ _ _ => true
  | .sgeu _ _ _ => true
  | .cmovz _ _ _ => true
  | .cmovnz _ _ _ => true
  | .fadd _ _ _ => true
  | .fsub _ _ _ => true
  | .fmul _ _ _ => true
  | .fdiv _ _ _ => true
  | .fsqrt _ _ => true
  | .fmadd _ _ _ => true
  | .fmin _ _ _ => true
  | .fmax _ _ _ => true
  | .fabs _ _ => true
  | .fneg _ _ => true
  | .feq _ _ _ => true
  | .flt _ _ _ => true
  | .fle _ _ _ => true
  | .fclass _ _ => true
  | .ftoi _ _ => true
  | .ftou _ _ => true
  | .itof _ _ => true
  | .utof _ _ => true
  | .addi _ _ _ => true
  | .andi _ _ _ => true
  | .ori _ _ _ => true
  | .xori _ _ _ => true
  | .slli _ _ _ => true
  | .srli _ _ _ => true
  | .srai _ _ _ => true
  | .rori _ _ _ => true
  | .seqi _ _ _ => true
  | .snei _ _ _ => true
  | .slti _ _ _ => true
  | .sltui _ _ _ => true
  | .addiw _ _ _ => true
  | .li _ _ => true
  | .shori _ _ _ => true
  | .rdsr _ sr => SpecialReg.assigned sr
  | .wrsr _ sr => SpecialReg.assigned sr
  | .setsr _ sr => SpecialReg.assigned sr
  | .clrsr _ sr => SpecialReg.assigned sr
  | .lit _ _ => true
  | .litW _ _ => true
  | .beqz _ _ => true
  | .bnez _ _ => true
  | .bltz _ _ => true
  | .bgez _ _ => true
  | .bgtz _ _ => true
  | .blez _ _ => true
  | .call _ _ => true
  | .jmp _ => true
  | .jr _ => true
  | .jalr _ _ => true
  | .yield => true
  | .trap _ => true
  | .ecall _ => true
  | .tsRead _ => true
  | .loop _ i => i != 0
  | .loopI _ i => i != 0
  | .ldB _ _ _ => true
  | .ldBu _ _ _ => true
  | .ldH _ _ _ => true
  | .ldHu _ _ _ => true
  | .ldW _ _ _ => true
  | .ldWu _ _ _ => true
  | .ld _ _ _ => true
  | .stB _ _ _ => true
  | .stH _ _ _ => true
  | .stW _ _ _ => true
  | .st _ _ _ => true
  | .ldAcq _ _ _ sz => sz.isLoad
  | .stRel _ _ _ sz => sz.isStore
  | .fence _ => true
  | .amoAdd _ _ _ ord lvl => levelUsed ord lvl
  | .amoAnd _ _ _ ord lvl => levelUsed ord lvl
  | .amoOr _ _ _ ord lvl => levelUsed ord lvl
  | .amoXor _ _ _ ord lvl => levelUsed ord lvl
  | .amoSwap _ _ _ ord lvl => levelUsed ord lvl
  | .amoCas d _ _ ord lvl => levelUsed ord lvl && d != 31
  | .amoMins _ _ _ ord lvl => levelUsed ord lvl
  | .amoMinu _ _ _ ord lvl => levelUsed ord lvl
  | .amoMaxs _ _ _ ord lvl => levelUsed ord lvl
  | .amoMaxu _ _ _ ord lvl => levelUsed ord lvl
  | .amoFadd32 _ _ ord lvl => levelUsed ord lvl
  | .amoHist d _ ord lvl => levelUsed ord lvl && d != 31
  | .amoDecz _ _ _ ord lvl => levelUsed ord lvl
  | .amoTake _ _ ord lvl => levelUsed ord lvl
  | .amoReturn _ _ ord lvl => levelUsed ord lvl
  | .atomInv d _ id ord lvl => levelUsed ord lvl && d != 31 && decide (16 ≤ id.val)
  | .vfadd _ _ _ _ => true
  | .vfsub _ _ _ _ => true
  | .vfmul _ _ _ _ => true
  | .vfdiv _ _ _ _ => true
  | .vfsqrt _ _ _ => true
  | .vfma _ _ _ _ => true
  | .vfnma _ _ _ _ => true
  | .vfmin _ _ _ _ => true
  | .vfmax _ _ _ _ => true
  | .vfabs _ _ _ => true
  | .vfneg _ _ _ => true
  | .vfscaleb _ _ _ _ => true
  | .vfmuls _ _ _ _ => true
  | .vfmas _ _ _ _ => true
  | .vfrcp _ _ _ => true
  | .vfrsq _ _ _ => true
  | .vfexp2 _ _ _ => true
  | .vfexp _ _ _ => true
  | .vflog2 _ _ _ => true
  | .vftanh _ _ _ => true
  | .vfsigm _ _ _ => true
  | .vfsin _ _ _ => true
  | .vfcos _ _ _ => true
  | .vadd _ _ _ _ => true
  | .vsub _ _ _ _ => true
  | .vmul _ _ _ _ => true
  | .vmulh _ _ _ _ => true
  | .vmulhu _ _ _ _ => true
  | .vadds _ _ _ _ => true
  | .vsubs _ _ _ _ => true
  | .vaddus _ _ _ _ => true
  | .vsubus _ _ _ _ => true
  | .vmin _ _ _ _ => true
  | .vmax _ _ _ _ => true
  | .vminu _ _ _ _ => true
  | .vmaxu _ _ _ _ => true
  | .vabs _ _ _ => true
  | .vand _ _ _ _ => true
  | .vor _ _ _ _ => true
  | .vxor _ _ _ _ => true
  | .vandn _ _ _ _ => true
  | .vnot _ _ _ => true
  | .vsll _ _ _ _ => true
  | .vsrl _ _ _ _ => true
  | .vsra _ _ _ _ => true
  | .vpopc _ _ _ => true
  | .vclz _ _ _ => true
  | .vqmul _ _ _ _ => true
  | .vsrar _ _ _ _ => true
  | .vaddx _ _ _ _ => true
  | .vmulx _ _ _ _ => true
  | .vmacx _ _ _ _ => true
  | .vsrax _ _ _ _ => true
  | .vfeq _ _ _ _ => true
  | .vflt _ _ _ _ => true
  | .vfle _ _ _ _ => true
  | .vfun _ _ _ _ => true
  | .veq _ _ _ _ => true
  | .vne _ _ _ _ => true
  | .vlt _ _ _ _ => true
  | .vle _ _ _ _ => true
  | .vltu _ _ _ _ => true
  | .vleu _ _ _ _ => true
  | .veqx _ _ _ _ => true
  | .vltx _ _ _ _ => true
  | .vgtx _ _ _ _ => true
  | .vsel _ _ _ _ => true
  | .mand _ _ _ => true
  | .mor _ _ _ => true
  | .mxor _ _ _ => true
  | .mandn _ _ _ => true
  | .mnot _ _ => true
  | .mpopc _ _ => true
  | .mfirst _ _ => true
  | .mmov _ _ => true
  | .mrd _ _ => true
  | .vbcast _ _ _ => true
  | .vsplat _ _ _ _ => true
  | .vperm _ _ _ _ => true
  | .vperm2 _ a _ _ => a != 31
  | .vrot _ _ _ _ => true
  | .vslideup _ _ _ _ => true
  | .vslidedn _ _ _ _ => true
  | .vzip _ _ _ _ => true
  | .vunzip _ _ _ _ => true
  | .vcompress _ _ _ => true
  | .vlane _ _ => true
  | .vmvx _ _ _ => true
  | .vins _ _ _ => true
  | .vredadd _ _ _ => true
  | .vredaddu _ _ _ => true
  | .vredmin _ _ _ => true
  | .vredmax _ _ _ => true
  | .vredminu _ _ _ => true
  | .vredmaxu _ _ _ => true
  | .vredfadd _ _ _ => true
  | .vredfmin _ _ _ => true
  | .vredfmax _ _ _ => true
  | .vscanadd _ _ _ => true
  | .vscanfadd _ _ _ => true
  | .vredfaddx _ _ _ => true
  | .vcvt _ _ fmt _ p _ => partFits fmt p
  | .vcvtF32 _ _ fmt _ p => partFits fmt p
  | .vftoi _ _ _ _ => true
  | .vftou _ _ _ _ => true
  | .vitof _ _ _ _ => true
  | .vutof _ _ _ _ => true
  | .vcvtMx _ _ _ _ _ _ => true
  | .vcvtF32Mx _ _ _ _ _ _ => true
  | .vmxsc _ _ _ _ => true
  | .vrand _ _ => true
  | .vnarrow _ _ fmt _ p => partFits fmt p
  | .vwiden _ _ fmt _ p => partFits fmt p
  | .vld _ _ _ _ => true
  | .vst _ _ _ es => es != 2
  | .vlds _ _ _ _ _ => true
  | .vsts _ _ _ _ es => es != 2
  | .vgather _ _ _ _ _ => true
  | .vscatter _ _ _ _ es => es != 2
  | .mma _ _ _ => true
  | .mmaKeep _ _ _ => true
  | .mmaSeg _ _ _ => true
  | .mmaSegKeep _ _ _ => true
  | .qaLd _ _ => true
  | .blLd _ _ => true
  | .qaPop _ => true
  | .mxWait => true
  | .accClr _ _ => true
  | .accRebase _ _ => true
  | .accAdd _ _ => true
  | .accLd _ _ => true
  | .accSt _ _ => true
  | .accCvt _ _ _ _ => true
  | .accCvtQ _ _ _ _ => true
  | .precI _ _ _ => true
  | .precX _ _ => true
  | .cp _ _ _ _ => true
  | .cp2d _ _ _ _ => true
  | .cpFill _ _ _ _ => true
  | .cpGather _ _ _ _ => true
  | .cpScatter _ _ _ _ => true
  | .cpDecomp _ _ _ _ => true
  | .fifoFeed _ _ _ _ => true
  | .agPort _ _ _ _ => true
  | .send _ _ _ => true
  | .sendRaw _ _ _ => true
  | .recv _ _ => true
  | .tryrecv _ _ => true
  | .alt _ _ => true
  | .chGrant _ _ _ => true
  | .chClose _ => true
  | .waitlt _ n => n != 0
  | .waitltX _ _ => true
  | .kRd _ _ => true
  | .kAdd _ _ => true
  | .msgSend _ _ _ => true
  | .msgEnd => true
  | .spawn _ _ => true
  | .spawnTree _ _ _ => true
  | .dec _ _ => true
  | .taskIns _ => true
  | .scopeOpen _ _ => true
  | .scopeId _ _ => true
  | .cancel _ _ _ _ => true
  | .cancelWait _ _ => true
  | .killHold => true
  | .killOpen _ => true
  | .barJoin _ _ => true
  | .barArrive _ _ => true
  | .barWait _ _ _ => true
  | .barLeave _ _ => true
  | .gangSync _ => true
  | .endTask _ => true
  | .selCfg _ => true
  | .selMask _ => true
  | .selDead _ _ => true
  | .topk _ _ _ _ => true
  | .topkMore _ _ _ _ => true
  | .selRes _ _ => true
  | .selWait => true
  | .csrrd _ _ => true
  | .csrrw _ _ _ => true
  | .csrrs _ _ _ => true
  | .csrrc _ _ _ => true
  | .tret => true
  | .idle => true
  | .tlbInv _ _ => true
  | .guardWr _ _ _ => true
  | .frameWr _ _ _ => true
  | .slotSave _ _ => true
  | .slotRestore _ _ _ => true

end Sys2Proof
end

