-- ==== Sys2Proof/Decode.lean ====
section
/-! DEFINITION. Decoding a 32-bit word into an instruction (spec/05 R106 to R110 and the encoding tables of the home
chapters), rejecting by name, and the encoder written from the same tables. A word is a number below 2^32; its fields
are read by division and remainder. (`noncomputable` says only that Lean's compiler cannot build constructors beyond the
245th of a type; every definition here is evaluated by the kernel.) -/

namespace Sys2Proof

/-- Why a word is no instruction; each is Illegal Instruction under spec/05 R110 step 1. -/
inductive Reject where
  /-- The major opcode is reserved (spec/05 Table 5.3). -/
  | reservedMajor
  /-- The fn value is unassigned, a reserved field is non-zero, or an operand is out of range (spec/05 R108, R109). -/
  | unassigned
  /-- A modifier or operand value that the instruction's description refuses (`Instr.wf`). -/
  | illFormed
  deriving DecidableEq, Repr

/-- Bits 23:19. -/
def fd (w : Nat) : Nat := w / 524288 % 32
/-- Bits 18:14. -/
def fa (w : Nat) : Nat := w / 16384 % 32
/-- Bits 13:9. -/
def fb (w : Nat) : Nat := w / 512 % 32
/-- Bits 13:2, the immediate of format I. -/
def f12 (w : Nat) : Nat := w / 4 % 4096
/-- Bits 13:0, the index of format L. -/
def f14 (w : Nat) : Nat := w % 16384
/-- Bits 18:0, the offset of format B. -/
def f19 (w : Nat) : Nat := w % 524288
/-- Bits 13:3, the offset of format M. -/
def f11 (w : Nat) : Nat := w / 8 % 2048
/-- Bits 13:11, the level of format Mo. -/
def flvl (w : Nat) : Nat := w / 2048 % 8
/-- Bits 7:5, the mask register of format V. -/
def fm (w : Nat) : Nat := w / 32 % 8
/-- One bit. -/
def fbit (w n : Nat) : Bool := w / 2 ^ n % 2 == 1

/-- A number below 4, as an index. -/
def reg4 (n : Nat) : Fin 4 := Fin.ofNat 4 n
/-- A number below 8, as an index. -/
def reg8 (n : Nat) : Fin 8 := Fin.ofNat 8 n
/-- A number below 16, as an index. -/
def reg16 (n : Nat) : Fin 16 := Fin.ofNat 16 n
/-- A number below 32, as an index. -/
def reg32 (n : Nat) : Fin 32 := Fin.ofNat 32 n
/-- A number below 64, as an index. -/
def reg64 (n : Nat) : Fin 64 := Fin.ofNat 64 n

/-- MK = 0 needs m = 0 (spec/05 R107). -/
def vmaskOk (w : Nat) : Bool := fbit w 8 || fm w == 0
/-- MK and m of format V. -/
def vmaskOf (w : Nat) : VMask := if fbit w 8 then some (reg8 (fm w)) else none
/-- MK and m, back in their places. -/
def vmaskBits (m : VMask) : Nat :=
  match m with
  | none => 0
  | some r => 256 + r.val * 32

/-- NC = 1 needs k = 0 (spec/05 R107). -/
def ktagOk (w : Nat) : Bool := !fbit w 6 || w / 1024 % 16 == 0
/-- NC and k of format E. -/
def ktagOf (w : Nat) : KTag := if fbit w 6 then none else some (reg16 (w / 1024 % 16))
/-- NC and k, back in their places. -/
def ktagBits (k : KTag) : Nat :=
  match k with
  | none => 64
  | some r => r.val * 1024

/-- With KEN = 0 the field K is not used, so it is reserved (spec/10 R227, spec/05 R108). DEDUCED: log 12. -/
def ctagOk (w : Nat) : Bool := fbit w 4 || w / 32 % 16 == 0
/-- KEN and K of CANCEL. -/
def ctagOf (w : Nat) : CTag := if fbit w 4 then some (reg16 (w / 32 % 16)) else none
/-- KEN and K, back in their places. -/
def ctagBits (k : CTag) : Nat :=
  match k with
  | none => 0
  | some r => 16 + r.val * 32

/-- A rounding field of 5 or 6 is reserved (spec/05 R110). -/
def rcOk (n : Nat) : Bool := n != 5 && n != 6
/-- A rounding field (spec/03 Table 3.13; 7 selects RM). -/
def rcOf (n : Nat) : Rc :=
  match n with
  | 0 => .rne
  | 1 => .rtz
  | 2 => .rup
  | 3 => .rdn
  | 4 => .sr
  | _ => .fromRM
/-- The code of a rounding field. -/
def Rc.code : Rc → Nat
  | .rne => 0
  | .rtz => 1
  | .rup => 2
  | .rdn => 3
  | .sr => 4
  | .fromRM => 7

/-- The ORD field of an atomic (spec/06 R148). -/
def amoOrderOf (n : Nat) : AmoOrder :=
  match n with
  | 0 => .none
  | 1 => .acq
  | 2 => .rel
  | _ => .ar
/-- The code of an ORD field. -/
def AmoOrder.code : AmoOrder → Nat
  | .none => 0
  | .acq => 1
  | .rel => 2
  | .ar => 3

/-- Major 0x01 (R129). -/
def decode01 (w : Nat) : Option Instr :=
  match w % 512 with
  | 0 => some (.add (reg32 (fd w)) (reg32 (fa w)) (reg32 (fb w)))
  | 1 => some (.sub (reg32 (fd w)) (reg32 (fa w)) (reg32 (fb w)))
  | 2 => some (.and (reg32 (fd w)) (reg32 (fa w)) (reg32 (fb w)))
  | 3 => some (.or (reg32 (fd w)) (reg32 (fa w)) (reg32 (fb w)))
  | 4 => some (.xor (reg32 (fd w)) (reg32 (fa w)) (reg32 (fb w)))
  | 5 => some (.andn (reg32 (fd w)) (reg32 (fa w)) (reg32 (fb w)))
  | 6 => some (.addw (reg32 (fd w)) (reg32 (fa w)) (reg32 (fb w)))
  | 7 => some (.subw (reg32 (fd w)) (reg32 (fa w)) (reg32 (fb w)))
  | 8 => some (.adds (reg32 (fd w)) (reg32 (fa w)) (reg32 (fb w)))
  | 9 => some (.subs (reg32 (fd w)) (reg32 (fa w)) (reg32 (fb w)))
  | 10 => some (.min (reg32 (fd w)) (reg32 (fa w)) (reg32 (fb w)))
  | 11 => some (.max (reg32 (fd w)) (reg32 (fa w)) (reg32 (fb w)))
  | 12 => some (.minu (reg32 (fd w)) (reg32 (fa w)) (reg32 (fb w)))
  | 13 => some (.maxu (reg32 (fd w)) (reg32 (fa w)) (reg32 (fb w)))
  | 14 => if w / 512 % 32 == 0 then some (.abs (reg32 (fd w)) (reg32 (fa w))) else none
  | _ => none

/-- Major 0x02 (R130). -/
def decode02 (w : Nat) : Option Instr :=
  match w % 512 with
  | 0 => some (.mul (reg32 (fd w)) (reg32 (fa w)) (reg32 (fb w)))
  | 1 => some (.mulh (reg32 (fd w)) (reg32 (fa w)) (reg32 (fb w)))
  | 2 => some (.mulhu (reg32 (fd w)) (reg32 (fa w)) (reg32 (fb w)))
  | 3 => some (.mulhsu (reg32 (fd w)) (reg32 (fa w)) (reg32 (fb w)))
  | 4 => some (.mulw (reg32 (fd w)) (reg32 (fa w)) (reg32 (fb w)))
  | 5 => some (.div (reg32 (fd w)) (reg32 (fa w)) (reg32 (fb w)))
  | 6 => some (.divu (reg32 (fd w)) (reg32 (fa w)) (reg32 (fb w)))
  | 7 => some (.rem (reg32 (fd w)) (reg32 (fa w)) (reg32 (fb w)))
  | 8 => some (.remu (reg32 (fd w)) (reg32 (fa w)) (reg32 (fb w)))
  | _ => none

/-- Major 0x03 (R131). -/
def decode03 (w : Nat) : Option Instr :=
  match w % 512 with
  | 0 => some (.sll (reg32 (fd w)) (reg32 (fa w)) (reg32 (fb w)))
  | 1 => some (.srl (reg32 (fd w)) (reg32 (fa w)) (reg32 (fb w)))
  | 2 => some (.sra (reg32 (fd w)) (reg32 (fa w)) (reg32 (fb w)))
  | 3 => some (.rol (reg32 (fd w)) (reg32 (fa w)) (reg32 (fb w)))
  | 4 => some (.ror (reg32 (fd w)) (reg32 (fa w)) (reg32 (fb w)))
  | 5 => if w / 512 % 32 == 0 then some (.clz (reg32 (fd w)) (reg32 (fa w))) else none
  | 6 => if w / 512 % 32 == 0 then some (.ctz (reg32 (fd w)) (reg32 (fa w))) else none
  | 7 => if w / 512 % 32 == 0 then some (.popc (reg32 (fd w)) (reg32 (fa w))) else none
  | 8 => if w / 512 % 32 == 0 then some (.bswap (reg32 (fd w)) (reg32 (fa w))) else none
  | 9 => if w / 512 % 32 == 0 then some (.brev (reg32 (fd w)) (reg32 (fa w))) else none
  | 10 => some (.extu (reg32 (fd w)) (reg32 (fa w)) (reg32 (fb w)))
  | 11 => some (.exts (reg32 (fd w)) (reg32 (fa w)) (reg32 (fb w)))
  | 12 => some (.ins (reg32 (fd w)) (reg32 (fa w)) (reg32 (fb w)))
  | _ => none

/-- Major 0x04 (R132). -/
def decode04 (w : Nat) : Option Instr :=
  match w % 512 with
  | 0 => some (.seq (reg32 (fd w)) (reg32 (fa w)) (reg32 (fb w)))
  | 1 => some (.sne (reg32 (fd w)) (reg32 (fa w)) (reg32 (fb w)))
  | 2 => some (.slt (reg32 (fd w)) (reg32 (fa w)) (reg32 (fb w)))
  | 3 => some (.sltu (reg32 (fd w)) (reg32 (fa w)) (reg32 (fb w)))
  | 4 => some (.sge (reg32 (fd w)) (reg32 (fa w)) (reg32 (fb w)))
  | 5 => some (.sgeu (reg32 (fd w)) (reg32 (fa w)) (reg32 (fb w)))
  | 6 => some (.cmovz (reg32 (fd w)) (reg32 (fa w)) (reg32 (fb w)))
  | 7 => some (.cmovnz (reg32 (fd w)) (reg32 (fa w)) (reg32 (fb w)))
  | _ => none

/-- Major 0x05 (R135). -/
def decode05 (w : Nat) : Option Instr :=
  match w % 512 with
  | 0 => some (.fadd (reg32 (fd w)) (reg32 (fa w)) (reg32 (fb w)))
  | 1 => some (.fsub (reg32 (fd w)) (reg32 (fa w)) (reg32 (fb w)))
  | 2 => some (.fmul (reg32 (fd w)) (reg32 (fa w)) (reg32 (fb w)))
  | 3 => some (.fdiv (reg32 (fd w)) (reg32 (fa w)) (reg32 (fb w)))
  | 4 => if w / 512 % 32 == 0 then some (.fsqrt (reg32 (fd w)) (reg32 (fa w))) else none
  | 5 => some (.fmadd (reg32 (fd w)) (reg32 (fa w)) (reg32 (fb w)))
  | 6 => some (.fmin (reg32 (fd w)) (reg32 (fa w)) (reg32 (fb w)))
  | 7 => some (.fmax (reg32 (fd w)) (reg32 (fa w)) (reg32 (fb w)))
  | 8 => if w / 512 % 32 == 0 then some (.fabs (reg32 (fd w)) (reg32 (fa w))) else none
  | 9 => if w / 512 % 32 == 0 then some (.fneg (reg32 (fd w)) (reg32 (fa w))) else none
  | 10 => some (.feq (reg32 (fd w)) (reg32 (fa w)) (reg32 (fb w)))
  | 11 => some (.flt (reg32 (fd w)) (reg32 (fa w)) (reg32 (fb w)))
  | 12 => some (.fle (reg32 (fd w)) (reg32 (fa w)) (reg32 (fb w)))
  | 13 => if w / 512 % 32 == 0 then some (.fclass (reg32 (fd w)) (reg32 (fa w))) else none
  | 14 => if w / 512 % 32 == 0 then some (.ftoi (reg32 (fd w)) (reg32 (fa w))) else none
  | 15 => if w / 512 % 32 == 0 then some (.ftou (reg32 (fd w)) (reg32 (fa w))) else none
  | 16 => if w / 512 % 32 == 0 then some (.itof (reg32 (fd w)) (reg32 (fa w))) else none
  | 17 => if w / 512 % 32 == 0 then some (.utof (reg32 (fd w)) (reg32 (fa w))) else none
  | _ => none

/-- Major 0x08 (R133). -/
def decode08 (w : Nat) : Option Instr :=
  match w % 4 with
  | 0 => some (.addi (reg32 (fd w)) (reg32 (fa w)) (BitVec.ofNat 12 (f12 w)))
  | 1 => some (.andi (reg32 (fd w)) (reg32 (fa w)) (BitVec.ofNat 12 (f12 w)))
  | 2 => some (.ori (reg32 (fd w)) (reg32 (fa w)) (BitVec.ofNat 12 (f12 w)))
  | 3 => some (.xori (reg32 (fd w)) (reg32 (fa w)) (BitVec.ofNat 12 (f12 w)))
  | _ => none

/-- Major 0x09 (R133). -/
def decode09 (w : Nat) : Option Instr :=
  match w % 4 with
  | 0 => if w / 256 % 64 == 0 && decide (f12 w < 64) then some (.slli (reg32 (fd w)) (reg32 (fa w)) (BitVec.ofNat 6 (f12 w))) else none
  | 1 => if w / 256 % 64 == 0 && decide (f12 w < 64) then some (.srli (reg32 (fd w)) (reg32 (fa w)) (BitVec.ofNat 6 (f12 w))) else none
  | 2 => if w / 256 % 64 == 0 && decide (f12 w < 64) then some (.srai (reg32 (fd w)) (reg32 (fa w)) (BitVec.ofNat 6 (f12 w))) else none
  | 3 => if w / 256 % 64 == 0 && decide (f12 w < 64) then some (.rori (reg32 (fd w)) (reg32 (fa w)) (BitVec.ofNat 6 (f12 w))) else none
  | _ => none

/-- Major 0x0A (R133). -/
def decode0A (w : Nat) : Option Instr :=
  match w % 4 with
  | 0 => some (.seqi (reg32 (fd w)) (reg32 (fa w)) (BitVec.ofNat 12 (f12 w)))
  | 1 => some (.snei (reg32 (fd w)) (reg32 (fa w)) (BitVec.ofNat 12 (f12 w)))
  | 2 => some (.slti (reg32 (fd w)) (reg32 (fa w)) (BitVec.ofNat 12 (f12 w)))
  | 3 => some (.sltui (reg32 (fd w)) (reg32 (fa w)) (BitVec.ofNat 12 (f12 w)))
  | _ => none

/-- Major 0x0B (R133). -/
def decode0B (w : Nat) : Option Instr :=
  match w % 4 with
  | 0 => some (.addiw (reg32 (fd w)) (reg32 (fa w)) (BitVec.ofNat 12 (f12 w)))
  | 1 => if w / 16384 % 32 == 0 then some (.li (reg32 (fd w)) (BitVec.ofNat 12 (f12 w))) else none
  | 2 => some (.shori (reg32 (fd w)) (reg32 (fa w)) (BitVec.ofNat 12 (f12 w)))
  | _ => none

/-- Major 0x0F (R113). -/
def decode0F (w : Nat) : Option Instr :=
  match w % 4 with
  | 0 => if w / 16384 % 32 == 0 then some (.rdsr (reg32 (fd w)) (BitVec.ofNat 12 (f12 w))) else none
  | 1 => if w / 524288 % 32 == 0 then some (.wrsr (reg32 (fa w)) (BitVec.ofNat 12 (f12 w))) else none
  | 2 => if w / 524288 % 32 == 0 then some (.setsr (reg32 (fa w)) (BitVec.ofNat 12 (f12 w))) else none
  | 3 => if w / 524288 % 32 == 0 then some (.clrsr (reg32 (fa w)) (BitVec.ofNat 12 (f12 w))) else none
  | _ => none

/-- Major 0x10 (R134). -/
def decode10 (w : Nat) : Option Instr :=
  match w / 16384 % 32 with
  | 0 => some (.lit (reg32 (fd w)) (BitVec.ofNat 14 (f14 w)))
  | 1 => some (.litW (reg32 (fd w)) (BitVec.ofNat 14 (f14 w)))
  | _ => none

/-- Major 0x18 (R136). -/
def decode18 (w : Nat) : Option Instr :=
  some (.beqz (reg32 (fd w)) (BitVec.ofNat 19 (f19 w)))

/-- Major 0x19 (R136). -/
def decode19 (w : Nat) : Option Instr :=
  some (.bnez (reg32 (fd w)) (BitVec.ofNat 19 (f19 w)))

/-- Major 0x1A (R136). -/
def decode1A (w : Nat) : Option Instr :=
  some (.bltz (reg32 (fd w)) (BitVec.ofNat 19 (f19 w)))

/-- Major 0x1B (R136). -/
def decode1B (w : Nat) : Option Instr :=
  some (.bgez (reg32 (fd w)) (BitVec.ofNat 19 (f19 w)))

/-- Major 0x1C (R136). -/
def decode1C (w : Nat) : Option Instr :=
  some (.bgtz (reg32 (fd w)) (BitVec.ofNat 19 (f19 w)))

/-- Major 0x1D (R136). -/
def decode1D (w : Nat) : Option Instr :=
  some (.blez (reg32 (fd w)) (BitVec.ofNat 19 (f19 w)))

/-- Major 0x1E (R136). -/
def decode1E (w : Nat) : Option Instr :=
  some (.call (reg32 (fd w)) (BitVec.ofNat 19 (f19 w)))

/-- Major 0x1F (R136). -/
def decode1F (w : Nat) : Option Instr :=
  if w / 524288 % 32 == 0 then some (.jmp (BitVec.ofNat 19 (f19 w))) else none

/-- Major 0x20 (R137, R138, R139). -/
def decode20 (w : Nat) : Option Instr :=
  match w % 512 with
  | 0 => if w / 512 % 32 == 0 && w / 524288 % 32 == 0 then some (.jr (reg32 (fa w))) else none
  | 1 => if w / 512 % 32 == 0 then some (.jalr (reg32 (fd w)) (reg32 (fa w))) else none
  | 2 => if w / 512 % 32768 == 0 then some (.yield) else none
  | 3 => if w / 16384 % 1024 == 0 then some (.trap (reg32 (fb w))) else none
  | 4 => if w / 16384 % 1024 == 0 then some (.ecall (reg32 (fb w))) else none
  | 5 => if w / 512 % 1024 == 0 then some (.tsRead (reg32 (fd w))) else none
  | _ => none

/-- Major 0x21 (R141). -/
def decode21 (w : Nat) : Option Instr :=
  match w % 4 with
  | 0 => if w / 524288 % 32 == 0 then some (.loop (reg32 (fa w)) (BitVec.ofNat 12 (f12 w))) else none
  | 1 => if w / 524288 % 32 == 0 then some (.loopI (reg32 (fa w)) (BitVec.ofNat 12 (f12 w))) else none
  | _ => none

/-- Major 0x28 (R143). -/
def decode28 (w : Nat) : Option Instr :=
  match w % 8 with
  | 0 => some (.ldB (reg32 (fd w)) (reg32 (fa w)) (BitVec.ofNat 11 (f11 w)))
  | 1 => some (.ldBu (reg32 (fd w)) (reg32 (fa w)) (BitVec.ofNat 11 (f11 w)))
  | 2 => some (.ldH (reg32 (fd w)) (reg32 (fa w)) (BitVec.ofNat 11 (f11 w)))
  | 3 => some (.ldHu (reg32 (fd w)) (reg32 (fa w)) (BitVec.ofNat 11 (f11 w)))
  | 4 => some (.ldW (reg32 (fd w)) (reg32 (fa w)) (BitVec.ofNat 11 (f11 w)))
  | 5 => some (.ldWu (reg32 (fd w)) (reg32 (fa w)) (BitVec.ofNat 11 (f11 w)))
  | 6 => some (.ld (reg32 (fd w)) (reg32 (fa w)) (BitVec.ofNat 11 (f11 w)))
  | _ => none

/-- Major 0x29 (R143). -/
def decode29 (w : Nat) : Option Instr :=
  match w % 8 with
  | 0 => some (.stB (reg32 (fd w)) (reg32 (fa w)) (BitVec.ofNat 11 (f11 w)))
  | 2 => some (.stH (reg32 (fd w)) (reg32 (fa w)) (BitVec.ofNat 11 (f11 w)))
  | 4 => some (.stW (reg32 (fd w)) (reg32 (fa w)) (BitVec.ofNat 11 (f11 w)))
  | 6 => some (.st (reg32 (fd w)) (reg32 (fa w)) (BitVec.ofNat 11 (f11 w)))
  | _ => none

/-- Major 0x2A (R146). -/
def decode2A (w : Nat) : Option Instr :=
  if w / 8 % 256 == 0 then some (.ldAcq (reg32 (fd w)) (reg32 (fa w)) (reg8 (flvl w)) (reg8 (w % 8))) else none

/-- Major 0x2B (R146). -/
def decode2B (w : Nat) : Option Instr :=
  if w / 8 % 256 == 0 then some (.stRel (reg32 (fd w)) (reg32 (fa w)) (reg8 (flvl w)) (reg8 (w % 8))) else none

/-- Major 0x2C (R103, R147, R148). -/
noncomputable def decode2C (w : Nat) : Option Instr :=
  match w / 64 % 8 with
  | 0 => if w / 8 % 8 == 0 && w / 512 % 32768 == 0 then some (.fence (reg8 (w % 8))) else none
  | 1 => match fb w with
    | 0 => some (.amoAdd (reg32 (fd w)) (reg32 (fa w)) (fbit w 5) (amoOrderOf (w / 8 % 4)) (reg8 (w % 8)))
    | 1 => some (.amoAnd (reg32 (fd w)) (reg32 (fa w)) (fbit w 5) (amoOrderOf (w / 8 % 4)) (reg8 (w % 8)))
    | 2 => some (.amoOr (reg32 (fd w)) (reg32 (fa w)) (fbit w 5) (amoOrderOf (w / 8 % 4)) (reg8 (w % 8)))
    | 3 => some (.amoXor (reg32 (fd w)) (reg32 (fa w)) (fbit w 5) (amoOrderOf (w / 8 % 4)) (reg8 (w % 8)))
    | 4 => some (.amoSwap (reg32 (fd w)) (reg32 (fa w)) (fbit w 5) (amoOrderOf (w / 8 % 4)) (reg8 (w % 8)))
    | 5 => some (.amoCas (reg32 (fd w)) (reg32 (fa w)) (fbit w 5) (amoOrderOf (w / 8 % 4)) (reg8 (w % 8)))
    | 6 => some (.amoMins (reg32 (fd w)) (reg32 (fa w)) (fbit w 5) (amoOrderOf (w / 8 % 4)) (reg8 (w % 8)))
    | 7 => some (.amoMinu (reg32 (fd w)) (reg32 (fa w)) (fbit w 5) (amoOrderOf (w / 8 % 4)) (reg8 (w % 8)))
    | 8 => some (.amoMaxs (reg32 (fd w)) (reg32 (fa w)) (fbit w 5) (amoOrderOf (w / 8 % 4)) (reg8 (w % 8)))
    | 9 => some (.amoMaxu (reg32 (fd w)) (reg32 (fa w)) (fbit w 5) (amoOrderOf (w / 8 % 4)) (reg8 (w % 8)))
    | 10 => if w / 32 % 2 == 0 then some (.amoFadd32 (reg32 (fd w)) (reg32 (fa w)) (amoOrderOf (w / 8 % 4)) (reg8 (w % 8))) else none
    | 11 => if w / 32 % 2 == 0 then some (.amoHist (reg32 (fd w)) (reg32 (fa w)) (amoOrderOf (w / 8 % 4)) (reg8 (w % 8))) else none
    | 12 => some (.amoDecz (reg32 (fd w)) (reg32 (fa w)) (fbit w 5) (amoOrderOf (w / 8 % 4)) (reg8 (w % 8)))
    | 13 => if w / 32 % 2 == 1 then some (.amoTake (reg32 (fd w)) (reg32 (fa w)) (amoOrderOf (w / 8 % 4)) (reg8 (w % 8))) else none
    | 14 => if w / 32 % 2 == 1 then some (.amoReturn (reg32 (fd w)) (reg32 (fa w)) (amoOrderOf (w / 8 % 4)) (reg8 (w % 8))) else none
    | _ => none
  | 2 => some (.atomInv (reg32 (fd w)) (reg32 (fa w)) (reg64 (w / 32 % 2 * 32 + fb w)) (amoOrderOf (w / 8 % 4)) (reg8 (w % 8)))
  | _ => none

/-- Major 0x40 (R159). -/
noncomputable def decode40 (w : Nat) : Option Instr :=
  match w % 32 with
  | 0 => if vmaskOk w then some (.vfadd (reg32 (fd w)) (reg32 (fa w)) (reg32 (fb w)) (vmaskOf w)) else none
  | 1 => if vmaskOk w then some (.vfsub (reg32 (fd w)) (reg32 (fa w)) (reg32 (fb w)) (vmaskOf w)) else none
  | 2 => if vmaskOk w then some (.vfmul (reg32 (fd w)) (reg32 (fa w)) (reg32 (fb w)) (vmaskOf w)) else none
  | 3 => if vmaskOk w then some (.vfdiv (reg32 (fd w)) (reg32 (fa w)) (reg32 (fb w)) (vmaskOf w)) else none
  | 4 => if w / 512 % 32 == 0 && vmaskOk w then some (.vfsqrt (reg32 (fd w)) (reg32 (fa w)) (vmaskOf w)) else none
  | 5 => if vmaskOk w then some (.vfma (reg32 (fd w)) (reg32 (fa w)) (reg32 (fb w)) (vmaskOf w)) else none
  | 6 => if vmaskOk w then some (.vfnma (reg32 (fd w)) (reg32 (fa w)) (reg32 (fb w)) (vmaskOf w)) else none
  | 7 => if vmaskOk w then some (.vfmin (reg32 (fd w)) (reg32 (fa w)) (reg32 (fb w)) (vmaskOf w)) else none
  | 8 => if vmaskOk w then some (.vfmax (reg32 (fd w)) (reg32 (fa w)) (reg32 (fb w)) (vmaskOf w)) else none
  | 9 => if w / 512 % 32 == 0 && vmaskOk w then some (.vfabs (reg32 (fd w)) (reg32 (fa w)) (vmaskOf w)) else none
  | 10 => if w / 512 % 32 == 0 && vmaskOk w then some (.vfneg (reg32 (fd w)) (reg32 (fa w)) (vmaskOf w)) else none
  | 11 => if vmaskOk w then some (.vfscaleb (reg32 (fd w)) (reg32 (fa w)) (reg32 (fb w)) (vmaskOf w)) else none
  | 12 => if vmaskOk w then some (.vfmuls (reg32 (fd w)) (reg32 (fa w)) (reg32 (fb w)) (vmaskOf w)) else none
  | 13 => if vmaskOk w then some (.vfmas (reg32 (fd w)) (reg32 (fa w)) (reg32 (fb w)) (vmaskOf w)) else none
  | _ => none

/-- Major 0x41 (R160). -/
noncomputable def decode41 (w : Nat) : Option Instr :=
  match w % 32 with
  | 0 => if w / 512 % 32 == 0 && vmaskOk w then some (.vfrcp (reg32 (fd w)) (reg32 (fa w)) (vmaskOf w)) else none
  | 1 => if w / 512 % 32 == 0 && vmaskOk w then some (.vfrsq (reg32 (fd w)) (reg32 (fa w)) (vmaskOf w)) else none
  | 2 => if w / 512 % 32 == 0 && vmaskOk w then some (.vfexp2 (reg32 (fd w)) (reg32 (fa w)) (vmaskOf w)) else none
  | 3 => if w / 512 % 32 == 0 && vmaskOk w then some (.vfexp (reg32 (fd w)) (reg32 (fa w)) (vmaskOf w)) else none
  | 4 => if w / 512 % 32 == 0 && vmaskOk w then some (.vflog2 (reg32 (fd w)) (reg32 (fa w)) (vmaskOf w)) else none
  | 5 => if w / 512 % 32 == 0 && vmaskOk w then some (.vftanh (reg32 (fd w)) (reg32 (fa w)) (vmaskOf w)) else none
  | 6 => if w / 512 % 32 == 0 && vmaskOk w then some (.vfsigm (reg32 (fd w)) (reg32 (fa w)) (vmaskOf w)) else none
  | 7 => if w / 512 % 32 == 0 && vmaskOk w then some (.vfsin (reg32 (fd w)) (reg32 (fa w)) (vmaskOf w)) else none
  | 8 => if w / 512 % 32 == 0 && vmaskOk w then some (.vfcos (reg32 (fd w)) (reg32 (fa w)) (vmaskOf w)) else none
  | _ => none

/-- Major 0x42 (R161). -/
noncomputable def decode42 (w : Nat) : Option Instr :=
  match w % 32 with
  | 0 => if vmaskOk w then some (.vadd (reg32 (fd w)) (reg32 (fa w)) (reg32 (fb w)) (vmaskOf w)) else none
  | 1 => if vmaskOk w then some (.vsub (reg32 (fd w)) (reg32 (fa w)) (reg32 (fb w)) (vmaskOf w)) else none
  | 2 => if vmaskOk w then some (.vmul (reg32 (fd w)) (reg32 (fa w)) (reg32 (fb w)) (vmaskOf w)) else none
  | 3 => if vmaskOk w then some (.vmulh (reg32 (fd w)) (reg32 (fa w)) (reg32 (fb w)) (vmaskOf w)) else none
  | 4 => if vmaskOk w then some (.vmulhu (reg32 (fd w)) (reg32 (fa w)) (reg32 (fb w)) (vmaskOf w)) else none
  | 5 => if vmaskOk w then some (.vadds (reg32 (fd w)) (reg32 (fa w)) (reg32 (fb w)) (vmaskOf w)) else none
  | 6 => if vmaskOk w then some (.vsubs (reg32 (fd w)) (reg32 (fa w)) (reg32 (fb w)) (vmaskOf w)) else none
  | 7 => if vmaskOk w then some (.vaddus (reg32 (fd w)) (reg32 (fa w)) (reg32 (fb w)) (vmaskOf w)) else none
  | 8 => if vmaskOk w then some (.vsubus (reg32 (fd w)) (reg32 (fa w)) (reg32 (fb w)) (vmaskOf w)) else none
  | 9 => if vmaskOk w then some (.vmin (reg32 (fd w)) (reg32 (fa w)) (reg32 (fb w)) (vmaskOf w)) else none
  | 10 => if vmaskOk w then some (.vmax (reg32 (fd w)) (reg32 (fa w)) (reg32 (fb w)) (vmaskOf w)) else none
  | 11 => if vmaskOk w then some (.vminu (reg32 (fd w)) (reg32 (fa w)) (reg32 (fb w)) (vmaskOf w)) else none
  | 12 => if vmaskOk w then some (.vmaxu (reg32 (fd w)) (reg32 (fa w)) (reg32 (fb w)) (vmaskOf w)) else none
  | 13 => if w / 512 % 32 == 0 && vmaskOk w then some (.vabs (reg32 (fd w)) (reg32 (fa w)) (vmaskOf w)) else none
  | 14 => if vmaskOk w then some (.vand (reg32 (fd w)) (reg32 (fa w)) (reg32 (fb w)) (vmaskOf w)) else none
  | 15 => if vmaskOk w then some (.vor (reg32 (fd w)) (reg32 (fa w)) (reg32 (fb w)) (vmaskOf w)) else none
  | 16 => if vmaskOk w then some (.vxor (reg32 (fd w)) (reg32 (fa w)) (reg32 (fb w)) (vmaskOf w)) else none
  | 17 => if vmaskOk w then some (.vandn (reg32 (fd w)) (reg32 (fa w)) (reg32 (fb w)) (vmaskOf w)) else none
  | 18 => if w / 512 % 32 == 0 && vmaskOk w then some (.vnot (reg32 (fd w)) (reg32 (fa w)) (vmaskOf w)) else none
  | 19 => if vmaskOk w then some (.vsll (reg32 (fd w)) (reg32 (fa w)) (reg32 (fb w)) (vmaskOf w)) else none
  | 20 => if vmaskOk w then some (.vsrl (reg32 (fd w)) (reg32 (fa w)) (reg32 (fb w)) (vmaskOf w)) else none
  | 21 => if vmaskOk w then some (.vsra (reg32 (fd w)) (reg32 (fa w)) (reg32 (fb w)) (vmaskOf w)) else none
  | 22 => if w / 512 % 32 == 0 && vmaskOk w then some (.vpopc (reg32 (fd w)) (reg32 (fa w)) (vmaskOf w)) else none
  | 23 => if w / 512 % 32 == 0 && vmaskOk w then some (.vclz (reg32 (fd w)) (reg32 (fa w)) (vmaskOf w)) else none
  | 24 => if vmaskOk w then some (.vqmul (reg32 (fd w)) (reg32 (fa w)) (reg32 (fb w)) (vmaskOf w)) else none
  | 25 => if vmaskOk w then some (.vsrar (reg32 (fd w)) (reg32 (fa w)) (reg32 (fb w)) (vmaskOf w)) else none
  | 26 => if vmaskOk w then some (.vaddx (reg32 (fd w)) (reg32 (fa w)) (reg32 (fb w)) (vmaskOf w)) else none
  | 27 => if vmaskOk w then some (.vmulx (reg32 (fd w)) (reg32 (fa w)) (reg32 (fb w)) (vmaskOf w)) else none
  | 28 => if vmaskOk w then some (.vmacx (reg32 (fd w)) (reg32 (fa w)) (reg32 (fb w)) (vmaskOf w)) else none
  | 29 => if vmaskOk w then some (.vsrax (reg32 (fd w)) (reg32 (fa w)) (reg32 (fb w)) (vmaskOf w)) else none
  | _ => none

/-- Major 0x43 (R162). -/
noncomputable def decode43 (w : Nat) : Option Instr :=
  match w % 32 with
  | 0 => if decide (fd w < 8) && vmaskOk w then some (.vfeq (reg8 (fd w)) (reg32 (fa w)) (reg32 (fb w)) (vmaskOf w)) else none
  | 1 => if decide (fd w < 8) && vmaskOk w then some (.vflt (reg8 (fd w)) (reg32 (fa w)) (reg32 (fb w)) (vmaskOf w)) else none
  | 2 => if decide (fd w < 8) && vmaskOk w then some (.vfle (reg8 (fd w)) (reg32 (fa w)) (reg32 (fb w)) (vmaskOf w)) else none
  | 3 => if decide (fd w < 8) && vmaskOk w then some (.vfun (reg8 (fd w)) (reg32 (fa w)) (reg32 (fb w)) (vmaskOf w)) else none
  | 4 => if decide (fd w < 8) && vmaskOk w then some (.veq (reg8 (fd w)) (reg32 (fa w)) (reg32 (fb w)) (vmaskOf w)) else none
  | 5 => if decide (fd w < 8) && vmaskOk w then some (.vne (reg8 (fd w)) (reg32 (fa w)) (reg32 (fb w)) (vmaskOf w)) else none
  | 6 => if decide (fd w < 8) && vmaskOk w then some (.vlt (reg8 (fd w)) (reg32 (fa w)) (reg32 (fb w)) (vmaskOf w)) else none
  | 7 => if decide (fd w < 8) && vmaskOk w then some (.vle (reg8 (fd w)) (reg32 (fa w)) (reg32 (fb w)) (vmaskOf w)) else none
  | 8 => if decide (fd w < 8) && vmaskOk w then some (.vltu (reg8 (fd w)) (reg32 (fa w)) (reg32 (fb w)) (vmaskOf w)) else none
  | 9 => if decide (fd w < 8) && vmaskOk w then some (.vleu (reg8 (fd w)) (reg32 (fa w)) (reg32 (fb w)) (vmaskOf w)) else none
  | 10 => if decide (fd w < 8) && vmaskOk w then some (.veqx (reg8 (fd w)) (reg32 (fa w)) (reg32 (fb w)) (vmaskOf w)) else none
  | 11 => if decide (fd w < 8) && vmaskOk w then some (.vltx (reg8 (fd w)) (reg32 (fa w)) (reg32 (fb w)) (vmaskOf w)) else none
  | 12 => if decide (fd w < 8) && vmaskOk w then some (.vgtx (reg8 (fd w)) (reg32 (fa w)) (reg32 (fb w)) (vmaskOf w)) else none
  | _ => none

/-- Major 0x44 (R163). -/
noncomputable def decode44 (w : Nat) : Option Instr :=
  match w % 32 with
  | 0 => if w / 256 % 2 == 1 then some (.vsel (reg32 (fd w)) (reg32 (fa w)) (reg32 (fb w)) (reg8 (fm w))) else none
  | 1 => if w / 32 % 16 == 0 && decide (fd w < 8) && decide (fa w < 8) && decide (fb w < 8) then some (.mand (reg8 (fd w)) (reg8 (fa w)) (reg8 (fb w))) else none
  | 2 => if w / 32 % 16 == 0 && decide (fd w < 8) && decide (fa w < 8) && decide (fb w < 8) then some (.mor (reg8 (fd w)) (reg8 (fa w)) (reg8 (fb w))) else none
  | 3 => if w / 32 % 16 == 0 && decide (fd w < 8) && decide (fa w < 8) && decide (fb w < 8) then some (.mxor (reg8 (fd w)) (reg8 (fa w)) (reg8 (fb w))) else none
  | 4 => if w / 32 % 16 == 0 && decide (fd w < 8) && decide (fa w < 8) && decide (fb w < 8) then some (.mandn (reg8 (fd w)) (reg8 (fa w)) (reg8 (fb w))) else none
  | 5 => if w / 32 % 512 == 0 && decide (fd w < 8) && decide (fa w < 8) then some (.mnot (reg8 (fd w)) (reg8 (fa w))) else none
  | 6 => if w / 32 % 512 == 0 && decide (fa w < 8) then some (.mpopc (reg32 (fd w)) (reg8 (fa w))) else none
  | 7 => if w / 32 % 512 == 0 && decide (fa w < 8) then some (.mfirst (reg32 (fd w)) (reg8 (fa w))) else none
  | 8 => if w / 32 % 512 == 0 && decide (fd w < 8) then some (.mmov (reg8 (fd w)) (reg32 (fa w))) else none
  | 9 => if w / 32 % 512 == 0 && decide (fa w < 8) then some (.mrd (reg32 (fd w)) (reg8 (fa w))) else none
  | _ => none

/-- Major 0x45 (R164). -/
noncomputable def decode45 (w : Nat) : Option Instr :=
  match w % 32 with
  | 0 => if w / 512 % 32 == 0 && vmaskOk w then some (.vbcast (reg32 (fd w)) (reg32 (fa w)) (vmaskOf w)) else none
  | 1 => if vmaskOk w then some (.vsplat (reg32 (fd w)) (reg32 (fa w)) (reg32 (fb w)) (vmaskOf w)) else none
  | 2 => if vmaskOk w then some (.vperm (reg32 (fd w)) (reg32 (fa w)) (reg32 (fb w)) (vmaskOf w)) else none
  | 3 => if vmaskOk w then some (.vperm2 (reg32 (fd w)) (reg32 (fa w)) (reg32 (fb w)) (vmaskOf w)) else none
  | 4 => if vmaskOk w then some (.vrot (reg32 (fd w)) (reg32 (fa w)) (reg32 (fb w)) (vmaskOf w)) else none
  | 5 => if vmaskOk w then some (.vslideup (reg32 (fd w)) (reg32 (fa w)) (reg32 (fb w)) (vmaskOf w)) else none
  | 6 => if vmaskOk w then some (.vslidedn (reg32 (fd w)) (reg32 (fa w)) (reg32 (fb w)) (vmaskOf w)) else none
  | 7 => if vmaskOk w then some (.vzip (reg32 (fd w)) (reg32 (fa w)) (reg32 (fb w)) (vmaskOf w)) else none
  | 8 => if vmaskOk w then some (.vunzip (reg32 (fd w)) (reg32 (fa w)) (reg32 (fb w)) (vmaskOf w)) else none
  | 9 => if w / 256 % 64 == 1 then some (.vcompress (reg32 (fd w)) (reg32 (fa w)) (reg8 (fm w))) else none
  | 10 => if w / 512 % 1024 == 0 && vmaskOk w then some (.vlane (reg32 (fd w)) (vmaskOf w)) else none
  | 11 => if w / 32 % 16 == 0 then some (.vmvx (reg32 (fd w)) (reg32 (fa w)) (reg32 (fb w))) else none
  | 12 => if w / 32 % 16 == 0 then some (.vins (reg32 (fd w)) (reg32 (fa w)) (reg32 (fb w))) else none
  | _ => none

/-- Major 0x46 (R165, R166, R167). -/
noncomputable def decode46 (w : Nat) : Option Instr :=
  match w % 32 with
  | 0 => if w / 512 % 32 == 0 && vmaskOk w then some (.vredadd (reg32 (fd w)) (reg32 (fa w)) (vmaskOf w)) else none
  | 1 => if w / 512 % 32 == 0 && vmaskOk w then some (.vredaddu (reg32 (fd w)) (reg32 (fa w)) (vmaskOf w)) else none
  | 2 => if w / 512 % 32 == 0 && vmaskOk w then some (.vredmin (reg32 (fd w)) (reg32 (fa w)) (vmaskOf w)) else none
  | 3 => if w / 512 % 32 == 0 && vmaskOk w then some (.vredmax (reg32 (fd w)) (reg32 (fa w)) (vmaskOf w)) else none
  | 4 => if w / 512 % 32 == 0 && vmaskOk w then some (.vredminu (reg32 (fd w)) (reg32 (fa w)) (vmaskOf w)) else none
  | 5 => if w / 512 % 32 == 0 && vmaskOk w then some (.vredmaxu (reg32 (fd w)) (reg32 (fa w)) (vmaskOf w)) else none
  | 6 => if w / 512 % 32 == 0 && vmaskOk w then some (.vredfadd (reg32 (fd w)) (reg32 (fa w)) (vmaskOf w)) else none
  | 7 => if w / 512 % 32 == 0 && vmaskOk w then some (.vredfmin (reg32 (fd w)) (reg32 (fa w)) (vmaskOf w)) else none
  | 8 => if w / 512 % 32 == 0 && vmaskOk w then some (.vredfmax (reg32 (fd w)) (reg32 (fa w)) (vmaskOf w)) else none
  | 9 => if w / 512 % 32 == 0 && vmaskOk w then some (.vscanadd (reg32 (fd w)) (reg32 (fa w)) (vmaskOf w)) else none
  | 10 => if w / 512 % 32 == 0 && vmaskOk w then some (.vscanfadd (reg32 (fd w)) (reg32 (fa w)) (vmaskOf w)) else none
  | 11 => if w / 512 % 32 == 0 && vmaskOk w then some (.vredfaddx (reg32 (fd w)) (reg32 (fa w)) (vmaskOf w)) else none
  | _ => none

/-- Major 0x47 (R169). -/
noncomputable def decode47 (w : Nat) : Option Instr :=
  if vmaskOk w && rcOk (w % 8) then some (.vcvt (reg32 (fd w)) (reg32 (fa w)) (reg32 (fb w)) (vmaskOf w) (reg4 (w / 8 % 4)) (rcOf (w % 8))) else none

/-- Major 0x48 (R169). -/
noncomputable def decode48 (w : Nat) : Option Instr :=
  match w % 8 with
  | 0 => if vmaskOk w then some (.vcvtF32 (reg32 (fd w)) (reg32 (fa w)) (reg32 (fb w)) (vmaskOf w) (reg4 (w / 8 % 4))) else none
  | _ => none

/-- Major 0x49 (R169). -/
noncomputable def decode49 (w : Nat) : Option Instr :=
  match w / 8 % 4 with
  | 0 => if w / 512 % 32 == 0 && vmaskOk w && rcOk (w % 8) then some (.vftoi (reg32 (fd w)) (reg32 (fa w)) (vmaskOf w) (rcOf (w % 8))) else none
  | 1 => if w / 512 % 32 == 0 && vmaskOk w && rcOk (w % 8) then some (.vftou (reg32 (fd w)) (reg32 (fa w)) (vmaskOf w) (rcOf (w % 8))) else none
  | 2 => if w / 512 % 32 == 0 && vmaskOk w && rcOk (w % 8) then some (.vitof (reg32 (fd w)) (reg32 (fa w)) (vmaskOf w) (rcOf (w % 8))) else none
  | 3 => if w / 512 % 32 == 0 && vmaskOk w && rcOk (w % 8) then some (.vutof (reg32 (fd w)) (reg32 (fa w)) (vmaskOf w) (rcOf (w % 8))) else none
  | _ => none

/-- Major 0x4A (R170). -/
noncomputable def decode4A (w : Nat) : Option Instr :=
  if vmaskOk w && rcOk (w % 8) then some (.vcvtMx (reg32 (fd w)) (reg32 (fa w)) (reg32 (fb w)) (vmaskOf w) (reg4 (w / 8 % 4)) (rcOf (w % 8))) else none

/-- Major 0x4B (R170). -/
noncomputable def decode4B (w : Nat) : Option Instr :=
  if vmaskOk w && rcOk (w % 8) then some (.vcvtF32Mx (reg32 (fd w)) (reg32 (fa w)) (reg32 (fb w)) (vmaskOf w) (reg4 (w / 8 % 4)) (rcOf (w % 8))) else none

/-- Major 0x4C (R170, R171). -/
noncomputable def decode4C (w : Nat) : Option Instr :=
  match w % 32 with
  | 0 => if vmaskOk w then some (.vmxsc (reg32 (fd w)) (reg32 (fa w)) (reg32 (fb w)) (vmaskOf w)) else none
  | 1 => if w / 512 % 1024 == 0 && vmaskOk w then some (.vrand (reg32 (fd w)) (vmaskOf w)) else none
  | _ => none

/-- Major 0x4D (R169). -/
noncomputable def decode4D (w : Nat) : Option Instr :=
  match w % 8 with
  | 0 => if vmaskOk w then some (.vnarrow (reg32 (fd w)) (reg32 (fa w)) (reg32 (fb w)) (vmaskOf w) (reg4 (w / 8 % 4))) else none
  | 4 => if vmaskOk w then some (.vwiden (reg32 (fd w)) (reg32 (fa w)) (reg32 (fb w)) (vmaskOf w) (reg4 (w / 8 % 4))) else none
  | _ => none

/-- Major 0x4E (R172). -/
noncomputable def decode4E (w : Nat) : Option Instr :=
  match w / 4 % 8 with
  | 0 => if w / 512 % 32 == 0 && vmaskOk w then some (.vld (reg32 (fd w)) (reg32 (fa w)) (vmaskOf w) (reg4 (w % 4))) else none
  | 1 => if w / 512 % 32 == 0 && vmaskOk w then some (.vst (reg32 (fd w)) (reg32 (fa w)) (vmaskOf w) (reg4 (w % 4))) else none
  | 2 => if vmaskOk w then some (.vlds (reg32 (fd w)) (reg32 (fa w)) (reg32 (fb w)) (vmaskOf w) (reg4 (w % 4))) else none
  | 3 => if vmaskOk w then some (.vsts (reg32 (fd w)) (reg32 (fa w)) (reg32 (fb w)) (vmaskOf w) (reg4 (w % 4))) else none
  | 4 => if vmaskOk w then some (.vgather (reg32 (fd w)) (reg32 (fa w)) (reg32 (fb w)) (vmaskOf w) (reg4 (w % 4))) else none
  | 5 => if vmaskOk w then some (.vscatter (reg32 (fd w)) (reg32 (fa w)) (reg32 (fb w)) (vmaskOf w) (reg4 (w % 4))) else none
  | _ => none

/-- Major 0x60 (R188). -/
noncomputable def decode60 (w : Nat) : Option Instr :=
  match w % 128 with
  | 0 => if w / 128 % 2 == 0 && decide (fa w < 4) && decide (fb w < 4) then some (.mma (reg64 (w / 256 % 2 * 32 + fd w)) (reg4 (fa w)) (reg4 (fb w))) else none
  | 1 => if w / 128 % 2 == 0 && decide (fa w < 4) && decide (fb w < 4) then some (.mmaKeep (reg64 (w / 256 % 2 * 32 + fd w)) (reg4 (fa w)) (reg4 (fb w))) else none
  | 2 => if w / 128 % 2 == 0 && decide (fa w < 4) then some (.mmaSeg (reg64 (w / 256 % 2 * 32 + fd w)) (reg4 (fa w)) (reg32 (fb w))) else none
  | 3 => if w / 128 % 2 == 0 && decide (fa w < 4) then some (.mmaSegKeep (reg64 (w / 256 % 2 * 32 + fd w)) (reg4 (fa w)) (reg32 (fb w))) else none
  | _ => none

/-- Major 0x61 (R189, R194). -/
noncomputable def decode61 (w : Nat) : Option Instr :=
  match w % 128 with
  | 0 => if w / 128 % 128 == 0 && decide (fd w < 4) then some (.qaLd (reg4 (fd w)) (reg32 (fa w))) else none
  | 1 => if w / 128 % 128 == 0 && decide (fd w < 4) then some (.blLd (reg4 (fd w)) (reg32 (fa w))) else none
  | 2 => if w / 128 % 4096 == 0 && decide (fd w < 4) then some (.qaPop (reg4 (fd w))) else none
  | 3 => if w / 128 % 131072 == 0 then some (.mxWait) else none
  | _ => none

/-- Major 0x62 (R190, R191). -/
noncomputable def decode62 (w : Nat) : Option Instr :=
  match w % 128 with
  | 0 => if w / 128 % 2 == 0 && w / 512 % 32 == 0 then some (.accClr (reg64 (w / 256 % 2 * 32 + fd w)) (reg32 (fa w))) else none
  | 1 => if w / 128 % 2 == 0 && w / 512 % 32 == 0 then some (.accRebase (reg64 (w / 256 % 2 * 32 + fd w)) (reg32 (fa w))) else none
  | 2 => if w / 512 % 32 == 0 then some (.accAdd (reg64 (w / 256 % 2 * 32 + fd w)) (reg64 (w / 128 % 2 * 32 + fa w))) else none
  | 3 => if w / 128 % 2 == 0 && w / 512 % 32 == 0 then some (.accLd (reg64 (w / 256 % 2 * 32 + fd w)) (reg32 (fa w))) else none
  | 4 => if w / 128 % 2 == 0 && w / 512 % 32 == 0 then some (.accSt (reg64 (w / 256 % 2 * 32 + fd w)) (reg32 (fa w))) else none
  | _ => none

/-- Major 0x63 (R192, R193). -/
noncomputable def decode63 (w : Nat) : Option Instr :=
  match w / 8 % 16 with
  | 0 => if w / 128 % 2 == 0 && rcOk (w % 8) then some (.accCvt (reg64 (w / 256 % 2 * 32 + fd w)) (reg32 (fa w)) (reg32 (fb w)) (rcOf (w % 8))) else none
  | 1 => if w / 128 % 2 == 0 && decide (fa w < 4) && rcOk (w % 8) then some (.accCvtQ (reg64 (w / 256 % 2 * 32 + fd w)) (reg4 (fa w)) (reg32 (fb w)) (rcOf (w % 8))) else none
  | 2 => if w % 8 == 0 && w / 128 % 4 == 0 && w / 8192 % 2 == 0 then some (.precI (BitVec.ofNat 5 (fd w)) (BitVec.ofNat 5 (fa w)) (BitVec.ofNat 4 (fb w))) else none
  | 3 => if w % 8 == 0 && w / 128 % 128 == 0 then some (.precX (reg32 (fd w)) (reg32 (fa w))) else none
  | _ => none

/-- Major 0x70 (R204). -/
noncomputable def decode70 (w : Nat) : Option Instr :=
  match w % 32 with
  | 0 => if w / 32 % 2 == 0 && ktagOk w then some (.cp (reg32 (fd w)) (reg32 (fa w)) (ktagOf w) (reg8 (w / 128 % 8))) else none
  | 1 => if w / 32 % 2 == 0 && ktagOk w then some (.cp2d (reg32 (fd w)) (reg32 (fa w)) (ktagOf w) (reg8 (w / 128 % 8))) else none
  | 2 => if w / 32 % 2 == 0 && ktagOk w then some (.cpFill (reg32 (fd w)) (reg32 (fa w)) (ktagOf w) (reg8 (w / 128 % 8))) else none
  | _ => none

/-- Major 0x71 (R205, R206). -/
noncomputable def decode71 (w : Nat) : Option Instr :=
  match w % 32 with
  | 0 => if w / 32 % 2 == 0 && ktagOk w then some (.cpGather (reg32 (fd w)) (reg32 (fa w)) (ktagOf w) (reg8 (w / 128 % 8))) else none
  | 1 => if w / 32 % 2 == 0 && ktagOk w then some (.cpScatter (reg32 (fd w)) (reg32 (fa w)) (ktagOf w) (reg8 (w / 128 % 8))) else none
  | 2 => if w / 32 % 2 == 0 && ktagOk w then some (.cpDecomp (reg32 (fd w)) (reg32 (fa w)) (ktagOf w) (reg8 (w / 128 % 8))) else none
  | _ => none

/-- Major 0x72 (R207, R208). -/
noncomputable def decode72 (w : Nat) : Option Instr :=
  match w % 32 with
  | 0 => if w / 32 % 2 == 0 && ktagOk w then some (.fifoFeed (reg32 (fd w)) (reg32 (fa w)) (ktagOf w) (reg8 (w / 128 % 8))) else none
  | 1 => if w / 32 % 2 == 0 && ktagOk w then some (.agPort (reg32 (fd w)) (reg32 (fa w)) (ktagOf w) (reg8 (w / 128 % 8))) else none
  | _ => none

/-- Major 0x74 (R215, R216, R217, R218). -/
noncomputable def decode74 (w : Nat) : Option Instr :=
  match w % 512 with
  | 0 => if decide (fa w < 16) then some (.send (reg32 (fd w)) (reg16 (fa w)) (reg32 (fb w))) else none
  | 1 => if decide (fa w < 16) then some (.sendRaw (reg32 (fd w)) (reg16 (fa w)) (reg32 (fb w))) else none
  | 2 => if w / 512 % 32 == 0 && decide (fa w < 16) then some (.recv (reg32 (fd w)) (reg16 (fa w))) else none
  | 3 => if w / 512 % 32 == 0 && decide (fa w < 16) then some (.tryrecv (reg32 (fd w)) (reg16 (fa w))) else none
  | 4 => if w / 512 % 32 == 0 then some (.alt (reg32 (fd w)) (reg32 (fa w))) else none
  | 5 => if decide (fa w < 16) then some (.chGrant (reg32 (fd w)) (reg16 (fa w)) (reg32 (fb w))) else none
  | 6 => if w / 512 % 32 == 0 && w / 524288 % 32 == 0 && decide (fa w < 16) then some (.chClose (reg16 (fa w))) else none
  | _ => none

/-- Major 0x75 (R221, R222, R224, R225). -/
noncomputable def decode75 (w : Nat) : Option Instr :=
  match w % 512 with
  | 0 => if w / 524288 % 32 == 0 && decide (fa w < 16) then some (.waitlt (reg16 (fa w)) (reg32 (fb w))) else none
  | 1 => if w / 524288 % 32 == 0 && decide (fa w < 16) then some (.waitltX (reg16 (fa w)) (reg32 (fb w))) else none
  | 2 => if w / 512 % 32 == 0 && decide (fa w < 16) then some (.kRd (reg32 (fd w)) (reg16 (fa w))) else none
  | 3 => if w / 524288 % 32 == 0 && decide (fa w < 16) then some (.kAdd (reg16 (fa w)) (reg32 (fb w))) else none
  | 4 => some (.msgSend (reg32 (fd w)) (reg32 (fa w)) (reg32 (fb w)))
  | 5 => if w / 512 % 32768 == 0 then some (.msgEnd) else none
  | _ => none

/-- Major 0x80 (R230, R232, R233, R236). -/
noncomputable def decode80 (w : Nat) : Option Instr :=
  match w % 512 with
  | 0 => if w / 512 % 32 == 0 then some (.spawn (reg32 (fd w)) (reg32 (fa w))) else none
  | 1 => some (.spawnTree (reg32 (fd w)) (reg32 (fa w)) (reg32 (fb w)))
  | 2 => if w / 512 % 32 == 0 then some (.dec (reg32 (fd w)) (reg32 (fa w))) else none
  | 3 => if w / 512 % 1024 == 0 then some (.taskIns (reg32 (fd w))) else none
  | _ => none

/-- Major 0x81 (R237, R238, R239, R240). -/
noncomputable def decode81 (w : Nat) : Option Instr :=
  match w % 16 with
  | 0 => if w / 16 % 1024 == 0 then some (.scopeOpen (reg32 (fd w)) (reg32 (fa w))) else none
  | 1 => if w / 16 % 1024 == 0 then some (.scopeId (reg32 (fd w)) (reg32 (fa w))) else none
  | 2 => if ctagOk w then some (.cancel (reg32 (fd w)) (reg32 (fa w)) (reg32 (fb w)) (ctagOf w)) else none
  | 3 => if w / 16 % 1024 == 0 then some (.cancelWait (reg32 (fd w)) (reg32 (fa w))) else none
  | 4 => if w / 16 % 1048576 == 0 then some (.killHold) else none
  | 5 => if w / 16 % 32768 == 0 then some (.killOpen (reg32 (fd w))) else none
  | _ => none

/-- Major 0x82 (R247, R249). -/
noncomputable def decode82 (w : Nat) : Option Instr :=
  match w % 512 with
  | 0 => if w / 512 % 32 == 0 then some (.barJoin (reg32 (fd w)) (reg32 (fa w))) else none
  | 1 => if w / 512 % 32 == 0 then some (.barArrive (reg32 (fd w)) (reg32 (fa w))) else none
  | 2 => some (.barWait (reg32 (fd w)) (reg32 (fa w)) (reg32 (fb w)))
  | 3 => if w / 512 % 32 == 0 then some (.barLeave (reg32 (fd w)) (reg32 (fa w))) else none
  | 4 => if w / 512 % 1024 == 0 then some (.gangSync (reg32 (fd w))) else none
  | _ => none

/-- Major 0x83 (R235). -/
noncomputable def decode83 (w : Nat) : Option Instr :=
  match w % 512 with
  | 0 => if w / 512 % 32 == 0 && w / 524288 % 32 == 0 then some (.endTask (reg32 (fa w))) else none
  | _ => none

/-- Major 0x84 (R250, R251, R252, R253). -/
noncomputable def decode84 (w : Nat) : Option Instr :=
  match w % 16 with
  | 0 => if w / 16 % 1024 == 0 && w / 524288 % 32 == 0 then some (.selCfg (reg32 (fa w))) else none
  | 1 => if w / 16 % 1024 == 0 && w / 524288 % 32 == 0 then some (.selMask (reg32 (fa w))) else none
  | 2 => if w / 16 % 32 == 0 && w / 524288 % 32 == 0 then some (.selDead (reg32 (fa w)) (reg32 (fb w))) else none
  | 3 => if w / 256 % 2 == 0 then some (.topk (reg32 (fd w)) (reg32 (fa w)) (reg32 (fb w)) (reg16 (w / 16 % 16))) else none
  | 4 => if w / 256 % 2 == 0 then some (.topkMore (reg32 (fd w)) (reg32 (fa w)) (reg32 (fb w)) (reg16 (w / 16 % 16))) else none
  | 5 => if w / 16 % 1024 == 0 then some (.selRes (reg32 (fd w)) (reg32 (fa w))) else none
  | 6 => if w / 16 % 1048576 == 0 then some (.selWait) else none
  | _ => none

/-- Major 0xF0 (R269). -/
noncomputable def decodeF0 (w : Nat) : Option Instr :=
  match w / 128 % 4 with
  | 0 => if w / 16384 % 32 == 0 then some (.csrrd (reg32 (fd w)) (BitVec.ofNat 12 (fb w * 128 + w % 128))) else none
  | 1 => some (.csrrw (reg32 (fd w)) (reg32 (fa w)) (BitVec.ofNat 12 (fb w * 128 + w % 128)))
  | 2 => some (.csrrs (reg32 (fd w)) (reg32 (fa w)) (BitVec.ofNat 12 (fb w * 128 + w % 128)))
  | 3 => some (.csrrc (reg32 (fd w)) (reg32 (fa w)) (BitVec.ofNat 12 (fb w * 128 + w % 128)))
  | _ => none

/-- Major 0xF1 (R276, R281, R362). -/
noncomputable def decodeF1 (w : Nat) : Option Instr :=
  match w % 512 with
  | 0 => if w / 512 % 32768 == 0 then some (.tret) else none
  | 1 => if w / 512 % 32768 == 0 then some (.idle) else none
  | 2 => if w / 524288 % 32 == 0 then some (.tlbInv (reg32 (fa w)) (reg32 (fb w))) else none
  | 3 => some (.guardWr (reg32 (fd w)) (reg32 (fa w)) (reg32 (fb w)))
  | 4 => some (.frameWr (reg32 (fd w)) (reg32 (fa w)) (reg32 (fb w)))
  | _ => none

/-- Major 0xF2 (R281). -/
noncomputable def decodeF2 (w : Nat) : Option Instr :=
  match w % 512 with
  | 0 => if w / 512 % 32 == 0 then some (.slotSave (reg32 (fd w)) (reg32 (fa w))) else none
  | 1 => some (.slotRestore (reg32 (fd w)) (reg32 (fa w)) (reg32 (fb w)))
  | _ => none

/-- The instruction that the fields of a word name, before the checks of `Instr.wf`: a number that is no assigned
major, or an unassigned fn, names none (spec/05 R109). -/
noncomputable def decodeFields (w : Nat) : Except Reject Instr :=
  match w / 16777216 with
  | 0x01 => (decode01 w).elim (.error .unassigned) .ok
  | 0x02 => (decode02 w).elim (.error .unassigned) .ok
  | 0x03 => (decode03 w).elim (.error .unassigned) .ok
  | 0x04 => (decode04 w).elim (.error .unassigned) .ok
  | 0x05 => (decode05 w).elim (.error .unassigned) .ok
  | 0x08 => (decode08 w).elim (.error .unassigned) .ok
  | 0x09 => (decode09 w).elim (.error .unassigned) .ok
  | 0x0A => (decode0A w).elim (.error .unassigned) .ok
  | 0x0B => (decode0B w).elim (.error .unassigned) .ok
  | 0x0F => (decode0F w).elim (.error .unassigned) .ok
  | 0x10 => (decode10 w).elim (.error .unassigned) .ok
  | 0x18 => (decode18 w).elim (.error .unassigned) .ok
  | 0x19 => (decode19 w).elim (.error .unassigned) .ok
  | 0x1A => (decode1A w).elim (.error .unassigned) .ok
  | 0x1B => (decode1B w).elim (.error .unassigned) .ok
  | 0x1C => (decode1C w).elim (.error .unassigned) .ok
  | 0x1D => (decode1D w).elim (.error .unassigned) .ok
  | 0x1E => (decode1E w).elim (.error .unassigned) .ok
  | 0x1F => (decode1F w).elim (.error .unassigned) .ok
  | 0x20 => (decode20 w).elim (.error .unassigned) .ok
  | 0x21 => (decode21 w).elim (.error .unassigned) .ok
  | 0x28 => (decode28 w).elim (.error .unassigned) .ok
  | 0x29 => (decode29 w).elim (.error .unassigned) .ok
  | 0x2A => (decode2A w).elim (.error .unassigned) .ok
  | 0x2B => (decode2B w).elim (.error .unassigned) .ok
  | 0x2C => (decode2C w).elim (.error .unassigned) .ok
  | 0x40 => (decode40 w).elim (.error .unassigned) .ok
  | 0x41 => (decode41 w).elim (.error .unassigned) .ok
  | 0x42 => (decode42 w).elim (.error .unassigned) .ok
  | 0x43 => (decode43 w).elim (.error .unassigned) .ok
  | 0x44 => (decode44 w).elim (.error .unassigned) .ok
  | 0x45 => (decode45 w).elim (.error .unassigned) .ok
  | 0x46 => (decode46 w).elim (.error .unassigned) .ok
  | 0x47 => (decode47 w).elim (.error .unassigned) .ok
  | 0x48 => (decode48 w).elim (.error .unassigned) .ok
  | 0x49 => (decode49 w).elim (.error .unassigned) .ok
  | 0x4A => (decode4A w).elim (.error .unassigned) .ok
  | 0x4B => (decode4B w).elim (.error .unassigned) .ok
  | 0x4C => (decode4C w).elim (.error .unassigned) .ok
  | 0x4D => (decode4D w).elim (.error .unassigned) .ok
  | 0x4E => (decode4E w).elim (.error .unassigned) .ok
  | 0x60 => (decode60 w).elim (.error .unassigned) .ok
  | 0x61 => (decode61 w).elim (.error .unassigned) .ok
  | 0x62 => (decode62 w).elim (.error .unassigned) .ok
  | 0x63 => (decode63 w).elim (.error .unassigned) .ok
  | 0x70 => (decode70 w).elim (.error .unassigned) .ok
  | 0x71 => (decode71 w).elim (.error .unassigned) .ok
  | 0x72 => (decode72 w).elim (.error .unassigned) .ok
  | 0x74 => (decode74 w).elim (.error .unassigned) .ok
  | 0x75 => (decode75 w).elim (.error .unassigned) .ok
  | 0x80 => (decode80 w).elim (.error .unassigned) .ok
  | 0x81 => (decode81 w).elim (.error .unassigned) .ok
  | 0x82 => (decode82 w).elim (.error .unassigned) .ok
  | 0x83 => (decode83 w).elim (.error .unassigned) .ok
  | 0x84 => (decode84 w).elim (.error .unassigned) .ok
  | 0xF0 => (decodeF0 w).elim (.error .unassigned) .ok
  | 0xF1 => (decodeF1 w).elim (.error .unassigned) .ok
  | 0xF2 => (decodeF2 w).elim (.error .unassigned) .ok
  | _ => .error .reservedMajor

/-- Decoding: total on every number, an instruction or the name of the refusal (spec/05 R110 step 1). -/
noncomputable def decode (w : Nat) : Except Reject Instr :=
  match decodeFields w with
  | .error r => .error r
  | .ok i => if i.wf then .ok i else .error .illFormed

/-- The word of an encoded instruction, from the same tables; events have no word. -/
def encode : Instr → Option Nat
  | .tlogheadRead _ => none
  | .atomfnHighWrite _ _ _ => none
  | .atomfnLowWrite _ _ _ => none
  | .scalarResult _ => none
  | .waitComplete _ => none
  | .replyArrival _ _ _ => none
  | .loadPerform _ => none
  | .storePerform _ => none
  | .atomicExecute _ => none
  | .barrierRequest _ => none
  | .spawnRequest _ => none
  | .scopeRequest _ => none
  | .cancelRequest _ => none
  | .cancelBroadcast _ _ => none
  | .kill _ => none
  | .killHoldExpiry _ => none
  | .endCommit _ => none
  | .decrementMessage _ => none
  | .succFailureNotice _ => none
  | .scopeClose _ => none
  | .ackDelivery _ => none
  | .completionRecord _ => none
  | .commandStore _ _ _ => none
  | .qcfgWrite _ _ _ => none
  | .registerWrite _ _ _ => none
  | .nopCommand _ => none
  | .loadImage _ _ _ => none
  | .unloadImage _ => none
  | .runGraph _ _ _ => none
  | .cancelCommand _ => none
  | .adapterPrefetch _ => none
  | .dispatchSelect _ _ => none
  | .place _ _ => none
  | .prefetchReadIssue _ _ _ => none
  | .taskRunnable _ _ => none
  | .taskStart _ _ => none
  | .spawnTreeDelivery _ => none
  | .preemptTrigger _ _ => none
  | .saveBegin _ => none
  | .saveComplete _ => none
  | .preemptAbandon _ => none
  | .resume _ _ => none
  | .slotTrap _ _ _ => none
  | .deferredTrap _ => none
  | .handlerEntry _ => none
  | .messageArrival _ _ _ => none
  | .tokenArrival _ _ _ => none
  | .allowanceReturn _ _ _ => none
  | .channelBrokenNotice _ _ => none
  | .laneGroupWithdraw _ _ => none
  | .residencyRecord _ _ _ _ _ => none
  | .engineSegment _ _ _ _ => none
  | .engineComplete _ _ => none
  | .agPortRequest _ _ => none
  | .vectorEntryBegin _ => none
  | .vectorEntryComplete _ => none
  | .vectorLoadData _ _ _ => none
  | .matrixEntryBind _ => none
  | .matrixEntryComplete _ => none
  | .selectEntryBind _ => none
  | .selectEntryComplete _ => none
  | .gangCycleResume _ => none
  | .ualinkIngress _ _ => none
  | .parkedRetry _ _ => none
  | .acceptNotice _ _ _ _ => none
  | .routerTrim _ _ _ => none
  | .trimmedHeadArrival _ _ _ => none
  | .resendRequest _ _ _ => none
  | .walkComplete _ => none
  | .tlbFill _ _ => none
  | .tlbInvalidation _ _ => none
  | .frameStart => none
  | .deadlockSnapshot _ => none
  | .snapshotExchange _ => none
  | .timestampSync _ _ => none
  | .linkDelayEcho _ _ => none
  | .patrolScrub _ _ => none
  | .correctedError _ => none
  | .uncorrectableError _ => none
  | .linkRetrain _ _ => none
  | .dieLost _ => none
  | .hostMemRead _ _ => none
  | .hostMemWrite _ _ => none
  | .backInvalidateResponse _ _ _ => none
  | .hostErrorCompletion _ => none
  | .hostCompletionTimeout _ => none
  | .foreignUalinkRequest _ => none
  | .coldReset => none
  | .warmReset => none
  | .railsDone => none
  | .selftestDone _ => none
  | .draminitDone _ => none
  | .identityDone => none
  | .linksDone _ => none
  | .governorSample _ _ => none
  | .telemetryRefresh _ _ => none
  | .thermalLimit _ _ _ => none
  | .thermalTrip _ => none
  | .queueBlob _ => none
  | .regRd _ => none
  | .plSet _ => none
  | .logRd _ _ _ => none
  | .cntRd _ _ => none
  | .resetCommand => none
  | .ownerBlob => none
  | .moduleBlob => none
  | .partitionBlob => none
  | .memkeyBlob => none
  | .linkkeyBlob => none
  | .keySwitch _ => none
  | .powerBlob => none
  | .getVersion _ => none
  | .getCapabilities _ => none
  | .negotiateAlgorithms _ => none
  | .getDigests _ => none
  | .getCertificate _ => none
  | .challenge _ => none
  | .getMeasurements _ => none
  | .keyExchange _ => none
  | .finish _ => none
  | .endSession _ => none
  | .ideKm _ => none
  | .timeSlotStart _ _ => none
  | .rotationTurn _ _ => none
  | .configurationRequest _ => none
  | .add d a b => some (0x01000000 + d.val * 524288 + a.val * 16384 + b.val * 512)
  | .sub d a b => some (0x01000001 + d.val * 524288 + a.val * 16384 + b.val * 512)
  | .and d a b => some (0x01000002 + d.val * 524288 + a.val * 16384 + b.val * 512)
  | .or d a b => some (0x01000003 + d.val * 524288 + a.val * 16384 + b.val * 512)
  | .xor d a b => some (0x01000004 + d.val * 524288 + a.val * 16384 + b.val * 512)
  | .andn d a b => some (0x01000005 + d.val * 524288 + a.val * 16384 + b.val * 512)
  | .addw d a b => some (0x01000006 + d.val * 524288 + a.val * 16384 + b.val * 512)
  | .subw d a b => some (0x01000007 + d.val * 524288 + a.val * 16384 + b.val * 512)
  | .adds d a b => some (0x01000008 + d.val * 524288 + a.val * 16384 + b.val * 512)
  | .subs d a b => some (0x01000009 + d.val * 524288 + a.val * 16384 + b.val * 512)
  | .min d a b => some (0x0100000A + d.val * 524288 + a.val * 16384 + b.val * 512)
  | .max d a b => some (0x0100000B + d.val * 524288 + a.val * 16384 + b.val * 512)
  | .minu d a b => some (0x0100000C + d.val * 524288 + a.val * 16384 + b.val * 512)
  | .maxu d a b => some (0x0100000D + d.val * 524288 + a.val * 16384 + b.val * 512)
  | .abs d a => some (0x0100000E + d.val * 524288 + a.val * 16384)
  | .mul d a b => some (0x02000000 + d.val * 524288 + a.val * 16384 + b.val * 512)
  | .mulh d a b => some (0x02000001 + d.val * 524288 + a.val * 16384 + b.val * 512)
  | .mulhu d a b => some (0x02000002 + d.val * 524288 + a.val * 16384 + b.val * 512)
  | .mulhsu d a b => some (0x02000003 + d.val * 524288 + a.val * 16384 + b.val * 512)
  | .mulw d a b => some (0x02000004 + d.val * 524288 + a.val * 16384 + b.val * 512)
  | .div d a b => some (0x02000005 + d.val * 524288 + a.val * 16384 + b.val * 512)
  | .divu d a b => some (0x02000006 + d.val * 524288 + a.val * 16384 + b.val * 512)
  | .rem d a b => some (0x02000007 + d.val * 524288 + a.val * 16384 + b.val * 512)
  | .remu d a b => some (0x02000008 + d.val * 524288 + a.val * 16384 + b.val * 512)
  | .sll d a b => some (0x03000000 + d.val * 524288 + a.val * 16384 + b.val * 512)
  | .srl d a b => some (0x03000001 + d.val * 524288 + a.val * 16384 + b.val * 512)
  | .sra d a b => some (0x03000002 + d.val * 524288 + a.val * 16384 + b.val * 512)
  | .rol d a b => some (0x03000003 + d.val * 524288 + a.val * 16384 + b.val * 512)
  | .ror d a b => some (0x03000004 + d.val * 524288 + a.val * 16384 + b.val * 512)
  | .clz d a => some (0x03000005 + d.val * 524288 + a.val * 16384)
  | .ctz d a => some (0x03000006 + d.val * 524288 + a.val * 16384)
  | .popc d a => some (0x03000007 + d.val * 524288 + a.val * 16384)
  | .bswap d a => some (0x03000008 + d.val * 524288 + a.val * 16384)
  | .brev d a => some (0x03000009 + d.val * 524288 + a.val * 16384)
  | .extu d a b => some (0x0300000A + d.val * 524288 + a.val * 16384 + b.val * 512)
  | .exts d a b => some (0x0300000B + d.val * 524288 + a.val * 16384 + b.val * 512)
  | .ins d a b => some (0x0300000C + d.val * 524288 + a.val * 16384 + b.val * 512)
  | .seq d a b => some (0x04000000 + d.val * 524288 + a.val * 16384 + b.val * 512)
  | .sne d a b => some (0x04000001 + d.val * 524288 + a.val * 16384 + b.val * 512)
  | .slt d a b => some (0x04000002 + d.val * 524288 + a.val * 16384 + b.val * 512)
  | .sltu d a b => some (0x04000003 + d.val * 524288 + a.val * 16384 + b.val * 512)
  | .sge d a b => some (0x04000004 + d.val * 524288 + a.val * 16384 + b.val * 512)
  | .sgeu d a b => some (0x04000005 + d.val * 524288 + a.val * 16384 + b.val * 512)
  | .cmovz d a b => some (0x04000006 + d.val * 524288 + a.val * 16384 + b.val * 512)
  | .cmovnz d a b => some (0x04000007 + d.val * 524288 + a.val * 16384 + b.val * 512)
  | .fadd d a b => some (0x05000000 + d.val * 524288 + a.val * 16384 + b.val * 512)
  | .fsub d a b => some (0x05000001 + d.val * 524288 + a.val * 16384 + b.val * 512)
  | .fmul d a b => some (0x05000002 + d.val * 524288 + a.val * 16384 + b.val * 512)
  | .fdiv d a b => some (0x05000003 + d.val * 524288 + a.val * 16384 + b.val * 512)
  | .fsqrt d a => some (0x05000004 + d.val * 524288 + a.val * 16384)
  | .fmadd d a b => some (0x05000005 + d.val * 524288 + a.val * 16384 + b.val * 512)
  | .fmin d a b => some (0x05000006 + d.val * 524288 + a.val * 16384 + b.val * 512)
  | .fmax d a b => some (0x05000007 + d.val * 524288 + a.val * 16384 + b.val * 512)
  | .fabs d a => some (0x05000008 + d.val * 524288 + a.val * 16384)
  | .fneg d a => some (0x05000009 + d.val * 524288 + a.val * 16384)
  | .feq d a b => some (0x0500000A + d.val * 524288 + a.val * 16384 + b.val * 512)
  | .flt d a b => some (0x0500000B + d.val * 524288 + a.val * 16384 + b.val * 512)
  | .fle d a b => some (0x0500000C + d.val * 524288 + a.val * 16384 + b.val * 512)
  | .fclass d a => some (0x0500000D + d.val * 524288 + a.val * 16384)
  | .ftoi d a => some (0x0500000E + d.val * 524288 + a.val * 16384)
  | .ftou d a => some (0x0500000F + d.val * 524288 + a.val * 16384)
  | .itof d a => some (0x05000010 + d.val * 524288 + a.val * 16384)
  | .utof d a => some (0x05000011 + d.val * 524288 + a.val * 16384)
  | .addi d a i => some (0x08000000 + d.val * 524288 + a.val * 16384 + i.toNat * 4)
  | .andi d a i => some (0x08000001 + d.val * 524288 + a.val * 16384 + i.toNat * 4)
  | .ori d a i => some (0x08000002 + d.val * 524288 + a.val * 16384 + i.toNat * 4)
  | .xori d a i => some (0x08000003 + d.val * 524288 + a.val * 16384 + i.toNat * 4)
  | .slli d a i => some (0x09000000 + d.val * 524288 + a.val * 16384 + i.toNat * 4)
  | .srli d a i => some (0x09000001 + d.val * 524288 + a.val * 16384 + i.toNat * 4)
  | .srai d a i => some (0x09000002 + d.val * 524288 + a.val * 16384 + i.toNat * 4)
  | .rori d a i => some (0x09000003 + d.val * 524288 + a.val * 16384 + i.toNat * 4)
  | .seqi d a i => some (0x0A000000 + d.val * 524288 + a.val * 16384 + i.toNat * 4)
  | .snei d a i => some (0x0A000001 + d.val * 524288 + a.val * 16384 + i.toNat * 4)
  | .slti d a i => some (0x0A000002 + d.val * 524288 + a.val * 16384 + i.toNat * 4)
  | .sltui d a i => some (0x0A000003 + d.val * 524288 + a.val * 16384 + i.toNat * 4)
  | .addiw d a i => some (0x0B000000 + d.val * 524288 + a.val * 16384 + i.toNat * 4)
  | .li d i => some (0x0B000001 + d.val * 524288 + i.toNat * 4)
  | .shori d a i => some (0x0B000002 + d.val * 524288 + a.val * 16384 + i.toNat * 4)
  | .rdsr d sr => some (0x0F000000 + d.val * 524288 + sr.toNat * 4)
  | .wrsr a sr => some (0x0F000001 + a.val * 16384 + sr.toNat * 4)
  | .setsr a sr => some (0x0F000002 + a.val * 16384 + sr.toNat * 4)
  | .clrsr a sr => some (0x0F000003 + a.val * 16384 + sr.toNat * 4)
  | .lit d idx => some (0x10000000 + d.val * 524288 + idx.toNat)
  | .litW d idx => some (0x10004000 + d.val * 524288 + idx.toNat)
  | .beqz c off => some (0x18000000 + c.val * 524288 + off.toNat)
  | .bnez c off => some (0x19000000 + c.val * 524288 + off.toNat)
  | .bltz c off => some (0x1A000000 + c.val * 524288 + off.toNat)
  | .bgez c off => some (0x1B000000 + c.val * 524288 + off.toNat)
  | .bgtz c off => some (0x1C000000 + c.val * 524288 + off.toNat)
  | .blez c off => some (0x1D000000 + c.val * 524288 + off.toNat)
  | .call c off => some (0x1E000000 + c.val * 524288 + off.toNat)
  | .jmp off => some (0x1F000000 + off.toNat)
  | .jr a => some (0x20000000 + a.val * 16384)
  | .jalr d a => some (0x20000001 + d.val * 524288 + a.val * 16384)
  | .yield => some (0x20000002)
  | .trap n => some (0x20000003 + n.val * 512)
  | .ecall n => some (0x20000004 + n.val * 512)
  | .tsRead d => some (0x20000005 + d.val * 524288)
  | .loop a i => some (0x21000000 + a.val * 16384 + i.toNat * 4)
  | .loopI n i => some (0x21000001 + n.val * 16384 + i.toNat * 4)
  | .ldB d a off => some (0x28000000 + d.val * 524288 + a.val * 16384 + off.toNat * 8)
  | .ldBu d a off => some (0x28000001 + d.val * 524288 + a.val * 16384 + off.toNat * 8)
  | .ldH d a off => some (0x28000002 + d.val * 524288 + a.val * 16384 + off.toNat * 8)
  | .ldHu d a off => some (0x28000003 + d.val * 524288 + a.val * 16384 + off.toNat * 8)
  | .ldW d a off => some (0x28000004 + d.val * 524288 + a.val * 16384 + off.toNat * 8)
  | .ldWu d a off => some (0x28000005 + d.val * 524288 + a.val * 16384 + off.toNat * 8)
  | .ld d a off => some (0x28000006 + d.val * 524288 + a.val * 16384 + off.toNat * 8)
  | .stB d a off => some (0x29000000 + d.val * 524288 + a.val * 16384 + off.toNat * 8)
  | .stH d a off => some (0x29000002 + d.val * 524288 + a.val * 16384 + off.toNat * 8)
  | .stW d a off => some (0x29000004 + d.val * 524288 + a.val * 16384 + off.toNat * 8)
  | .st d a off => some (0x29000006 + d.val * 524288 + a.val * 16384 + off.toNat * 8)
  | .ldAcq d a lvl sz => some (0x2A000000 + d.val * 524288 + a.val * 16384 + lvl.val * 2048 + sz.val)
  | .stRel d a lvl sz => some (0x2B000000 + d.val * 524288 + a.val * 16384 + lvl.val * 2048 + sz.val)
  | .fence lvl => some (0x2C000000 + lvl.val)
  | .amoAdd d a w64 ord lvl => some (0x2C000040 + d.val * 524288 + a.val * 16384 + bit w64 * 32 + ord.code * 8 + lvl.val)
  | .amoAnd d a w64 ord lvl => some (0x2C000240 + d.val * 524288 + a.val * 16384 + bit w64 * 32 + ord.code * 8 + lvl.val)
  | .amoOr d a w64 ord lvl => some (0x2C000440 + d.val * 524288 + a.val * 16384 + bit w64 * 32 + ord.code * 8 + lvl.val)
  | .amoXor d a w64 ord lvl => some (0x2C000640 + d.val * 524288 + a.val * 16384 + bit w64 * 32 + ord.code * 8 + lvl.val)
  | .amoSwap d a w64 ord lvl => some (0x2C000840 + d.val * 524288 + a.val * 16384 + bit w64 * 32 + ord.code * 8 + lvl.val)
  | .amoCas d a w64 ord lvl => some (0x2C000A40 + d.val * 524288 + a.val * 16384 + bit w64 * 32 + ord.code * 8 + lvl.val)
  | .amoMins d a w64 ord lvl => some (0x2C000C40 + d.val * 524288 + a.val * 16384 + bit w64 * 32 + ord.code * 8 + lvl.val)
  | .amoMinu d a w64 ord lvl => some (0x2C000E40 + d.val * 524288 + a.val * 16384 + bit w64 * 32 + ord.code * 8 + lvl.val)
  | .amoMaxs d a w64 ord lvl => some (0x2C001040 + d.val * 524288 + a.val * 16384 + bit w64 * 32 + ord.code * 8 + lvl.val)
  | .amoMaxu d a w64 ord lvl => some (0x2C001240 + d.val * 524288 + a.val * 16384 + bit w64 * 32 + ord.code * 8 + lvl.val)
  | .amoFadd32 d a ord lvl => some (0x2C001440 + d.val * 524288 + a.val * 16384 + ord.code * 8 + lvl.val)
  | .amoHist d a ord lvl => some (0x2C001640 + d.val * 524288 + a.val * 16384 + ord.code * 8 + lvl.val)
  | .amoDecz d a w64 ord lvl => some (0x2C001840 + d.val * 524288 + a.val * 16384 + bit w64 * 32 + ord.code * 8 + lvl.val)
  | .amoTake d a ord lvl => some (0x2C001A60 + d.val * 524288 + a.val * 16384 + ord.code * 8 + lvl.val)
  | .amoReturn d a ord lvl => some (0x2C001C60 + d.val * 524288 + a.val * 16384 + ord.code * 8 + lvl.val)
  | .atomInv d a id ord lvl => some (0x2C000080 + d.val * 524288 + a.val * 16384 + (id.val % 32 * 512 + id.val / 32 * 32) + ord.code * 8 + lvl.val)
  | .vfadd d a b m => some (0x40000000 + d.val * 524288 + a.val * 16384 + b.val * 512 + vmaskBits m)
  | .vfsub d a b m => some (0x40000001 + d.val * 524288 + a.val * 16384 + b.val * 512 + vmaskBits m)
  | .vfmul d a b m => some (0x40000002 + d.val * 524288 + a.val * 16384 + b.val * 512 + vmaskBits m)
  | .vfdiv d a b m => some (0x40000003 + d.val * 524288 + a.val * 16384 + b.val * 512 + vmaskBits m)
  | .vfsqrt d a m => some (0x40000004 + d.val * 524288 + a.val * 16384 + vmaskBits m)
  | .vfma d a b m => some (0x40000005 + d.val * 524288 + a.val * 16384 + b.val * 512 + vmaskBits m)
  | .vfnma d a b m => some (0x40000006 + d.val * 524288 + a.val * 16384 + b.val * 512 + vmaskBits m)
  | .vfmin d a b m => some (0x40000007 + d.val * 524288 + a.val * 16384 + b.val * 512 + vmaskBits m)
  | .vfmax d a b m => some (0x40000008 + d.val * 524288 + a.val * 16384 + b.val * 512 + vmaskBits m)
  | .vfabs d a m => some (0x40000009 + d.val * 524288 + a.val * 16384 + vmaskBits m)
  | .vfneg d a m => some (0x4000000A + d.val * 524288 + a.val * 16384 + vmaskBits m)
  | .vfscaleb d a b m => some (0x4000000B + d.val * 524288 + a.val * 16384 + b.val * 512 + vmaskBits m)
  | .vfmuls d a b m => some (0x4000000C + d.val * 524288 + a.val * 16384 + b.val * 512 + vmaskBits m)
  | .vfmas d a b m => some (0x4000000D + d.val * 524288 + a.val * 16384 + b.val * 512 + vmaskBits m)
  | .vfrcp d a m => some (0x41000000 + d.val * 524288 + a.val * 16384 + vmaskBits m)
  | .vfrsq d a m => some (0x41000001 + d.val * 524288 + a.val * 16384 + vmaskBits m)
  | .vfexp2 d a m => some (0x41000002 + d.val * 524288 + a.val * 16384 + vmaskBits m)
  | .vfexp d a m => some (0x41000003 + d.val * 524288 + a.val * 16384 + vmaskBits m)
  | .vflog2 d a m => some (0x41000004 + d.val * 524288 + a.val * 16384 + vmaskBits m)
  | .vftanh d a m => some (0x41000005 + d.val * 524288 + a.val * 16384 + vmaskBits m)
  | .vfsigm d a m => some (0x41000006 + d.val * 524288 + a.val * 16384 + vmaskBits m)
  | .vfsin d a m => some (0x41000007 + d.val * 524288 + a.val * 16384 + vmaskBits m)
  | .vfcos d a m => some (0x41000008 + d.val * 524288 + a.val * 16384 + vmaskBits m)
  | .vadd d a b m => some (0x42000000 + d.val * 524288 + a.val * 16384 + b.val * 512 + vmaskBits m)
  | .vsub d a b m => some (0x42000001 + d.val * 524288 + a.val * 16384 + b.val * 512 + vmaskBits m)
  | .vmul d a b m => some (0x42000002 + d.val * 524288 + a.val * 16384 + b.val * 512 + vmaskBits m)
  | .vmulh d a b m => some (0x42000003 + d.val * 524288 + a.val * 16384 + b.val * 512 + vmaskBits m)
  | .vmulhu d a b m => some (0x42000004 + d.val * 524288 + a.val * 16384 + b.val * 512 + vmaskBits m)
  | .vadds d a b m => some (0x42000005 + d.val * 524288 + a.val * 16384 + b.val * 512 + vmaskBits m)
  | .vsubs d a b m => some (0x42000006 + d.val * 524288 + a.val * 16384 + b.val * 512 + vmaskBits m)
  | .vaddus d a b m => some (0x42000007 + d.val * 524288 + a.val * 16384 + b.val * 512 + vmaskBits m)
  | .vsubus d a b m => some (0x42000008 + d.val * 524288 + a.val * 16384 + b.val * 512 + vmaskBits m)
  | .vmin d a b m => some (0x42000009 + d.val * 524288 + a.val * 16384 + b.val * 512 + vmaskBits m)
  | .vmax d a b m => some (0x4200000A + d.val * 524288 + a.val * 16384 + b.val * 512 + vmaskBits m)
  | .vminu d a b m => some (0x4200000B + d.val * 524288 + a.val * 16384 + b.val * 512 + vmaskBits m)
  | .vmaxu d a b m => some (0x4200000C + d.val * 524288 + a.val * 16384 + b.val * 512 + vmaskBits m)
  | .vabs d a m => some (0x4200000D + d.val * 524288 + a.val * 16384 + vmaskBits m)
  | .vand d a b m => some (0x4200000E + d.val * 524288 + a.val * 16384 + b.val * 512 + vmaskBits m)
  | .vor d a b m => some (0x4200000F + d.val * 524288 + a.val * 16384 + b.val * 512 + vmaskBits m)
  | .vxor d a b m => some (0x42000010 + d.val * 524288 + a.val * 16384 + b.val * 512 + vmaskBits m)
  | .vandn d a b m => some (0x42000011 + d.val * 524288 + a.val * 16384 + b.val * 512 + vmaskBits m)
  | .vnot d a m => some (0x42000012 + d.val * 524288 + a.val * 16384 + vmaskBits m)
  | .vsll d a b m => some (0x42000013 + d.val * 524288 + a.val * 16384 + b.val * 512 + vmaskBits m)
  | .vsrl d a b m => some (0x42000014 + d.val * 524288 + a.val * 16384 + b.val * 512 + vmaskBits m)
  | .vsra d a b m => some (0x42000015 + d.val * 524288 + a.val * 16384 + b.val * 512 + vmaskBits m)
  | .vpopc d a m => some (0x42000016 + d.val * 524288 + a.val * 16384 + vmaskBits m)
  | .vclz d a m => some (0x42000017 + d.val * 524288 + a.val * 16384 + vmaskBits m)
  | .vqmul d a b m => some (0x42000018 + d.val * 524288 + a.val * 16384 + b.val * 512 + vmaskBits m)
  | .vsrar d a b m => some (0x42000019 + d.val * 524288 + a.val * 16384 + b.val * 512 + vmaskBits m)
  | .vaddx d a b m => some (0x4200001A + d.val * 524288 + a.val * 16384 + b.val * 512 + vmaskBits m)
  | .vmulx d a b m => some (0x4200001B + d.val * 524288 + a.val * 16384 + b.val * 512 + vmaskBits m)
  | .vmacx d a b m => some (0x4200001C + d.val * 524288 + a.val * 16384 + b.val * 512 + vmaskBits m)
  | .vsrax d a b m => some (0x4200001D + d.val * 524288 + a.val * 16384 + b.val * 512 + vmaskBits m)
  | .vfeq d a b m => some (0x43000000 + d.val * 524288 + a.val * 16384 + b.val * 512 + vmaskBits m)
  | .vflt d a b m => some (0x43000001 + d.val * 524288 + a.val * 16384 + b.val * 512 + vmaskBits m)
  | .vfle d a b m => some (0x43000002 + d.val * 524288 + a.val * 16384 + b.val * 512 + vmaskBits m)
  | .vfun d a b m => some (0x43000003 + d.val * 524288 + a.val * 16384 + b.val * 512 + vmaskBits m)
  | .veq d a b m => some (0x43000004 + d.val * 524288 + a.val * 16384 + b.val * 512 + vmaskBits m)
  | .vne d a b m => some (0x43000005 + d.val * 524288 + a.val * 16384 + b.val * 512 + vmaskBits m)
  | .vlt d a b m => some (0x43000006 + d.val * 524288 + a.val * 16384 + b.val * 512 + vmaskBits m)
  | .vle d a b m => some (0x43000007 + d.val * 524288 + a.val * 16384 + b.val * 512 + vmaskBits m)
  | .vltu d a b m => some (0x43000008 + d.val * 524288 + a.val * 16384 + b.val * 512 + vmaskBits m)
  | .vleu d a b m => some (0x43000009 + d.val * 524288 + a.val * 16384 + b.val * 512 + vmaskBits m)
  | .veqx d a b m => some (0x4300000A + d.val * 524288 + a.val * 16384 + b.val * 512 + vmaskBits m)
  | .vltx d a b m => some (0x4300000B + d.val * 524288 + a.val * 16384 + b.val * 512 + vmaskBits m)
  | .vgtx d a b m => some (0x4300000C + d.val * 524288 + a.val * 16384 + b.val * 512 + vmaskBits m)
  | .vsel d a b m => some (0x44000100 + d.val * 524288 + a.val * 16384 + b.val * 512 + m.val * 32)
  | .mand d a b => some (0x44000001 + d.val * 524288 + a.val * 16384 + b.val * 512)
  | .mor d a b => some (0x44000002 + d.val * 524288 + a.val * 16384 + b.val * 512)
  | .mxor d a b => some (0x44000003 + d.val * 524288 + a.val * 16384 + b.val * 512)
  | .mandn d a b => some (0x44000004 + d.val * 524288 + a.val * 16384 + b.val * 512)
  | .mnot d a => some (0x44000005 + d.val * 524288 + a.val * 16384)
  | .mpopc d a => some (0x44000006 + d.val * 524288 + a.val * 16384)
  | .mfirst d a => some (0x44000007 + d.val * 524288 + a.val * 16384)
  | .mmov d a => some (0x44000008 + d.val * 524288 + a.val * 16384)
  | .mrd d a => some (0x44000009 + d.val * 524288 + a.val * 16384)
  | .vbcast d a m => some (0x45000000 + d.val * 524288 + a.val * 16384 + vmaskBits m)
  | .vsplat d a b m => some (0x45000001 + d.val * 524288 + a.val * 16384 + b.val * 512 + vmaskBits m)
  | .vperm d a b m => some (0x45000002 + d.val * 524288 + a.val * 16384 + b.val * 512 + vmaskBits m)
  | .vperm2 d a b m => some (0x45000003 + d.val * 524288 + a.val * 16384 + b.val * 512 + vmaskBits m)
  | .vrot d a b m => some (0x45000004 + d.val * 524288 + a.val * 16384 + b.val * 512 + vmaskBits m)
  | .vslideup d a b m => some (0x45000005 + d.val * 524288 + a.val * 16384 + b.val * 512 + vmaskBits m)
  | .vslidedn d a b m => some (0x45000006 + d.val * 524288 + a.val * 16384 + b.val * 512 + vmaskBits m)
  | .vzip d a b m => some (0x45000007 + d.val * 524288 + a.val * 16384 + b.val * 512 + vmaskBits m)
  | .vunzip d a b m => some (0x45000008 + d.val * 524288 + a.val * 16384 + b.val * 512 + vmaskBits m)
  | .vcompress d a m => some (0x45000109 + d.val * 524288 + a.val * 16384 + m.val * 32)
  | .vlane d m => some (0x4500000A + d.val * 524288 + vmaskBits m)
  | .vmvx d a b => some (0x4500000B + d.val * 524288 + a.val * 16384 + b.val * 512)
  | .vins d a b => some (0x4500000C + d.val * 524288 + a.val * 16384 + b.val * 512)
  | .vredadd d a m => some (0x46000000 + d.val * 524288 + a.val * 16384 + vmaskBits m)
  | .vredaddu d a m => some (0x46000001 + d.val * 524288 + a.val * 16384 + vmaskBits m)
  | .vredmin d a m => some (0x46000002 + d.val * 524288 + a.val * 16384 + vmaskBits m)
  | .vredmax d a m => some (0x46000003 + d.val * 524288 + a.val * 16384 + vmaskBits m)
  | .vredminu d a m => some (0x46000004 + d.val * 524288 + a.val * 16384 + vmaskBits m)
  | .vredmaxu d a m => some (0x46000005 + d.val * 524288 + a.val * 16384 + vmaskBits m)
  | .vredfadd d a m => some (0x46000006 + d.val * 524288 + a.val * 16384 + vmaskBits m)
  | .vredfmin d a m => some (0x46000007 + d.val * 524288 + a.val * 16384 + vmaskBits m)
  | .vredfmax d a m => some (0x46000008 + d.val * 524288 + a.val * 16384 + vmaskBits m)
  | .vscanadd d a m => some (0x46000009 + d.val * 524288 + a.val * 16384 + vmaskBits m)
  | .vscanfadd d a m => some (0x4600000A + d.val * 524288 + a.val * 16384 + vmaskBits m)
  | .vredfaddx d a m => some (0x4600000B + d.val * 524288 + a.val * 16384 + vmaskBits m)
  | .vcvt d a fmt m p rc => some (0x47000000 + d.val * 524288 + a.val * 16384 + fmt.val * 512 + vmaskBits m + p.val * 8 + rc.code)
  | .vcvtF32 d a fmt m p => some (0x48000000 + d.val * 524288 + a.val * 16384 + fmt.val * 512 + vmaskBits m + p.val * 8)
  | .vftoi d a m rc => some (0x49000000 + d.val * 524288 + a.val * 16384 + vmaskBits m + rc.code)
  | .vftou d a m rc => some (0x49000008 + d.val * 524288 + a.val * 16384 + vmaskBits m + rc.code)
  | .vitof d a m rc => some (0x49000010 + d.val * 524288 + a.val * 16384 + vmaskBits m + rc.code)
  | .vutof d a m rc => some (0x49000018 + d.val * 524288 + a.val * 16384 + vmaskBits m + rc.code)
  | .vcvtMx d a b m p rc => some (0x4A000000 + d.val * 524288 + a.val * 16384 + b.val * 512 + vmaskBits m + p.val * 8 + rc.code)
  | .vcvtF32Mx d a b m p rc => some (0x4B000000 + d.val * 524288 + a.val * 16384 + b.val * 512 + vmaskBits m + p.val * 8 + rc.code)
  | .vmxsc d a fmt m => some (0x4C000000 + d.val * 524288 + a.val * 16384 + fmt.val * 512 + vmaskBits m)
  | .vrand d m => some (0x4C000001 + d.val * 524288 + vmaskBits m)
  | .vnarrow d a fmt m p => some (0x4D000000 + d.val * 524288 + a.val * 16384 + fmt.val * 512 + vmaskBits m + p.val * 8)
  | .vwiden d a fmt m p => some (0x4D000004 + d.val * 524288 + a.val * 16384 + fmt.val * 512 + vmaskBits m + p.val * 8)
  | .vld d a m es => some (0x4E000000 + d.val * 524288 + a.val * 16384 + vmaskBits m + es.val)
  | .vst d a m es => some (0x4E000004 + d.val * 524288 + a.val * 16384 + vmaskBits m + es.val)
  | .vlds d a b m es => some (0x4E000008 + d.val * 524288 + a.val * 16384 + b.val * 512 + vmaskBits m + es.val)
  | .vsts d a b m es => some (0x4E00000C + d.val * 524288 + a.val * 16384 + b.val * 512 + vmaskBits m + es.val)
  | .vgather d a b m es => some (0x4E000010 + d.val * 524288 + a.val * 16384 + b.val * 512 + vmaskBits m + es.val)
  | .vscatter d a b m es => some (0x4E000014 + d.val * 524288 + a.val * 16384 + b.val * 512 + vmaskBits m + es.val)
  | .mma acc qa bl => some (0x60000000 + (acc.val % 32 * 524288 + acc.val / 32 * 256) + qa.val * 16384 + bl.val * 512)
  | .mmaKeep acc qa bl => some (0x60000001 + (acc.val % 32 * 524288 + acc.val / 32 * 256) + qa.val * 16384 + bl.val * 512)
  | .mmaSeg acc qa b => some (0x60000002 + (acc.val % 32 * 524288 + acc.val / 32 * 256) + qa.val * 16384 + b.val * 512)
  | .mmaSegKeep acc qa b => some (0x60000003 + (acc.val % 32 * 524288 + acc.val / 32 * 256) + qa.val * 16384 + b.val * 512)
  | .qaLd qa a => some (0x61000000 + qa.val * 524288 + a.val * 16384)
  | .blLd bl a => some (0x61000001 + bl.val * 524288 + a.val * 16384)
  | .qaPop qa => some (0x61000002 + qa.val * 524288)
  | .mxWait => some (0x61000003)
  | .accClr acc a => some (0x62000000 + (acc.val % 32 * 524288 + acc.val / 32 * 256) + a.val * 16384)
  | .accRebase acc a => some (0x62000001 + (acc.val % 32 * 524288 + acc.val / 32 * 256) + a.val * 16384)
  | .accAdd acc src => some (0x62000002 + (acc.val % 32 * 524288 + acc.val / 32 * 256) + (src.val % 32 * 16384 + src.val / 32 * 128))
  | .accLd acc a => some (0x62000003 + (acc.val % 32 * 524288 + acc.val / 32 * 256) + a.val * 16384)
  | .accSt acc a => some (0x62000004 + (acc.val % 32 * 524288 + acc.val / 32 * 256) + a.val * 16384)
  | .accCvt acc a b rc => some (0x63000000 + (acc.val % 32 * 524288 + acc.val / 32 * 256) + a.val * 16384 + b.val * 512 + rc.code)
  | .accCvtQ acc qa b rc => some (0x63000008 + (acc.val % 32 * 524288 + acc.val / 32 * 256) + qa.val * 16384 + b.val * 512 + rc.code)
  | .precI d a b => some (0x63000010 + d.toNat * 524288 + a.toNat * 16384 + b.toNat * 512)
  | .precX d a => some (0x63000018 + d.val * 524288 + a.val * 16384)
  | .cp d p k g => some (0x70000000 + d.val * 524288 + p.val * 16384 + ktagBits k + g.val * 128)
  | .cp2d d p k g => some (0x70000001 + d.val * 524288 + p.val * 16384 + ktagBits k + g.val * 128)
  | .cpFill d p k g => some (0x70000002 + d.val * 524288 + p.val * 16384 + ktagBits k + g.val * 128)
  | .cpGather d p k g => some (0x71000000 + d.val * 524288 + p.val * 16384 + ktagBits k + g.val * 128)
  | .cpScatter d p k g => some (0x71000001 + d.val * 524288 + p.val * 16384 + ktagBits k + g.val * 128)
  | .cpDecomp d p k g => some (0x71000002 + d.val * 524288 + p.val * 16384 + ktagBits k + g.val * 128)
  | .fifoFeed d p k g => some (0x72000000 + d.val * 524288 + p.val * 16384 + ktagBits k + g.val * 128)
  | .agPort d p k g => some (0x72000001 + d.val * 524288 + p.val * 16384 + ktagBits k + g.val * 128)
  | .send d ch b => some (0x74000000 + d.val * 524288 + ch.val * 16384 + b.val * 512)
  | .sendRaw d ch b => some (0x74000001 + d.val * 524288 + ch.val * 16384 + b.val * 512)
  | .recv d ch => some (0x74000002 + d.val * 524288 + ch.val * 16384)
  | .tryrecv d ch => some (0x74000003 + d.val * 524288 + ch.val * 16384)
  | .alt d a => some (0x74000004 + d.val * 524288 + a.val * 16384)
  | .chGrant d ch b => some (0x74000005 + d.val * 524288 + ch.val * 16384 + b.val * 512)
  | .chClose ch => some (0x74000006 + ch.val * 16384)
  | .waitlt k n => some (0x75000000 + k.val * 16384 + n.val * 512)
  | .waitltX k b => some (0x75000001 + k.val * 16384 + b.val * 512)
  | .kRd d k => some (0x75000002 + d.val * 524288 + k.val * 16384)
  | .kAdd k b => some (0x75000003 + k.val * 16384 + b.val * 512)
  | .msgSend d a b => some (0x75000004 + d.val * 524288 + a.val * 16384 + b.val * 512)
  | .msgEnd => some (0x75000005)
  | .spawn d a => some (0x80000000 + d.val * 524288 + a.val * 16384)
  | .spawnTree d a b => some (0x80000001 + d.val * 524288 + a.val * 16384 + b.val * 512)
  | .dec d a => some (0x80000002 + d.val * 524288 + a.val * 16384)
  | .taskIns d => some (0x80000003 + d.val * 524288)
  | .scopeOpen d a => some (0x81000000 + d.val * 524288 + a.val * 16384)
  | .scopeId d a => some (0x81000001 + d.val * 524288 + a.val * 16384)
  | .cancel d a b k => some (0x81000002 + d.val * 524288 + a.val * 16384 + b.val * 512 + ctagBits k)
  | .cancelWait d a => some (0x81000003 + d.val * 524288 + a.val * 16384)
  | .killHold => some (0x81000004)
  | .killOpen d => some (0x81000005 + d.val * 524288)
  | .barJoin d a => some (0x82000000 + d.val * 524288 + a.val * 16384)
  | .barArrive d a => some (0x82000001 + d.val * 524288 + a.val * 16384)
  | .barWait d a b => some (0x82000002 + d.val * 524288 + a.val * 16384 + b.val * 512)
  | .barLeave d a => some (0x82000003 + d.val * 524288 + a.val * 16384)
  | .gangSync d => some (0x82000004 + d.val * 524288)
  | .endTask a => some (0x83000000 + a.val * 16384)
  | .selCfg a => some (0x84000000 + a.val * 16384)
  | .selMask a => some (0x84000001 + a.val * 16384)
  | .selDead a b => some (0x84000002 + a.val * 16384 + b.val * 512)
  | .topk d a b k => some (0x84000003 + d.val * 524288 + a.val * 16384 + b.val * 512 + k.val * 16)
  | .topkMore d a b k => some (0x84000004 + d.val * 524288 + a.val * 16384 + b.val * 512 + k.val * 16)
  | .selRes d a => some (0x84000005 + d.val * 524288 + a.val * 16384)
  | .selWait => some (0x84000006)
  | .csrrd d csr => some (0xF0000000 + d.val * 524288 + (csr.toNat / 128 * 512 + csr.toNat % 128))
  | .csrrw d a csr => some (0xF0000080 + d.val * 524288 + a.val * 16384 + (csr.toNat / 128 * 512 + csr.toNat % 128))
  | .csrrs d a csr => some (0xF0000100 + d.val * 524288 + a.val * 16384 + (csr.toNat / 128 * 512 + csr.toNat % 128))
  | .csrrc d a csr => some (0xF0000180 + d.val * 524288 + a.val * 16384 + (csr.toNat / 128 * 512 + csr.toNat % 128))
  | .tret => some (0xF1000000)
  | .idle => some (0xF1000001)
  | .tlbInv a b => some (0xF1000002 + a.val * 16384 + b.val * 512)
  | .guardWr d a b => some (0xF1000003 + d.val * 524288 + a.val * 16384 + b.val * 512)
  | .frameWr d a b => some (0xF1000004 + d.val * 524288 + a.val * 16384 + b.val * 512)
  | .slotSave d a => some (0xF2000000 + d.val * 524288 + a.val * 16384)
  | .slotRestore d a b => some (0xF2000001 + d.val * 524288 + a.val * 16384 + b.val * 512)

/-- A 32-bit number from four bytes, lowest first (spec/00 R3). -/
def wordOfBytes (bs : Bytes) : Nat := bs.foldr (fun b acc => b.toNat + 256 * acc) 0

/-- The low `n` bytes of a number, lowest first (spec/00 R3). -/
def bytesOfWord (n w : Nat) : Bytes :=
  match n with
  | 0 => []
  | n + 1 => BitVec.ofNat 8 w :: bytesOfWord n (w / 256)

/-- The instruction that the decoder reads from an instruction whose bits are `w`, numbered as spec/opcode_table.json
numbers them: one 32-bit word, stored little-endian (spec/05 R106). -/
noncomputable def decodeTableWord (nbits w : Nat) : Option Instr :=
  match decode (wordOfBytes (bytesOfWord 4 (w % 2 ^ nbits))) with
  | .ok i => some i
  | .error _ => none

end Sys2Proof
end

