-- ==== Sys2Proof/Machine/State.lean ====
section
/-! DEFINITION. Everything the spec gives one RK9 module to hold, as plain data, and its value right after reset
(spec/18 R379). Fields marked MODEL are the model's own. Maps are lists keyed by number; an absent key stands for the
reset value of its kind. -/

namespace Sys2Proof.Machine

/-- What stops the machine. -/
inductive Fault where
  /-- A CXL.mem access outside the range of the HDM decoder, an address that does not exist on the device (spec/16
  R353): raised by HOST_MEM_READ and HOST_MEM_WRITE. Safe: nothing is claimed of such an access. -/
  | outsideHdm (hpa : Nat)
  deriving DecidableEq, Repr

/-- What the model gives no meaning. -/
inductive Refusal where
  /-- An instruction whose meaning is not written. Safe. -/
  | notModelled (mnemonic : String)
  deriving DecidableEq, Repr

/-- The three banks of scalar state of a slot (spec/02 R55, spec/13 R267). -/
inductive Bank where
  | main | handler | trap
  deriving DecidableEq, Repr

/-- Slot states (spec/02 Table 2.7). -/
inductive SlotState where
  | empty | reserved | issue | blocked | matrix | handler | saving
  deriving DecidableEq, Repr

/-- A level of the loop stack (spec/06 R140). -/
structure LoopLevel where
  first : Nat
  last : Nat
  deriving DecidableEq, Repr

/-- One flow's registers: PC, x0 to x31 (x0 stays 0), m0 to m7, lc0, lc1 and the loop stack, innermost level last
(spec/06 R127, R140; spec/02 R55). -/
structure Flow where
  pc : Nat
  x : Vector Word 32
  m : Vector Word 8
  lc0 : BitVec 32
  lc1 : BitVec 32
  loops : List LoopLevel
  deriving DecidableEq, Repr

/-- The flow registers at task start and after reset: 0 (spec/02 Table 2.3; log 4). -/
def Flow.zero : Flow :=
  { pc := 0, x := Vector.replicate 32 0, m := Vector.replicate 8 0, lc0 := 0, lc1 := 0, loops := [] }

/-- The tile resources lent to a slot (spec/01 R17; spec/05 Table 5.8). -/
structure Grant where
  k : BitVec 16
  ch : BitVec 16
  qa : BitVec 4
  bl : BitVec 4
  ag : BitVec 8
  acc : BitVec 64
  deriving DecidableEq, Repr

/-- Nothing granted. -/
def Grant.none : Grant := { k := 0, ch := 0, qa := 0, bl := 0, ag := 0, acc := 0 }

/-- SSTATUS (spec/13 Table 13.2). -/
structure Status where
  super : Bool
  tbank : Bool
  khold : Bool
  inh : Bool
  lock : Bool
  deriving DecidableEq, Repr

/-- What a BLOCKED slot waits for (spec/02 Table 2.7). -/
inductive Wait where
  /-- WAITLT: counter and threshold (spec/09 R221). -/
  | counter (k : Nat) (t : Nat)
  /-- RECV (spec/09 R216). -/
  | recv (d : Reg) (ch : Nat)
  /-- ALT: the mask of endpoints (spec/09 R217). -/
  | alt (d : Reg) (mask : BitVec 16)
  /-- SEND and SEND.RAW: the token read from memory (spec/09 R215). -/
  | send (d : Reg) (ch : Nat) (token : Token)
  /-- BAR.WAIT: word address and phase (spec/10 R247). -/
  | barrier (d : Reg) (addr : Word) (phase : BitVec 16)
  /-- GANG.SYNC: the generation (spec/10 R249). -/
  | gang (d : Reg) (generation : Nat)
  /-- CANCEL.WAIT: the scope's key (spec/10 R239). -/
  | scope (d : Reg) (key : Nat)
  /-- IDLE: MSG.ENDs of the tile seen at its issue (spec/13 R281). -/
  | idle (seen : Nat)
  /-- TLB.INV: TLBs that have still to acknowledge (spec/13 R281, spec/15 R322). -/
  | tlb (left : List Nat)
  /-- END: its status (spec/10 R235). -/
  | ending (status : Byte)
  /-- A wait whose condition has been met: the register and its value (spec/10 R239). -/
  | settled (d : Reg) (v : Word)
  deriving DecidableEq, Repr

/-- A scalar result on its way to its register: bank, register, value and flags; the unit is 1 for the integer divider
and 2 for the FP32 divide-and-root unit, which one instruction occupies at a time (spec/06 R127, R128). -/
structure Result where
  bank : Bank
  reg : Reg
  value : Word
  flags : BitVec 7
  unit : Nat
  deriving DecidableEq, Repr

/-- The vector operations (spec/07), one name per instruction. -/
inductive VecOp where
  | fadd | fsub | fmul | fdiv | fsqrt | fma | fnma | fmin | fmax | fabs | fneg | fscaleb | fmuls | fmas
  | frcp | frsq | fexp2 | fexp | flog2 | ftanh | fsigm | fsin | fcos
  | add | sub | mul | mulh | mulhu | adds | subs | addus | subus | min | max | minu | maxu | abs | and | or | xor | andn
  | not | sll | srl | sra | popc | clz | qmul | srar | addx | mulx | macx | srax
  | cfeq | cflt | cfle | cfun | ceq | cne | clt | cle | cltu | cleu | ceqx | cltx | cgtx
  | sel | mand | mor | mxor | mandn | mnot | mpopc | mfirst | mmov | mrd
  | bcast | splat | perm | perm2 | rot | slideup | slidedn | zip | unzip | compress | lane | mvx | ins
  | redadd | redaddu | redmin | redmax | redminu | redmaxu | redfadd | redfmin | redfmax | scanadd | scanfadd | redfaddx
  | cvt | cvtF32 | ftoi | ftou | itof | utof | cvtMx | cvtF32Mx | mxsc | rand | narrow | widen
  | ld | st | lds | sts | gather | scatter
  deriving DecidableEq, Repr

/-- Where an address leads (spec/04 Table 4.2). -/
inductive Target where
  /-- A window offset of a tile of this module: scratchpad, Bushel or control page. -/
  | tile (gtile off : Nat)
  /-- A window offset of a tile of another package. -/
  | remoteTile (pkg gtile off : Nat)
  /-- A DRAM offset of a die of this module, under a key: partition × 64 + KEYID, or 0 for none. -/
  | dram (die off key : Nat)
  /-- A page of a peer module. -/
  | peer (pkg : Nat)
  /-- A page of the host: physical address. -/
  | host (pa : Nat)
  deriving DecidableEq, Repr

/-- An entry of a slot's vector queue with what it read at issue (spec/07 R156): register numbers, mask, format, part,
element size, the scalar sources, the rounding code, SEED and SRSEQ; `serial` orders the entries of the slot. -/
structure VecEntry where
  op : VecOp
  bank : Bank
  pc : Nat
  d : Fin 32
  a : Fin 32
  b : Fin 32
  mask : VMask
  fmt : Nat
  part : Nat
  es : Nat
  xa : Word
  xb : Word
  rc : Nat
  seed : Word
  seq : BitVec 32
  super : Bool
  /-- Where the lanes of a memory access lead, as its checks found. -/
  targets : List Target
  serial : Nat
  /-- A load that waits for bytes from outside the module: the addresses of its active lanes. -/
  addrs : List Word := []
  deriving DecidableEq, Repr

/-- The matrix operations (spec/08 Table 8.4). -/
inductive MatOp where
  | mma | mmaSeg | qaLd | blLd | qaPop | accClr | accRebase | accAdd | accLd | accSt | accCvt | accCvtQ
  deriving DecidableEq, Repr

/-- An entry of a slot's matrix queue with what it read at issue (spec/08 R182, R188 to R192). -/
structure MatEntry where
  op : MatOp
  bank : Bank
  pc : Nat
  acc : Nat
  src : Nat
  qa : Nat
  bl : Nat
  keep : Bool
  xa : Word
  xb : Word
  prec : Word
  rc : Nat
  seed : Word
  seq : BitVec 32
  maxsp : Nat
  /-- The reservation it took at issue on its FIFO (spec/08 R178). -/
  fill : Nat
  /-- The flags of a conversion, once the entry has bound (spec/08 R192). -/
  flags : BitVec 7
  serial : Nat
  deriving DecidableEq, Repr

/-- The select operations (spec/10 Table 10.1). -/
inductive SelOp where
  | cfg | mask | dead | topk | topkMore | res
  deriving DecidableEq, Repr

/-- An entry of a slot's select queue (spec/10 R252). -/
structure SelEntry where
  op : SelOp
  bank : Bank
  d : Reg
  xa : Word
  xb : Word
  k : Nat
  /-- The scores or the mask, read when the entry binds. -/
  data : Bytes
  serial : Nat
  deriving DecidableEq, Repr

/-- A slot's select context (spec/10 R250): the configuration, the one named by the last SEL.CFG issued, the dead mask,
WIN and GRP. -/
structure SelectContext where
  cfg : Word
  issued : Word
  dead : BitVec 1024
  win : BitVec 1024
  grp : BitVec 1024
  deriving DecidableEq, Repr

/-- A barrier membership (spec/10 R247): the word's address, and the PHASE in which the member last arrived. -/
structure Membership where
  addr : Word
  arrived : Option (BitVec 16)
  deriving DecidableEq, Repr

/-- Where a kill or a pre-emption stands for a slot (spec/10 R240; spec/13 R283). -/
structure Freeze where
  /-- Cycle at which issue stopped. -/
  since : Nat
  /-- The task stays HELD (SLOT.SAVE and TASK delivery). -/
  held : Bool
  /-- The trap record of TASK delivery. -/
  record : Option Bytes
  /-- Translated address of the image range in the save area. -/
  image : Nat
  /-- The image has been written; its writes to another module or the host have still to be performed. -/
  written : Bool := false
  deriving DecidableEq, Repr

/-- A task slot (spec/01 R16; spec/02 R27, R35, R55; spec/05 R111; spec/13 R267, R268). -/
structure Slot where
  state : SlotState
  main : Flow
  handler : Flow
  trap : Flow
  v : Vector VReg 32
  hv : Vector VReg 32
  prec : Word
  rm : Word
  flags : Word
  seed : Word
  srseq : BitVec 32
  instance_ : Word
  taskid : Word
  grant : Grant
  levels : Vector Byte 8
  clevel : Nat
  /-- Partition, image handle and kernel index of the kernel whose code it runs. -/
  part : Nat
  image : Nat
  kernel : Nat
  /-- Handle of its task (ETASK). -/
  task : Word
  status : Status
  epc : Word
  ecause : Byte
  etval : Word
  tscratch : Word
  umat : Word
  uvec : Word
  usel : Word
  /-- The slot runs a handler (spec/02 R55), and what it does when the handler ends. -/
  inHandler : Bool
  /-- The wait the handler interrupted, or END's. -/
  resume : Option Wait
  wait : Option Wait
  waitSerial : Nat
  /-- KILL.HOLD: the cycle at which the open region expires; the expiry mark (spec/10 R240). -/
  hold : Option Nat
  expired : Bool
  /-- The slot has learned that its task's scope is CANCELLING (spec/10 R240). -/
  killNotice : Bool
  /-- A kill took effect at a region's expiry (Table 10.7 FORCED). -/
  forced : Bool
  memberships : List Membership
  gangSyncs : Nat
  gang : Option Nat
  dx : Nat
  dy : Nat
  results : List Result
  vq : List VecEntry
  /-- Vector entries that have begun and not completed: loads waiting for data are among them. -/
  vbound : List VecEntry
  mq : List MatEntry
  mbound : List MatEntry
  sq : List SelEntry
  sbound : List SelEntry
  entrySerial : Nat
  /-- A VGATHER or VSCATTER that has not passed its checks, or an MMA: the slot issues nothing (spec/07 R173). -/
  heldBy : Option Nat
  sel : SelectContext
  /-- A trap found at the head of a queue: cause and value, PC (spec/13 R273). -/
  deferred : Option (Byte × Word × Nat)
  freeze : Option Freeze
  /-- The task has been killed and its effects have still to settle: the grant has not ended (spec/10 R241; log 68). -/
  settling : Bool
  deriving DecidableEq, Repr

/-- A slot right after reset: EMPTY, every register 0 (spec/18 R379; log 4). -/
def Slot.reset : Slot :=
  { state := .empty, main := Flow.zero, handler := Flow.zero, trap := Flow.zero
    v := Vector.replicate 32 0, hv := Vector.replicate 32 0
    prec := 0, rm := 0, flags := 0, seed := 0, srseq := 0, instance_ := 0, taskid := 0
    grant := Grant.none, levels := Vector.replicate 8 0, clevel := 0, part := 0, image := 0, kernel := 0, task := 0
    status := { super := false, tbank := false, khold := false, inh := false, lock := false }
    epc := 0, ecause := 0, etval := 0, tscratch := 0, umat := 0, uvec := 0, usel := 0
    inHandler := false, resume := none, wait := none, waitSerial := 0
    hold := none, expired := false, killNotice := false, forced := false
    memberships := [], gangSyncs := 0, gang := none, dx := 0, dy := 0
    results := [], vq := [], vbound := [], mq := [], mbound := [], sq := [], sbound := [], entrySerial := 0
    heldBy := none, sel := { cfg := 0, issued := 0, dead := 0, win := 0, grp := 0 }
    deferred := none, freeze := none, settling := false }

/-- A position of an A-operand FIFO: RESERVED by fill `fill`, or FULL; its image, offset by offset; a poison mark
(spec/08 R178, R197). FREE positions are not listed. -/
structure FifoPos where
  fill : Nat
  full : Bool
  image : List Host.Cell
  poison : Bool
  deriving DecidableEq, Repr

/-- A B latch: its image and its poison mark (spec/08 R178, R197). -/
structure Latch where
  image : List Host.Cell
  poison : Bool
  deriving DecidableEq, Repr

/-- Why an engine operation is stopped: the FKIND and the address (spec/15 R323). -/
structure EngineStop where
  fkind : Nat
  va : Word
  deriving DecidableEq, Repr

/-- A command held by an address generator (spec/09 R198 to R208): its copy of the block, TICKET, the counter charged,
the mode and task of its issue, and its progress. -/
structure EngineCmd where
  kind : Nat
  block : Bytes
  ticket : BitVec 32
  k : KTag
  super : Bool
  slot : Nat
  task : Word
  part : Nat
  started : Bool
  /-- Segments written, FULL images or requests taken (spec/09 R210). -/
  progress : Nat
  done : Nat
  discarded : Nat
  pois : Bool
  stop : Option EngineStop
  /-- The outcome (Table 9.5 CODE), once the operation has ended. -/
  code : Option Nat
  /-- The reservation of a FIFO.FEED that is filling (spec/09 R207). -/
  fill : Option Nat
  /-- The Fathom context it runs in (spec/15 R323). -/
  ctx : Option Nat
  /-- CP.GATHER, CP.SCATTER: row in progress, its index word once read, segments of the row written. CP.DECOMP: `row` is 1
  once its residency record has been sent, `index` the token whose scale bytes have been found unpoisoned. FIFO.FEED: `seg` counts the pieces
  of the image that have been read. -/
  row : Nat
  index : Option Nat
  seg : Nat
  /-- It is a request that an AG.PORT behind it executes (spec/09 R208). -/
  inner : Bool
  /-- Its completion record has been written. -/
  recorded : Bool
  /-- It was cut by a kill: no message and no residency record (spec/09 Table 9.6). -/
  cut : Bool := false
  /-- The scope of its task. -/
  scope : Nat := 0
  /-- It is stopped, and its home has advanced: it tries again (spec/15 R333). -/
  asking : Bool := false
  deriving DecidableEq, Repr

/-- An address generator (spec/09 R199, R201): its commands, oldest first, and TICKET. -/
structure Gen where
  queue : List EngineCmd
  ticket : BitVec 32
  deriving DecidableEq, Repr

/-- The side of a channel endpoint (spec/09 R212). -/
inductive Side where
  | unbound | sender | receiver
  deriving DecidableEq, Repr

/-- The state of a channel endpoint (spec/02 R51). -/
inductive EndState where
  | opened | closed | broken
  deriving DecidableEq, Repr

/-- A token in a backing queue (spec/09 R216): its place in the channel's sequence, its kind, the beats written, the
beats of the whole token, and whether its tail has arrived and when. -/
structure QueuedToken where
  seq : Nat
  kind : TokenKind
  beats : Nat
  tail : Bool
  time : Nat
  deriving DecidableEq, Repr

/-- A channel endpoint (spec/02 R48 to R53; spec/09 R212 to R219). -/
structure Endpoint where
  side : Side
  state : EndState
  manual : Bool
  depth : Nat
  entryBeats : Nat
  qoff : Nat
  /-- Package, global tile and endpoint of the other end, once it is bound. -/
  peer : Option (Nat × Nat × Nat)
  /-- The channel of its template, to bind the other end. -/
  chan : Nat
  /-- Sender: units held. -/
  allowance : Nat
  /-- Sender: tokens sent, data and control. Receiver: tokens arrived. -/
  count : Nat
  /-- Sender: beats sent of a token whose tail has not left. -/
  sent : Nat
  /-- Receiver: tokens taken. Sender: units that came back. -/
  taken : Nat
  /-- Receiver: units returned. -/
  returned : Nat
  tokens : List QueuedToken
  /-- Receiver: the entry held (spec/09 R216). -/
  held : Option Nat
  /-- Cycle at which the token before the head was taken (spec/09 R217). -/
  lastTaken : Nat
  /-- The generator whose command holds it (spec/09 R219). -/
  heldBy : Option Nat
  /-- It rides a lane group (spec/02 R50), not packets. -/
  lane : Bool
  /-- The continuation mark: entry and next beat (spec/16 R340). -/
  mark : Option (Nat × Nat)
  /-- The sender's peers hold transmission for a pre-emption (spec/13 R283). -/
  frozen : Bool
  /-- It took END or END-CANCELLED, which later receipts return again (spec/09 Table 9.9). -/
  ended : Option TokenKind
  /-- The instance its channel belongs to. -/
  serial : Nat
  deriving DecidableEq, Repr

/-- An endpoint that is not bound. -/
def Endpoint.unbound : Endpoint :=
  { side := .unbound, state := .opened, manual := false, depth := 0, entryBeats := 0, qoff := 0, peer := none, chan := 0
    allowance := 0, count := 0, sent := 0, taken := 0, returned := 0, tokens := [], held := none, lastTaken := 0, heldBy := none
    lane := false, mark := none, frozen := false, ended := none, serial := 0 }

/-- A tile's inbox (spec/02 R54; spec/09 R223): its owner slot, messages queued and dequeued since it has one, MSG.ENDs. -/
structure Inbox where
  owner : Option Nat
  arrived : Nat
  taken : Nat
  msgEnds : Nat
  deriving DecidableEq, Repr

/-- A deficit round robin over four slots (spec/02 R40): the deficits, the slot visited, whether it has had its quantum,
and the entry that occupies the engine (slot and serial). -/
structure Arbiter where
  deficit : Vector Nat 4
  at_ : Fin 4
  credited : Bool
  busy : Option (Nat × Nat)
  deriving DecidableEq, Repr

/-- An idle arbiter. -/
def Arbiter.idle : Arbiter := { deficit := Vector.replicate 4 0, at_ := 0, credited := false, busy := none }

/-- A translation held by a TLB: words 0 to 2 of the entry (spec/15 R312, R320). -/
structure TlbEntry where
  part : Nat
  home : Nat
  w0 : Word
  w1 : Word
  w2 : Word
  /-- The context of a Fathom engine that it serves (spec/15 R320). -/
  ctx : Nat := 0
  deriving DecidableEq, Repr

/-- A TLB: its translations, most recent first; the latest GEN of each home and partition, keyed home × 16 + partition
(spec/15 R321); and the answers `no entry` on their way to the accesses that asked, by partition, address and asker. -/
structure Tlb where
  entries : List TlbEntry
  gens : List (Nat × Nat)
  answers : List (Nat × Word × Nat)
  deriving DecidableEq, Repr

/-- A task-hosting tile (spec/01 Table 1.4). -/
structure Tile where
  part : Option Nat
  fixed : Bool
  last : Fin 4
  k : Vector (BitVec 16) 16
  fifos : Vector (List FifoPos) 4
  latches : Vector Latch 4
  gens : Vector Gen 8
  chans : Vector Endpoint 16
  inbox : Inbox
  /-- The tile error counters in the order of spec/13 Table 13.6. -/
  errors : Vector Word 8
  /-- The code store: partition, image and kernel, most recently placed first (spec/14 R310). -/
  code : List (Nat × Nat × Nat)
  /-- The residency table of an S-tile (spec/10 R253). -/
  residency : List (Nat × (Word × Word))
  tlb : Tlb
  vec : Arbiter
  mat : Arbiter
  sel : Arbiter
  /-- Backing queues and inbox ranges reserved by the placer: slot, offset, size (spec/14 R310). -/
  reserved : List (Nat × Nat × Nat)
  /-- Bindable lane groups in use on the tile's links, north, east, south, west (spec/16 R339). -/
  groups : Vector Nat 4
  /-- The next fill of a FIFO. -/
  nextFill : Nat
  deriving DecidableEq, Repr

/-- A tile right after reset, which belongs to no partition (spec/18 R379). -/
def Tile.reset : Tile :=
  { part := none, fixed := false, last := 3, k := Vector.replicate 16 0, fifos := Vector.replicate 4 []
    latches := Vector.replicate 4 { image := [], poison := false }
    gens := Vector.replicate 8 { queue := [], ticket := 0 }, chans := Vector.replicate 16 Endpoint.unbound
    inbox := { owner := none, arrived := 0, taken := 0, msgEnds := 0 }, errors := Vector.replicate 8 0
    code := [], residency := [], tlb := { entries := [], gens := [], answers := [] }, vec := Arbiter.idle, mat := Arbiter.idle
    sel := Arbiter.idle, reserved := [], groups := Vector.replicate 4 0, nextFill := 1 }

/-- A placed gang (spec/02 R42 to R47): its leader's record, base, template gang, members that have started, and for a
lockstep gang the gang clock with the members that have still to issue the gang cycle. -/
structure Gang where
  part : Nat
  image : Nat
  tmpl : Nat
  gidx : Nat
  leader : Word
  col0 : Nat
  row0 : Nat
  lockstep : Bool
  fixed : Bool
  /-- Slots held by the footprint (global slot numbers). -/
  slots : List Nat
  /-- Shared resources that have been granted to a member so far, tile by tile (spec/02 Table 2.3). -/
  granted : List (Nat × Grant)
  /-- Members that ended or died since placement (spec/10 R249). -/
  ended : Nat
  /-- GANG.SYNC generations completed. -/
  generations : Nat
  clock : Nat
  /-- Slots that have still to issue gang cycle `clock`. -/
  left : List Nat
  stalled : Bool
  /-- The die cycle at which the gang resumes, once set (spec/02 R47). -/
  resumeAt : Option Nat
  deriving DecidableEq, Repr

/-- Task states (spec/02 Table 2.5; spec/14 Table 14.8). -/
inductive TaskState where
  | free | waiting | ready | placing | running | preempted | ended | dead
  deriving DecidableEq, Repr

/-- Ready-entry states (spec/14 Table 14.9). -/
inductive ReadyState where
  | none | queued | chosen | prefetch | runnable
  deriving DecidableEq, Repr

/-- A prefetch pair chosen for a task (spec/14 R303): argument word, source address, LEN, DOFF, the cycle it began to
wait, the merged read that it has joined once issued, the bytes copied so far, and its outcome. -/
structure Prefetch where
  word : Nat
  src : Word
  len : Nat
  doff : Nat
  since : Nat
  outcome : Option Bool
  issued : Option Nat := none
  done : Nat := 0
  deriving DecidableEq, Repr

/-- A task record (spec/14 Table 14.8), with what the Tun and the dispatcher keep beside it. -/
structure TaskRec where
  state : TaskState
  lead : Bool
  member : Bool
  spawned : Bool
  sys : Bool
  held : Bool
  killed : Bool
  gen : BitVec 16
  count : Nat
  clevel : Nat
  cls : Nat
  scope : Nat
  cost : Nat
  dist : Nat
  serial : Nat
  ord : BitVec 32
  node : Nat
  queue : Nat
  gidx : Option Nat
  dx : Nat
  dy : Nat
  pslot : Nat
  leader : Nat
  seed : Word
  instat : Word
  tpost : Word
  /-- PLACING, RUNNING: the global slot. PREEMPTED: the slot it left. -/
  loc : Option Nat
  /-- Save image address (spec/14 Table 14.8 LOC). -/
  saved : Word
  part : Nat
  image : Nat
  tmpl : Nat
  succ : List Word
  /-- Decrements still expected from each die (spec/17 R376). -/
  expected : Vector Nat 4
  ready : ReadyState
  bypassed : Nat
  prefetches : List Prefetch
  /-- The prefetch range of a pair is reserved for saving (spec/14 R303). -/
  ranges : List (Nat × Nat)
  /-- PC and x1 of a task started by SPAWN.TREE (spec/10 R232). -/
  start : Option (Nat × Word)
  gang : Option Nat
  /-- Cycle at which it became CHOSEN (spec/14 R311). For a task spawned into a lockstep gang, the gang cycle from which it
  is late (spec/10 R230, R232). -/
  chosenAt : Nat
  /-- Cycle until which it is no victim (spec/14 R311). -/
  noVictim : Nat
  /-- The tile SLOT.RESTORE named (spec/13 R281). -/
  target : Option Nat
  /-- PREEMPTED: the GANG.SYNC count of its save image (spec/13 Table 13.11), and the channel endpoints, generators and
  barrier memberships that the image's protected sections hold (spec/13 R285, R286). -/
  syncs : Nat
  parkedChans : List (Nat × Endpoint)
  parkedGens : List (Nat × Gen)
  parkedBars : List Membership
  /-- The slots marked for it while it waits to resume (spec/14 R310). -/
  marks : List Nat := []
  /-- The resources whose contents its save image holds (spec/13 R284), and the bytes of the image that its CRC protects (R286). -/
  kept : Grant := Grant.none
  guarded : Bytes := []
  /-- Cycle at which its slot was granted (spec/14 R311). -/
  placedAt : Nat := 0
  /-- Decrements still expected from other packages (spec/01 R19). -/
  far : Nat := 0
  deriving DecidableEq, Repr

/-- A free Tun entry. -/
def TaskRec.free : TaskRec :=
  { state := .free, lead := false, member := false, spawned := false, sys := false, held := false, killed := false
    gen := 0, count := 0, clevel := 0, cls := 0, scope := 0, cost := 0, dist := 0, serial := 0, ord := 0, node := 0
    queue := 0, gidx := none, dx := 0, dy := 0, pslot := 0, leader := 0, seed := 0, instat := 0, tpost := 0, loc := none
    saved := 0, part := 0, image := 0, tmpl := 0, succ := [], expected := Vector.replicate 4 0, ready := .none
    bypassed := 0, prefetches := [], ranges := [], start := none, gang := none, chosenAt := 0
    noVictim := 0, target := none, syncs := 0, parkedChans := [], parkedGens := [], parkedBars := [] }

/-- Scope states (spec/02 Table 2.6). -/
inductive ScopeState where
  | active | closed | cancelling | cancelled
  deriving DecidableEq, Repr

/-- An acknowledgement that a CANCEL, a poisoning or a lost die is owed (spec/10 R245): where its record goes, the
counter it uncharges (global slot, task and number), its issuer, and whether it carries the counts. -/
structure Ack where
  addr : Word
  slot : Nat
  task : Word
  k : KTag
  issuer : Nat
  counted : Bool
  deriving DecidableEq, Repr

/-- An acknowledgement whose record is on its way (spec/10 R245): the partition, the home die, the record, and the request that stands until
it has been written; none while it has not set out. -/
structure Owed where
  ack : Ack
  part : Nat
  die : Nat
  record : Bytes
  request : Option Nat
  deriving DecidableEq, Repr

/-- The counts of an acknowledgement record (spec/10 Table 10.7). -/
structure AckCounts where
  killed : Nat
  discarded : Nat
  trunc : Nat
  atoms : Nat
  dropped : Nat
  decs : Nat
  nested : Bool
  forced : Bool
  lost : Bool
  deriving DecidableEq, Repr

/-- No count made. -/
def AckCounts.zero : AckCounts :=
  { killed := 0, discarded := 0, trunc := 0, atoms := 0, dropped := 0, decs := 0, nested := false, forced := false
    lost := false }

/-- A scope record (spec/02 R32 to R34; spec/10 R237 to R245). -/
structure ScopeRec where
  state : ScopeState
  gen : BitVec 12
  part : Nat
  serial : Nat
  die : Nat
  parent : Option Nat
  depth : Nat
  sealed_ : Bool
  /-- The task whose end seals it (spec/02 R33). -/
  opener : Word
  /-- 1 CANCEL, 2 POISON, 3 DIE-LOST. -/
  cause : Nat
  /-- The scope that the counting CANCEL named (spec/02 R34). -/
  owner : Nat
  tcancel : Word
  counts : AckCounts
  acks : List Ack
  /-- Of a template scope whose instance spans modules, one record stands on each of them (log 77): the package whose record decides,
  none when it is this one; for that one the packages of the others, and those of them whose report is awaited; for another whether it has
  reported. -/
  home : Option Nat := none
  others : List Nat := []
  awaits : List Nat := []
  told : Bool := false
  deriving DecidableEq, Repr

/-- A kernel of a loaded image (spec/05 Table 5.11), with its literal table as patched (R122) and its code. -/
structure Kernel where
  inbox : Bool
  fixed : Bool
  kind : Nat
  entry : Nat
  hentry : Nat
  precinit : Word
  wv : Nat
  wm : Nat
  maxsp : Nat
  use : Grant
  share : Grant
  save : Grant
  svsp : List (Nat × Nat)
  literals : List Word
  code : List (BitVec 32)
  deriving DecidableEq, Repr

/-- A node of a template (spec/05 Table 5.14). -/
structure Node where
  kernel : Nat
  scope : Nat
  count : Nat
  clevel : Nat
  lead : Bool
  member : Bool
  spawnOnly : Bool
  cost : Nat
  gang : Option Nat
  dx : Nat
  dy : Nat
  slot : Nat
  argoff : Option Nat
  seed : Word
  deriving DecidableEq, Repr

/-- A channel of a template (spec/05 Table 5.14). -/
structure Channel where
  snode : Nat
  sch : Fin 16
  rnode : Nat
  rch : Fin 16
  depth : Nat
  manual : Bool
  beats : Nat
  qoff : Nat
  deriving DecidableEq, Repr

/-- A gang of a template: width, height, LOCKSTEP, and the pattern, row-major (spec/05 Table 5.14). -/
structure GangShape where
  w : Nat
  h : Nat
  lockstep : Bool
  pattern : List Byte
  deriving DecidableEq, Repr

/-- A buffer slot of a template: number, read and write access, MINLEN. -/
structure Buffer where
  slot : Nat
  read : Bool
  write : Bool
  minlen : Nat
  deriving DecidableEq, Repr

/-- A relocation of a template. -/
structure Reloc where
  node : Nat
  argw : Nat
  slot : Nat
  offset : Word
  deriving DecidableEq, Repr

/-- A graph template (spec/05 R123): nodes, edges, scopes (parent, owner), buffers, relocations, channels, gangs. -/
structure Template where
  levels : Vector Byte 8
  nodes : List Node
  edges : List (Nat × Nat)
  scopes : List (Option Nat × Option Nat)
  buffers : List Buffer
  relocs : List Reloc
  channels : List Channel
  gangs : List GangShape
  deriving DecidableEq, Repr

/-- A loaded image of a partition (spec/05 R118 to R125). -/
structure Image where
  part : Nat
  handle : Nat
  system : Bool
  bytes : Nat
  kernels : List Kernel
  templates : List Template
  rodata : Bytes
  deriving DecidableEq, Repr

/-- A live graph instance (spec/14 R296): the records of its nodes and template scopes, by index. -/
structure Instance where
  part : Nat
  serial : Nat
  image : Nat
  tmpl : Nat
  queue : Nat
  cmd : Nat
  seedbase : Word
  nodes : List Word
  scopes : List Word
  args : List Bytes
  ended : Nat
  lost : Nat
  underflow : Bool
  /-- Closes held until the channel's receiver is bound, and channels whose receiver died before it was placed
  (spec/02 R48). -/
  closes : List (Nat × TokenKind)
  broken : List Nat
  /-- An instance that spans modules (log 77): the package of the command core that took its RUN, none when it is this one; for that one the
  other packages, and those of them that have still to create their records; it has still to start. -/
  home : Option Nat := none
  others : List Nat := []
  awaits : List Nat := []
  starting : Bool := false
  /-- Tasks ENDED and lost on the other packages. -/
  away : List (Nat × (Nat × Nat)) := []
  /-- Channel ends bound on other packages: channel, whether it is the sender, package, tile and endpoint. -/
  ends : List (Nat × Bool × Nat × Nat × Nat) := []
  deriving DecidableEq, Repr

/-- A command that the ROM has taken and not completed (spec/14 R293 to R295): its queue and partition, bytes, TACCEPT, and once
decided its status, DETAIL and SERIAL; and the request that writes its record in host or peer memory. -/
structure Command where
  id : Nat
  queue : Nat
  part : Nat
  bytes : Bytes
  taccept : Word
  outcome : Option (Nat × Nat × Nat)
  record : Option Nat
  /-- Packages that have still to load the image of a LOAD; a RUN that another module refused tries again (log 77). -/
  awaits : List Nat := []
  again : Bool := false
  deriving DecidableEq, Repr

/-- A message between modules that has come in part: its sender's package, number and length, and its pieces by offset (MODEL, log 77). -/
structure Mail where
  pkg : Nat
  id : Word
  length : Nat
  pieces : List (Nat × Bytes)
  deriving DecidableEq, Repr

/-- A work queue (spec/14 R291). -/
structure Queue where
  cfg0 : Word
  cfg1 : Word
  posted : BitVec 16
  taken : BitVec 16
  done : BitVec 16
  overrun : BitVec 16
  ring : List Bytes
  /-- Admission and, per die, dispatch deficits (spec/14 R308). -/
  admDeficit : Nat
  disDeficit : Vector Nat 4
  /-- Ring entries whose adapter entry has been prefetched (spec/14 R300). -/
  ahead : Nat
  deriving DecidableEq, Repr

/-- A queue at reset: WEIGHT 1, RLOG 4, all else 0 (spec/14 Tables 14.1, 14.2). -/
def Queue.reset : Queue :=
  { cfg0 := 0x0010004000000000, cfg1 := 0, posted := 0, taken := 0, done := 0, overrun := 0, ring := []
    admDeficit := 0, disDeficit := Vector.replicate 4 0, ahead := 0 }

/-- What a request asks of the unit that owns its record, word or bytes (spec/06 R143 to R149; spec/10 R228). -/
inductive ReqKind where
  /-- A load: bytes, and the size code that extends it; code 7 is a piece of a block that an instruction reads. -/
  | load (size ext : Nat)
  | store (data : Bytes)
  | atomic (id size : Nat) (a b : Word)
  /-- MSG.SEND: global tile of the target (package × 256 + tile), the 64 bytes, and their poison mark. -/
  | message (target : Nat) (data : Bytes) (bad : Bool)
  /-- SPAWN: the block, and the argument image when ARG is not 0. -/
  | spawn (block : Bytes) (args : Option Bytes)
  | spawnTree (pc : Nat) (arg : Word) (started busy refused : Nat) (left : List Nat)
  | dec (target : Word)
  | scopeOpen (parent : Word)
  | scopeId (x : Word)
  | cancel (scope addr : Word) (k : KTag)
  | barJoin | barArrive | barLeave
  | guardWrite (entry : Nat) (v : Word)
  | frameWrite (cls unit tslot : Nat) (v : Word)
  | slotSave (task : Word)
  | slotRestore (task how : Word)
  /-- Elements of a vector store, an engine segment or a record on its way to host or peer memory. -/
  | block (data : Bytes)
  /-- The residency record of an engine on its way to an S-tile of another module: the two words (spec/09 R206). -/
  | residency (w0 w1 : Word)
  /-- A zero-length read of the host, whose completion says that the earlier writes of its source have been performed (spec/16 R355). -/
  | confirm
  deriving DecidableEq, Repr

/-- A request on a barrier word (spec/10 R247). -/
def ReqKind.onBarrier : ReqKind → Bool
  | .barJoin | .barArrive | .barLeave => true
  | _ => false

/-- A kind that writes: for it the notice of another module is the answer (spec/16 R342). -/
def ReqKind.isStore : ReqKind → Bool
  | .store _ | .block _ => true
  | _ => false
/-- A read, after whose completion every earlier write of its source to the host has been performed (spec/16 R355). -/
def ReqKind.confirms : ReqKind → Bool
  | .load _ _ | .confirm => true
  | _ => false

/-- How far a request has travelled (spec/10 R243; spec/04 R86); `accepted`: parked at another module's ingress port (spec/16
R342). -/
inductive ReqPhase where
  | inTile | left | accepted | performed
  deriving DecidableEq, Repr

/-- An instance of a domain of the hierarchy (spec/00 Table 0.5, spec/02 R30): a slot, a tile, a placed gang, a die, this module, a
partition on every module that it spans, the pod. -/
inductive Domain where
  | slot (g : Nat)
  | tile (gtile : Nat)
  | gang (k : Nat)
  | die (d : Nat)
  | package (p : Nat)
  | partition (p : Nat)
  | pod
  deriving DecidableEq, Repr

/-- A request in flight (spec/04 R86, R91; spec/13 R287): its issuer, what it asks, where, and the register that waits. -/
structure Request where
  id : Nat
  kind : ReqKind
  phase : ReqPhase
  slot : Nat
  task : Word
  scope : Nat
  part : Nat
  src : Nat
  super : Bool
  addr : Word
  /-- Where the address led at acceptance. -/
  target : Option Target
  bank : Bank
  dest : Option Reg
  acq : Bool
  rel : Bool
  level : Nat
  /-- The issuer was killed: the reply is discarded, and counted if the request is an atomic (spec/10 R243). -/
  orphan : Bool
  /-- The save image entry that takes the reply of a pre-empted task: image address and index (spec/13 R287). -/
  image : Option (Word × Nat)
  /-- It left the module for the host or a peer. -/
  remote : Bool
  /-- Sequence number of its packet in its flow (spec/16 R336). -/
  seq : BitVec 16
  /-- The value to give the register, once performed. -/
  result : Option (Word × Bool)
  /-- A request that came from another package: the port it entered by, and its packet. -/
  foreign : Option (Nat × Packet) := none
  /-- The bytes that answered a read of a unit other than the scalar port, and their poison mark. -/
  data : Option (Bytes × Bool) := none
  /-- Its answer is a poison mark without data (spec/17 R361). -/
  bare : Bool := false
  /-- The queue entry that it serves, by serial. -/
  entry : Nat := 0
  /-- The event that its answer sets off, where a unit waits for it. -/
  wake : Option Instr := none
  /-- A SPAWN.TREE: the record of its issuer (spec/10 R232). -/
  issuer : Option TaskRec := none
  /-- A barrier request whose task has died: the membership that settles once it has been answered (spec/10 R248). -/
  member : Option Membership := none
  /-- An acquire's or a release's: the instance of its level's domain that held the slot at issue (spec/02 R30). -/
  domain : Option Domain := none
  deriving DecidableEq, Repr

/-- A flow of class 3 packets (spec/16 R336, R341, R344): next SEQ at the source, the packets kept for resend, the next
SEQ the destination accepts, and the SEQ from which it is in go-back. -/
structure PacketFlow where
  src : Nat
  dest : Nat
  next : BitVec 16
  retry : List Packet
  accepted : BitVec 16
  goBack : Option (BitVec 16)
  deriving DecidableEq, Repr

/-- An access parked at a UALink ingress port (spec/15 R328): its entry, packet, FID, and the failing step. -/
structure Parked where
  entry : Nat
  packet : Packet
  fid : Nat
  step : Nat
  deriving DecidableEq, Repr

/-- A UALink port (spec/16 R347, R348; spec/15 R328, R331; spec/18 R383). -/
structure Port where
  trained : Bool
  parked : List Parked
  /-- Accesses returned for resend and not accepted since (spec/15 R331). -/
  returned : List Packet
  key : Bytes
  nextKey : Option Bytes
  delay : Nat
  trims : Word
  resends : Word
  discards : Word
  foreign : Word
  deriving DecidableEq, Repr

/-- A walk in progress at a home unit (spec/15 R321): the address, the asking TLB, the GEN recorded when it started, the asker
(1 + a global slot number, or 1025 + 8 × tile + generator; 0 when nothing waits for it any more) and its Fathom context. -/
structure Walk where
  id : Nat
  home : Nat
  part : Nat
  va : Word
  tlb : Nat
  gen : Nat
  by_ : Nat
  ctx : Nat
  deriving DecidableEq, Repr

/-- The counts of an end of a channel (spec/17 R367): the instance's SERIAL, the channel, whether it is the sender, and the tokens sent or the
units returned. -/
structure EndCount where
  serial : Nat
  chan : Nat
  sender : Bool
  count : Nat
  deriving DecidableEq, Repr
/-- A BLOCKED slot as a deadlock snapshot sees it (spec/17 R367): slot (none for one of another module), task, WKIND, endpoint or membership
index, wait serial, the tasks it waits on, and whether the wait counts (Table 17.6) as far as this module shows. -/
structure Waiting where
  slot : Nat
  task : Word
  kind : Nat
  index : Nat
  serial : Nat
  on : List Word
  counts : Bool
  /-- What ends of channels on other modules must show for it to count. -/
  far : List EndCount := []
  /-- The barrier word and the phase waited for, and EXPECT − ARRIVED when the word lies on this module. -/
  bar : Option (Word × BitVec 16 × Option Nat) := none
  deriving DecidableEq, Repr
/-- The latest snapshot of another module of a partition, and the waits of the one before (spec/17 R367). -/
structure PeerSnapshot where
  pkg : Nat
  waits : List Waiting
  before : List Waiting
  ends : List EndCount
  members : List (Word × Membership)
  deriving DecidableEq, Repr

/-- A die (spec/01 Table 1.5). -/
structure Die where
  good : Bool
  lostAt : Option Word
  tun : List (Nat × TaskRec)
  /-- The generation last given to an entry (spec/10 R229). -/
  entryGens : List (Nat × BitVec 16)
  /-- TLBs of the sixteen Fathom engines and of the home unit. -/
  fathom : Vector Tlb 16
  homeTlb : Tlb
  /-- GEN of each partition at the home unit (spec/15 R321). -/
  gens : List (Nat × Nat)
  walks : List Walk
  /-- The error counters of spec/17 Table 17.10. -/
  counters : Vector Word 13
  /-- The lines that the host may hold (spec/16 R354), oldest first. -/
  directory : List Nat
  /-- Lines for which a back-invalidate snoop is out. -/
  snooped : List Nat
  /-- Ranges reserved to the ROM below the system region: partition, offset, size (spec/15 R403). -/
  shards : List (Nat × Nat × Nat)
  snapshot : List Waiting
  previous : List Waiting
  /-- When the latest snapshot was taken. -/
  snapshotAt : Word
  dramTemp : Int
  coreTemp : Int
  refreshHalved : Bool
  /-- A temperature of the die holds the clock step up (spec/18 Table 18.8). -/
  hot : Bool
  /-- Merged prefetch reads issued (spec/14 R304). -/
  merged : Nat
  deriving DecidableEq, Repr

/-- A die at reset (spec/18 R379, Table 18.4). -/
def Die.reset : Die :=
  { good := false, lostAt := none, tun := [], entryGens := []
    fathom := Vector.replicate 16 { entries := [], gens := [], answers := [] }, homeTlb := { entries := [], gens := [], answers := [] }
    gens := [], walks := [], counters := Vector.replicate 13 0, directory := [], snooped := [], shards := []
    snapshot := [], previous := [], snapshotAt := 0, dramTemp := 0, coreTemp := 0, refreshHalved := false, hot := false
    merged := 0 }

/-- The two-level deficit round robin of spec/14 R308, for one partition: the class in turn, whether it has had its quantum,
the deficits of the classes, and for each class the queue in turn and whether that has had its quantum. The deficits of the
queues stand with the queues. -/
structure Drr where
  cls : Fin 4
  credited : Bool
  deficit : Vector Nat 4
  at_ : Vector Nat 4
  given : Vector Bool 4
  deriving DecidableEq, Repr

/-- An idle arbiter of R308. -/
def Drr.idle : Drr :=
  { cls := 0, credited := false, deficit := Vector.replicate 4 0, at_ := Vector.replicate 4 0, given := Vector.replicate 4 false }

/-- A partition's configuration and registers on this module (spec/17 Table 17.1; spec/13 Table 13.1). -/
structure Partition where
  configured : Bool
  nb : Nat
  bypass : Nat
  ptwin : Word
  tiles : Vector (BitVec 64) 4
  tunq : Vector Nat 4
  cways : Vector (BitVec 16) 4
  fctx : BitVec 16
  trapdel : Word
  traptile : Word
  tlogbase : Word
  tlogsize : Word
  tloghead : Word
  tlogtail : Word
  tloglost : Word
  savebase : Word
  savesize : Word
  pqlimit : Word
  partinfo : Word
  /-- The image that holds the trap kernel. -/
  trapImage : Nat
  atomfn : Vector (BitVec 128) 48
  holding : Word
  permits : Vector Word 64
  /-- Memory keys by KEYID (spec/15 R314). -/
  keys : List (Nat × Bytes)
  nextSerial : BitVec 32
  nextFid : BitVec 32
  /-- Save area ranges in use: address, size, task (spec/13 R283). -/
  saves : List (Nat × Nat × Word)
  /-- The closed set last reported by the deadlock detector (spec/17 R369). -/
  reported : List Word
  /-- What the other modules of the partition have told of their snapshots, and of barrier words by address (spec/17 R367). -/
  peers : List PeerSnapshot
  words : List (Nat × Nat)
  /-- Log records acquired by reads of TLOGHEAD (spec/13 R269). -/
  acquired : Word
  /-- Arbitration of admission, and of dispatch on each die (spec/14 R308). -/
  adm : Drr
  dis : Vector Drr 4
  deriving DecidableEq, Repr

/-- A partition that is not configured: the registers hold the reset values of spec/13 Table 13.1 (log 7). -/
def Partition.reset : Partition :=
  { configured := false, nb := 8, bypass := 8, ptwin := 0, tiles := Vector.replicate 4 0, tunq := Vector.replicate 4 0
    cways := Vector.replicate 4 0, fctx := 0, trapdel := 0, traptile := 0, tlogbase := 0, tlogsize := 64, tloghead := 0
    tlogtail := 0, tloglost := 0, savebase := 0, savesize := 0, pqlimit := 65536, partinfo := 0, trapImage := 0
    atomfn := Vector.replicate 48 0, holding := 0, permits := Vector.replicate 64 0, keys := [], nextSerial := 1
    nextFid := 1, saves := [], reported := [], peers := [], words := [], acquired := 0, adm := Drr.idle
    dis := Vector.replicate 4 Drr.idle }

/-- Reset states (spec/18 Table 18.1; FAILED by R381). -/
inductive ModuleState where
  | rails | selftest | draminit | identity | links | ready | failed
  deriving DecidableEq, Repr

/-- The module controller and ROM (spec/18). -/
structure Mgmt where
  state : ModuleState
  resets : Nat
  bootid : Word
  dramrsv : Word
  clkstep : Nat
  plwork : Nat
  plmax : Nat
  watts : Nat
  temp : Word
  /-- A clock step that takes effect at the next frame start (R390). -/
  nextStep : Nat
  /-- Time spent below 97 % of PLWORK, in samples (R390). -/
  below : Nat
  overAtLimit : Nat
  owner : Bytes
  package : Nat
  isMaster : Bool
  /-- Frame table: owner of each (class, unit, TSLOT), 0xFF for none (R364). -/
  frame : Bytes
  /-- Lend states in effect and at the next frame start: slot index and X[b] of FRAME.WR (spec/17 R365). -/
  lend : List (Nat × Word)
  nextLend : List (Nat × Word)
  /-- FRAME.WR requests that reply at the next frame start. -/
  frameReplies : List Nat
  /-- Frames begun when those FRAME.WRs were accepted (spec/17 R364). -/
  frames : Nat
  /-- The last SEQ accepted of each blob TYPE (spec/18 R382). -/
  seqs : Vector Word 7
  queue : List Bytes
  measurements : Vector Bytes 6
  /-- SPDM transcript; in a session (spec/18 R387). -/
  transcript : Bytes
  session : Bool
  ideKeys : Bytes
  /-- The identity, key-agreement and alias keys, the certificate of the key-agreement key, and the certificates of SPDM slot 0 (spec/18
  R386). -/
  identityKey : Bytes
  agreementKey : Bytes
  aliasKey : Bytes
  agreementCert : Bytes
  chain : Bytes
  guardLog : List Bytes
  errorLog : List Bytes
  deriving DecidableEq, Repr

/-- The controller at reset (spec/18 Table 18.4). -/
def Mgmt.reset : Mgmt :=
  { state := .rails, resets := 0, bootid := Config.bootId 0, dramrsv := 0, clkstep := 0, plwork := 1800, plmax := 1800, watts := 0
    temp := 0, nextStep := 0, below := 0, overAtLimit := 0, owner := [], package := 0, isMaster := false, frame := []
    lend := [], nextLend := [], frameReplies := [], frames := 0, seqs := Vector.replicate 7 0, queue := []
    measurements := Vector.replicate 6 [], transcript := [], session := false, ideKeys := [], identityKey := [], agreementKey := []
    aliasKey := [], agreementCert := [], chain := [], guardLog := [], errorLog := [] }

/-- The host link (spec/16 R352 to R356): the HDM decoder and the error counters (errors of requests, reserved-range reads
and writes). -/
structure HostLink where
  hdmBase : Nat
  hdmSize : Nat
  errors : Word
  refused : Word
  deriving DecidableEq, Repr

/-- A message that left the module for a peer, the host or the management controller (MODEL; log 1). -/
inductive Egress where
  /-- A packet leaves by a UALink port (spec/16 R348). -/
  | packet (port : Nat) (p : Packet)
  /-- A CXL.io request to host memory (spec/16 R355): request, physical address, size, data of a write;
  the function ID of a PCIe AtomicOp, whose data is its two operands (spec/04 R105); the byte enables as runs of an offset and a
  length, none listed for all bytes. -/
  | hostRequest (id pa size : Nat) (data : Option Bytes) (atomic : Option Nat := none) (enable : List (Nat × Nat) := [])
  /-- A CXL.mem completion: address, data of a read, poison. -/
  | hostCompletion (hpa : Nat) (data : Bytes) (poison : Bool)
  /-- A back-invalidate snoop of a line (spec/16 R354): asks for the data, or invalidates. -/
  | snoop (die line : Nat) (invalidate : Bool)
  /-- The reply of a Sprinell command (spec/18 R388). -/
  | sprinell (status : Nat) (data : Bytes)
  /-- An SPDM or IDE_KM response. -/
  | spdm (data : Bytes)
  /-- Configuration Request Retry Status (`true`) or a successful completion (spec/18 R380). -/
  | configReply (retry : Bool)
  /-- The error response to a foreign UALink request (spec/16 R347). -/
  | ualinkError (port : Nat)
  deriving DecidableEq, Repr

/-- Who moves next (MODEL, log 2). -/
inductive Agent where
  /-- An operation or event, from inside or outside the module. -/
  | event (i : Instr)
  /-- The issue wheel of a tile. -/
  | tile (gtile : Nat)
  deriving DecidableEq, Repr

/-- A turn: the die cycles and nanoseconds that pass before it, and who moves (MODEL, log 2, log 3). -/
structure Turn where
  cycles : Nat
  ns : Nat
  who : Agent
  deriving DecidableEq, Repr

/-- One RK9 module. -/
structure State where
  /-- Bytes of SRAM and DRAM, in the canonical form `Memory.wf`; keys: a tile's window at gtile × 2^30 + offset, die d's
  DRAM at (d + 1) × 2^40 + offset. -/
  mem : List Host.Cell
  /-- Keys of poisoned bytes' granules (spec/17 R370, R371). -/
  poison : List Nat
  /-- The key under which a 16-byte DRAM unit was last written, as a number made of its bytes; none listed is none (spec/15 R314). -/
  keyTag : List (Nat × Nat)
  slots : List (Nat × Slot)
  tiles : List (Nat × Tile)
  gangs : List (Nat × Gang)
  dies : Vector Die 4
  /-- Scope records by partition × 2^20 + ID; the generation last given to an ID. -/
  scopes : List (Nat × ScopeRec)
  scopeGens : List (Nat × BitVec 12)
  /-- Acknowledgements whose counters are uncharged once their records have been written. -/
  owed : List Owed
  parts : Vector Partition 16
  images : List Image
  instances : List Instance
  commands : List Command
  /-- MODEL (log 77). -/
  mail : List Mail
  queues : List (Nat × Queue)
  requests : List Request
  flows : List PacketFlow
  ports : Vector Port 16
  host : HostLink
  mgmt : Mgmt
  /-- The die cycle count, common to the four dies (spec/02 R37; spec/17 R364), and the timestamp in ns (spec/16 R350). -/
  cycle : Nat
  now : Word
  locked : Bool
  /-- The timestamp has stepped forward, which it may once before the first lock (spec/16 R351). -/
  stepped : Bool
  /-- Correction left to apply to the timestamp, ns (spec/16 R351). -/
  drift : Int
  egress : List Egress
  agenda : List Instr
  deferred : List Instr
  schedule : List Turn
  /-- The accesses that have entered the order of an owning unit in cycle `reachedAt`: first key, length and source number
  (spec/04 R102, spec/01 R23). -/
  reached : List (Nat × Nat × Nat)
  reachedAt : Nat
  cur : Nat
  stalled : Bool
  /-- A wait is being tried at the issue of its instruction (MODEL). -/
  issuing : Bool
  cursor : Nat
  nextId : Nat
  drawn : Nat
  deriving DecidableEq, Repr

/-- The module right after reset, as main power is applied (spec/18 R379): nothing configured, no task, memory empty,
MSTATE RAILS. Registers the spec gives no reset value hold 0 (log 4). -/
def State.reset : State :=
  { mem := [], poison := [], keyTag := [], slots := [], tiles := [], gangs := [], dies := Vector.replicate 4 Die.reset
    scopes := [], scopeGens := [], owed := [], parts := Vector.replicate 16 Partition.reset, images := [], instances := []
    commands := [], mail := [], queues := [], requests := [], flows := []
    ports := Vector.replicate 16
      { trained := false, parked := [], returned := [], key := [], nextKey := none, delay := 0, trims := 0, resends := 0
        discards := 0, foreign := 0 }
    host := { hdmBase := 0, hdmSize := 0, errors := 0, refused := 0 }, mgmt := Mgmt.reset
    cycle := 0, now := 0, locked := false, stepped := false, drift := 0, egress := [], agenda := [], deferred := [], schedule := []
    reached := [], reachedAt := 0, cur := 0, stalled := false, issuing := false, cursor := 0, nextId := 1, drawn := 0 }

end Sys2Proof.Machine
end

