-- ==== Sys2Proof/Machine/Bits.lean ====
section
/-! DEFINITION. Bit fields, extensions, byte order, and the maps of the state (spec/00 R3, R6, R7). -/

namespace Sys2Proof.Machine

/-- Bits(v, hi, lo) of a number (spec/00 R6). -/
def bitsN (v hi lo : Nat) : Nat := v / 2 ^ lo % 2 ^ (hi + 1 - lo)
/-- Bits(v, hi, lo) of a word. -/
def bits (v : Word) (hi lo : Nat) : Nat := bitsN v.toNat hi lo
/-- Bit n of a number. -/
def testN (v n : Nat) : Bool := v / 2 ^ n % 2 == 1
/-- Bit n of a word. -/
def testW (v : Word) (n : Nat) : Bool := testN v.toNat n
/-- Sext(v, n): the low n bits of v as a two's-complement value (spec/00 R6). -/
def sextN (v n : Nat) : Int := if testN v (n - 1) then (v % 2 ^ n : Nat) - (2 ^ n : Nat) else (v % 2 ^ n : Nat)
/-- Sat(v, lo, hi) (spec/00 R6). -/
def sat (v lo hi : Int) : Int := max lo (min v hi)
/-- Wrap(v, 64). -/
def wrap (v : Int) : Word := BitVec.ofInt 64 v
/-- Wrap(v, 64) of a natural number. -/
def wordN (v : Nat) : Word := BitVec.ofNat 64 v
/-- The signed value of a word. -/
def sgn (v : Word) : Int := v.toInt

/-- The number whose little-endian bytes are given (spec/00 R3). -/
def ofBytes (bs : Bytes) : Nat := wordOfBytes bs
/-- The n little-endian bytes of a number (spec/00 R3). -/
def toBytes (n v : Nat) : Bytes := bytesOfWord n v
/-- Byte i of a run, 0 beyond its end. -/
def byteAt (bs : Bytes) (i : Nat) : Byte := bs.getD i 0
/-- The field of `n` bytes at offset `i` of a record. -/
def field (bs : Bytes) (i n : Nat) : Nat := ofBytes ((bs.drop i).take n)
/-- The field of `n` bytes at offset `i`, as a word. -/
def fieldW (bs : Bytes) (i n : Nat) : Word := wordN (field bs i n)
/-- `n` zero bytes. -/
def zeros (n : Nat) : Bytes := List.replicate n 0
/-- A run cut or padded with zeros to `n` bytes. -/
def padTo (n : Nat) (bs : Bytes) : Bytes := (bs ++ zeros n).take n
/-- Every byte is zero. -/
def allZero (bs : Bytes) : Bool := bs.all (· == 0)

/-- Leading zero bits of a number of `w` bits. -/
def clzN (w v : Nat) : Nat := if v = 0 then w else w - 1 - Nat.log2 v
/-- Trailing zero bits of a number of `w` bits. -/
def ctzN : (w v : Nat) → Nat
  | 0, _ => 0
  | w + 1, v => if v % 2 = 1 then 0 else 1 + ctzN w (v / 2)
/-- One bits among the low `w` bits. -/
def popN : (w v : Nat) → Nat
  | 0, _ => 0
  | w + 1, v => v % 2 + popN w (v / 2)
/-- The low `w` bits in reverse order. -/
def revN : (w v : Nat) → Nat
  | 0, _ => 0
  | w + 1, v => v % 2 * 2 ^ w + revN w (v / 2)
/-- The numbers below `w` whose bit is set, rising. -/
def setBits (w v : Nat) : List Nat := (List.range w).filter (testN v)

/-- The mixing function of spec/03 R79. -/
def mix (z : Word) : Word :=
  let z := (z ^^^ (z >>> 30)) * 0xBF58476D1CE4E5B9
  let z := (z ^^^ (z >>> 27)) * 0x94D049BB133111EB
  z ^^^ (z >>> 31)

/-- The stochastic word U of spec/03 R79. -/
def srWord (seed inst taskid : Word) (lt dom elem : Nat) (n : BitVec 32) : Nat :=
  let h := mix (seed ^^^ 0x9E3779B97F4A7C15)
  let h := mix (h ^^^ wordN (bits inst 35 0))
  let h := mix (h ^^^ wordN (bits taskid 47 0))
  let h := mix (h ^^^ wordN (dom * 2 ^ 56 + lt * 2 ^ 48 + n.toNat * 2 ^ 16 + elem))
  bits h 63 32

/-- The value at a key, or the default. -/
def Assoc.get {α : Type} (d : α) (m : List (Nat × α)) (k : Nat) : α :=
  match m.find? (fun e => e.1 == k) with
  | some e => e.2
  | none => d
/-- The value at a key, if listed. -/
def Assoc.find {α : Type} (m : List (Nat × α)) (k : Nat) : Option α := (m.find? (fun e => e.1 == k)).map (·.2)
/-- The map with a value at a key; keys stay in rising order. -/
def Assoc.set {α : Type} (m : List (Nat × α)) (k : Nat) (v : α) : List (Nat × α) :=
  m.filter (fun e => decide (e.1 < k)) ++ (k, v) :: m.filter (fun e => decide (k < e.1))
/-- The map without a key. -/
def Assoc.erase {α : Type} (m : List (Nat × α)) (k : Nat) : List (Nat × α) := m.filter (fun e => e.1 != k)

/-- The element of a vector at a number, taken modulo its length. -/
def vget {α : Type} {n : Nat} [NeZero n] (v : Vector α n) (i : Nat) : α := v.get (Fin.ofNat n i)
/-- A vector with the element at a number, taken modulo its length, replaced. -/
def vset {α : Type} {n : Nat} [NeZero n] (v : Vector α n) (i : Nat) (x : α) : Vector α n :=
  v.set (Fin.ofNat n i).val x (Fin.ofNat n i).isLt

/-- Lane i of a vector register (spec/07 R154). -/
def lane (v : VReg) (i : Nat) : BitVec 32 := v.extractLsb' (32 * i) 32
/-- A vector register from its 64 lanes. -/
def ofLanes (f : Nat → BitVec 32) : VReg :=
  BitVec.ofNat 2048 ((List.range 64).foldr (fun i acc => (f i).toNat + 2 ^ 32 * acc) 0)
/-- Byte j of a vector register (spec/07 R154). -/
def vbyte (v : VReg) (j : Nat) : Byte := v.extractLsb' (8 * j) 8
/-- A vector register from its 256 bytes. -/
def ofVBytes (f : Nat → Byte) : VReg :=
  BitVec.ofNat 2048 ((List.range 256).foldr (fun i acc => (f i).toNat + 256 * acc) 0)

/-- A bit set to a value in a word. -/
def setBit {n : Nat} (v : BitVec n) (i : Nat) (b : Bool) : BitVec n :=
  if b then v ||| (1#n <<< i) else v &&& ~~~(1#n <<< i)

/-- A 64-bit count that saturates at 2^64 − 1. -/
def satInc (v : Word) (n : Nat := 1) : Word := wordN (min (v.toNat + n) (2 ^ 64 - 1))

end Sys2Proof.Machine
end

