-- ==== Sys2Proof/Machine/Float.lean ====
section
/-! DEFINITION. Number formats and exact arithmetic (spec/03): decoding operand codes, encoding with one rounding, and
FP32 arithmetic (spec/06 R135). A finite value is a sign, a magnitude `num` × 2^`exp`, and a sticky mark that says the
exact magnitude lies strictly between `num` and `num` + 1 units. -/

namespace Sys2Proof.Machine

/-- FLAGS bits (spec/05 Table 5.7). -/
def flagInexact : BitVec 7 := 1
/-- See `flagInexact`. -/
def flagUnderflow : BitVec 7 := 2
/-- See `flagInexact`. -/
def flagOverflow : BitVec 7 := 4
/-- See `flagInexact`. -/
def flagDivZero : BitVec 7 := 8
/-- See `flagInexact`. -/
def flagInvalid : BitVec 7 := 16
/-- See `flagInexact`. -/
def flagSat : BitVec 7 := 32
/-- See `flagInexact`. -/
def flagShort : BitVec 7 := 64

/-- A decoded value (spec/03 R61). -/
inductive Num where
  | nan (neg : Bool)
  | inf (neg : Bool)
  | fin (neg : Bool) (num : Nat) (exp : Int) (sticky : Bool)
  deriving DecidableEq, Repr

/-- How a floating format uses its top exponent (spec/03 Table 3.1, Table 3.12). -/
inductive TopCodes where
  /-- E all ones: Inf at M = 0, else NaN. -/
  | ieee
  /-- E4M3: only S.1111.111 is NaN. -/
  | e4m3
  /-- E5M2: Inf and NaN as IEEE, but encoding saturates. -/
  | e5m2
  /-- Every code is finite. -/
  | finite
  deriving DecidableEq, Repr

/-- A floating format: mantissa bits, exponent bits, bias. -/
structure FloatFmt where
  mant : Nat
  ebits : Nat
  bias : Nat
  top : TopCodes
  deriving DecidableEq, Repr

/-- IEEE binary32 (spec/03 Table 3.7). -/
def fmtFP32 : FloatFmt := { mant := 23, ebits := 8, bias := 127, top := .ieee }

/-- The floating formats of spec/03 Table 3.1, by code. -/
def floatFmt (code : Nat) : Option FloatFmt :=
  match code with
  | 0x8 => some { mant := 1, ebits := 2, bias := 1, top := .finite }
  | 0x9 => some { mant := 3, ebits := 2, bias := 1, top := .finite }
  | 0xA => some { mant := 2, ebits := 3, bias := 3, top := .finite }
  | 0xB => some { mant := 3, ebits := 4, bias := 7, top := .e4m3 }
  | 0xC => some { mant := 2, ebits := 5, bias := 15, top := .e5m2 }
  | 0xD => some { mant := 7, ebits := 8, bias := 127, top := .ieee }
  | 0xE => some { mant := 10, ebits := 5, bias := 15, top := .ieee }
  | _ => none

/-- Storage width w of a format code (spec/03 Table 3.1). -/
def storageWidth (code : Nat) : Nat :=
  match code with
  | 0x0 => 1
  | 0x1 => 2
  | 0x2 => 3
  | 0x3 => 4
  | 0x4 => 6
  | 0x5 => 8
  | 0x6 => 12
  | 0x7 => 16
  | 0x8 => 4
  | 0x9 => 6
  | 0xA => 6
  | 0xB => 8
  | 0xC => 8
  | 0xD => 16
  | 0xE => 16
  | _ => 4

/-- Serial width s of a format code (spec/03 Table 3.1). -/
def serialWidth (code : Nat) : Nat :=
  match code with
  | 0x8 => 2
  | 0x9 => 4
  | 0xA => 3
  | 0xB => 4
  | 0xC => 3
  | 0xD => 8
  | 0xE => 11
  | 0xF => 8
  | c => storageWidth c

/-- Decoding a floating code (spec/03 R61). -/
def FloatFmt.decode (f : FloatFmt) (code : Nat) : Num :=
  let m := code % 2 ^ f.mant
  let e := code / 2 ^ f.mant % 2 ^ f.ebits
  let s := testN code (f.mant + f.ebits)
  let allOnes := e == 2 ^ f.ebits - 1
  if allOnes && (f.top == .ieee || f.top == .e5m2) then (if m = 0 then .inf s else .nan s)
  else if allOnes && f.top == .e4m3 && m == 7 then .nan s
  else if e = 0 then .fin s m (1 - (f.bias : Int) - f.mant) false
  else .fin s (2 ^ f.mant + m) ((e : Int) - f.bias - f.mant) false

/-- Decoding an operand code (spec/03 R61): format code, SIGNED, codebook (16 BF16 codes, for CB4). -/
def decodeNum (fmt : Nat) (signed : Bool) (codebook : List Nat) (code : Nat) : Num :=
  if fmt = 0 then .fin (code % 2 == 0) 1 0 false
  else if fmt ≤ 7 then
    let w := storageWidth fmt
    let v : Int := if signed then sextN code w else (code % 2 ^ w : Nat)
    .fin (decide (v < 0)) v.natAbs 0 false
  else if fmt = 15 then ({ mant := 7, ebits := 8, bias := 127, top := .ieee } : FloatFmt).decode (codebook.getD (code % 16) 0)
  else match floatFmt fmt with
    | some f => f.decode code
    | none => .nan false

/-- A value scaled by 2^k. -/
def Num.scale (k : Int) : Num → Num
  | .fin s n e t => .fin s n (e + k) t
  | x => x

/-- The element's value under an E8M0 scale byte (spec/03 R63): MXINT8 has a further factor 2^−6. -/
def scaleE8M0 (x : Nat) (mxint8 : Bool) (v : Num) : Num :=
  if x = 0xFF then .nan false else v.scale ((x : Int) - 127 - (if mxint8 then 6 else 0))

/-- floor(log2) of a non-zero finite magnitude. -/
def floorLog2 (num : Nat) (exp : Int) : Int := (Nat.log2 num : Int) + exp

/-- Choosing between the neighbours (spec/03 Table 3.13): the magnitude in units of the grid is q plus the fraction
(r + sticky) / 2^sh; the answer is the magnitude chosen, q or q + 1. -/
def roundUnits (rc : Nat) (u : Nat) (neg : Bool) (q r sh : Nat) (sticky : Bool) : Nat :=
  match rc with
  | 0 =>
    let half := 2 ^ sh
    if 2 * r > half || (2 * r == half && sticky) then q + 1
    else if 2 * r == half then q + q % 2
    else q
  | 1 => q
  | 2 => if neg then q else q + 1
  | 3 => if neg then q + 1 else q
  | _ =>
    if neg then
      let t := ((2 ^ sh - r) * 2 ^ 32 - bit sticky) / 2 ^ sh
      if u < t then q else q + 1
    else
      let t := r * 2 ^ 32 / 2 ^ sh
      if u < t then q + 1 else q

/-- A magnitude rounded to the grid of spacing 2^g: the magnitude in units of 2^g and whether it is exact (spec/03 R77
steps 2 and 3). -/
def roundTo (rc u : Nat) (neg : Bool) (num : Nat) (exp : Int) (sticky : Bool) (g : Int) : Nat × Bool :=
  if g ≤ exp then
    let q := num * 2 ^ (exp - g).toNat
    if sticky then (roundUnits rc u neg q 0 64 true, false) else (q, true)
  else
    let sh := (g - exp).toNat
    let q := num / 2 ^ sh
    let r := num % 2 ^ sh
    if r == 0 && !sticky then (q, true) else (roundUnits rc u neg q r sh sticky, false)

/-- The sign bit of a code. -/
def FloatFmt.signBit (f : FloatFmt) (neg : Bool) : Nat := bit neg * 2 ^ (f.mant + f.ebits)
/-- The code of the largest finite magnitude. -/
def FloatFmt.maxFinite (f : FloatFmt) : Nat :=
  match f.top with
  | .ieee | .e5m2 => (2 ^ f.ebits - 1) * 2 ^ f.mant - 1
  | .e4m3 => 2 ^ (f.ebits + f.mant) - 2
  | .finite => 2 ^ (f.ebits + f.mant) - 1
/-- The code of infinity. -/
def FloatFmt.infinity (f : FloatFmt) : Nat := (2 ^ f.ebits - 1) * 2 ^ f.mant
/-- The canonical NaN (spec/03 Table 3.7, Table 3.12). -/
def FloatFmt.canonicalNaN (f : FloatFmt) : Nat :=
  match f.top with
  | .e4m3 => 2 ^ (f.ebits + f.mant) - 1
  | _ => f.infinity + 2 ^ (f.mant - 1)

/-- The code of a magnitude k × 2^g that lies on the grid, if it is within the range. -/
def FloatFmt.codeOf (f : FloatFmt) (k : Nat) (g : Int) : Option Nat :=
  if k < 2 ^ f.mant then some k
  else
    let (k, g) := if k = 2 ^ (f.mant + 1) then (2 ^ f.mant, g + 1) else (k, g)
    let e := (g + f.bias + f.mant).toNat
    let c := e * 2 ^ f.mant + (k - 2 ^ f.mant)
    if c ≤ f.maxFinite then some c else none

/-- Encoding a value into a floating format (spec/03 R77): the code and the flags. An exact value out of range lies on the grid, so
step 3 gives it no hi or lo: the model reads "y = hi" and "y = lo" of Table 3.14 as false of it, and .RUP, .RDN and .SR give the largest
finite magnitude (DEDUCED, log 67). -/
def FloatFmt.encode (f : FloatFmt) (rc u : Nat) (x : Num) : Nat × BitVec 7 :=
  match x with
  | .nan s =>
    match f.top with
    | .finite => (f.signBit s + f.maxFinite, flagInvalid)
    | _ => (f.signBit s + f.canonicalNaN, 0)
  | .inf s =>
    match f.top with
    | .ieee => (f.signBit s + f.infinity, 0)
    | _ => (f.signBit s + f.maxFinite, flagOverflow)
  | .fin s 0 _ _ => (f.signBit s, 0)
  | .fin s num exp sticky =>
    let l := floorLog2 num exp
    let emin : Int := 1 - (f.bias : Int)
    let g := max (l - f.mant) (emin - f.mant)
    let (k, exact) := roundTo rc u s num exp sticky g
    let tiny := if l < emin && !exact then flagUnderflow else 0
    let inex := if exact then 0 else flagInexact
    match f.codeOf k g with
    | some c => (f.signBit s + c, tiny ||| inex)
    | none =>
      let toInf := f.top == .ieee && (rc == 0 || !exact && ((rc == 2 && !s) || (rc == 3 && s) ||
        (rc == 4 && decide (k ≠ (roundTo 1 u s num exp sticky g).1))))
      (f.signBit s + (if toInf then f.infinity else f.maxFinite), flagOverflow ||| flagInexact)

/-- Encoding a value into an integer range [lo, hi] (spec/03 R77, Tables 3.12 and 3.14). -/
def encodeInt (lo hi : Int) (rc u : Nat) (x : Num) : Int × BitVec 7 :=
  match x with
  | .nan _ => (0, flagInvalid)
  | .inf s => (if s then lo else hi, flagOverflow)
  | .fin s num exp sticky =>
    let (k, exact) := roundTo rc u s num exp sticky 0
    let y : Int := if s then -(k : Int) else k
    let tiny : BitVec 7 := 0
    if y < lo then (lo, flagOverflow ||| flagInexact)
    else if hi < y then (hi, flagOverflow ||| flagInexact)
    else (y, tiny ||| (if exact then 0 else flagInexact))

/-- The range of an integer format (spec/03 Table 3.1). -/
def intRange (w : Nat) (signed : Bool) : Int × Int :=
  if signed then (-(2 ^ (w - 1) : Nat), (2 ^ (w - 1) : Nat) - 1) else (0, (2 ^ w : Nat) - 1)

/-- Encoding into BIN (spec/03 Tables 3.12 and 3.14). -/
def encodeBin (x : Num) : Nat × BitVec 7 :=
  match x with
  | .nan _ => (1, flagInvalid)
  | .inf s => (bit (!s), flagInexact)
  | .fin s num exp sticky =>
    let one := !sticky && num != 0 && (if 0 ≤ exp then num * 2 ^ exp.toNat == 1 else num == 2 ^ (-exp).toNat)
    (bit (!(s && num != 0)), if one then 0 else flagInexact)

/-- Encoding into the operand format of a code (spec/03 R77); CB4 is never a destination. -/
def encodeNum (fmt : Nat) (signed : Bool) (rc u : Nat) (x : Num) : Nat × BitVec 7 :=
  if fmt = 0 then encodeBin x
  else if fmt ≤ 7 then
    let w := storageWidth fmt
    let (lo, hi) := intRange w signed
    let (y, fl) := encodeInt lo hi rc u x
    ((y % (2 ^ w : Nat)).toNat, fl)
  else match floatFmt fmt with
    | some f => f.encode rc u x
    | none => (0, 0)

/-- An FP32 value decoded. -/
def decode32 (v : BitVec 32) : Num := fmtFP32.decode v.toNat
/-- A value encoded into FP32. -/
def encode32 (rc u : Nat) (x : Num) : BitVec 32 × BitVec 7 :=
  let (c, fl) := fmtFP32.encode rc u x
  (BitVec.ofNat 32 c, fl)

/-- A value is a zero. -/
def Num.isZero : Num → Bool
  | .fin _ n _ t => n == 0 && !t
  | _ => false
/-- A value is NaN. -/
def Num.isNaN : Num → Bool
  | .nan _ => true
  | _ => false
/-- The sign of a value. -/
def Num.neg : Num → Bool
  | .nan s => s
  | .inf s => s
  | .fin s _ _ _ => s
/-- A value with its sign changed. -/
def Num.negate : Num → Num
  | .nan s => .nan (!s)
  | .inf s => .inf (!s)
  | .fin s n e t => .fin (!s) n e t

/-- A canonical FP32 NaN of a sign. -/
def nan32 (neg : Bool) : BitVec 32 := BitVec.ofNat 32 (fmtFP32.signBit neg + fmtFP32.canonicalNaN)
/-- The sign of the first NaN among the operands, 0 when there is none (spec/06 R135). -/
def nanSign (xs : List Num) : Bool :=
  match xs.find? Num.isNaN with
  | some x => x.neg
  | none => false

/-- The exact sum of two finite values without sticky marks, as a signed number of units of 2^e. -/
def addUnits (s1 : Bool) (n1 : Nat) (e1 : Int) (s2 : Bool) (n2 : Nat) (e2 : Int) : Int × Int :=
  let e := min e1 e2
  let a : Int := (n1 * 2 ^ (e1 - e).toNat : Nat)
  let b : Int := (n2 * 2 ^ (e2 - e).toNat : Nat)
  ((if s1 then -a else a) + (if s2 then -b else b), e)

/-- The sum of two values that are no NaN (spec/06 R135): the exact sum with the sign of an exact zero under R77 step 7,
or none for ∞ − ∞. -/
def addNum (rc : Nat) (x y : Num) : Option Num :=
  match x, y with
  | .inf s, .inf t => if s == t then some (.inf s) else none
  | .inf s, _ => some (.inf s)
  | _, .inf t => some (.inf t)
  | .fin s1 n1 e1 _, .fin s2 n2 e2 _ =>
    let (v, e) := addUnits s1 n1 e1 s2 n2 e2
    if v = 0 then
      let sign := if n1 == 0 && n2 == 0 && s1 == s2 then s1 else rc == 3
      some (.fin sign 0 e false)
    else some (.fin (decide (v < 0)) v.natAbs e false)
  | _, _ => none

/-- The product of two values that are no NaN, or none for 0 × ∞. -/
def mulNum (x y : Num) : Option Num :=
  match x, y with
  | .fin s1 n1 e1 _, .fin s2 n2 e2 _ => some (.fin (s1 != s2) (n1 * n2) (e1 + e2) false)
  | .inf s, .inf t => some (.inf (s != t))
  | .inf s, .fin t n _ _ => if n = 0 then none else some (.inf (s != t))
  | .fin t n _ _, .inf s => if n = 0 then none else some (.inf (s != t))
  | _, _ => none

/-- FADD (spec/06 Table 6.7): rounding code, stochastic word, operands. -/
def fadd32 (rc u : Nat) (a b : BitVec 32) : BitVec 32 × BitVec 7 :=
  let x := decode32 a
  let y := decode32 b
  if x.isNaN || y.isNaN then (nan32 (nanSign [x, y]), 0)
  else match addNum rc x y with
    | some z => encode32 rc u z
    | none => (nan32 false, flagInvalid)

/-- FSUB: a − b; a NaN b keeps its own sign. -/
def fsub32 (rc u : Nat) (a b : BitVec 32) : BitVec 32 × BitVec 7 :=
  let x := decode32 a
  let y := decode32 b
  if x.isNaN || y.isNaN then (nan32 (nanSign [x, y]), 0)
  else match addNum rc x y.negate with
    | some z => encode32 rc u z
    | none => (nan32 false, flagInvalid)

/-- FMUL. -/
def fmul32 (rc u : Nat) (a b : BitVec 32) : BitVec 32 × BitVec 7 :=
  let x := decode32 a
  let y := decode32 b
  if x.isNaN || y.isNaN then (nan32 (nanSign [x, y]), 0)
  else match mulNum x y with
    | some z => encode32 rc u z
    | none => (nan32 false, flagInvalid)

/-- FDIV (spec/06 R135): the quotient with 140 bits below the operands' unit and a sticky mark. -/
def fdiv32 (rc u : Nat) (a b : BitVec 32) : BitVec 32 × BitVec 7 :=
  let x := decode32 a
  let y := decode32 b
  if x.isNaN || y.isNaN then (nan32 (nanSign [x, y]), 0)
  else match x, y with
    | .inf _, .inf _ => (nan32 false, flagInvalid)
    | .inf s, y => encode32 rc u (.inf (s != y.neg))
    | .fin s _ _ _, .inf t => encode32 rc u (.fin (s != t) 0 0 false)
    | .fin s n1 e1 _, .fin t n2 e2 _ =>
      if n2 = 0 then
        if n1 = 0 then (nan32 false, flagInvalid) else ((encode32 rc u (.inf (s != t))).1, flagDivZero)
      else
        let q := n1 * 2 ^ 140 / n2
        let r := n1 * 2 ^ 140 % n2
        encode32 rc u (.fin (s != t) q (e1 - e2 - 140) (decide (r ≠ 0)))
    | _, _ => (nan32 false, flagInvalid)

/-- The integer square root by bits, from bit `i` down. -/
def isqrtFrom : (i : Nat) → (n r : Nat) → Nat
  | 0, n, r => if (r + 1) * (r + 1) ≤ n then r + 1 else r
  | i + 1, n, r =>
    let t := r + 2 ^ (i + 1)
    if t * t ≤ n then isqrtFrom i n t else isqrtFrom i n r

/-- FSQRT (spec/06 R135): the root with at least 70 bits below the unit and a sticky mark. -/
def fsqrt32 (rc u : Nat) (a : BitVec 32) : BitVec 32 × BitVec 7 :=
  match decode32 a with
  | .nan s => (nan32 s, 0)
  | .inf s => if s then (nan32 false, flagInvalid) else encode32 rc u (.inf false)
  | .fin s n e _ =>
    if n = 0 then encode32 rc u (.fin s 0 0 false)
    else if s then (nan32 false, flagInvalid)
    else
      let (n, e) := if e % 2 = 0 then (n, e) else (2 * n, e - 1)
      let big := n * 2 ^ 140
      let r := isqrtFrom 84 big 0
      encode32 rc u (.fin false r (e / 2 - 70) (decide (r * r ≠ big)))

/-- FMADD: a × b + d rounded once; `negProduct` for d − a × b (spec/07 VFNMA). 0 × ∞ is Invalid whatever d. -/
def fma32 (negProduct : Bool) (rc u : Nat) (a b d : BitVec 32) : BitVec 32 × BitVec 7 :=
  let x := decode32 a
  let y := decode32 b
  let z := decode32 d
  let p := if x.isNaN || y.isNaN then none else mulNum x y
  let bad := !(x.isNaN || y.isNaN) && p.isNone
  if x.isNaN || y.isNaN || z.isNaN then (nan32 (nanSign [x, y, z]), if bad then flagInvalid else 0)
  else match p with
    | none => (nan32 false, flagInvalid)
    | some p =>
      match addNum rc (if negProduct then p.negate else p) z with
      | some v => encode32 rc u v
      | none => (nan32 false, flagInvalid)

/-- The order of two values that are no NaN: −0 = +0. -/
def ltNum (x y : Num) : Bool :=
  match x, y with
  | .inf s, .inf t => s && !t
  | .inf s, _ => s
  | _, .inf t => !t
  | .fin s1 n1 e1 _, .fin s2 n2 e2 _ => decide ((addUnits s1 n1 e1 (!s2) n2 e2).1 < 0)
  | _, _ => false
/-- Equality of two values that are no NaN: −0 = +0. -/
def eqNum (x y : Num) : Bool := !x.isNaN && !y.isNaN && !ltNum x y && !ltNum y x

/-- FMIN: −0 below +0, a NaN operand ignored (spec/06 Table 6.7). -/
def fmin32 (a b : BitVec 32) : BitVec 32 :=
  let x := decode32 a
  let y := decode32 b
  if x.isNaN && y.isNaN then nan32 x.neg
  else if x.isNaN then b
  else if y.isNaN then a
  else if ltNum x y then a
  else if ltNum y x then b
  else if x.neg then a else b
/-- FMAX, on the same terms. -/
def fmax32 (a b : BitVec 32) : BitVec 32 :=
  let x := decode32 a
  let y := decode32 b
  if x.isNaN && y.isNaN then nan32 x.neg
  else if x.isNaN then b
  else if y.isNaN then a
  else if ltNum x y then b
  else if ltNum y x then a
  else if x.neg then b else a
/-- FABS: bit 31 cleared, NaN bits kept. -/
def fabs32 (a : BitVec 32) : BitVec 32 := a &&& 0x7FFFFFFF
/-- FNEG: bit 31 inverted, NaN bits kept. -/
def fneg32 (a : BitVec 32) : BitVec 32 := a ^^^ 0x80000000
/-- FEQ: no flag. -/
def feq32 (a b : BitVec 32) : Bool := eqNum (decode32 a) (decode32 b)
/-- FLT: Invalid when an operand is NaN. -/
def flt32 (a b : BitVec 32) : Bool × BitVec 7 :=
  let x := decode32 a
  let y := decode32 b
  if x.isNaN || y.isNaN then (false, flagInvalid) else (ltNum x y, 0)
/-- FLE: Invalid when an operand is NaN. -/
def fle32 (a b : BitVec 32) : Bool × BitVec 7 :=
  let x := decode32 a
  let y := decode32 b
  if x.isNaN || y.isNaN then (false, flagInvalid) else (!ltNum y x, 0)
/-- Either operand is NaN. -/
def fun32 (a b : BitVec 32) : Bool := (decode32 a).isNaN || (decode32 b).isNaN

/-- FCLASS: the one-hot class code (spec/06 Table 6.7). -/
def fclass32 (a : BitVec 32) : Nat :=
  match decode32 a with
  | .nan _ => 256
  | .inf s => if s then 1 else 128
  | .fin s n _ _ =>
    if n = 0 then (if s then 8 else 16)
    else if n < 2 ^ 23 then (if s then 4 else 32)
    else if s then 2 else 64

/-- An integer rounded to FP32. -/
def itof32 (rc u : Nat) (v : Int) : BitVec 32 × BitVec 7 := encode32 rc u (.fin (decide (v < 0)) v.natAbs 0 false)
/-- An FP32 value as an integer of a range (FTOI, FTOU, VFTOI, VFTOU). -/
def ftoi32 (lo hi : Int) (rc u : Nat) (a : BitVec 32) : Int × BitVec 7 := encodeInt lo hi rc u (decode32 a)

/-- VFSCALEB: a × 2^k rounded once; never Invalid (spec/07 R159). -/
def fscaleb32 (rc u : Nat) (a b : BitVec 32) : BitVec 32 × BitVec 7 :=
  let k := sat (sextN b.toNat 32) (-512) 512
  match decode32 a with
  | .nan s => (nan32 s, 0)
  | .inf _ => (a, 0)
  | .fin s n e t => if n = 0 then (a, 0) else encode32 rc u (.fin s n (e + k) t)

/-- The rounding code an instruction uses: its field's, or RM's (spec/05 R110). -/
def Rc.resolve (rc : Rc) (rm : Nat) : Nat := if rc == .fromRM then rm else rc.code

/-- |n × 2^e| compared with |m × 2^f|: the first is below the second. -/
def ltMag (n : Nat) (e : Int) (m : Nat) (f : Int) : Bool := decide ((addUnits false n e true m f).1 < 0)

/-- FP32 1 as a value with an exponent. -/
def one32 : BitVec 32 := 0x3F800000
/-- FP32 +∞. -/
def inf32 : BitVec 32 := 0x7F800000

/-- VFRCP of a positive value n × 2^e that is not exact: the free value where it lies within 1 ulp of 1/a, else the
quotient rounded towards zero (spec/07 R160; log 10). -/
def approxRcp (a : BitVec 32) (n : Nat) (e : Int) : BitVec 32 × BitVec 7 :=
  let exact := fdiv32 1 0 one32 a
  let c := Config.approximation 0 a &&& 0x7FFFFFFF
  match decode32 c with
  | .fin _ m f _ =>
    -- the exact result's exponent is that of the truncated quotient; its ulp is 2^g
    let l := floorLog2 (2 ^ 140 / n) (-140 - e)
    let g := max (l - 23) (-149)
    -- |c × a − 1| < 2^g × a
    let (d, de) := addUnits false (m * n) (f + e) true 1 0
    if ltMag d.natAbs de n (g + e) then (c, exact.2) else exact
  | _ => exact

/-- VFRSQ of a positive value n × 2^e that is not exact, on the same terms: (c − ulp)² × a < 1 < (c + ulp)² × a. -/
def approxRsq (a : BitVec 32) (n : Nat) (e : Int) : BitVec 32 × BitVec 7 :=
  let (n, e) := if e % 2 = 0 then (n, e) else (2 * n, e - 1)
  let r := isqrtFrom 84 (2 ^ 160 / n) 0
  let (trunc, _) := encode32 1 0 (.fin false r (-80 - e / 2) true)
  let c := Config.approximation 1 a &&& 0x7FFFFFFF
  match decode32 c with
  | .fin _ m f _ =>
    let g := floorLog2 r (-80 - e / 2) - 23
    let (lo, loe) := addUnits false m f true 1 g
    let (hi, hie) := addUnits false m f false 1 g
    let below := decide (lo < 0) || ltMag (lo.natAbs * lo.natAbs * n) (2 * loe + e) 1 0
    let above := ltMag 1 0 (hi.natAbs * hi.natAbs * n) (2 * hie + e)
    (if below && above then c else trunc, flagInexact)
  | _ => (trunc, flagInexact)

/-- 1 in fixed point: the transcendental functions of R160 are computed with 256 fraction bits, to compare a free value with
its bound. -/
def fixOne : Int := 2 ^ 256
/-- A product in fixed point. -/
def fixMul (x y : Int) : Int := x * y / fixOne
/-- A quotient in fixed point. -/
def fixDiv (x y : Int) : Int := x * fixOne / y
/-- n × 2^e in fixed point. -/
def fixOf (n : Nat) (e : Int) : Int := (n * 2 ^ (e + 256).toNat / 2 ^ (-(e + 256)).toNat : Nat)
/-- The series 1 + t/k (1 + t/(k + 1) (…)), `fuel` terms; with k = 1 it is e^t. -/
def expSeries : (fuel k : Nat) → Int → Int
  | 0, _, _ => fixOne
  | fuel + 1, k, t => fixOne + fixMul t (expSeries fuel (k + 1) t) / k
/-- The series 1/k + w (1/(k + 2) + w (…)); with k = 1, z times it is artanh z for w = z², and arctan z for w = −z². -/
def oddSeries : (fuel k : Nat) → Int → Int
  | 0, _, _ => 0
  | fuel + 1, k, w => fixOne / k + fixMul w (oddSeries fuel (k + 2) w)
/-- The series 1 − w/(k(k + 1)) (1 − w/((k + 2)(k + 3)) (…)); cos r for k = 1 and w = r², and sin r divided by r for k = 2. -/
def circleSeries : (fuel k : Nat) → Int → Int
  | 0, _, _ => fixOne
  | fuel + 1, k, w => fixOne - fixMul w (circleSeries fuel (k + 2) w) / (k * (k + 1))
/-- artanh z, |z| at most 1/3. -/
def fixArtanh (z : Int) : Int := fixMul z (oddSeries 90 1 (fixMul z z))
/-- ln 2 = 2 artanh (1/3). -/
def fixLn2 : Int := 2 * fixArtanh (fixOne / 3)
/-- 2π = 32 arctan (1/5) − 8 arctan (1/239). -/
def fixTau : Int :=
  let at_ := fun (n : Int) => oddSeries 60 1 (-(fixOne / (n * n))) / n
  32 * at_ 5 - 8 * at_ 239
/-- e^t for t = ±n × 2^e, |t| below 256: (v, k) for the value v × 2^k. -/
def fixExp (s : Bool) (n : Nat) (e : Int) : Int × Int :=
  let t := if s then -fixOf n e else fixOf n e
  let k := t / fixLn2
  (expSeries 70 1 (t - k * fixLn2), k)
/-- e^(−t) in fixed point for t = n × 2^e: 0 where it is below 2^−360. -/
def fixExpNeg (n : Nat) (e : Int) : Int :=
  if 8 ≤ floorLog2 n e then 0 else
    let (v, k) := fixExp true n e
    v / 2 ^ (-k).toNat

/-- The bound of an approximation (spec/07 Table 7.3): ulps of FP32 at the exact result, or an absolute 2^g. -/
structure ApproxBound where
  ulps : Nat
  abs : Option Int
  deriving DecidableEq, Repr

/-- The free value `c` where it lies within the bound of the function's value v × 2^(k − 256), else that value rounded towards
zero; Inexact, and Underflow where the value is below the smallest normal (spec/07 R160; log 10). -/
def approxWithin (c : BitVec 32) (v k : Int) (bound : ApproxBound) : BitVec 32 × BitVec 7 :=
  let l := if v = 0 then -1000 else floorLog2 v.natAbs (k - 256)
  let flags := flagInexact ||| (if l < -126 then flagUnderflow else 0)
  let nearest := (encode32 1 0 (.fin (decide (v < 0)) v.natAbs (k - 256) true)).1
  match decode32 c with
  | .fin s m f _ =>
    let (d, de) := addUnits s m f (decide (0 < v)) v.natAbs (k - 256)
    let inUlps := !ltMag bound.ulps (max (l - 23) (-149)) d.natAbs de
    let inAbs := match bound.abs with
      | some g => !ltMag 1 g d.natAbs de
      | none => false
    (if inUlps || inAbs then c else nearest, flags)
  | _ => (nearest, flags)

/-- A free result held to the FP32 values [0, 1] by its magnitude. -/
def clampOne (c : BitVec 32) : BitVec 32 :=
  let mag := c &&& 0x7FFFFFFF
  if mag.toNat ≤ one32.toNat then mag else one32

/-- The sign of `s` put on a magnitude, for the odd functions (spec/07 R160). -/
def withSign (s : Bool) (r : BitVec 32 × BitVec 7) : BitVec 32 × BitVec 7 :=
  if s then (fneg32 r.1, r.2) else r

/-- The approximations of spec/07 Table 7.3, by fn: special and exact inputs are computed, the rest are free values of
the input, held within the bound (log 10). -/
def approx32 (fn : Nat) (a : BitVec 32) : BitVec 32 × BitVec 7 :=
  let mag := fabs32 a
  let free := Config.approximation fn
  let x := decode32 a
  match x with
  | .nan s => (nan32 s, 0)
  | .inf s =>
    match fn with
    | 0 => ((encode32 1 0 (.fin s 0 0 false)).1, 0)
    | 1 => if s then (nan32 false, flagInvalid) else (0, 0)
    | 2 | 3 => if s then (0, 0) else (inf32, 0)
    | 4 => if s then (nan32 false, flagInvalid) else (inf32, 0)
    | 5 => withSign s (one32, 0)
    | 6 => if s then (0, 0) else (one32, 0)
    | _ => (nan32 false, flagInvalid)
  | .fin s n e _ =>
    if n = 0 then
      match fn with
      | 0 | 1 => withSign s (inf32, flagDivZero)
      | 2 | 3 => (one32, 0)
      | 4 => (fneg32 inf32, flagDivZero)
      | 5 | 7 => (a, 0)
      | 6 => (0x3F000000, 0)
      | _ => (one32, 0)
    else
      let pow2 := n == 2 ^ Nat.log2 n
      let l := floorLog2 n e
      match fn with
      | 0 =>
        if pow2 && decide (l ≤ 126) && (fdiv32 0 0 one32 mag).2 == 0 then withSign s (fdiv32 0 0 one32 mag)
        else
          let q := fdiv32 0 0 one32 mag
          if q.2 &&& flagOverflow ≠ 0 then withSign s (inf32, flagOverflow ||| flagInexact)
          else
            let r := approxRcp mag n e
            withSign s (r.1, r.2 ||| flagInexact)
      | 1 =>
        if s then (nan32 false, flagInvalid)
        else if pow2 && l % 2 == 0 then ((encode32 0 0 (.fin false 1 (-(l / 2)) false)).1, 0)
        else approxRsq a n e
      | 2 =>
        let (k, exact) := roundTo 1 0 s n e false 0
        let i : Int := if s then -(k : Int) else k
        if exact && decide (-149 ≤ i ∧ i ≤ 127) then ((encode32 0 0 (.fin false 1 i false)).1, 0)
        else if !s && decide (128 ≤ i) then (inf32, flagOverflow ||| flagInexact)
        else
          let i := if s then -(k : Int) - 1 else (k : Int)
          if i < -600 then approxWithin (free a) 0 0 { ulps := 2, abs := none }
          else
            let t := (if s then -fixOf n e else fixOf n e) - i * fixOne
            approxWithin (free a) (expSeries 70 1 (fixMul t fixLn2)) i { ulps := 2, abs := none }
      | 3 =>
        if !s && decide (0x42B17218 ≤ mag.toNat) then (inf32, flagOverflow ||| flagInexact)
        else if 8 ≤ l then approxWithin (free a) 0 0 { ulps := 3, abs := none }
        else
          let (v, k) := fixExp s n e
          approxWithin (free a) v k { ulps := 3, abs := none }
      | 4 =>
        if s then (nan32 false, flagInvalid)
        else if pow2 then ((itof32 0 0 l).1, 0)
        else
          let m := fixOf n (e - l)
          let v := l * fixOne + fixDiv (2 * fixArtanh (fixDiv (m - fixOne) (m + fixOne))) fixLn2
          approxWithin (free a) v 0 { ulps := 2, abs := some (-23) }
      | 5 =>
        let q := fixExpNeg n (e + 1)
        let v := if l < -40 then fixOf n e - 1 else fixDiv (fixOne - q) (fixOne + q)
        withSign s (approxWithin (clampOne (free mag)) v 0 { ulps := 0, abs := some (-22) })
      | 6 =>
        let q := fixExpNeg n e
        approxWithin (clampOne (free a)) (fixDiv (if s then q else fixOne) (fixOne + q)) 0 { ulps := 0, abs := some (-23) }
      | 7 =>
        let v := if l < -40 then fixOf n e - 1 else
          let r := fixOf n e % fixTau
          fixMul r (circleSeries 60 2 (fixMul r r))
        withSign s (approxWithin (free mag) v 0 { ulps := 0, abs := some (-22) })
      | _ =>
        let r := fixOf n e % fixTau
        approxWithin (free mag) (circleSeries 60 1 (fixMul r r)) 0 { ulps := 0, abs := some (-22) }

end Sys2Proof.Machine
end

