-- ==== Sys2Proof/Machine/Access.lean ====
section
/-! DEFINITION. Reading and writing the pieces of the state: bytes of memory, slots, tiles, dies, partitions, registers. -/

namespace Sys2Proof.Machine

/-- The byte at a key; an unlisted byte reads 0 (log 5). -/
def Memory.at_ (m : List Host.Cell) (k : Nat) : Byte := Assoc.get 0 m k
/-- `n` bytes from a key up. -/
def Memory.read (m : List Host.Cell) (k n : Nat) : Bytes := (List.range n).map (fun i => Memory.at_ m (k + i))
/-- The cells of a run of bytes: zero bytes are not listed. -/
def Memory.cells : (k : Nat) → Bytes → List Host.Cell
  | _, [] => []
  | k, b :: bs => if b = 0 then Memory.cells (k + 1) bs else (k, b) :: Memory.cells (k + 1) bs
/-- Memory with a run of bytes written at a key. -/
def Memory.write (m : List Host.Cell) (k : Nat) (bs : Bytes) : List Host.Cell :=
  m.filter (fun c => decide (c.1 < k)) ++ Memory.cells k bs ++ m.filter (fun c => decide (k + bs.length ≤ c.1))
/-- The listed bytes of a range, numbered from its start. -/
def Memory.slice (m : List Host.Cell) (k n : Nat) : List Host.Cell :=
  (m.filter (fun c => decide (k ≤ c.1 ∧ c.1 < k + n))).map (fun c => (c.1 - k, c.2))
/-- Memory with a range replaced by listed bytes numbered from its start. -/
def Memory.place (m : List Host.Cell) (k n : Nat) (cs : List Host.Cell) : List Host.Cell :=
  Memory.write m k (Memory.read cs 0 n)
/-- Memory with a range cleared to zero. -/
def Memory.clear (m : List Host.Cell) (k n : Nat) : List Host.Cell :=
  m.filter (fun c => decide (c.1 < k ∨ k + n ≤ c.1))
/-- The canonical form: keys strictly rising, no zero byte listed. -/
abbrev Memory.wf (m : List Host.Cell) : Prop := m.Pairwise (fun a b => a.1 < b.1) ∧ ∀ c ∈ m, c.2 ≠ 0

/-- The key of an offset in a tile's window (spec/04 Table 4.1). -/
def sramKey (gtile off : Nat) : Nat := gtile * 2 ^ 30 + off
/-- The key of a DRAM offset of a die. -/
def dramKey (die off : Nat) : Nat := (die + 1) * 2 ^ 40 + off

/-- `n` bytes of the module's memory. -/
def State.readMem (s : State) (k n : Nat) : Bytes := Memory.read s.mem k n
/-- Bytes of the granule that carries one poison mark: 64 in DRAM, 8 in a tile (spec/17 Table 17.8). -/
def granule (k : Nat) : Nat := if 2 ^ 40 ≤ k then 64 else 8
/-- A byte of a range lies in a poisoned granule (spec/17 R371). -/
def State.poisoned (s : State) (k n : Nat) : Bool :=
  s.poison.any (fun g => decide (g < k + n ∧ k < g + granule g))
/-- The granules that a range of bytes touches. -/
def granulesOf (k n : Nat) : List Nat :=
  (List.range ((k + n - 1) / granule k + 1 - k / granule k)).map (fun i => (k / granule k + i) * granule k)
/-- The state with bytes written: a granule covered whole loses its poison mark (spec/17 R371). -/
def State.writeMem (s : State) (k : Nat) (bs : Bytes) : State :=
  { s with mem := Memory.write s.mem k bs
           poison := s.poison.filter (fun g => !decide (k ≤ g ∧ g + granule g ≤ k + bs.length)) }
/-- The state with a range of bytes cleared to zero, its poison marks with them. -/
def State.clearMem (s : State) (k n : Nat) : State :=
  { s with mem := Memory.clear s.mem k n, poison := s.poison.filter (fun g => !decide (k ≤ g ∧ g + granule g ≤ k + n)) }
/-- A poison mark put on every granule of a range. -/
def State.markPoison (s : State) (k n : Nat) : State :=
  { s with poison := (granulesOf k n).foldl (fun p g => if p.contains g then p else p ++ [g]) s.poison }
/-- Bytes written with the poison mark of their source. -/
def State.writeMark (s : State) (k : Nat) (bs : Bytes) (bad : Bool) : State :=
  if bad then (s.writeMem k bs).markPoison k bs.length else s.writeMem k bs

/-- The number of the key that a page names (partition × 64 + KEYID): 0 for none, else one made of the key's bytes, so that equal
keys have equal numbers (spec/15 R314). -/
def State.keyNumber (s : State) (key : Nat) : Nat :=
  if key = 0 then 0
  else match Assoc.find (vget s.parts (key / 64)).keys (key % 64) with
    | some k => 1 + ofBytes k
    | none => 0
/-- A 16-byte unit as DRAM holds it, from its plaintext under a key; key 0 stores it as it is (spec/15 R314; log 11). -/
def encipher (key unit : Nat) (v : BitVec 128) : BitVec 128 := if key = 0 then v else Config.cipher key unit v
/-- A 16-byte unit of DRAM as its decryption under a key reads. -/
def decipher (key unit : Nat) (v : BitVec 128) : BitVec 128 := if key = 0 then v else (Config.cipher key unit).symm v
/-- The 16-byte unit of DRAM as read under a key (spec/15 R314): the plaintext if it was written under the same key, else the
decryption under that key of the bytes that DRAM holds. -/
def State.unitUnder (s : State) (unit key : Nat) : Bytes :=
  let tag := Assoc.get 0 s.keyTag unit
  let raw := s.readMem (unit * 16) 16
  if tag = key then raw else toBytes 16 (decipher key unit (encipher tag unit (BitVec.ofNat 128 (ofBytes raw)))).toNat
/-- Bytes of DRAM read under the key that a page names. -/
def State.readKeyed (s : State) (k n page : Nat) : Bytes :=
  let key := s.keyNumber page
  if key = 0 && s.keyTag.isEmpty then s.readMem k n
  else ((List.range ((k + n + 15) / 16 - k / 16)).flatMap (fun i => s.unitUnder (k / 16 + i) key)).drop (k % 16) |>.take n
/-- The tag of the units of a range set to a key, their other bytes as they read under it (spec/15 R314). -/
def State.retag (s : State) (k n key : Nat) : State :=
  (List.range ((k + n + 15) / 16 - k / 16)).foldl (fun s i =>
    let u := k / 16 + i
    if Assoc.get 0 s.keyTag u = key then s
    else
      let s := { s with mem := Memory.write s.mem (u * 16) (s.unitUnder u key) }
      { s with keyTag := if key = 0 then Assoc.erase s.keyTag u else Assoc.set s.keyTag u key }) s
/-- Bytes of DRAM written under the key that a page names. -/
def State.writeKeyed (s : State) (k : Nat) (bs : Bytes) (page : Nat) (bad : Bool) : State :=
  let key := s.keyNumber page
  (if key = 0 && s.keyTag.isEmpty then s else s.retag k bs.length key).writeMark k bs bad

/-- A slot by its global number, tile × 4 + slot. -/
def State.slot (s : State) (g : Nat) : Slot := Assoc.get Slot.reset s.slots g
/-- The state with a slot replaced. -/
def State.setSlot (s : State) (g : Nat) (t : Slot) : State := { s with slots := Assoc.set s.slots g t }
/-- The state with a slot changed. -/
def State.onSlot (s : State) (g : Nat) (f : Slot → Slot) : State := s.setSlot g (f (s.slot g))
/-- A task-hosting tile by its global number. -/
def State.tile (s : State) (g : Nat) : Tile := Assoc.get Tile.reset s.tiles g
/-- The state with a tile replaced. -/
def State.setTile (s : State) (g : Nat) (t : Tile) : State := { s with tiles := Assoc.set s.tiles g t }
/-- The state with a tile changed. -/
def State.onTile (s : State) (g : Nat) (f : Tile → Tile) : State := s.setTile g (f (s.tile g))
/-- A die. -/
def State.die (s : State) (d : Nat) : Die := vget s.dies d
/-- The state with a die changed. -/
def State.onDie (s : State) (d : Nat) (f : Die → Die) : State := { s with dies := vset s.dies d (f (s.die d)) }
/-- A partition. -/
def State.part (s : State) (p : Nat) : Partition := vget s.parts p
/-- The state with a partition changed. -/
def State.onPart (s : State) (p : Nat) (f : Partition → Partition) : State :=
  { s with parts := vset s.parts p (f (s.part p)) }
/-- A work queue. -/
def State.queue (s : State) (q : Nat) : Queue := Assoc.get Queue.reset s.queues q
/-- A work queue changed. -/
def State.onQueue (s : State) (q : Nat) (f : Queue → Queue) : State := { s with queues := Assoc.set s.queues q (f (s.queue q)) }
/-- The state with an event appended to those that the module's units have still to carry out (MODEL, log 2). -/
def State.post (s : State) (i : Instr) : State := { s with agenda := s.agenda ++ [i] }
/-- The state with an event put aside until something else has moved (MODEL, log 2). -/
def State.defer (s : State) (i : Instr) : State := { s with deferred := s.deferred ++ [i] }
/-- An event put aside once. -/
def State.later (s : State) (i : Instr) : State := if s.deferred.contains i then s else s.defer i
/-- A message to the outside of the module (MODEL, log 1). -/
def State.emit (s : State) (e : Egress) : State := { s with egress := s.egress ++ [e] }
/-- An unconstrained word (log 9). -/
def State.draw (s : State) : Word × State := (Config.freeValue s.drawn, { s with drawn := s.drawn + 1 })
/-- A fresh number for a request, walk, command or fill. -/
def State.fresh (s : State) : Nat × State := (s.nextId, { s with nextId := s.nextId + 1 })

/-- The die of a global tile number (spec/01 R13). -/
def dieOf (g : Nat) : Nat := g / 64 % 4
/-- The local ID of a global tile number. -/
def localOf (g : Nat) : Nat := g % 64
/-- An M-tile (spec/01 R12). -/
def isMTile (g : Nat) : Bool := decide (localOf g < 48)
/-- An S-tile. -/
def isSTile (g : Nat) : Bool := decide (52 ≤ localOf g ∧ localOf g < 56)
/-- Package column of a tile (spec/01 R14). -/
def gridCol (g : Nat) : Nat := dieOf g % 2 * 8 + g % 8
/-- Package row of a tile. -/
def gridRow (g : Nat) : Nat := dieOf g / 2 * 7 + localOf g / 8
/-- The global tile at package coordinates. -/
def tileAt (col row : Nat) : Nat := (row / 7 * 2 + col / 8) * 64 + row % 7 * 8 + col % 8
/-- The tile of a global slot number. -/
def tileOfSlot (g : Nat) : Nat := g / 4
/-- TILEID (spec/01 Table 1.2). -/
def State.tileId (s : State) (g : Nat) : Word :=
  wordN (bit (isSTile g) * 2 ^ 18 + s.mgmt.package * 2 ^ 8 + g)
/-- SourceNo() of a unit of a tile (spec/01 R15, spec/04 Table 4.6). -/
def State.sourceNo (s : State) (gtile unit : Nat) : Nat := s.mgmt.package * 4096 + gtile * 16 + unit
/-- SourceNo() of a slot. -/
def State.slotSource (s : State) (g : Nat) : Nat := s.sourceNo (tileOfSlot g) (g % 4)
/-- The window address of an offset of a tile of this module (spec/01 R21). -/
def State.windowAddr (s : State) (gtile off : Nat) : Word :=
  wordN (0xFFFE * 2 ^ 48 + s.mgmt.package * 2 ^ 38 + gtile * 2 ^ 30 + off)

/-- A tile error counter of spec/13 Table 13.6 advances. -/
def State.countTile (s : State) (g i : Nat) (n : Nat := 1) : State :=
  s.onTile g (fun t => { t with errors := vset t.errors i (satInc (vget t.errors i) n) })
/-- A die error counter of spec/17 Table 17.10 advances. -/
def State.countDie (s : State) (d i : Nat) (n : Nat := 1) : State :=
  s.onDie d (fun t => { t with counters := vset t.counters i (satInc (vget t.counters i) n) })

/-- The bank of scalar registers in use (spec/13 R267; spec/02 R55). -/
def Slot.bank (t : Slot) : Bank := if t.status.tbank then .trap else if t.inHandler then .handler else .main
/-- A flow's registers. -/
def Slot.flowOf (t : Slot) : Bank → Flow
  | .main => t.main
  | .handler => t.handler
  | .trap => t.trap
/-- A slot with a flow replaced. -/
def Slot.setFlow (t : Slot) (b : Bank) (f : Flow) : Slot :=
  match b with
  | .main => { t with main := f }
  | .handler => { t with handler := f }
  | .trap => { t with trap := f }
/-- The flow in use. -/
def Slot.flow (t : Slot) : Flow := t.flowOf t.bank
/-- The PC of the flow in use. -/
def Slot.pc (t : Slot) : Nat := t.flow.pc
/-- X[n] of a flow: x0 reads zero (spec/06 R127). -/
def Flow.get (f : Flow) (r : Reg) : Word := if r = 0 then 0 else f.x.get r
/-- A flow with X[n] written: a write to x0 is discarded. -/
def Flow.set (f : Flow) (r : Reg) (v : Word) : Flow := if r = 0 then f else { f with x := f.x.set r.val v r.isLt }
/-- X[n] of the flow in use. -/
def Slot.x (t : Slot) (r : Reg) : Word := t.flow.get r
/-- A register of a bank written. -/
def Slot.writeX (t : Slot) (b : Bank) (r : Reg) (v : Word) : Slot := t.setFlow b ((t.flowOf b).set r v)
/-- The flow in use with X[n] written. -/
def Slot.setX (t : Slot) (r : Reg) (v : Word) : Slot := t.writeX t.bank r v
/-- The flow in use with the PC set. -/
def Slot.setPc (t : Slot) (pc : Nat) : Slot := t.setFlow t.bank { t.flow with pc := pc }
/-- Flags ORed into FLAGS (spec/05 R112). -/
def Slot.orFlags (t : Slot) (f : BitVec 7) : Slot := { t with flags := t.flags ||| f.setWidth 64 }
/-- The flow whose vector registers a bank uses: a handler on an S-tile has its own; the trap bank shares those of the
flow that trapped (spec/02 R55, spec/13 R267). -/
def Slot.usesHandlerV (t : Slot) (gtile : Nat) (b : Bank) : Bool :=
  isSTile gtile && (match b with | .main => false | .handler => true | .trap => t.inHandler)
/-- A vector register of a bank. -/
def Slot.getV (t : Slot) (gtile : Nat) (b : Bank) (r : Reg) : VReg :=
  if t.usesHandlerV gtile b then t.hv.get r else t.v.get r
/-- A vector register of a bank written. -/
def Slot.setV (t : Slot) (gtile : Nat) (b : Bank) (r : Reg) (v : VReg) : Slot :=
  if t.usesHandlerV gtile b then { t with hv := t.hv.set r.val v r.isLt } else { t with v := t.v.set r.val v r.isLt }
/-- A mask register of a bank. -/
def Slot.getM (t : Slot) (b : Bank) (r : MReg) : Word := (t.flowOf b).m.get r
/-- A mask register of a bank written. -/
def Slot.setM (t : Slot) (b : Bank) (r : MReg) (v : Word) : Slot :=
  t.setFlow b { t.flowOf b with m := (t.flowOf b).m.set r.val v r.isLt }

/-- SSTATUS as a word (spec/13 Table 13.2). -/
def Status.word (u : Status) : Word :=
  wordN (bit u.super + 2 * bit u.tbank + 4 * bit u.khold + 8 * bit u.inh + 16 * bit u.lock)

/-- A loaded image of a partition. -/
def State.image (s : State) (part handle : Nat) : Option Image :=
  s.images.find? (fun i => i.part == part && i.handle == handle)
/-- A kernel of a loaded image. -/
def State.kernel (s : State) (part handle idx : Nat) : Option Kernel :=
  match s.image part handle with
  | some i => i.kernels[idx]?
  | none => none
/-- The kernel whose code a slot fetches: in its trap bank, the partition's trap kernel (spec/13 R275). -/
def State.kernelOf (s : State) (t : Slot) : Option Kernel :=
  if t.status.tbank then s.kernel t.part (s.part t.part).trapImage (bits (s.part t.part).partinfo 15 0)
  else s.kernel t.part t.image t.kernel
/-- The word at an offset of a kernel's code, unless R106 refuses the offset. -/
def Kernel.fetch (k : Kernel) (pc : Nat) : Option (BitVec 32) := if pc % 4 = 0 then k.code[pc / 4]? else none
/-- The word at the PC of a slot. -/
def State.fetch (s : State) (t : Slot) : Option (BitVec 32) :=
  match s.kernelOf t with
  | some k => k.fetch t.pc
  | none => none
/-- The word that a trap reports (spec/13 Table 13.5). -/
def State.wordAt (s : State) (t : Slot) : Word :=
  match s.fetch t with
  | some w => w.setWidth 64
  | none => 0

/-- The gang a slot belongs to. -/
def State.gangOf (s : State) (t : Slot) : Option Gang :=
  match t.gang with
  | some k => Assoc.find s.gangs k
  | none => none
/-- A slot is in a lockstep gang. -/
def State.inLockstep (s : State) (t : Slot) : Bool :=
  match s.gangOf t with
  | some g => g.lockstep
  | none => false
/-- A gang changed. -/
def State.onGang (s : State) (k : Nat) (f : Gang → Gang) : State :=
  match Assoc.find s.gangs k with
  | some g => { s with gangs := Assoc.set s.gangs k (f g) }
  | none => s

/-- The 16-bit count of a completion counter k of a tile. -/
def State.counter (s : State) (gtile k : Nat) : BitVec 16 := vget (s.tile gtile).k k
/-- A completion counter set. -/
def State.setCounter (s : State) (gtile k : Nat) (v : BitVec 16) : State :=
  s.onTile gtile (fun t => { t with k := vset t.k k v })

/-- A packet with the lengths of its data: inline when it fits in 32 bytes, else in payload beats of 64 (spec/16 R337). -/
def sized (p : Packet) : Packet :=
  { p with ilen := if p.data.length ≤ 32 then p.data.length else 0, beats := if p.data.length ≤ 32 then 0 else (p.data.length + 63) / 64 }
/-- The port by which a packet leaves (spec/16 R348): on the die of its source. -/
def portOf (p : Packet) : Nat := p.src % 4096 / 16 / 64 * 4 + p.dest / 4096 % 4
/-- The destination of a flow towards another package: that package (spec/16 R336). -/
def flowDest (dest : Nat) : Nat := dest / 4096 * 4096
/-- The flow of a source towards a destination, if it has one. -/
def State.flow (s : State) (src dest : Nat) : Option PacketFlow :=
  s.flows.find? (fun f => f.src == src && f.dest == flowDest dest)
/-- A flow replaced or added. -/
def State.setFlow (s : State) (f : PacketFlow) : State :=
  { s with flows := s.flows.filter (fun (q : PacketFlow) => !(q.src == f.src && q.dest == f.dest)) ++ [f] }
/-- A packet sent to another package (spec/16 R336, R341): a class 3 packet takes the next SEQ of its flow and a copy of it
stays in the retry buffer until it is accepted. -/
def State.sendPacket (s : State) (p : Packet) : State :=
  if p.cls = 3 then
    let f : PacketFlow := (s.flow p.src p.dest).getD
      { src := p.src, dest := flowDest p.dest, next := 0, retry := [], accepted := 0, goBack := none }
    let p := sized { p with seq := f.next.toNat, eport := portOf p }
    (s.setFlow { f with next := f.next + 1, retry := f.retry ++ [p] }).emit (.packet (portOf p) p)
  else State.emit s (.packet (portOf p) (sized { p with eport := portOf p }))
/-- The SEQ that the next class 3 packet of a flow will take. -/
def State.nextSeq (s : State) (src dest : Nat) : BitVec 16 :=
  match s.flow src dest with
  | some f => f.next
  | none => 0
/-- The retry buffer of a source has room for a packet (spec/16 R341). -/
def State.retryRoom (s : State) (src : Nat) : Bool :=
  decide (((s.flows.filter (fun f => f.src == src)).map (fun f => f.retry.length)).sum < 64)
/-- A token can leave the channel endpoint towards another package: the retry buffer of the tile's endpoints has room (spec/16 R341). -/
def State.tokenRoom (s : State) (gtile : Nat) (e : Endpoint) : Bool :=
  e.peer.all (fun p => p.1 == s.mgmt.package) || s.retryRoom (s.sourceNo gtile 7)

end Sys2Proof.Machine
end

