-- ==== Sys2Proof/Machine/Translate.lean ====
section
/-! DEFINITION. Classification of addresses, page-table entries, TLBs and walks (spec/04 R82, R83; spec/15). -/

namespace Sys2Proof.Machine

/-- What an access does to the bytes it reaches. -/
inductive AccKind where
  | read
  | write
  | atomic (id : Nat)
  deriving DecidableEq, Repr

/-- Outcome of a translation: the target; a cause with its FKIND and whether the entry refuses; or no translation held. -/
inductive Xlat where
  | ok (t : Target)
  | fault (cause fkind : Nat) (refuse : Bool)
  | miss
  deriving DecidableEq, Repr

/-- Shift of a page size code (spec/15 Table 15.2). -/
def pageShift (sz : Nat) : Nat :=
  match sz with
  | 0 => 12
  | 1 => 16
  | 2 => 21
  | _ => 30

/-- An entry covers a virtual address (spec/15 R312). -/
def TlbEntry.covers (e : TlbEntry) (va : Word) : Bool :=
  let sh := pageShift (bits e.w0 3 2)
  testW e.w0 0 && bits e.w0 55 sh == bits va 55 sh

/-- An entry meets the partition's PTWIN range (spec/15 R318). -/
def TlbEntry.meetsWindow (e : TlbEntry) (ptwin : Word) : Bool :=
  let base := bits e.w0 55 12 * 4096
  decide (base < ptwin.toNat + 2 ^ 32 ∧ ptwin.toNat < base + 2 ^ pageShift (bits e.w0 3 2))

/-- RSVLO of a die (spec/15 R403): the lowest offset reserved to the ROM. -/
def Die.rsvLo (d : Die) : Nat :=
  d.shards.foldl (fun m r => min m r.2.1) (Config.dramBytes - Config.systemBytes)

/-- An entry is malformed (spec/15 R313; a poisoned entry counts as malformed, spec/17 R371). -/
def State.malformed (s : State) (part : Nat) (e : TlbEntry) : Bool :=
  let sh := pageShift (bits e.w0 3 2)
  let size := 2 ^ sh
  let hkind := bits e.w1 15 14
  let hdie := bits e.w1 17 16
  let hpkg := bits e.w1 27 18
  let key := bits e.w1 37 32
  let pfn := bits e.w2 51 12 * 4096
  let reserved := bits e.w0 63 56 != 0 || bits e.w0 11 4 != 0 || bits e.w1 63 38 != 0 || bits e.w1 31 28 != 0 ||
    bits e.w1 8 4 != 0 || bits e.w2 63 52 != 0 || bits e.w2 11 0 != 0
  let low := bits e.w0 55 12 * 4096 % size != 0 || pfn % size != 0
  let rest := hkind == 3 ||
    (hkind == 0 && decide (Config.dramBytes < pfn + size ∨ (s.die hdie).rsvLo < pfn + size)) ||
    (hkind != 0 && (hdie != 0 || testW e.w1 13)) ||
    (hkind == 1 && (pfn != 0 || key != 0 || !Config.configuredPackage hpkg || hpkg == s.mgmt.package)) ||
    (hkind == 2 && key != 0) ||
    (key != 0 && (Assoc.find (s.part part).keys key).isNone)
  reserved || low || (!testW e.w0 1 && rest)

/-- Shard(va) (spec/15 R315). -/
def shardOf (va : Word) : Nat := bits (mix (wordN (bits va 55 30))) 63 62
/-- The hash h(va, z) (spec/15 R315). -/
def hashOf (va : Word) (z : Nat) : Word := mix (wordN (z * 2 ^ 60 + bits va 55 (pageShift z)))

/-- The entry in a bucket of a shard: the key of the shard's first byte, bucket, index (spec/15 R315). -/
def State.tableEntry (s : State) (part home base bucket i : Nat) : TlbEntry :=
  let k := base + bucket * 256 + i * 32
  let bs := s.readMem k 32
  { part := part, home := home, w0 := fieldW bs 0 8, w1 := fieldW bs 8 8, w2 := fieldW bs 16 8 }

/-- The key of the first byte of a partition's shard on a die. -/
def State.shardBase (s : State) (part die : Nat) : Option Nat :=
  ((s.die die).shards.find? (fun r => r.1 == part)).map (fun r => dramKey die r.2.1)

/-- A die is lost (spec/17 R374). -/
def State.lostDie (s : State) (d : Nat) : Bool := (s.die d).lostAt.isSome
/-- A walk (spec/15 R316): the entry taken, if any, and how many malformed entries it met before it. A lost die's shard
holds none. -/
def State.walk (s : State) (part : Nat) (va : Word) : Option TlbEntry × Nat :=
  let home := shardOf va
  let nb := (s.part part).nb
  match if s.lostDie home then none else s.shardBase part home with
  | none => (none, 0)
  | some base =>
    let places := [3, 2, 1, 0].flatMap (fun z =>
      let h := hashOf va z
      let b0 := bits h (nb - 1) 0
      let b1 := bits h 63 (64 - nb)
      (if b0 = b1 then [b0] else [b0, b1]).flatMap (fun b => (List.range 8).map (fun i => (z, b, i))))
    places.foldl (fun (acc : Option TlbEntry × Nat) p =>
      match acc.1 with
      | some _ => acc
      | none =>
        let e := s.tableEntry part home base p.2.1 p.2.2
        if !testW e.w0 0 then acc
        else if s.malformed part e || s.poisoned (base + p.2.1 * 256 + p.2.2 * 32) 32 then (none, acc.2 + 1)
        else if bits e.w0 3 2 == p.1 && e.covers va && !e.meetsWindow (s.part part).ptwin then (some e, acc.2)
        else acc) (none, 0)

/-- The translation of an address by an entry: its target. -/
def TlbEntry.target (e : TlbEntry) (va : Word) : Target :=
  let sh := pageShift (bits e.w0 3 2)
  let pa := bits e.w2 51 12 * 4096 + bits va (sh - 1) 0
  match bits e.w1 15 14 with
  | 0 => .dram (bits e.w1 17 16) pa (if bits e.w1 37 32 = 0 then 0 else e.part * 64 + bits e.w1 37 32)
  | 1 => .peer (bits e.w1 27 18)
  | _ => .host pa

/-- The checks of spec/15 Table 15.3 on the entry that covers the address. -/
def TlbEntry.check (e : TlbEntry) (part : Nat) (super : Bool) (kind : AccKind) (va : Word) : Xlat :=
  if bits e.w1 3 0 != part then .fault 0x0D 3 false
  else if testW e.w0 1 then .fault 0x0B 4 true
  else
    let need := match kind with
      | .read => testW e.w1 9
      | .write => testW e.w1 10
      | .atomic _ => testW e.w1 9 && testW e.w1 10 && testW e.w1 11
    if (testW e.w1 12 && !super) || !need then .fault 0x0C 2 false
    else
      match kind, bits e.w1 15 14 with
      | .atomic id, 2 => if id == 0 || id == 4 || id == 5 then .ok (e.target va) else .fault 0x04 5 false
      | _, _ => .ok (e.target va)

/-- The fixed rule of PTWIN (spec/15 R318): none when the address lies outside [PTWIN, PTWIN + 2^32). -/
def State.window (s : State) (part : Nat) (super : Bool) (va : Word) : Option Xlat :=
  let p := s.part part
  if p.configured && decide (p.ptwin.toNat ≤ va.toNat ∧ va.toNat < p.ptwin.toNat + 2 ^ 32) then
    let o := va.toNat - p.ptwin.toNat
    let d := o / 2 ^ 30
    if o % 2 ^ 30 < 2 ^ p.nb * 256 then
      match s.shardBase part d with
      | some base => some (if super then .ok (.dram d (base - dramKey d 0 + o % 2 ^ 30) 0) else .fault 0x0C 2 false)
      | none => some (.fault 0x0B 1 false)
    else some (.fault 0x0B 1 false)
  else none

/-- A TLB by its number: a tile's is the tile's number, Fathom engine n of die d is 256 + 16d + n, the home TLB of die d
is 320 + d. -/
def State.tlb (s : State) (n : Nat) : Tlb :=
  if n < 256 then (s.tile n).tlb
  else if n < 320 then vget (s.die ((n - 256) / 16)).fathom (n - 256)
  else (s.die (n - 320)).homeTlb
/-- A TLB changed. -/
def State.onTlb (s : State) (n : Nat) (f : Tlb → Tlb) : State :=
  if n < 256 then s.onTile n (fun t => { t with tlb := f t.tlb })
  else if n < 320 then
    s.onDie ((n - 256) / 16) (fun d => { d with fathom := vset d.fathom (n - 256) (f (vget d.fathom (n - 256))) })
  else s.onDie (n - 320) (fun d => { d with homeTlb := f d.homeTlb })
/-- The entries a TLB may keep for one partition, or for one context of a Fathom engine (spec/15 R320). -/
def tlbRoom (n : Nat) : Nat := if n < 256 then 128 else if n < 320 then 4 else 512
/-- An entry put in front of a TLB's, within the room of its partition or context (spec/15 R320). -/
def Tlb.install (t : Tlb) (room : Nat) (e : TlbEntry) : Tlb :=
  let same := fun (x : TlbEntry) => x.part == e.part && x.ctx == e.ctx
  let mine := (e :: t.entries.filter (fun x => same x && !(x.w0 == e.w0))).take room
  { t with entries := mine ++ t.entries.filter (fun x => !same x) }
/-- The GEN of a partition at a home unit (spec/15 R321). -/
def State.gen (s : State) (home part : Nat) : Nat := Assoc.get 0 (s.die home).gens part

/-- The entry a TLB holds for an address; a Fathom TLB holds it for one context (spec/15 R320). -/
def Tlb.lookup (t : Tlb) (part : Nat) (va : Word) (ctx : Nat := 0) : Option TlbEntry :=
  t.entries.find? (fun e => e.part == part && e.ctx == ctx && e.covers va)

/-- The number under which a slot asks for a translation. -/
def slotAsker (g : Nat) : Nat := g + 1
/-- The number under which a generator of a tile asks for one. -/
def engineAsker (gtile g : Nat) : Nat := 1025 + gtile * 8 + g
/-- Translation of an address with what a TLB holds (spec/15 R319, R320): an address for which the walk that the asker waited for found
no entry faults at step 1. -/
def State.translate (s : State) (tlb part : Nat) (super : Bool) (kind : AccKind) (va : Word) (asker : Nat) (ctx : Nat := 0) : Xlat :=
  match s.window part super va with
  | some x => x
  | none =>
    match (s.tlb tlb).lookup part va ctx with
    | some e => e.check part super kind va
    | none => if (s.tlb tlb).answers.contains (part, va, asker) then .fault 0x0B 1 false else .miss

/-- Translation at the home of an address for the device's own readers and writers, whose walks the model does not spread over
steps (spec/15 R320: which entries a TLB keeps, and for how long, changes timing only). -/
def State.translateNow (s : State) (part : Nat) (super : Bool) (kind : AccKind) (va : Word) : Xlat :=
  match s.window part super va with
  | some x => x
  | none =>
    match (s.tlb (320 + shardOf va)).lookup part va with
    | some e => e.check part super kind va
    | none =>
      match (s.walk part va).1 with
      | some e => e.check part super kind va
      | none => .fault 0x0B 1 false
/-- What such a translation leaves behind when the home TLB misses: the entry found, and the count of the malformed entries met (spec/15
R313, R320). -/
def State.walked (s : State) (part : Nat) (va : Word) : State :=
  let home := shardOf va
  if (s.window part true va).isSome || ((s.tlb (320 + home)).lookup part va).isSome then s
  else
    let r := s.walk part va
    let s := if r.2 = 0 then s else s.countDie home 0 r.2
    match r.1 with
    | some e => s.onTlb (320 + home) (fun t => t.install (tlbRoom (320 + home)) { e with home := home })
    | none => s

/-- A TLB miss goes to the home of the address (spec/15 R320): the home TLB answers with a fill that carries the current
GEN (R321 rule 2), or a walk starts that records it (rule 1). Nothing happens while the walk or its fill is on its way. -/
def State.askHome (s : State) (tlb part : Nat) (va : Word) (asker : Nat) (ctx : Nat := 0) : State :=
  let home := shardOf va
  match ((s.die home).homeTlb).lookup part va with
  | some e => s.post (.tlbFill tlb
      { home := home, part := part, gen := s.gen home part, w0 := e.w0, w1 := e.w1, w2 := e.w2, by_ := asker, ctx := ctx })
  | none =>
    if (s.die home).walks.any (fun w => w.part == part && w.va == va && w.tlb == tlb && w.by_ == asker) then s
    else
      let (id, s) := s.fresh
      (s.onDie home (fun d => { d with walks := d.walks ++
        [{ id := id, home := home, part := part, va := va, tlb := tlb, gen := s.gen home part, by_ := asker, ctx := ctx }] })).post (.walkComplete id)
/-- An asker waits no longer: its answers are gone, and its walks only fill (spec/15 R320). -/
def State.unask (s : State) (asker : Nat) (tlb : Nat) (which : Word → Bool := fun _ => true) : State :=
  let s := s.onTlb tlb (fun t => { t with answers := t.answers.filter (fun a => !(a.2.2 == asker && which a.2.1)) })
  [0, 1, 2, 3].foldl (fun s d => if (s.die d).walks.isEmpty then s else s.onDie d (fun x => { x with walks := x.walks.map (fun w =>
    if w.by_ == asker && w.tlb == tlb && which w.va then { w with by_ := 0 } else w) })) s

/-- Classification of an address (spec/04 R82). -/
inductive AddrClass where
  | window (pkg gtile off : Nat)
  | virtual
  | bad
  deriving DecidableEq, Repr
/-- See `AddrClass`. -/
def classify (ea : Word) : AddrClass :=
  if bits ea 63 48 = 0xFFFE then .window (bits ea 47 38) (bits ea 37 30) (bits ea 29 0)
  else if bits ea 63 56 = 0 then .virtual
  else .bad

/-- A tile of a package belongs to a partition (spec/17 R357). -/
def State.ownsTile (s : State) (part pkg gtile : Nat) : Bool :=
  if pkg = s.mgmt.package then (s.tile gtile).part == some part else testN (Config.peerTiles part pkg) gtile

/-- An address of the accumulators' regions and the accumulator tile it belongs to (spec/04 Table 4.1, R84); whether it
takes 8-byte accesses only, and whether it takes stores. -/
def bushelRegion (off : Nat) : Option (Nat × Bool × Bool) :=
  if 0x01000000 ≤ off ∧ off < 0x01100000 then some ((off - 0x01000000) / 0x4000, true, true)
  else if 0x01100000 ≤ off ∧ off < 0x01108000 then some ((off - 0x01100000) / 0x200, false, false)
  else if 0x01108000 ≤ off ∧ off < 0x01108200 then some ((off - 0x01108000) / 8, false, false)
  else none

/-- The words of the control pages (spec/13 Table 13.6): none outside them, else whether the word is RW. -/
def controlWord (off : Nat) : Option Bool :=
  let o := off - 0x02000000
  if off < 0x02000000 ∨ 0x02040000 ≤ off then none
  else if o < 0x8000 then (if o % 0x1000 < 16 then some false else none)
  else if o < 0x9000 then (if o % 0x100 < 8 then some false else none)
  else if 0x9000 ≤ o ∧ o < 0x9080 then some false
  else if 0x9080 ≤ o ∧ o < 0x90A0 then some false
  else if 0xB000 ≤ o ∧ o < 0xB040 then some true
  else none

/-- The outcome of the checks of spec/06 R144. -/
inductive Checked where
  | ok (t : Target)
  | trap (cause : Nat)
  | wait
  deriving DecidableEq, Repr

/-- Window checks of a slot's scalar access (spec/06 R144 step 4): global slot, kind, size. -/
def State.checkWindow (s : State) (g : Nat) (kind : AccKind) (size pkg gtile off : Nat) : Checked :=
  let t := s.slot g
  let own := decide (pkg = s.mgmt.package)
  if !(own || Config.configuredPackage pkg) then .trap 0x04
  else if !(isMTile gtile || isSTile gtile) then .trap 0x04
  else if !s.ownsTile t.part pkg gtile then .trap 0x04
  else if off + size ≤ 0x400000 then .ok (if own then .tile gtile off else .remoteTile pkg gtile off)
  else
    match bushelRegion off, controlWord off with
    | some (acc, wide, stores), _ =>
      let here := own && gtile == tileOfSlot g && isMTile gtile
      let granted := t.status.super || testN t.grant.acc.toNat acc
      let allowed := match kind with
        | .read => !wide || size == 8
        | .write => stores && size == 8
        | .atomic _ => false
      if here && granted && allowed then .ok (.tile gtile off) else .trap 0x04
    | none, some rw =>
      let allowed := match kind with
        | .read => true
        | .write => rw
        | .atomic _ => false
      if t.status.super && allowed && size == 8 then .ok (if own then .tile gtile off else .remoteTile pkg gtile off)
      else .trap 0x04
    | none, none => .trap 0x04

/-- The checks of a slot's scalar access (spec/06 R144 steps 2 to 5). -/
def State.checkAccess (s : State) (g : Nat) (kind : AccKind) (size : Nat) (ea : Word) : Checked :=
  match classify ea with
  | .bad => .trap 0x04
  | .window pkg gtile off => if ea.toNat % size ≠ 0 then .trap 0x05 else s.checkWindow g kind size pkg gtile off
  | .virtual =>
    if ea.toNat % size ≠ 0 then .trap 0x05
    else match s.translate (tileOfSlot g) (s.slot g).part (s.slot g).status.super kind ea (slotAsker g) with
      | .ok t => .ok t
      | .fault c _ _ => .trap c
      | .miss => .wait

end Sys2Proof.Machine
end

