-- ==== Sys2Proof/Machine/Records.lean ====
section
/-! DEFINITION. The records of tasks, scopes and instances, and what happens to them when counters reach zero, scopes are
cancelled and tasks end or die (spec/01 R19, R22, R23; spec/02 R31 to R34; spec/10). -/

namespace Sys2Proof.Machine

/-- No slot: the issuer of a request whose task has been saved, of the messages of TASK delivery, and of requests of the device's own
units. -/
def noSlot : Nat := 2 ^ 20
/-- The scope of a request that belongs to no task. -/
def noScope : Nat := 2 ^ 40

/-- A task handle (spec/10 Table 10.3). -/
def taskHandle (pkg die entry : Nat) (gen : BitVec 16) : Word :=
  wordN (gen.toNat * 2 ^ 32 + pkg * 2 ^ 20 + die * 2 ^ 18 + entry)
/-- The die of a task handle. -/
def handleDie (h : Word) : Nat := bits h 19 18
/-- The Tun entry of a task handle. -/
def handleEntry (h : Word) : Nat := bits h 17 0
/-- A Tun record. -/
def State.record (s : State) (die entry : Nat) : TaskRec := Assoc.get TaskRec.free (s.die die).tun entry
/-- A Tun record changed. -/
def State.onRecord (s : State) (die entry : Nat) (f : TaskRec → TaskRec) : State :=
  s.onDie die (fun d => { d with tun := Assoc.set d.tun entry (f (s.record die entry)) })
/-- The live record a handle names, if the handle is not stale (spec/10 R229). -/
def State.taskOf (s : State) (h : Word) : Option TaskRec :=
  let r := s.record (handleDie h) (handleEntry h)
  if bits h 29 20 == s.mgmt.package && bits h 63 48 == 0 && bits h 31 30 == 0 && r.state != .free &&
      r.gen.toNat == bits h 47 32 then some r else none
/-- The handle of a record of this module. -/
def State.handleOf (s : State) (die entry : Nat) : Word :=
  taskHandle s.mgmt.package die entry (s.record die entry).gen
/-- The record a handle names changed; a stale handle changes nothing. -/
def State.onTask (s : State) (h : Word) (f : TaskRec → TaskRec) : State :=
  match s.taskOf h with
  | some _ => s.onRecord (handleDie h) (handleEntry h) f
  | none => s

/-- The key of a partition's scope ID. -/
def scopeKey (part id : Nat) : Nat := part * 2 ^ 20 + id
/-- The handle of a scope record (spec/10 Table 10.3). -/
def scopeHandle (key : Nat) (r : ScopeRec) : Word := wordN (r.gen.toNat * 2 ^ 20 + key % 2 ^ 20)
/-- A scope record by key. -/
def State.scope (s : State) (key : Nat) : Option ScopeRec := Assoc.find s.scopes key
/-- A scope record changed. -/
def State.onScope (s : State) (key : Nat) (f : ScopeRec → ScopeRec) : State :=
  match s.scope key with
  | some r => { s with scopes := Assoc.set s.scopes key (f r) }
  | none => s
/-- The key of the scope that a handle of a partition names, if it is not stale (spec/10 R229). -/
def State.scopeOf (s : State) (part : Nat) (h : Word) : Option Nat :=
  let key := scopeKey part (bits h 19 0)
  match s.scope key with
  | some r => if bits h 63 32 == 0 && r.gen.toNat == bits h 31 20 then some key else none
  | none => none
/-- A scope is another or a descendant of it; the tree is at most 32 deep (spec/02 R32). -/
def State.below (s : State) (anc : Nat) : (fuel : Nat) → (key : Nat) → Bool
  | 0, key => key == anc
  | n + 1, key => key == anc ||
    (match s.scope key with
     | some r => (match r.parent with
       | some p => s.below anc n p
       | none => false)
     | none => false)
/-- See `State.below`. -/
def State.descends (s : State) (key anc : Nat) : Bool := s.below anc 32 key
/-- The state of a scope; a freed record counts as CLOSED. -/
def State.scopeState (s : State) (key : Nat) : ScopeState :=
  match s.scope key with
  | some r => r.state
  | none => .closed

/-- The instance of a serial number. -/
def State.instanceOf (s : State) (part serial : Nat) : Option Instance :=
  s.instances.find? (fun i => i.part == part && i.serial == serial)
/-- An instance changed. -/
def State.onInstance (s : State) (part serial : Nat) (f : Instance → Instance) : State :=
  { s with instances := s.instances.map (fun i => if i.part == part && i.serial == serial then f i else i) }
/-- The template of an instance. -/
def State.templateOf (s : State) (i : Instance) : Option Template :=
  match s.image i.part i.image with
  | some m => m.templates[i.tmpl]?
  | none => none
/-- The template of a task's record. -/
def State.recordTemplate (s : State) (r : TaskRec) : Option Template :=
  match s.image r.part r.image with
  | some m => m.templates[r.tmpl]?
  | none => none

/-- The generation that follows: 1 to `top`, then back to 1 (spec/10 R229). -/
def nextGen (top g : Nat) : Nat := g % top + 1
/-- The lowest number at or above `n` that no key of a rising list takes. -/
def firstFree {α : Type} : (n : Nat) → List (Nat × α) → Nat
  | n, [] => n
  | n, e :: rest => if e.1 < n then firstFree n rest else if e.1 = n then firstFree (n + 1) rest else n
/-- Tun entries that a partition would hold on a die with `t` more tasks and `c` more scopes: one for each task, half of one for
each scope (spec/01 R19). -/
def State.tunNeed (s : State) (part die t c : Nat) : Nat :=
  ((s.die die).tun.filter (fun e => e.2.state != .free && e.2.part == part)).length + t +
    ((s.scopes.filter (fun e => e.2.die == die && e.2.part == part)).length + c + 1) / 2
/-- A number below `top` that no key of a rising list takes. Which one is not specified (spec/10 R229, spec/14 Table 14.6): a
free value decides (log 16). -/
def State.freeNumber {α : Type} (s : State) (top : Nat) (used : List (Nat × α)) : Nat × State :=
  let (v, s) := s.draw
  let n := firstFree (v.toNat % top) used
  (if n < top then n else firstFree 0 used, s)
/-- A new task record on a die, within the partition's share of its Tun (spec/17 R359): its handle. -/
def State.addTask (s : State) (die : Nat) (r : TaskRec) : Option (Word × State) :=
  let (e, s) := s.freeNumber Config.tunEntries ((s.die die).tun.filter (fun e => e.2.state != .free))
  if s.tunNeed r.part die 1 0 ≤ vget (s.part r.part).tunq die ∧ e < Config.tunEntries then
    let gen := BitVec.ofNat 16 (nextGen 65535 (Assoc.get 0 (s.die die).entryGens e).toNat)
    let s := s.onDie die (fun d =>
      { d with tun := Assoc.set d.tun e { r with gen := gen }, entryGens := Assoc.set d.entryGens e gen })
    some (taskHandle s.mgmt.package die e gen, s)
  else none
/-- The modules of a partition, this one among them: its rank in increasing package number, and their number. -/
def State.rank (s : State) (part : Nat) : Nat × Nat :=
  (((Config.peerModules part).filter (fun p => decide (p < s.mgmt.package))).length, (Config.peerModules part).length + 1)
/-- A number below `top` that no key of a rising list takes, among those that this module gives out: each module of a partition has its own share
(log 77). -/
def State.ownNumber (s : State) (part top : Nat) (used : List Nat) : Nat × State :=
  let (r, n) := s.rank part
  let (k, s) := s.freeNumber ((top - r) / n) ((used.filter (fun i => i % n == r)).map (fun i => (i / n, ())))
  (r + n * k, s)
/-- A die of this module takes one more scope record of a partition; a die number of 4 stands for one of another module. -/
def State.scopeRoom (s : State) (part die : Nat) : Bool := decide (4 ≤ die) || decide (s.tunNeed part die 0 1 ≤ vget (s.part part).tunq die)
/-- A new scope record (spec/02 R32: its ID is unique among the live scopes of the partition): its key. -/
def State.addScope (s : State) (part : Nat) (r : ScopeRec) : Option (Nat × State) :=
  let used := s.scopes.filter (fun e => e.1 / 2 ^ 20 == part)
  let (id, s) := s.ownNumber part (2 ^ 20) (used.map (fun e => e.1 % 2 ^ 20))
  if id < 2 ^ 20 ∧ s.scopeRoom part r.die then
    let key := scopeKey part id
    let gen := BitVec.ofNat 12 (nextGen 4095 (Assoc.get 0 s.scopeGens key).toNat)
    some (key, { s with scopes := Assoc.set s.scopes key { r with gen := gen, part := part }
                        scopeGens := Assoc.set s.scopeGens key gen })
  else none
/-- The record of a scope whose handle another module has given (log 77): its key. -/
def State.copyScope (s : State) (part : Nat) (h : Word) (r : ScopeRec) : Option (Nat × State) :=
  let key := scopeKey part (bits h 19 0)
  if s.scopeRoom part r.die then
    some (key, { s with scopes := Assoc.set s.scopes key { r with gen := BitVec.ofNat 12 (bits h 31 20), part := part } })
  else none

/-- A record is freed once its task is ENDED or DEAD and every decrement it expects has arrived (spec/01 R19). -/
def State.freeIfDone (s : State) (die entry : Nat) : State :=
  let r := s.record die entry
  if (r.state == .ended || r.state == .dead) && r.expected.toList.all (· == 0) && r.far == 0 then
    s.onRecord die entry (fun r => { r with state := .free })
  else s

/-- The slots in which a saved task resumes (spec/14 R310): the slot it left, or the footprint that its gang, saved as a unit, left; none
where a tile has been named (spec/13 R281). -/
def State.resumeSlots (s : State) (r : TaskRec) : List Nat :=
  if r.saved = 0 || r.target.isSome then []
  else match r.gang.bind (fun k => Assoc.find s.gangs k) with
    | some q => if q.lockstep then q.slots else r.loc.toList
    | none => r.loc.toList
/-- Deficits of a die's dispatcher are 0 for a queue without a queued task, and for a class without one (spec/14 R308). -/
def State.resetDeficits (s : State) (die part queue cls : Nat) : State :=
  let l := (s.die die).tun.filter (fun e => e.2.part == part && e.2.state == .ready && e.2.ready == .queued)
  let s := if l.any (fun e => e.2.queue == queue) then s
    else s.onQueue queue (fun q => { q with disDeficit := vset q.disDeficit die 0 })
  if l.any (fun e => e.2.cls == cls) then s
  else s.onPart part (fun p => { p with dis := vset p.dis die ({ (vget p.dis die) with deficit := vset (vget p.dis die).deficit cls 0 } : Drr) })
/-- A task is posted to its queue's ready list (spec/14 Table 14.9): the dispatcher of its die may now choose it. A slot in which it resumes
and that is occupied is marked for it (R310). -/
def State.postTask (s : State) (h : Word) : State :=
  match s.taskOf h with
  | some r =>
    ((s.resetDeficits (handleDie h) r.part r.queue r.cls).onTask h (fun r =>
      { r with state := .ready, ready := .queued, bypassed := 0
               marks := (s.resumeSlots r).filter (fun g => (s.slot g).state != .empty)
               tpost := if r.state == .preempted then r.tpost else s.now })).post
      (.dispatchSelect (handleDie h) r.part)
  | none => s

/-- INSTAT with a marked decrement recorded (spec/10 Table 10.5). -/
def markInstat (v : Word) (mark epos : Nat) : Word :=
  if mark = 0 then v
  else
    let v := setBit v (match mark with
      | 1 => 63
      | 2 => 60
      | 3 => 61
      | _ => 62) true
    let ncan := min (bits v 59 48 + 1) 4095
    let v := wordN (bits v 63 60 * 2 ^ 60 + ncan * 2 ^ 48 + bits v 47 0)
    if epos < 48 then setBit v epos true else v

/-- One decrement of the task a handle names (spec/01 R23; spec/10 R233, R236): the reply of DEC (0, STALE, FOREIGN,
ABSORBED, UNDERFLOW), and the state. `serial` restricts the target to one instance. -/
def State.decrement (s : State) (h : Word) (mark epos : Nat) (serial : Option (Nat × Nat)) : Nat × State :=
  match s.taskOf h with
  | none => (1, s)
  | some r =>
    if (match serial with
        | some (p, n) => !(r.part == p && r.serial == n)
        | none => false) then (8, s)
    else if r.state == .ended || r.state == .dead then (9, s)
    else if r.count = 0 then
      (10, (s.countDie (handleDie h) 2).onInstance r.part r.serial (fun i => { i with underflow := true }))
    else
      let s := s.onTask h (fun r => { r with count := r.count - 1, instat := markInstat r.instat mark epos })
      (0, if r.count = 1 && r.state == .waiting then s.postTask h else s)

/-- A CTL packet to a Tun of another package. -/
def ctlPacket (kind src part pkg : Nat) (addr aux : Word) (data : Bytes) : Packet :=
  { kind := kind, cls := 1, trim := false, pois := false, rel := false, perf := false, src := src, part := part
    dest := pkg * 4096, seq := 0, eport := 0xFF, iport := 0xFF, addr := addr, aux := aux, reserved := 0, data := data }
/-- What the command core and the Tuns of a module tell those of another (log 77): an image loaded, unloaded, taken; records to create, created,
refused; the records of an instance; its end; a scope that has become empty on a module, is sealed, CLOSED, to be cancelled, an answer to that,
its CANCELLING, part of an older cancellation, drained on a module, CANCELLED; an end of a channel bound, a close, a channel BROKEN,
transmission held; an expected decrement. -/
inductive PodMsg where
  | image | unload | loaded | create | created | refused | nodes | over
  | empty | sealed | closed | cancel | answer | cancelling | adopt | drained | cancelled
  | bound | close | broken | hold | expect
  | waits | words
  deriving DecidableEq, Repr
/-- The messages in the order of their codes. -/
def PodMsg.all : List PodMsg :=
  [.image, .unload, .loaded, .create, .created, .refused, .nodes, .over, .empty, .sealed, .closed, .cancel, .answer, .cancelling, .adopt,
   .drained, .cancelled, .bound, .close, .broken, .hold, .expect, .waits, .words]
/-- ADDR of such a message, which no task handle equals. -/
def podAddr : Word := wordN (2 ^ 63 + 2 ^ 62)
/-- The bytes of such a message: its code, its words, and what follows them. -/
def podBytes (m : PodMsg) (ws : List Nat) (tail : Bytes) : Bytes :=
  toBytes 8 (PodMsg.all.idxOf m) ++ toBytes 8 ws.length ++ ws.flatMap (toBytes 8) ++ tail
/-- A message to the modules of some packages, in packets of up to 240 of its bytes (log 77). -/
def State.tell (s : State) (part : Nat) (pkgs : List Nat) (m : PodMsg) (ws : List Nat) (tail : Bytes := []) : State :=
  let bs := podBytes m ws tail
  pkgs.foldl (fun s pkg =>
    let (id, s) := s.fresh
    (List.range ((bs.length + 239) / 240)).foldl (fun s i =>
      s.sendPacket (ctlPacket 0x06 (s.sourceNo 48 0) part pkg podAddr (wordN id)
        (toBytes 4 bs.length ++ toBytes 4 (240 * i) ++ (bs.drop (240 * i)).take 240))) s) s
/-- The bytes of a decrement message (spec/14 Table 14.10). -/
def decrementBytes (m : Decrement) : Bytes := toBytes 8 m.target.toNat ++ [m.mark, m.epos, 0, 0] ++ toBytes 4 m.src
/-- ADDR of a SUCC's decrement for another package, which no task handle equals (log 24). -/
def succAddr : Word := wordN (2 ^ 63)
/-- The packet of a decrement for another package: that of a SUCC names the instance and asks for an answer, as DEC's does (spec/10 R231;
log 24). -/
def decrementPacket (m : Decrement) (part : Nat) : Packet :=
  match m.owner with
  | some (_, serial) => ctlPacket 0x06 m.src part (bits m.target 29 20) succAddr m.target (toBytes 8 serial ++ [m.mark, m.epos])
  | none => ctlPacket 0x07 m.src part (bits m.target 29 20) 0 m.target (decrementBytes m)
/-- A decrement sent to the Tun that owns the record (spec/14 R307). One for another package that is a SUCC's, or that a scope's status
marks, stands as a request until it has been answered (spec/10 R231, R245; log 24). -/
def State.sendDecrement (s : State) (part : Nat) (m : Decrement) (scope : Nat := noScope) : State :=
  if bits m.target 29 20 = s.mgmt.package then s.post (.decrementMessage m)
  else if m.owner.isNone && decide (m.mark.toNat < 2) then s.sendPacket (decrementPacket m part)
  else
    let (id, s) := s.fresh
    State.sendPacket { s with requests := s.requests ++
      [{ id := id, kind := .dec m.target, phase := .left, slot := noSlot, task := 0, scope := scope, part := part, src := m.src, super := false
         addr := 0, target := none, bank := .main, dest := none, acq := false, rel := false, level := 0, orphan := false, image := none
         remote := true, seq := 0, result := none }] } (decrementPacket m part)

/-- The successors of a task, each with the position of its edge among those into its target (spec/10 R235, R236). -/
def State.successors (s : State) (r : TaskRec) : List (Word × Nat) :=
  if r.spawned then (r.succ.filter (· != 0)).map (fun h => (h, 0xFF))
  else match s.instanceOf r.part r.serial, s.recordTemplate r with
    | some i, some t =>
      let into := fun (k : Nat) => (t.edges.take k).filter (fun e => e.2 == (t.edges.getD k (0, 0)).2)
      ((List.range t.edges.length).filter (fun k => (t.edges.getD k (0, 0)).1 == r.node)).map (fun k =>
        let p := (into k).length
        (i.nodes.getD (t.edges.getD k (0, 0)).2 0, if p < 48 then p else 0xFF))
    | _, _ => []

/-- A successor of a task lies inside a subtree; the scope of one on another module is that of its node. -/
def State.inSubtree (s : State) (r : TaskRec) (h : Word) (anc : Nat) : Bool :=
  match s.taskOf h, s.recordTemplate r, s.instanceOf r.part r.serial with
  | some q, _, _ => s.descends q.scope anc
  | none, some t, some i =>
    bits h 29 20 != s.mgmt.package && (match (i.nodes.findIdx? (· == h)).bind (fun k => t.nodes[k]?) with
      | some n => s.descends (scopeKey r.part (bits (i.scopes.getD n.scope 0) 19 0)) anc
      | none => false)
  | _, _, _ => false

/-- An event noted in the acknowledgement counts of the scope that owns a scope's cancellation (spec/02 R34). -/
def State.tally (s : State) (scope : Nat) (f : AckCounts → AckCounts) : State :=
  match s.scope scope with
  | some r => s.onScope (if r.state == .active then scope else r.owner) (fun r => { r with counts := f r.counts })
  | none => s

/-- Scopes that a task opened are sealed when it reaches ENDED or DEAD (spec/02 R33). -/
def State.sealOpened (s : State) (h : Word) : State :=
  let mine := s.scopes.filter (fun e => e.2.opener == h && !e.2.sealed_)
  mine.foldl (fun s e => ((s.onScope e.1 (fun r => { r with sealed_ := true })).post (.scopeClose e.1)).tell e.2.part
    (e.2.home.toList ++ e.2.others) .sealed [e.1]) s

/-- The events that may follow when a task or an effect of a scope has gone (spec/02 Table 2.6; spec/10 R245). -/
def State.wakeScope (s : State) (key : Nat) : State :=
  match s.scope key with
  | some r => if r.state == .cancelling then s.post (.ackDelivery r.owner) else s.post (.scopeClose key)
  | none => s

/-- The endpoint of a channel that waits with its pre-empted task for the task's resumption (spec/13 R283, R289) changed. -/
def State.onParked (s : State) (part serial chan : Nat) (side : Side) (f : Endpoint → Endpoint) : State :=
  [0, 1, 2, 3].foldl (fun s d => s.onDie d (fun q => { q with tun := q.tun.map (fun (e : Nat × TaskRec) =>
    if e.2.state != .free && e.2.part == part && e.2.serial == serial && !e.2.parkedChans.isEmpty then
      (e.1, { e.2 with parkedChans := e.2.parkedChans.map (fun c =>
        if c.2.chan == chan && c.2.side == side then (c.1, f c.2) else c) })
    else e) })) s
/-- A receiving endpoint takes END or END-CANCELLED (spec/02 R51, R53): END-CANCELLED discards a token without its tail. -/
def Endpoint.takeEnd (e : Endpoint) (kind : TokenKind) (cycle : Nat) : Endpoint :=
  { e with
    state := if kind == .endTok then .closed else .broken, count := e.count + 1, mark := none
    tokens := (if kind == .endCancelled then e.tokens.filter (·.tail) else e.tokens) ++
      [{ seq := e.count, kind := kind, beats := 1, tail := true, time := cycle }] }
/-- The module of the task at the other end of a channel told of it, when that is another one. -/
def State.tellEnd (s : State) (r : TaskRec) (h : Word) (m : PodMsg) (chan v : Nat) : State :=
  if h = 0 || bits h 29 20 == s.mgmt.package then s else s.tell r.part [bits h 29 20] m [r.serial, chan, v]
/-- The channels of a task that will never be placed, or not again: a receiver leaves the channel BROKEN, a sender leaves END-CANCELLED
(spec/02 R48, R51). -/
def State.dropChannels (s : State) (r : TaskRec) : State :=
  match s.recordTemplate r, s.instanceOf r.part r.serial with
  | some t, some i =>
    (List.range t.channels.length).foldl (fun s c =>
      match t.channels[c]? with
      | none => s
      | some ch =>
        if r.spawned then s
        else if ch.rnode == r.node then
          let s := s.onInstance r.part r.serial (fun i => { i with broken := i.broken ++ [c] })
          match s.taskOf (i.nodes.getD ch.snode 0) with
          | some q =>
            if !q.parkedChans.isEmpty then s.onParked r.part r.serial c .sender (fun e => if e.state == .opened then { e with state := .broken } else e)
            else match q.loc with
            | some g => s.post (.channelBrokenNotice (tileOfSlot g) ch.sch.val)
            | none => s
          | none => s.tellEnd r (i.nodes.getD ch.snode 0) .broken c 0
        else if ch.snode == r.node then
          match s.taskOf (i.nodes.getD ch.rnode 0) with
          | some q =>
            if !q.parkedChans.isEmpty then s.onParked r.part r.serial c .receiver (fun e => if e.state == .opened then e.takeEnd .endCancelled s.cycle else e)
            else match q.loc with
            | some g => s.post (.tokenArrival (tileOfSlot g) ch.rch.val { kind := .endCancelled, bytes := [], tail := true, chan := some (r.serial, c) })
            | none => s.onInstance r.part r.serial (fun i => { i with closes := i.closes ++ [(c, .endCancelled)] })
          | none => s.tellEnd r (i.nodes.getD ch.rnode 0) .close c 3
        else s) s
  | _, _ => s

/-- The save image of a task freed: its range, and the replies on their way to it (spec/10 R244, spec/13 R290). -/
def State.freeSave (s : State) (part : Nat) (h : Word) : State :=
  let s := s.onPart part (fun p => { p with saves := p.saves.filter (fun r => r.2.2 != h) })
  { s with requests := s.requests.map (fun q => if q.task == h && q.image.isSome then { q with orphan := true, image := none } else q) }
/-- The instance that the SUCC decrements of a spawned task belong to. -/
def TaskRec.succOwner (r : TaskRec) : Option (Nat × Nat) := if r.spawned then some (r.part, r.serial) else none
/-- A task becomes DEAD (spec/02 R31, spec/10 R241, R243): counted in the acknowledgement of `owner`, with the prefetch copies that were cut; each successor outside
that subtree receives one decrement with the mark, scopes it opened are sealed, and its record is freed when it may be. -/
def State.taskDies (s : State) (h : Word) (killed : Bool) (owner : Nat) (mark : Nat) (src : Nat) : State :=
  match s.taskOf h with
  | none => s
  | some r =>
    if r.state == .ended || r.state == .dead then s
    else
      let s := if r.state == .running || r.state == .placing then s else s.dropChannels r
      let s := s.freeSave r.part h
      let out := (s.successors r).filter (fun e => !s.inSubtree r e.1 owner)
      let cut := (r.prefetches.filter (fun p => p.issued.isSome && p.outcome.isNone)).length
      let s := s.onTask h (fun r => { r with state := .dead, killed := killed, ready := .none, loc := none, saved := 0, prefetches := [], parkedChans := [], parkedGens := [], parkedBars := [], guarded := [] })
      let s := s.tally owner (fun c =>
        { c with killed := c.killed + bit killed, discarded := c.discarded + bit (!killed), decs := c.decs + out.length, trunc := c.trunc + cut })
      let s := s.onInstance r.part r.serial (fun i => { i with lost := i.lost + 1 })
      let s := match r.gang with
        | some k => s.onGang k (fun g => { g with ended := g.ended + 1 })
        | none => s
      let s := out.foldl (fun s e =>
        s.sendDecrement r.part { target := e.1, mark := BitVec.ofNat 8 mark, epos := BitVec.ofNat 8 e.2, src := src
                                 owner := r.succOwner, die := handleDie h } owner) s
      ((s.sealOpened h).wakeScope r.scope).freeIfDone (handleDie h) (handleEntry h)

/-- A task becomes ENDED (spec/10 R235): each successor receives one decrement, marked FAILED when the status is not 0. -/
def State.taskEnds (s : State) (h : Word) (failed : Bool) (src : Nat) : State :=
  match s.taskOf h with
  | none => s
  | some r =>
    let out := s.successors r
    let s := s.onTask h (fun r => { r with state := .ended, ready := .none, loc := none, prefetches := [] })
    let s := s.onInstance r.part r.serial (fun i => { i with ended := i.ended + 1 })
    let s := match r.gang with
      | some k => s.onGang k (fun g => { g with ended := g.ended + 1 })
      | none => s
    let s := out.foldl (fun s e =>
      s.sendDecrement r.part { target := e.1, mark := BitVec.ofNat 8 (bit failed), epos := BitVec.ofNat 8 e.2, src := src
                               owner := r.succOwner, die := handleDie h }) s
    ((s.sealOpened h).wakeScope r.scope).freeIfDone (handleDie h) (handleEntry h)

/-- The tasks of a scope: die and entry. -/
def State.tasksOf (s : State) (key : Nat) : List (Nat × Nat) :=
  [0, 1, 2, 3].flatMap (fun d => ((s.die d).tun.filter (fun e => e.2.scope == key && e.2.state != .free &&
    e.2.state != .ended && e.2.state != .dead)).map (fun e => (d, e.1)))

/-- The named scope and every ACTIVE descendant become CANCELLING at one point (spec/02 R34; cause 1 CANCEL, 2 POISON,
3 DIE-LOST), and the news sets out for the dispatchers and slots of this module that hold their tasks. -/
def State.cancelHere (s : State) (key cause : Nat) : State :=
  match s.scope key with
  | none => s
  | some r =>
    if r.state != .active then s
    else
      let sub := (s.scopes.filter (fun e => s.descends e.1 key)).map (·.1)
      let fresh := sub.filter (fun k => s.scopeState k == .active)
      let nested := sub.any (fun k => s.scopeState k == .cancelling)
      let s' := fresh.foldl (fun s k => s.onScope k (fun r =>
        { r with state := .cancelling, cause := cause, owner := key, tcancel := s.now, awaits := r.others, told := false
                 counts := { AckCounts.zero with nested := nested && k == key } })) s
      let tasks := fresh.flatMap (fun k => s.tasksOf k)
      (tasks.foldl (fun s e => s.post (.cancelBroadcast e.1 e.2)) s').post (.ackDelivery key)

/-- A scope cancelled: the news goes to the other modules of its instance too (spec/10 R238; log 77). -/
def State.cancelScope (s : State) (key cause : Nat) : State :=
  match s.scope key with
  | none => s
  | some r =>
    if r.state != .active then s
    else match r.home with
      | some h => (s.cancelHere key cause).tell r.part [h] .cancel [key, cause, 0]
      | none => (s.cancelHere key cause).tell r.part r.others .cancelling [key, cause]

/-- The mark of a decrement that a scope's status causes (spec/14 Table 14.10). -/
def State.scopeMark (s : State) (key : Nat) : Nat :=
  match s.scope key with
  | some r => if r.state == .active then 2 else r.cause + 1
  | none => 2

/-- A task's scope becomes CANCELLING with status POISON (spec/17 R372), with its acknowledgement in the error log. -/
def State.poisonScope (s : State) (scope : Nat) : State := s.cancelScope scope 2

end Sys2Proof.Machine
end

