-- ==== Sys2Proof/Machine/Units.lean ====
section
/-! DEFINITION. The units that carry out accesses: owning units, device writers, the trap log, requests in flight,
channel endpoints, barrier words and engine queues. -/

namespace Sys2Proof.Machine

/-- A class 3 packet to another package (spec/16 R337). -/
def reqPacket (kind src part pkg gtile : Nat) (super rel : Bool) (addr aux : Word) (data : Bytes) : Packet :=
  { kind := kind, cls := 3, trim := false, pois := false, rel := rel, perf := false, src := src, part := part
    dest := pkg * 4096 + gtile * 16, seq := 0, eport := 0, iport := 0xFF, addr := addr
    aux := if super then setBit aux 63 true else aux, reserved := 0, data := data }

/-- The bytes of a target of this module and their poison mark; a peer's or the host's are not here. -/
def State.readTarget (s : State) (t : Target) (n : Nat) : Bytes × Bool :=
  match t with
  | .tile g off => if s.lostDie (dieOf g) then (zeros n, true) else (s.readMem (sramKey g off) n, s.poisoned (sramKey g off) n)
  | .dram d off key =>
    if s.lostDie d then (zeros n, true) else (s.readKeyed (dramKey d off) n key, s.poisoned (dramKey d off) n)
  | _ => (zeros n, false)
/-- Bytes written to a target of this module; a store to a lost die is dropped (spec/17 R374). -/
def State.writeTarget (s : State) (t : Target) (bs : Bytes) (bad : Bool) : State :=
  match t with
  | .tile g off => if s.lostDie (dieOf g) then s else s.writeMark (sramKey g off) bs bad
  | .dram d off key => if s.lostDie d then s else s.writeKeyed (dramKey d off) bs key bad
  | _ => s
/-- The key of the first byte of a target of this module. -/
def Target.key : Target → Option Nat
  | .tile g off => some (sramKey g off)
  | .dram d off _ => some (dramKey d off)
  | _ => none
/-- An access of a source to `n` units from a key may enter their order: none of a higher source number has entered it in this cycle
(spec/04 R102, spec/01 R23). -/
def State.inTurn (s : State) (k n src : Nat) : Bool :=
  s.reachedAt != s.cycle || s.reached.all (fun q => !decide (k < q.1 + q.2.1 ∧ q.1 < k + n ∧ src < q.2.2))
/-- An access enters that order. -/
def State.enterOrder (s : State) (k n src : Nat) : State :=
  { s with reachedAt := s.cycle, reached := (if s.reachedAt = s.cycle then s.reached else []) ++ [(k, n, src)] }
/-- See `State.inTurn`. -/
def State.turnAt (s : State) (t : Target) (n src : Nat) : Bool :=
  match t.key with
  | some k => s.inTurn k n src
  | none => true
/-- See `State.enterOrder`. -/
def State.enterAt (s : State) (t : Target) (n src : Nat) : State :=
  match t.key with
  | some k => s.enterOrder k n src
  | none => s
/-- Two targets' bytes may overlap; the places behind a peer's pages are not known here. -/
def Target.overlaps (p : Target) (n : Nat) (q : Target) (m : Nat) : Bool :=
  match p, q with
  | .tile g a, .tile h b => g == h && decide (a < b + m ∧ b < a + n)
  | .remoteTile k g a, .remoteTile l h b => k == l && g == h && decide (a < b + m ∧ b < a + n)
  | .dram d a _, .dram e b _ => d == e && decide (a < b + m ∧ b < a + n)
  | .peer a, .peer b => a == b
  | .host a, .host b => decide (a < b + m ∧ b < a + n)
  | _, _ => false
/-- The place `n` bytes further up inside a page or window. -/
def Target.shift (t : Target) (n : Nat) : Target :=
  match t with
  | .tile g off => .tile g (off + n)
  | .remoteTile p g off => .remoteTile p g (off + n)
  | .dram d off key => .dram d (off + n) key
  | .host pa => .host (pa + n)
  | .peer p => .peer p
/-- A target of another module or the host. -/
def Target.remote : Target → Bool
  | .tile _ _ => false
  | .dram _ _ _ => false
  | _ => true

/-- The package of a target of another module. -/
def Target.package : Target → Nat
  | .remoteTile pkg _ _ => pkg
  | .peer pkg => pkg
  | _ => 0

/-- The place of a framed unit in the frame table (spec/17 Table 17.5): none when there is no such unit. -/
def frameUnit (cls unit : Nat) : Option Nat :=
  match cls with
  | 0 => if unit < 4 then some unit else none
  | 1 => if unit < 128 then some (4 + unit) else none
  | 2 => if unit < 8 then some (132 + unit) else none
  | 3 => if unit < 16 then some (140 + unit) else none
  | _ => none
/-- A partition is the user of a time slot, by its index in the frame table (spec/17 R365). -/
def State.usesSlot (s : State) (part i : Nat) : Bool :=
  let owner := (s.mgmt.frame.getD i 0xFF).toNat
  let v := Assoc.get 0 s.mgmt.lend i
  owner != 0xFF && (if !testW v 0 then owner == part else if testW v 8 then owner != part else bits v 7 4 == part)
/-- A partition has a time slot on a framed unit (spec/17 R364). -/
def State.framed (s : State) (part cls unit : Nat) : Bool :=
  match frameUnit cls unit with
  | some u => (List.range 128).any (fun t => s.usesSlot part (u * 128 + t))
  | none => true
/-- The boundary link from a die to a neighbour (spec/17 Table 17.5). -/
def boundaryLink (a b : Nat) : Nat :=
  (if max a b = 1 then 0 else if min a b = 2 then 1 else if min a b = 0 then 2 else 3) * 2 + bit (decide (b < a))
/-- The dies that a packet crosses, row first (spec/16 R338). -/
def diePath (a b : Nat) : List Nat :=
  let corner := a / 2 * 2 + b % 2
  [a] ++ (if corner = a then [] else [corner]) ++ (if b = corner then [] else [b])
/-- The framed units on a path of dies: the meshes, and the links between them. -/
def pathUnits : List Nat → List (Nat × Nat)
  | [] => []
  | [a] => [(0, a)]
  | a :: b :: rest => (0, a) :: (2, boundaryLink a b) :: pathUnits (b :: rest)
/-- The framed units that an access of a tile uses on its way out (spec/17 R364): none within its own tile; the host link is
not divided. -/
def routeUnits (gtile : Nat) (t : Target) : List (Nat × Nat) :=
  match t with
  | .tile g _ => if g = gtile then [] else pathUnits (diePath (dieOf gtile) (dieOf g))
  | .dram d off _ => pathUnits (diePath (dieOf gtile) d) ++ [(1, d * 32 + off / 256 % 32)]
  | .remoteTile pkg _ _ => [(0, dieOf gtile), (3, dieOf gtile * 4 + pkg % 4)]
  | .peer pkg => [(0, dieOf gtile), (3, dieOf gtile * 4 + pkg % 4)]
  | .host _ => []
/-- The partition has a time slot on every framed unit that an access uses; an access without one waits (spec/17 R364; log 34). -/
def State.served (s : State) (part gtile : Nat) (t : Target) : Bool :=
  (routeUnits gtile t).all (fun u => s.framed part u.1 u.2)

/-- The reply of an access of a tile has a time slot on every framed unit of its way back, which is that of the request in reverse (spec/16 R346,
spec/17 R364). -/
def State.returns (s : State) (r : Request) : Bool :=
  let gtile := r.src % 4096 / 16
  match r.target with
  | some (.tile g _) => g == gtile || (pathUnits (diePath (dieOf gtile) (dieOf g)).reverse).all (fun u => s.framed r.part u.1 u.2)
  | some (.dram d _ _) => (pathUnits (diePath (dieOf gtile) d).reverse).all (fun u => s.framed r.part u.1 u.2)
  | _ => true
/-- A guard drops a packet (spec/17 R360, R363, Table 17.4): it is counted on the guard's die, and logged unless the log is full. -/
def State.guardLogged (s : State) (kind reason gpos src part dest : Nat) (addr : Word) : State :=
  let die := if 0x100 ≤ gpos then (gpos - 0x100) / 4 % 4 else dieOf gpos
  let owner := match (s.tile (dest % 4096 / 16)).part with
    | some o => o
    | none => 0xF
  let rec_ : Bytes := [BitVec.ofNat 8 kind, BitVec.ofNat 8 reason] ++ toBytes 2 gpos ++ toBytes 4 (src % 2 ^ 22 + part * 2 ^ 22) ++
    toBytes 4 (dest % 2 ^ 22 + owner * 2 ^ 22) ++ zeros 4 ++ toBytes 8 s.now.toNat ++ toBytes 8 addr.toNat
  let s := s.countDie die 6
  if s.mgmt.guardLog.length < 4096 then { s with mgmt := { s.mgmt with guardLog := s.mgmt.guardLog ++ [rec_] } } else s.countDie die 7
/-- The guard of a tile of this module drops what a tile sends there (spec/17 R360): PART is not that of the tile's partition. What a tile
does in itself is no packet. -/
def State.barred (s : State) (part gtile : Nat) (t : Target) : Bool :=
  match t with
  | .tile g _ => g != gtile && (s.tile g).part != some part
  | _ => false
/-- An access of KIND `kind` dropped at the guard of the tile that it names. -/
def State.dropAccess (s : State) (kind part src : Nat) (t : Target) (va : Word) : State :=
  match t with
  | .tile g _ => s.guardLogged kind 1 g src part (s.mgmt.package * 4096 + g * 16) va
  | _ => s

/-- The directory lines of a die that a range touches and the host may hold (spec/16 R354). -/
def State.heldLines (s : State) (t : Target) (n : Nat) : List (Nat × Nat) :=
  match t with
  | .dram d off _ => (((s.die d).directory.filter (fun l => decide (l * 64 < off + n ∧ off < l * 64 + 64))).map (fun l => (d, l)))
  | _ => []
/-- Snoops for the lines that an access must wait for (spec/16 R354): none when it need not wait. -/
def State.snoop (s : State) (lines : List (Nat × Nat)) (write : Bool) : Option State :=
  if lines.isEmpty then none
  else some (lines.foldl (fun s l =>
    if (s.die l.1).snooped.contains l.2 then s
    else (s.onDie l.1 (fun d => { d with snooped := d.snooped ++ [l.2] })).emit (.snoop l.1 l.2 write)) s)

/-- Where one of the device's own writers finds an address of a partition (spec/15 R326): none when the translation fails. -/
def State.deviceTarget (s : State) (part : Nat) (va : Word) (n : Nat) : Option Target :=
  match classify va with
  | .bad => none
  | .window pkg gt off =>
    if !((isMTile gt || isSTile gt) && s.ownsTile part pkg gt && decide (off + n ≤ 0x400000)) then none
    else some (if pkg = s.mgmt.package then .tile gt off else .remoteTile pkg gt off)
  | .virtual =>
    match s.translateNow part true .write va with
    | .ok t => some t
    | _ => none
/-- Bytes that leave the module for a target: a CXL.io request, or a packet of KIND store. -/
def State.sendWrite (s : State) (id part src : Nat) (super : Bool) (va : Word) (t : Target) (bs : Bytes) (bad : Bool)
    (enable : List (Nat × Nat) := []) : State :=
  match t with
  | .remoteTile pkg gt _ => s.sendPacket { reqPacket 2 src part pkg gt super false va 0 bs with pois := bad, enable := enable }
  | .peer pkg => s.sendPacket { reqPacket 2 src part pkg 0 super false va 0 bs with pois := bad, enable := enable }
  | .host pa => s.emit (.hostRequest id pa bs.length (some bs) none enable)
  | _ => s
/-- Requests of the task in a slot whose completion it has not seen (spec/06 R145). -/
def State.outstanding (s : State) (g : Nat) : List Request := s.requests.filter (fun r => r.slot == g && !r.orphan)
/-- A request by its number. -/
def State.request (s : State) (id : Nat) : Option Request := s.requests.find? (fun r => r.id == id)
/-- A request changed. -/
def State.onRequest (s : State) (id : Nat) (f : Request → Request) : State :=
  { s with requests := s.requests.map (fun r => if r.id == id then f r else r) }
/-- A request gone. -/
def State.dropRequest (s : State) (id : Nat) : State := { s with requests := s.requests.filter (fun r => r.id != id) }
/-- The instance of a level's domain that contains a slot now (spec/02 R30): after a resumption, where the task then runs. -/
def State.domainAt (s : State) (g level : Nat) : Domain :=
  match (vget (s.slot g).levels level).toNat % 16 with
  | 0 => .slot g
  | 1 => .tile (tileOfSlot g)
  | 2 => (match (s.slot g).gang with
    | some k => .gang k
    | none => .tile (tileOfSlot g))
  | 3 => .die (dieOf (tileOfSlot g))
  | 4 => .package s.mgmt.package
  | 5 => .partition (s.slot g).part
  | _ => .pod
/-- A request accepted from a slot: its number (spec/06 R145, spec/10 R228). -/
def State.accept (s : State) (g : Nat) (kind : ReqKind) (addr : Word) (target : Option Target) (dest : Option Reg)
    (acq rel : Bool) (level : Nat) : Nat × State :=
  let t := s.slot g
  let scope := match s.taskOf t.task with
    | some r => r.scope
    | none => 0
  let (id, s) := s.fresh
  (id, { s with requests := s.requests ++
    [{ id := id, kind := kind, phase := .inTile, slot := g, task := t.task, scope := scope, part := t.part
       src := s.slotSource g, super := t.status.super, addr := addr, target := target, bank := t.bank, dest := dest, acq := acq, rel := rel
       level := level, orphan := false, image := none, remote := false, seq := 0, result := none
       issuer := (match kind with
         | .spawnTree _ _ _ _ _ _ => s.taskOf t.task
         | _ => none)
       domain := if acq || rel then some (s.domainAt g level) else none }] })

/-- The unit that makes an access outside the wheel of a slot: its source number, and what it carries of the task that it works for. -/
structure Issuer where
  slot : Nat
  src : Nat
  part : Nat
  task : Word
  scope : Nat
  super : Bool
  entry : Nat
  deriving DecidableEq, Repr
/-- One of the device's own units, which works for no task. -/
def Issuer.device (part src : Nat) (entry : Nat := 0) : Issuer :=
  { slot := noSlot, src := src, part := part, task := 0, scope := noScope, super := true, entry := entry }
/-- A unit of a slot's tile that works for an entry of its task. -/
def State.issuer (s : State) (g unit : Nat) (super : Bool) (entry : Nat) : Issuer :=
  { slot := g, src := s.sourceNo (tileOfSlot g) unit, part := (s.slot g).part, task := (s.slot g).task
    scope := (match s.taskOf (s.slot g).task with
      | some r => r.scope
      | none => noScope)
    super := super, entry := entry }
/-- Its request to another module or the host, on its way. -/
def Issuer.request (p : Issuer) (id : Nat) (kind : ReqKind) (va : Word) (t : Target) (seq : BitVec 16) (wake : Option Instr) : Request :=
  { id := id, kind := kind, phase := .left, slot := p.slot, task := p.task, scope := p.scope, part := p.part, src := p.src
    super := p.super, addr := va, target := some t, bank := .main, dest := none, acq := false, rel := false, level := 0, orphan := false
    image := none, remote := true, seq := seq, result := none, entry := p.entry, wake := wake }
/-- A unit reads `n` bytes, at most 256, that lie outside the module (spec/16 R337, R345): its request takes the reply, which sets off
`wake`. -/
def State.sendRead (s : State) (p : Issuer) (t : Target) (va : Word) (n : Nat) (wake : Option Instr) (enable : List (Nat × Nat) := []) : State :=
  let (id, s) := s.fresh
  let q := p.request id (.load n 7) va t (s.nextSeq p.src (t.package * 4096)) wake
  let s := { s with requests := s.requests ++ [q] }
  match t with
  | .remoteTile pkg gt _ => s.sendPacket { reqPacket 1 p.src p.part pkg gt p.super false va (wordN n) [] with enable := enable }
  | .peer pkg => s.sendPacket { reqPacket 1 p.src p.part pkg 0 p.super false va (wordN n) [] with enable := enable }
  | .host pa => s.emit (.hostRequest id pa n none none enable)
  | _ => s
/-- A unit's write of at most 256 bytes goes out to another module or the host: the number of the request that stands until it has been
performed (spec/16 R342), which sets off `wake`. -/
def State.sendBlock (s : State) (p : Issuer) (t : Target) (va : Word) (bs : Bytes) (bad : Bool) (wake : Option Instr)
    (enable : List (Nat × Nat) := []) : Nat × State :=
  let (id, s) := s.fresh
  let q := p.request id (.block bs) va t (s.nextSeq p.src (t.package * 4096)) wake
  (id, State.sendWrite { s with requests := s.requests ++ [q] } id p.part p.src p.super va t bs bad enable)
/-- The request is on its way to the host. -/
def Request.toHost (r : Request) : Bool :=
  r.remote && r.foreign.isNone && r.phase != .performed && (match r.target with
    | some (.host _) => true
    | _ => false)
/-- Writes of some sources to the host are waited for: each source whose last request to the host is a write sends a zero-length read, whose
completion says that they have been performed (spec/16 R355; log 76). -/
def State.confirmWrites (s : State) (p : Request → Bool) : State :=
  (((s.requests.filter (fun r => r.toHost && r.kind.isStore && p r)).map (·.src)).eraseDups).foldl (fun s src =>
    match (s.requests.filter (fun r => r.toHost && r.src == src)).getLast? with
    | some r =>
      if r.kind.isStore then
        match r.target with
        | some (.host pa) =>
          let (id, s) := s.fresh
          State.emit { s with requests := s.requests ++ [(Issuer.device r.part src).request id .confirm r.addr (.host pa) 0 none] }
            (.hostRequest id pa 0 none none [])
        | _ => s
      else s
    | none => s) s
/-- The writes of a slot to the host are waited for. -/
def State.confirmSlot (s : State) (g : Nat) : State := s.confirmWrites (fun r => r.slot == g)
/-- A read of the host has completed: the earlier writes of its source have been performed (spec/16 R355). -/
def State.confirmedBy (s : State) (r : Request) : State :=
  (s.requests.filter (fun q => q.toHost && q.kind.isStore && q.src == r.src && decide (q.id < r.id))).foldl (fun s q =>
    s.post (.replyArrival q.id 0 false)) s
/-- How a write of one of the device's own writers goes out. -/
inductive Written where
  | done (s : State)
  /-- A line that the host holds stands in its way. -/
  | wait (s : State)
  /-- It left the module: the request that stands until it has been performed. -/
  | sent (s : State) (id : Nat)
  /-- Its address fails translation. -/
  | failed
/-- A record written by one of the device's own writers that must know when it has been performed (spec/10 R245; spec/14 R295). -/
def State.writeAndWait (s : State) (part src : Nat) (va : Word) (bs : Bytes) (wake : Instr) : Written :=
  match s.deviceTarget part va bs.length with
  | none => .failed
  | some t =>
    let s := s.walked part va
    if t.remote then
      let r := s.sendBlock (.device part src) t va bs false (some wake)
      .sent (r.2.confirmWrites (fun q => q.id == r.1)) r.1
    else match s.snoop (s.heldLines t bs.length) true with
      | some s => .wait s
      | none => .done (s.writeTarget t bs false)
/-- Reads of a unit for an entry that have been asked for and whose bytes have not all been used. -/
def State.reads (s : State) (p : Issuer) : List Request :=
  s.requests.filter (fun r => r.src == p.src && r.task == p.task && r.entry == p.entry && !r.orphan && (match r.kind with
    | .load _ 7 => true
    | _ => false))
/-- The bytes that answered those reads, in order, and their poison mark; none while some are still to come. -/
def readsData (rs : List Request) : Option (Bytes × Bool) :=
  if rs.isEmpty then none
  else (rs.mapM (fun (r : Request) => r.data)).map (fun ds => (ds.flatMap (fun d => d.1), ds.any (fun d => d.2)))
/-- The reads used up. -/
def State.dropReads (s : State) (rs : List Request) : State :=
  { s with requests := s.requests.filter (fun r => !rs.any (fun q => q.id == r.id)) }
/-- What a slot's instruction has read at issue from outside the module, and has not used, dropped. -/
def State.dropIssueReads (s : State) (g : Nat) : State :=
  { s with requests := s.requests.filter (fun r => !(r.slot == g && r.entry == 0 && !r.orphan &&
      (r.src == s.slotSource g || r.src == s.sourceNo (tileOfSlot g) 7) && (match r.kind with
        | .load _ 7 => true
        | _ => false))) }

/-- Bytes written by one of the device's own writers (spec/15 R326): none when the translation fails. A write that leaves the module goes
out as a request. -/
def State.deviceWrite (s : State) (part src : Nat) (va : Word) (bs : Bytes) : Option State :=
  (s.deviceTarget part va bs.length).map (fun t =>
    let s := s.walked part va
    if t.remote then (s.sendBlock (.device part src) t va bs false none).2 else s.writeTarget t bs false)
/-- A long run written, at most 256 bytes at a time. -/
def State.deviceWriteRun (s : State) (part src : Nat) : (fuel : Nat) → (va : Word) → Bytes → Option State
  | 0, _, _ => some s
  | f + 1, va, bs =>
    if bs.isEmpty then some s
    else
      let m := min bs.length (256 - va.toNat % 256)
      match s.deviceWrite part src va (bs.take m) with
      | some s => s.deviceWriteRun part src f (va + wordN m) (bs.drop m)
      | none => none
/-- A block written, wherever it lies. -/
def State.deviceBlock (s : State) (part src : Nat) (va : Word) (bs : Bytes) : Option State :=
  s.deviceWriteRun part src (bs.length / 256 + 2) va bs
/-- Device writes into a range that have gone to another module or the host and have not been performed. -/
def State.writesOut (s : State) (part : Nat) (va : Word) (n : Nat) : Bool :=
  s.requests.any (fun r => r.slot == noSlot && r.task == 0 && r.part == part && r.foreign.isNone && (match r.kind with
    | .block bs => decide (r.addr.toNat < va.toNat + n ∧ va.toNat < r.addr.toNat + bs.length)
    | _ => false))

/-- What one of the device's own readers has of a translated run of bytes: pieces of other modules and the host are taken from those that
came (`rest`) or answered its own reads (`asked`), or are still needed; lines that the host may hold are asked for (spec/16 R354); the
translation may fail, and poison may be among them. -/
structure CoreRead where
  bytes : Bytes
  rest : Bytes
  asked : List Request
  need : List (Target × Word × Nat)
  lines : List (Nat × Nat)
  /-- The first address of each piece. -/
  at_ : List Word
  fault : Bool
  bad : Bool
/-- The answer to a read of these bytes. -/
def answered (asked : List Request) (va : Word) : Option (Bytes × Bool) := (asked.find? (fun r => r.addr == va)).bind (·.data)
/-- A run read in pieces of at most 256 bytes (spec/16 R337). -/
def State.coreRead (s : State) (part : Nat) (super : Bool) : (fuel : Nat) → (va : Word) → (n : Nat) → CoreRead → CoreRead
  | 0, _, _, r => r
  | f + 1, va, n, r =>
    if n = 0 || r.fault then r
    else
      let m := min n (256 - va.toNat % 256)
      match classify va, s.translateNow part super .read va with
      | .virtual, .ok t =>
        let r := { r with at_ := r.at_ ++ [va] }
        let r :=
          if t.remote then
            if m ≤ r.rest.length then { r with bytes := r.bytes ++ r.rest.take m, rest := r.rest.drop m }
            else match answered r.asked va with
              | some d => { r with bytes := r.bytes ++ d.1, bad := r.bad || d.2 }
              | none => { r with need := r.need ++ [(t, va, m)] }
          else { r with bytes := r.bytes ++ (s.readTarget t m).1, bad := r.bad || (s.readTarget t m).2, lines := r.lines ++ s.heldLines t m }
        s.coreRead part super f (va + wordN m) (n - m) r
      | _, _ => { r with fault := true, at_ := r.at_ ++ [va] }
/-- A run of bytes read by a unit, with those that came from outside the module. -/
def State.coreBytes (s : State) (p : Issuer) (va : Word) (n : Nat) (remote : Bytes) (bad : Bool) : CoreRead :=
  s.coreRead p.part p.super (n / 256 + 2) va n
    { bytes := [], rest := remote, asked := s.reads p, need := [], lines := [], at_ := [], fault := false, bad := bad }
/-- The read fails its command (spec/14 Table 14.5 FAULT, spec/17 R371). -/
def CoreRead.fails (r : CoreRead) : Bool := r.fault || r.bad
/-- Reads that are still needed set out, as many as the retry buffer takes (spec/16 R341). -/
def State.askReads (s : State) (p : Issuer) (need : List (Target × Word × Nat)) (ev : Instr) : State :=
  need.foldl (fun s q =>
    if (s.reads p).any (fun r => r.addr == q.2.1) then s
    else if s.retryRoom p.src then s.sendRead p q.1 q.2.1 q.2.2 (some ev)
    else if s.deferred.contains ev then s else s.defer ev) s
/-- A read that has still to wait: for bytes from outside the module, with which the event comes again, or for the host to give up
lines. -/
def State.readWaits (s : State) (p : Issuer) (r : CoreRead) (ev : Instr) : Option State :=
  if !r.need.isEmpty then some (s.askReads p r.need ev) else (s.snoop r.lines false).map (fun s => s.defer ev)
/-- What a finished read leaves behind: the translations that it looked up, and none of its requests. -/
def State.readDone (s : State) (p : Issuer) (r : CoreRead) : State :=
  (r.at_.foldl (fun s va => s.walked p.part va) s).dropReads (s.reads p)

/-- A record appended to a partition's trap log (spec/13 R280; a write that fails translation is dropped, spec/15 R326). -/
def State.appendLog (s : State) (part : Nat) (record : Bytes) : State :=
  let p := s.part part
  let drop := s.onPart part (fun p => { p with tloglost := satInc p.tloglost })
  let at_ := p.tlogbase + 64 * wordN (p.tloghead.toNat % p.tlogsize.toNat)
  if p.tloghead - p.tlogtail = p.tlogsize then drop
  else match s.deviceWrite part 0 at_ (padTo 64 record) with
    | some s => s.onPart part (fun p => { p with tloghead := p.tloghead + 1 })
    | none => drop.walked part at_

/-- The key of an error-log record (spec/17 R377): the module controller keeps the log. -/
def State.logError (s : State) (record : Bytes) (die : Nat) : State :=
  if s.mgmt.errorLog.length < 8192 then { s with mgmt := { s.mgmt with errorLog := s.mgmt.errorLog ++ [padTo 128 record] } }
  else s.countDie die 12

/-- A counter of a tile uncharged, with the floor of spec/09 R201. -/
def State.uncharge (s : State) (gtile : Nat) (k : KTag) : State :=
  match k with
  | none => s
  | some k => s.onTile gtile (fun t => { t with k := vset t.k k.val (vget t.k k.val - (if vget t.k k.val = 0 then 0 else 1)) })
/-- A counter of a tile charged. -/
def State.charge (s : State) (gtile : Nat) (k : KTag) : State :=
  match k with
  | none => s
  | some k => s.onTile gtile (fun t => { t with k := vset t.k k.val (vget t.k k.val + 1) })

/-- An endpoint of a tile. -/
def State.chan (s : State) (gtile c : Nat) : Endpoint := vget (s.tile gtile).chans c
/-- An endpoint changed. -/
def State.onChan (s : State) (gtile c : Nat) (f : Endpoint → Endpoint) : State :=
  s.onTile gtile (fun t => { t with chans := vset t.chans c (f (vget t.chans c)) })
/-- The code of a token kind in AUX of a channel deposit (log 24). -/
def tokenCode : TokenKind → Nat
  | .data => 0
  | .message => 1
  | .endTok => 2
  | .endCancelled => 3
/-- AUX of a channel deposit: the kind of token, whether its tail is in the packet, the entry, the index of its first beat, and the channel by
its number in the template and the instance's SERIAL (spec/16 R340, Table 16.2; log 24). -/
def tokenAux (tok : Token) (entry beat chan serial : Nat) : Word :=
  wordN (tokenCode tok.kind + 4 * bit tok.tail + 2 ^ 3 * (entry % 2 ^ 7) + 2 ^ 10 * (beat % 2 ^ 8) + 2 ^ 18 * (chan % 2 ^ 16) +
    2 ^ 34 * (serial % 2 ^ 30))
/-- The other end of a channel is still the end of the same channel (an endpoint may have been released and bound anew). -/
def State.sameChannel (s : State) (e : Endpoint) (g r : Nat) : Bool :=
  (s.chan g r).side != .unbound && (s.chan g r).serial == e.serial && (s.chan g r).chan == e.chan
/-- The entry of the receiving queue that the token sent last takes (spec/09 R216). -/
def Endpoint.lastEntry (e : Endpoint) : Nat := (e.count - 1) % (e.depth + 1)
/-- The window address of a beat of that entry, in the receiver's tile. -/
def Endpoint.beatAddr (e : Endpoint) (pkg g beat : Nat) : Word :=
  wordN (0xFFFE * 2 ^ 48 + pkg * 2 ^ 38 + g * 2 ^ 30 + e.qoff + 64 * (e.entryBeats * e.lastEntry + beat))
/-- A token marked with the channel it belongs to, and with what a guard sees of its deposit (spec/17 R360). -/
def State.stamp (s : State) (part gtile : Nat) (e : Endpoint) (g : Nat) (tok : Token) : Token :=
  { tok with chan := some (e.serial, e.chan), origin := some (s.sourceNo gtile 7, part, e.beatAddr s.mgmt.package g e.sent) }
/-- The deposits of a token that leaves the module: at most four beats in each, with the entry and the index of the first beat in AUX
(spec/16 R337, Table 16.2; log 24). -/
def State.deposits (s : State) (part gtile : Nat) (e : Endpoint) (pkg g : Nat) (tok : Token) : List Packet :=
  let first := (tok.place.map (·.2)).getD 0
  let n := max 1 ((tok.bytes.length + 255) / 256)
  (List.range n).map (fun i =>
    let cut : Token := { tok with bytes := (tok.bytes.drop (256 * i)).take 256, tail := tok.tail && i + 1 == n }
    { reqPacket 0x04 (s.sourceNo gtile 7) part pkg g false false (e.beatAddr pkg g (first + 4 * i))
        (tokenAux cut e.lastEntry (first + 4 * i) e.chan e.serial) cut.bytes with
      dest := pkg * 4096 + g * 16 + 7, pois := tok.bad })
/-- The beats sent of a token are counted until its tail has left (spec/16 R340). -/
def State.countBeats (s : State) (gtile c : Nat) (tok : Token) : State :=
  let e := s.chan gtile c
  if tok.tail && e.sent = 0 then s
  else s.onChan gtile c (fun e => { e with sent := if tok.tail then 0 else e.sent + tok.bytes.length / 64 })
/-- A token sent towards the other end of a channel (spec/02 R52): within the module an event, else packets; a beat that rides no lane
group names its entry and its index there (spec/16 R340). A control token for a pre-empted receiver reaches its endpoint as it was saved. -/
def State.sendToken (s : State) (part gtile c : Nat) (tok : Token) : State :=
  let e := s.chan gtile c
  let tok := if e.lane then tok else { tok with place := some (e.lastEntry, e.sent) }
  let s := s.countBeats gtile c tok
  match e.peer with
  | some (pkg, g, r) =>
    if pkg = s.mgmt.package then
      if s.sameChannel e g r then s.post (.tokenArrival g r (s.stamp part gtile e g tok))
      else s.onParked part e.serial e.chan .receiver (fun q => if q.state == .opened then q.takeEnd tok.kind s.cycle else q)
    else (s.deposits part gtile e pkg g tok).foldl (fun s p => s.sendPacket p) s
  | none => s
/-- Units returned to the sender of a channel (spec/02 R49); those for a pre-empted sender wait with its endpoint. -/
def State.returnUnits (s : State) (part gtile c n : Nat) : State :=
  let e := s.chan gtile c
  match e.peer with
  | some (pkg, g, r) =>
    if n = 0 then s
    else if pkg = s.mgmt.package then
      if s.sameChannel e g r then s.post (.allowanceReturn g r n)
      else s.onParked part e.serial e.chan .sender (fun q => { q with allowance := q.allowance + n, taken := q.taken + n })
    else s.sendPacket (ctlPacket 0x04 (s.sourceNo gtile 7) part pkg 0 (wordN (g * 16 + r)) (toBytes 8 n))
  | none => s
/-- The other package on which the receiving task of an endpoint's channel stands. -/
def State.farReceiver (s : State) (part : Nat) (e : Endpoint) : Option Nat :=
  match (s.instanceOf part e.serial).bind (fun i => (s.templateOf i).bind (fun t => (t.channels[e.chan]?).map (fun c => i.nodes.getD c.rnode 0))) with
  | some h => if h = 0 || bits h 29 20 == s.mgmt.package then none else some (bits h 29 20)
  | none => none
/-- A sending endpoint closes (spec/02 R51): END when its sender ends or closes, END-CANCELLED when it is killed; held by
the dispatcher while the receiver is not bound (R48). -/
def State.closeSender (s : State) (part gtile c : Nat) (kind : TokenKind) : State :=
  let e := s.chan gtile c
  if e.side == .sender && e.state == .opened then
    let s := s.onChan gtile c (fun e => { e with state := if kind == .endTok then .closed else .broken, count := e.count + 1 })
    if e.peer.isSome then s.sendToken part gtile c { kind := kind, bytes := [], tail := true }
    else match s.farReceiver part e with
      | some p => s.tell part [p] .close [e.serial, e.chan, if kind == .endTok then 2 else 3]
      | none => s.onInstance part e.serial (fun i => { i with closes := i.closes ++ [(e.chan, kind)] })
  else s
/-- A receiving endpoint's receiver has ended or died (spec/02 R51): the sender's endpoint learns it. -/
def State.closeReceiver (s : State) (part gtile c : Nat) : State :=
  let e := s.chan gtile c
  if e.side == .receiver && e.state == .opened then
    let s := s.onChan gtile c (fun e => { e with state := .broken, tokens := [], held := none })
    match e.peer with
    | some (pkg, g, r) =>
      if pkg = s.mgmt.package then
        if s.sameChannel e g r then s.post (.channelBrokenNotice g r)
        else s.onParked part e.serial e.chan .sender (fun q => if q.state == .opened then { q with state := .broken } else q)
      else s.sendPacket (ctlPacket 0x04 (s.sourceNo gtile 7) part pkg 0 (wordN (g * 16 + r)) [])
    | none => s
  else s
/-- An endpoint released with the grant that held it: its backing queue is free again. -/
def State.unbind (s : State) (gtile c : Nat) : State := s.onChan gtile c (fun _ => Endpoint.unbound)

/-- A barrier word (spec/10 Table 10.8). -/
structure BarrierWord where
  expect : Nat
  arrived : Nat
  depart : Nat
  killed : Nat
  phase : Nat
  lastKilled : Nat
  lvl : Nat
  reserved : Nat
  deriving DecidableEq, Repr
/-- A barrier word read from its 16 bytes. -/
def BarrierWord.ofBytes (bs : Bytes) : BarrierWord :=
  { expect := field bs 0 2, arrived := field bs 2 2, depart := field bs 4 2, killed := field bs 6 2, phase := field bs 8 2
    lastKilled := field bs 10 2, lvl := bitsN (field bs 12 4) 2 0, reserved := bitsN (field bs 12 4) 31 3 }
/-- The bytes of a barrier word. -/
def BarrierWord.bytes (b : BarrierWord) : Bytes :=
  toBytes 2 b.expect ++ toBytes 2 b.arrived ++ toBytes 2 b.depart ++ toBytes 2 b.killed ++ toBytes 2 b.phase ++
    toBytes 2 b.lastKilled ++ toBytes 4 (b.lvl + 8 * b.reserved)
/-- The trip rule (spec/10 R246). -/
def BarrierWord.trip (b : BarrierWord) : BarrierWord :=
  if b.expect ≤ b.arrived then
    { b with expect := (b.expect + 65536 - b.depart) % 65536, lastKilled := b.killed, arrived := 0, depart := 0, killed := 0
             phase := (b.phase + 1) % 65536 }
  else b
/-- A word that a task with these levels may act on (spec/10 R246). -/
def BarrierWord.valid (b : BarrierWord) (levels : Vector Byte 8) : Bool :=
  b.reserved == 0 && b.expect != 0 && testN (vget levels b.lvl).toNat 7
/-- A membership settled in one update of the word: by BAR.LEAVE and END, or at a death (spec/10 R246 to R248; log 17). -/
def BarrierWord.leave (b : BarrierWord) (arrived : Option (BitVec 16)) (killed : Bool) : BarrierWord :=
  let fresh := arrived != some (BitVec.ofNat 16 b.phase)
  ({ b with arrived := b.arrived + bit fresh, killed := b.killed + bit (fresh && killed), depart := b.depart + 1 }).trip
/-- The scratchpad word that a barrier address names on this module. -/
def State.barrierKey (s : State) (addr : Word) : Option Nat :=
  match classify addr with
  | .window pkg g off => if pkg = s.mgmt.package && decide (off < 0x400000) then some (sramKey g off) else none
  | _ => none
/-- Where the word of a barrier request lies on this module. -/
def State.barrierTarget (s : State) (addr : Word) : Target :=
  match classify addr with
  | .window pkg g off => if pkg = s.mgmt.package then .tile g off else .remoteTile pkg g off
  | _ => .tile 0 0
/-- A membership settled on its word (spec/10 R246 to R248); a word of another module is told by a packet. -/
def State.settleBar (s : State) (part src : Nat) (super : Bool) (levels : Vector Byte 8) (m : Membership) (killed : Bool) : State :=
  match s.barrierKey m.addr with
  | some k =>
    let b := BarrierWord.ofBytes (s.readMem k 16)
    if b.valid levels then s.writeMem k (b.leave m.arrived killed).bytes else s
  | none =>
    s.sendPacket (reqPacket 0x06 src part (bits m.addr 47 38) (bits m.addr 37 30) super false
      m.addr (wordN (4 + bit killed + 8 * (match m.arrived with
        | some v => v.toNat + 65536
        | none => 0))) levels.toList)
/-- A membership of a slot settled on its word. -/
def State.settleMembership (s : State) (g : Nat) (m : Membership) (killed : Bool) : State :=
  s.settleBar (s.slot g).part (s.slotSource g) (s.slot g).status.super (s.slot g).levels m killed

/-- An engine's arbiter with a busy entry cleared. -/
def Arbiter.free (a : Arbiter) : Arbiter := { a with busy := none }

/-- The position being filled by a fill freed (spec/08 R178). -/
def State.freeFill (s : State) (gtile q fill : Nat) : State :=
  s.onTile gtile (fun t => { t with fifos := vset t.fifos q ((vget t.fifos q).filter (fun p => p.full || p.fill != fill)) })

/-- The record of Table 9.5. -/
def engineRecord (code : Nat) (pois : Bool) (ticket : BitVec 32) (done discarded : Nat) : Bytes :=
  toBytes 4 (code + 256 * bit pois) ++ toBytes 4 ticket.toNat ++ toBytes 4 done ++ toBytes 4 discarded
/-- DONE as Table 9.5 writes it: bytes done, or for a port requests executed and discarded. -/
def EngineCmd.record (c : EngineCmd) (code : Nat) : Bytes :=
  if c.kind = 8 then engineRecord code c.pois c.ticket c.done c.discarded
  else engineRecord code c.pois c.ticket (c.done % 2 ^ 32) (c.done / 2 ^ 32)
/-- The Fathom engine that a generator of a tile uses (spec/09 R205). -/
def fathomOf (gtile g : Nat) : Nat := (localOf gtile * 8 + g) % 16
/-- A command that runs on a Fathom engine: CP.GATHER, CP.SCATTER, CP.DECOMP. -/
def EngineCmd.fathom (c : EngineCmd) : Bool := decide (4 ≤ c.kind ∧ c.kind ≤ 6)
/-- The source number of the accesses of a generator's command (spec/04 Table 4.6, spec/09 R205). -/
def State.engineSource (s : State) (gtile g : Nat) (c : EngineCmd) : Nat :=
  if c.fathom then s.sourceNo (dieOf gtile * 64 + 56 + fathomOf gtile g / 8) (fathomOf gtile g % 8) else s.sourceNo gtile (8 + g)
/-- The endpoint that an engine command holds (spec/09 R219): FIFO.FEED from a channel, AG.PORT, CP.DECOMP to a channel. -/
def EngineCmd.channel (c : EngineCmd) : Option Nat :=
  let opt := (byteAt c.block 2).toNat
  if c.kind = 8 then some (bits (fieldW c.block 8 8) 3 0)
  else if c.kind = 7 && testN opt 0 then some (bits (fieldW c.block 8 8) 3 0)
  else if c.kind = 6 && testN opt 1 then some (bits (fieldW c.block 16 8) 3 0)
  else none
/-- The FIFO position an engine command is filling freed. -/
def State.dropFill (s : State) (gtile : Nat) (c : EngineCmd) : State :=
  match c.fill with
  | some f => s.freeFill gtile (bits (fieldW c.block 16 8) 1 0) f
  | none => s
/-- The hold of an engine command on its endpoint released. -/
def State.releaseChannel (s : State) (gtile : Nat) (c : EngineCmd) : State :=
  match c.channel with
  | some ch => s.onChan gtile ch (fun e => { e with heldBy := none })
  | none => s

/-- The commands that a killed task had issued on a generator settle (spec/09 Table 9.6): those not started are discarded, and their
charges with them; the running ones stop at their segment boundary with CODE CANCELLED, are counted as truncated, and complete once
their writes have been performed. -/
def State.killEngine (s : State) (gtile gen slot scope : Nat) : State :=
  let mine := (vget (s.tile gtile).gens gen).queue.filter (fun c => c.slot == slot)
  let cut := mine.filter (fun c => c.started && c.code.isNone)
  let s := (mine.filter (fun c => !c.started)).foldl (fun s c => (s.releaseChannel gtile c).uncharge gtile c.k) s
  let s := cut.foldl (fun s c =>
    let s := s.dropFill gtile c
    let s := if c.kind = 8 then (match c.channel with
      | some ch => s.closeReceiver c.part gtile ch
      | none => s) else s
    s.tally scope (fun n => { n with trunc := n.trunc + 1 })) s
  let s := s.onTile gtile (fun t =>
    let q := vget t.gens gen
    { t with gens := vset t.gens gen { q with queue := (q.queue.filter (fun c => c.slot != slot || c.started)).map (fun c =>
        if c.slot == slot && c.code.isNone then { c with code := some 3, stop := none, fill := none, cut := true } else c) } })
  let s := [gtile, 256 + 16 * dieOf gtile + fathomOf gtile gen].foldl (fun s n => if mine.isEmpty then s else s.unask (engineAsker gtile gen) n) s
  if cut.isEmpty then s else s.post (.engineComplete gtile gen)

/-- The GEN and time of a fault record (spec/15 Table 15.5). -/
def State.faultRecord (s : State) (cause fkind acc disp src : Nat) (va task : Word) (fid : BitVec 32) (ticket : BitVec 32)
    (unit qent done part : Nat) : Bytes :=
  [BitVec.ofNat 8 cause, BitVec.ofNat 8 fkind, BitVec.ofNat 8 acc, BitVec.ofNat 8 disp] ++ toBytes 4 src ++
    toBytes 8 va.toNat ++ toBytes 8 task.toNat ++ toBytes 4 fid.toNat ++ toBytes 4 (s.gen (shardOf va) part) ++
    toBytes 4 ticket.toNat ++ [BitVec.ofNat 8 unit, BitVec.ofNat 8 qent, 0, 0] ++ toBytes 8 s.now.toNat ++ toBytes 8 done ++
    zeros 8
/-- The next FID of a partition (spec/15 R332): counts from 1, wraps at 2^32 and skips 0. -/
def State.nextFid (s : State) (part : Nat) : BitVec 32 × State :=
  let f := (s.part part).nextFid
  (f, s.onPart part (fun p => { p with nextFid := if f + 1 = 0 then 1 else f + 1 }))

end Sys2Proof.Machine
end

