-- ==== Sys2Proof/Machine/VecMem.lean ====
section
/-! DEFINITION. The accesses of the vector port: element sizes, lane addresses, and the requests that the lanes of a store make (spec/07
R172 to R175). -/

namespace Sys2Proof.Machine

/-- A vector operation that accesses memory. -/
def VecOp.isMemory : VecOp → Bool
  | .ld | .st | .lds | .sts | .gather | .scatter => true
  | _ => false
/-- A vector load, whose destination is written when its data arrives (spec/07 R156). -/
def VecOp.isLoad : VecOp → Bool
  | .ld | .lds | .gather => true
  | _ => false
/-- Bytes of an element size code (spec/07 R172). -/
def esBytes (es : Nat) : Nat :=
  match es with
  | 0 => 4
  | 3 => 1
  | _ => 2
/-- The address of lane i (spec/07 Table 7.12). -/
def laneAddr (op : VecOp) (es : Nat) (xa xb : Word) (b : VReg) (i : Nat) : Word :=
  match op with
  | .ld | .st => xa + wordN (esBytes es * i)
  | .lds | .sts => xa + wordN i * xb
  | _ => xa + (lane b i).setWidth 64
/-- The bytes that a store writes for a lane (spec/07 R172). -/
def storeLane (es : Nat) (v : BitVec 32) : Bytes := toBytes (esBytes es) v.toNat
/-- The value that a load writes to a lane. -/
def loadLane (es v : Nat) : BitVec 32 :=
  match es with
  | 0 => BitVec.ofNat 32 v
  | 1 => BitVec.ofInt 32 (sextN v 16)
  | 2 => BitVec.ofNat 32 (v % 65536)
  | _ => BitVec.ofInt 32 (sextN v 8)
/-- The active lanes of an entry with their targets. -/
def laneTargets (m : Word) (l : List Target) : List (Nat × Target) :=
  (l.zipIdx.map (fun p => (p.2, p.1))).filter (fun p => testW m p.1)
/-- The lanes that an entry's mask makes active (spec/07 R155). -/
def Slot.activeMask (t : Slot) (e : VecEntry) : Word :=
  match e.mask with
  | some m => t.getM e.bank m
  | none => -1

/-- The 64-byte granules of another module's or the host's memory that lanes touch, each with its lanes (spec/07 R174). -/
def remoteGranules (addr : Nat → Word) (l : List (Nat × Target)) : List (Nat × List (Nat × Target)) :=
  let far := l.filter (fun p => p.2.remote)
  ((far.map (fun p => (addr p.1).toNat / 64)).dedup).map (fun k => (k, far.filter (fun p => (addr p.1).toNat / 64 == k)))
/-- The bytes that lanes put into a granule, by their offsets there: a later lane's over an earlier's (spec/07 R174). -/
def granuleBytes (addr : Nat → Word) (data : Nat → Bytes) (q : List (Nat × Target)) : List (Nat × Byte) :=
  q.foldl (fun m p => (data p.1).zipIdx.foldl (fun m b => Assoc.set m ((addr p.1).toNat % 64 + b.2) b.1) m) []
/-- Rising numbers as runs of a first number and a length. -/
def runsOf : List Nat → List (Nat × Nat)
  | [] => []
  | k :: ks =>
    match runsOf ks with
    | (a, n) :: rest => if a = k + 1 then (k, n + 1) :: rest else (k, 1) :: (a, n) :: rest
    | [] => [(k, 1)]
/-- The one request that lanes make to a granule (spec/07 R174): its first offset, its length, and the runs of bytes in it, none when
they are all. -/
structure Span where
  first : Nat
  len : Nat
  enable : List (Nat × Nat)
  deriving DecidableEq, Repr
/-- The request for bytes at rising offsets of a granule. -/
def Span.of (offs : List Nat) : Span :=
  let a := offs.headD 0
  let runs := runsOf (offs.map (· - a))
  { first := a, len := offs.getLastD a + 1 - a, enable := if runs.length ≤ 1 then [] else runs }
/-- The target of a granule's offset, from a lane in the granule at or below which the offset lies. -/
def spanTarget (addr : Nat → Word) (q : List (Nat × Target)) (first : Nat) : Target :=
  match q.find? (fun p => (addr p.1).toNat % 64 == first) with
  | some p => p.2
  | none => .tile 0 0

/-- The lanes of a vector store set out (spec/07 R174): on this module each is an event of the vector port, and each granule of another
module or the host takes one request. -/
def State.storeLanes (s : State) (g : Nat) (e : VecEntry) (addr : Nat → Word) (d : VReg) (l : List (Nat × Target)) : State :=
  let data := fun (i : Nat) => storeLane e.es (lane d i)
  let p := s.issuer g 4 e.super e.serial
  let s := (l.filter (fun p => !p.2.remote)).foldl (fun s i =>
    let r := s.accept g (.store (data i.1)) (addr i.1) (some i.2) none false false 0
    (r.2.onRequest r.1 (fun q => { q with src := p.src, super := e.super, entry := e.serial })).post (.storePerform r.1)) s
  (remoteGranules addr l).foldl (fun s q =>
    let m := granuleBytes addr data q.2
    let sp := Span.of (m.map (·.1))
    (s.sendBlock p (spanTarget addr q.2 sp.first) (wordN (q.1 * 64 + sp.first))
      ((List.range sp.len).map (fun i => Assoc.get 0 m (sp.first + i))) false none sp.enable).2) s
/-- The reads of a vector load's lanes that lie outside the module set out: one request for each granule (spec/07 R174). -/
def State.loadLanes (s : State) (g : Nat) (e : VecEntry) (addr : Nat → Word) (l : List (Nat × Target)) : State :=
  (remoteGranules addr l).foldl (fun s q =>
    let sp := Span.of ((granuleBytes addr (fun _ => zeros (esBytes e.es)) q.2).map (·.1))
    s.sendRead (s.issuer g 4 e.super e.serial) (spanTarget addr q.2 sp.first) (wordN (q.1 * 64 + sp.first)) sp.len (some (.vectorLoadData g [] false)) sp.enable) s
/-- The value of a lane in the replies of its granules: none while its bytes have not come. -/
def laneReply (rs : List Request) (va : Word) (n : Nat) : Option (Nat × Bool) :=
  match rs.find? (fun r => decide (r.addr.toNat ≤ va.toNat ∧ va.toNat < r.addr.toNat + (match r.kind with
      | .load m _ => m
      | _ => 0))) with
  | some r => r.data.map (fun d => (ofBytes ((d.1.drop (va.toNat - r.addr.toNat)).take n), d.2))
  | none => none

/-- A store to the slot's vector port, by an entry before one of serial number `serial`, that overlaps these bytes and has not been
performed (spec/07 R174). -/
def State.vecStoreBefore (s : State) (g serial : Nat) (l : List (Nat × Target)) (n : Nat) : Bool :=
  s.requests.any (fun r => r.slot == g && r.task == (s.slot g).task && r.src == s.sourceNo (tileOfSlot g) 4 && r.phase != .performed &&
    decide (r.entry < serial) && (match r.kind, r.target with
      | .store bs, some t => l.any (fun p => t.overlaps bs.length p.2 n)
      | _, _ => false))
/-- The VST and VSTS entries that a killed task had accepted and that had not begun perform every active lane (spec/07 R175). -/
def State.settleStores (s : State) (g : Nat) : State :=
  (s.slot g).vq.foldl (fun s e =>
    let t := s.slot g
    if e.op == .st || e.op == .sts then
      s.storeLanes g e (laneAddr e.op e.es e.xa e.xb 0) (t.getV (tileOfSlot g) e.bank e.d) (laneTargets (t.activeMask e) e.targets)
    else s) s

end Sys2Proof.Machine
end

