-- ==== Sys2Proof/Machine/Ops.lean ====
section
/-! DEFINITION. The operations that instructions share: issue checks, retirement and hardware loops, kills, the end of a
slot's grant, taking a trap and returning from it. -/

namespace Sys2Proof.Machine

/-- What became of an instruction at issue. -/
inductive Issue where
  /-- It issued: the state after it. -/
  | done (s : State)
  /-- A check failed: cause and ETVAL (spec/13 Table 13.5). -/
  | trap (cause : Nat) (tval : Word)
  /-- It cannot issue in this cycle (spec/02 R35); a walk may have started. -/
  | wait (s : State)

/-- Where an instruction may issue (spec/05 R110 steps 2 to 4; spec/13 R267). -/
structure Form where
  /-- Majors 0xF0 to 0xF3. -/
  privileged : Bool := false
  /-- Majors 0x40 to 0x84, which the trap bank forbids. -/
  engine : Bool := false
  /-- It needs the Scruple array, FIFOs, latches or accumulators of an M-tile. -/
  mtile : Bool := false
  /-- It needs the select unit of an S-tile. -/
  stile : Bool := false
  /-- It is forbidden inside a handler (spec/02 R56). -/
  noHandler : Bool := false
  deriving DecidableEq, Repr

/-- Flow registers a later instruction must wait for (spec/06 R127): a register that awaits the result of an earlier
instruction of the slot. -/
def VecOp.writesScalar : VecOp → Bool
  | .mpopc | .mfirst | .mrd | .mvx | .redadd | .redaddu | .redmin | .redmax | .redminu | .redmaxu | .redfadd | .redfmin
  | .redfmax | .redfaddx | .mxsc => true
  | _ => false
/-- See `VecOp.writesScalar`. -/
def SelOp.writesScalar : SelOp → Bool
  | .topk | .topkMore | .res => true
  | _ => false
/-- A scalar register of a bank awaits a result. -/
def State.regBusy (s : State) (g : Nat) (t : Slot) (b : Bank) (r : Reg) : Bool :=
  r != 0 && (t.results.any (fun e => e.bank == b && e.reg == r) ||
    (t.vq ++ t.vbound).any (fun e => e.op.writesScalar && e.bank == b && e.d == r) ||
    (t.sq ++ t.sbound).any (fun e => e.op.writesScalar && e.bank == b && e.d == r) ||
    s.requests.any (fun q => q.slot == g && !q.orphan && q.bank == b && q.dest == some r))
/-- Some of these registers of the flow in use awaits a result. -/
def State.anyBusy (s : State) (g : Nat) (t : Slot) (rs : List Reg) : Bool := rs.any (s.regBusy g t t.bank)

/-- The cause, if any, with which the common checks of spec/05 R110 steps 2 to 4 and spec/13 R267 fail. -/
def Slot.formCause (t : Slot) (gtile : Nat) (f : Form) : Option Nat :=
  if f.privileged && !t.status.super then some 2
  else if (f.mtile && !isMTile gtile) || (f.stile && !isSTile gtile) then some 1
  else if f.engine && t.status.tbank then some 1
  else if f.noHandler && t.inHandler && !t.status.tbank then some 1
  else none

/-- The test at the end of a loop body (spec/06 R142 rule 1), at the offset `own` of the instruction that retires. -/
def Flow.endTest (own : Nat) : (fuel : Nat) → Flow → Flow
  | 0, f => f
  | n + 1, f =>
    match f.loops.getLast? with
    | none => f
    | some l =>
      if l.last ≠ own then f
      else
        let inner := decide (2 ≤ f.loops.length)
        let count := if inner then f.lc1 else f.lc0
        if count = 0 then Flow.endTest own n { f with loops := f.loops.dropLast }
        else if inner then { f with lc1 := f.lc1 - 1, pc := l.first }
        else { f with lc0 := f.lc0 - 1, pc := l.first }
/-- The flow after an instruction that transfers no control: PC + 4, or the start of a loop body. -/
def Flow.advance (f : Flow) : Flow := Flow.endTest f.pc 2 { f with pc := f.pc + 4 }
/-- A taken transfer from a body to a target outside it pops the level (spec/06 R142 rule 2). -/
def Flow.leave (own target : Nat) : (fuel : Nat) → Flow → Flow
  | 0, f => f
  | n + 1, f =>
    match f.loops.getLast? with
    | none => f
    | some l =>
      if decide (l.first ≤ own ∧ own ≤ l.last) && !decide (l.first ≤ target ∧ target ≤ l.last) then
        Flow.leave own target n { f with loops := f.loops.dropLast }
      else f
/-- The flow after a taken branch, JMP or JR. -/
def Flow.jump (f : Flow) (target : Nat) : Flow := { Flow.leave f.pc target 2 f with pc := target }
/-- The instruction at the PC is the last of the innermost body (spec/06 R142 rule 3). -/
def Flow.atEnd (f : Flow) : Bool :=
  match f.loops.getLast? with
  | some l => l.last == f.pc
  | none => false

/-- The slot after the instruction at its PC retires without a transfer of control. -/
def Slot.advance (t : Slot) : Slot := t.setFlow t.bank t.flow.advance
/-- A slot's instruction retires with a change of the slot. -/
def State.retire (s : State) (g : Nat) (f : Slot → Slot) : State := s.onSlot g (fun t => (f t).advance)
/-- The state in which a slot that holds a task and waits for nothing stands (spec/02 Table 2.7). -/
def Slot.active (t : Slot) : SlotState := if t.inHandler then .handler else .issue
/-- A kill that can take effect at the slot's boundary (spec/10 R240). -/
def Slot.killable (t : Slot) : Bool := t.killNotice && t.hold.isNone
/-- Issue has stopped for a pre-emption (spec/13 R283 step 2): a handler or a trap bank in use runs on (spec/02 R56, spec/13
R267). -/
def Slot.frozen (t : Slot) : Bool := t.freeze.isSome && !t.status.tbank && !t.inHandler
/-- A slot blocked (spec/02 R35): its PC stays at the instruction that waits. -/
def State.block (s : State) (g : Nat) (w : Wait) : State :=
  (s.onSlot g (fun t => { t with state := .blocked, wait := some w, waitSerial := t.waitSerial + 1 })).post (.waitComplete g)

/-- A wait that is no issue while its condition is unmet (spec/02 R35); GANG.SYNC, END, IDLE and TLB.INV act when they issue, and a SEND
whose token has left in part has issued. -/
def Wait.holdsIssue : Wait → Bool
  | .counter _ _ | .recv _ _ | .alt _ _ | .barrier _ _ _ | .scope _ _ | .settled _ _ => true
  | .send _ _ tok => tok.tail
  | .gang _ _ | .idle _ | .tlb _ | .ending _ => false

/-- The slot that is left when a task has gone: the physical slot keeps its trap bank and system registers (spec/13 R267,
R268). -/
def Slot.vacated (t : Slot) (st : SlotState) : Slot :=
  { Slot.reset with state := st, trap := t.trap, v := t.v, hv := t.hv, main := t.main, handler := t.handler
                    tscratch := t.tscratch, epc := t.epc, ecause := t.ecause, etval := t.etval }

/-- Tasks of a gang that have not ended or died. -/
def State.gangLive (s : State) (k : Nat) : Bool :=
  [0, 1, 2, 3].any (fun d => (s.die d).tun.any (fun e => e.2.gang == some k && e.2.state != .free && e.2.state != .ended &&
    e.2.state != .dead))
/-- A tile that a FIXED gang or task releases (spec/02 R36, R37). -/
def State.unfix (s : State) (gtile : Nat) : State :=
  s.onTile gtile (fun t => if t.fixed then { t with fixed := false, last := 3 } else t)
/-- A RESERVED slot becomes EMPTY. -/
def State.unreserve (s : State) (g : Nat) : State :=
  s.onSlot g (fun t => if t.state == .reserved then { t with state := .empty, gang := none } else t)
/-- The links of the row-then-column path between two tiles (spec/16 R338, R339): each as a tile and a direction, 0 north, 1
east, 2 south, 3 west. -/
def pathLinks (a b : Nat) : List (Nat × Nat) :=
  let row := (List.range (max (gridCol a) (gridCol b) - min (gridCol a) (gridCol b))).map (fun i =>
    if gridCol a < gridCol b then (tileAt (gridCol a + i) (gridRow a), 1) else (tileAt (gridCol a - i) (gridRow a), 3))
  let col := (List.range (max (gridRow a) (gridRow b) - min (gridRow a) (gridRow b))).map (fun i =>
    if gridRow a < gridRow b then (tileAt (gridCol b) (gridRow a + i), 2) else (tileAt (gridCol b) (gridRow a - i), 0))
  row ++ col
/-- The tile of a position of a footprint. -/
def Gang.tile (q : Gang) (dx dy : Nat) : Nat := tileAt (q.col0 + dx) (q.row0 + dy)
/-- The two tiles of each channel of a gang that rides a lane group: both nodes belong to the gang, on one die (spec/05
R123). -/
def Template.lanes (t : Template) (gidx : Nat) (tile : Nat → Nat → Nat) : List (Nat × Nat) :=
  t.channels.filterMap (fun c =>
    match t.nodes[c.snode]?, t.nodes[c.rnode]? with
    | some a, some b =>
      if a.gang == some gidx && b.gang == some gidx && dieOf (tile a.dx a.dy) == dieOf (tile b.dx b.dy) then
        some (tile a.dx a.dy, tile b.dx b.dy) else none
    | _, _ => none)
/-- The bindable lane groups of the links of channels bound, or unbound (spec/16 R339). -/
def State.bindLanes (s : State) (paths : List (Nat × Nat)) (take : Bool) : State :=
  (paths.flatMap (fun p => pathLinks p.1 p.2)).foldl (fun s l =>
    s.onTile l.1 (fun t => { t with groups := vset t.groups l.2 (if take then vget t.groups l.2 + 1 else vget t.groups l.2 - 1) })) s
/-- The template of a gang. -/
def State.gangTemplate (s : State) (q : Gang) : Option Template :=
  match s.image q.part q.image with
  | some m => m.templates[q.tmpl]?
  | none => none
/-- The footprint of a gang released once its last member has ended or died (spec/02 R42), and the grants of those that died have ended
(spec/01 R17; log 68). -/
def State.releaseGang (s : State) (k : Nat) : State :=
  match Assoc.find s.gangs k with
  | none => s
  | some gang =>
    if s.gangLive k || gang.slots.any (fun g => (s.slot g).settling && (s.slot g).gang == some k) then s
    else
      let s := gang.slots.foldl (fun s g => s.unreserve g) s
      let s := if gang.fixed then gang.slots.foldl (fun s g => s.unfix (tileOfSlot g)) s else s
      let s := gang.granted.foldl (fun s e => (setBits 16 e.2.ch.toNat).foldl (fun s c => s.unbind e.1 c) s) s
      let s := match s.gangTemplate gang with
        | some t => s.bindLanes (t.lanes gang.gidx gang.tile) false
        | none => s
      { s with gangs := Assoc.erase s.gangs k }
/-- The grant of a slot ends and the slot is EMPTY, or RESERVED while its gang holds the footprint (spec/01 R17; spec/02
R42). Endpoints that no other slot of the tile holds are unbound. -/
def State.releaseSlot (s : State) (g : Nat) : State :=
  let t := s.slot g
  let gt := tileOfSlot g
  let others := [0, 1, 2, 3].filter (fun i => gt * 4 + i != g)
  let held := others.foldl (fun (m : BitVec 16) i => m ||| (s.slot (gt * 4 + i)).grant.ch) 0
  let keep := match t.gang with
    | some k => s.gangLive k
    | none => false
  let shared : BitVec 16 := match s.kernel t.part t.image t.kernel with
    | some k => if keep then k.share.ch else 0
    | none => 0
  let s := (setBits 16 t.grant.ch.toNat).foldl (fun s c => if testN (held ||| shared).toNat c then s else s.unbind gt c) s
  let s := s.onTile gt (fun u => { u with reserved := u.reserved.filter (fun r => r.1 != g % 4) })
  let s := s.onSlot g (fun t => { t.vacated (if keep then .reserved else .empty) with gang := if keep then t.gang else none })
  let s := match t.gang with
    | some k => s.releaseGang k
    | none => if (s.tile gt).fixed then State.unfix (others.foldl (fun s i => State.unreserve s (gt * 4 + i)) s) gt else s
  s.post (.place (dieOf gt) t.part)

/-- The inbox of a tile whose owner has gone: its messages are discarded and, after a kill, counted (spec/10 R243). -/
def State.closeInbox (s : State) (g : Nat) (killed : Bool) : State :=
  let gt := tileOfSlot g
  let ib := (s.tile gt).inbox
  if ib.owner = some (g % 4) then
    let s := if killed then s.countTile gt 1 (ib.arrived - ib.taken) else s
    s.onTile gt (fun t => { t with inbox := { t.inbox with owner := none, arrived := 0, taken := 0 } })
  else s

/-- The requests of a killed task (spec/06 R151, spec/10 Table 10.6): stores, messages and CANCELs proceed; a load, atomic
or request that has left the tile proceeds and its reply is discarded; others are dropped, atomics and requests counted. -/
def State.killRequests (s : State) (g scope : Nat) : State :=
  (s.outstanding g).foldl (fun s r =>
    let orphan := s.onRequest r.id (fun r => { r with orphan := true, dest := none, wake := none })
    match r.kind with
    | .store _ | .message _ _ _ | .cancel _ _ _ => orphan
    | .block _ => s.onRequest r.id (fun r => { r with orphan := true })
    | .load _ _ => if r.phase == .inTile || r.result.isSome then s.dropRequest r.id else orphan
    | _ => if r.result.isSome then s.dropRequest r.id
      else if r.phase == .inTile then (s.dropRequest r.id).tally scope (fun c => { c with dropped := c.dropped + 1 }) else orphan) s

/-- The scalar results still on their way are written: a kill acts at a boundary, before which they are completed (spec/06 R127). -/
def Slot.writeResults (t : Slot) : Slot :=
  t.results.foldl (fun t r => (t.writeX r.bank r.reg r.value).orFlags r.flags) { t with results := [] }
/-- The queued engine work of a killed task (spec/07 R175, spec/08 Table 8.8, spec/10 R252): entries are discarded or
abandoned, and FIFO positions they reserved are FREE. What a bound matrix entry writes holds its value before the entry, of the two values
that Table 8.8 lets it hold (DESIGN CHOICE, log 23). -/
def State.killQueues (s : State) (g : Nat) : State :=
  let gt := tileOfSlot g
  let t := s.slot g
  let s := (t.mq ++ t.mbound).foldl (fun s e => if e.fill = 0 then s else s.freeFill gt e.qa e.fill) s
  let clear := fun (a : Arbiter) => match a.busy with
    | some b => if b.1 == g then a.free else a
    | none => a
  let s := s.onTile gt (fun u => { u with vec := clear u.vec, mat := clear u.mat, sel := clear u.sel })
  s.onSlot g (fun t => { t with vq := [], vbound := [], mq := [], mbound := [], sq := [], sbound := [] })

/-- A slot waits for no translation any longer. -/
def State.clearAnswers (s : State) (g : Nat) : State := s.unask (slotAsker g) (tileOfSlot g)

/-- A failure reply (spec/10 R228). -/
def failure (code : Nat) : Word := wordN (2 ^ 63 + code)
/-- A request of R228 carried out: its reply sets out (spec/10 R228). -/
def State.answer (s : State) (id : Nat) (v : Word) : State :=
  (s.onRequest id (fun r => { r with phase := .performed })).post (.replyArrival id v.toNat false)
/-- Every SLOT.SAVE of a task that waits is answered (spec/13 R281). -/
def State.answerSaves (s : State) (task v : Word) : State :=
  (s.requests.filter (fun r => r.phase != .performed && r.kind == .slotSave task)).foldl (fun s r => s.answer r.id v) s
/-- The effects of a killed task on a slot have settled: its accesses and requests have been performed or answered, and its engine
operations have completed (spec/10 R241, spec/01 R17). -/
def State.effectsSettled (s : State) (g : Nat) : Bool :=
  s.requests.all (fun r => r.slot != g) && (s.tile (tileOfSlot g)).gens.toList.all (fun q => q.queue.all (fun c => c.slot != g))
/-- A slot whose task has died: its grant ends once the task's effects have settled; until then the slot holds the grant, and no task
(spec/10 R241; log 68). -/
def State.settleSlot (s : State) (g : Nat) : State :=
  if s.effectsSettled g then s.releaseSlot g
  else (s.onSlot g (fun t => { t.vacated .blocked with
    settling := true, grant := t.grant, levels := t.levels, gang := t.gang, part := t.part, image := t.image, kernel := t.kernel, dx := t.dx, dy := t.dy })).post
      (.kill g)
/-- A task that holds no slot dies (spec/02 R31, R42; spec/10 R243, R248): the memberships that its save image holds settle with it, and
the footprint of its gang may be released. -/
def State.buryTask (s : State) (h : Word) (killed : Bool) (owner mark src : Nat) : State :=
  match s.taskOf h with
  | none => s
  | some r =>
    let levels := match s.recordTemplate r with
      | some t => t.levels
      | none => Vector.replicate 8 0
    let s := r.parkedBars.foldl (fun s m => s.settleBar r.part src false levels m true) s
    let s := s.taskDies h killed owner mark src
    match r.gang with
    | some k => s.releaseGang k
    | none => s
/-- An endpoint whose channel is that of a slot's task (spec/09 R212, spec/10 R235): one that other slots of the tile share belongs to the task
of the node that its channel names (log 45). -/
def State.ownsChan (s : State) (g c : Nat) : Bool :=
  let e := s.chan (tileOfSlot g) c
  let shared := [0, 1, 2, 3].any (fun i => tileOfSlot g * 4 + i != g && (s.slot (tileOfSlot g * 4 + i)).task != 0 &&
    testN (s.slot (tileOfSlot g * 4 + i)).grant.ch.toNat c)
  !shared || (match s.taskOf (s.slot g).task with
    | some r => !r.spawned && (match (s.recordTemplate r).bind (fun t => t.channels[e.chan]?) with
      | some ch => r.node == (if e.side == .sender then ch.snode else ch.rnode)
      | none => false)
    | none => false)
/-- The endpoints of a slot's task. -/
def State.ownChans (s : State) (g : Nat) : List Nat := (setBits 16 (s.slot g).grant.ch.toNat).filter (s.ownsChan g)
/-- A membership of a slot that dies (spec/10 R248): it settles at once, or once a request on its word of another module has been answered. -/
def State.dropMembership (s : State) (g : Nat) (m : Membership) : State :=
  match s.requests.find? (fun r => r.slot == g && r.remote && r.addr == m.addr && r.kind.onBarrier && r.phase != .performed) with
  | some r => s.onRequest r.id (fun r => { r with member := some m })
  | none => s.settleMembership g m true
/-- One slot dies (spec/10 R241, R243): its task is DEAD, killed if it had issued, counted for `owner`, and its effects
settle. -/
def State.killOne (s : State) (g owner : Nat) : State :=
  let t := s.slot g
  let gt := tileOfSlot g
  if t.task = 0 then s
  else
    let scope := match s.taskOf t.task with
      | some r => r.scope
      | none => owner
    let mark := if s.scopeState scope == .active then 2 else s.scopeMark scope
    let s := if t.forced then s.tally owner (fun c => { c with forced := true }) else s
    let s := (((s.onSlot g Slot.writeResults).settleStores g).killRequests g owner).killQueues g
    let s := (setBits 8 t.grant.ag.toNat).foldl (fun s a => s.killEngine gt a g owner) s
    let s := (s.ownChans g).foldl (fun s c => (s.closeSender t.part gt c .endCancelled).closeReceiver t.part gt c) s
    let s := t.memberships.foldl (fun s m => s.dropMembership g m) s
    let s := s.answerSaves t.task (failure 16)
    let s := (s.closeInbox g true).clearAnswers g
    let issued := match s.taskOf t.task with
      | some r => r.state == .running || r.saved != 0
      | none => true
    (s.taskDies t.task issued owner mark (s.slotSource g)).settleSlot g

/-- The acknowledgement that counts a task: that of the CANCEL that made its own scope CANCELLING, else `owner` (spec/02 R34, spec/10
R242). -/
def State.countedFor (s : State) (h : Word) (owner : Nat) : Nat :=
  match s.taskOf h with
  | some r => (match s.scope r.scope with
    | some q => if q.state == .cancelling then q.owner else owner
    | none => owner)
  | none => owner
/-- A lockstep gang dies as a unit (spec/10 R242, R244; spec/02 R47): the members in slots, then those that hold none. -/
def State.killGang (s : State) (k owner : Nat) (gang : Gang) : State :=
  let s := gang.slots.foldl (fun s m => s.killOne m (s.countedFor (s.slot m).task owner)) s
  let left := [0, 1, 2, 3].flatMap (fun d => ((s.die d).tun.filter (fun e => e.2.gang == some k && e.2.state != .free &&
    e.2.state != .ended && e.2.state != .dead)).map (fun e => s.handleOf d e.1))
  left.foldl (fun s h => match s.taskOf h with
    | some r => s.buryTask h (r.saved != 0) (s.countedFor h owner) (if s.scopeState r.scope == .active then 2 else s.scopeMark r.scope)
        (s.sourceNo (handleDie h * 64 + 48) 0)
    | none => s) s
/-- A kill takes effect on a slot; a lockstep gang dies as a unit (spec/10 R242). -/
def State.killSlot (s : State) (g owner : Nat) : State :=
  match (s.slot g).gang, s.gangOf (s.slot g) with
  | some k, some gang => if gang.lockstep then s.killGang k owner gang else s.killOne g owner
  | _, _ => s.killOne g owner

/-- Bytes allocated for the save image of a slot's task (spec/13 R283, R285): the most that its sections can hold. -/
def State.imageSize (s : State) (g : Nat) : Nat :=
  let t := s.slot g
  match s.kernel t.part t.image t.kernel with
  | none => 0x4800
  | some k =>
    let ranges := match s.taskOf t.task with
      | some r => 264 + 8 + (r.ranges.map (fun q => q.2 + 72)).sum + (k.svsp.map (fun q => q.2 + 8)).sum
      | none => 272
    let chans := (setBits 16 k.save.ch.toNat).map (fun c =>
      64 + ((s.chan (tileOfSlot g) c).depth + 1) * (s.chan (tileOfSlot g) c).entryBeats * 64)
    0x4800 + popN 64 k.save.acc.toNat * 16960 + popN 4 k.save.qa.toNat * (8 + 4 * 13888) + popN 4 k.save.bl.toNat * 13888 +
      chans.sum + popN 8 t.grant.ag.toNat * (8 + 8 * 80) + ranges
/-- The lowest free range of a partition's save area that holds `need` bytes (spec/13 R283). -/
def State.saveRoom (s : State) (part need : Nat) : Option Nat :=
  let p := s.part part
  let base := p.savebase.toNat
  let need := (need + 63) / 64 * 64
  let starts := base :: p.saves.map (fun r => r.1 + (r.2.1 + 63) / 64 * 64)
  let fits := fun a => decide (base ≤ a ∧ a + need ≤ base + p.savesize.toNat) &&
    p.saves.all (fun r => decide (a + need ≤ r.1 ∨ r.1 + (r.2.1 + 63) / 64 * 64 ≤ a))
  (starts.filter fits).foldl (fun m a => match m with
    | none => some a
    | some b => some (min a b)) none
/-- Every page of a range of the save area translates for writing. -/
def State.saveMapped (s : State) (part a n : Nat) : Option Word :=
  ((List.range (n / 4096 + 2)).map (fun i => wordN (min (a + i * 4096) (a + n - 1)))).find? (fun va =>
    match s.translateNow part true .write va with
    | .ok _ => false
    | _ => true)
/-- An event record with a cause and an address (Save Fault, spec/13 Table 13.5): bytes 8 to 15 hold the value. -/
def State.logEvent (s : State) (part cause : Nat) (value : Word) (task : Word) : State :=
  s.appendLog part ([BitVec.ofNat 8 cause] ++ zeros 7 ++ toBytes 8 value.toNat ++ toBytes 8 task.toNat ++ zeros 24 ++
    toBytes 8 s.now.toNat ++ zeros 8)
/-- Tasks that a save would take as a unit with a slot (spec/13 R284): its gang's slots when the gang is lockstep or a kernel
of it shares a resource. -/
def State.saveUnit (s : State) (g : Nat) : List Nat :=
  let t := s.slot g
  match s.gangOf t with
  | none => [g]
  | some gang =>
    let shares := gang.slots.any (fun m =>
      match s.kernel (s.slot m).part (s.slot m).image (s.slot m).kernel with
      | some k => (s.slot m).task != 0 && k.share != Grant.none
      | none => false)
    if gang.lockstep || shares then gang.slots.filter (fun m => (s.slot m).task != 0) else [g]
/-- The peers of a slot's saved receiving endpoints hold transmission, or are released (spec/13 R283 step 2). -/
def State.holdPeers (s : State) (g : Nat) (hold : Bool) : State :=
  let t := s.slot g
  match s.kernel t.part t.image t.kernel with
  | none => s
  | some k => (setBits 16 (k.save.ch &&& t.grant.ch).toNat).foldl (fun s c =>
      let e := s.chan (tileOfSlot g) c
      match e.side, e.peer with
      | .receiver, some (pkg, q, r) =>
        if pkg ≠ s.mgmt.package then s.tell t.part [pkg] .hold [e.serial, e.chan, bit hold]
        else if s.sameChannel e q r then s.onChan q r (fun e => { e with frozen := hold }) else s
      | _, _ => s) s
/-- One slot frozen: the range of its image is allocated and issue stops at the next boundary. -/
def State.freeze (s : State) (g a : Nat) (held : Bool) (record : Option Bytes) : State :=
  let t := s.slot g
  let s := s.onPart t.part (fun p => { p with saves := p.saves ++ [(a, s.imageSize g, t.task)] })
  let s := s.onSlot g (fun t => { t with freeze := some { since := s.cycle, held := held, record := record, image := a } })
  ((s.holdPeers g true).post (.saveBegin g)).post (.preemptAbandon g)
/-- A pre-emption begins on a slot, with the slots saved as a unit with it (spec/13 R283 steps 1 and 2, R284): false when an
image range cannot be allocated, or fails translation and is logged as a Save Fault. -/
def State.preempt (s : State) (g : Nat) (held : Bool) (record : Option Bytes) : Bool × State :=
  (s.saveUnit g).foldl (fun acc m =>
    let t := acc.2.slot m
    let need := acc.2.imageSize m
    let record := if m = g then record else none
    if !acc.1 then acc
    else if t.freeze.isSome then
      (true, acc.2.onSlot m (fun t => { t with freeze := t.freeze.map (fun f => { f with
        held := f.held || held, record := if record.isSome then record else f.record }) }))
    else match acc.2.saveRoom t.part need with
      | none => (false, s)
      | some a =>
        match acc.2.saveMapped t.part a need with
        | some va => (false, s.logEvent t.part 0x13 va t.task)
        | none => (true, acc.2.freeze m a held record)) (true, s)

/-- How a trap is delivered (spec/13 R274). -/
inductive Delivery where
  | super
  | task
  | cancel
  deriving DecidableEq, Repr
/-- See `Delivery`. -/
def State.delivery (s : State) (g cause : Nat) : Delivery :=
  let t := s.slot g
  let p := s.part t.part
  if t.status.super then .cancel
  else
    let disp := bits p.trapdel (2 * cause + 1) (2 * cause)
    let byTask : Delivery :=
      if s.inLockstep t then (if testW p.partinfo 16 then .super else .cancel)
      else if t.inHandler || !testW p.traptile 63 ||
          (match s.taskOf t.task with
           | some r => s.scopeState r.scope == .cancelling
           | none => false) || (s.saveRoom t.part (s.imageSize g)).isNone then .cancel
      else .task
    match disp with
    | 0 => if testW p.partinfo 16 then .super else .cancel
    | 1 => byTask
    | _ => .cancel

/-- The trap record of spec/13 Table 13.8: delivery code, image address. -/
def State.trapRecord (s : State) (g cause : Nat) (tval : Word) (code : Nat) (image : Nat) : Bytes :=
  let t := s.slot g
  let flags := code + 4 * bit t.inHandler + 8 * bit t.status.super + 16 * bit (s.inLockstep t)
  let scope := match s.taskOf t.task with
    | some r => (match s.scope r.scope with
      | some q => scopeHandle r.scope q
      | none => 0)
    | none => 0
  [BitVec.ofNat 8 cause, BitVec.ofNat 8 flags, 0, 0] ++ toBytes 4 t.pc ++ toBytes 8 tval.toNat ++ toBytes 8 t.task.toNat ++
    toBytes 8 t.instance_.toNat ++ toBytes 8 t.taskid.toNat ++ toBytes 4 (s.slotSource g) ++ toBytes 4 scope.toNat ++
    toBytes 8 s.now.toNat ++ toBytes 8 image

/-- SUPER delivery (spec/13 R275): EPC, ECAUSE and ETVAL take the trap, SSTATUS describes the flow that trapped, and the
slot runs the trap kernel from its ENTRY in the trap bank. -/
def State.enterTrap (s : State) (g cause : Nat) (tval : Word) : State :=
  let t := s.slot g
  let lock := s.inLockstep t
  let entry := match s.kernel t.part (s.part t.part).trapImage (bits (s.part t.part).partinfo 15 0) with
    | some k => k.entry
    | none => 0
  let s := match t.gang with
    | some k => if lock then s.onGang k (fun g => { g with stalled := true, resumeAt := none }) else s
    | none => s
  s.onSlot g (fun t => { t with
    epc := wordN (t.pc % 65536), ecause := BitVec.ofNat 8 cause, etval := tval
    status := { super := true, tbank := true, khold := t.hold.isSome, inh := t.inHandler, lock := lock }
    trap := { t.trap with pc := entry } })

/-- CANCEL delivery (spec/13 R279): the record is logged, the task's scope is cancelled on its behalf, and the task is
killed at the trapping boundary. -/
def State.cancelTrap (s : State) (g cause : Nat) (tval : Word) : State :=
  let t := s.slot g
  let s := s.appendLog t.part (s.trapRecord g cause tval 2 0)
  match s.taskOf t.task with
  | some r =>
    let s := s.cancelScope r.scope 1
    let owner := match s.scope r.scope with
      | some q => q.owner
      | none => r.scope
    s.killSlot g owner
  | none => s.releaseSlot g

/-- TASK delivery of a task that has been saved becomes CANCEL (spec/13 R278 step 3): a further record, the cancellation, and
the end of the task. -/
def State.cancelHeld (s : State) (h : Word) (record : Bytes) : State :=
  match s.taskOf h with
  | none => s
  | some r =>
    let flags := (byteAt record 1).toNat
    let s := s.appendLog r.part (record.take 1 ++ [BitVec.ofNat 8 (flags / 4 * 4 + 2)] ++ (record.drop 2).take 54 ++ zeros 8)
    let s := s.cancelScope r.scope 1
    let owner := match s.scope r.scope with
      | some q => q.owner
      | none => r.scope
    s.buryTask h true owner (if s.scopeState r.scope == .active then 2 else s.scopeMark r.scope) 0
/-- A precise trap is taken (spec/13 R274 to R279): the trapping instruction has had no effect. -/
def State.takeTrap (s : State) (g cause : Nat) (tval : Word) : State :=
  let s := (s.dropIssueReads g).clearAnswers g
  match s.delivery g cause with
  | .super => s.enterTrap g cause tval
  | .cancel => s.cancelTrap g cause tval
  | .task =>
    -- no pre-emption begins while a slot of the unit is in its trap bank (R267): the trap waits
    if (s.saveUnit g).any (fun m => (s.slot m).status.tbank) then
      (s.onSlot g (fun t => { t with deferred := some (BitVec.ofNat 8 cause, tval, t.pc) })).post (.deferredTrap g)
    else
    let o := s.preempt g true (some (s.trapRecord g cause tval 1 0))
    if o.1 then o.2 else o.2.cancelTrap g cause tval

/-- TRET in the trap bank (spec/13 R276, R277): MODE and TBANK become 0 and the flow that trapped goes on at EPC. In a
lockstep gang the members issue again 8 die cycles later: the gang cycle of the trap when the instruction is to be retried,
else the next. -/
def State.returnTrap (s : State) (g : Nat) : State :=
  let t := s.slot g
  let target := bits t.epc 15 0
  let b : Bank := if t.inHandler then .handler else .main
  let flow := { t.flowOf b with pc := target }
  let t' := { t.setFlow b flow with
    status := { super := false, tbank := false, khold := false, inh := false, lock := false } }
  let retry := target == (t.flowOf b).pc
  let s := s.setSlot g t'
  match t.gang with
  | some k =>
    if s.inLockstep t then
      (s.onGang k (fun q => { q with
        resumeAt := some (s.cycle + 8), left := if retry then g :: q.left else q.left
        clock := if retry && q.left.isEmpty then q.clock - 1 else q.clock })).post (.gangCycleResume k)
    else s
  | none => s

/-- The outcome of an instruction's issue in the slot at `cur`: a trap is taken in the same step. -/
def State.conclude (s : State) : Issue → Host.Outcome State Fault Refusal
  | .done s' => .next s'
  | .trap c v => .next (s.takeTrap s.cur c v)
  | .wait s' => .next { s' with stalled := true }

/-- An encoded instruction in the slot at `cur`: it is not ready while a register it names awaits a result (spec/06 R127);
then the common checks of spec/05 R110 are made, and then its own. -/
def State.issue (s : State) (f : Form) (regs : List Reg) (body : Slot → Issue) : Host.Outcome State Fault Refusal :=
  let t := s.slot s.cur
  if s.anyBusy s.cur t regs then .next { s with stalled := true }
  else
    match t.formCause (tileOfSlot s.cur) f with
    | some c => s.conclude (.trap c (s.wordAt t))
    | none => s.conclude (body t)

/-- In the trap bank of a lockstep member an instruction that would wait on an engine is Illegal (spec/13 R277). -/
def State.engineStuck (s : State) (t : Slot) : Bool :=
  t.status.tbank && s.inLockstep t && !(t.vq.isEmpty && t.vbound.isEmpty && t.mq.isEmpty && t.mbound.isEmpty && t.sq.isEmpty &&
    t.sbound.isEmpty)
/-- A trap that reports the instruction word. -/
def State.trapWord (s : State) (t : Slot) (cause : Nat) : Issue := .trap cause (s.wordAt t)

end Sys2Proof.Machine
end

