-- ==== Sys2Proof/Machine/Flags.lean ====
section
/-! DEFINITION. FLAGS, rounding, the stochastic word and the special registers of spec/05 Table 5.4 (R111 to R113). -/

namespace Sys2Proof.Machine

/-- lt of spec/03 R79: the position in the task's footprint, dy × 16 + dx for a gang member, else 0. -/
def Slot.lt (t : Slot) : Nat := if t.gang.isSome then t.dy * 16 + t.dx else 0
/-- The rounding code held in RM. -/
def Slot.rc (t : Slot) : Nat := bits t.rm 2 0
/-- The word U of one element (spec/03 R79): domain, element and the n that the instruction took. -/
def Slot.srU (t : Slot) (dom elem : Nat) (n : BitVec 32) : Nat := srWord t.seed t.instance_ t.taskid t.lt dom elem n
/-- The slot after an instruction whose rounding code is .SR has taken its n (spec/03 R79). -/
def Slot.takeSr (t : Slot) (rc : Nat) : Slot := if rc = 4 then { t with srseq := t.srseq + 1 } else t

/-- Every vector, matrix and select entry that the slot issued has completed (spec/05 R112). -/
def Slot.queuesDone (t : Slot) : Bool :=
  t.vq.isEmpty && t.vbound.isEmpty && t.mq.isEmpty && t.mbound.isEmpty && t.sq.isEmpty && t.sbound.isEmpty
/-- An access to FLAGS may issue (spec/05 R112, spec/06 R127). -/
def Slot.flagsReady (t : Slot) : Bool := t.queuesDone && t.results.isEmpty

/-- GRMASK (spec/05 Table 5.8). -/
def Grant.word (g : Grant) : Word :=
  wordN (g.k.toNat + 2 ^ 16 * g.ch.toNat + 2 ^ 32 * g.qa.toNat + 2 ^ 36 * g.bl.toNat + 2 ^ 40 * g.ag.toNat)

/-- The value of a special register (spec/05 Table 5.4). -/
def State.specialGet (s : State) (g : Nat) (t : Slot) (n : Nat) : Word :=
  match n with
  | 0x000 => t.prec
  | 0x001 => t.rm
  | 0x002 => t.flags
  | 0x003 => t.seed
  | 0x004 => t.flow.lc0.setWidth 64
  | 0x005 => t.flow.lc1.setWidth 64
  | 0x010 => t.instance_
  | 0x011 => t.taskid
  | 0x012 => wordN (g % 4)
  | 0x013 => s.tileId (tileOfSlot g)
  | 0x014 => t.grant.word
  | _ => t.grant.acc
/-- The bits of a writable special register that are not reserved (spec/05 Tables 5.5 to 5.7, spec/06 Table 6.10); none for a
read-only register. -/
def specialMask (n : Nat) : Option Word :=
  match n with
  | 0x000 => some 0x33F3F
  | 0x001 => some 7
  | 0x002 => some 0x7F
  | 0x003 => some (-1)
  | 0x004 => some 0xFFFFFFFF
  | 0x005 => some 0xFFFFFFFF
  | _ => none
/-- A write of a special register is refused: read-only, a reserved bit, or a reserved rounding code (spec/05 R113). -/
def specialBad (n : Nat) (v : Word) : Bool :=
  match specialMask n with
  | none => true
  | some m => v &&& ~~~m != 0 || (n == 1 && decide (4 < bits v 2 0))
/-- A special register written. -/
def Slot.specialSet (t : Slot) (n : Nat) (v : Word) : Slot :=
  match n with
  | 0x000 => { t with prec := v }
  | 0x001 => { t with rm := v }
  | 0x002 => { t with flags := v }
  | 0x003 => { t with seed := v }
  | 0x004 => t.setFlow t.bank { t.flow with lc0 := v.setWidth 32 }
  | 0x005 => t.setFlow t.bank { t.flow with lc1 := v.setWidth 32 }
  | _ => t
/-- FLAGS is not ready: the slot waits, but in a lockstep member's trap bank an instruction that would wait on an engine
raises Illegal Instruction (spec/13 R277). -/
def State.flagsWait (s : State) (t : Slot) : Issue :=
  if s.engineStuck t then s.trapWord t 1 else .wait s

/-- RDSR (spec/05 R113). -/
def State.readSpecial (s : State) (d : Reg) (n : Nat) (t : Slot) : Issue :=
  if n = 2 && !t.flagsReady then s.flagsWait t
  else .done (s.retire s.cur (fun t => t.setX d (s.specialGet s.cur t n)))
/-- WRSR, SETSR and CLRSR (spec/05 R113): the value is formed from the old one. -/
def State.writeSpecial (s : State) (n : Nat) (f : Word → Word) (t : Slot) : Issue :=
  if n = 2 && !t.flagsReady then s.flagsWait t
  else
    let v := f (s.specialGet s.cur t n)
    if specialBad n v then s.trapWord t 1 else .done (s.retire s.cur (fun t => t.specialSet n v))

end Sys2Proof.Machine
end

