-- ==== Sys2Proof/Machine/Operands.lean ====
section
/-! DEFINITION. Operand forms: immediates, bit fields, size codes, effective addresses, branch targets, grants and levels
(spec/05 R107, R108; spec/06). -/

namespace Sys2Proof.Machine

/-- Sext(i, 12) as a 64-bit value. -/
def imm12 (i : BitVec 12) : Word := i.signExtend 64
/-- i zero-extended. -/
def uimm12 (i : BitVec 12) : Word := i.setWidth 64
/-- The target of a B-format instruction: PC + 4 × Sext(off, 19) (spec/06 R136). -/
def branchTarget (pc : Nat) (off : BitVec 19) : Nat := (wordN pc + 4 * off.signExtend 64).toNat
/-- The effective address of an M-format access: X[a] + Sext(off, 11) (spec/06 R143). -/
def effAddr (x : Word) (off : BitVec 11) : Word := x + off.signExtend 64
/-- Bytes of an access size code (spec/06 Table 6.11). -/
def sizeBytes (sz : Nat) : Nat :=
  match sz with
  | 0 | 1 => 1
  | 2 | 3 => 2
  | 4 | 5 => 4
  | _ => 8
/-- The value a load of a size code writes (spec/06 Table 6.11). -/
def extend (sz : Nat) (v : Nat) : Word :=
  match sz with
  | 0 => wrap (sextN v 8)
  | 2 => wrap (sextN v 16)
  | 4 => wrap (sextN v 32)
  | _ => wordN v

/-- A field of spec/06 R131: position and the number of its existing bits. -/
def fieldPos (v : Word) : Nat := bits v 5 0
/-- See `fieldPos`. -/
def fieldBits (v : Word) : Nat :=
  let n := if bits v 13 8 = 0 then 64 else bits v 13 8
  min n (64 - bits v 5 0)
/-- EXTU: the existing bits of the field, moved to bit 0. -/
def extractU (u v : Word) : Word := wordN (u.toNat / 2 ^ fieldPos v % 2 ^ fieldBits v)
/-- EXTS: as EXTU, then Sext at the number of bits extracted. -/
def extractS (u v : Word) : Word := wrap (sextN (extractU u v).toNat (fieldBits v))
/-- INS: the existing field bits of `d` replaced by the low bits of u. -/
def insertField (d u v : Word) : Word :=
  let m : Word := wordN ((2 ^ fieldBits v - 1) * 2 ^ fieldPos v)
  (d &&& ~~~m) ||| ((u <<< fieldPos v) &&& m)

/-- The bytes of a word in reverse order. -/
def byteSwap (u : Word) : Word := wordN (ofBytes (toBytes 8 u.toNat).reverse)
/-- A word rotated left by n. -/
def rotl (u : Word) (n : Nat) : Word := u.rotateLeft n
/-- A word rotated right by n. -/
def rotr (u : Word) (n : Nat) : Word := u.rotateRight n
/-- A 32-bit value sign-extended. -/
def sextW (v : Word) : Word := (v.setWidth 32).signExtend 64
/-- 1 or 0. -/
def boolW (b : Bool) : Word := if b then 1 else 0

/-- A level is declared in the instance's level table (spec/02 Table 2.4). -/
def Slot.declares (t : Slot) (l : Level) : Bool := testN (t.levels.get l).toNat 7
/-- The domain code of a declared level. -/
def Slot.domain (t : Slot) (l : Level) : Nat := bitsN (t.levels.get l).toNat 3 0

/-- Grants of the numbered tile resources (spec/01 R17). -/
def Slot.hasK (t : Slot) (k : Fin 16) : Bool := testN t.grant.k.toNat k.val
/-- See `Slot.hasK`. -/
def Slot.hasCh (t : Slot) (c : Nat) : Bool := testN t.grant.ch.toNat c
/-- See `Slot.hasK`. -/
def Slot.hasQa (t : Slot) (q : Nat) : Bool := testN t.grant.qa.toNat q
/-- See `Slot.hasK`. -/
def Slot.hasBl (t : Slot) (b : Nat) : Bool := testN t.grant.bl.toNat b
/-- See `Slot.hasK`. -/
def Slot.hasAg (t : Slot) (a : Nat) : Bool := testN t.grant.ag.toNat a
/-- See `Slot.hasK`. -/
def Slot.hasAcc (t : Slot) (a : Nat) : Bool := testN t.grant.acc.toNat a
/-- A counter tag names a granted counter, or none. -/
def Slot.hasTag (t : Slot) (k : KTag) : Bool :=
  match k with
  | some k => t.hasK k
  | none => true

/-- The scratchpad offset that an address names in the slot's own tile, for accesses that must lie there: a size, and
whether the range lies inside the scratchpad region. -/
def State.ownScratch (s : State) (g : Nat) (va : Word) (n : Nat) : Option Nat :=
  match classify va with
  | .window pkg gt off =>
    if pkg = s.mgmt.package && gt == tileOfSlot g && decide (off + n ≤ 0x400000) then some off else none
  | _ => none

end Sys2Proof.Machine
end

