-- ==== Sys2Proof/Machine/Atomics.lean ====
section
/-! DEFINITION. The functions of atomics (spec/04 R103, R104) and the words of the control pages (spec/13 R271). -/

namespace Sys2Proof.Machine

/-- TAKE (spec/04 R103): the new word and the result. -/
def atomTake (old a : Nat) : Nat × Nat :=
  let n := bitsN a 31 0
  let free := bitsN old 31 0
  let next := bitsN old 63 32
  if n = 0 ∨ free = 0 then (old, 2 ^ 64 - 1)
  else
    let idx := next % n
    (free - 1 + (idx + 1) % n * 2 ^ 32, idx)
/-- A fixed function of spec/04 Table 4.7 on a word of `w` bytes: the new word and the result. -/
def atomFixed (id w old a b : Nat) : Nat × Nat :=
  let m := 2 ^ (8 * w)
  let sx := fun (v : Nat) => sextN v (8 * w)
  let keep := fun (v : Nat) => (v % m, old)
  match id with
  | 0 => keep (old + a)
  | 1 => keep (old &&& a)
  | 2 => keep (old ||| a)
  | 3 => keep (old ^^^ a)
  | 4 => keep a
  | 5 => keep (if old = a then b else old)
  | 6 => keep (if sx a < sx old then a else old)
  | 7 => keep (min old a)
  | 8 => keep (if sx old < sx a then a else old)
  | 9 => keep (max old a)
  | 10 => keep (fadd32 0 0 (BitVec.ofNat 32 old) (BitVec.ofNat 32 a)).1.toNat
  | 11 => keep (old + b)
  | 12 => keep (old - 1)
  | 13 => atomTake old a
  | _ => keep (min (bitsN old 31 0 + bitsN a 31 0) (2 ^ 32 - 1) + bitsN old 63 32 * 2 ^ 32)

/-- The state of a registered function: temporaries, word and result (spec/04 R104). -/
structure MicroState where
  t : Vector Nat 8
  word : Nat
  result : Nat
  deriving DecidableEq, Repr
/-- The value that a micro-operation gives tD (spec/04 Table 4.9). -/
def microValue (op bitsW d a b : Nat) : Nat :=
  let m := 2 ^ bitsW
  let lts := decide (sextN a bitsW < sextN b bitsW)
  match op with
  | 0x0 => (a + b) % m
  | 0x1 => (a + m - b) % m
  | 0x2 => a &&& b
  | 0x3 => a ||| b
  | 0x4 => a ^^^ b
  | 0x5 => if lts then a else b
  | 0x6 => min a b
  | 0x7 => if lts then b else a
  | 0x8 => max a b
  | 0x9 => a * 2 ^ (b % bitsW) % m
  | 0xA => a / 2 ^ (b % bitsW)
  | 0xB => bit (a == b)
  | 0xC => bit (decide (a < b))
  | _ => if d ≠ 0 then a else b
/-- The micro-operations run in order until they have all run or a RET has run (spec/04 R104). -/
def microRun (bitsW : Nat) : List Nat → MicroState → MicroState
  | [], u => u
  | op :: rest, u =>
    let d := bitsN op 11 9
    let a := vget u.t (bitsN op 8 6)
    let b := vget u.t (bitsN op 5 3)
    match bitsN op 15 12 with
    | 0xE => microRun bitsW rest { u with word := a }
    | 0xF => { u with result := a }
    | k => microRun bitsW rest { u with t := vset u.t d (microValue k bitsW (vget u.t d) a b) }
/-- W64 of a descriptor (spec/04 Table 4.8). -/
def descriptorWide (d : BitVec 128) : Bool := testN d.toNat 1
/-- VALID of a descriptor. -/
def descriptorValid (d : BitVec 128) : Bool := testN d.toNat 0
/-- The micro-operations of a descriptor. -/
def descriptorOps (d : BitVec 128) : List Nat :=
  (List.range (bitsN d.toNat 10 8)).map (fun i => bitsN d.toNat (16 * i + 31) (16 * i + 16))
/-- A descriptor is refused at installation (spec/04 R104). Reserved bits count in all seven micro-operations; a second WRITE or a D field that
must be 0 counts only among the LEN that run (DESIGN CHOICE, log 73). -/
def descriptorBad (d : BitVec 128) : Bool :=
  let all := (List.range 7).map (fun i => bitsN d.toNat (16 * i + 31) (16 * i + 16))
  bitsN d.toNat 15 11 != 0 || bitsN d.toNat 7 2 != 0 || all.any (fun op => bitsN op 2 0 != 0) ||
    bitsN d.toNat 10 8 == 0 ||
    decide (1 < ((descriptorOps d).filter (fun op => bitsN op 15 12 == 0xE)).length) ||
    (descriptorOps d).any (fun op => decide (0xE ≤ bitsN op 15 12) && bitsN op 11 9 != 0)
/-- A registered function on a word of `w` bytes: the new word and the result (spec/04 R104). -/
def atomRegistered (d : BitVec 128) (w old a b : Nat) : Nat × Nat :=
  let m := 2 ^ (8 * w)
  let t : Vector Nat 8 := #v[old, a % m, b % m, 0, 0, 0, 0, 0]
  let u := microRun (8 * w) (descriptorOps d) { t := t, word := old, result := old }
  (u.word, u.result)
/-- An atomic function of a partition on a word: none when its entry is invalid at the owner (spec/04 R105). -/
def State.atomFunction (s : State) (part id w old a b : Nat) : Option (Nat × Nat) :=
  if id < 16 then some (atomFixed id w old (a % 2 ^ (8 * w)) (b % 2 ^ (8 * w)))
  else
    let d := vget (s.part part).atomfn (id - 16)
    if descriptorValid d then some (atomRegistered d w old a b) else none

/-- The first 8 bytes of an endpoint's record (spec/13 R285). -/
def Endpoint.recordWord (e : Endpoint) (c : Nat) : Word :=
  let st := match e.state with
    | .opened => 0
    | .closed => 1
    | .broken => 2
  let occupied := e.tokens.length + bit e.held.isSome
  wordN (c + 16 * bit (e.side == .receiver) + 2 ^ 8 * st + 2 ^ 16 * bit e.manual + 2 ^ 24 * (e.depth % 256) +
    2 ^ 32 * (e.entryBeats % 65536) + 2 ^ 48 * ((if e.side == .receiver then occupied else e.allowance) % 65536))
/-- The state code of a slot (spec/02 Table 2.7). -/
def SlotState.code : SlotState → Nat
  | .empty => 0
  | .reserved => 1
  | .issue => 2
  | .blocked => 3
  | .matrix => 4
  | .handler => 5
  | .saving => 6
/-- STATE of a generator (spec/13 Table 13.7). -/
def Gen.stateCode (q : Gen) (saving : Bool) : Nat :=
  match q.queue with
  | [] => 0
  | c :: _ => if saving then 3 else if c.stop.isSome then 2 else 1
/-- The slots of a tile whose grant holds a generator save their state. -/
def State.genSaving (s : State) (gtile g : Nat) : Bool :=
  [0, 1, 2, 3].any (fun i => (s.slot (gtile * 4 + i)).state == .saving && testN (s.slot (gtile * 4 + i)).grant.ag.toNat g)
/-- A word of a tile's control pages (spec/13 Table 13.6). -/
def State.controlRead (s : State) (gtile off : Nat) : Word :=
  let t := s.tile gtile
  let o := off - 0x02000000
  if o < 0x8000 then
    let q := vget t.gens (o / 0x1000)
    if o % 0x1000 < 8 then
      wordN (q.ticket.toNat * 2 ^ 32 + q.queue.length * 2 ^ 8 + q.stateCode (s.genSaving gtile (o / 0x1000)))
    else match q.queue with
      | c :: _ => (match c.stop with
        | some e => e.va
        | none => 0)
      | [] => 0
  else if o < 0x9000 then (vget t.chans ((o - 0x8000) / 0x100)).recordWord ((o - 0x8000) / 0x100)
  else if o < 0x9080 then (vget t.k ((o - 0x9000) / 8)).setWidth 64
  else if o < 0x90A0 then
    let u := s.slot (gtile * 4 + (o - 0x9080) / 8)
    wordN (u.state.code + u.status.word.toNat * 2 ^ 8 + bits u.task 47 0 * 2 ^ 16)
  else vget t.errors ((o - 0xB000) / 8)
/-- A tile error counter written through its control page. -/
def State.controlWrite (s : State) (gtile off : Nat) (v : Word) : State :=
  s.onTile gtile (fun t => { t with errors := vset t.errors ((off - 0x0200B000) / 8) v })

/-- A register of the host link's HDM decoder written (spec/16 R353): base at offset 0, size, at most 288 GiB, at offset 8 (log 41). -/
def State.hdmWrite (s : State) (offset : Nat) (v : Word) : State :=
  match offset with
  | 0 => { s with host := { s.host with hdmBase := v.toNat } }
  | 8 => if v.toNat ≤ 4 * Config.dramBytes then { s with host := { s.host with hdmSize := v.toNat } } else s
  | _ => s
/-- REGISTER_WRITE (spec/13 R271): a store to a control-page word; only RW words take it. 256 in place of a tile names the host link. -/
def execRegisterWrite (gtile offset : Nat) (v : Word) (s : State) : Host.Outcome State Fault Refusal :=
  .next (
    if gtile = 256 then s.hdmWrite offset v
    else if controlWord offset = some true && offset % 8 == 0 then s.controlWrite gtile offset v else s)

end Sys2Proof.Machine
end

