-- ==== Sys2Proof/Machine/Arbiter.lean ====
section
/-! DEFINITION. The arbiter of the vector unit, the Scruple array and the select unit (spec/02 R40). -/

namespace Sys2Proof.Machine

/-- The head of a slot's queue as the arbiter sees it: its cost, and whether it can bind in this cycle. -/
structure Head where
  cost : Nat
  ready : Bool
  deriving DecidableEq, Repr

/-- The next slot in cyclic order. -/
def nextSlot (i : Fin 4) : Fin 4 := i + 1
/-- The deficit round robin (spec/02 R40): heads and quanta by slot; the slot whose head binds. -/
def Arbiter.choose (heads : Vector (Option Head) 4) (quanta : Vector Nat 4) : (fuel : Nat) → Arbiter → Option (Fin 4 × Arbiter)
  | 0, _ => none
  | n + 1, a =>
    match heads.get a.at_ with
    | none => Arbiter.choose heads quanta n { a with deficit := a.deficit.set a.at_.val 0 a.at_.isLt, at_ := nextSlot a.at_, credited := false }
    | some h =>
      if !h.ready then Arbiter.choose heads quanta n { a with at_ := nextSlot a.at_, credited := false }
      else
        let d := a.deficit.get a.at_ + (if a.credited then 0 else quanta.get a.at_)
        if h.cost ≤ d then some (a.at_, { a with deficit := a.deficit.set a.at_.val (d - h.cost) a.at_.isLt, credited := true })
        else Arbiter.choose heads quanta n { a with deficit := a.deficit.set a.at_.val d a.at_.isLt, at_ := nextSlot a.at_, credited := false }
/-- The choice among the heads: none when no head can bind. -/
def Arbiter.pick (a : Arbiter) (heads : Vector (Option Head) 4) (quanta : Vector Nat 4) : Option (Fin 4 × Arbiter) :=
  if heads.toList.any (fun h => match h with
    | some h => h.ready
    | none => false) then Arbiter.choose heads quanta 32 a else none
/-- The arbiter after a slot's queue has become empty: its deficit is 0 (spec/02 R40). -/
def Arbiter.emptied (a : Arbiter) (i : Fin 4) (empty : Bool) : Arbiter :=
  if empty then { a with deficit := a.deficit.set i.val 0 i.isLt } else a

/-- The latch that row i of an A block uses (spec/08 R188). -/
def MatEntry.latch (e : MatEntry) (i : Nat) : Nat := if e.op == .mmaSeg then bits e.xb (2 * i + 1) (2 * i) else e.bl
/-- A latch that an entry names. -/
def MatEntry.namesLatch (e : MatEntry) (b : Nat) : Bool :=
  match e.op with
  | .mma | .blLd => e.bl == b
  | .mmaSeg => (List.range 32).any (fun i => e.latch i == b)
  | _ => false
/-- An accumulator tile that an entry names. -/
def MatEntry.namesAcc (e : MatEntry) (a : Nat) : Bool :=
  match e.op with
  | .qaLd | .blLd | .qaPop => false
  | .accAdd => e.acc == a || e.src == a
  | _ => e.acc == a
/-- The head position of a FIFO (spec/08 R178). -/
def State.fifoHead (s : State) (gt q : Nat) : Option FifoPos := (vget (s.tile gt).fifos q).head?
/-- An entry bound earlier, by any slot, whose memory part still runs will write a FIFO position, latch or accumulator tile that this
entry names (spec/08 R182). -/
def State.matHazard (s : State) (gt : Nat) (e : MatEntry) : Bool :=
  [0, 1, 2, 3].any (fun i => (s.slot (gt * 4 + i)).mbound.any (fun p =>
    match p.op with
    | .qaLd => (e.op == .mma || e.op == .mmaSeg || e.op == .qaPop) && e.qa == p.qa && (match s.fifoHead gt e.qa with
      | some h => h.fill == p.fill
      | none => false)
    | .blLd => e.namesLatch p.bl
    | .accLd => e.namesAcc p.acc
    | _ => false))

/-- The engines of a lockstep gang hold during stall cycles (spec/02 R46). -/
def State.enginesHold (s : State) (g : Nat) : Bool :=
  match s.gangOf (s.slot g) with
  | some gang => gang.lockstep && gang.stalled
  | none => false
/-- The engine weight of a slot's kernel (spec/02 R40): matrix or vector. -/
def State.weight (s : State) (g : Nat) (matrix : Bool) : Nat :=
  match s.kernel (s.slot g).part (s.slot g).image (s.slot g).kernel with
  | some k => max 1 (if matrix then k.wm else k.wv)
  | none => 1
/-- The quanta of a tile's slots. -/
def State.quanta (s : State) (gtile : Nat) (matrix : Bool) : Vector Nat 4 :=
  Vector.ofFn (fun i => 64 * s.weight (gtile * 4 + i.val) matrix)

end Sys2Proof.Machine
end

