-- ==== Sys2Proof/Machine/Lanes.lean ====
section
/-! DEFINITION. What a vector instruction computes from its sources (spec/07 R154 to R171). -/

namespace Sys2Proof.Machine

/-- What an entry reads when it begins (spec/07 R156): vector registers a, a + 1, b and d; the lane mask; mask registers
a, b and d; and what stochastic words need. -/
structure VecIn where
  a : VReg
  a1 : VReg
  b : VReg
  d : VReg
  m : Word
  ma : Word
  mb : Word
  md : Word
  inst : Word
  taskid : Word
  lt : Nat
/-- What an entry writes when it completes: a vector, mask or scalar destination, and flags. -/
structure VecOut where
  v : Option VReg := none
  m : Option Word := none
  x : Option Word := none
  flags : BitVec 7 := 0
/-- A lane's value and flags. -/
abbrev LaneOut := BitVec 32 × BitVec 7

/-- A vector register from the values of its lanes. -/
def packLanes (l : List LaneOut) : VReg := BitVec.ofNat 2048 (l.foldr (fun p acc => p.1.toNat + 2 ^ 32 * acc) 0)
/-- The flags of the active lanes. -/
def laneFlags (l : List LaneOut) : BitVec 7 := l.foldl (fun f p => f ||| p.2) 0
/-- An operation applied to the active lanes; inactive lanes keep the value of d (spec/07 R155). -/
def mapLanes (m : Word) (d : VReg) (f : Nat → LaneOut) : VecOut :=
  let l := (List.range 64).map (fun i => if testW m i then f i else (lane d i, 0))
  { v := some (packLanes l), flags := laneFlags l }
/-- A relation tested in the active lanes; other bits of d are unchanged (spec/07 R162). -/
def mapBits (m d : Word) (f : Nat → Bool × BitVec 7) : VecOut :=
  let l := (List.range 64).map (fun i => if testW m i then f i else (testW d i, 0))
  { m := some (wordN (l.foldr (fun p acc => bit p.1 + 2 * acc) 0)), flags := l.foldl (fun g p => g ||| p.2) 0 }
/-- The word U of a lane (spec/03 R79). -/
def VecIn.u (i : VecIn) (e : VecEntry) (dom elem : Nat) : Nat := srWord e.seed i.inst i.taskid i.lt dom elem e.seq

/-- FP32 lanes (spec/07 R159, R160). -/
def fpLane (op : VecOp) (rc u : Nat) (a b d s : BitVec 32) : LaneOut :=
  match op with
  | .fadd => fadd32 rc u a b
  | .fsub => fsub32 rc u a b
  | .fmul => fmul32 rc u a b
  | .fdiv => fdiv32 rc u a b
  | .fsqrt => fsqrt32 rc u a
  | .fma => fma32 false rc u a b d
  | .fnma => fma32 true rc u a b d
  | .fmin => (fmin32 a b, 0)
  | .fmax => (fmax32 a b, 0)
  | .fabs => (fabs32 a, 0)
  | .fneg => (fneg32 a, 0)
  | .fscaleb => fscaleb32 rc u a b
  | .fmuls => fmul32 rc u a s
  | _ => fma32 false rc u a s d
/-- The function number of an approximation (spec/07 Table 7.3). -/
def VecOp.approx : VecOp → Option Nat
  | .frcp => some 0
  | .frsq => some 1
  | .fexp2 => some 2
  | .fexp => some 3
  | .flog2 => some 4
  | .ftanh => some 5
  | .fsigm => some 6
  | .fsin => some 7
  | .fcos => some 8
  | _ => none
/-- A 32-bit value with saturation to a range. -/
def satLane (v lo hi : Int) : LaneOut :=
  let y := sat v lo hi
  (BitVec.ofInt 32 y, if y = v then 0 else flagSat)
/-- Integer lanes (spec/07 R161); x is Bits(X[b], 31, 0). -/
def intLane (op : VecOp) (a b d x : BitVec 32) : LaneOut :=
  let sa := a.toInt
  let sb := b.toInt
  let cnt := bitsN b.toNat 4 0
  let p31 : Int := 2 ^ 31
  match op with
  | .add => (a + b, 0)
  | .sub => (a - b, 0)
  | .mul => (a * b, 0)
  | .mulh => (BitVec.ofInt 32 (sa * sb / (2 ^ 32 : Nat)), 0)
  | .mulhu => (BitVec.ofNat 32 (a.toNat * b.toNat / 2 ^ 32), 0)
  | .adds => satLane (sa + sb) (-p31) (p31 - 1)
  | .subs => satLane (sa - sb) (-p31) (p31 - 1)
  | .addus => satLane ((a.toNat : Int) + b.toNat) 0 (2 * p31 - 1)
  | .subus => satLane ((a.toNat : Int) - b.toNat) 0 (2 * p31 - 1)
  | .min => (if sa ≤ sb then a else b, 0)
  | .max => (if sa ≤ sb then b else a, 0)
  | .minu => (if a.toNat ≤ b.toNat then a else b, 0)
  | .maxu => (if a.toNat ≤ b.toNat then b else a, 0)
  | .abs => satLane sa.natAbs 0 (p31 - 1)
  | .and => (a &&& b, 0)
  | .or => (a ||| b, 0)
  | .xor => (a ^^^ b, 0)
  | .andn => (a &&& ~~~b, 0)
  | .not => (~~~a, 0)
  | .sll => (a <<< cnt, 0)
  | .srl => (a >>> cnt, 0)
  | .sra => (a.sshiftRight cnt, 0)
  | .popc => (BitVec.ofNat 32 (popN 32 a.toNat), 0)
  | .clz => (BitVec.ofNat 32 (clzN 32 a.toNat), 0)
  | .qmul => satLane ((sa * sb + 2 ^ 30) / (2 ^ 31 : Nat)) (-p31) (p31 - 1)
  | .srar => (if cnt = 0 then a else BitVec.ofInt 32 ((sa + 2 ^ (cnt - 1)) / (2 ^ cnt : Nat)), 0)
  | .addx => (a + x, 0)
  | .mulx => (a * x, 0)
  | .macx => (d + a * x, 0)
  | _ => (a.sshiftRight (bitsN x.toNat 4 0), 0)
/-- The relations of spec/07 Table 7.5. -/
def cmpLane (op : VecOp) (a b x : BitVec 32) : Bool × BitVec 7 :=
  match op with
  | .cfeq => (feq32 a b, 0)
  | .cflt => flt32 a b
  | .cfle => fle32 a b
  | .cfun => (fun32 a b, 0)
  | .ceq => (a == b, 0)
  | .cne => (a != b, 0)
  | .clt => (a.slt b, 0)
  | .cle => (a.sle b, 0)
  | .cltu => (a.ult b, 0)
  | .cleu => (a.ule b, 0)
  | .ceqx => (a == x, 0)
  | .cltx => (a.slt x, 0)
  | _ => (x.slt a, 0)

/-- Lane i after a permute (spec/07 Table 7.7); s is Bits(X[b], 5, 0), z is Sat(X[b], 0, 64), c is Bits(X[a], 31, 0). -/
def permLane (op : VecOp) (v : VecIn) (s z : Nat) (c : BitVec 32) (i : Nat) : BitVec 32 :=
  match op with
  | .bcast => c
  | .splat => lane v.a s
  | .perm => lane v.a (bitsN (lane v.b i).toNat 5 0)
  | .perm2 =>
    let j := bitsN (lane v.b i).toNat 6 0
    if j < 64 then lane v.a j else lane v.a1 (j - 64)
  | .rot => lane v.a ((i + s) % 64)
  | .slideup => if z ≤ i then lane v.a (i - z) else 0
  | .slidedn => if i + z < 64 then lane v.a (i + z) else 0
  | .zip => if i % 2 = 0 then lane v.a (i / 2) else lane v.b (i / 2)
  | .unzip => if i < 32 then lane v.a (2 * i) else lane v.b (2 * i - 64)
  | _ => BitVec.ofNat 32 i
/-- VCOMPRESS (spec/07 Table 7.7). -/
def compressLanes (m : Word) (a : VReg) : VReg :=
  let l := (setBits 64 m.toNat).map (fun i => ((lane a i, 0) : LaneOut))
  packLanes (l ++ List.replicate (64 - l.length) (0, 0))

/-- Integer reductions of the active lanes (spec/07 Table 7.8). -/
def reduceInt (op : VecOp) (l : List (BitVec 32)) : Word :=
  match op with
  | .redadd => wrap ((l.map (fun v => v.toInt)).sum)
  | .redaddu => wordN ((l.map (fun v => v.toNat)).sum)
  | .redmin => wrap (l.foldl (fun m v => min m v.toInt) (2 ^ 31 - 1))
  | .redmax => wrap (l.foldl (fun m v => max m v.toInt) (-(2 ^ 31)))
  | .redminu => wordN (l.foldl (fun m v => min m v.toNat) (2 ^ 32 - 1))
  | _ => wordN (l.foldl (fun m v => max m v.toNat) 0)
/-- Combining two partial sums that may be absent (spec/07 R166). -/
def combine (f : BitVec 32 → BitVec 32 → LaneOut) (t u : Option (BitVec 32)) : Option (BitVec 32) × BitVec 7 :=
  match t, u with
  | some t, some u => (some (f t u).1, (f t u).2)
  | some t, none => (some t, 0)
  | none, u => (u, 0)
/-- Lanes combined in order, or the Empty value when there is none (spec/07 R166). -/
def foldPresent (f : BitVec 32 → BitVec 32 → BitVec 32) (empty : BitVec 32) : List (BitVec 32) → BitVec 32
  | [] => empty
  | v :: rest => rest.foldl f v
/-- One level of the tree of VREDFADD: pairs combined in order, from pair number `i`. -/
def treeLevel (f : Nat → BitVec 32 → BitVec 32 → LaneOut) : (i : Nat) → List (Option (BitVec 32)) →
    List (Option (BitVec 32)) × BitVec 7
  | i, t :: u :: rest =>
    let c := combine (f i) t u
    let r := treeLevel f (i + 1) rest
    (c.1 :: r.1, c.2 ||| r.2)
  | _, l => (l, 0)
/-- The six levels of the tree (spec/07 R166), from level `j` on. -/
def treeSum (f : Nat → Nat → BitVec 32 → BitVec 32 → LaneOut) : (levels j : Nat) → List (Option (BitVec 32)) →
    Option (BitVec 32) × BitVec 7
  | 0, _, l => (l.headD none, 0)
  | n + 1, j, l =>
    let r := treeLevel (f j) 0 l
    let s := treeSum f n (j + 1) r.1
    (s.1, r.2 ||| s.2)
/-- VSCANFADD (spec/07 R166): lanes in order, the running sum absent at first. -/
def scanFadd (f : Nat → BitVec 32 → BitVec 32 → LaneOut) (m : Word) (a d : VReg) :
    (n i : Nat) → Option (BitVec 32) → List LaneOut
  | 0, _, _ => []
  | n + 1, i, s =>
    if testW m i then
      let c := combine (f i) s (some (lane a i))
      (c.1.getD 0, c.2) :: scanFadd f m a d n (i + 1) c.1
    else (lane d i, 0) :: scanFadd f m a d n (i + 1) s
/-- The running sums of VSCANADD (spec/07 R165). -/
def scanAdd (m : Word) (a d : VReg) : (n i : Nat) → BitVec 32 → List LaneOut
  | 0, _, _ => []
  | n + 1, i, s =>
    if testW m i then (s + lane a i, 0) :: scanAdd m a d n (i + 1) (s + lane a i)
    else (lane d i, 0) :: scanAdd m a d n (i + 1) s
/-- VREDFADDX (spec/07 R167): the exact sum of the finite active lanes, encoded once. -/
def exactSum (rc u : Nat) (l : List (BitVec 32)) : LaneOut :=
  let xs := l.map decode32
  let pinf := xs.any (· == .inf false)
  let ninf := xs.any (· == .inf true)
  if xs.any Num.isNaN then (nan32 (nanSign xs), 0)
  else if pinf && ninf then (nan32 false, flagInvalid)
  else if pinf || ninf then (encode32 rc u (.inf ninf))
  else
    let v : Int := (xs.map (fun x => match x with
      | .fin s n e _ => let k : Int := (n * 2 ^ (e + 149).toNat : Nat)
                        if s then -k else k
      | _ => 0)).sum
    if v = 0 then
      let allNeg := !l.isEmpty && l.all (· == 0x80000000)
      let allPos := l.all (· == 0)
      encode32 rc u (.fin (allNeg || (rc == 3 && !allPos)) 0 0 false)
    else encode32 rc u (.fin (decide (v < 0)) v.natAbs (-149) false)

/-- The length of a packed run of 64 elements (spec/07 Table 7.9). -/
def runLength (fmt : Nat) : Option Nat :=
  match fmt with
  | 0x0 => some 8
  | 0x1 => some 16
  | 0x2 | 0x3 | 0x8 => some 32
  | 0x4 | 0x5 | 0x9 | 0xA | 0xB | 0xC => some 64
  | 0x6 => some 96
  | 0x7 | 0xD | 0xE => some 128
  | _ => none
/-- The bit position of element i of a row of width w (spec/03 R68). -/
def elemPos (w i : Nat) : Nat :=
  if w = 3 then i / 2 * 8 + i % 2 * 3 else if w = 6 then i * 8 else i * w
/-- Element i of a packed run that starts at a byte of a register. -/
def elemOf (v : VReg) (base w i : Nat) : Nat := v.toNat / 2 ^ (8 * base + elemPos w i) % 2 ^ w
/-- Packed elements of the active lanes written; padding bits of the bytes they lie in become 0 (spec/07 R168). -/
def packElems (d : VReg) (base w : Nat) (l : List (Option Nat)) : VReg :=
  let r := l.foldl (fun (acc : Nat × Nat × Nat) c =>
    let (i, mask, val) := acc
    match c with
    | none => (i + 1, mask, val)
    | some code =>
      let pos := 8 * base + elemPos w i
      let own := (2 ^ w - 1) * 2 ^ pos
      let pad := if w = 3 then 0xC0 * 2 ^ (8 * base + i / 2 * 8) else if w = 6 then 0xC0 * 2 ^ (8 * base + i * 8) else 0
      (i + 1, mask ||| own ||| pad, val ||| code * 2 ^ pos)) (0, 0, 0)
  (d &&& ~~~(BitVec.ofNat 2048 r.2.1)) ||| BitVec.ofNat 2048 r.2.2
/-- A packed result: codes and flags of the active lanes. -/
def packOut (m : Word) (d : VReg) (base w : Nat) (f : Nat → Nat × BitVec 7) : VecOut :=
  let l := (List.range 64).map (fun i => if testW m i then some (f i) else none)
  { v := some (packElems d base w (l.map (fun o => o.map (·.1))))
    flags := l.foldl (fun g o => match o with
      | some p => g ||| p.2
      | none => g) 0 }
/-- The E8M0 formats of spec/03 R78 and their Emax: code and SIGNED. -/
def mxEmax (fmt : Nat) : Option Nat :=
  match fmt with
  | 0x08 => some 2
  | 0x09 => some 2
  | 0x0A => some 4
  | 0x0B => some 8
  | 0x0C => some 15
  | 0x15 => some 0
  | _ => none
/-- The block scale of spec/03 R78 for the elements of a block. -/
def blockScale (emax : Nat) (xs : List Num) : Nat :=
  let logs := xs.filterMap (fun x => match x with
    | .fin _ n e _ => if n = 0 then none else some (floorLog2 n e)
    | _ => none)
  match logs with
  | [] => 127
  | l :: rest => (sat (rest.foldl max l - emax + 127) 0 254).toNat
/-- The scale byte of a lane's block (spec/07 Table 7.11). -/
def scaleOf (x : Word) (i : Nat) : Nat := if i < 32 then bits x 15 8 else bits x 23 16
/-- The factor of VCVT.MX (spec/07 R170). -/
def mxScale (x : Nat) (mxint8 : Bool) (v : Num) : Num := v.scale (127 - (x : Int) + (if mxint8 then 6 else 0))

/-- What a vector instruction other than a memory access writes (spec/07). -/
def vecCompute (e : VecEntry) (v : VecIn) : VecOut :=
  let rc := e.rc
  let x := e.xb.setWidth 32
  let s := bits e.xb 5 0
  let z := min e.xb.toNat 64
  let fmt := bitsN e.fmt 3 0
  let signed := testN e.fmt 4
  let w := storageWidth fmt
  let base := e.part * (runLength fmt).getD 0
  let active := (setBits 64 v.m.toNat).map (lane v.a)
  let fadd := fun (elem : Nat) (t u : BitVec 32) => fadd32 rc (v.u e 1 elem) t u
  let opt := (List.range 64).map (fun i => if testW v.m i then some (lane v.a i) else none)
  match e.op with
  | .fadd | .fsub | .fmul | .fdiv | .fsqrt | .fma | .fnma | .fmin | .fmax | .fabs | .fneg | .fscaleb | .fmuls | .fmas =>
    mapLanes v.m v.d (fun i => fpLane e.op rc (if rc = 4 then v.u e 1 i else 0) (lane v.a i) (lane v.b i) (lane v.d i) x)
  | .frcp | .frsq | .fexp2 | .fexp | .flog2 | .ftanh | .fsigm | .fsin | .fcos =>
    mapLanes v.m v.d (fun i => approx32 (e.op.approx.getD 0) (lane v.a i))
  | .add | .sub | .mul | .mulh | .mulhu | .adds | .subs | .addus | .subus | .min | .max | .minu | .maxu | .abs | .and | .or
  | .xor | .andn | .not | .sll | .srl | .sra | .popc | .clz | .qmul | .srar | .addx | .mulx | .macx | .srax =>
    mapLanes v.m v.d (fun i => intLane e.op (lane v.a i) (lane v.b i) (lane v.d i) x)
  | .cfeq | .cflt | .cfle | .cfun | .ceq | .cne | .clt | .cle | .cltu | .cleu | .ceqx | .cltx | .cgtx =>
    mapBits v.m v.md (fun i => cmpLane e.op (lane v.a i) (lane v.b i) x)
  | .sel => { v := some (ofLanes (fun i => if testW v.m i then lane v.a i else lane v.b i)) }
  | .mand => { m := some (v.ma &&& v.mb) }
  | .mor => { m := some (v.ma ||| v.mb) }
  | .mxor => { m := some (v.ma ^^^ v.mb) }
  | .mandn => { m := some (v.ma &&& ~~~v.mb) }
  | .mnot => { m := some (~~~v.ma) }
  | .mpopc => { x := some (wordN (popN 64 v.ma.toNat)) }
  | .mfirst => { x := some (wordN (ctzN 64 v.ma.toNat)) }
  | .mmov => { m := some e.xa }
  | .mrd => { x := some v.ma }
  | .bcast | .splat | .perm | .perm2 | .rot | .slideup | .slidedn | .zip | .unzip | .lane =>
    mapLanes v.m v.d (fun i => (permLane e.op v s z (e.xa.setWidth 32) i, 0))
  | .compress => { v := some (compressLanes v.m v.a) }
  | .mvx => { x := some ((lane v.a s).setWidth 64) }
  | .ins => { v := some (ofLanes (fun i => if i = s then e.xa.setWidth 32 else lane v.d i)) }
  | .redadd | .redaddu | .redmin | .redmax | .redminu | .redmaxu => { x := some (reduceInt e.op active) }
  | .redfadd =>
    let r := treeSum (fun j i t u => fadd (64 * j + i) t u) 6 1 opt
    { x := some ((r.1.getD 0).setWidth 64), flags := r.2 }
  | .redfmin => { x := some ((foldPresent fmin32 inf32 active).setWidth 64) }
  | .redfmax => { x := some ((foldPresent fmax32 (fneg32 inf32) active).setWidth 64) }
  | .scanadd => { v := some (packLanes (scanAdd v.m v.a v.d 64 0 0)) }
  | .scanfadd =>
    let l := scanFadd fadd v.m v.a v.d 64 0 none
    { v := some (packLanes l), flags := laneFlags l }
  | .redfaddx =>
    let r := exactSum rc (v.u e 1 0) active
    { x := some (r.1.setWidth 64), flags := r.2 }
  | .cvt => packOut v.m v.d base w (fun i => encodeNum fmt signed rc (if rc = 4 then v.u e 1 i else 0) (decode32 (lane v.a i)))
  | .cvtF32 => mapLanes v.m v.d (fun i => (encode32 0 0 (decodeNum fmt signed [] (elemOf v.a base w i))).1 |> fun c => (c, 0))
  | .ftoi => mapLanes v.m v.d (fun i =>
      let r := ftoi32 (-(2 ^ 31)) (2 ^ 31 - 1) rc (if rc = 4 then v.u e 1 i else 0) (lane v.a i)
      (BitVec.ofInt 32 r.1, r.2))
  | .ftou => mapLanes v.m v.d (fun i =>
      let r := ftoi32 0 (2 ^ 32 - 1) rc (if rc = 4 then v.u e 1 i else 0) (lane v.a i)
      (BitVec.ofInt 32 r.1, r.2))
  | .itof => mapLanes v.m v.d (fun i => itof32 rc (if rc = 4 then v.u e 1 i else 0) (lane v.a i).toInt)
  | .utof => mapLanes v.m v.d (fun i => itof32 rc (if rc = 4 then v.u e 1 i else 0) (lane v.a i).toNat)
  | .cvtMx =>
    let fmt := bits e.xb 3 0
    let signed := testW e.xb 4
    let w := storageWidth fmt
    packOut v.m v.d (e.part * (runLength fmt).getD 0) w (fun i =>
      encodeNum fmt signed rc (if rc = 4 then v.u e 1 i else 0)
        (mxScale (scaleOf e.xb i) (fmt == 5 && signed) (decode32 (lane v.a i))))
  | .cvtF32Mx =>
    let fmt := bits e.xb 3 0
    let signed := testW e.xb 4
    let w := storageWidth fmt
    mapLanes v.m v.d (fun i =>
      encode32 rc (if rc = 4 then v.u e 1 i else 0)
        (scaleE8M0 (scaleOf e.xb i) (fmt == 5 && signed)
          (decodeNum fmt signed [] (elemOf v.a (e.part * (runLength fmt).getD 0) w i))))
  | .mxsc =>
    let emax := (mxEmax e.fmt).getD 0
    let block := fun (lo : Nat) => blockScale emax (((List.range 32).map (· + lo)).filterMap (fun i =>
      if testW v.m i then some (decode32 (lane v.a i)) else none))
    { x := some (wordN (block 0 + 256 * block 32)) }
  | .rand => mapLanes v.m v.d (fun i => (BitVec.ofNat 32 (v.u e 3 i), 0))
  | .narrow => packOut v.m v.d base w (fun i =>
      let r := intRange w signed
      let sa := (lane v.a i).toInt
      let y := sat sa r.1 r.2
      ((y % (2 ^ w : Nat)).toNat, if y = sa then 0 else flagSat))
  | .widen => mapLanes v.m v.d (fun i =>
      let c := elemOf v.a base w i
      (if signed then BitVec.ofInt 32 (sextN c w) else BitVec.ofNat 32 c, 0))
  | .ld | .st | .lds | .sts | .gather | .scatter => {}

end Sys2Proof.Machine
end

