-- ==== Sys2Proof/Machine/Bushel.lean ====
section
/-! DEFINITION. Operand images, accumulator tiles, products and the epilogue (spec/03 R66 to R78; spec/08). -/

namespace Sys2Proof.Machine

/-- The byte at an offset of an image. -/
def imageByte (img : List Host.Cell) (i : Nat) : Nat := (Memory.at_ img i).toNat
/-- A little-endian field of an image. -/
def imageField (img : List Host.Cell) (i n : Nat) : Nat := ofBytes (Memory.read img i n)
/-- Bytes of an operand image (spec/08 R177). -/
def imageBytes : Nat := 13888
/-- Bytes of an accumulator image (spec/08 Table 8.5). -/
def accImageBytes : Nat := 16960

/-- A tile header (spec/03 Table 3.8), or the description that a PREC makes of it (spec/08 R179). -/
structure Header where
  scaled : Bool
  scm : Nat
  signed : Bool
  code : Nat
  ver : Nat
  rows : Nat
  cols : Nat
  tscale : Nat
  reserved : Bool
  book : List Nat
  deriving DecidableEq, Repr
/-- The header read from 64 bytes. -/
def Header.ofBytes (bs : Bytes) : Header :=
  let b0 := (byteAt bs 0).toNat
  { scaled := testN b0 7, scm := bitsN b0 6 5, signed := testN b0 4, code := bitsN b0 3 0, ver := (byteAt bs 1).toNat
    rows := field bs 2 2, cols := field bs 4 2, tscale := field bs 8 4
    reserved := field bs 6 2 != 0 || field bs 12 20 != 0, book := (List.range 16).map (fun i => field bs (32 + 2 * i) 2) }
/-- SIGNED is set against spec/03 R60. -/
def signBad (signed : Bool) (code : Nat) : Bool := signed && !decide (1 ≤ code ∧ code ≤ 7)
/-- A description is invalid (spec/03 R67). -/
def Header.invalid (h : Header) : Bool :=
  h.ver != 1 || h.rows == 0 || h.cols == 0 || h.reserved || h.scm == 3 || ((h.scm == 2) != (h.code == 15)) ||
    (h.scm == 1 && h.code == 0) || signBad h.signed h.code || (!h.scaled && h.tscale != 0) ||
    (h.scm != 2 && h.book.any (· != 0))
/-- Describe (spec/08 R179, R188): the automatic bit, format, signedness and scale mode of PREC; none is Format Fault. -/
def describe (img : List Host.Cell) (auto : Bool) (f : Nat) (sgn : Bool) (scm : Nat) : Option Header :=
  let h := Header.ofBytes (Memory.read img 0 64)
  let d := if auto then h else { h with code := f, signed := sgn }
  let clash := !auto && (storageWidth h.code != storageWidth f || h.scm != scm)
  if clash || d.invalid || h.scaled || decide (32 < h.rows) then none else some d
/-- Bytes of a packed row (spec/03 R68). -/
def Header.rowBytes (h : Header) : Nat :=
  match storageWidth h.code with
  | 3 => (h.cols + 1) / 2
  | 6 => h.cols
  | 12 => (h.cols + 1) / 2 * 3
  | w => (h.cols * w + 7) / 8
/-- The bytes of a data tile's header, scale area and rows, padded to whole beats (spec/09 R214): the beats of its token. -/
def Header.beats (h : Header) : Nat :=
  let scales := if h.scm = 1 then (h.rows * ((h.cols + 31) / 32) + 63) / 64 else 0
  1 + scales + (h.rows * h.rowBytes + 63) / 64

/-- The code of element k of row i of an image (spec/08 R177, spec/03 R68). -/
def imageCode (img : List Host.Cell) (w i k : Nat) : Nat :=
  let pos := if w = 3 then k / 2 * 8 + k % 2 * 3 else if w = 6 then k * 8 else k * w
  imageField img (1600 + 384 * i + pos / 8) 3 / 2 ^ (pos % 8) % 2 ^ w
/-- Element k of row i of an operand, decoded with its block's scale (spec/03 R61, R63, R65). -/
def operand (img : List Host.Cell) (h : Header) (i k : Nat) : Num :=
  let v := decodeNum h.code h.signed h.book (imageCode img (storageWidth h.code) i k)
  if h.scm = 1 then scaleE8M0 (imageByte img (64 + 48 * i + k / 32)) (h.code == 5 && h.signed) v else v

/-- K for the wider storage width, and the passes (spec/08 Table 8.2). -/
def mmaDepth (w : Nat) : Nat := if w ≤ 8 then 384 * (8 / w) else 3072 / w
/-- The cost of a product on the array (spec/08 R180). -/
def mmaCost (ca cb : Nat) : Nat :=
  (mmaDepth (max (storageWidth ca) (storageWidth cb)) + 383) / 384 * serialWidth ca * serialWidth cb

/-- An accumulator element: A and status bits NAN 1, PINF 2, NINF 4, OVF 8 (spec/03 R71; spec/04 R84). -/
structure AccElem where
  a : Int
  st : Nat
  deriving DecidableEq, Repr
/-- A held to 128 bits, with OVF on saturation. -/
def AccElem.clamp (st : Nat) (v : Int) : AccElem :=
  let y := sat v (-(2 ^ 127)) (2 ^ 127 - 1)
  { a := y, st := if y = v then st else st ||| 8 }
/-- floor(v × 2^k) and whether it is exact. -/
def floorShift (v k : Int) : Int × Bool :=
  if 0 ≤ k then (v * (2 ^ k.toNat : Nat), true)
  else
    let m : Int := (2 ^ (-k).toNat : Nat)
    (v / m, decide (v % m = 0))
/-- A contribution enters an element (spec/03 R72): the element and whether INX is set. -/
def AccElem.add (e : AccElem) (eb : Int) (c : Num) : AccElem × Bool :=
  match c with
  | .nan _ => ({ e with st := e.st ||| 1 }, false)
  | .inf s => ({ e with st := e.st ||| (if s then 4 else 2) }, false)
  | .fin s n x _ =>
    let (t, exact) := floorShift (if s then -(n : Int) else n) (x - eb)
    (AccElem.clamp e.st (e.a + t), !exact)
/-- The contribution of a product (spec/03 Table 3.9). -/
def productOf (a b : Num) : Num :=
  if a.isNaN || b.isNaN then .nan false
  else match mulNum a b with
    | some c => c
    | none => .nan false

/-- The key of a Bushel range of accumulator tile n (spec/04 R84). -/
def accKey (gt n : Nat) : Nat := sramKey gt (0x01000000 + n * 0x4000)
/-- See `accKey`. -/
def statusKey (gt n : Nat) : Nat := sramKey gt (0x01100000 + n * 0x200)
/-- See `accKey`. -/
def fieldKey (gt n : Nat) : Nat := sramKey gt (0x01108000 + n * 8)
/-- Element e of an accumulator tile. -/
def State.accElem (s : State) (gt n e : Nat) : AccElem :=
  { a := sextN (ofBytes (s.readMem (accKey gt n + 16 * e) 16)) 128
    st := (Memory.at_ s.mem (statusKey gt n + e / 2)).toNat / 16 ^ (e % 2) % 16 }
/-- Element e written, as one indivisible step. -/
def State.setAccElem (s : State) (gt n e : Nat) (x : AccElem) : State :=
  let k := statusKey gt n + e / 2
  let old := (Memory.at_ s.mem k).toNat
  let st := if e % 2 = 0 then old / 16 * 16 + x.st else old % 16 + x.st * 16
  (s.writeMem (accKey gt n + 16 * e) (toBytes 16 (x.a % (2 ^ 128 : Nat)).toNat)).writeMem k [BitVec.ofNat 8 st]
/-- EB of an accumulator tile. -/
def State.accEb (s : State) (gt n : Nat) : Int := sextN (ofBytes (s.readMem (fieldKey gt n) 8)) 16
/-- INX of an accumulator tile. -/
def State.accInx (s : State) (gt n : Nat) : Bool := testN (ofBytes (s.readMem (fieldKey gt n) 8)) 16
/-- EB and INX written. -/
def State.setAccFields (s : State) (gt n : Nat) (eb : Int) (inx : Bool) : State :=
  s.writeMem (fieldKey gt n) (toBytes 8 ((eb % (2 ^ 16 : Nat)).toNat + 2 ^ 16 * bit inx))
/-- Elements changed one by one by a function that may set INX. -/
def State.mapAcc (s : State) (gt n : Nat) (es : List Nat) (f : Nat → AccElem → AccElem × Bool) : State × Bool :=
  es.foldl (fun (acc : State × Bool) e =>
    let r := f e (acc.1.accElem gt n e)
    (if r.1 = acc.1.accElem gt n e then acc.1 else acc.1.setAccElem gt n e r.1, acc.2 || r.2)) (s, false)

/-- The product of an A block and the B latch of each row into accumulator tile n (spec/08 R188). -/
def State.product (s : State) (gt n : Nat) (aImg : List Host.Cell) (ad : Header) (b : Nat → List Host.Cell × Header) : State :=
  let eb := s.accEb gt n
  let es := (List.range ad.rows).flatMap (fun i => (List.range (b i).2.rows).map (fun j => 32 * i + j))
  let r := s.mapAcc gt n es (fun e x =>
    let i := e / 32
    let j := e % 32
    let bi := b i
    (List.range (min ad.cols bi.2.cols)).foldl (fun (acc : AccElem × Bool) k =>
      let y := acc.1.add eb (productOf (operand aImg ad i k) (operand bi.1 bi.2 j k))
      (y.1, acc.2 || y.2)) (x, false))
  if r.2 then r.1.setAccFields gt n eb true else r.1

/-- ACC.CLR (spec/08 R190). -/
def State.accClear (s : State) (gt n : Nat) (eb : Int) : State :=
  ((s.clearMem (accKey gt n) 16384).clearMem (statusKey gt n) 512).setAccFields gt n eb false
/-- ACC.REBASE (spec/03 R74; spec/08 R190). -/
def State.accRebase (s : State) (gt n : Nat) (eb : Int) : State :=
  let old := s.accEb gt n
  let r := s.mapAcc gt n (List.range 1024) (fun _ x =>
    let (t, exact) := floorShift x.a (old - eb)
    (AccElem.clamp x.st t, !exact))
  r.1.setAccFields gt n eb (s.accInx gt n || r.2)
/-- ACC.ADD (spec/08 R190): the source is read whole first. -/
def State.accAdd (s : State) (gt n src : Nat) : State :=
  let eb := s.accEb gt n
  let r := s.mapAcc gt n (List.range 1024) (fun e x =>
    let y := s.accElem gt src e
    let z := x.add eb (.fin (decide (y.a < 0)) y.a.natAbs (s.accEb gt src) false)
    ({ z.1 with st := z.1.st ||| y.st }, z.2))
  r.1.setAccFields gt n eb (s.accInx gt n || s.accInx gt src || r.2)
/-- The accumulator image of spec/08 Table 8.5. -/
def State.accImage (s : State) (gt n : Nat) : Bytes :=
  s.readMem (accKey gt n) 16384 ++ s.readMem (statusKey gt n) 512 ++
    toBytes 8 (ofBytes (s.readMem (fieldKey gt n) 8) % 2 ^ 17) ++ zeros 56
/-- An element is poisoned (spec/08 R197). -/
def State.elemPoisoned (s : State) (gt n e : Nat) : Bool := s.poisoned (accKey gt n + 16 * e) 16
/-- EB and INX, or an element, of an accumulator tile are poisoned. -/
def State.accPoisoned (s : State) (gt n : Nat) : Bool := s.poisoned (fieldKey gt n) 8 || s.poisoned (accKey gt n) 16384
/-- The marks that a load of an accumulator tile leaves (spec/08 R197): an element is poisoned when its 16 bytes or its status bits came
poisoned, and the fields when theirs did. `bad` tells whether a run of bytes of the image is poisoned. -/
def State.markAcc (s : State) (gt n : Nat) (bad : Nat → Nat → Bool) : State :=
  let s := if bad 16896 8 then s.markPoison (fieldKey gt n) 8 else s
  (List.range 1024).foldl (fun s e => if bad (16 * e) 16 || bad (16384 + e / 2) 1 then s.markPoison (accKey gt n + 16 * e) 16 else s) s
/-- ACC.LD (spec/08 R191). -/
def State.accLoad (s : State) (gt n : Nat) (img : Bytes) : State :=
  ((s.writeMem (accKey gt n) (img.take 16384)).writeMem (statusKey gt n) ((img.drop 16384).take 512)).writeMem (fieldKey gt n)
    (toBytes 8 (field img 16896 8 % 2 ^ 17))

/-- A conversion descriptor is refused (spec/08 R192): cause 6, or 7 with TSCALE. -/
def convCause (x : Word) (isQ : Bool) : Option Nat :=
  let code := bits x 3 0
  let signed := testW x 4
  let scm := bits x 6 5
  let scaled := testW x 7
  let f32 := testW x 8
  let tscale := bits x 63 32
  if bits x 31 9 ≠ 0 then some 6
  else if f32 && (code != 0 || signed || scm != 0 || isQ) then some 6
  else if !f32 && (code == 15 || decide (2 ≤ scm) || signBad signed code ||
      (scm == 1 && (mxEmax (code + 16 * bit signed)).isNone)) then some 6
  else if !scaled && tscale != 0 then some 6
  else if scaled && (match decode32 (BitVec.ofNat 32 tscale) with
      | .fin s n _ _ => s || n == 0
      | _ => true) then some 7
  else none
/-- The value that the epilogue converts, with the flags of its row (spec/03 Table 3.11): S as a decoded FP32 value. -/
def epilogueValue (x : AccElem) (eb : Int) (scale : Num) : Num × BitVec 7 :=
  if testN x.st 0 then (.nan false, 0)
  else if testN x.st 1 && testN x.st 2 then (.nan false, flagInvalid)
  else if testN x.st 1 then (.inf false, 0)
  else if testN x.st 2 then (.inf true, 0)
  else if testN x.st 3 then (.inf (decide (x.a ≤ 0)), flagOverflow)
  else match scale with
    | .fin _ n e _ => (.fin (decide (x.a < 0)) (x.a.natAbs * n) (eb + e) false, 0)
    | _ => (.fin false 0 0 false, 0)
/-- The 64-byte header that a conversion writes (spec/08 R192). -/
def convHeader (code scm : Nat) (signed : Bool) : Bytes :=
  [BitVec.ofNat 8 (code + 16 * bit signed + 32 * scm), 1, 32, 0, 32, 0] ++ zeros 58
/-- The result of a conversion (spec/08 R192): its bytes and flags. `u` gives the word of an element. -/
def State.convert (s : State) (gt n : Nat) (x : Word) (rc : Nat) (u : Nat → Nat) : Bytes × BitVec 7 :=
  let code := bits x 3 0
  let signed := testW x 4
  let f32 := testW x 8
  let scale := if testW x 7 then decode32 (BitVec.ofNat 32 (bits x 63 32)) else .fin false 1 0 false
  let eb := s.accEb gt n
  let vals := (List.range 1024).map (fun e => epilogueValue (s.accElem gt n e) eb scale)
  let inx : BitVec 7 := if s.accInx gt n then flagInexact else 0
  let base := vals.foldl (fun f v => f ||| v.2) inx
  if f32 then
    let out := vals.zipIdx.map (fun p => encode32 rc (if rc = 4 then u p.2 else 0) p.1.1)
    (out.flatMap (fun r => toBytes 4 r.1.toNat), out.foldl (fun f r => f ||| r.2) base)
  else
    let mx := bits x 6 5 == 1
    let emax := (mxEmax (code + 16 * bit signed)).getD 0
    let scales := (List.range 32).map (fun i => if mx then blockScale emax (((vals.drop (32 * i)).take 32).map (·.1)) else 0)
    let out := vals.zipIdx.map (fun p =>
      let v := if mx then mxScale (scales.getD (p.2 / 32) 127) (code == 5 && signed) p.1.1 else p.1.1
      encodeNum code signed rc (if rc = 4 then u p.2 else 0) v)
    let w := storageWidth code
    let row := fun (i : Nat) =>
      toBytes 384 (((out.drop (32 * i)).take 32).zipIdx.foldl (fun acc p => acc ||| p.1.1 * 2 ^ elemPos w p.2) 0)
    (convHeader code (bit mx) signed ++ scales.flatMap (fun b => BitVec.ofNat 8 b :: zeros 47) ++
      (List.range 32).flatMap row, out.foldl (fun f r => f ||| r.2) base)

end Sys2Proof.Machine
end

