-- ==== Sys2Proof/Machine/Control.lean ====
section
/-! DEFINITION. Branches, jumps, loops, TRAP, ECALL, TS.READ and handlers (spec/06 R136 to R142; spec/02 R55). -/

namespace Sys2Proof.Machine

/-- The inbox of a tile in its scratchpad: base offset and messages it holds (spec/09 R223). -/
def inboxBase (gtile : Nat) : Nat := if isSTile gtile then 0x3FE000 else 0x3FF000
/-- See `inboxBase`. -/
def inboxRoom (gtile : Nat) : Nat := if isSTile gtile then 128 else 64
/-- The slot is at a handler point with a message waiting (spec/02 R55; spec/13 R267). -/
def State.messageWaits (s : State) (g : Nat) : Bool :=
  let t := s.slot g
  let ib := (s.tile (tileOfSlot g)).inbox
  ib.owner == some (g % 4) && decide (ib.taken < ib.arrived) && !t.inHandler && !t.status.tbank
/-- The handler's registers for the oldest message: PC at HENTRY, x1 the message's window address, x2 its first 8 bytes
(spec/02 R55). -/
def State.handlerFlow (s : State) (g : Nat) : Flow :=
  let t := s.slot g
  let gt := tileOfSlot g
  let off := inboxBase gt + 64 * ((s.tile gt).inbox.taken % inboxRoom gt)
  let entry := match s.kernel t.part t.image t.kernel with
    | some k => k.hentry
    | none => 0
  let f := (t.handler.set 1 (s.windowAddr gt off)).set 2 (wordN (ofBytes (s.readMem (sramKey gt off) 8)))
  { f with pc := entry, loops := [] }
/-- The slot switches to HANDLER (spec/02 R55); `resume` is the wait that it interrupts. -/
def State.enterHandler (s : State) (g : Nat) (resume : Option Wait) : State :=
  let f := s.handlerFlow g
  s.onSlot g (fun t => { t with state := .handler, inHandler := true, handler := f, resume := resume, wait := none })

/-- A conditional branch (spec/06 R136). -/
def State.branch (s : State) (c : Reg) (off : BitVec 19) (taken : Word → Bool) : Host.Outcome State Fault Refusal :=
  s.issue {} [c] (fun t =>
    if taken (t.x c) then .done (s.onSlot s.cur (fun t => t.setFlow t.bank (t.flow.jump (branchTarget t.pc off))))
    else .done (s.retire s.cur id))

/-- BEQZ (spec/06 R136): if X[c] = 0, PC := T. -/
def execBeqz (c : Reg) (off : BitVec 19) (s : State) : Host.Outcome State Fault Refusal :=
  s.branch c off (fun v => v == 0)

/-- BNEZ (spec/06 R136): if X[c] ≠ 0, PC := T. -/
def execBnez (c : Reg) (off : BitVec 19) (s : State) : Host.Outcome State Fault Refusal :=
  s.branch c off (fun v => v != 0)

/-- BLTZ (spec/06 R136): if Sext(X[c], 64) < 0, PC := T. -/
def execBltz (c : Reg) (off : BitVec 19) (s : State) : Host.Outcome State Fault Refusal :=
  s.branch c off (fun v => decide (sgn v < 0))

/-- BGEZ (spec/06 R136): if Sext(X[c], 64) ≥ 0, PC := T. -/
def execBgez (c : Reg) (off : BitVec 19) (s : State) : Host.Outcome State Fault Refusal :=
  s.branch c off (fun v => decide (0 ≤ sgn v))

/-- BGTZ (spec/06 R136): if Sext(X[c], 64) > 0, PC := T. -/
def execBgtz (c : Reg) (off : BitVec 19) (s : State) : Host.Outcome State Fault Refusal :=
  s.branch c off (fun v => decide (0 < sgn v))

/-- BLEZ (spec/06 R136): if Sext(X[c], 64) ≤ 0, PC := T. -/
def execBlez (c : Reg) (off : BitVec 19) (s : State) : Host.Outcome State Fault Refusal :=
  s.branch c off (fun v => decide (sgn v ≤ 0))

/-- CALL (spec/06 R136, R142 rule 3): xc := PC + 4, PC := T; Illegal Instruction at the end of a loop body. -/
def execCall (c : Reg) (off : BitVec 19) (s : State) : Host.Outcome State Fault Refusal :=
  s.issue {} [c] (fun t =>
    if t.flow.atEnd then s.trapWord t 1
    else .done (s.onSlot s.cur (fun t => (t.setX c (wordN (t.pc + 4))).setPc (branchTarget t.pc off))))

/-- JMP (spec/06 R136). -/
def execJmp (off : BitVec 19) (s : State) : Host.Outcome State Fault Refusal :=
  s.issue {} [] (fun _ => .done (s.onSlot s.cur (fun t => t.setFlow t.bank (t.flow.jump (branchTarget t.pc off)))))

/-- JR (spec/06 R137): the target is all 64 bits of X[a]. -/
def execJr (a : Reg) (s : State) : Host.Outcome State Fault Refusal :=
  s.issue {} [a] (fun _ => .done (s.onSlot s.cur (fun t => t.setFlow t.bank (t.flow.jump (t.x a).toNat))))

/-- JALR (spec/06 R137, R142 rule 3). -/
def execJalr (d a : Reg) (s : State) : Host.Outcome State Fault Refusal :=
  s.issue {} [a, d] (fun t =>
    if t.flow.atEnd then s.trapWord t 1
    else .done (s.onSlot s.cur (fun t => (t.setX d (wordN (t.pc + 4))).setPc (t.x a).toNat)))

/-- YIELD (spec/06 R137, spec/02 R55): a handler point; a handler that runs returns to the next instruction. -/
def execYield (s : State) : Host.Outcome State Fault Refusal :=
  s.issue { noHandler := true } [] (fun _ =>
    let s' := s.retire s.cur id
    .done (if s.messageWaits s.cur then s'.enterHandler s.cur none else s'))

/-- TRAP (spec/06 R138): Software Trap with code n. -/
def execTrap (n : Fin 32) (s : State) : Host.Outcome State Fault Refusal :=
  s.issue {} [] (fun _ => .trap 9 (wordN n.val))

/-- ECALL (spec/06 R138, R142 rule 3): Environment Call with service number n. -/
def execEcall (n : Fin 32) (s : State) : Host.Outcome State Fault Refusal :=
  s.issue {} [] (fun t => if t.flow.atEnd then s.trapWord t 1 else .trap 10 (wordN n.val))

/-- TS.READ (spec/06 R139): Now() at issue. -/
def execTsRead (d : Reg) (s : State) : Host.Outcome State Fault Refusal :=
  s.issue {} [d] (fun _ => .done (s.retire s.cur (fun t => t.setX d s.now)))

/-- A level pushed on the loop stack with a count (spec/06 R141): the body is i words; a count of 0 skips it. -/
def Flow.push (f : Flow) (count i : Nat) : Flow :=
  if count = 0 then { f with pc := f.pc + 4 * i + 4 }
  else
    let f' : Flow := { f with loops := f.loops ++ [{ first := f.pc + 4, last := f.pc + 4 * i }], pc := f.pc + 4 }
    if f.loops.isEmpty then { f' with lc0 := BitVec.ofNat 32 (count - 1) } else { f' with lc1 := BitVec.ofNat 32 (count - 1) }
/-- LOOP and LOOP.I (spec/06 R141). -/
def State.pushLoop (s : State) (regs : List Reg) (count : Slot → Nat) (i : BitVec 12) : Host.Outcome State Fault Refusal :=
  s.issue {} regs (fun t =>
    if i = 0 then s.trapWord t 1
    else if 2 ≤ t.flow.loops.length then s.trapWord t 1
    else .done (s.onSlot s.cur (fun t => t.setFlow t.bank (t.flow.push (count t) i.toNat))))

/-- LOOP (spec/06 R141): the count is Bits(X[a], 31, 0). -/
def execLoop (a : Reg) (i : BitVec 12) (s : State) : Host.Outcome State Fault Refusal :=
  s.pushLoop [a] (fun t => bits (t.x a) 31 0) i

/-- LOOP.I (spec/06 R141): the count is n. -/
def execLoopI (n : Fin 32) (i : BitVec 12) (s : State) : Host.Outcome State Fault Refusal :=
  s.pushLoop [] (fun _ => n.val) i

/-- HANDLER_ENTRY (spec/02 R55): a BLOCKED slot at a handler point with a message waiting switches to HANDLER; its wait is
examined again when the handlers have run. -/
def execHandlerEntry (slot : Nat) (s : State) : Host.Outcome State Fault Refusal :=
  let t := s.slot slot
  .next (if t.state == .blocked && s.messageWaits slot && !t.killable && t.freeze.isNone then s.enterHandler slot t.wait else s)

end Sys2Proof.Machine
end

