-- ==== Sys2Proof/Machine/SaveImage.lean ====
section
/-! DEFINITION. The bytes of a save image that the device itself keeps right while a task is pre-empted: the CRC, the pending
table and the counters (spec/13 R285 to R287). -/

namespace Sys2Proof.Machine

/-- One bit of CRC-32C: the reflected polynomial 0x82F63B78. -/
def crcBit (c : Nat) : Nat := if c % 2 = 1 then (c / 2) ^^^ 0x82F63B78 else c / 2
/-- One byte of CRC-32C. -/
def crcByte (c : Nat) (b : Byte) : Nat :=
  crcBit (crcBit (crcBit (crcBit (crcBit (crcBit (crcBit (crcBit (c ^^^ b.toNat))))))))
/-- CRC-32C of a run of bytes (spec/13 R286). -/
def crc32c (bs : Bytes) : Nat := bs.foldl crcByte 0xFFFFFFFF ^^^ 0xFFFFFFFF
/-- The bytes of an image that its CRC protects (spec/13 R286). -/
def protectedBytes (img : Bytes) : Bytes :=
  img.take 36 ++ (img.drop 40).take 24 ++ (img.drop 0x580).take 0x180 ++
    (img.drop (field img 24 4)).take (field img 32 4 - field img 24 4)
/-- An image with its CRC. -/
def sealImage (img : Bytes) : Bytes := img.take 36 ++ toBytes 4 (crc32c (protectedBytes img)) ++ img.drop 40
/-- The dispatcher that reads and writes the save image of a task. -/
def State.imageIssuer (s : State) (part : Nat) (h : Word) : Issuer := .device part (s.sourceNo (handleDie h * 64 + 49) 0) (handleEntry h + 1)
/-- A save image read: its header, and then all of it (spec/13 Table 13.12), within the save area. -/
def State.imageRead (s : State) (part : Nat) (h addr : Word) : CoreRead :=
  let p := s.imageIssuer part h
  let room := (s.part part).savebase.toNat + (s.part part).savesize.toNat - addr.toNat
  let head := s.coreBytes p addr 64 [] false
  if head.fails || !head.need.isEmpty then head else s.coreBytes p addr (min room (field head.bytes 8 4)) [] false
/-- Where a byte of the image's tables stands among the bytes that the CRC protects. -/
def guardedAt (off : Nat) : Nat := 60 + (off - 0x580)
/-- Bytes of the tables of a pre-empted task's image written by the device, which keeps the CRC right (spec/13 R286, R287; log 27). -/
def State.patchImage (s : State) (h : Word) (off : Nat) (bs : Bytes) : State :=
  match s.taskOf h with
  | none => s
  | some r =>
    let src := s.sourceNo (handleDie h * 64 + 49) 0
    let at_ := guardedAt off
    let all := r.guarded.take at_ ++ bs ++ r.guarded.drop (at_ + bs.length)
    let s := s.onTask h (fun r => { r with guarded := all })
    ((s.deviceBlock r.part src (r.saved + wordN off) bs).bind (fun s =>
      s.deviceBlock r.part src (r.saved + 36) (toBytes 4 (crc32c all)))).getD s
/-- A completion counter uncharged: in the slot that holds the task, or in the save image of a pre-empted task (spec/10 R245,
spec/13 R285). -/
def State.unchargeTask (s : State) (slot : Nat) (task : Word) (k : KTag) : State :=
  match k, s.taskOf task with
  | some i, some r =>
    if (s.slot slot).task == task then s.uncharge (tileOfSlot slot) k
    else if r.saved ≠ 0 then
      let n := field r.guarded (guardedAt (0x5C0 + 2 * i.val)) 2
      if n = 0 then s else s.patchImage task (0x5C0 + 2 * i.val) (toBytes 2 (n - 1))
    else s
  | _, _ => s

end Sys2Proof.Machine
end

