-- ==== Sys2Proof/Machine/LoadStore.lean ====
section
/-! DEFINITION. Scalar loads, stores, fences and atomics (spec/06 R143 to R153), and how requests of the scalar port are
performed and answered (spec/04 R86, R102; spec/16 R345). -/

namespace Sys2Proof.Machine

/-- A scalar load, store or atomic (spec/06 R145). -/
def ReqKind.isAccess : ReqKind → Bool
  | .load _ _ | .store _ | .atomic _ _ _ _ => true
  | _ => false
/-- A piece of a block that an instruction reads at issue from another module or the host. -/
def ReqKind.isPiece : ReqKind → Bool
  | .load _ 7 => true
  | _ => false
/-- One of the 16 requests that the scalar port of a slot may have outstanding (spec/06 R145, spec/10 R228). -/
def ReqKind.counted : ReqKind → Bool
  | .block _ | .confirm => false
  | k => !k.isPiece
/-- The request is an access of the slot's scalar, vector, matrix or channel port (spec/04 Tables 4.4, 4.6): the accesses of engines,
which R98 alone orders, carry other source numbers. -/
def State.onPort (s : State) (g : Nat) (r : Request) : Bool :=
  r.src / 16 == s.sourceNo (tileOfSlot g) 0 / 16 && decide (r.src % 16 < 8) && (match r.kind with
    | .block _ => true
    | k => k.isAccess)
/-- Every earlier access of the slot on the scalar, vector, matrix and channel ports has been performed (spec/06 R146), those of other
modules and the host among them (spec/16 R342). The model waits for all of them whatever the level (log 22). -/
def State.accessesPerformed (s : State) (g : Nat) : Bool :=
  let t := s.slot g
  (s.outstanding g).all (fun r => !s.onPort g r || r.phase == .performed) && t.mq.isEmpty && t.mbound.isEmpty &&
    (t.vq ++ t.vbound).all (fun e => !e.op.isMemory)
/-- An acquire of the slot has not had its data yet: no later access is accepted by any port (spec/06 R146). -/
def State.acquirePending (s : State) (g : Nat) : Bool := (s.outstanding g).any (fun r => r.acq)
/-- The reply unit of a tile has a free entry (spec/13 R287). -/
def State.replyRoom (s : State) (gtile : Nat) : Bool :=
  decide ((s.requests.filter (fun r => r.src % 4096 / 16 == gtile && (match r.kind with
    | .store _ | .block _ => false
    | _ => true))).length < 256)
/-- The scalar port of a slot can accept an access (spec/06 R145; spec/16 R341). -/
def State.portReady (s : State) (g : Nat) (rel : Bool) : Bool :=
  decide (((s.outstanding g).filter (fun r => r.kind.counted && r.src == s.slotSource g)).length < 16) && !s.acquirePending g &&
    s.replyRoom (tileOfSlot g) && s.retryRoom (s.slotSource g) && (!rel || s.accessesPerformed g)

/-- An instruction waits for earlier accesses of its slot: those that write to the host are confirmed (spec/16 R355). -/
def State.waitPerformed (s : State) (rel : Bool) : Issue := .wait (if rel then s.confirmSlot s.cur else s)

/-- The access of an instruction, as the checks of spec/06 R144 leave it. -/
structure Access where
  kind : ReqKind
  acc : AccKind
  addr : Word
  size : Nat
  dest : Option Reg
  level : Option Level
  acq : Bool
  rel : Bool
/-- The event with which a request of the scalar port reaches its owning unit. -/
def ReqKind.perform (k : ReqKind) (id : Nat) : Instr :=
  match k with
  | .load _ _ => .loadPerform id
  | .store _ => .storePerform id
  | _ => .atomicExecute id
/-- An access checked, and accepted when the port is ready (spec/06 R144 to R146): the instruction retires. -/
def State.access (s : State) (t : Slot) (a : Access) : Issue :=
  if !s.portReady s.cur a.rel then (if a.rel && s.engineStuck t then s.trapWord t 1 else s.waitPerformed a.rel)
  else if (match a.level with
      | some l => !t.declares l
      | none => false) then s.trapWord t 1
  else match s.checkAccess s.cur a.acc a.size a.addr with
    | .trap c => .trap c a.addr
    | .wait => .wait (s.askHome (tileOfSlot s.cur) t.part a.addr (slotAsker s.cur))
    | .ok target =>
      let r := s.accept s.cur a.kind a.addr (some target) a.dest a.acq a.rel (match a.level with
        | some l => l.val
        | none => 0)
      .done ((r.2.retire s.cur id).post (a.kind.perform r.1))

/-- A plain or acquire load of a size code (spec/06 R143). -/
def State.loadAs (s : State) (d : Reg) (sz : Nat) (addr : Word) (level : Option Level) (t : Slot) : Issue :=
  s.access t { kind := .load (sizeBytes sz) sz, acc := .read, addr := addr, size := sizeBytes sz, dest := some d
               level := level, acq := level.isSome, rel := false }
/-- A plain or release store of a size code (spec/06 R143). -/
def State.storeAs (s : State) (d : Reg) (sz : Nat) (addr : Word) (level : Option Level) (t : Slot) : Issue :=
  s.access t { kind := .store (toBytes (sizeBytes sz) (t.x d).toNat), acc := .write, addr := addr, size := sizeBytes sz
               dest := none, level := level, acq := false, rel := level.isSome }

/-- An atomic (spec/06 R149): function, word size, whether operand b is read, ordering. -/
def State.atomicAs (s : State) (d : Reg) (a : Reg) (id w : Nat) (readsB : Bool) (ord : AmoOrder) (lvl : Level) (t : Slot) :
    Issue :=
  let acq := ord == .acq || ord == .ar
  let rel := ord == .rel || ord == .ar
  let level := if ord == .none then none else some lvl
  let b := if readsB then t.x (d + 1) else 0
  let base : Access := { kind := .atomic id w (t.x d) b, acc := .atomic id, addr := t.x a, size := w, dest := some d
                         level := level, acq := acq, rel := rel }
  if readsB && d == 31 then s.trapWord t 1
  else if ord == .none && lvl != 0 then s.trapWord t 1
  else if id == 11 then
    if !s.portReady s.cur rel then (if rel && s.engineStuck t then s.trapWord t 1 else s.waitPerformed rel)
    else if (match level with
        | some l => !t.declares l
        | none => false) then s.trapWord t 1
    else match s.checkAccess s.cur (.atomic 11) 4 (t.x a) with
      | .trap c => .trap c (t.x a)
      | .wait => .wait (s.askHome (tileOfSlot s.cur) t.part (t.x a) (slotAsker s.cur))
      | .ok _ => s.access t { base with addr := t.x a + 4 * wordN (bits (t.x d) 15 0) }
  else s.access t base
/-- The registers that an atomic names. -/
def atomRegs (d a : Reg) (readsB : Bool) : List Reg := if readsB then [d, a, d + 1] else [d, a]

/-- LD.B (spec/06 R143). -/
def execLdB (d a : Reg) (off : BitVec 11) (s : State) : Host.Outcome State Fault Refusal :=
  s.issue {} [a, d] (fun t => s.loadAs d 0 (effAddr (t.x a) off) none t)
/-- LD.BU (spec/06 R143). -/
def execLdBu (d a : Reg) (off : BitVec 11) (s : State) : Host.Outcome State Fault Refusal :=
  s.issue {} [a, d] (fun t => s.loadAs d 1 (effAddr (t.x a) off) none t)
/-- LD.H (spec/06 R143). -/
def execLdH (d a : Reg) (off : BitVec 11) (s : State) : Host.Outcome State Fault Refusal :=
  s.issue {} [a, d] (fun t => s.loadAs d 2 (effAddr (t.x a) off) none t)
/-- LD.HU (spec/06 R143). -/
def execLdHu (d a : Reg) (off : BitVec 11) (s : State) : Host.Outcome State Fault Refusal :=
  s.issue {} [a, d] (fun t => s.loadAs d 3 (effAddr (t.x a) off) none t)
/-- LD.W (spec/06 R143). -/
def execLdW (d a : Reg) (off : BitVec 11) (s : State) : Host.Outcome State Fault Refusal :=
  s.issue {} [a, d] (fun t => s.loadAs d 4 (effAddr (t.x a) off) none t)
/-- LD.WU (spec/06 R143). -/
def execLdWu (d a : Reg) (off : BitVec 11) (s : State) : Host.Outcome State Fault Refusal :=
  s.issue {} [a, d] (fun t => s.loadAs d 5 (effAddr (t.x a) off) none t)
/-- LD (spec/06 R143). -/
def execLd (d a : Reg) (off : BitVec 11) (s : State) : Host.Outcome State Fault Refusal :=
  s.issue {} [a, d] (fun t => s.loadAs d 6 (effAddr (t.x a) off) none t)
/-- ST.B (spec/06 R143): the low byte of X[d]. -/
def execStB (d a : Reg) (off : BitVec 11) (s : State) : Host.Outcome State Fault Refusal :=
  s.issue {} [a, d] (fun t => s.storeAs d 0 (effAddr (t.x a) off) none t)
/-- ST.H (spec/06 R143). -/
def execStH (d a : Reg) (off : BitVec 11) (s : State) : Host.Outcome State Fault Refusal :=
  s.issue {} [a, d] (fun t => s.storeAs d 2 (effAddr (t.x a) off) none t)
/-- ST.W (spec/06 R143). -/
def execStW (d a : Reg) (off : BitVec 11) (s : State) : Host.Outcome State Fault Refusal :=
  s.issue {} [a, d] (fun t => s.storeAs d 4 (effAddr (t.x a) off) none t)
/-- ST (spec/06 R143). -/
def execSt (d a : Reg) (off : BitVec 11) (s : State) : Host.Outcome State Fault Refusal :=
  s.issue {} [a, d] (fun t => s.storeAs d 6 (effAddr (t.x a) off) none t)
/-- LD.ACQ (spec/06 R143, R146): size code 7 is reserved. -/
def execLdAcq (d a : Reg) (lvl : Level) (sz : SizeCode) (s : State) : Host.Outcome State Fault Refusal :=
  s.issue {} [a, d] (fun t => if sz = 7 then s.trapWord t 1 else s.loadAs d sz.val (t.x a) (some lvl) t)
/-- ST.REL (spec/06 R143, R146): the unsigned size codes and 7 are reserved. -/
def execStRel (d a : Reg) (lvl : Level) (sz : SizeCode) (s : State) : Host.Outcome State Fault Refusal :=
  s.issue {} [a, d] (fun t =>
    if sz = 1 ∨ sz = 3 ∨ sz = 5 ∨ sz = 7 then s.trapWord t 1 else s.storeAs d sz.val (t.x a) (some lvl) t)
/-- FENCE (spec/06 R147): the slot is not ready until every earlier access has been performed. -/
def execFence (lvl : Level) (s : State) : Host.Outcome State Fault Refusal :=
  s.issue {} [] (fun t =>
    if !t.declares lvl then s.trapWord t 1
    else if !s.accessesPerformed s.cur || s.acquirePending s.cur then (if s.engineStuck t then s.trapWord t 1 else s.waitPerformed true)
    else .done (s.retire s.cur id))

/-- AMO.ADD (spec/06 R149; spec/04 Table 4.7). -/
def execAmoAdd (d a : Reg) (w64 : Bool) (ord : AmoOrder) (lvl : Level) (s : State) : Host.Outcome State Fault Refusal :=
  s.issue {} (atomRegs d a false) (fun t => s.atomicAs d a 0 (if w64 then 8 else 4) false ord lvl t)
/-- AMO.AND (spec/06 R149; spec/04 Table 4.7). -/
def execAmoAnd (d a : Reg) (w64 : Bool) (ord : AmoOrder) (lvl : Level) (s : State) : Host.Outcome State Fault Refusal :=
  s.issue {} (atomRegs d a false) (fun t => s.atomicAs d a 1 (if w64 then 8 else 4) false ord lvl t)
/-- AMO.OR (spec/06 R149; spec/04 Table 4.7). -/
def execAmoOr (d a : Reg) (w64 : Bool) (ord : AmoOrder) (lvl : Level) (s : State) : Host.Outcome State Fault Refusal :=
  s.issue {} (atomRegs d a false) (fun t => s.atomicAs d a 2 (if w64 then 8 else 4) false ord lvl t)
/-- AMO.XOR (spec/06 R149; spec/04 Table 4.7). -/
def execAmoXor (d a : Reg) (w64 : Bool) (ord : AmoOrder) (lvl : Level) (s : State) : Host.Outcome State Fault Refusal :=
  s.issue {} (atomRegs d a false) (fun t => s.atomicAs d a 3 (if w64 then 8 else 4) false ord lvl t)
/-- AMO.SWAP (spec/06 R149; spec/04 Table 4.7). -/
def execAmoSwap (d a : Reg) (w64 : Bool) (ord : AmoOrder) (lvl : Level) (s : State) : Host.Outcome State Fault Refusal :=
  s.issue {} (atomRegs d a false) (fun t => s.atomicAs d a 4 (if w64 then 8 else 4) false ord lvl t)
/-- AMO.CAS (spec/06 R149; spec/04 Table 4.7). -/
def execAmoCas (d a : Reg) (w64 : Bool) (ord : AmoOrder) (lvl : Level) (s : State) : Host.Outcome State Fault Refusal :=
  s.issue {} (atomRegs d a true) (fun t => s.atomicAs d a 5 (if w64 then 8 else 4) true ord lvl t)
/-- AMO.MINS (spec/06 R149; spec/04 Table 4.7). -/
def execAmoMins (d a : Reg) (w64 : Bool) (ord : AmoOrder) (lvl : Level) (s : State) : Host.Outcome State Fault Refusal :=
  s.issue {} (atomRegs d a false) (fun t => s.atomicAs d a 6 (if w64 then 8 else 4) false ord lvl t)
/-- AMO.MINU (spec/06 R149; spec/04 Table 4.7). -/
def execAmoMinu (d a : Reg) (w64 : Bool) (ord : AmoOrder) (lvl : Level) (s : State) : Host.Outcome State Fault Refusal :=
  s.issue {} (atomRegs d a false) (fun t => s.atomicAs d a 7 (if w64 then 8 else 4) false ord lvl t)
/-- AMO.MAXS (spec/06 R149; spec/04 Table 4.7). -/
def execAmoMaxs (d a : Reg) (w64 : Bool) (ord : AmoOrder) (lvl : Level) (s : State) : Host.Outcome State Fault Refusal :=
  s.issue {} (atomRegs d a false) (fun t => s.atomicAs d a 8 (if w64 then 8 else 4) false ord lvl t)
/-- AMO.MAXU (spec/06 R149; spec/04 Table 4.7). -/
def execAmoMaxu (d a : Reg) (w64 : Bool) (ord : AmoOrder) (lvl : Level) (s : State) : Host.Outcome State Fault Refusal :=
  s.issue {} (atomRegs d a false) (fun t => s.atomicAs d a 9 (if w64 then 8 else 4) false ord lvl t)
/-- AMO.FADD32 (spec/06 R149; spec/04 Table 4.7). -/
def execAmoFadd32 (d a : Reg) (ord : AmoOrder) (lvl : Level) (s : State) : Host.Outcome State Fault Refusal :=
  s.issue {} (atomRegs d a false) (fun t => s.atomicAs d a 10 4 false ord lvl t)
/-- AMO.HIST (spec/06 R149; spec/04 Table 4.7). -/
def execAmoHist (d a : Reg) (ord : AmoOrder) (lvl : Level) (s : State) : Host.Outcome State Fault Refusal :=
  s.issue {} (atomRegs d a true) (fun t => s.atomicAs d a 11 4 true ord lvl t)
/-- AMO.DECZ (spec/06 R149; spec/04 Table 4.7). -/
def execAmoDecz (d a : Reg) (w64 : Bool) (ord : AmoOrder) (lvl : Level) (s : State) : Host.Outcome State Fault Refusal :=
  s.issue {} (atomRegs d a false) (fun t => s.atomicAs d a 12 (if w64 then 8 else 4) false ord lvl t)
/-- AMO.TAKE (spec/06 R149; spec/04 Table 4.7). -/
def execAmoTake (d a : Reg) (ord : AmoOrder) (lvl : Level) (s : State) : Host.Outcome State Fault Refusal :=
  s.issue {} (atomRegs d a false) (fun t => s.atomicAs d a 13 8 false ord lvl t)
/-- AMO.RETURN (spec/06 R149; spec/04 Table 4.7). -/
def execAmoReturn (d a : Reg) (ord : AmoOrder) (lvl : Level) (s : State) : Host.Outcome State Fault Refusal :=
  s.issue {} (atomRegs d a false) (fun t => s.atomicAs d a 14 8 false ord lvl t)
/-- ATOM.INV (spec/06 R148, R149; spec/04 R104, R105): the word size is the descriptor's. -/
def execAtomInv (d a : Reg) (id : Fin 64) (ord : AmoOrder) (lvl : Level) (s : State) : Host.Outcome State Fault Refusal :=
  s.issue {} (atomRegs d a true) (fun t =>
    let f := vget (s.part t.part).atomfn (id.val - 16)
    if id.val < 16 then s.trapWord t 1
    else if !descriptorValid f then s.trapWord t 1
    else s.atomicAs d a id.val (if descriptorWide f then 8 else 4) true ord lvl t)

/-- The bytes that an access touches. -/
def ReqKind.bytes : ReqKind → Nat
  | .load n _ => n
  | .store bs => bs.length
  | .atomic _ n _ _ => n
  | _ => 0
/-- The bytes of two accesses may be the same: by where they lead; in a peer's pages, whose places are not known here, by their places in
a page. -/
def Request.mayMeet (r : Request) (n : Nat) (q : Request) : Bool :=
  match r.target, q.target with
  | some (.peer a), some (.peer b) =>
    a == b && decide (q.addr.toNat % 4096 < r.addr.toNat % 4096 + n ∧ r.addr.toNat % 4096 < q.addr.toNat % 4096 + q.kind.bytes)
  | some a, some b => a.overlaps n b q.kind.bytes
  | _, _ => false
/-- An earlier access of the same port of the slot that overlaps these bytes and has not been performed (spec/04 R92 rule 1). -/
def State.overlapBefore (s : State) (r : Request) (n : Nat) : Bool :=
  s.requests.any (fun q => decide (q.id < r.id) && q.slot == r.slot && q.task == r.task && q.src == r.src && q.phase != .performed &&
    q.kind.isAccess && r.mayMeet n q)
/-- The packet of an access to another package (spec/16 R337): kind, function ID and size in AUX, data. -/
def Request.packet (r : Request) (pkg gtile kind : Nat) (aux : Word) (data : Bytes) : Packet :=
  reqPacket kind r.src r.part pkg gtile r.super r.rel r.addr aux data
/-- A request leaves the module for its owner (spec/04 Table 4.2): its answer comes back as an event (log 1). -/
def State.sendOut (s : State) (r : Request) (t : Target) (kind : Nat) (aux : Word) (size : Nat) (data : Bytes) : State :=
  match t with
  | .remoteTile pkg gt _ =>
    let p := r.packet pkg gt kind aux data
    (s.onRequest r.id (fun q => { q with phase := .left, remote := true, seq := s.nextSeq p.src p.dest })).sendPacket p
  | .peer pkg =>
    let p := r.packet pkg 0 kind aux data
    (s.onRequest r.id (fun q => { q with phase := .left, remote := true, seq := s.nextSeq p.src p.dest })).sendPacket p
  | .host pa =>
    (s.onRequest r.id (fun q => { q with phase := .left, remote := true })).emit
      (.hostRequest r.id pa size (if kind = 1 then none else some data) (if kind = 3 then some (aux.toNat % 64) else none))
  | _ => s
/-- The bytes that a scalar load reads at its owner: a control-page word, or memory. -/
def State.ownerRead (s : State) (t : Target) (n : Nat) : Bytes × Bool :=
  match t with
  | .tile gt off =>
    if 0x02000000 ≤ off && !s.lostDie (dieOf gt) then (toBytes 8 (s.controlRead gt off).toNat, false) else s.readTarget t n
  | _ => s.readTarget t n
/-- The bytes that a scalar store writes at its owner. -/
def State.ownerWrite (s : State) (t : Target) (bs : Bytes) : State :=
  match t with
  | .tile gt off =>
    if 0x02000000 ≤ off then (if s.lostDie (dieOf gt) then s else s.controlWrite gt off (wordN (ofBytes bs)))
    else s.writeTarget t bs false
  | _ => s.writeTarget t bs false

/-- A load, an atomic or a request on a barrier word that a guard has dropped is answered with poison (spec/17 R361). -/
def State.refuseRead (s : State) (id : Nat) : State :=
  (s.onRequest id (fun r => { r with phase := .performed })).post (.replyArrival id 0 true)
/-- A load performed at its unit (spec/04 R86): one that must wait is put aside, one of another module leaves. -/
def State.performLoad (s : State) (r : Request) (size : Nat) (t : Target) : State :=
  if s.overlapBefore r size || !s.served r.part (r.src % 4096 / 16) t then s.defer (.loadPerform r.id)
  else if t.remote then s.sendOut r t 1 (wordN size) size []
  else if s.barred r.part (r.src % 4096 / 16) t then (s.dropAccess 1 r.part r.src t r.addr).refuseRead r.id
  else match s.snoop (s.heldLines t size) false with
    | some s => s.defer (.loadPerform r.id)
    | none =>
      if !s.turnAt t size r.src then s.defer (.loadPerform r.id)
      else
      let v := s.ownerRead t size
      ((s.enterAt t size r.src).onRequest r.id (fun r => { r with phase := .performed })).post (.replyArrival r.id (ofBytes v.1) v.2)
/-- LOAD_PERFORM (spec/04 R86): the value of a load is fixed at its owning unit and sets out as a reply. -/
def execLoadPerform (id : Nat) (s : State) : Host.Outcome State Fault Refusal :=
  .next (match s.request id with
    | some r =>
      match r.kind, r.target, r.phase with
      | .load size _, some t, .inTile => s.performLoad r size t
      | _, _, _ => s
    | none => s)
/-- A store performed at its unit. -/
def State.performStore (s : State) (r : Request) (bs : Bytes) (t : Target) : State :=
  if s.overlapBefore r bs.length || !s.served r.part (r.src % 4096 / 16) t then s.defer (.storePerform r.id)
  else if t.remote then s.sendOut r t 2 0 bs.length bs
  else if s.barred r.part (r.src % 4096 / 16) t then (s.dropAccess 2 r.part r.src t r.addr).dropRequest r.id
  else match s.snoop (s.heldLines t bs.length) true with
    | some s => s.defer (.storePerform r.id)
    | none =>
      if !s.turnAt t bs.length r.src then s.defer (.storePerform r.id)
      else ((s.enterAt t bs.length r.src).ownerWrite t bs).dropRequest r.id
/-- STORE_PERFORM (spec/04 R86): a store takes effect at its owning unit. -/
def execStorePerform (id : Nat) (s : State) : Host.Outcome State Fault Refusal :=
  .next (match s.request id with
    | some r =>
      match r.kind, r.target, r.phase with
      | .store bs, some t, .inTile => s.performStore r bs t
      | _, _, _ => s
    | none => s)
/-- An atomic at a unit of this module (spec/04 R102, R103, R105): the new bytes, the result, and whether its entry is
invalid there. -/
def State.atomicAt (s : State) (part id w : Nat) (a b : Word) (old : Bytes) : Bytes × Word × Bool :=
  match s.atomFunction part id w (ofBytes old) a.toNat b.toNat with
  | some (word, result) => (toBytes w word, wordN result, false)
  | none => (old, -1, true)
/-- The die that homes a target of this module. -/
def Target.die : Target → Nat
  | .tile gt _ => dieOf gt
  | .dram d _ _ => d
  | _ => 0
/-- An atomic performed at its unit. -/
def State.performAtomic (s : State) (r : Request) (fn w : Nat) (a b : Word) (t : Target) : State :=
  if s.overlapBefore r w || !s.served r.part (r.src % 4096 / 16) t then s.defer (.atomicExecute r.id)
  else if t.remote then s.sendOut r t 3 (wordN (fn + 64 * w)) w (toBytes 8 a.toNat ++ toBytes 8 b.toNat)
  else if s.barred r.part (r.src % 4096 / 16) t then (s.dropAccess 3 r.part r.src t r.addr).refuseRead r.id
  else match s.snoop (s.heldLines t w) true with
    | some s => s.defer (.atomicExecute r.id)
    | none =>
      if !s.turnAt t w r.src then s.defer (.atomicExecute r.id)
      else
      let s := s.enterAt t w r.src
      let old := s.readTarget t w
      let f := s.atomicAt r.part fn w a b old.1
      let s := if f.2.2 then s.countDie t.die 4 else s.writeTarget t f.1 old.2
      (s.onRequest r.id (fun r => { r with phase := .performed })).post (.replyArrival r.id f.2.1.toNat old.2)
/-- ATOMIC_EXECUTE (spec/04 R102): the function runs at the owner's atomic unit as one indivisible step. -/
def execAtomicExecute (id : Nat) (s : State) : Host.Outcome State Fault Refusal :=
  .next (match s.request id with
    | some r =>
      match r.kind, r.target, r.phase with
      | .atomic fn w a b, some t, .inTile => s.performAtomic r fn w a b t
      | _, _, _ => s
    | none => s)

/-- A task consumes poison (spec/06 R153, spec/17 R372): its scope becomes CANCELLING with status POISON, and the slot is at
a kill point before anything that needs the datum can issue. -/
def State.consumePoison (s : State) (g : Nat) : State :=
  let s := s.countTile (tileOfSlot g) 7
  match s.taskOf (s.slot g).task with
  | some r => (s.poisonScope r.scope).onSlot g (fun t => { t with killNotice := true })
  | none => s
/-- The value that a reply gives the register (spec/06 Table 6.11). -/
def ReqKind.value (k : ReqKind) (v : Word) : Word :=
  match k with
  | .load n ext => extend ext (v.toNat % 2 ^ (8 * n))
  | _ => v
/-- The pending entry of a save image takes its reply (spec/13 R287, Table 13.14). -/
def State.fillPending (s : State) (r : Request) (index : Nat) (v : Word) (poison : Bool) : State :=
  let entry := 0x600 + 16 * index
  if poison then (s.poisonScope r.scope).patchImage r.task (entry + 9) [3]
  else (s.patchImage r.task entry (toBytes 8 (r.kind.value v).toNat)).patchImage r.task (entry + 9) [2]
/-- The membership of a dead task settles once its request on the word of another module has been answered (spec/10 R248): a BAR.ARRIVE has
arrived, a BAR.LEAVE has left. -/
def State.settleDead (s : State) (r : Request) (v : Word) : State :=
  match r.member, r.kind with
  | some _, .barLeave => s
  | some m, .barArrive => s.settleMembership r.slot (if testW v 63 then m else { m with arrived := some (v.setWidth 16) }) true
  | some m, _ => s.settleMembership r.slot m true
  | none, _ => s
/-- The reply of a killed task's request (spec/10 R243, spec/13 R290): discarded and counted at the tile, and in ATOMS when
it is an atomic's. -/
def State.discardReply (s : State) (r : Request) (v : Word) : State :=
  let s := (s.dropRequest r.id).settleDead r v
  let s := if r.kind.isPiece then s else s.countTile (r.src % 4096 / 16) 2
  let s := match r.kind with
    | .atomic _ _ _ _ => s.tally r.scope (fun c => { c with atoms := c.atoms + 1 })
    | _ => s
  s.wakeScope r.scope
/-- What else a reply brings (spec/10 R238, R247): a CANCEL that failed uncharges its counter, and the reply of another
module's barrier word records, marks or removes the membership. -/
def State.settleReply (s : State) (r : Request) (v : Word) : State :=
  let g := r.slot
  let failed := testW v 63
  match r.kind with
  | .cancel _ _ k => if failed then s.uncharge (tileOfSlot g) k else s
  | .message _ data _ => if r.slot = noSlot && v != 0 then s.cancelHeld r.task data else s
  | .dec _ => if r.slot = noSlot && [failure 1, failure 8, failure 10].contains v then s.post (.succFailureNotice (r.src % 4096 / 16)) else s
  | .barJoin => if r.remote && !failed then
      s.onSlot g (fun t => { t with memberships := t.memberships ++ [{ addr := r.addr, arrived := none }] }) else s
  | .barArrive => if r.remote && !failed then
      s.onSlot g (fun t => { t with memberships := t.memberships.map (fun m =>
        if m.addr == r.addr then { m with arrived := some (v.setWidth 16) } else m) }) else s
  | .barLeave => if r.remote && !failed then
      s.onSlot g (fun t => { t with memberships := t.memberships.filter (fun m => m.addr != r.addr) }) else s
  | _ => s
/-- A packet that answers another: it leaves by the port where that one entered (spec/16 R346). -/
def State.respond (s : State) (port : Nat) (p : Packet) (kind cls : Nat) (perf pois : Bool) (data : Bytes) : State :=
  s.emit (.packet port (sized { kind := kind, cls := cls, trim := false, pois := pois, rel := false, perf := perf, src := p.dest
                                part := p.part, dest := p.src, seq := p.seq, eport := p.eport, iport := port, addr := p.addr
                                aux := p.aux, reserved := 0, data := data }))
/-- A reply (spec/16 R345, R346). -/
def State.reply (s : State) (port : Nat) (p : Packet) (data : Bytes) (pois : Bool) : State := s.respond port p 0x10 2 false pois data
/-- REPLY_ARRIVAL (spec/16 R345): the reply unit writes the value, forwards it to a save image, or discards it; poison
writes nothing (spec/06 R153). The bytes that answer a read of another unit are kept for it and it goes on. The answer to a store says
that it has been performed, or with poison that the host refused it (spec/16 R356). `bytes` is what came, read as a number in the byte order of
memory. -/
def execReplyArrival (id : Nat) (bytes : Nat) (poison : Bool) (s : State) : Host.Outcome State Fault Refusal :=
  let value := wordN bytes
  .next (match s.request id with
    | none => s
    | some r =>
      if r.foreign.isNone && !s.returns r then s.defer (.replyArrival id bytes poison)
      else
      let wake := fun (s : State) => match r.wake with
        | some i => s.post i
        | none => s
      let s := if r.toHost && r.kind.confirms && !poison then s.confirmedBy r else s
      match r.foreign, r.kind with
      | some (port, p), _ => (s.dropRequest id).reply port p (toBytes (if p.kind = 1 then bits p.aux 15 0 else 8) bytes) poison
      | none, .store _ | none, .block _ =>
        let s := s.dropRequest id
        wake ((if poison then s.poisonScope r.scope else s).wakeScope r.scope)
      | none, .confirm => s.dropRequest id
      | none, .residency _ _ =>
        (s.dropRequest id).post (.engineSegment (r.entry / 8) (r.entry % 8) [if poison then 7 else value.setWidth 8] false)
      | none, _ =>
        if r.orphan then s.discardReply r value
        else if r.kind.isPiece then
          wake (s.onRequest id (fun q => { q with
            phase := .performed, result := some (value, poison), data := some (if r.bare then [] else toBytes r.kind.bytes bytes, poison) }))
        else match r.image with
          | some (_, index) => (s.dropRequest id).fillPending r index value poison
          | none =>
            if poison && r.slot = noSlot then s.dropRequest id
            else if poison then (s.onRequest id (fun r => { r with phase := .performed, result := some (0, true) })).consumePoison r.slot
            else
              let s := (s.dropRequest id).settleReply r value
              match r.dest with
              | some d => s.onSlot r.slot (fun t => t.writeX r.bank d (r.kind.value value))
              | none => s)

end Sys2Proof.Machine
end

