-- ==== Sys2Proof/Machine/Channels.lean ====
section
/-! DEFINITION. Channels, completion counters and messages (spec/02 R48 to R56; spec/09 R212 to R226). -/

namespace Sys2Proof.Machine

/-- What came of reading a block of memory at issue. -/
inductive Gathered where
  | data (bs : Bytes) (bad : Bool)
  | trap (cause : Nat) (addr : Word)
  | wait (s : State)
/-- An access of a port of a slot, other than the reads that an instruction makes at issue, may touch these bytes and has not been
performed (spec/04 R92 rule 1, spec/06 R145). -/
def State.portBusyAt (s : State) (p : Issuer) (t : Target) (n : Nat) : Bool :=
  s.requests.any (fun q => q.slot == p.slot && q.task == p.task && q.src == p.src && q.phase != .performed && q.kind.isAccess &&
    !q.kind.isPiece && (match q.target with
      | some u => u.overlaps q.kind.bytes t n
      | none => false))
/-- A 64-byte block read at issue by a port of a slot (unit `g % 4` for its scalar port, 7 for the channel port), checked as a 64-byte load
(spec/06 R144 steps 2 to 5). What lies in another module or the host is asked for once, and awaited. -/
def State.gatherBeat (s : State) (g unit : Nat) (va : Word) : Gathered :=
  let p := s.issuer g unit (s.slot g).status.super 0
  match s.checkAccess g .read 64 va with
  | .trap c => .trap c va
  | .wait => .wait (s.askHome (tileOfSlot g) (s.slot g).part va (slotAsker g))
  | .ok t =>
    if s.portBusyAt p t 64 || !s.served (s.slot g).part (tileOfSlot g) t then .wait s
    else if t.remote then
      match (s.reads p).find? (fun r => r.addr == va) with
      | some r => (match r.data with
        | some d => .data (padTo 64 d.1) d.2
        | none => .wait s)
      | none => .wait (s.sendRead p t va 64 none)
    else match s.snoop (s.heldLines t 64) false with
      | some s => .wait s
      | none => .data (s.readTarget t 64).1 (s.readTarget t 64).2
/-- The reads of a slot's instruction used up. -/
def State.dropBeats (s : State) (g unit : Nat) : State := s.dropReads (s.reads (s.issuer g unit (s.slot g).status.super 0))
/-- Blocks of 64 bytes one after another. -/
def State.gather (s : State) (g unit : Nat) : (n : Nat) → (va : Word) → Gathered
  | 0, _ => .data [] false
  | n + 1, va =>
    match s.gatherBeat g unit va with
    | .data a p =>
      (match s.gather g unit n (va + 64) with
       | .data b q => .data (a ++ b) (p || q)
       | o => o)
    | o => o

/-- A channel status word (spec/09 Table 9.8). -/
def chanStatus (code ch beats off : Nat) : Word := wordN (code + 2 ^ 8 * ch + 2 ^ 12 * beats + 2 ^ 24 * off)
/-- The offset of the entry of token s of a channel (spec/09 R216). -/
def Endpoint.entry (e : Endpoint) (seq : Nat) : Nat := e.qoff + seq % (e.depth + 1) * (e.entryBeats * 64)
/-- A complete data token or a control token is at the head (spec/02 R53, spec/09 R216). -/
def Endpoint.headReady (e : Endpoint) : Bool :=
  e.ended.isSome || (match e.tokens with
    | t :: _ => t.tail
    | [] => false)
/-- The cycle in which the head became complete (spec/09 R217). -/
def Endpoint.headTime (e : Endpoint) : Nat :=
  match e.ended, e.tokens with
  | none, t :: _ => max t.time e.lastTaken
  | _, _ => e.lastTaken
/-- The code of a receipt that finds the end of the channel (spec/09 Table 9.9). -/
def endCode (k : TokenKind) : Nat := if k == .endTok then 1 else 2

/-- The entry that a receiver holds freed (spec/09 R216): in AUTO mode one unit of allowance returns. -/
def State.freeEntry (s : State) (gt c : Nat) : State :=
  let e := s.chan gt c
  if e.held.isNone then s
  else
    let s := s.onChan gt c (fun e => { e with held := none, returned := e.returned + bit (!e.manual) })
    if e.manual then s else s.returnUnits ((s.tile gt).part.getD 0) gt c 1
/-- The token at the head taken: the status word (spec/09 R213, R216). -/
def State.takeHead (s : State) (gt c : Nat) : Word × State :=
  let e := s.chan gt c
  match e.ended, e.tokens with
  | some k, _ => (chanStatus (endCode k) c 0 0, s)
  | none, t :: rest =>
    if t.kind == .data || t.kind == .message then
      (chanStatus 0 c t.beats (e.entry t.seq),
       s.onChan gt c (fun e => { e with tokens := rest, held := some t.seq, taken := e.taken + 1, lastTaken := s.cycle }))
    else
      (chanStatus (endCode t.kind) c 0 0,
       s.onChan gt c (fun e => { e with tokens := rest, ended := some t.kind, lastTaken := max t.time e.lastTaken }))
  | none, [] => (chanStatus 3 c 0 0, s)
/-- The endpoints of a mask with a complete head, the earliest first, ties to the lower number (spec/09 R217). -/
def State.earliest (s : State) (gt : Nat) (mask : BitVec 16) : Option Nat :=
  (setBits 16 mask.toNat).foldl (fun best c =>
    if !(s.chan gt c).headReady then best
    else match best with
      | none => some c
      | some b => if (s.chan gt c).headTime < (s.chan gt b).headTime then some c else best) none

/-- The checks that a channel instruction makes of the endpoint it names (spec/05 R110 step 5, spec/09 R212, R219). -/
def State.chanCause (s : State) (t : Slot) (c : Nat) (side : Side) (held : Bool) : Option Nat :=
  let e := s.chan (tileOfSlot s.cur) c
  if !t.hasCh c then some 3
  else if held && e.heldBy.isSome then some 3
  else if e.side != side then some 1
  else none
/-- An instruction completes with a register written. -/
def State.finish (s : State) (d : Reg) (v : Word) : Issue := .done (s.retire s.cur (fun t => t.setX d v))
/-- A slot's wait is over: the instruction retires with a register written (spec/02 R35). -/
def State.complete (s : State) (g : Nat) (f : Slot → Slot) : State :=
  s.onSlot g (fun t => { (f t).advance with state := t.active, wait := none })

/-- SEND begins or goes on (spec/09 R215), for a token whose source has been read: none while it must wait. A token of
several beats leaves in two parts, so that a kill may cut it; `tail` is false once the first part has left. -/
def State.trySend (s : State) (g : Nat) (d : Reg) (c : Nat) (tok : Token) : Option State :=
  let gt := tileOfSlot g
  let t := s.slot g
  let e := s.chan gt c
  let beats := tok.bytes.length / 64
  let last := { tok with bytes := tok.bytes.drop (tok.bytes.length - 64), tail := true }
  if !s.tokenRoom gt e then none
  else if !tok.tail then
    some ((s.sendToken t.part gt c last).complete g (fun t => t.setX d (chanStatus 0 c beats 0)))
  else if e.state == .broken then some (s.complete g (fun t => t.setX d (chanStatus 4 c 0 0)))
  else if e.peer.isNone || e.allowance = 0 || e.frozen || !s.accessesPerformed g then none
  else
    let s := s.onChan gt c (fun e => { e with allowance := e.allowance - 1, count := e.count + 1 })
    if beats ≤ 1 then
      some ((s.sendToken t.part gt c { tok with tail := true }).complete g (fun t => t.setX d (chanStatus 0 c beats 0)))
    else
      let s := s.sendToken t.part gt c { tok with bytes := tok.bytes.take (tok.bytes.length - 64), tail := false }
      some ((s.onSlot g (fun t => { t with wait := some (.send d c { tok with tail := false }) })).post (.waitComplete g))
/-- SEND and SEND.RAW (spec/09 R215). The source is read once every earlier access of the slot has been performed: the token carries
what the program stored before (spec/11 R258; log 70). -/
def State.sendAs (s : State) (d : Reg) (c : Nat) (b : Reg) (raw : Bool) (t : Slot) : Issue :=
  let e := s.chan (tileOfSlot s.cur) c
  match s.chanCause t c .sender true with
  | some k => s.trapWord t k
  | none =>
    if e.state == .closed then s.finish d (chanStatus 6 c 0 0)
    else if e.state == .broken then s.finish d (chanStatus 4 c 0 0)
    else if s.acquirePending s.cur || !s.accessesPerformed s.cur then s.waitPerformed true
    else match s.gather s.cur 7 1 (t.x b) with
      | .trap k v => .trap k v
      | .wait s => .wait s
      | .data head _ =>
        let h := Header.ofBytes head
        let n := if raw then 1 else h.beats
        if !raw && h.invalid then s.trapWord t 6
        else if e.entryBeats < n then (s.dropBeats s.cur 7).finish d (chanStatus 5 c 0 0)
        else match s.gather s.cur 7 n (t.x b) with
          | .trap k v => .trap k v
          | .wait s => .wait s
          | .data bs bad =>
            .done ((s.dropBeats s.cur 7).block s.cur
              (.send d c { kind := if raw then .message else .data, bytes := bs, tail := true, bad := bad }))

/-- SEND (spec/09 R215): the data tile at X[b]; BLOCKED until its last beat has left. -/
def execSend (d : Reg) (ch : Fin 16) (b : Reg) (s : State) : Host.Outcome State Fault Refusal :=
  s.issue { noHandler := true } [b, d] (s.sendAs d ch.val b false)
/-- SEND.RAW (spec/09 R215): the 64 bytes at X[b] as one message token. -/
def execSendRaw (d : Reg) (ch : Fin 16) (b : Reg) (s : State) : Host.Outcome State Fault Refusal :=
  s.issue { noHandler := true } [b, d] (s.sendAs d ch.val b true)
/-- RECV (spec/09 R216): frees the held entry; takes the token at the head, or is BLOCKED until there is one. -/
def execRecv (d : Reg) (ch : Fin 16) (s : State) : Host.Outcome State Fault Refusal :=
  s.issue { noHandler := true } [d] (fun t =>
    match s.chanCause t ch.val .receiver true with
    | some k => s.trapWord t k
    | none =>
      let s := s.freeEntry (tileOfSlot s.cur) ch.val
      if (s.chan (tileOfSlot s.cur) ch.val).headReady then
        let r := s.takeHead (tileOfSlot s.cur) ch.val
        r.2.finish d r.1
      else .done (s.block s.cur (.recv d ch.val)))
/-- TRYRECV (spec/09 R216): as RECV without waiting; EMPTY if nothing is at the head. -/
def execTryrecv (d : Reg) (ch : Fin 16) (s : State) : Host.Outcome State Fault Refusal :=
  s.issue {} [d] (fun t =>
    match s.chanCause t ch.val .receiver true with
    | some k => s.trapWord t k
    | none =>
      let s := s.freeEntry (tileOfSlot s.cur) ch.val
      if (s.chan (tileOfSlot s.cur) ch.val).headReady then
        let r := s.takeHead (tileOfSlot s.cur) ch.val
        r.2.finish d r.1
      else s.finish d (chanStatus 3 ch.val 0 0))
/-- ALT acts as RECV on the endpoint selected. -/
def State.takeAlt (s : State) (gt c : Nat) : Word × State := (s.freeEntry gt c).takeHead gt c
/-- ALT (spec/09 R217): the endpoint of the mask whose head became complete earliest; BLOCKED while there is none. -/
def execAlt (d a : Reg) (s : State) : Host.Outcome State Fault Refusal :=
  s.issue { noHandler := true } [a, d] (fun t =>
    let gt := tileOfSlot s.cur
    let mask : BitVec 16 := (t.x a).setWidth 16
    let chans := setBits 16 mask.toNat
    if chans.isEmpty || decide (8 < chans.length) || chans.any (fun c => !t.hasCh c || (s.chan gt c).side != .receiver) then
      s.trapWord t 1
    else if chans.any (fun c => (s.chan gt c).heldBy.isSome) then s.trapWord t 3
    else match s.earliest gt mask with
      | some c => (s.takeAlt gt c).2.finish d (s.takeAlt gt c).1
      | none => .done (s.block s.cur (.alt d mask)))
/-- CH.GRANT (spec/09 R218): n units go back to the sender. R49 counts, seen from the receiver, the units returned so far
against the entries freed so far: allowance + entries + transit + returning = D + returned − freed. -/
def execChGrant (d : Reg) (ch : Fin 16) (b : Reg) (s : State) : Host.Outcome State Fault Refusal :=
  s.issue {} [b, d] (fun t =>
    let gt := tileOfSlot s.cur
    let e := s.chan gt ch.val
    let n := (t.x b).toNat
    match s.chanCause t ch.val .receiver false with
    | some k => s.trapWord t k
    | none =>
      if !e.manual then s.finish d (chanStatus 8 ch.val 0 0)
      else if e.state == .broken then s.finish d (chanStatus 4 ch.val 0 0)
      else if e.taken < e.returned + n + bit e.held.isSome then s.finish d (chanStatus 7 ch.val 0 0)
      else
        ((s.onChan gt ch.val (fun e => { e with returned := e.returned + n })).returnUnits t.part gt ch.val n).finish d
          (chanStatus 0 ch.val 0 0))
/-- CH.CLOSE (spec/09 R218): END follows every earlier token; no effect on a channel that is CLOSED or BROKEN. -/
def execChClose (ch : Fin 16) (s : State) : Host.Outcome State Fault Refusal :=
  s.issue {} [] (fun t =>
    let gt := tileOfSlot s.cur
    match s.chanCause t ch.val .sender true with
    | some k => s.trapWord t k
    | none =>
      if (s.chan gt ch.val).state != .opened then .done (s.retire s.cur id)
      else if !s.accessesPerformed s.cur then s.waitPerformed true
      else .done ((s.closeSender t.part gt ch.val .endTok).retire s.cur id))

/-- WAITLT and WAITLT.X (spec/09 R221): BLOCKED while COUNT ≥ t. -/
def State.waitBelow (s : State) (k : Fin 16) (n : Nat) (t : Slot) : Issue :=
  if !t.hasK k then s.trapWord t 3
  else if n = 0 then s.trapWord t 1
  else if (s.counter (tileOfSlot s.cur) k.val).toNat < n then .done (s.retire s.cur id)
  else .done (s.block s.cur (.counter k.val n))
/-- WAITLT (spec/09 R221). -/
def execWaitlt (k : Fin 16) (n : Fin 32) (s : State) : Host.Outcome State Fault Refusal :=
  s.issue { noHandler := true } [] (s.waitBelow k n.val)
/-- WAITLT.X (spec/09 R221): the threshold is X[b]. R56 names WAITLT; log 19. -/
def execWaitltX (k : Fin 16) (b : Reg) (s : State) : Host.Outcome State Fault Refusal :=
  s.issue { noHandler := true } [b] (fun t => s.waitBelow k (t.x b).toNat t)
/-- K.RD (spec/09 R222). -/
def execKRd (d : Reg) (k : Fin 16) (s : State) : Host.Outcome State Fault Refusal :=
  s.issue {} [d] (fun t =>
    if !t.hasK k then s.trapWord t 3
    else s.finish d ((s.counter (tileOfSlot s.cur) k.val).setWidth 64))
/-- K.ADD (spec/09 R222): COUNT saturated to 0 to 65,535; FLAGS.SAT if Sat changed the value. -/
def execKAdd (k : Fin 16) (b : Reg) (s : State) : Host.Outcome State Fault Refusal :=
  s.issue {} [b] (fun t =>
    let gt := tileOfSlot s.cur
    let v : Int := (s.counter gt k.val).toNat + sgn (t.x b)
    let y := sat v 0 65535
    if !t.hasK k then s.trapWord t 3
    else .done ((s.setCounter gt k.val (BitVec.ofInt 16 y)).retire s.cur (fun t => t.orFlags (if y = v then 0 else flagSat))))

/-- The target tile of MSG.SEND passes its checks (spec/09 R224): package and global tile of a TILEID. -/
def State.messageTarget (s : State) (part : Nat) (v : Word) : Bool :=
  let pkg := bits v 17 8
  let gt := bits v 7 0
  (pkg == s.mgmt.package || Config.configuredPackage pkg) && (isMTile gt || isSTile gt) && s.ownsTile part pkg gt
/-- MSG.SEND (spec/09 R224): the 64 bytes at X[b] to the inbox of a tile; xd awaits the reply. -/
def execMsgSend (d a b : Reg) (s : State) : Host.Outcome State Fault Refusal :=
  s.issue {} [a, b, d] (fun t =>
    let tile := bits (t.x a) 17 0
    let pkg := bits (t.x a) 17 8
    let gt := bits (t.x a) 7 0
    if !s.messageTarget t.part (t.x a) then .trap 4 (t.x a)
    else if !s.portReady s.cur true then s.waitPerformed true
    else match s.gather s.cur 7 1 (t.x b) with
      | .trap k v => .trap k v
      | .wait s => .wait s
      | .data bs bad =>
        let s := s.dropBeats s.cur 7
        let r := s.accept s.cur (.message tile bs bad) 0 none (some d) false true 0
        let s := r.2.retire s.cur id
        .done (if pkg = s.mgmt.package then s.post (.messageArrival gt bs (some r.1))
               else
                let p := { reqPacket 0x05 (s.slotSource s.cur) t.part pkg gt t.status.super true 0 0 bs with
                  dest := pkg * 4096 + gt * 16 + 7, pois := bad }
                (s.onRequest r.1 (fun q => { q with phase := .left, remote := true, seq := s.nextSeq p.src p.dest })).sendPacket p))
/-- MSG.END (spec/09 R225, spec/02 R55): dequeues the message in hand; the next handler starts, or the main flow resumes. -/
def execMsgEnd (s : State) : Host.Outcome State Fault Refusal :=
  s.issue {} [] (fun t =>
    let gt := tileOfSlot s.cur
    if !t.inHandler || t.status.tbank then s.trapWord t 1
    else
      let s := s.onTile gt (fun u => { u with inbox := { u.inbox with taken := u.inbox.taken + 1, msgEnds := u.inbox.msgEnds + 1 } })
      let ib := (s.tile gt).inbox
      if ib.owner == some (s.cur % 4) && decide (ib.taken < ib.arrived) then .done (s.enterHandler s.cur t.resume)
      else
        let s := s.onSlot s.cur (fun t => { t with inHandler := false, resume := none, state := .issue })
        .done (match t.resume with
          | none => s
          | some w => s.block s.cur w))

/-- A message deposited in an inbox (spec/02 R54, spec/09 R223): message m goes to base + 64 × (m mod capacity). -/
def State.deposit (s : State) (gt : Nat) (bs : Bytes) (bad : Bool) (owner : Nat) : State :=
  let ib := (s.tile gt).inbox
  let s := s.writeMark (sramKey gt (inboxBase gt + 64 * (ib.arrived % inboxRoom gt))) (padTo 64 bs) bad
  let s := s.onTile gt (fun u => { u with inbox := { u.inbox with arrived := u.inbox.arrived + 1 } })
  s.post (.handlerEntry (gt * 4 + owner))
/-- A message of the same slot to the same tile that was sent before and has not been queued (spec/09 R224). -/
def State.messageBefore (s : State) (id : Nat) : Bool :=
  match s.request id with
  | some r => s.requests.any (fun q => decide (q.id < id) && q.src == r.src && q.phase != .performed &&
      (match q.kind, r.kind with
       | .message a _ _, .message b _ _ => a == b
       | _, _ => false))
  | none => false
/-- The poison mark of a message on its way. -/
def State.messageBad (s : State) (id : Nat) : Bool :=
  match s.request id with
  | some r => (match r.kind with
    | .message _ _ bad => bad
    | _ => false)
  | none => false
/-- A message answered: 0 queued, 1 refused; an engine's message that is refused is counted (spec/09 R203). -/
def State.messageReply (s : State) (gt : Nat) (reply : Option Nat) (v : Word) : State :=
  match reply with
  | some id => (s.onRequest id (fun r => { r with phase := .performed })).post (.replyArrival id v.toNat false)
  | none => if v = 0 then s else s.countTile gt 0
/-- The guard of a tile drops a message of a tile of another partition (spec/17 R360, R361): the request that it is. -/
def State.messageBarred (s : State) (gtile : Nat) (reply : Option Nat) : Option Request :=
  (reply.bind s.request).filter (fun r => s.barred r.part (r.src % 4096 / 16) (.tile gtile 0))
/-- A message has a time slot on its way (spec/17 R364). -/
def State.messageServed (s : State) (gtile : Nat) (reply : Option Nat) : Bool :=
  (reply.bind s.request).all (fun r => s.served r.part (r.src % 4096 / 16) (.tile gtile 0))
/-- MESSAGE_ARRIVAL (spec/02 R54, spec/09 R224): queued for the owner, refused when there is none or a guard drops it, held while the inbox is
full. -/
def execMessageArrival (gtile : Nat) (data : Bytes) (reply : Option Nat) (s : State) : Host.Outcome State Fault Refusal :=
  let ib := (s.tile gtile).inbox
  let bad := match reply with
    | some id => s.messageBad id
    | none => false
  .next (
    if !s.messageServed gtile reply then s.defer (.messageArrival gtile data reply)
    else match s.messageBarred gtile reply, ib.owner with
    | some r, _ => (s.guardLogged 5 1 gtile r.src r.part (s.mgmt.package * 4096 + gtile * 16 + 7) 0).messageReply gtile reply 1
    | none, none => s.messageReply gtile reply 1
    | none, some o =>
      if s.lostDie (dieOf gtile) then s.messageReply gtile reply 1
      else if inboxRoom gtile ≤ ib.arrived - ib.taken || (match reply with
          | some id => s.messageBefore id
          | none => false) then s.defer (.messageArrival gtile data reply)
      else (s.deposit gtile data bad o).messageReply gtile reply 0)

/-- The beats of a data token written into its entry (spec/09 R216), at the index that they name (spec/16 R340). -/
def State.writeBeats (s : State) (gtile ch : Nat) (token : Token) : State :=
  let e := s.chan gtile ch
  let part := e.tokens.find? (fun t => !t.tail)
  let seq := (part.map (·.seq)).getD e.count
  let done := match token.place with
    | some p => p.2
    | none => (part.map (·.beats)).getD 0
  let bs := token.bytes.take ((e.entryBeats - done) * 64)
  let q : QueuedToken := { seq := seq, kind := token.kind, beats := done + bs.length / 64, tail := token.tail, time := s.cycle }
  let s := if bs.isEmpty then s else s.writeMark (sramKey gtile (e.entry seq + 64 * done)) bs token.bad
  s.onChan gtile ch (fun e => { e with
    tokens := e.tokens.filter (·.tail) ++ [q], count := e.count + bit part.isNone
    mark := if token.tail then none else e.mark.map (fun m => (m.1, q.beats)) })
/-- A token of another channel than the one that an endpoint is bound to now (spec/02 R51). -/
def Endpoint.strange (e : Endpoint) (token : Token) : Bool :=
  match token.chan with
  | some c => c != (e.serial, e.chan)
  | none => false
/-- A token reaches a receiving endpoint (spec/02 R51, R53; spec/09 R216): its beats are written; a control token takes its entry
and writes nothing; a token for an endpoint that is BROKEN, or that has been bound to another channel since, is discarded; END-CANCELLED
discards a token without its tail. -/
def State.takeToken (s : State) (gtile ch : Nat) (token : Token) : State :=
  let e := s.chan gtile ch
  if e.side != .receiver || e.state != .opened || e.strange token || s.lostDie (dieOf gtile) then s
  else if token.kind == .endTok || token.kind == .endCancelled then s.onChan gtile ch (fun e => e.takeEnd token.kind s.cycle)
  else s.writeBeats gtile ch token
/-- A token for an endpoint, on its way. -/
def Instr.tokenFor (gtile ch : Nat) : Instr → Bool
  | .tokenArrival g c _ => g == gtile && c == ch
  | _ => false
/-- TOKEN_ARRIVAL. A token waits behind one of its channel that waits, and one that rides packets waits while its partition has no time slot on
its way (spec/17 R364); the guard of a tile of another partition drops it, a beat as one that has left its binding (R360, Table 17.4). -/
def execTokenArrival (gtile ch : Nat) (token : Token) (s : State) : Host.Outcome State Fault Refusal :=
  .next (match token.origin with
    | none => s.takeToken gtile ch token
    | some (src, part, addr) =>
      if s.deferred.any (Instr.tokenFor gtile ch) || (token.place.isSome && !s.served part (src % 4096 / 16) (.tile gtile 0)) then
        s.defer (.tokenArrival gtile ch token)
      else if s.barred part (src % 4096 / 16) (.tile gtile 0) then
        (if token.place.isSome then s.guardLogged 4 1 else s.guardLogged 0x20 3) gtile src part (s.mgmt.package * 4096 + gtile * 16 + 7) addr
      else s.takeToken gtile ch token)
/-- ALLOWANCE_RETURN (spec/02 R49): returned units reach the sender. -/
def execAllowanceReturn (gtile ch units : Nat) (s : State) : Host.Outcome State Fault Refusal :=
  .next (if (s.chan gtile ch).side == .sender then
    s.onChan gtile ch (fun e => { e with allowance := e.allowance + units, taken := e.taken + units }) else s)
/-- CHANNEL_BROKEN_NOTICE (spec/02 R51): the sender's endpoint becomes BROKEN. -/
def execChannelBrokenNotice (gtile ch : Nat) (s : State) : Host.Outcome State Fault Refusal :=
  .next (if (s.chan gtile ch).side == .sender && (s.chan gtile ch).state == .opened then
    s.onChan gtile ch (fun e => { e with state := .broken }) else s)
/-- The channel of an endpoint rides packets from now on (spec/16 R340): when the head of a token has left its sender and its tail has not,
the receiving end marks the entry, and the index of the next beat that will come. -/
def State.withdrawLane (s : State) (gtile ch : Nat) : State :=
  let spill := fun (e other : Endpoint) => { e with
    lane := false, mark := if e.side == .receiver && 0 < other.sent then some (other.lastEntry, other.sent) else none }
  let e := s.chan gtile ch
  if !e.lane then s
  else match e.peer with
    | some (_, g, r) =>
      let q := s.chan g r
      (s.onChan gtile ch (fun x => spill x q)).onChan g r (fun x => spill x e)
    | none => s.onChan gtile ch (fun x => { x with lane := false })
/-- LANE_GROUP_WITHDRAW (spec/16 R340). -/
def execLaneGroupWithdraw (gtile ch : Nat) (s : State) : Host.Outcome State Fault Refusal := .next (s.withdrawLane gtile ch)

end Sys2Proof.Machine
end

