-- ==== Sys2Proof/Machine/Placement.lean ====
section
/-! DEFINITION. Grants, footprints and the binding of channels: where a task may be placed, and what its slot holds when it has
been (spec/01 R17; spec/02 R27, R42 to R45, R48; spec/14 R310). -/

namespace Sys2Proof.Machine

/-- Resources that two grants share. -/
def Grant.meet (a b : Grant) : Grant :=
  { k := a.k &&& b.k, ch := a.ch &&& b.ch, qa := a.qa &&& b.qa, bl := a.bl &&& b.bl, ag := a.ag &&& b.ag, acc := a.acc &&& b.acc }
/-- Resources of either. -/
def Grant.join (a b : Grant) : Grant :=
  { k := a.k ||| b.k, ch := a.ch ||| b.ch, qa := a.qa ||| b.qa, bl := a.bl ||| b.bl, ag := a.ag ||| b.ag, acc := a.acc ||| b.acc }
/-- Resources of the first and not the second. -/
def Grant.minus (a b : Grant) : Grant :=
  { k := a.k &&& ~~~b.k, ch := a.ch &&& ~~~b.ch, qa := a.qa &&& ~~~b.qa, bl := a.bl &&& ~~~b.bl, ag := a.ag &&& ~~~b.ag
    acc := a.acc &&& ~~~b.acc }

/-- The node of a task's record. -/
def State.nodeOf (s : State) (r : TaskRec) : Option Node := (s.recordTemplate r).bind (fun t => t.nodes[r.node]?)
/-- The kernel of a task's record: its index and itself. -/
def State.kernelRec (s : State) (r : TaskRec) : Option (Nat × Kernel) :=
  (s.nodeOf r).bind (fun n => (s.kernel r.part r.image n.kernel).map (fun k => (n.kernel, k)))
/-- The kernel of the task in a slot. -/
def State.slotKernel (s : State) (g : Nat) : Option Kernel := s.kernel (s.slot g).part (s.slot g).image (s.slot g).kernel

/-- Every declared resource is free on a tile, or held by tasks of the same gang whose kernels declare it shared (spec/01
R17). -/
def State.grantFits (s : State) (gt : Nat) (k : Kernel) (gang : Option Nat) : Bool :=
  [0, 1, 2, 3].all (fun i =>
    let g := gt * 4 + i
    let o := s.slot g
    let ok := match s.slotKernel g with
      | some q => if gang.isSome && o.gang == gang then k.share.meet q.share else Grant.none
      | none => Grant.none
    (k.use.meet o.grant).minus ok == Grant.none)
/-- A kernel that declares the inbox owner may come to a tile: it has no owner yet (spec/02 R54). -/
def State.inboxFree (s : State) (gt : Nat) (k : Kernel) : Bool := !k.inbox || (s.tile gt).inbox.owner.isNone
/-- Bytes of a tile's code store (spec/05 R106). -/
def codeStore : Nat := 262144
/-- Bytes of a kernel's code. -/
def State.codeBytes (s : State) (c : Nat × Nat × Nat) : Nat :=
  match s.kernel c.1 c.2.1 c.2.2 with
  | some k => 4 * k.code.length
  | none => 0
/-- Kernels that a tile's code store must keep: those of granted tasks and the partition's trap kernel (spec/13 R275). -/
def State.pinned (s : State) (gt : Nat) (c : Nat × Nat × Nat) : Bool :=
  [0, 1, 2, 3].any (fun i => (s.slot (gt * 4 + i)).task != 0 &&
    (let t := s.slot (gt * 4 + i)
     (t.part, t.image, t.kernel) == c)) ||
    (testW (s.part c.1).partinfo 16 && (s.part c.1).trapImage == c.2.1 && bits (s.part c.1).partinfo 15 0 == c.2.2)
/-- A kernel's code is in a tile's code store or fits there (spec/14 R310). -/
def State.codeFits (s : State) (gt : Nat) (cs : List (Nat × Nat × Nat)) : Bool :=
  let missing := cs.eraseDups.filter (fun c => !(s.tile gt).code.contains c)
  let kept := (s.tile gt).code.filter (fun c => s.pinned gt c || cs.contains c)
  decide (((kept ++ missing).map s.codeBytes).sum ≤ codeStore)
/-- A tile's code store with a kernel placed: until it fits, kernels without a task leave, least recently placed first. -/
def State.placeCode (s : State) (gt : Nat) (c : Nat × Nat × Nat) : State :=
  let others := (s.tile gt).code.filter (· != c)
  let keep := others.reverse.foldl (fun (acc : List (Nat × Nat × Nat) × Nat) o =>
    if s.pinned gt o || decide (acc.2 ≤ codeStore) then (o :: acc.1, acc.2) else (acc.1, acc.2 - s.codeBytes o))
      ([], ((c :: others).map s.codeBytes).sum)
  s.onTile gt (fun t => { t with code := c :: keep.1 })

/-- The backing queues and inbox range that a node of a template reserves in its tile's scratchpad: offset and size (spec/02
R48, spec/09 R223). -/
def Template.ranges (t : Template) (node : Nat) (inbox : Bool) (gt : Nat) : List (Nat × Nat) :=
  (t.channels.filter (fun c => c.rnode == node)).map (fun c => (c.qoff, (c.depth + 1) * c.beats * 64)) ++
    (if inbox then [if isSTile gt then (0x3FE000, 0x2000) else (0x3FF000, 0x1000)] else [])
/-- Ranges that overlap none of those reserved on a tile. -/
def State.rangesFree (s : State) (gt : Nat) (rs : List (Nat × Nat)) : Bool :=
  rs.all (fun r => (s.tile gt).reserved.all (fun q => decide (r.1 + r.2 ≤ q.2.1 ∨ q.2.1 + q.2.2 ≤ r.1)))

/-- The prefetch pairs of a node's argument image: the first four, in relocation order, that pass the checks (spec/14 R303). A
pair whose LEN is 0 or whose DOFF is no multiple of 64 is skipped too (log 26). -/
def Template.pairs (t : Template) (node : Nat) (image : Bytes) : List Prefetch :=
  (t.relocs.filterMap (fun r =>
    let ro := t.buffers.any (fun b => b.slot == r.slot && b.read && !b.write)
    let v := fieldW image (8 * r.argw + 8) 8
    let len := bits v 21 0
    let doff := bits v 43 22
    if r.node == node && ro && decide (r.argw ≤ 30) && testW v 63 && bits v 62 44 == 0 && len != 0 && doff % 64 == 0 &&
        decide (doff + len ≤ 0x3FC000) then
      some { word := r.argw, src := fieldW image (8 * r.argw) 8, len := len, doff := doff, since := 0, outcome := none }
    else none)).take 4
/-- A slot is marked for a resumed task that found it occupied (spec/14 R310). -/
def State.marked (s : State) (g : Nat) : Bool :=
  [0, 1, 2, 3].any (fun d => (s.die d).tun.any (fun e => e.2.state == .ready && e.2.marks.contains g))
/-- Slots have been taken: those in which a saved task waits to resume are now marked for it (spec/14 R310). -/
def State.noteOccupied (s : State) (gs : List Nat) : State :=
  [0, 1, 2, 3].foldl (fun s d => s.onDie d (fun q => { q with tun := q.tun.map (fun (e : Nat × TaskRec) =>
    if e.2.state == .ready && e.2.saved != 0 then
      (e.1, { e.2 with marks := e.2.marks ++ ((s.resumeSlots e.2).filter (fun g => gs.contains g && !e.2.marks.contains g)) })
    else e) })) s
/-- A tile of the partition that can take a kernel of a kind (spec/02 R43, spec/05 Table 5.11). -/
def State.tileTakes (s : State) (part gt kind : Nat) : Bool :=
  (s.tile gt).part == some part && testN (vget (s.part part).tiles (dieOf gt)).toNat (localOf gt) && (s.die (dieOf gt)).good && !s.lostDie (dieOf gt) &&
    (match kind with
     | 1 => isMTile gt
     | 2 => isSTile gt
     | _ => isMTile gt || isSTile gt)
/-- A slot free for a new task. -/
def State.slotFree (s : State) (g : Nat) : Bool := (s.slot g).state == .empty && !s.marked g
/-- A tile can take a task in no gang (spec/14 R310): its slot. -/
def State.singleSlot (s : State) (r : TaskRec) (kidx : Nat) (k : Kernel) (gt : Nat) : Option Nat :=
  let rs := match s.recordTemplate r with
    | some t => t.ranges r.node k.inbox gt
    | none => []
  let whole := !k.fixed || [0, 1, 2, 3].all (fun i => s.slotFree (gt * 4 + i))
  if s.tileTakes r.part gt k.kind && s.codeFits gt [(r.part, r.image, kidx)] && s.grantFits gt k none && s.rangesFree gt rs && whole &&
      s.inboxFree gt k then
    ([0, 1, 2, 3].find? (fun i => s.slotFree (gt * 4 + i))).map (fun i => gt * 4 + i)
  else none
/-- Slots of a tile that hold tasks or are reserved. -/
def State.occupied (s : State) (gt : Nat) : Nat := ([0, 1, 2, 3].filter (fun i => (s.slot (gt * 4 + i)).state != .empty)).length
/-- The dies in the order in which the placer searches them: home, the two adjacent ones, the diagonal one (spec/14 R310). -/
def dieOrder (d : Nat) : List Nat :=
  let near := if (d ^^^ 1) < (d ^^^ 2) then [d ^^^ 1, d ^^^ 2] else [d ^^^ 2, d ^^^ 1]
  d :: near ++ [d ^^^ 3]
/-- The task-hosting tiles of a die. -/
def tilesOfDie (d : Nat) : List Nat := ((List.range 48) ++ [52, 53, 54, 55]).map (fun l => d * 64 + l)
/-- The best of the tiles of a die that can take a task: code present first, then fewest occupied slots, then the lower local
ID. -/
def State.bestTile (s : State) (r : TaskRec) (kidx : Nat) (k : Kernel) (d : Nat) : Option Nat :=
  let fits := (tilesOfDie d).filter (fun gt => (s.singleSlot r kidx k gt).isSome)
  let key := fun (gt : Nat) => 8 * bit (!(s.tile gt).code.contains (r.part, r.image, kidx)) + s.occupied gt
  fits.foldl (fun best gt => match best with
    | none => some gt
    | some b => if key gt < key b then some gt else best) none
/-- The slot in which the placer puts a task in no gang (spec/14 R310). -/
def State.findSingle (s : State) (home : Nat) (r : TaskRec) : Option Nat :=
  (s.kernelRec r).bind (fun k =>
    ((dieOrder home).findSome? (fun d => s.bestTile r k.1 k.2 d)).bind (fun gt => s.singleSlot r k.1 k.2 gt))

/-- The pattern byte of a position of a gang: slot mask in bits 7:4, kind code in bits 3:0 (spec/05 Table 5.14). -/
def GangShape.at_ (q : GangShape) (dx dy : Nat) : Nat :=
  if dx < q.w ∧ dy < q.h then (q.pattern.getD (dy * q.w + dx) 2).toNat else 2
/-- A position is used (spec/02 Table 2.8). -/
def GangShape.used (q : GangShape) (dx dy : Nat) : Bool := decide (q.at_ dx dy % 16 < 2) && decide (16 ≤ q.at_ dx dy)
/-- The positions of a gang, row by row. -/
def GangShape.positions (q : GangShape) : List (Nat × Nat) :=
  (List.range q.h).flatMap (fun y => (List.range q.w).map (fun x => (x, y)))
/-- The slots that a footprint at a base holds: those of its masks, or every slot of its used tiles when it is FIXED (spec/02
R37, R42). -/
def GangShape.slots (q : GangShape) (col0 row0 : Nat) (fixed : Bool) : List Nat :=
  (q.positions.filter (fun p => q.used p.1 p.2)).flatMap (fun p =>
    ([0, 1, 2, 3].filter (fun i => fixed || testN (q.at_ p.1 p.2) (4 + i))).map (fun i =>
      tileAt (col0 + p.1) (row0 + p.2) * 4 + i))
/-- The listed members of a gang of a template: node indices. -/
def Template.members (t : Template) (gidx : Nat) : List Nat :=
  (List.range t.nodes.length).filter (fun n => match t.nodes[n]? with
    | some x => x.gang == some gidx && !x.spawnOnly
    | none => false)
/-- The code that every used tile of a gang's footprint must hold (spec/14 R310): that of the kernels of its listed members (log 69). -/
def Template.gangCode (t : Template) (part image gidx : Nat) : List (Nat × Nat × Nat) :=
  ((t.members gidx).filterMap (fun n => (t.nodes[n]?).map (fun x => (part, image, x.kernel)))).dedup
/-- The members of a gang at a position: node index, node, kernel index and kernel. -/
def State.membersAt (s : State) (part image : Nat) (t : Template) (gidx dx dy : Nat) : List (Nat × Node × Nat × Kernel) :=
  (t.members gidx).filterMap (fun n => match t.nodes[n]? with
    | some x => if x.dx == dx && x.dy == dy then (s.kernel part image x.kernel).map (fun k => (n, x, x.kernel, k)) else none
    | none => none)
/-- The members at one tile do not want one another's resources unless both share them. -/
def compatible : List Kernel → Bool
  | [] => true
  | k :: rest => rest.all (fun q => (k.use.meet q.use).minus (k.share.meet q.share) == Grant.none) && compatible rest
/-- A used position of a footprint at a tile has its slots and declared resources free (spec/02 R44). -/
def State.positionFits (s : State) (r : TaskRec) (t : Template) (gidx : Nat) (q : GangShape) (fixed : Bool) (dx dy gt : Nat) : Bool :=
  let ms := s.membersAt r.part r.image t gidx dx dy
  let ks := ms.map (fun m => m.2.2.2)
  let rs := ms.flatMap (fun m => t.ranges m.1 m.2.2.2.inbox gt)
  s.tileTakes r.part gt (if q.at_ dx dy % 16 = 1 then 2 else 1) &&
    [0, 1, 2, 3].all (fun i => !(fixed || testN (q.at_ dx dy) (4 + i)) || s.slotFree (gt * 4 + i)) &&
    ks.all (fun k => s.grantFits gt k none) && compatible ks && s.codeFits gt (t.gangCode r.part r.image gidx) &&
    s.rangesFree gt rs && (!ks.any (·.inbox) || ((s.tile gt).inbox.owner.isNone && decide ((ks.filter (·.inbox)).length ≤ 1)))
/-- A position's kind matches its code (spec/02 Table 2.8). -/
def kindMatches (code gt : Nat) : Bool :=
  match code with
  | 0 | 2 => isMTile gt
  | 1 | 3 => isSTile gt
  | _ => decide (48 ≤ localOf gt ∧ localOf gt < 52)
/-- Groups that an owner's valid permits let a partition bind in transit on a link of one of its tiles (spec/17 R362). -/
def State.permitGroups (s : State) (owner part gtile dir : Nat) : Nat :=
  ((s.part owner).permits.toList.filter (fun v => testW v 63 && bits v 35 32 == part && bits v 17 0 == s.mgmt.package * 256 + gtile &&
    testW v (18 + dir))).foldl (fun m v => max m (bits v 28 24)) 0
/-- The groups that gangs of a partition hold on a link. -/
def State.groupsHeld (s : State) (part : Nat) (l : Nat × Nat) : Nat :=
  ((s.gangs.filter (fun e => e.2.part == part)).map (fun e =>
    match s.gangTemplate e.2 with
    | some t => (((t.lanes e.2.gidx e.2.tile).flatMap (fun p => pathLinks p.1 p.2)).filter (· == l)).length
    | none => 0)).sum
/-- Every link of the paths of a gang's lane channels still has a free bindable group (spec/16 R339), and where the link is of
a tile of another partition, a permit allows it (spec/17 R362). -/
def State.lanesFree (s : State) (part : Nat) (paths : List (Nat × Nat)) : Bool :=
  let links := paths.flatMap (fun p => pathLinks p.1 p.2)
  links.all (fun l =>
    let want := (links.filter (· == l)).length
    decide (vget (s.tile l.1).groups l.2 + want ≤ 24) &&
      (match (s.tile l.1).part with
       | some o => o == part || decide (s.groupsHeld part l + want ≤ s.permitGroups o part l.1 l.2)
       | none => !(isMTile l.1 || isSTile l.1)))
/-- A base takes a gang (spec/02 R44, spec/14 R310). -/
def State.baseFits (s : State) (r : TaskRec) (t : Template) (gidx : Nat) (q : GangShape) (fixed : Bool) (col0 row0 : Nat) : Bool :=
  decide (col0 + q.w ≤ 16 ∧ row0 + q.h ≤ 14) &&
    (!q.lockstep || (col0 / 8 == (col0 + q.w - 1) / 8 && row0 / 7 == (row0 + q.h - 1) / 7)) &&
    q.positions.all (fun p =>
      let gt := tileAt (col0 + p.1) (row0 + p.2)
      kindMatches (q.at_ p.1 p.2 % 16) gt && (!q.used p.1 p.2 || s.positionFits r t gidx q fixed p.1 p.2 gt)) &&
    s.lanesFree r.part (t.lanes gidx (fun dx dy => tileAt (col0 + dx) (row0 + dy)))
/-- The kernels of a gang declare FIXED (spec/05 R124: they agree). -/
def State.gangFixed (s : State) (part image : Nat) (t : Template) (gidx : Nat) : Bool :=
  match (t.members gidx).head? with
  | some n => (match t.nodes[n]? with
    | some x => (match s.kernel part image x.kernel with
      | some k => k.fixed
      | none => false)
    | none => false)
  | none => false
/-- The base at which the placer puts a gang (spec/14 R310): from the home die's first position on, in increasing row, then
column, round the whole grid. -/
def State.findGang (s : State) (home : Nat) (r : TaskRec) : Option (Nat × Nat) :=
  match s.recordTemplate r, r.gidx with
  | some t, some gi =>
    (t.gangs[gi]?).bind (fun q =>
      let fixed := s.gangFixed r.part r.image t gi
      let start := gridRow (home * 64) * 16 + gridCol (home * 64)
      ((List.range 224).map (fun i => ((start + i) % 224 % 16, (start + i) % 224 / 16))).find? (fun b => s.baseFits r t gi q fixed b.1 b.2))
  | _, _ => none

/-- The endpoint of this module that is one end of an instance's channel. -/
def State.findEnd (s : State) (part serial chan : Nat) (side : Side) : Option (Nat × Nat) :=
  s.tiles.findSome? (fun e =>
    if e.2.part == some part then
      ((List.range 16).find? (fun c => (vget e.2.chans c).side == side && (vget e.2.chans c).serial == serial &&
        (vget e.2.chans c).chan == chan)).map (fun c => (e.1, c))
    else none)
/-- One end of a channel bound at a tile (spec/02 R48, Table 2.3); when the other end is bound too they learn of each other,
and a close that was held is delivered. -/
def State.bindEnd (s : State) (r : TaskRec) (idx : Nat) (c : Channel) (sender : Bool) (gt slot : Nat) (lane : Bool) : State :=
  let me := if sender then c.sch.val else c.rch.val
  let inst := s.instanceOf r.part r.serial
  let broken := sender && (match inst with
    | some i => i.broken.contains idx
    | none => false)
  let other := s.findEnd r.part r.serial idx (if sender then .receiver else .sender)
  let far := inst.bind (fun i => (i.ends.find? (fun e => e.1 == idx && e.2.1 != sender)).map (·.2.2))
  let peer := (other.map (fun o => (s.mgmt.package, o.1, o.2))).or far
  let s := s.onChan gt me (fun _ =>
    { Endpoint.unbound with
      side := if sender then .sender else .receiver, state := if broken then .broken else .opened, manual := c.manual, depth := c.depth
      entryBeats := c.beats, qoff := c.qoff, peer := peer, chan := idx, allowance := if sender then c.depth else 0, lane := lane
      serial := r.serial })
  let s := match other with
    | some o => s.onChan o.1 o.2 (fun e => { e with peer := some (s.mgmt.package, gt, me), lane := lane })
    | none => match inst with
      | some i => s.tellEnd r (i.nodes.getD (if sender then c.rnode else c.snode) 0) .bound idx (bit sender + 2 * gt + 2048 * me)
      | none => s
  if sender then s
  else
    let s := s.onTile gt (fun t => { t with reserved := t.reserved ++ [(slot, c.qoff, (c.depth + 1) * c.beats * 64)] })
    match inst with
    | some i =>
      let held := i.closes.filter (fun e => e.1 == idx)
      let s := held.foldl (fun s e => s.post (.tokenArrival gt me { kind := e.2, bytes := [], tail := true, chan := some (r.serial, idx) })) s
      s.onInstance r.part r.serial (fun i => { i with closes := i.closes.filter (fun e => e.1 != idx) })
    | none => s
/-- The channels of a task's node bound at its tile, unless a member of its gang has bound them there before (spec/02 Table
2.3). -/
def State.bindChannels (s : State) (r : TaskRec) (gt slot : Nat) (fresh : Grant) : State :=
  match s.recordTemplate r with
  | none => s
  | some t =>
    (List.range t.channels.length).foldl (fun s i =>
      match t.channels[i]? with
      | none => s
      | some c =>
        let lane := match t.nodes[c.snode]?, t.nodes[c.rnode]? with
          | some a, some b => a.gang.isSome && a.gang == b.gang && (match r.gang with
              | some k => (match Assoc.find s.gangs k with
                | some q => dieOf (q.tile a.dx a.dy) == dieOf (q.tile b.dx b.dy)
                | none => false)
              | none => false)
          | _, _ => false
        let s := if c.snode == r.node && testN fresh.ch.toNat c.sch.val && (s.chan gt c.sch.val).side == .unbound &&
            (s.findEnd r.part r.serial i .sender).isNone then
            s.bindEnd r i c true gt slot lane else s
        if c.rnode == r.node && testN fresh.ch.toNat c.rch.val && (s.chan gt c.rch.val).side == .unbound &&
            (s.findEnd r.part r.serial i .receiver).isNone then
          s.bindEnd r i c false gt slot lane else s) s

/-- Resources given to a slot in the state of spec/02 Table 2.3: counters 0, accumulators cleared, FIFOs empty, latches zero,
generators idle, endpoints unbound until their channels are bound. -/
def State.initResources (s : State) (gt : Nat) (f : Grant) : State :=
  let s := (setBits 64 f.acc.toNat).foldl (fun s a => s.accClear gt a 0) s
  s.onTile gt (fun t => { t with
    k := Vector.ofFn (fun i => if testN f.k.toNat i.val then 0 else t.k.get i)
    fifos := Vector.ofFn (fun i => if testN f.qa.toNat i.val then [] else t.fifos.get i)
    latches := Vector.ofFn (fun i => if testN f.bl.toNat i.val then { image := [], poison := false } else t.latches.get i)
    gens := Vector.ofFn (fun i => if testN f.ag.toNat i.val then { queue := [], ticket := 0 } else t.gens.get i)
    chans := Vector.ofFn (fun i => if testN f.ch.toNat i.val then Endpoint.unbound else t.chans.get i) })
/-- Resources of a kernel that a placement finds in the state a member of its gang left them in (spec/02 Table 2.3). -/
def State.alreadyShared (s : State) (gt : Nat) (k : Kernel) (gang : Option Nat) : Grant :=
  match gang.bind (fun q => Assoc.find s.gangs q) with
  | some q => k.share.meet (Assoc.get Grant.none q.granted gt)
  | none => Grant.none
/-- The slot of a task that has been granted its resources: RESERVED until it starts (spec/02 Table 2.3). -/
def Slot.granted (t : Slot) (r : TaskRec) (h : Word) (kidx : Nat) (k : Kernel) (levels : Vector Byte 8) (generations : Nat) : Slot :=
  { Slot.reset with
    state := .reserved, trap := t.trap, tscratch := t.tscratch, epc := t.epc, ecause := t.ecause, etval := t.etval
    main := { Flow.zero with pc := k.entry }, prec := k.precinit, seed := r.seed, instance_ := wordN (r.part * 2 ^ 32 + r.serial)
    taskid := wordN (r.node * 2 ^ 32 + r.ord.toNat), grant := k.use, levels := levels, clevel := r.clevel, part := r.part, image := r.image
    kernel := kidx, task := h, gang := r.gang, dx := r.dx, dy := r.dy, gangSyncs := generations
    status := { super := r.sys, tbank := false, khold := false, inh := false, lock := false } }
/-- A task granted a slot: its resources, code, channels and inbox (spec/01 R17, spec/02 R27). -/
def State.grantSlot (s : State) (h : Word) (g : Nat) : State :=
  match s.taskOf h with
  | none => s
  | some r =>
    match s.kernelRec r, s.recordTemplate r with
    | some (kidx, k), some t =>
      let gt := tileOfSlot g
      let shared := s.alreadyShared gt k r.gang
      let fresh := k.use.minus shared
      let s := (s.initResources gt fresh).placeCode gt (r.part, r.image, kidx)
      let s := match r.gang with
        | some q => s.onGang q (fun q => { q with granted := Assoc.set q.granted gt ((Assoc.get Grant.none q.granted gt).join k.share) })
        | none => s
      let gens := match r.gang.bind (fun q => Assoc.find s.gangs q) with
        | some q => q.generations
        | none => 0
      let s := (s.onSlot g (fun u => u.granted r h kidx k t.levels gens)).noteOccupied [g]
      let s := (s.onTask h (fun r => { r with loc := some g, marks := [], placedAt := s.cycle })).bindChannels r gt (g % 4) fresh
      if k.inbox then
        let range := if isSTile gt then (g % 4, 0x3FE000, 0x2000) else (g % 4, 0x3FF000, 0x1000)
        s.onTile gt (fun u => { u with inbox := { u.inbox with owner := some (g % 4), arrived := 0, taken := 0, msgEnds := 0 }
                                       reserved := u.reserved ++ [range] })
      else s
    | _, _ => s
/-- A task placed by itself (spec/14 R310): a FIXED kernel holds its whole tile. -/
def State.placeSingle (s : State) (h : Word) (g : Nat) : State :=
  let s := s.grantSlot h g
  match s.slotKernel g with
  | some k =>
    if k.fixed then
      let gt := tileOfSlot g
      let s := s.onTile gt (fun t => { t with fixed := true })
      ([0, 1, 2, 3].foldl (fun s i => s.onSlot (gt * 4 + i) (fun t => if t.state == .empty then { t with state := .reserved } else t)) s).noteOccupied
        ([0, 1, 2, 3].map (gt * 4 + ·))
    else s
  | none => s
/-- A gang placed at a base (spec/02 R42): its footprint is held, and each listed member that still lives is granted its slot. -/
def State.placeGang (s : State) (h : Word) (r : TaskRec) (t : Template) (gi : Nat) (q : GangShape) (col0 row0 : Nat) : State :=
  let fixed := s.gangFixed r.part r.image t gi
  let slots := q.slots col0 row0 fixed
  let (id, s) := s.fresh
  let gang : Gang :=
    { part := r.part, image := r.image, tmpl := r.tmpl, gidx := gi, leader := h, col0 := col0, row0 := row0, lockstep := q.lockstep
      fixed := fixed, slots := slots, granted := [], ended := 0, generations := 0, clock := 0, left := [], stalled := false, resumeAt := none }
  let s := { s with gangs := Assoc.set s.gangs id gang }
  let s := (slots.foldl (fun s g => s.onSlot g (fun u => { u with state := .reserved, gang := some id })) s).noteOccupied slots
  let s := (slots.map tileOfSlot).dedup.foldl (fun s gt => (t.gangCode r.part r.image gi).foldl (fun s c => s.placeCode gt c) s) s
  let s := if fixed then slots.foldl (fun s g => s.onTile (tileOfSlot g) (fun u => { u with fixed := true })) s else s
  let s := s.bindLanes (t.lanes gi gang.tile) true
  match s.instanceOf r.part r.serial with
  | none => s
  | some i =>
    (t.members gi).foldl (fun s n =>
      match t.nodes[n]? with
      | some x =>
        let m := i.nodes.getD n 0
        if !(match s.taskOf m with
          | some q => q.state == .waiting || q.state == .ready
          | none => false) then s
        else (s.onTask m (fun r => { r with gang := some id, dx := x.dx, dy := x.dy, pslot := x.slot })).grantSlot m
          (gang.tile x.dx x.dy * 4 + x.slot)
      | none => s) s

end Sys2Proof.Machine
end

