-- ==== Sys2Proof/Machine/Tasks.lean ====
section
/-! DEFINITION. Tasks, scopes, cancellation and barriers (spec/10 R227 to R249; spec/02 R31 to R34, R57). -/

namespace Sys2Proof.Machine

/-- An instruction of R228 sends its request, which an event carries out, and retires (spec/10 R228). -/
def State.ask (s : State) (d : Reg) (kind : ReqKind) (addr : Word) (rel : Bool) (event : Nat → Instr) : Issue :=
  if !s.portReady s.cur rel then s.waitPerformed rel
  else
    let r := s.accept s.cur kind addr none (some d) false rel 0
    .done ((r.2.retire s.cur id).post (event r.1))
/-- The gang cycle that a gang's clock shows, 0 for a task in no gang. -/
def State.gangClock (s : State) (t : Slot) : Nat :=
  match s.gangOf t with
  | some q => q.clock
  | none => 0
/-- The checks of an address in the issuing tile's own scratchpad (spec/10 R230): a cause, or the offset. -/
def State.ownBlock (s : State) (g : Nat) (va : Word) (n align : Nat) : Except Nat Nat :=
  match s.ownScratch g va 1 with
  | none => .error 4
  | some off => if va.toNat % align ≠ 0 then .error 5 else if off + n ≤ 0x400000 then .ok off else .error 4

/-- The reserved fields of a spawn block (spec/10 Table 10.4). -/
def spawnReserved (bs : Bytes) : Bool :=
  (byteAt bs 2).toNat / 2 != 0 || (byteAt bs 4).toNat / 4 != 0 || field bs 5 3 != 0 || field bs 14 2 != 0 || field bs 20 4 != 0
/-- SPAWN (spec/10 R230): the block at X[a] and its argument image are read, and the request goes to the Tun. A release at
Level(c) (R234). -/
def execSpawn (d a : Reg) (s : State) : Host.Outcome State Fault Refusal :=
  s.issue { engine := true } [a, d] (fun t =>
    let gt := tileOfSlot s.cur
    match s.ownBlock s.cur (t.x a) 64 64 with
    | .error c => .trap c (t.x a)
    | .ok off =>
      if !s.portReady s.cur true then s.waitPerformed true
      else if s.poisoned (sramKey gt off) 64 then .wait (s.consumePoison s.cur)
      else
        let bs := s.readMem (sramKey gt off) 64
        let arg := fieldW bs 24 8
        if spawnReserved bs then s.trapWord t 1
        else if arg = 0 then s.ask d (.spawn bs none) (wordN (s.gangClock t)) true .spawnRequest
        else match s.ownBlock s.cur arg 256 64 with
          | .error c => .trap c arg
          | .ok o =>
            if s.poisoned (sramKey gt o) 256 then .wait (s.consumePoison s.cur)
            else s.ask d (.spawn bs (some (s.readMem (sramKey gt o) 256))) (wordN (s.gangClock t)) true .spawnRequest)
/-- The positions of SPAWN.TREE (spec/10 R232): each slot of the mask of each used position of a gang. -/
def State.treeSlots (s : State) (q : Gang) : List Nat :=
  match (s.gangTemplate q).bind (fun t => t.gangs[q.gidx]?) with
  | some shape => shape.slots q.col0 q.row0 false
  | none => []
/-- SPAWN.TREE (spec/10 R232). -/
def execSpawnTree (d a b : Reg) (s : State) : Host.Outcome State Fault Refusal :=
  s.issue { engine := true } [a, b, d] (fun t =>
    match s.gangOf t, s.slotKernel s.cur with
    | some q, some k =>
      if (t.x a).toNat % 4 ≠ 0 ∨ 4 * k.code.length ≤ (t.x a).toNat then s.trapWord t 1
      else s.ask d (.spawnTree (t.x a).toNat (t.x b) 0 0 0 (s.treeSlots q)) (wordN q.clock) true .spawnTreeDelivery
    | _, _ => s.trapWord t 1)
/-- DEC (spec/10 R233): the request goes to the Tun that owns the record; a package that the pod does not have holds no
record. -/
def execDec (d a : Reg) (s : State) : Host.Outcome State Fault Refusal :=
  s.issue { engine := true } [a, d] (fun t =>
    let h := t.x a
    let pkg := bits h 29 20
    let owner := s.taskOf t.task |>.map (fun r => (r.part, r.serial))
    if pkg = s.mgmt.package || !Config.configuredPackage pkg then
      s.ask d (.dec h) 0 true (fun id =>
        .decrementMessage { target := h, mark := 0, epos := 0xFF, src := s.slotSource s.cur, owner := owner, reply := some id, told := true })
    else if !s.portReady s.cur true then s.waitPerformed true
    else
      let r := s.accept s.cur (.dec h) 0 none (some d) false true 0
      .done (((r.2.retire s.cur id).onRequest r.1 (fun q => { q with phase := .left, remote := true })).sendPacket
        (ctlPacket 0x06 (s.slotSource s.cur) t.part pkg 0 h (toBytes 8 t.instance_.toNat))))
/-- TASK.INS (spec/10 R236): the INSTAT of the task. -/
def execTaskIns (d : Reg) (s : State) : Host.Outcome State Fault Refusal :=
  s.issue { engine := true } [d] (fun t =>
    .done (s.retire s.cur (fun u => u.setX d (match s.taskOf t.task with
      | some r => r.instat
      | none => 0))))

/-- The scope that an instruction of a task names: 0 is the issuer's own (spec/10 R229). -/
def State.namedScope (s : State) (part own : Nat) (h : Word) : Option Nat := if h = 0 then some own else s.scopeOf part h
/-- The scope named by a task of a scope: its key, or the failure code (spec/10 R238): STALE, or NOTDESC unless the request
was issued in SUPER mode (spec/13 R266). -/
def State.reachScope (s : State) (part own : Nat) (super : Bool) (h : Word) : Except Nat Nat :=
  match s.namedScope part own h with
  | none => .error 1
  | some k => if super || s.descends k own then .ok k else .error 2
/-- SCOPE.OPEN (spec/10 R237). -/
def execScopeOpen (d a : Reg) (s : State) : Host.Outcome State Fault Refusal :=
  s.issue { engine := true } [a, d] (fun t => s.ask d (.scopeOpen (t.x a)) 0 false .scopeRequest)
/-- SCOPE.ID (spec/10 R237). -/
def execScopeId (d a : Reg) (s : State) : Host.Outcome State Fault Refusal :=
  s.issue { engine := true } [a, d] (fun t => s.ask d (.scopeId (t.x a)) 0 false .scopeRequest)
/-- CANCEL (spec/10 R238): the record address is checked as a 64-byte store; kK is charged at issue. -/
def execCancel (d a b : Reg) (k : CTag) (s : State) : Host.Outcome State Fault Refusal :=
  s.issue { engine := true } [a, b, d] (fun t =>
    let gt := tileOfSlot s.cur
    let full := match k with
      | some k => s.counter gt k.val == 65535
      | none => false
    if !t.hasTag k then s.trapWord t 3
    else match (if t.x b = 0 then .ok (.peer 0) else s.checkAccess s.cur .write 64 (t.x b) : Checked) with
      | .trap c => .trap c (t.x b)
      | .wait => .wait (s.askHome gt t.part (t.x b) (slotAsker s.cur))
      | .ok _ =>
        if full || !s.portReady s.cur false then .wait s
        else (s.charge gt k).ask d (.cancel (t.x a) (t.x b) k) 0 false .cancelRequest)
/-- CANCEL.WAIT (spec/10 R239); in a lockstep gang it may have waited already and found its answer (spec/02 R47). -/
def execCancelWait (d a : Reg) (s : State) : Host.Outcome State Fault Refusal :=
  s.issue { engine := true, noHandler := true } [a, d] (fun t =>
    match t.wait, s.taskOf t.task with
    | some (.settled _ v), _ => .done (s.retire s.cur (fun t => { t with wait := none }.setX d v))
    | _, none => .done (s.retire s.cur (fun t => t.setX d (failure 1)))
    | _, some r =>
      if t.x a = 0 then .done (s.retire s.cur (fun t => t.setX d (failure 3)))
      else match s.reachScope t.part r.scope t.status.super (t.x a) with
        | .error c => .done (s.retire s.cur (fun t => t.setX d (failure c)))
        | .ok k =>
          if k = r.scope then .done (s.retire s.cur (fun t => t.setX d (failure 3)))
          else .done (s.block s.cur (.scope d k)))
/-- KILL.HOLD (spec/10 R240): opens a region of 4,096 cycles. -/
def execKillHold (s : State) : Host.Outcome State Fault Refusal :=
  s.issue { engine := true } [] (fun t =>
    if t.hold.isSome then s.trapWord t 1
    else
      let now := if s.inLockstep t then s.gangClock t else s.cycle
      .done ((s.retire s.cur (fun t => { t with hold := some (now + 4096), expired := false })).post (.killHoldExpiry s.cur)))
/-- KILL.OPEN (spec/10 R240). -/
def execKillOpen (d : Reg) (s : State) : Host.Outcome State Fault Refusal :=
  s.issue { engine := true } [d] (fun t =>
    if t.hold.isSome then .done (s.retire s.cur (fun t => { t with hold := none }.setX d 0))
    else if t.expired then .done (s.retire s.cur (fun t => { t with expired := false }.setX d 1))
    else s.trapWord t 1)

/-- The checks of a barrier word's address (spec/10 R247): a cause, if any. -/
def State.barrierCause (s : State) (part : Nat) (va : Word) : Option Nat :=
  match classify va with
  | .window pkg gt off =>
    if !((pkg == s.mgmt.package || Config.configuredPackage pkg) && (isMTile gt || isSTile gt) && s.ownsTile part pkg gt &&
        decide (off < 0x400000)) then some 4
    else if va.toNat % 16 ≠ 0 then some 5
    else none
  | _ => some 4
/-- A barrier request checked and sent (spec/10 R247). -/
def State.askBarrier (s : State) (d a : Reg) (kind : ReqKind) (rel : Bool) (t : Slot) : Issue :=
  match s.barrierCause t.part (t.x a) with
  | some c => .trap c (t.x a)
  | none => s.ask d kind (t.x a) rel .barrierRequest
/-- BAR.JOIN (spec/10 R247). -/
def execBarJoin (d a : Reg) (s : State) : Host.Outcome State Fault Refusal :=
  s.issue { engine := true } [a, d] (s.askBarrier d a .barJoin false)
/-- BAR.ARRIVE (spec/10 R247): a release. -/
def execBarArrive (d a : Reg) (s : State) : Host.Outcome State Fault Refusal :=
  s.issue { engine := true, noHandler := true } [a, d] (s.askBarrier d a .barArrive true)
/-- BAR.LEAVE (spec/10 R247): it may arrive, as BAR.ARRIVE does. -/
def execBarLeave (d a : Reg) (s : State) : Host.Outcome State Fault Refusal :=
  s.issue { engine := true } [a, d] (s.askBarrier d a .barLeave true)
/-- BAR.WAIT (spec/10 R247): BLOCKED until PHASE ≠ Bits(X[b], 15, 0). -/
def execBarWait (d a b : Reg) (s : State) : Host.Outcome State Fault Refusal :=
  s.issue { engine := true, noHandler := true } [a, b, d] (fun t =>
    match s.barrierCause t.part (t.x a) with
    | some c => .trap c (t.x a)
    | none => if s.acquirePending s.cur then .wait s else .done (s.block s.cur (.barrier d (t.x a) ((t.x b).setWidth 16))))
/-- The GANG.SYNC counts of the members of a gang: its tasks in PLACING, RUNNING and PREEMPTED (spec/10 R249), which a saved task is that waits
posted until it is placed. -/
def State.syncCounts (s : State) (k : Nat) : List Nat :=
  [0, 1, 2, 3].flatMap (fun d => (s.die d).tun.filterMap (fun e =>
    if e.2.gang != some k then none
    else match e.2.state, e.2.loc with
      | .placing, some g => some (s.slot g).gangSyncs
      | .running, some g => some (s.slot g).gangSyncs
      | .preempted, _ => some e.2.syncs
      | .ready, _ => if e.2.saved = 0 then none else some e.2.syncs
      | _, _ => none))
/-- The generations that a gang has completed (spec/10 R249): the least count of its members. -/
def State.gangAdvance (s : State) (k : Nat) : State :=
  match s.syncCounts k with
  | [] => s
  | c :: cs => s.onGang k (fun q => { q with generations := max q.generations (cs.foldl min c) })
/-- GANG.SYNC (spec/10 R249): releases and acquires at GANG; a task in no gang completes at once. -/
def execGangSync (d : Reg) (s : State) : Host.Outcome State Fault Refusal :=
  s.issue { engine := true, noHandler := true } [d] (fun t =>
    if !s.accessesPerformed s.cur || s.acquirePending s.cur then s.waitPerformed true
    else match t.gang with
      | none => .done (s.retire s.cur (fun t => t.setX d 0))
      | some k => .done ((s.block s.cur (.gang d (t.gangSyncs + 1))).onSlot s.cur (fun t => { t with gangSyncs := t.gangSyncs + 1 })
          |>.gangAdvance k))
/-- END (spec/10 R235 steps 1 and 2): a region closes, and the slot is BLOCKED until its work is complete. -/
def execEndTask (a : Reg) (s : State) : Host.Outcome State Fault Refusal :=
  s.issue { engine := true, noHandler := true } [a] (fun t =>
    .done ((s.onSlot s.cur (fun t => { t with hold := none, expired := false })).block s.cur (.ending ((t.x a).setWidth 8))))

/-- A slot of a gang's footprint to which a SPAWN may bring a task: RESERVED and empty (spec/10 R230). -/
def State.gangSlot (s : State) (k : Nat) (dx dy slot : Nat) : Option Nat :=
  match Assoc.find s.gangs k with
  | none => none
  | some q =>
    match (s.gangTemplate q).bind (fun t => t.gangs[q.gidx]?) with
    | none => none
    | some shape =>
      let g := q.tile dx dy * 4 + slot
      if shape.used dx dy && (s.slot g).state == .reserved && (s.slot g).task == 0 then some g else none
/-- The handles SUCC0 to SUCC3 of a spawn block. -/
def spawnSucc (bs : Bytes) : List Word :=
  [fieldW bs 32 8, fieldW bs 40 8, fieldW bs 48 8, fieldW bs 56 8]
/-- The record of a task that a SPAWN creates (spec/10 R230; spec/14 R298, R305). -/
def State.spawnedRecord (s : State) (r : TaskRec) (n : Node) (bs : Bytes) (scope : Nat) : TaskRec :=
  let succ := spawnSucc bs
  let far := (succ.map (fun h => match s.taskOf h with
    | some q => q.dist
    | none => 0)).foldl max 0
  { TaskRec.free with
    state := .waiting, spawned := true, sys := r.sys, count := field bs 12 2, clevel := n.clevel, cls := r.cls, scope := scope, cost := n.cost
    dist := min (n.cost + far) (2 ^ 32 - 1), serial := r.serial, ord := BitVec.ofNat 32 (field bs 8 4), node := field bs 0 2, queue := r.queue
    seed := mix (r.seed ^^^ n.seed), part := r.part, image := r.image, tmpl := r.tmpl, succ := succ }
/-- SUCC handles entered as expected decrements of their targets (spec/17 R376). -/
def State.expect (s : State) (part : Nat) (succ : List Word) (die : Nat) : State :=
  succ.foldl (fun s h => if h = 0 then s else if bits h 29 20 ≠ s.mgmt.package then s.tell part [bits h 29 20] .expect [h.toNat] else
    s.onTask h (fun r => { r with expected := vset r.expected die (vget r.expected die + 1) })) s
/-- A new task that is DEAD from birth, its scope being CANCELLING (spec/02 R34; spec/10 R230, R232). -/
def State.stillborn (s : State) (h : Word) (src : Nat) : State :=
  match s.taskOf h with
  | some r => (match s.scope r.scope with
    | some q => s.buryTask h false q.owner (q.cause + 1) src
    | none => s)
  | none => s
/-- The argument image of a new record, in its argument slot (spec/14 R297). -/
def State.writeArgs (s : State) (h : Word) (bs : Bytes) : State :=
  s.writeMem (dramKey (handleDie h) (Config.argBase + 256 * handleEntry h)) (padTo 256 bs)
/-- An ACTIVE scope that this module has reported empty to the module that decides on it takes no new task or child here (log 77). -/
def State.reported (s : State) (key : Nat) : Bool :=
  match s.scope key with
  | some r => r.told && r.state == .active
  | none => false
/-- What a SPAWN request brings about (spec/10 R230): the reply and the state. -/
def State.spawn (s : State) (q : Request) (r : TaskRec) (bs : Bytes) (args : Option Bytes) : Word × State :=
  let node := field bs 0 2
  let ingang := testN (byteAt bs 2).toNat 0
  let dx := (byteAt bs 3).toNat % 16
  let dy := (byteAt bs 3).toNat / 16
  let pslot := (byteAt bs 4).toNat % 4
  match (s.recordTemplate r).bind (fun t => t.nodes[node]?) with
  | none => (failure 7, s)
  | some n =>
    if !n.spawnOnly then (failure 7, s)
    else match s.reachScope r.part r.scope false (wordN (field bs 16 4)) with
      | .error c => (failure c, s)
      | .ok sc =>
        if s.scopeState sc == .closed || s.scopeState sc == .cancelled || s.reported sc then (failure 6, s)
        else
          let place := if ingang && field bs 12 2 = 0 then r.gang.bind (fun k => s.gangSlot k dx dy pslot) else none
          if ingang && place.isNone then (failure 11, s)
          else
            let die := match place with
              | some g => dieOf (tileOfSlot g)
              | none => q.src % 4096 / 16 / 64
            let rec_ := s.spawnedRecord r n bs sc
            let rec_ := if ingang then { rec_ with
                gang := r.gang, gidx := r.gidx, dx := dx, dy := dy, pslot := pslot
                chosenAt := if (match r.gang.bind (fun k => Assoc.find s.gangs k) with
                  | some gang => gang.lockstep
                  | none => false) then q.addr.toNat + 64 else 0 } else rec_
            match s.addTask die rec_ with
            | none => (failure 4, s)
            | some (h, s) =>
              let image := match args with
                | some a => a
                | none => (match s.instanceOf r.part r.serial with
                  | some i => i.args.getD node []
                  | none => [])
              let s := (s.writeArgs h image).expect r.part rec_.succ die
              let pairs := match s.recordTemplate r with
                | some t => if args.isSome then [] else t.pairs node image
                | none => []
              let s := s.onTask h (fun r => { r with prefetches := pairs })
              if s.scopeState sc == .cancelling then (h, s.stillborn h q.src)
              else if rec_.count ≠ 0 then (h, s)
              else if ingang then
                (h, (s.onTask h (fun r => { r with state := .ready, ready := .queued, tpost := s.now })).post (.place die r.part))
              else (h, s.postTask h)
/-- SPAWN_REQUEST (spec/10 R230): the Tun creates the record, or fails the request. -/
def execSpawnRequest (id : Nat) (s : State) : Host.Outcome State Fault Refusal :=
  .next (match s.request id with
    | none => s
    | some q =>
      match q.kind, s.taskOf q.task with
      | .spawn bs args, some r => (s.spawn q r bs args).2.answer id (s.spawn q r bs args).1
      | .spawn _ _, none => s.answer id (failure 1)
      | _, _ => s)

/-- One slot that SPAWN.TREE reaches (spec/10 R232): started, busy or refused. -/
def State.treeSlot (s : State) (q : Request) (r : TaskRec) (k : Nat) (pc : Nat) (arg : Word) (g : Nat) :
    Nat × Nat × Nat × State :=
  let gt := tileOfSlot g
  match s.kernelRec r, s.nodeOf r, Assoc.find s.gangs k with
  | some (_, kernel), some n, some gang =>
    if (s.slot g).task != 0 then (0, 1, 0, s)
    else if !(s.tileTakes r.part gt kernel.kind && s.grantFits gt kernel (some k) && s.inboxFree gt kernel && (s.slot g).state == .reserved) then
      (0, 0, 1, s)
    else
      let dx := gridCol gt - gang.col0
      let dy := gridRow gt - gang.row0
      let rec_ : TaskRec := { TaskRec.free with
        state := .placing, spawned := true, sys := r.sys, clevel := r.clevel, cls := r.cls, scope := r.scope, cost := n.cost, dist := n.cost
        serial := r.serial, ord := BitVec.ofNat 32 ((dy * 16 + dx) * 4 + g % 4), node := r.node, queue := r.queue, gidx := r.gidx, dx := dx
        dy := dy, pslot := g % 4, seed := mix (r.seed ^^^ n.seed), tpost := s.now, part := r.part, image := r.image, tmpl := r.tmpl
        ready := .runnable, start := some (pc, arg), gang := some k, chosenAt := if gang.lockstep then q.addr.toNat + 64 else 0 }
      match s.addTask (dieOf gt) rec_ with
      | none => (0, 0, 1, s)
      | some (h, s) =>
        if s.scopeState r.scope == .cancelling then (0, 0, 1, s.stillborn h q.src)
        else
          let zero := (s.writeArgs h (zeros 256)).grantSlot h g
          (1, 0, 0, zero.post (.taskStart (dieOf gt) (handleEntry h)))
  | _, _, _ => (0, 0, 1, s)
/-- SPAWN_TREE_DELIVERY (spec/10 R232, spec/02 R57): the request reaches its next slot along the spanning tree, or replies; it goes on when its
issuer has died (R228). -/
def execSpawnTreeDelivery (id : Nat) (s : State) : Host.Outcome State Fault Refusal :=
  .next (match s.request id with
    | none => s
    | some q =>
      match q.kind, (s.taskOf q.task).or q.issuer with
      | .spawnTree pc arg a b c (g :: left), some r =>
        (match r.gang with
         | some k =>
           let o := s.treeSlot q r k pc arg g
           (o.2.2.2.onRequest id (fun q => { q with
             phase := .left, kind := .spawnTree pc arg (a + o.1) (b + o.2.1) (c + o.2.2.1) left })).post (.spawnTreeDelivery id)
         | none => s.answer id (failure 1))
      | .spawnTree _ _ a b c _, _ => s.answer id (wordN (a + b * 2 ^ 16 + c * 2 ^ 32))
      | _, _ => s)

/-- What SCOPE.OPEN brings about (spec/10 R237). -/
def State.openScope (s : State) (q : Request) (h : Word) : Word × State :=
  match s.reachScope q.part q.scope false h with
  | .error c => (failure c, s)
  | .ok k =>
    match s.scope k with
    | none => (failure 1, s)
    | some p =>
      if p.state == .closed || p.state == .cancelled || s.reported k then (failure 6, s)
      else if 32 ≤ p.depth then (failure 5, s)
      else
        let rec_ : ScopeRec :=
          { state := p.state, gen := 0, part := q.part, serial := p.serial, die := q.src % 4096 / 16 / 64, parent := some k
            depth := p.depth + 1, sealed_ := false, opener := q.task, cause := p.cause, owner := if p.state == .active then 0 else p.owner
            tcancel := p.tcancel, counts := AckCounts.zero, acks := [] }
        match s.addScope q.part rec_ with
        | none => (failure 4, s)
        | some (key, s) => (match s.scope key with
          | some r => (scopeHandle key r, s)
          | none => (failure 4, s))
/-- What SCOPE.ID replies (spec/10 R237). -/
def State.scopeIdOf (s : State) (q : Request) (x : Word) : Word :=
  if x = 0 then (match s.scope q.scope with
    | some r => scopeHandle q.scope r
    | none => failure 1)
  else match (s.taskOf q.task).bind (fun r => s.instanceOf r.part r.serial) with
    | some i => (match i.scopes[x.toNat - 1]? with
      | some h => if (s.scopeOf q.part h).isSome then h else failure 1
      | none => failure 1)
    | none => failure 1
/-- SCOPE_REQUEST (spec/10 R237): the home of the record opens a scope, or names one. -/
def execScopeRequest (id : Nat) (s : State) : Host.Outcome State Fault Refusal :=
  .next (match s.request id with
    | none => s
    | some q =>
      match q.kind with
      | .scopeOpen h => (s.openScope q h).2.answer id (s.openScope q h).1
      | .scopeId x => s.answer id (s.scopeIdOf q x)
      | _ => s)

/-- The acknowledgement record of a scope (spec/10 Table 10.7). -/
def State.ackRecord (s : State) (key : Nat) (r : ScopeRec) (counted : Bool) (issuer : Nat) : Bytes :=
  let c := if counted then r.counts else AckCounts.zero
  let n := fun v => toBytes 4 (min v (2 ^ 32 - 1))
  toBytes 4 (scopeHandle key r).toNat ++ [BitVec.ofNat 8 (max 1 r.cause), BitVec.ofNat 8 (bit c.nested + 2 * bit c.forced + 4 * bit c.lost), 0, 0] ++
    n c.killed ++ n c.discarded ++ n c.trunc ++ n c.atoms ++ n c.dropped ++ n c.decs ++ toBytes 8 s.now.toNat ++
    toBytes 8 r.tcancel.toNat ++ toBytes 4 issuer ++ toBytes 4 r.serial ++ zeros 8
/-- A record of an acknowledgement sets out, or sets out again (spec/10 R245): its counter is uncharged, while its task still holds it, once the
record has been written, or dropped because its address fails. -/
def State.sendOwed (s : State) (key : Nat) (o : Owed) : State :=
  let done := fun (s : State) => s.unchargeTask o.ack.slot o.ack.task o.ack.k
  match s.writeAndWait o.part (s.sourceNo (o.die * 64 + 50) 0) o.ack.addr o.record (.ackDelivery key) with
  | .done s => done s
  | .failed => done (s.countDie o.die 3)
  | .sent s id => { s with owed := s.owed ++ [{ o with request := some id }] }
  | .wait s => State.defer { s with owed := s.owed ++ [{ o with request := none }] } (.ackDelivery key)
/-- The acknowledgements on their way whose records have been written, or wait for a line that the host holds. -/
def State.settleOwed (s : State) (key : Nat) : State :=
  s.owed.foldl (fun s o => match o.request with
    | none => s.sendOwed key o
    | some id => if (s.request id).isSome then { s with owed := s.owed ++ [o] } else s.unchargeTask o.ack.slot o.ack.task o.ack.k)
    { s with owed := [] }
/-- One acknowledgement delivered (spec/10 R245). -/
def State.deliverAck (s : State) (key : Nat) (r : ScopeRec) (a : Ack) : State :=
  if a.addr = 0 then s.unchargeTask a.slot a.task a.k
  else s.sendOwed key { ack := a, part := r.part, die := r.die % 4, record := s.ackRecord key r a.counted a.issuer, request := none }
/-- CANCEL at the home of the scope record (spec/10 R238). -/
def State.cancel (s : State) (q : Request) (h addr : Word) (k : KTag) : Word × State :=
  let ack : Ack := { addr := addr, slot := q.slot, task := q.task, k := k, issuer := q.src, counted := true }
  match s.reachScope q.part q.scope q.super h with
  | .error c => (failure c, s)
  | .ok key =>
    match s.scope key with
    | none => (failure 1, s)
    | some r =>
      match r.state with
      | .active => (0, (s.onScope key (fun r => { r with acks := r.acks ++ [ack] })).cancelScope key 1)
      | .cancelling => (1, s.onScope key (fun r => { r with acks := r.acks ++ [{ ack with counted := false }] }))
      | _ => (2, s.deliverAck key r { ack with counted := false })
/-- The module that decides on the scope that a CANCEL names, when that is another one (log 77), and its key. -/
def State.farScope (s : State) (q : Request) (h : Word) : Option (Nat × Nat) :=
  match s.reachScope q.part q.scope q.super h with
  | .ok key => ((s.scope key).bind (·.home)).map (fun p => (p, key))
  | .error _ => none
/-- CANCEL_REQUEST (spec/10 R238). -/
def execCancelRequest (id : Nat) (s : State) : Host.Outcome State Fault Refusal :=
  .next (match s.request id with
    | none => s
    | some q =>
      match q.kind with
      | .cancel h addr k =>
        (match s.farScope q h with
         | some (p, key) => (s.onRequest id (fun q => { q with phase := .left, remote := true })).tell q.part [p] .cancel [key, 1, id]
         | none => (s.cancel q h addr k).2.answer id (s.cancel q h addr k).1)
      | _ => s)

/-- The acknowledgement that counts the tasks of a scope (spec/02 R34). -/
def State.ownerOf (s : State) (scope : Nat) : Nat :=
  match s.scope scope with
  | some q => q.owner
  | none => scope
/-- A task that has not issued, or waits in PREEMPTED, dies with its scope (spec/10 R243, R244): one whose slot is granted
releases it. -/
def State.settleTask (s : State) (h : Word) (r : TaskRec) : State :=
  match r.state, r.loc with
  | .placing, some g => if (s.slot g).task == h then s.killOne g (s.ownerOf r.scope)
      else s.buryTask h (r.saved != 0) (s.ownerOf r.scope) (s.scopeMark r.scope) 0
  | _, _ => s.buryTask h (r.saved != 0) (s.ownerOf r.scope) (s.scopeMark r.scope) (match r.loc with
    | some g => s.slotSource g
    | none => s.sourceNo (handleDie h * 64 + 48) 0)
/-- The lockstep gang of which a task is a member that has been placed: in PLACING, or PREEMPTED and perhaps posted again (spec/10 R249). -/
def State.lockGang (s : State) (r : TaskRec) : Option (Nat × Gang) :=
  if r.state == .placing || r.state == .preempted || r.saved != 0 then
    r.gang.bind (fun k => (Assoc.find s.gangs k).bind (fun q => if q.lockstep then some (k, q) else none))
  else none
/-- CANCEL_BROADCAST (spec/10 R238, R240, R242 to R244): the CANCELLING state reaches the dispatcher or slot that holds a
task. A member of a lockstep gang dies with the gang: at its kill point when it holds a slot; a gang that has been saved is freed together, once
every save of it has finished. -/
def execCancelBroadcast (die entry : Nat) (s : State) : Host.Outcome State Fault Refusal :=
  let h := s.handleOf die entry
  .next (match s.taskOf h with
    | none => s
    | some r =>
      if s.scopeState r.scope != .cancelling then s
      else match r.state, r.loc with
        | .running, some g => (s.onSlot g (fun t => { t with killNotice := true })).post (.kill g)
        | _, loc =>
          (match s.lockGang r, loc with
           | some (k, q), some g =>
             if (s.slot g).task == h then (s.onSlot g (fun t => { t with killNotice := true })).post (.kill g)
             else if q.slots.any (fun m => (s.slot m).state == .saving) then s.defer (.cancelBroadcast die entry)
             else s.killGang k (s.ownerOf r.scope) q
           | some (k, q), none =>
             if q.slots.any (fun m => (s.slot m).state == .saving) then s.defer (.cancelBroadcast die entry)
             else s.killGang k (s.ownerOf r.scope) q
           | none, _ => s.settleTask h r))

/-- The kill that has reached a slot can take effect (spec/10 R240, R242): outside a region or BLOCKED; in a lockstep gang,
with no region open, a member BLOCKED, or the gang in a stall. -/
def State.canKill (s : State) (g : Nat) : Bool :=
  let t := s.slot g
  match s.gangOf t with
  | some q =>
    if q.lockstep then q.stalled || q.slots.any (fun m => (s.slot m).state == .blocked) || q.slots.all (fun m => (s.slot m).hold.isNone)
    else t.hold.isNone || t.state == .blocked
  | none => t.hold.isNone || t.state == .blocked
/-- KILL (spec/10 R240 to R243): at its kill point the task becomes DEAD and its effects settle; a slot that is SAVING
finishes its save first (R244). The grant of a slot whose task is dead ends once those effects have settled (R241; log 68). -/
def execKill (slot : Nat) (s : State) : Host.Outcome State Fault Refusal :=
  let t := s.slot slot
  .next (if t.settling then (if s.effectsSettled slot then s.releaseSlot slot else (s.confirmSlot slot).defer (.kill slot))
    else if t.task = 0 || !t.killNotice || t.state == .saving then s
    else if !s.canKill slot then s.defer (.kill slot)
    else match s.taskOf t.task with
      | some r => s.killSlot slot (s.ownerOf r.scope)
      | none => s)
/-- KILL_HOLD_EXPIRY (spec/10 R240): the region closes, the mark is set, and a kill that waited takes effect. -/
def execKillHoldExpiry (slot : Nat) (s : State) : Host.Outcome State Fault Refusal :=
  let t := s.slot slot
  let now := if s.inLockstep t then s.gangClock t else s.cycle
  .next (match t.hold with
    | none => s
    | some c =>
      if now < c then s.defer (.killHoldExpiry slot)
      else
        let s := s.onSlot slot (fun t => { t with hold := none, expired := true, forced := t.forced || t.killNotice })
        if t.killNotice then s.post (.kill slot) else s)

/-- The work of a task that END waits for has been done (spec/10 R235 step 2). -/
def State.workDone (s : State) (g : Nat) : Bool :=
  let t := s.slot g
  let gt := tileOfSlot g
  let ib := (s.tile gt).inbox
  (s.outstanding g).isEmpty && t.results.isEmpty && t.vq.isEmpty && t.vbound.isEmpty && t.mq.isEmpty && t.mbound.isEmpty &&
    t.sq.isEmpty && t.sbound.isEmpty && (s.tile gt).gens.toList.all (fun q => q.queue.all (fun c => c.slot != g)) &&
    !(ib.owner == some (g % 4) && decide (ib.taken < ib.arrived)) && !t.inHandler
/-- END's commit in one event (spec/10 R235 step 3): channels close, memberships are left, successors are decremented and the
grant ends. -/
def State.commitEnd (s : State) (g : Nat) (status : Byte) : State :=
  let t := s.slot g
  let gt := tileOfSlot g
  let chans := s.ownChans g
  let s := chans.foldl (fun s c => s.closeSender t.part gt c .endTok) s
  let s := chans.foldl (fun s c => s.closeReceiver t.part gt c) s
  let s := t.memberships.foldl (fun s m => s.settleMembership g m false) s
  let s := ((s.closeInbox g false).clearAnswers g).taskEnds t.task (status != 0) (s.slotSource g)
  let s := match t.gang with
    | some k => s.gangAdvance k
    | none => s
  s.releaseSlot g
/-- END_COMMIT (spec/10 R235): if the scope became CANCELLING first, the task dies instead. -/
def execEndCommit (slot : Nat) (s : State) : Host.Outcome State Fault Refusal :=
  let t := s.slot slot
  .next (match t.state, t.wait, s.taskOf t.task with
    | .blocked, some (.ending status), some r =>
      if t.frozen then s.defer (.endCommit slot)
      else if s.scopeState r.scope == .cancelling then
        (s.onSlot slot (fun t => { t with killNotice := true })).post (.kill slot)
      else if s.workDone slot then s.commitEnd slot status
      else s.post (.waitComplete slot)
    | _, _, _ => s)

/-- The place of a task's counter in the order of accesses to one unit (spec/01 R23). -/
def counterKey (h : Word) : Nat := 2 ^ 60 + h.toNat % 2 ^ 48
/-- A decrement applied at its record, absorbed or refused: a DEC takes its reply, and a SUCC decrement that failed is counted at the die and
told to the tile it came from (spec/10 R231, R233). -/
def State.applyDecrement (s : State) (m : Decrement) : State :=
  let o := s.decrement m.target m.mark.toNat m.epos.toNat m.owner
  let s := o.2
  let s := if m.told then s
    else if m.src / 4096 != s.mgmt.package then
      (s.onTask m.target (fun r => { r with far := r.far - 1 })).freeIfDone (handleDie m.target) (handleEntry m.target)
    else (s.onTask m.target (fun r => { r with expected := vset r.expected m.die (vget r.expected m.die - 1) })).freeIfDone
      (handleDie m.target) (handleEntry m.target)
  let s := if !m.told && (o.1 = 1 ∨ o.1 = 8) then s.countDie (handleDie m.target) 1 else s
  match m.reply with
  | some id => s.answer id (if o.1 = 0 then 0 else failure o.1)
  | none => if m.owner.isSome && (o.1 == 1 || o.1 == 8 || o.1 == 10) then s.post (.succFailureNotice (m.src % 4096 / 16)) else s
/-- The task's instance spans modules and has still to start on this one (log 77). -/
def State.unstarted (s : State) (h : Word) : Bool :=
  match (s.taskOf h).bind (fun r => s.instanceOf r.part r.serial) with
  | some i => i.starting
  | none => false
/-- DECREMENT_MESSAGE (spec/01 R23; spec/10 R231, R233, R236; spec/14 R307): decrements of one counter in one cycle are applied in the order of
their source numbers. A DEC dropped while it was in its tile is not applied (R228). -/
def execDecrementMessage (m : Decrement) (s : State) : Host.Outcome State Fault Refusal :=
  .next (if m.reply.any (fun id => (s.request id).isNone) then s
    else if s.unstarted m.target || !s.inTurn (counterKey m.target) 1 m.src then s.defer (.decrementMessage m)
    else (s.enterOrder (counterKey m.target) 1 m.src).applyDecrement m)
/-- SUCC_FAILURE_NOTICE (spec/10 R231, spec/13 Table 13.6): counted at the tile where the task ended or died. -/
def execSuccFailureNotice (gtile : Nat) (s : State) : Host.Outcome State Fault Refusal := .next (s.countTile gtile 5)

/-- The children of a scope. -/
def State.children (s : State) (key : Nat) : List (Nat × ScopeRec) := s.scopes.filter (fun e => e.2.parent == some key)
/-- The result of CANCEL.WAIT (spec/10 R239). -/
def ScopeRec.waitResult (r : ScopeRec) : Word := if r.state == .cancelled then wordN (2 + 256 * r.cause) else 1
/-- A wait for a scope that has reached its final state. -/
def Wait.settle (key : Nat) (v : Word) (w : Wait) : Wait :=
  match w with
  | .scope d k => if k == key then .settled d v else w
  | w => w
/-- A scope record freed (spec/02 Table 2.6): waiters have seen its final state (spec/10 R239), and the records of its tasks
are freed at the latest now (spec/01 R19). -/
def State.freeScope (s : State) (key : Nat) : State :=
  match s.scope key with
  | none => s
  | some r =>
    let s := { s with slots := s.slots.map (fun (e : Nat × Slot) =>
      (e.1, { e.2 with wait := e.2.wait.map (Wait.settle key r.waitResult), resume := e.2.resume.map (Wait.settle key r.waitResult) })) }
    let s := [0, 1, 2, 3].foldl (fun s d => s.onDie d (fun q => { q with
      tun := q.tun.map (fun (e : Nat × TaskRec) => if e.2.scope == key && e.2.part == r.part then (e.1, { e.2 with state := .free }) else e) })) s
    { s with scopes := Assoc.erase s.scopes key }
/-- A scope has reached CLOSED or CANCELLED: the records of its children are freed; the completion of the instance follows a
root; a parent may close or be acknowledged. -/
def State.scopeEnded (s : State) (key : Nat) : State :=
  let s := (s.children key).foldl (fun s e => s.freeScope e.1) s
  match s.scope key with
  | none => s
  | some r =>
    match r.parent with
    | some p => s.wakeScope p
    | none => match s.instanceOf r.part r.serial with
      | some i => s.post (.completionRecord i.cmd)
      | none => s
/-- A scope has no task that could still act and every child is CLOSED or CANCELLED (spec/02 R33). -/
def State.settledScope (s : State) (key : Nat) : Bool :=
  (s.tasksOf key).isEmpty && (s.children key).all (fun e => e.2.state == .closed || e.2.state == .cancelled)
/-- The counts of an instance on this module that its command's module adds up (log 77): tasks ENDED, lost, and an underflow. -/
def State.tallies (s : State) (part serial : Nat) : List Nat :=
  match s.instanceOf part serial with
  | some i => [i.ended, i.lost, bit i.underflow]
  | none => [0, 0, 0]
/-- SCOPE_CLOSE (spec/02 R33, Table 2.6): a sealed and empty ACTIVE scope becomes CLOSED. One that spans modules is reported to the module that
decides on it, which waits for every report (log 77). -/
def execScopeClose (scope : Nat) (s : State) : Host.Outcome State Fault Refusal :=
  .next (match s.scope scope with
    | none => s
    | some r =>
      if r.state != .active || !r.sealed_ || !s.settledScope scope then s
      else if s.requests.any (fun q => q.scope == scope && q.part == r.part) then
        (if s.deferred.contains (.scopeClose scope) then s else s.defer (.scopeClose scope))
      else match r.home with
        | some h => if r.told then s else
          (s.onScope scope (fun r => { r with told := true })).tell r.part [h] .empty (scope :: s.tallies r.part r.serial)
        | none => if !r.awaits.isEmpty then s else
          ((s.onScope scope (fun r => { r with state := .closed })).tell r.part r.others .closed [scope]).scopeEnded scope)

/-- A decrement marked by a scope's status is on its way (spec/10 R236). -/
def Instr.marked : Instr → Bool
  | .decrementMessage m => decide (2 ≤ m.mark.toNat)
  | _ => false
/-- Every effect of a CANCELLING subtree has settled (spec/10 R245). -/
def State.drained (s : State) (key : Nat) : Bool :=
  let sub := s.scopes.filter (fun e => s.descends e.1 key)
  sub.all (fun e => (s.tasksOf e.1).isEmpty && s.requests.all (fun q => q.scope != e.1) &&
    s.tiles.all (fun t => t.2.gens.toList.all (fun g => g.queue.all (fun c => c.scope != e.1))) &&
    (e.2.state != .cancelling || (e.2.owner == key && (e.1 != key || e.2.awaits.isEmpty))) && e.2.state != .active) &&
    !(s.agenda ++ s.deferred).any Instr.marked
/-- The error-log record of a containment acknowledgement (spec/17 R372, Table 17.9). -/
def State.logAck (s : State) (key : Nat) (r : ScopeRec) : State :=
  let head : Bytes := [4, 7, BitVec.ofNat 8 (r.die % 4), BitVec.ofNat 8 r.part] ++ toBytes 4 0 ++ toBytes 8 (key % 2 ^ 20) ++ toBytes 8 s.now.toNat ++
    toBytes 4 1 ++ zeros 36
  s.logError (head ++ s.ackRecord key r true 0) (r.die % 4)
/-- The counts of an acknowledgement as numbers. -/
def AckCounts.words (c : AckCounts) : List Nat :=
  [c.killed, c.discarded, c.trunc, c.atoms, c.dropped, c.decs, bit c.nested + 2 * bit c.forced + 4 * bit c.lost]
/-- The scopes that one cancellation made CANCELLING become CANCELLED, on every module that has their records (spec/10 R245). -/
def State.scopeCancelled (s : State) (scope : Nat) : State :=
  match s.scope scope with
  | none => s
  | some r =>
    let group := s.scopes.filter (fun e => e.2.state == .cancelling && e.2.owner == scope)
    let s := s.tell r.part r.others .cancelled (scope :: r.counts.words)
    let acks := group.flatMap (fun e => e.2.acks.map (fun a => (e.1, e.2, a)))
    let s := (acks.filter (fun e => e.2.2.counted)).foldl (fun s e => s.deliverAck e.1 e.2.1 e.2.2) s
    let s := (acks.filter (fun e => !e.2.2.counted)).foldl (fun s e => s.deliverAck e.1 e.2.1 e.2.2) s
    let s := group.foldl (fun s e => s.onScope e.1 (fun r => { r with state := .cancelled, acks := [] })) s
    let below := group.filter (fun e => e.1 != scope)
    let s := below.foldl (fun s e => (s.children e.1).foldl (fun s c => s.freeScope c.1) s) s
    s.scopeEnded scope
/-- ACK_DELIVERY (spec/10 R245): the scopes that one cancellation made CANCELLING become CANCELLED together; the record that
owns the counts is delivered first, then those of CANCELs that found their scope CANCELLING. A scope that spans modules is reported to the module that decides on it
once its part here has settled (log 77). -/
def execAckDelivery (scope : Nat) (s : State) : Host.Outcome State Fault Refusal :=
  let s := s.settleOwed scope
  .next (match s.scope scope with
    | none => s
    | some r =>
      if r.state != .cancelling || r.owner != scope then s
      else if !s.drained scope then
        let s := s.confirmWrites (fun q => s.descends q.scope scope)
        if s.deferred.contains (.ackDelivery scope) then s else s.defer (.ackDelivery scope)
      else match r.home with
        | some h => if r.told then s else
          (s.onScope scope (fun r => { r with told := true })).tell r.part [h] .drained (scope :: s.tallies r.part r.serial ++ r.counts.words)
        | none => (if r.cause = 1 then s else s.logAck scope r).scopeCancelled scope)

/-- What a barrier request brings about at the word's tile (spec/10 R246, R247): the reply and the state. -/
def State.barrier (s : State) (q : Request) (k : Nat) : Word × State :=
  let t := s.slot q.slot
  let w := BarrierWord.ofBytes (s.readMem k 16)
  let mine := t.memberships.find? (fun m => m.addr == q.addr)
  let valid := w.valid t.levels
  match q.kind, mine with
  | .barJoin, some _ => (failure 14, s)
  | .barJoin, none =>
    if 4 ≤ t.memberships.length then (failure 14, s)
    else if !valid then (failure 15, s)
    else (wordN w.phase, s.onSlot q.slot (fun t => { t with memberships := t.memberships ++ [{ addr := q.addr, arrived := none }] }))
  | _, none => (failure 12, s)
  | .barArrive, some m =>
    if !valid then (failure 15, s)
    else if m.arrived == some (BitVec.ofNat 16 w.phase) then (failure 13, s)
    else (wordN w.phase, (s.writeMem k ({ w with arrived := w.arrived + 1 }.trip).bytes).onSlot q.slot (fun t => { t with
      memberships := t.memberships.map (fun m => if m.addr == q.addr then { m with arrived := some (BitVec.ofNat 16 w.phase) } else m) }))
  | _, some m =>
    if !valid then (failure 15, s)
    else (0, (s.writeMem k (w.leave m.arrived false).bytes).onSlot q.slot (fun t => { t with
      memberships := t.memberships.filter (fun m => m.addr != q.addr) }))
/-- The operation code of a barrier request in a packet's AUX (log 24). -/
def ReqKind.barrierCode : ReqKind → Nat
  | .barJoin => 0
  | .barArrive => 1
  | _ => 3
/-- A barrier request on a word of another module: the checks that need only the slot's memberships, then a packet. -/
def State.sendBarrier (s : State) (q : Request) : State :=
  let t := s.slot q.slot
  let mine := t.memberships.find? (fun m => m.addr == q.addr)
  match q.kind, mine with
  | .barJoin, some _ => s.answer q.id (failure 14)
  | .barJoin, none => if 4 ≤ t.memberships.length then s.answer q.id (failure 14) else send
  | _, none => s.answer q.id (failure 12)
  | _, some _ => send
where
  send : State :=
    let phase := match (s.slot q.slot).memberships.find? (fun m => m.addr == q.addr) with
      | some m => (match m.arrived with
        | some v => v.toNat + 65536
        | none => 0)
      | none => 0
    (s.onRequest q.id (fun r => { r with phase := .left, remote := true
                                         seq := s.nextSeq q.src (bits q.addr 47 38 * 4096) })).sendPacket
      (reqPacket 0x06 q.src q.part (bits q.addr 47 38) (bits q.addr 37 30) q.super q.rel q.addr
        (wordN (q.kind.barrierCode + 8 * phase)) ((s.slot q.slot).levels.toList))
/-- BARRIER_REQUEST (spec/10 R247): one indivisible step at the word's tile. While one of the slot on a word of another module is on its way, its
later ones wait, since what it does to the slot's memberships is not known. -/
def execBarrierRequest (id : Nat) (s : State) : Host.Outcome State Fault Refusal :=
  .next (match s.request id with
    | none => s
    | some q =>
      if s.requests.any (fun r => r.slot == q.slot && r.id != id && r.remote && r.kind.onBarrier && !r.orphan && r.phase != .performed) then
        s.defer (.barrierRequest id)
      else match q.kind, s.barrierKey q.addr with
      | .barJoin, none => s.sendBarrier q
      | .barArrive, none => s.sendBarrier q
      | .barLeave, none => s.sendBarrier q
      | _, some k =>
        let t := s.barrierTarget q.addr
        if !s.served q.part (q.src % 4096 / 16) t then s.defer (.barrierRequest id)
        else if s.barred q.part (q.src % 4096 / 16) t then (s.dropAccess 6 q.part q.src t q.addr).refuseRead id
        else if s.poisoned k 16 then s.refuseRead id
        else (s.barrier q k).2.answer id (s.barrier q k).1
      | _, none => s)

end Sys2Proof.Machine
end

