-- ==== Sys2Proof/Machine/System.lean ====
section
/-! DEFINITION. System registers and system instructions (spec/13 R268 to R281), the trap log, and traps found after issue. -/

namespace Sys2Proof.Machine

/-- A descriptor entry made invalid (spec/13 R270): VALID reads 0; the model keeps its other bits (log 28). -/
def invalidDescriptor (d : BitVec 128) : BitVec 128 := setBit d 0 false
/-- A write to the high half of an ATOMFN descriptor goes to the holding word (spec/13 R270). -/
def State.atomfnHigh (s : State) (part : Nat) (v : Word) : State := s.onPart part (fun p => { p with holding := v })
/-- A write to the low half of an ATOMFN descriptor installs, refuses or invalidates it (spec/13 R270). -/
def State.atomfnLow (s : State) (part : Nat) (j : Nat) (v : Word) : State :=
  let d := (s.part part).holding ++ v
  let entry := if testW v 0 && !descriptorBad d then d else invalidDescriptor (vget (s.part part).atomfn j)
  s.onPart part (fun p => { p with atomfn := vset p.atomfn j entry })
/-- The log records that a read of TLOGHEAD counts are acquired (spec/13 R269). -/
def State.acquireLog (s : State) (part : Nat) : State := s.onPart part (fun p => { p with acquired := p.tloghead })
/-- ATOMFN_HIGH_WRITE (spec/13 R270). -/
def execAtomfnHighWrite (part : Nat) (_j : Fin 48) (v : Word) (s : State) : Host.Outcome State Fault Refusal :=
  .next (s.atomfnHigh part v)
/-- ATOMFN_LOW_WRITE (spec/13 R270). -/
def execAtomfnLowWrite (part : Nat) (j : Fin 48) (v : Word) (s : State) : Host.Outcome State Fault Refusal :=
  .next (s.atomfnLow part j.val v)
/-- TLOGHEAD_READ (spec/13 R269). -/
def execTlogheadRead (part : Nat) (s : State) : Host.Outcome State Fault Refusal := .next (s.acquireLog part)

/-- The value of a system register (spec/13 Table 13.1) or special register: none when the number is unassigned. -/
def State.csrGet (s : State) (g : Nat) (t : Slot) (n : Nat) : Option Word :=
  let p := s.part t.part
  match n with
  | 0x100 => some t.status.word
  | 0x101 => some t.epc
  | 0x102 => some (t.ecause.setWidth 64)
  | 0x103 => some t.etval
  | 0x104 => some t.tscratch
  | 0x105 => some t.task
  | 0x108 => some t.umat
  | 0x109 => some t.uvec
  | 0x10A => some t.usel
  | 0x180 => some p.trapdel
  | 0x181 => some p.traptile
  | 0x182 => some p.tlogbase
  | 0x183 => some p.tlogsize
  | 0x184 => some p.tloghead
  | 0x185 => some p.tlogtail
  | 0x186 => some p.tloglost
  | 0x187 => some p.savebase
  | 0x188 => some p.savesize
  | 0x189 => some p.pqlimit
  | 0x18A => some p.partinfo
  | _ =>
    if 0x200 ≤ n ∧ n < 0x260 then
      some (wordN ((vget p.atomfn ((n - 0x200) / 2)).toNat / 2 ^ (64 * (n % 2))))
    else if SpecialReg.assigned (BitVec.ofNat 12 n) then some (s.specialGet g t n) else none
/-- A write of a value to a register is refused: it is RO, a reserved bit is set, or the value is out of range (spec/13 R269,
Tables 13.1 to 13.4; spec/05 R113). -/
def csrBad (n : Nat) (v : Word) : Bool :=
  match n with
  | 0x101 => bits v 63 16 != 0
  | 0x104 => false
  | 0x180 => bits v 63 28 != 0 || bits v 1 0 != 0 || (List.range 13).any (fun i => bits v (2 * i + 3) (2 * i + 2) == 3)
  | 0x181 => bits v 62 18 != 0
  | 0x182 => bits v 63 56 != 0 || bits v 11 0 != 0
  | 0x183 => !(decide (64 ≤ v.toNat ∧ v.toNat ≤ 65536) && popN 64 v.toNat == 1)
  | 0x185 => false
  | 0x186 => false
  | 0x187 => bits v 63 56 != 0 || bits v 15 0 != 0
  | 0x188 => bits v 15 0 != 0
  | 0x189 => !decide (1024 ≤ v.toNat ∧ v.toNat ≤ 2 ^ 20)
  | _ => if n < 0x100 then specialBad n v else !decide (0x200 ≤ n ∧ n < 0x260)
/-- A register written by the slot at `cur` (spec/13 R268 to R270). -/
def State.csrSet (s : State) (n : Nat) (v : Word) : State :=
  let part := (s.slot s.cur).part
  match n with
  | 0x101 => s.onSlot s.cur (fun t => { t with epc := v })
  | 0x104 => s.onSlot s.cur (fun t => { t with tscratch := v })
  | 0x180 => s.onPart part (fun p => { p with trapdel := v })
  | 0x181 => s.onPart part (fun p => { p with traptile := v })
  | 0x182 => s.onPart part (fun p => { p with tlogbase := v })
  | 0x183 => s.onPart part (fun p => { p with tlogsize := v })
  | 0x185 => s.onPart part (fun p => { p with tlogtail := v })
  | 0x186 => s.onPart part (fun p => { p with tloglost := v })
  | 0x187 => s.onPart part (fun p => { p with savebase := v })
  | 0x188 => s.onPart part (fun p => { p with savesize := v })
  | 0x189 => s.onPart part (fun p => { p with pqlimit := v })
  | _ =>
    if n < 0x100 then s.onSlot s.cur (fun t => t.specialSet n v)
    else if n % 2 = 1 then s.atomfnHigh part v else s.atomfnLow part ((n - 0x200) / 2) v
/-- A CSR instruction (spec/13 R269): the old value goes to X[d]; `f` forms the new one, if the form writes. -/
def State.csr (s : State) (d : Reg) (regs : List Reg) (n : BitVec 12) (f : Option (Slot → Word → Word)) :
    Host.Outcome State Fault Refusal :=
  s.issue { privileged := true } (d :: regs) (fun t =>
    match s.csrGet s.cur t n.toNat with
    | none => s.trapWord t 1
    | some old =>
      if n = 2 && !t.flagsReady then s.flagsWait t
      else
        let s' := if n = 0x184 then s.acquireLog t.part else s
        match f with
        | none => .done (s'.retire s.cur (fun t => t.setX d old))
        | some f =>
          if csrBad n.toNat (f t old) then s.trapWord t 1
          else .done ((s'.csrSet n.toNat (f t old)).retire s.cur (fun t => t.setX d old)))
/-- CSRRD (spec/13 R269). -/
def execCsrrd (d : Reg) (csr : BitVec 12) (s : State) : Host.Outcome State Fault Refusal := s.csr d [] csr none
/-- CSRRW (spec/13 R269): csr := X[a]. -/
def execCsrrw (d a : Reg) (csr : BitVec 12) (s : State) : Host.Outcome State Fault Refusal :=
  s.csr d [a] csr (some (fun t _ => t.x a))
/-- CSRRS (spec/13 R269): csr := csr or X[a]. -/
def execCsrrs (d a : Reg) (csr : BitVec 12) (s : State) : Host.Outcome State Fault Refusal :=
  s.csr d [a] csr (some (fun t old => old ||| t.x a))
/-- CSRRC (spec/13 R269): csr := csr and not X[a]. -/
def execCsrrc (d a : Reg) (csr : BitVec 12) (s : State) : Host.Outcome State Fault Refusal :=
  s.csr d [a] csr (some (fun t old => old &&& ~~~(t.x a)))

/-- TRET (spec/13 R276): Illegal Instruction outside the trap bank. -/
def execTret (s : State) : Host.Outcome State Fault Refusal :=
  s.issue { privileged := true } [] (fun t => if t.status.tbank then .done (s.returnTrap s.cur) else s.trapWord t 1)
/-- IDLE (spec/13 R281): an inbox owner waits for the first MSG.END that follows. -/
def execIdle (s : State) : Host.Outcome State Fault Refusal :=
  s.issue { privileged := true } [] (fun t =>
    match s.slotKernel s.cur with
    | some k => if k.inbox then .done (s.block s.cur (.idle (s.tile (tileOfSlot s.cur)).inbox.msgEnds)) else s.trapWord t 1
    | none => s.trapWord t 1)

/-- The TLBs of a die: its task-hosting tiles and Fathom engines, and its home unit (spec/15 R320). -/
def dieTlbs (d : Nat) (home : Bool) : List Nat :=
  tilesOfDie d ++ (List.range 16).map (fun n => 256 + 16 * d + n) ++ (if home then [320 + d] else [])
/-- An entry matches a TLB.INV (spec/13 R281): ALL, or it covers X[a] and has the named page size. -/
def TlbEntry.matches (e : TlbEntry) (part : Nat) (va how : Word) : Bool :=
  e.part == part && (testW how 4 || (e.covers va && (testW how 5 || bits e.w0 3 2 == bits how 7 6)))
/-- A home advances (spec/15 R321 rule 5): its GEN, and its own TLB. -/
def State.advanceHome (s : State) (part home : Nat) (va how : Word) : State :=
  s.onDie home (fun d => { d with
    gens := Assoc.set d.gens part ((Assoc.get 0 d.gens part + 1) % 2 ^ 32)
    homeTlb := { d.homeTlb with entries := d.homeTlb.entries.filter (fun e => !e.matches part va how) } })
/-- An invalidation sent to TLBs, each of which the issuing slot awaits: TLB number + 1024 × home. -/
def State.invalidate (s : State) (slot part home : Nat) (gen : Option Nat) (va how : Word) (tlbs : List Nat) : State :=
  tlbs.foldl (fun s n => s.post (.tlbInvalidation n
    { slot := slot, part := part, home := home, gen := gen, va := va, how := how, serial := (s.slot slot).waitSerial })) s
/-- TLB.INV (spec/13 R281; spec/15 R321, R322). -/
def execTlbInv (a b : Reg) (s : State) : Host.Outcome State Fault Refusal :=
  s.issue { privileged := true } [a, b] (fun t =>
    let how := t.x b
    let va := t.x a
    let g := s.cur
    if bits how 63 8 != 0 || bits how 3 2 != 0 || bits how 1 0 == 3 then s.trapWord t 1
    else if !testW how 4 && bits va 63 56 != 0 then .trap 4 va
    else if !s.accessesPerformed g || s.acquirePending g then (if s.engineStuck t then s.trapWord t 1 else s.waitPerformed true)
    else if bits how 1 0 < 2 then
      let tlbs := if bits how 1 0 = 0 then [tileOfSlot g] else dieTlbs (dieOf (tileOfSlot g)) true
      .done ((s.block g (.tlb tlbs)).invalidate g t.part 0 none va how tlbs)
    else
      let homes := if testW how 4 then [0, 1, 2, 3] else [shardOf va]
      let tlbs := [0, 1, 2, 3].flatMap (fun d => dieTlbs d false)
      let peers := Config.peerModules t.part
      let s := s.block g (.tlb (homes.flatMap (fun h => tlbs.map (· + 1024 * h)) ++ peers.map (· + 8192)))
      let s := homes.foldl (fun s h =>
        let s := s.advanceHome t.part h va how
        (s.invalidate g t.part h (some (s.gen h t.part)) va how tlbs).post (.parkedRetry t.part h)) s
      .done (peers.foldl (fun s k => s.sendPacket
        (ctlPacket 0x09 (s.slotSource g) t.part k va how (toBytes 8 (s.slot g).waitSerial))) s))

/-- A request carried out at once by its unit: it is accepted, the instruction retires, and the reply sets out (spec/13 R281,
spec/10 R228). -/
def State.carryOut (s : State) (d : Reg) (kind : ReqKind) (f : Nat → State → State) : Issue :=
  if !s.portReady s.cur false then .wait s
  else
    let r := s.accept s.cur kind 0 none (some d) false false 0
    .done (f r.1 ((r.2.retire s.cur id).onRequest r.1 (fun q => { q with phase := .left })))
/-- Every link of this module that a gang of a partition uses, once for each of its channels on lane groups whose sender still
rides them: tile, direction, and the sender's endpoint. -/
def State.laneUses (s : State) (part : Nat) : List ((Nat × Nat) × (Nat × Nat)) :=
  (s.gangs.filter (fun e => e.2.part == part)).flatMap (fun e =>
    match s.gangTemplate e.2 with
    | none => []
    | some t => t.channels.flatMap (fun c =>
      match t.nodes[c.snode]?, t.nodes[c.rnode]? with
      | some a, some b =>
        let from_ := e.2.tile a.dx a.dy
        if a.gang == some e.2.gidx && b.gang == some e.2.gidx && (s.chan from_ c.sch.val).lane then
          (pathLinks from_ (e.2.tile b.dx b.dy)).map (fun l => (l, (from_, c.sch.val))) else []
      | _, _ => []))
/-- Transit groups of a partition that exceed its permits on a tile are withdrawn (spec/17 R362). -/
def State.withdrawExcess (s : State) (owner part gtile : Nat) : State :=
  [0, 1, 2, 3].foldl (fun s dir =>
    let uses := (s.laneUses part).filter (fun u => u.1 == (gtile, dir))
    (uses.drop (s.permitGroups owner part gtile dir)).foldl (fun s u => s.withdrawLane u.2.1 u.2.2) s) s
/-- An inbound permit that GUARD.WR refuses (spec/17 R362). -/
def State.permitBad (s : State) (part : Nat) (v : Word) : Bool :=
  bits v 62 36 != 0 || bits v 31 29 != 0 || bits v 23 22 != 0 || !s.ownsTile part (bits v 17 8) (bits v 7 0) ||
    bits v 35 32 == part || (testW v 63 && (bits v 28 24 == 0 || decide (24 < bits v 28 24)))
/-- GUARD.WR (spec/13 R281, spec/17 R362): the reply follows once every guard applies the entry. -/
def execGuardWr (d a b : Reg) (s : State) : Host.Outcome State Fault Refusal :=
  s.issue { privileged := true } [a, b, d] (fun t =>
    let n := bits (t.x a) 5 0
    let v := t.x b
    s.carryOut d (.guardWrite n v) (fun id s =>
      if bits (t.x a) 63 6 != 0 || s.permitBad t.part v then s.answer id (failure 20)
      else
        let old := vget (s.part t.part).permits n
        let s := s.onPart t.part (fun p => { p with permits := vset p.permits n v })
        let s := [old, v].foldl (fun s w => if bits w 17 8 = s.mgmt.package then s.withdrawExcess t.part (bits w 35 32) (bits w 7 0) else s) s
        match Config.peerModules t.part with
        | [] => s.answer id 0
        | peers => peers.foldl (fun s k => (s.onRequest id (fun q => { q with level := q.level + 1, remote := true })).sendPacket (ctlPacket 0x06 (s.slotSource s.cur) t.part k (wordN n) v [])) s))

/-- FRAME.WR (spec/13 R281, spec/17 R364, R365): the lend state takes effect at the next frame start, and the reply follows. -/
def execFrameWr (d a b : Reg) (s : State) : Host.Outcome State Fault Refusal :=
  s.issue { privileged := true } [a, b, d] (fun t =>
    let x := t.x a
    let v := t.x b
    if bits x 63 24 != 0 || testW x 7 || decide (3 < bits x 11 8) || bits v 63 9 != 0 || bits v 3 1 != 0 then s.trapWord t 1
    else s.carryOut d (.frameWrite (bits x 11 8) (bits x 23 12) (bits x 6 0) v) (fun id s =>
      match frameUnit (bits x 11 8) (bits x 23 12) with
      | none => s.answer id (failure 20)
      | some u =>
        let i := u * 128 + bits x 6 0
        if (s.mgmt.frame.getD i 0xFF).toNat ≠ t.part then s.answer id (failure 20)
        else
          let s := if s.mgmt.frameReplies.isEmpty then { s with mgmt := { s.mgmt with frames := s.cycle / 8192 } } else s
          { s with mgmt := { s.mgmt with
            nextLend := s.mgmt.nextLend.filter (fun e => e.1 != i) ++ [(i, v)], frameReplies := s.mgmt.frameReplies ++ [id] } }))

/-- A request that names a task of another module goes there; one of a package that the pod does not have is STALE. -/
def State.sendTask (s : State) (id : Nat) (part pkg : Nat) (h aux : Word) : State :=
  if Config.configuredPackage pkg then
    (s.onRequest id (fun q => { q with remote := true })).sendPacket (ctlPacket 0x06 (s.slotSource s.cur) part pkg h aux (toBytes 8 h.toNat))
  else s.answer id (failure 1)
/-- SLOT.SAVE at the record of its task (spec/13 R281): the failure, or a pre-emption that holds the task and then replies. None begins
while a slot of the unit is in its trap bank (R267). -/
def State.slotSave (s : State) (id part : Nat) (own h : Word) : State :=
  match s.taskOf h with
  | none => s.answer id (failure 1)
  | some r =>
    if r.part ≠ part then s.answer id (failure 8)
    else if h = own then s.answer id (failure 3)
    else match r.state, r.loc with
      | .running, some g =>
        if s.scopeState r.scope == .cancelling then s.answer id (failure 16)
        else if (s.saveUnit g).any (fun m => (s.slot m).status.tbank) then s.later (.saveBegin g)
        else if (s.slot g).freeze.isSome then
          (s.saveUnit g).foldl (fun s m => s.onSlot m (fun t => { t with freeze := t.freeze.map (fun f => { f with held := true }) })) s
        else
          let o := s.preempt g true none
          if o.1 then o.2 else o.2.answer id (failure 21)
      | _, _ => s.answer id (failure 16)
/-- SLOT.SAVE (spec/13 R281). -/
def execSlotSave (d a : Reg) (s : State) : Host.Outcome State Fault Refusal :=
  s.issue { privileged := true } [a, d] (fun t =>
    let h := t.x a
    s.carryOut d (.slotSave h) (fun id s =>
      if bits h 29 20 = s.mgmt.package then s.slotSave id t.part t.task h else s.sendTask id t.part (bits h 29 20) h 1))

/-- A save image passes the checks of SLOT.RESTORE (spec/13 R281): header, directory, CRC, registers, loop depth and the
KILL.HOLD count. -/
def imageGood (img : Bytes) (room : Nat) : Bool :=
  let w := fun o => fieldW img (0x300 + o) 8
  let offs := (List.range 6).map (fun i => field img (12 + 4 * i) 4)
  let hold := fieldW img (0x300 + 44) 4
  field img 0 4 == 0x5A710001 && field img 4 2 == 1 && decide ((byteAt img 6).toNat < 16) && byteAt img 7 == 0 &&
    field img 60 4 == 0 && decide (field img 56 4 < 2 ^ 20) && decide (0x4800 ≤ field img 8 4 ∧ field img 8 4 ≤ room) &&
    offs.all (fun o => decide (0x4800 ≤ o ∧ o ≤ field img 8 4)) && field img 36 4 == crc32c (protectedBytes img) &&
    !specialBad 0 (w 8) && !specialBad 1 (w 16) && !specialBad 2 (w 24) && decide ((byteAt img (0x300 + 80)).toNat ≤ 2) &&
    decide (bits hold 12 0 ≤ 4096)
/-- The tile that SLOT.RESTORE requires can take a task (spec/13 R281): one of its partition on this module, of its kind. -/
def State.restorePlace (s : State) (r : TaskRec) (how : Word) : Bool :=
  if !testW how 63 then true
  else match s.kernelRec r with
    | some (_, k) => bits how 17 8 == s.mgmt.package && s.tileTakes r.part (bits how 7 0) k.kind &&
        (k.use.acc == 0 || isMTile (bits how 7 0))
    | none => false
/-- The records saved as a unit with a task (spec/13 R284): those of its gang when the gang is lockstep or shares a resource. -/
def State.unitOf (s : State) (h : Word) (r : TaskRec) : List Word :=
  match r.gang.bind (fun k => Assoc.find s.gangs k) with
  | none => [h]
  | some q =>
    let mates := [0, 1, 2, 3].flatMap (fun d => ((s.die d).tun.filter (fun e => e.2.gang == r.gang && e.2.saved != 0)).map
      (fun e => s.handleOf d e.1))
    let shares := mates.any (fun m => match (s.taskOf m).bind s.kernelRec with
      | some (_, k) => k.share != Grant.none
      | none => false)
    if q.lockstep || shares then mates else [h]
/-- SLOT.RESTORE at the record of its task (spec/13 R281): HELD is cleared, and the task is posted for resumption once no task
saved with it is held (log 29). An image of another module or the host is asked for and awaited: RESUME of the task tries again. -/
def State.slotRestore (s : State) (id part : Nat) (h how : Word) : State :=
  match s.taskOf h with
  | none => s.answer id (failure 1)
  | some r =>
    let p := s.part r.part
    if r.part ≠ part then s.answer id (failure 8)
    else if r.state != .preempted || !r.held then s.answer id (failure 18)
    else if !s.restorePlace r how then s.answer id (failure 11)
    else
      let image := s.imageRead part h r.saved
      let p' := s.imageIssuer part h
      if image.fails then (s.readDone p' image).answer id (failure 19)
      else match (if s.writesOut part r.saved image.bytes.length then some (s.later (.resume (handleDie h) (handleEntry h)))
          else s.readWaits p' image (.resume (handleDie h) (handleEntry h))) with
      | some s => s
      | none =>
        let s := s.readDone p' image
        if !imageGood image.bytes (p.savebase.toNat + p.savesize.toNat - r.saved.toNat) then s.answer id (failure 19)
        else
          let s := s.onTask h (fun r => { r with held := false, target := if testW how 63 then some (bits how 7 0) else r.target })
          let mates := s.unitOf h r
          let s := if mates.all (fun m => match s.taskOf m with
              | some q => !q.held
              | none => true) then mates.foldl State.postTask s else s
          s.answer id 0
/-- SLOT.RESTORE (spec/13 R281): X[b] is 0, or names a tile with bit 63 set. -/
def execSlotRestore (d a b : Reg) (s : State) : Host.Outcome State Fault Refusal :=
  s.issue { privileged := true } [a, b, d] (fun t =>
    let h := t.x a
    let how := t.x b
    if how != 0 && !testW how 63 then s.trapWord t 1
    else s.carryOut d (.slotRestore h how) (fun id s =>
      if bits h 29 20 = s.mgmt.package then s.slotRestore id t.part h how else s.sendTask id t.part (bits h 29 20) h how))

/-- SLOT_TRAP (spec/13 R273, R274): a trap of a slot is delivered; a refused fetch is counted (Table 13.6). -/
def execSlotTrap (slot : Nat) (cause : Byte) (tval : Word) (s : State) : Host.Outcome State Fault Refusal :=
  let t := s.slot slot
  .next (if t.task = 0 then s
    else
      let s := if cause = 1 && (s.fetch t).isNone then s.countTile (tileOfSlot slot) 6 else s
      s.takeTrap slot cause.toNat tval)
/-- DEFERRED_TRAP (spec/13 R273): a trap found at the head of a queue, or when an entry began, is taken once every earlier entry
of that queue has completed; it reports the entry's PC. -/
def execDeferredTrap (slot : Nat) (s : State) : Host.Outcome State Fault Refusal :=
  let t := s.slot slot
  .next (match t.deferred with
    | none => s
    | some (c, v, pc) =>
      if t.killable then (s.onSlot slot (fun t => { t with deferred := none, heldBy := none, state := t.active })).post (.kill slot)
      else if !t.vbound.isEmpty || !t.mbound.isEmpty || s.enginesHold slot ||
          (s.saveUnit slot).any (fun m => m != slot && (s.slot m).status.tbank) then s.defer (.deferredTrap slot)
      else (s.onSlot slot (fun t => ({ t with deferred := none, heldBy := none, state := t.active } : Slot).setPc pc)).takeTrap slot c.toNat v)

end Sys2Proof.Machine
end

