-- ==== Sys2Proof/Machine/Waits.lean ====
section
/-! DEFINITION. How a BLOCKED wait ends (spec/02 R35, Table 2.7). -/

namespace Sys2Proof.Machine

/-- A barrier word of another module, read as one step by the slot's scalar port: the word and its poison mark, once it has come. -/
def State.remoteWord (s : State) (g : Nat) (addr : Word) : Option (Bytes × Bool) × State :=
  let p := s.issuer g (g % 4) (s.slot g).status.super 0
  let target := match classify addr with
    | .window pkg gt off => Target.remoteTile pkg gt off
    | _ => .peer 0
  match (s.reads p).find? (fun r => r.addr == addr) with
  | some r => (match r.data with
    | some d => (some (padTo 16 d.1, d.2), s.dropReads [r])
    | none => (none, s))
  | none => (none, s.sendRead p target addr 16 none)
/-- BAR.WAIT with the word as read: none while the wait lasts (spec/10 R247). -/
def barrierResult (levels : Vector Byte 8) (phase : BitVec 16) (bs : Bytes) : Option Word :=
  let w := BarrierWord.ofBytes bs
  if !w.valid levels then some (failure 15)
  else if BitVec.ofNat 16 w.phase ≠ phase then some (wordN w.lastKilled)
  else none
/-- A wait whose condition is met ends (spec/02 R35): the state with the instruction retired; none while it must wait, with
what the wait has set in motion. -/
def State.tryWait (s : State) (g : Nat) (w : Wait) : Option State × State :=
  let t := s.slot g
  let gt := tileOfSlot g
  let done := fun (s : State) (d : Reg) (v : Word) => (some (s.complete g (fun t => t.setX d v)), s)
  match w with
  | .counter k n => if (s.counter gt k).toNat < n then (some (s.complete g id), s) else (none, s)
  | .recv d ch => if (s.chan gt ch).headReady then done (s.takeHead gt ch).2 d (s.takeHead gt ch).1 else (none, s)
  | .alt d mask =>
    (match s.earliest gt mask with
     | some c => done (s.takeAlt gt c).2 d (s.takeAlt gt c).1
     | none => (none, s))
  | .send d c tok => (s.trySend g d c tok, s)
  | .barrier d addr phase =>
    (match s.barrierKey addr with
     | some k =>
       if s.poisoned k 16 then (none, s.consumePoison g)
       else match barrierResult t.levels phase (s.readMem k 16) with
         | some v => done s d v
         | none => (none, s)
     | none =>
       match s.remoteWord g addr with
       | (some (bs, bad), s) => if bad then (none, s.consumePoison g) else (match barrierResult t.levels phase bs with
         | some v => done s d v
         | none => (none, s))
       | (none, s) => (none, s))
  | .gang d n =>
    (match t.gang with
     | none => done s d 0
     | some k =>
       let s := s.gangAdvance k
       match Assoc.find s.gangs k with
       | some q => if n ≤ q.generations then done s d (wordN q.ended) else (none, s)
       | none => done s d 0)
  | .scope d key =>
    (match s.scope key with
     | none => done s d 1
     | some r => if r.state == .closed || r.state == .cancelled then done s d r.waitResult else (none, s))
  | .idle seen => if seen < (s.tile gt).inbox.msgEnds then (some (s.complete g id), s) else (none, s)
  | .tlb left => if left.isEmpty then (some (s.complete g id), s) else (none, s)
  | .ending _ => if s.workDone g then (some (s.post (.endCommit g)), s) else (none, s.confirmSlot g)
  | .settled d v => done s d v
/-- A SEND whose token has left in part: it goes on even while its slot is being saved (spec/13 R282). -/
def Wait.sending : Wait → Bool
  | .send _ _ tok => !tok.tail
  | _ => false
/-- A wait of a lockstep member that has met its condition has still to issue, with its gang, in the gang cycle in which it was late (spec/02
R46, R47): the slot is back in ISSUE at the same instruction. -/
def State.ready (s : State) (g : Nat) (w : Wait) : State :=
  s.onSlot g (fun t => { t with state := t.active, wait := (match w with
    | .settled _ _ => some w
    | _ => none) })
/-- WAIT_COMPLETE (spec/02 R35, R55): a BLOCKED wait whose condition is met completes outside the rotation; a message that
waits is handled first when the condition is not met; else the wait goes on. -/
def execWaitComplete (slot : Nat) (s : State) : Host.Outcome State Fault Refusal :=
  let t := s.slot slot
  .next (match t.state, t.wait with
    | .blocked, some w =>
      if (t.frozen && !w.sending) || t.killNotice then s.defer (.waitComplete slot)
      else match s.tryWait slot w with
        | (some s', _) => if s.inLockstep t && w.holdsIssue && !s.issuing then s.ready slot w else s'
        | (none, s) => if s.messageWaits slot then s.enterHandler slot t.wait else s.defer (.waitComplete slot)
    | _, _ => s)

end Sys2Proof.Machine
end

