-- ==== Sys2Proof/Machine/Preempt.lean ====
section
/-! DEFINITION. Pre-emption, save images and resumption (spec/13 R282 to R290), and the dispatcher's pre-emption (spec/14
R311). -/

namespace Sys2Proof.Machine

/-- An event on its way to one of some endpoints of a tile. -/
def Instr.towards (gt : Nat) (m : BitVec 16) (i : Instr) : Bool :=
  match i with
  | .tokenArrival g c _ | .allowanceReturn g c _ | .channelBrokenNotice g c => g == gt && testN m.toNat c
  | _ => false
/-- The MMA that a slot in MATRIX has issued and that has not bound, with every earlier entry complete, may be withdrawn
(spec/13 R282). -/
def Slot.withdraws (t : Slot) : Bool :=
  (t.state == .matrix || t.state == .saving) && t.mbound.isEmpty && (match t.mq with
    | [e] => e.op == .mma || e.op == .mmaSeg
    | _ => false)
/-- A request that keeps a slot from its quiescent point: one still to leave the tile, a barrier or CANCEL request that has not
been answered, writes of an engine, and loads of the trap bank (log 30). -/
def Request.holdsSave (r : Request) : Bool :=
  (match r.kind with
   | .load _ _ | .store _ | .atomic _ _ _ _ => false
   | .message _ _ _ => false
   | .block _ | .barJoin | .barArrive | .barLeave | .cancel _ _ _ => true
   | _ => r.phase == .inTile) || (r.bank == .trap && r.dest.isSome)
/-- A quiescent point (spec/13 R282). -/
def State.quiescent (s : State) (g : Nat) : Bool :=
  let t := s.slot g
  let gt := tileOfSlot g
  let ib := (s.tile gt).inbox
  let gang := match s.gangOf t with
    | some q => !q.lockstep || (q.left.isEmpty && !q.stalled)
    | none => true
  !t.status.tbank && !t.inHandler && t.results.isEmpty && t.vq.isEmpty && t.vbound.isEmpty && t.sq.isEmpty && t.sbound.isEmpty &&
    ((t.mq.isEmpty && t.mbound.isEmpty) || t.withdraws) && t.heldBy.isNone && t.deferred.isNone &&
    (match t.wait with
     | some w => !w.sending
     | none => true) &&
    !(s.agenda ++ s.deferred).any (Instr.towards gt t.grant.ch) &&
    (setBits 16 t.grant.ch.toNat).all (fun c => (s.chan gt c).tokens.all (·.tail)) &&
    !(ib.owner == some (g % 4) && decide (ib.taken < ib.arrived)) &&
    s.requests.all (fun r => r.task != t.task || r.orphan || !r.holdsSave) && gang
/-- SAVE_BEGIN (spec/13 R282 to R284): at a quiescent point of every slot of the unit the slots enter SAVING. A wait whose
condition has been met ends first. A SLOT.SAVE that found a slot of the unit in its trap bank begins (R267). -/
def execSaveBegin (slot : Nat) (s : State) : Host.Outcome State Fault Refusal :=
  let t := s.slot slot
  .next (
    if t.freeze.isNone then
      (match s.requests.find? (fun r => r.kind == .slotSave t.task && r.phase == .left && !r.remote) with
       | some q => if t.task = 0 then s else s.slotSave q.id q.part q.task t.task
       | none => s)
    else if t.state == .saving then s
    else match t.wait with
      | some (.settled d v) => (s.complete slot (fun t => t.setX d v)).post (.saveBegin slot)
      | _ =>
        let unit := s.saveUnit slot
        if unit.all (fun m => s.quiescent m && (s.slot m).freeze.isSome && !(s.slot m).killNotice) then
          unit.foldl (fun s m => (s.onSlot m (fun t => { t with state := .saving })).post (.saveComplete m)) s
        else (s.confirmSlot slot).defer (.saveBegin slot))

/-- What a kernel has saved of its resources (spec/13 R285, R288): those that its masks name, and its generators. -/
def Kernel.saves (k : Kernel) : Grant := { k.save with ag := k.use.ag }
/-- The resources whose contents the image of a slot's task holds: of those that it shares, the ones that no member of its gang on the
same tile and earlier in (DY, DX, slot) order has saved (spec/13 R284). -/
def State.saveMask (s : State) (unit : List Nat) (g : Nat) : Grant :=
  let t := s.slot g
  match s.slotKernel g with
  | none => Grant.none
  | some k =>
    let earlier := unit.filter (fun m => tileOfSlot m == tileOfSlot g && m % 4 < g % 4 && (s.slot m).gang == t.gang)
    let others := earlier.foldl (fun (q : Grant) m => match s.slotKernel m with
      | some o => q.join (o.share.meet o.saves)
      | none => q) Grant.none
    k.saves.minus (k.share.meet others)
/-- The scratchpad ranges of a task that its image saves (spec/13 R285): offset and length. -/
def State.savedRanges (s : State) (g : Nat) : List (Nat × Nat) :=
  let up := fun (n : Nat) => (n + 63) / 64 * 64
  [(0x3FC000 + 256 * (g % 4), 256)] ++
    (match s.taskOf (s.slot g).task with
     | some r => r.ranges.map (fun q => (q.1, up q.2))
     | none => []) ++
    (match s.slotKernel g with
     | some k => (k.svsp.filter (fun q => q.2 != 0)).map (fun q => (q.1, up q.2))
     | none => [])
/-- The pending requests of a slot's task, whose replies the image takes (spec/13 R287). -/
def State.pendingOf (s : State) (g : Nat) : List Request :=
  ((s.outstanding g).filter (fun r => r.dest.isSome)).take 16
/-- A pending entry (spec/13 Table 13.14). -/
def pendingEntry (r : Request) : Bytes :=
  let reg := match r.dest with
    | some d => d.val
    | none => 0
  let ext := match r.kind with
    | .load _ e => e
    | _ => 0xF
  zeros 8 ++ [BitVec.ofNat 8 (reg + 32 * bit (r.bank == .handler)), 1, BitVec.ofNat 8 (bit r.acq), BitVec.ofNat 8 ext] ++
    toBytes 4 (r.id % 2 ^ 32)
/-- An endpoint's record and, for a receiver, its occupied entries, oldest first (spec/13 R285). -/
def State.endpointImage (s : State) (gt c : Nat) : Bytes :=
  let e := s.chan gt c
  let size := e.entryBeats * 64
  let rec_ := toBytes 8 (e.recordWord c).toNat ++ toBytes 4 (if e.side == .receiver then e.taken else e.count) ++
    toBytes 4 (match e.held with
      | some q => q % (e.depth + 1) + 1
      | none => 0) ++ toBytes 4 e.qoff
  let entries := e.held.toList ++ e.tokens.map (·.seq)
  padTo 64 rec_ ++ (if e.side == .receiver then entries.flatMap (fun q => s.readMem (sramKey gt (e.entry q)) size) else [])
/-- A generator's section (spec/13 R285): its commands, without a request that its port is executing. -/
def Gen.image (q : Gen) (n : Nat) : Bytes :=
  let cs := q.queue.filter (fun c => !c.inner)
  toBytes 8 (n + 2 ^ 8 * cs.length + 2 ^ 32 * q.ticket.toNat) ++ cs.flatMap (fun c =>
    padTo 64 c.block ++ toBytes 4 c.ticket.toNat ++ zeros 4 ++ toBytes 8 c.progress)
/-- A flow's registers x0 to x31. -/
def Flow.xBytes (f : Flow) : Bytes := f.x.toList.flatMap (fun v => toBytes 8 v.toNat)
/-- A flow's mask registers. -/
def Flow.mBytes (f : Flow) : Bytes := f.m.toList.flatMap (fun v => toBytes 8 v.toNat)
/-- The control block (spec/13 Table 13.13). -/
def State.controlBlock (s : State) (g : Nat) : Bytes :=
  let t := s.slot g
  let now := if s.inLockstep t then s.gangClock t else s.cycle
  let hold := match t.hold with
    | some c => 2 ^ 31 + (c - now)
    | none => 0
  let level := fun (i : Nat) => match t.main.loops[i]? with
    | some l => toBytes 4 l.first ++ toBytes 4 l.last
    | none => zeros 8
  toBytes 8 t.main.pc ++ toBytes 8 t.prec.toNat ++ toBytes 8 t.rm.toNat ++ toBytes 8 t.flags.toNat ++ toBytes 8 t.seed.toNat ++
    toBytes 4 t.srseq.toNat ++ toBytes 4 (hold + 2 ^ 30 * bit t.expired) ++ toBytes 8 t.main.lc0.toNat ++ toBytes 8 t.main.lc1.toNat ++
    level 0 ++ level 1 ++ [BitVec.ofNat 8 t.main.loops.length] ++ zeros 7 ++ toBytes 8 t.handler.lc0.toNat ++
    toBytes 8 t.handler.lc1.toNat ++ toBytes 8 t.umat.toNat ++ toBytes 8 t.uvec.toNat ++ toBytes 8 t.usel.toNat
/-- The GANG.SYNC count of a saved task: a GANG.SYNC that waits is issued again (spec/13 R282). -/
def Slot.savedSyncs (t : Slot) : Nat :=
  match t.wait with
  | some (.gang _ _) => t.gangSyncs - 1
  | _ => t.gangSyncs
/-- The fixed area of a save image behind its header (spec/13 Table 13.11). -/
def State.fixedArea (s : State) (g : Nat) (record : Option Bytes) : Bytes :=
  let t := s.slot g
  let gt := tileOfSlot g
  let vs := fun (v : Vector VReg 32) => v.toList.flatMap (fun r => toBytes 256 r.toNat)
  let bars := t.memberships.flatMap (fun m => toBytes 8 m.addr.toNat ++ toBytes 2 (m.arrived.getD 0).toNat ++ [1] ++ zeros 5)
  padTo 64 (record.getD []) ++ t.main.xBytes ++ t.handler.xBytes ++ t.main.mBytes ++ t.handler.mBytes ++ s.controlBlock g ++
    padTo 512 (toBytes 8 t.sel.cfg.toNat ++ toBytes 128 t.sel.dead.toNat ++ toBytes 128 t.sel.win.toNat ++ toBytes 128 t.sel.grp.toNat) ++
    padTo 64 bars ++
    padTo 64 ((s.tile gt).k.toList.flatMap (fun k => toBytes 2 k.toNat) ++ toBytes 8 t.savedSyncs) ++
    padTo 256 ((s.pendingOf g).flatMap pendingEntry) ++ zeros 256 ++ vs t.v ++ (if isSTile gt then vs t.hv else zeros 8192)
/-- The save image of a slot's task (spec/13 R285, R286); `unit` are the slots saved with it. -/
def State.saveImage (s : State) (unit : List Nat) (g : Nat) (held : Bool) (record : Option Bytes) : Bytes :=
  let t := s.slot g
  let gt := tileOfSlot g
  let tile := s.tile gt
  let m := s.saveMask unit g
  let acc := (setBits 64 m.acc.toNat).flatMap (fun n => s.accImage gt n)
  let fifo := (setBits 4 m.qa.toNat).flatMap (fun q =>
    let full := (vget tile.fifos q).filter (·.full)
    toBytes 8 full.length ++ full.flatMap (fun p => Memory.read p.image 0 imageBytes))
  let lat := (setBits 4 m.bl.toNat).flatMap (fun b => Memory.read (vget tile.latches b).image 0 imageBytes)
  let chans := (setBits 16 (m.ch &&& t.grant.ch).toNat).flatMap (s.endpointImage gt)
  let gens := (setBits 8 m.ag.toNat).flatMap (fun a => (vget tile.gens a).image a)
  let ranges := s.savedRanges g
  let sp := toBytes 8 ranges.length ++ ranges.flatMap (fun r => toBytes 4 r.1 ++ toBytes 4 r.2 ++ s.readMem (sramKey gt r.1) r.2)
  let o1 := 0x4800
  let o2 := o1 + acc.length
  let o3 := o2 + fifo.length
  let o4 := o3 + lat.length
  let o5 := o4 + chans.length
  let o6 := o5 + gens.length
  let shared := match s.slotKernel g with
    | some k => m.meet k.share != Grant.none
    | none => false
  let flags := bit held + 2 * bit t.withdraws + 4 * bit (isSTile gt) + 8 * bit shared
  let head := toBytes 4 0x5A710001 ++ toBytes 2 1 ++ [BitVec.ofNat 8 flags, 0] ++ toBytes 4 (o6 + sp.length) ++
    [o1, o2, o3, o4, o5, o6].flatMap (toBytes 4) ++ zeros 4 ++ toBytes 8 t.task.toNat ++
    toBytes 8 (if s.inLockstep t then s.gangClock t else 0) ++
    toBytes 4 (s.mgmt.package * 256 + gt + 2 ^ 18 * (g % 4)) ++ zeros 4
  sealImage (head ++ s.fixedArea g record ++ acc ++ fifo ++ lat ++ chans ++ gens ++ sp)

/-- The requests of a saved task: each pending one is registered with its entry of the image; the others go on (spec/13 R287). -/
def State.registerPending (s : State) (g : Nat) (image : Word) : State :=
  let pend := (s.pendingOf g).map (·.id)
  let s := s.dropIssueReads g
  { s with requests := s.requests.map (fun r =>
    if r.slot == g && !r.orphan then
      { r with slot := noSlot, image := if pend.contains r.id then some (image, pend.idxOf r.id) else none } else r) }
/-- The endpoints of a tile that the kernels of a unit declare saved. -/
def State.keptChans (s : State) (unit : List Nat) (gt : Nat) : BitVec 16 :=
  unit.foldl (fun (m : BitVec 16) o => if tileOfSlot o = gt then m ||| (match s.slotKernel o with
    | some k => k.save.ch
    | none => 0) else m) 0
/-- A command as it stands while its task is pre-empted (spec/09 R210, spec/15 R325): its next segment is the first that was not completed,
and it is no longer stopped. -/
def EngineCmd.parked (c : EngineCmd) : EngineCmd :=
  { c with fill := none, ctx := none, stop := none, asking := false, seg := if c.kind = 7 then 0 else c.seg }
/-- What a tile's generator has asked for and has not used, dropped. -/
def State.dropEngineReads (s : State) (gt a : Nat) : State :=
  { s with requests := s.requests.filter (fun r => !(r.entry == gt * 8 + a && r.kind.isPiece &&
      (vget (s.tile gt).gens a).queue.any (fun c => s.engineSource gt a c == r.src && c.task == r.task))) }
/-- A slot and the resources of its grant given up by a task that is pre-empted (spec/13 R283 step 5). -/
def State.leaveSlot (s : State) (g : Nat) : State :=
  let t := s.slot g
  let gt := tileOfSlot g
  let s := (s.closeInbox g false).clearAnswers g
  let others := [0, 1, 2, 3].map (fun i => gt * 4 + i) |>.filter (· != g)
  let held := others.foldl (fun (m : BitVec 16) o => m ||| (s.slot o).grant.ch) 0
  let s := (setBits 16 t.grant.ch.toNat).foldl (fun s c => if testN held.toNat c then s else s.unbind gt c) s
  let s := s.onTile gt (fun u => { u with reserved := u.reserved.filter (fun r => r.1 != g % 4) })
  let s := s.onSlot g (fun t => t.vacated .empty)
  match t.gang with
  | none => if (s.tile gt).fixed then State.unfix (others.foldl (fun s o => s.unreserve o) s) gt else s
  | some k =>
    match Assoc.find s.gangs k with
    | none => s
    | some q =>
      let s := s.onGang k (fun q => { q with granted := Assoc.erase q.granted gt })
      if q.slots.any (fun m => (s.slot m).task != 0) then s
      else
        let s := q.slots.foldl (fun s m => s.unreserve m) s
        if q.fixed then q.slots.foldl (fun s m => s.unfix (tileOfSlot m)) s else s
/-- The slot and resources of a saved task released (spec/13 R283 step 5, R288): endpoints that are not saved become BROKEN. -/
def State.releaseSaved (s : State) (m : Grant) (kept : BitVec 16) (g : Nat) : State :=
  let t := s.slot g
  let gt := tileOfSlot g
  let s := (setBits 16 (t.grant.ch &&& ~~~kept).toNat).foldl (fun s c =>
    (s.closeSender t.part gt c .endCancelled).closeReceiver t.part gt c) s
  let chans := (setBits 16 (m.ch &&& t.grant.ch).toNat).map (fun c => (c, s.chan gt c))
  let gens := (setBits 8 m.ag.toNat).map (fun a =>
    let q := vget (s.tile gt).gens a
    (a, ({ q with queue := q.queue.map EngineCmd.parked } : Gen)))
  let s := s.onTask t.task (fun r => { r with parkedChans := chans, parkedGens := gens, parkedBars := t.memberships })
  let s := (setBits 8 m.ag.toNat).foldl (fun s a => (s.dropEngineReads gt a).onTile gt (fun u =>
    { u with gens := vset u.gens a { queue := [], ticket := 0 } })) s
  s.leaveSlot g
/-- A trap record of TASK delivery is logged and sent to the fault-handler tile (spec/13 R278 step 3). -/
def State.reportTrap (s : State) (part scope : Nat) (h : Word) (record : Bytes) : State :=
  let s := s.appendLog part record
  let tile := (s.part part).traptile
  let pkg := bits tile 17 8
  let gt := bits tile 7 0
  if !s.ownsTile part pkg gt then s.cancelHeld h record
  else
    let (id, s) := s.fresh
    let s : State := { s with requests := s.requests ++
      [{ id := id, kind := .message (pkg * 256 + gt) record false, phase := .left, slot := noSlot, task := h, scope := scope, part := part
         src := s.mgmt.package * 4096 + 48 * 16, super := true, addr := 0, target := none, bank := .main, dest := none, acq := false
         rel := false, level := 0, orphan := false, image := none, remote := pkg != s.mgmt.package
         seq := s.nextSeq (s.mgmt.package * 4096 + 48 * 16) (pkg * 4096), result := none }] }
    if pkg = s.mgmt.package then s.post (.messageArrival gt record (some id))
    else s.sendPacket (reqPacket 0x05 (s.mgmt.package * 4096 + 48 * 16) part pkg gt true false 0 (wordN id) record)
/-- A pre-emption abandoned (spec/13 R283 step 3): the slots of the unit go on with nothing changed. TASK delivery becomes
CANCEL (R278). -/
def State.abandon (s : State) (unit : List Nat) : State :=
  let recs := unit.filterMap (fun m => ((s.slot m).freeze.bind (·.record)).map (fun r => (m, r)))
  let s := unit.foldl (fun s m =>
    let t := s.slot m
    let s := (s.holdPeers m false).onSlot m (fun t => { t with
      freeze := none
      state := if t.state == .saving then (if t.wait.isSome then .blocked else if t.withdraws then .matrix else t.active) else t.state })
    let s := s.onPart t.part (fun p => { p with saves := p.saves.filter (fun r => r.2.2 != t.task) })
    let s := s.onTask t.task (fun r => { r with noVictim := s.cycle + 65536 })
    (s.countTile (tileOfSlot m) 3).answerSaves t.task (failure 17)) s
  recs.foldl (fun s e =>
    match s.taskOf (s.slot e.1).task with
    | none => s
    | some r =>
      let flags := (byteAt e.2 1).toNat
      let s := s.appendLog r.part (e.2.take 1 ++ [BitVec.ofNat 8 (flags / 4 * 4 + 2)] ++ (e.2.drop 2).take 54 ++ zeros 8)
      let s := s.cancelScope r.scope 1
      s.killSlot e.1 (match s.scope r.scope with
        | some q => q.owner
        | none => r.scope)) s
/-- PREEMPT_ABANDON (spec/13 R283 step 3): no quiescent point has come within PQLIMIT cycles. A slot in its trap bank has not
begun (R273). -/
def execPreemptAbandon (slot : Nat) (s : State) : Host.Outcome State Fault Refusal :=
  let t := s.slot slot
  .next (match t.freeze with
    | none => s
    | some f =>
      if t.state == .saving then s
      else if t.status.tbank then
        (s.onSlot slot (fun t => { t with freeze := some { f with since := s.cycle } })).defer (.preemptAbandon slot)
      else if s.cycle < f.since + (s.part t.part).pqlimit.toNat then s.defer (.preemptAbandon slot)
      else s.abandon (s.saveUnit slot))
/-- One image written (spec/13 R283 step 4) and its pending replies registered; none, with the first address that fails, when it cannot
be written. -/
def State.saveOne (s : State) (unit : List Nat) (g : Nat) : Except Word State :=
  let t := s.slot g
  match t.freeze with
  | none => .ok s
  | some f =>
    let addr := wordN f.image
    let record := f.record.map (fun r => r.take 56 ++ toBytes 8 f.image)
    let img := s.saveImage unit g f.held record
    match s.deviceBlock t.part (s.sourceNo (handleDie t.task * 64 + 49) 0) addr img with
    | none => .error ((s.saveMapped t.part f.image img.length).getD addr)
    | some s' =>
      let s' := (s'.registerPending g addr).onTask t.task (fun r => { r with
        saved := addr, syncs := t.savedSyncs, target := none, kept := s.saveMask unit g, guarded := protectedBytes img })
      .ok (s'.onSlot g (fun t => { t with freeze := some { f with written := true } }))
/-- What follows once a task has been saved and its slot is EMPTY: the reply of SLOT.SAVE, the report of TASK delivery, the
dispatcher's re-posting, or the end that its cancelled scope has been waiting for (spec/13 R278, R281, R290; spec/10 R244). -/
def State.afterSave (s : State) (h : Word) (f : Freeze) (killed : Bool) : State :=
  match s.taskOf h with
  | none => s
  | some r =>
    let s := s.answerSaves h r.saved
    let s := match f.record with
      | some rec_ => s.reportTrap r.part r.scope h (rec_.take 56 ++ toBytes 8 f.image)
      | none => s
    let s := if f.held || f.record.isSome then s else s.postTask h
    if killed then s.post (.cancelBroadcast (handleDie h) (handleEntry h)) else s
/-- The images of a unit stand: its tasks are PREEMPTED and their slots EMPTY (spec/13 R283 step 5, R284). -/
def State.unitSaved (s : State) (unit : List Nat) : State :=
  let done := unit.filterMap (fun m => ((s.slot m).freeze).map (fun f => ((s.slot m).task, f, (s.slot m).killNotice, m)))
  let s' := done.foldl (fun s' e => s'.onTask e.1 (fun r => { r with state := .preempted, held := e.2.1.held, ready := .none })) s
  let s' := unit.foldl (fun s' m => s'.releaseSaved (s.saveMask unit m) (s.keptChans unit (tileOfSlot m)) m) s'
  let s' := done.foldl (fun s e => s.afterSave e.1 e.2.1 e.2.2.1) s'
  unit.foldl (fun s' m => s'.post (.place (dieOf (tileOfSlot m)) (s.slot m).part)) s'
/-- The bytes of a unit's images have still to be performed in another module or the host. -/
def State.imagesOut (s : State) (unit : List Nat) : Bool :=
  unit.any (fun m => match (s.slot m).freeze with
    | some f => s.writesOut (s.slot m).part (wordN f.image) (s.imageSize m)
    | none => false)
/-- SAVE_COMPLETE (spec/13 R283 steps 4 and 5, R284): the images of the unit are written together; once they stand its slots are EMPTY. A
write that fails translation is a Save Fault, and the slots go on (spec/15 R326). -/
def execSaveComplete (slot : Nat) (s : State) : Host.Outcome State Fault Refusal :=
  .next (
    let unit := (s.saveUnit slot).filter (fun m => (s.slot m).state == .saving)
    let finish := fun (s : State) => if s.imagesOut unit then (s.confirmWrites (fun q => q.slot == noSlot && q.task == 0)).later (.saveComplete slot)
      else s.unitSaved unit
    if (s.slot slot).state != .saving then s
    else if unit.all (fun m => ((s.slot m).freeze.map (·.written)).getD false) then finish s
    else match unit.foldl (fun (o : Except Word State) m => o.bind (fun s => s.saveOne unit m)) (.ok s) with
      | .error va => (s.logEvent (s.slot slot).part 0x13 va (s.slot slot).task).abandon unit
      | .ok s' => finish s')

/-- The slot on which a saved task may resume now (spec/13 R289, spec/14 R310): the slot it left, or the lowest free slot of the
tile that SLOT.RESTORE named. A FIXED task in no gang needs the whole tile (spec/02 R37). -/
def State.resumeSlot (s : State) (r : TaskRec) : Option Nat :=
  match s.kernelRec r with
  | none => none
  | some (kidx, k) =>
    let free := fun (g : Nat) => (s.slot g).state == .empty && (s.slot g).task == 0
    let g := match r.target with
      | none => r.loc.filter free
      | some gt => ([0, 1, 2, 3].map (fun i => gt * 4 + i)).find? (fun g => free g && !s.marked g)
    g.filter (fun g =>
      let gt := tileOfSlot g
      let rs := match s.recordTemplate r with
        | some t => t.ranges r.node k.inbox gt
        | none => []
      (!k.fixed || r.gang.isSome || [0, 1, 2, 3].all (fun i => free (gt * 4 + i))) && s.tileTakes r.part gt k.kind && s.codeFits gt [(r.part, r.image, kidx)] && s.grantFits gt k r.gang && s.rangesFree gt rs &&
        (!k.inbox || (s.tile gt).inbox.owner.isNone))
/-- The saved tasks that resume with one (spec/13 R284, R289) and the slots they take: none unless all can. -/
def State.resumePlan (s : State) (h : Word) (r : TaskRec) : Option (List (Word × Nat)) :=
  let unit := s.unitOf h r
  let plan := unit.mapM (fun m => (s.taskOf m).bind (fun q => if q.held then none else (s.resumeSlot q).map (fun g => (m, g))))
  let footprint := match r.gang.bind (fun k => Assoc.find s.gangs k) with
    | some q => if unit.length = 1 && !q.lockstep then [] else q.slots
    | none => []
  if footprint.all (fun g => (s.slot g).state == .empty || ((s.slot g).state == .reserved && (s.slot g).gang == r.gang)) then plan else none
/-- The saved tasks of a plan granted their slots: PLACING, with RESUME to follow (spec/13 R289 step 2). -/
def State.placeResumed (s : State) (r : TaskRec) (plan : List (Word × Nat)) : State :=
  let s := match r.gang.bind (fun k => (Assoc.find s.gangs k).map (fun q => (k, q))) with
    | some (k, q) =>
      let s := q.slots.foldl (fun s g => s.onSlot g (fun u => if u.state == .empty && u.task == 0 && 1 < plan.length then
        { u with state := .reserved, gang := some k } else u)) s
      if q.fixed then q.slots.foldl (fun s g => s.onTile (tileOfSlot g) (fun u => { u with fixed := true })) s else s
    | none => s
  plan.foldl (fun s e =>
    let s := s.onTask e.1 (fun r => { r with state := .placing, ready := .runnable })
    let s := if r.gang.isSome then s.grantSlot e.1 e.2 else s.placeSingle e.1 e.2
    s.post (.resume (handleDie e.1) (handleEntry e.1))) s

/-- A section of an image parsed: FIFO images with their counts. -/
def fifoSections (img : Bytes) : (qs : List Nat) → (o : Nat) → List (Nat × List Bytes)
  | [], _ => []
  | q :: rest, o =>
    let n := min (field img o 8) 4
    (q, (List.range n).map (fun i => (img.drop (o + 8 + i * imageBytes)).take imageBytes)) :: fifoSections img rest (o + 8 + n * imageBytes)
/-- The scratchpad ranges of an image: offset and bytes. -/
def rangeSections (img : Bytes) : (n : Nat) → (o : Nat) → List (Nat × Bytes)
  | 0, _ => []
  | n + 1, o => (field img o 4, (img.drop (o + 8)).take (field img (o + 4) 4)) :: rangeSections img n (o + 8 + field img (o + 4) 4)
/-- Vector registers of an image. -/
def vregsOf (img : Bytes) (o : Nat) : Vector VReg 32 := Vector.ofFn (fun i => BitVec.ofNat 2048 (field img (o + 256 * i.val) 256))
/-- A flow of an image: x0 to x31, m0 to m7. -/
def imageFlow (f : Flow) (img : Bytes) (xo mo lo : Nat) : Flow :=
  { f with x := Vector.ofFn (fun i => if i.val = 0 then 0 else fieldW img (xo + 8 * i.val) 8)
           m := Vector.ofFn (fun i => fieldW img (mo + 8 * i.val) 8)
           lc0 := BitVec.ofNat 32 (field img lo 8), lc1 := BitVec.ofNat 32 (field img (lo + 8) 8) }
/-- The slot of a task with the registers of its image (spec/13 R285, R289). -/
def Slot.restored (t : Slot) (img : Bytes) (now : Nat) (bars : List Membership) : Slot :=
  let c := 0x300
  let hold := field img (c + 44) 4
  let loops := (List.range (byteAt img (c + 80)).toNat).map (fun i =>
    ({ first := field img (c + 64 + 8 * i) 4, last := field img (c + 68 + 8 * i) 4 } : LoopLevel))
  { t with
    main := { imageFlow t.main img 0x80 0x280 (c + 48) with pc := field img c 8, loops := loops }
    handler := imageFlow t.handler img 0x180 0x2C0 (c + 88)
    prec := fieldW img (c + 8) 8, rm := fieldW img (c + 16) 8, flags := fieldW img (c + 24) 8, seed := fieldW img (c + 32) 8
    srseq := BitVec.ofNat 32 (field img (c + 40) 4)
    hold := if testN hold 31 then some (now + bitsN hold 12 0) else none, expired := testN hold 30
    umat := fieldW img (c + 104) 8, uvec := fieldW img (c + 112) 8, usel := fieldW img (c + 120) 8
    sel := { cfg := fieldW img 0x380 8, issued := fieldW img 0x380 8, dead := BitVec.ofNat 1024 (field img 0x388 128)
             win := BitVec.ofNat 1024 (field img 0x408 128), grp := BitVec.ofNat 1024 (field img 0x488 128) }
    memberships := bars, gangSyncs := field img 0x5E0 8
    v := vregsOf img 0x800, hv := vregsOf img 0x2800 }
/-- An endpoint of a resumed task: as it was saved, on its new tile and with the other end as it stands; its backing entries
come from the image (spec/13 R289 step 3). -/
def State.restoreChan (s : State) (gt c : Nat) (e : Endpoint) : State :=
  let bound := s.chan gt c
  let s := s.onChan gt c (fun _ => { e with peer := bound.peer, frozen := false })
  match bound.side, bound.peer with
  | .receiver, some (pkg, g, r) =>
    if pkg = s.mgmt.package then s.onChan g r (fun q => { q with frozen := false })
    else s.tell ((s.tile gt).part.getD 0) [pkg] .hold [bound.serial, bound.chan, 0]
  | _, _ => s
/-- The backing entries of an image's channel section written into the queues (spec/13 R285). -/
def State.restoreEntries (s : State) (gt : Nat) (img : Bytes) : List (Nat × Endpoint) → (o : Nat) → State
  | [], _ => s
  | (_, e) :: rest, o =>
    if e.side != .receiver then s.restoreEntries gt img rest (o + 64)
    else
      let n := field img (o + 6) 2
      let size := e.entryBeats * 64
      let seqs := (e.held.toList ++ e.tokens.map (·.seq)).take n
      let s := ((List.range n).zip seqs).foldl (fun s q =>
        s.writeMem (sramKey gt (e.entry q.2)) ((img.drop (o + 64 + q.1 * size)).take size)) s
      s.restoreEntries gt img rest (o + 64 + n * size)
/-- The state of a saved task brought back into the slot it has been granted (spec/13 R289 steps 2 to 5). -/
def State.restore (s : State) (h : Word) (r : TaskRec) (g : Nat) (img : Bytes) : State :=
  let gt := tileOfSlot g
  match s.slotKernel g with
  | none => s
  | some k =>
    let now := match s.gangOf (s.slot g) with
      | some q => if q.lockstep then field img 48 8 else s.cycle
      | none => s.cycle
    let m := r.kept
    let accs := setBits 64 m.acc.toNat
    let s := ((List.range accs.length).zip accs).foldl (fun s e =>
      s.accLoad gt e.2 ((img.drop (field img 12 4 + e.1 * accImageBytes)).take accImageBytes)) s
    let s := (fifoSections img (setBits 4 m.qa.toNat) (field img 16 4)).foldl (fun s e =>
      s.onTile gt (fun u => { u with fifos := vset u.fifos e.1 (e.2.map (fun b =>
        { fill := 0, full := true, image := Memory.cells 0 b, poison := false })) })) s
    let lats := setBits 4 m.bl.toNat
    let s := ((List.range lats.length).zip lats).foldl (fun s e =>
      let l : Latch := { image := Memory.cells 0 ((img.drop (field img 20 4 + e.1 * imageBytes)).take imageBytes), poison := false }
      s.onTile gt (fun u => { u with latches := vset u.latches e.2 l })) s
    let s := (setBits 16 (s.slot g).grant.ch.toNat).foldl (fun s c =>
      if r.parkedChans.any (fun e => e.1 == c) || testN k.save.ch.toNat c then s
      else s.onChan gt c (fun e => { e with state := .broken, tokens := [], ended := if e.side == .receiver then some .endCancelled else none })) s
    let s := r.parkedChans.foldl (fun s e => s.restoreChan gt e.1 e.2) s
    let s := s.restoreEntries gt img r.parkedChans (field img 24 4)
    let here := fun (q : Gen) => ({ q with queue := q.queue.map (fun (c : EngineCmd) => ({ c with slot := g } : EngineCmd)) } : Gen)
    let s := r.parkedGens.foldl (fun s e =>
      (s.onTile gt (fun u => { u with gens := vset u.gens e.1 (here e.2) })).post (.engineSegment gt e.1 [] false)) s
    let s := r.parkedGens.foldl (fun s e => if e.2.queue.any (fun c => c.code.isSome) then s.post (.engineComplete gt e.1) else s) s
    let s := (setBits 16 k.use.k.toNat).foldl (fun s i => s.setCounter gt i (BitVec.ofNat 16 (field img (0x5C0 + 2 * i) 2))) s
    let s := (rangeSections img (min (field img (field img 32 4) 8) 9) (field img 32 4 + 8)).zipIdx.foldl (fun s e =>
      s.writeMem (sramKey gt (if e.2 = 0 then 0x3FC000 + 256 * (g % 4) else e.1.1)) e.1.2) s
    let s := s.onSlot g (fun t => t.restored img now r.parkedBars)
    let s := if (s.slot g).hold.isSome then s.post (.killHoldExpiry g) else s
    -- replies (R289 step 4)
    let s := (List.range 16).foldl (fun s i =>
      let o := 0x600 + 16 * i
      if (byteAt img (o + 9)).toNat = 2 then
        let reg := (byteAt img (o + 8)).toNat
        s.onSlot g (fun t => t.writeX (if testN reg 5 then .handler else .main) (Fin.ofNat 32 reg) (fieldW img o 8))
      else s) s
    let s : State := { s with requests := s.requests.map (fun (q : Request) =>
      if q.task == h && q.slot == noSlot && !q.orphan && q.dest.isSome then { q with slot := g, image := none } else q) }
    (s.onTask h (fun r => { r with saved := 0, parkedChans := [], parkedGens := [], parkedBars := [], target := none })).onPart r.part
      (fun p => { p with saves := p.saves.filter (fun q => q.2.2 != h) })
/-- Every store and atomic that a saved task had accepted has been performed (spec/13 R289 step 1). -/
def State.storesPerformed (s : State) (h : Word) : Bool :=
  s.requests.all (fun r => r.task != h || r.phase == .performed || (match r.kind with
    | .store _ | .block _ | .atomic _ _ _ _ => false
    | _ => true))
/-- The slot that the header of a task's image names (spec/13 Table 13.12 FROM). -/
def TaskRec.from_ (r : TaskRec) : Nat := field r.guarded 52 4 % 256 * 4 + field r.guarded 52 4 / 2 ^ 18 % 4
/-- A resumption whose image cannot be read (spec/15 R326): the tasks of the unit are PREEMPTED and HELD, and a Save Fault is logged. -/
def State.resumeFails (s : State) (part : Nat) (h va : Word) (unit : List (Word × TaskRec)) : State :=
  unit.foldl (fun s e =>
    let s := match e.2.loc with
      | some g => if (s.slot g).task == e.1 then (s.leaveSlot g).post (.place (dieOf (tileOfSlot g)) part) else s
      | none => s
    s.onTask e.1 (fun r => { r with state := .preempted, held := true, ready := .none, target := none, loc := some r.from_ }))
    (s.logEvent part 0x13 va h)
/-- The tasks of a unit resume together with their images (spec/13 R289). -/
def State.resumeUnit (s : State) (l : List (Word × TaskRec × Nat × Bytes)) : State :=
  let s := l.foldl (fun s e => s.restore e.1 e.2.1 e.2.2.1 e.2.2.2) s
  let s := l.foldl (fun s e =>
    (s.onSlot e.2.2.1 (fun t => { t with state := .issue })).onTask e.1 (fun r => { r with state := .running, ready := .none })) s
  match l.head?.bind (fun e => e.2.1.gang.bind (fun k => (Assoc.find s.gangs k).map (fun q => (k, q)))) with
  | some (k, q) =>
    if q.lockstep then
      s.onGang k (fun q => { q with clock := (l.map (fun e => field e.2.2.2 48 8)).foldl max 0, left := [], stalled := false, resumeAt := none })
    else s
  | none => s
/-- RESUME (spec/13 R289): when every task that resumes with this one is PLACING in its slot and its stores have been performed,
their state comes back from their images and they issue again, a lockstep gang at its GCLOCK. For a task that is held it goes on with the
SLOT.RESTORE that waits for the image (R281). -/
def execResume (die entry : Nat) (s : State) : Host.Outcome State Fault Refusal :=
  let h := s.handleOf die entry
  let ev := Instr.resume die entry
  .next (match s.taskOf h with
    | none => s
    | some r =>
      if r.saved = 0 then s
      else if r.state == .preempted then
        (match s.requests.findSome? (fun q => match q.kind with
            | .slotRestore t how => if t == h && q.phase == .left && !q.remote then some (q, how) else none
            | _ => none) with
         | some (q, how) => s.slotRestore q.id q.part h how
         | none => s)
      else if r.state != .placing then s
      else
        let unit := (s.unitOf h r).filterMap (fun m => (s.taskOf m).map (fun q => (m, q)))
        let placed := unit.mapM (fun e => match e.2.state, e.2.loc with
          | .placing, some g => if s.storesPerformed e.1 && (s.slot g).task == e.1 then some (e.1, e.2, g) else none
          | _, _ => none)
        match placed with
        | none => (s.confirmWrites (fun q => unit.any (fun e => e.1 == q.task))).defer ev
        | some l =>
          let images := l.map (fun e => (e, s.imageRead e.2.1.part e.1 e.2.1.saved))
          let done := images.foldl (fun s x => s.readDone (s.imageIssuer x.1.2.1.part x.1.1) x.2) s
          match images.find? (fun x => x.2.fails) with
          | some x => done.resumeFails r.part x.1.1 (x.2.at_.getLastD x.1.2.1.saved) unit
          | none =>
            match images.findSome? (fun x => s.readWaits (s.imageIssuer x.1.2.1.part x.1.1) x.2 ev) with
            | some s => s
            | none => done.resumeUnit (images.map (fun x => (x.1.1, x.1.2.1, x.1.2.2, x.2.bytes))))

/-- A slot given up, as the placer tries it (spec/14 R311), with what a FIXED task or a gang's footprint holds once its last task has
gone. -/
def State.vacate (s : State) (g : Nat) : State :=
  let k := (s.slot g).gang
  let fixed := (s.tile (tileOfSlot g)).fixed
  let clear := fun (s : State) (g : Nat) =>
    (s.onTile (tileOfSlot g) (fun u => { u with
      reserved := u.reserved.filter (fun r => r.1 != g % 4), fixed := false
      inbox := if u.inbox.owner == some (g % 4) then { u.inbox with owner := none } else u.inbox })).setSlot g Slot.reset
  match k with
  | none => if fixed then [0, 1, 2, 3].foldl (fun s i => clear s (tileOfSlot g * 4 + i)) s else clear s g
  | some k =>
    let s := (s.setSlot g Slot.reset).onTile (tileOfSlot g) (fun u => { u with reserved := u.reserved.filter (fun r => r.1 != g % 4) })
    match Assoc.find s.gangs k with
    | some q => if q.slots.any (fun m => (s.slot m).task != 0) then s else q.slots.foldl clear s
    | none => clear s g
/-- The units that may be pre-empted for a task of a class (spec/14 R311), in order of preference: highest class, latest
dispatch, highest source number. -/
def State.victims (s : State) (part cls : Nat) : List (List Nat) :=
  let ok := fun (g : Nat) =>
    let t := s.slot g
    t.freeze.isNone && t.state != .saving && !t.settling && !t.status.tbank && (match s.taskOf t.task with
      | some r => r.state == .running && r.part == part && decide (cls < r.cls ∧ r.noVictim ≤ s.cycle) && s.scopeState r.scope == .active
      | none => false)
  let units := (s.slots.filter (fun e => ok e.1)).filterMap (fun e =>
    let u := s.saveUnit e.1
    if u.all ok && u.head? == some e.1 then some u else none)
  let key : List Nat → Nat × Nat × Nat := fun u =>
    let rs := u.filterMap (fun g => s.taskOf (s.slot g).task)
    ((rs.map (·.cls)).foldl max 0, (rs.map (·.placedAt)).foldl max 0, u.foldl max 0)
  let lt := fun (a b : List Nat) => decide ((key b).1 < (key a).1) || ((key a).1 == (key b).1 &&
    (decide ((key b).2.1 < (key a).2.1) || ((key a).2.1 == (key b).2.1 && decide ((key b).2.2 ≤ (key a).2.2))))
  units.mergeSort lt
/-- A CHOSEN task finds a place. -/
def State.fits (s : State) (die : Nat) (h : Word) (r : TaskRec) : Bool :=
  if r.saved ≠ 0 then (s.resumePlan h r).isSome
  else if r.gidx.isSome then (s.findGang die r).isSome else (s.findSingle die r).isSome
/-- The victims picked: the first unit whose release makes a footprint fit, else the shortest run of units whose release
together does. -/
def State.pickVictims (s : State) (die : Nat) (h : Word) (r : TaskRec) : List (List Nat) :=
  let vs := s.victims r.part r.cls
  let without := fun (us : List (List Nat)) => us.flatten.foldl State.vacate s
  match vs.find? (fun u => (without [u]).fits die h r) with
  | some u => [u]
  | none => ((((List.range vs.length).map (fun n => vs.take (n + 1))).find? (fun us => (without us).fits die h r))).getD []
/-- The CHOSEN task of a partition on a die (spec/14 R301). -/
def State.chosen (s : State) (die part : Nat) : Option (Nat × TaskRec) :=
  (s.die die).tun.find? (fun e => e.2.part == part && e.2.ready == .chosen && e.2.state == .ready)
/-- A unit is pre-empted for the dispatcher; one that cannot be saved is not chosen again for the 65,536 cycles of an abandoned
pre-emption (DESIGN CHOICE, log 74). -/
def State.displace (s : State) (unit : List Nat) : State :=
  match unit.head? with
  | none => s
  | some g =>
    let o := s.preempt g false none
    if o.1 then o.2
    else unit.foldl (fun s m => s.onTask (s.slot m).task (fun r => { r with noVictim := s.cycle + 65536 })) o.2
/-- A victim of the dispatcher is still on its way out. -/
def State.displacing (s : State) (part : Nat) : Bool :=
  s.slots.any (fun e => e.2.part == part && (match e.2.freeze with
    | some f => !f.held && f.record.isNone
    | none => false))
/-- PREEMPT_TRIGGER (spec/14 R311): a task that has been CHOSEN for 4,096 cycles without a place displaces tasks of lower
classes; while victims are on their way out it waits for them. -/
def execPreemptTrigger (die part : Nat) (s : State) : Host.Outcome State Fault Refusal :=
  .next (match s.chosen die part with
    | none => s
    | some (e, r) =>
      if s.cycle < r.chosenAt + 4096 || s.displacing part then s.later (.preemptTrigger die part)
      else ((s.pickVictims die (s.handleOf die e) r).foldl State.displace s).later (.preemptTrigger die part))

end Sys2Proof.Machine
end

