-- ==== Sys2Proof/Machine/Deadlock.lean ====
section
/-! DEFINITION. The deadlock detector (spec/17 R367 to R369): what a snapshot notes of a waiting slot, closed sets, the record of one, and the
snapshots that modules exchange (log 57). -/

namespace Sys2Proof.Machine

/-- The tasks at the two ends of an endpoint's channel: sender and receiver. -/
def State.channelTasks (s : State) (part : Nat) (e : Endpoint) : Word × Word :=
  match (s.instanceOf part e.serial).bind (fun i => (s.templateOf i).bind (fun t => (t.channels[e.chan]?).map (fun c => (i, c)))) with
  | some (i, c) => (i.nodes.getD c.snode 0, i.nodes.getD c.rnode 0)
  | none => (0, 0)
/-- The other end of an endpoint's channel, while it is bound on this module. -/
def State.otherEnd (s : State) (e : Endpoint) : Option Endpoint :=
  match e.peer with
  | some (pkg, g, r) => if pkg = s.mgmt.package ∧ s.sameChannel e g r then some (s.chan g r) else none
  | none => none
/-- The other end of an endpoint's channel stands on another module. -/
def State.farEnd (s : State) (e : Endpoint) : Bool := e.peer.any (fun p => p.1 != s.mgmt.package)
/-- A wait to receive counts (spec/17 Table 17.6): the channel is OPEN, and sent equals arrived; of a sender on another module its snapshot
tells. -/
def State.recvCounts (s : State) (e : Endpoint) : Bool :=
  e.state == .opened && (s.farEnd e || (match s.otherEnd e with
    | some q => q.count == e.count
    | none => false))
/-- A wait to send counts: every unit returned has been received. -/
def State.sendCounts (s : State) (e : Endpoint) : Bool :=
  s.farEnd e || (match s.otherEnd e with
    | some q => q.returned == e.taken
    | none => false)
/-- What the other end must show for a wait at an endpoint to count, when it stands on another module: the tokens that have arrived, or the
units received. -/
def State.farNeed (s : State) (e : Endpoint) : List EndCount :=
  if !s.farEnd e then []
  else if e.side == .receiver then [{ serial := e.serial, chan := e.chan, sender := true, count := e.count }]
  else [{ serial := e.serial, chan := e.chan, sender := false, count := e.taken }]
/-- The memberships of a partition's tasks of this module, task by task, those of pre-empted tasks among them. -/
def State.memberList (s : State) (part : Nat) : List (Word × Membership) :=
  ((s.slots.filter (fun e => e.2.task != 0 && e.2.part == part)).flatMap (fun e => e.2.memberships.map (fun m => (e.2.task, m)))) ++
    [0, 1, 2, 3].flatMap (fun d => ((s.die d).tun.filter (fun e => e.2.state != .free && e.2.part == part)).flatMap
      (fun e => e.2.parkedBars.map (fun m => (s.handleOf d e.1, m))))
/-- Those among memberships of a barrier word that have not arrived in a phase: their tasks. -/
def notArrived (l : List (Word × Membership)) (addr : Word) (phase : BitVec 16) : List Word :=
  ((l.filter (fun e => e.2.addr == addr && e.2.arrived != some phase)).map (·.1)).eraseDups
/-- The members of a gang whose GANG.SYNC count is below a generation. -/
def State.belowGeneration (s : State) (gang : Option Nat) (n : Nat) : List Word :=
  ((s.slots.filter (fun e => e.2.task != 0 && e.2.gang == gang && decide (e.2.gangSyncs < n))).map (fun e => e.2.task)) ++
    [0, 1, 2, 3].flatMap (fun d => ((s.die d).tun.filter (fun e => e.2.gang == gang && e.2.state == .preempted && decide (e.2.syncs < n))).map
      (fun e => s.handleOf d e.1))
/-- The slots that make a stalled lockstep gang late (spec/02 R46): those of the gang cycle that are BLOCKED, or still await a
result. -/
def State.lateSlots (s : State) (gang : Gang) : List Nat :=
  gang.slots.filter (fun g => g % 4 == gang.clock % 4 && (s.slot g).task != 0 && ((s.slot g).state == .blocked ||
    !(s.slot g).results.isEmpty || (s.outstanding g).any (fun r => r.dest.isSome)))
/-- EXPECT − ARRIVED of a barrier word of this module (spec/17 Table 17.6). -/
def State.barrierRoom (s : State) (addr : Word) : Option Nat :=
  (s.barrierKey addr).map (fun k => (BarrierWord.ofBytes (s.readMem k 16)).expect - (BarrierWord.ofBytes (s.readMem k 16)).arrived)
/-- What a slot waits for, as a snapshot notes it (spec/17 R367, Table 17.6): none when its wait is not one of those. -/
def State.waitingOf (s : State) (g : Nat) : Option Waiting :=
  let t := s.slot g
  let gt := tileOfSlot g
  let mk := fun (kind index : Nat) (on : List Word) (counts : Bool) (far : List EndCount) =>
    some ({ slot := g, task := t.task, kind := kind, index := index, serial := t.waitSerial, on := on, counts := counts, far := far } : Waiting)
  if t.task = 0 then none
  else match t.state, t.wait with
    | .blocked, some (.recv _ c) => mk 1 c [(s.channelTasks t.part (s.chan gt c)).1] (s.recvCounts (s.chan gt c)) (s.farNeed (s.chan gt c))
    | .blocked, some (.alt _ m) =>
      let cs := setBits 16 m.toNat
      mk 2 0 (cs.map (fun c => (s.channelTasks t.part (s.chan gt c)).1)) (cs.all (fun c => s.recvCounts (s.chan gt c)))
        (cs.flatMap (fun c => s.farNeed (s.chan gt c)))
    | .blocked, some (.send _ c _) => mk 3 c [(s.channelTasks t.part (s.chan gt c)).2] (s.sendCounts (s.chan gt c)) (s.farNeed (s.chan gt c))
    | .blocked, some (.barrier _ a p) =>
      (mk 4 (t.memberships.findIdx (fun m => m.addr == a)) (notArrived (s.memberList t.part) a p) true []).map (fun w =>
        { w with bar := some (a, p, s.barrierRoom a) })
    | .blocked, some (.gang _ n) => mk 5 0 (s.belowGeneration t.gang n) true []
    | _, _ => (match s.gangOf t with
      | some q =>
        if q.lockstep && q.stalled && q.resumeAt.isNone then
          some { slot := g, task := t.task, kind := 6, index := 0, serial := q.clock, on := (s.lateSlots q).map (fun m => (s.slot m).task)
                 counts := true }
        else none
      | none => none)
/-- The highest die that is good: it asks for the exchange of snapshots. -/
def State.lastDie (s : State) : Nat := (([0, 1, 2, 3].filter (fun d => (s.die d).good && !s.lostDie d)).getLast?).getD 0
/-- The ends of a partition's channels whose other end stands on another module, with what a wait there needs of them: the tokens sent, or the
units returned. -/
def State.farEnds (s : State) (part : Nat) : List EndCount :=
  (List.range 256).flatMap (fun gt => if (s.tile gt).part != some part then [] else
    ((List.range 16).map (fun c => s.chan gt c)).filterMap (fun e =>
      if !s.farEnd e then none
      else some { serial := e.serial, chan := e.chan, sender := e.side == .sender, count := if e.side == .sender then e.count else e.returned }))
/-- The waiting slots of a partition on this module, in the latest snapshot. -/
def State.waitsHere (s : State) (part : Nat) : List Waiting :=
  ([0, 1, 2, 3].flatMap (fun d => (s.die d).snapshot)).filter (fun w => (s.slot w.slot).part == part)
/-- A wait on a barrier word with all that is known of the word and its members (spec/17 Table 17.6): the members that have not arrived are
those of every module, and EXPECT − ARRIVED does not exceed their number. -/
def State.wholeBarrier (s : State) (part : Nat) (w : Waiting) : Waiting :=
  match w.bar with
  | none => w
  | some (a, p, room) =>
    let q := s.part part
    let on := (w.on ++ notArrived (q.peers.flatMap (·.members) ++ (if w.slot = noSlot then s.memberList part else [])) a p).eraseDups
    let room := match room with
      | some n => some n
      | none => (match s.barrierRoom a with
        | some n => some n
        | none => Assoc.find q.words a.toNat)
    { w with on := on, counts := w.counts && room.any (fun n => decide (n ≤ on.length)) }
/-- The ends on other modules show what a wait needs of them. -/
def State.farAgrees (s : State) (part : Nat) (w : Waiting) : Bool :=
  w.far.all (fun e => ((s.part part).peers.flatMap (·.ends) ++ (if w.slot = noSlot then s.farEnds part else [])).contains e)
/-- The waits of a partition that count in two consecutive snapshots with the same serial, on every module that the partition spans; each
depends on what it depended on in either (spec/17 R367, R369; log 57). -/
def State.standing (s : State) (part : Nat) : List Waiting :=
  let peers := (s.part part).peers
  let now := ((s.waitsHere part ++ peers.flatMap (·.waits)).map (s.wholeBarrier part)).filter (fun w => w.counts && s.farAgrees part w)
  let old := ([0, 1, 2, 3].flatMap (fun d => (s.die d).previous) ++ peers.flatMap (·.before)).map (s.wholeBarrier part)
  now.filterMap (fun w =>
    (old.find? (fun v => v.slot == w.slot && v.task == w.task && v.kind == w.kind && v.serial == w.serial && v.far == w.far && v.counts)).map (fun v =>
      { w with on := w.on ++ v.on }))
/-- The largest closed set among waits (spec/17 R368): those that depend on a task outside it are struck off until none is left. -/
def closedSet : (fuel : Nat) → List Waiting → List Waiting
  | 0, l => l
  | n + 1, l => closedSet n (l.filter (fun w => w.on.all (fun h => l.any (fun v => v.task == h))))
/-- The record of a closed set (spec/17 Table 17.7). -/
def State.deadlockRecord (s : State) (l : List Waiting) (time : Word) : Bytes :=
  let listed := l.take 5
  let serial := match l.head?.bind (fun w => s.taskOf w.task) with
    | some r => r.serial
    | none => 0
  padTo 64 ([0x10, BitVec.ofNat 8 (min 255 l.length), BitVec.ofNat 8 listed.length] ++ zeros 5 ++ toBytes 8 time.toNat ++ toBytes 4 serial ++
    zeros 4 ++ listed.flatMap (fun w => toBytes 8 (w.kind * 2 ^ 60 + w.index % 4096 * 2 ^ 48 + bits w.task 47 0)))
/-- A record of the deadlock detector sent to TRAPTILE (spec/17 R369): like any message, it needs an inbox with room. -/
def State.tellTrapTile (s : State) (part : Nat) (record : Bytes) : State :=
  let v := (s.part part).traptile
  let gt := bits v 7 0
  if !testW v 63 || !s.ownsTile part (bits v 17 8) gt then s
  else if bits v 17 8 = s.mgmt.package then s.post (.messageArrival gt record none)
  else s.sendPacket { reqPacket 0x05 (s.mgmt.package * 4096 + 48 * 16) part (bits v 17 8) gt true false 0 0 record with
    dest := bits v 17 8 * 4096 + gt * 16 + 7 }
/-- A closed set found in two consecutive snapshots is reported once (spec/17 R369): its record enters the trap log of the module of the lowest
member's handle, and goes to TRAPTILE. -/
def State.judge (s : State) (part : Nat) : State :=
  let l := s.standing part
  let set := (closedSet l.length l).mergeSort (fun a b => decide (a.task.toNat ≤ b.task.toNat))
  let names := set.map (·.task)
  if set.isEmpty || names == (s.part part).reported then s
  else
    let s := s.onPart part (fun p => { p with reported := names })
    if names.head?.any (fun h => bits h 29 20 == s.mgmt.package) then
      let record := s.deadlockRecord set (s.die s.lastDie).snapshotAt
      (s.appendLog part record).tellTrapTile part record
    else s

/-- Rows of numbers as one list, each after its length. -/
def packRows (l : List (List Nat)) : List Nat := l.flatMap (fun r => r.length :: r)
/-- The rows of such a list. -/
def unpackRows : (fuel : Nat) → List Nat → List (List Nat)
  | 0, _ | _, [] => []
  | n + 1, k :: rest => rest.take k :: unpackRows n (rest.drop k)
/-- An end as a row. -/
def EndCount.row (e : EndCount) : List Nat := [e.serial, e.chan, bit e.sender, e.count]
/-- The ends of a row. -/
def endsOf : (fuel : Nat) → List Nat → List EndCount
  | n + 1, a :: b :: c :: d :: rest => { serial := a, chan := b, sender := c != 0, count := d } :: endsOf n rest
  | _, _ => []
/-- A waiting slot as rows: what it is, the tasks it waits on, and the ends that it needs. -/
def Waiting.rows (w : Waiting) : List (List Nat) :=
  [[0, w.task.toNat, w.kind, w.index, w.serial, bit w.counts] ++ (match w.bar with
      | some (a, p, room) => [a.toNat, p.toNat, (match room with
        | some n => n + 1
        | none => 0)]
      | none => []),
   w.on.map (·.toNat), w.far.flatMap (·.row)]
/-- A module's snapshot of a partition as the words of a message (spec/17 R367; log 77): its waiting slots, its ends of channels to other modules,
and its memberships. -/
def State.snapshotWords (s : State) (part : Nat) : List Nat :=
  packRows ((s.waitsHere part).flatMap (·.rows) ++ [1 :: (s.farEnds part).flatMap (·.row)] ++
    (s.memberList part).map (fun e => [2, e.1.toNat, e.2.addr.toNat, (match e.2.arrived with
      | some p => p.toNat + 1
      | none => 0)]))
/-- A snapshot read from its rows. -/
def PeerSnapshot.read (q : PeerSnapshot) : (fuel : Nat) → List (List Nat) → PeerSnapshot
  | n + 1, (0 :: task :: kind :: index :: serial :: counts :: bar) :: on :: far :: rest =>
    let w : Waiting :=
      { slot := noSlot, task := wordN task, kind := kind, index := index, serial := serial, on := on.map wordN, counts := counts != 0
        far := endsOf far.length far
        bar := (match bar with
          | [a, p, room] => some (wordN a, BitVec.ofNat 16 p, if room = 0 then none else some (room - 1))
          | _ => none) }
    PeerSnapshot.read { q with waits := q.waits ++ [w] } n rest
  | n + 1, (1 :: ends) :: rest => PeerSnapshot.read { q with ends := endsOf ends.length ends } n rest
  | n + 1, [2, task, addr, phase] :: rest =>
    PeerSnapshot.read { q with members := q.members ++
      [(wordN task, { addr := wordN addr, arrived := if phase = 0 then none else some (BitVec.ofNat 16 (phase - 1)) })] } n rest
  | n + 1, _ :: rest => PeerSnapshot.read q n rest
  | 0, _ | _, [] => q
/-- The snapshot of another module arrives (spec/17 R367): what barrier words of this module show that it names goes to every module of the
partition, and the partition is looked at again. -/
def State.waitsFrom (s : State) (pkg part : Nat) (ws : List Nat) : State :=
  let rows := unpackRows ws.length ws
  let before := ((s.part part).peers.filter (fun p => p.pkg == pkg)).flatMap (·.waits)
  let q := PeerSnapshot.read { pkg := pkg, waits := [], before := before, ends := [], members := [] } rows.length rows
  let s := s.onPart part (fun p => { p with peers := p.peers.filter (fun x => x.pkg != pkg) ++ [q] })
  let words := q.waits.filterMap (fun w => w.bar.bind (fun b => (s.barrierRoom b.1).map (fun n => [b.1.toNat, n])))
  (if words.isEmpty then s else s.tell part (Config.peerModules part) .words words.flatten).judge part
/-- What barrier words of another module show. -/
def State.wordsFrom (s : State) (part : Nat) : List Nat → State
  | a :: n :: rest => (s.onPart part (fun p => { p with words := Assoc.set p.words a n })).wordsFrom part rest
  | _ => s.judge part

end Sys2Proof.Machine
end

