-- ==== Sys2Proof/Machine/CodeWords.lean ====
section
/-! DEFINITION. Which words the loader accepts as instructions, and the level that a word names, without building the instruction:
Lean's compiler cannot build constructors past the 245th, and `exec` must compile. Laws/CodeWords.lean proves that these agree with
`decode`. -/

namespace Sys2Proof.Machine

/-- Major 0x2C (R103, R147, R148), as `decode2C`. -/
def code2C (w : Nat) : Bool :=
  match w / 64 % 8 with
  | 0 => w / 8 % 8 == 0 && w / 512 % 32768 == 0
  | 1 => match fb w with
    | 0 => (levelUsed (amoOrderOf (w / 8 % 4)) (reg8 (w % 8)))
    | 1 => (levelUsed (amoOrderOf (w / 8 % 4)) (reg8 (w % 8)))
    | 2 => (levelUsed (amoOrderOf (w / 8 % 4)) (reg8 (w % 8)))
    | 3 => (levelUsed (amoOrderOf (w / 8 % 4)) (reg8 (w % 8)))
    | 4 => (levelUsed (amoOrderOf (w / 8 % 4)) (reg8 (w % 8)))
    | 5 => (levelUsed (amoOrderOf (w / 8 % 4)) (reg8 (w % 8)) && (reg32 (fd w)) != 31)
    | 6 => (levelUsed (amoOrderOf (w / 8 % 4)) (reg8 (w % 8)))
    | 7 => (levelUsed (amoOrderOf (w / 8 % 4)) (reg8 (w % 8)))
    | 8 => (levelUsed (amoOrderOf (w / 8 % 4)) (reg8 (w % 8)))
    | 9 => (levelUsed (amoOrderOf (w / 8 % 4)) (reg8 (w % 8)))
    | 10 => w / 32 % 2 == 0 && (levelUsed (amoOrderOf (w / 8 % 4)) (reg8 (w % 8)))
    | 11 => w / 32 % 2 == 0 && (levelUsed (amoOrderOf (w / 8 % 4)) (reg8 (w % 8)) && (reg32 (fd w)) != 31)
    | 12 => (levelUsed (amoOrderOf (w / 8 % 4)) (reg8 (w % 8)))
    | 13 => w / 32 % 2 == 1 && (levelUsed (amoOrderOf (w / 8 % 4)) (reg8 (w % 8)))
    | 14 => w / 32 % 2 == 1 && (levelUsed (amoOrderOf (w / 8 % 4)) (reg8 (w % 8)))
    | _ => false
  | 2 => (levelUsed (amoOrderOf (w / 8 % 4)) (reg8 (w % 8)) && (reg32 (fd w)) != 31 && decide (16 ≤ (reg64 (w / 32 % 2 * 32 + fb w)).val))
  | _ => false

/-- Major 0x40 (R159), as `decode40`. -/
def code40 (w : Nat) : Bool :=
  match w % 32 with
  | 0 => vmaskOk w
  | 1 => vmaskOk w
  | 2 => vmaskOk w
  | 3 => vmaskOk w
  | 4 => w / 512 % 32 == 0 && vmaskOk w
  | 5 => vmaskOk w
  | 6 => vmaskOk w
  | 7 => vmaskOk w
  | 8 => vmaskOk w
  | 9 => w / 512 % 32 == 0 && vmaskOk w
  | 10 => w / 512 % 32 == 0 && vmaskOk w
  | 11 => vmaskOk w
  | 12 => vmaskOk w
  | 13 => vmaskOk w
  | _ => false

/-- Major 0x41 (R160), as `decode41`. -/
def code41 (w : Nat) : Bool :=
  match w % 32 with
  | 0 => w / 512 % 32 == 0 && vmaskOk w
  | 1 => w / 512 % 32 == 0 && vmaskOk w
  | 2 => w / 512 % 32 == 0 && vmaskOk w
  | 3 => w / 512 % 32 == 0 && vmaskOk w
  | 4 => w / 512 % 32 == 0 && vmaskOk w
  | 5 => w / 512 % 32 == 0 && vmaskOk w
  | 6 => w / 512 % 32 == 0 && vmaskOk w
  | 7 => w / 512 % 32 == 0 && vmaskOk w
  | 8 => w / 512 % 32 == 0 && vmaskOk w
  | _ => false

/-- Major 0x42 (R161), as `decode42`. -/
def code42 (w : Nat) : Bool :=
  match w % 32 with
  | 0 => vmaskOk w
  | 1 => vmaskOk w
  | 2 => vmaskOk w
  | 3 => vmaskOk w
  | 4 => vmaskOk w
  | 5 => vmaskOk w
  | 6 => vmaskOk w
  | 7 => vmaskOk w
  | 8 => vmaskOk w
  | 9 => vmaskOk w
  | 10 => vmaskOk w
  | 11 => vmaskOk w
  | 12 => vmaskOk w
  | 13 => w / 512 % 32 == 0 && vmaskOk w
  | 14 => vmaskOk w
  | 15 => vmaskOk w
  | 16 => vmaskOk w
  | 17 => vmaskOk w
  | 18 => w / 512 % 32 == 0 && vmaskOk w
  | 19 => vmaskOk w
  | 20 => vmaskOk w
  | 21 => vmaskOk w
  | 22 => w / 512 % 32 == 0 && vmaskOk w
  | 23 => w / 512 % 32 == 0 && vmaskOk w
  | 24 => vmaskOk w
  | 25 => vmaskOk w
  | 26 => vmaskOk w
  | 27 => vmaskOk w
  | 28 => vmaskOk w
  | 29 => vmaskOk w
  | _ => false

/-- Major 0x43 (R162), as `decode43`. -/
def code43 (w : Nat) : Bool :=
  match w % 32 with
  | 0 => decide (fd w < 8) && vmaskOk w
  | 1 => decide (fd w < 8) && vmaskOk w
  | 2 => decide (fd w < 8) && vmaskOk w
  | 3 => decide (fd w < 8) && vmaskOk w
  | 4 => decide (fd w < 8) && vmaskOk w
  | 5 => decide (fd w < 8) && vmaskOk w
  | 6 => decide (fd w < 8) && vmaskOk w
  | 7 => decide (fd w < 8) && vmaskOk w
  | 8 => decide (fd w < 8) && vmaskOk w
  | 9 => decide (fd w < 8) && vmaskOk w
  | 10 => decide (fd w < 8) && vmaskOk w
  | 11 => decide (fd w < 8) && vmaskOk w
  | 12 => decide (fd w < 8) && vmaskOk w
  | _ => false

/-- Major 0x44 (R163), as `decode44`. -/
def code44 (w : Nat) : Bool :=
  match w % 32 with
  | 0 => w / 256 % 2 == 1
  | 1 => w / 32 % 16 == 0 && decide (fd w < 8) && decide (fa w < 8) && decide (fb w < 8)
  | 2 => w / 32 % 16 == 0 && decide (fd w < 8) && decide (fa w < 8) && decide (fb w < 8)
  | 3 => w / 32 % 16 == 0 && decide (fd w < 8) && decide (fa w < 8) && decide (fb w < 8)
  | 4 => w / 32 % 16 == 0 && decide (fd w < 8) && decide (fa w < 8) && decide (fb w < 8)
  | 5 => w / 32 % 512 == 0 && decide (fd w < 8) && decide (fa w < 8)
  | 6 => w / 32 % 512 == 0 && decide (fa w < 8)
  | 7 => w / 32 % 512 == 0 && decide (fa w < 8)
  | 8 => w / 32 % 512 == 0 && decide (fd w < 8)
  | 9 => w / 32 % 512 == 0 && decide (fa w < 8)
  | _ => false

/-- Major 0x45 (R164), as `decode45`. -/
def code45 (w : Nat) : Bool :=
  match w % 32 with
  | 0 => w / 512 % 32 == 0 && vmaskOk w
  | 1 => vmaskOk w
  | 2 => vmaskOk w
  | 3 => vmaskOk w && ((reg32 (fa w)) != 31)
  | 4 => vmaskOk w
  | 5 => vmaskOk w
  | 6 => vmaskOk w
  | 7 => vmaskOk w
  | 8 => vmaskOk w
  | 9 => w / 256 % 64 == 1
  | 10 => w / 512 % 1024 == 0 && vmaskOk w
  | 11 => w / 32 % 16 == 0
  | 12 => w / 32 % 16 == 0
  | _ => false

/-- Major 0x46 (R165, R166, R167), as `decode46`. -/
def code46 (w : Nat) : Bool :=
  match w % 32 with
  | 0 => w / 512 % 32 == 0 && vmaskOk w
  | 1 => w / 512 % 32 == 0 && vmaskOk w
  | 2 => w / 512 % 32 == 0 && vmaskOk w
  | 3 => w / 512 % 32 == 0 && vmaskOk w
  | 4 => w / 512 % 32 == 0 && vmaskOk w
  | 5 => w / 512 % 32 == 0 && vmaskOk w
  | 6 => w / 512 % 32 == 0 && vmaskOk w
  | 7 => w / 512 % 32 == 0 && vmaskOk w
  | 8 => w / 512 % 32 == 0 && vmaskOk w
  | 9 => w / 512 % 32 == 0 && vmaskOk w
  | 10 => w / 512 % 32 == 0 && vmaskOk w
  | 11 => w / 512 % 32 == 0 && vmaskOk w
  | _ => false

/-- Major 0x47 (R169), as `decode47`. -/
def code47 (w : Nat) : Bool :=
  vmaskOk w && rcOk (w % 8) && (partFits (reg32 (fb w)) (reg4 (w / 8 % 4)))

/-- Major 0x48 (R169), as `decode48`. -/
def code48 (w : Nat) : Bool :=
  match w % 8 with
  | 0 => vmaskOk w && (partFits (reg32 (fb w)) (reg4 (w / 8 % 4)))
  | _ => false

/-- Major 0x49 (R169), as `decode49`. -/
def code49 (w : Nat) : Bool :=
  match w / 8 % 4 with
  | 0 => w / 512 % 32 == 0 && vmaskOk w && rcOk (w % 8)
  | 1 => w / 512 % 32 == 0 && vmaskOk w && rcOk (w % 8)
  | 2 => w / 512 % 32 == 0 && vmaskOk w && rcOk (w % 8)
  | 3 => w / 512 % 32 == 0 && vmaskOk w && rcOk (w % 8)
  | _ => false

/-- Major 0x4A (R170), as `decode4A`. -/
def code4A (w : Nat) : Bool :=
  vmaskOk w && rcOk (w % 8)

/-- Major 0x4B (R170), as `decode4B`. -/
def code4B (w : Nat) : Bool :=
  vmaskOk w && rcOk (w % 8)

/-- Major 0x4C (R170, R171), as `decode4C`. -/
def code4C (w : Nat) : Bool :=
  match w % 32 with
  | 0 => vmaskOk w
  | 1 => w / 512 % 1024 == 0 && vmaskOk w
  | _ => false

/-- Major 0x4D (R169), as `decode4D`. -/
def code4D (w : Nat) : Bool :=
  match w % 8 with
  | 0 => vmaskOk w && (partFits (reg32 (fb w)) (reg4 (w / 8 % 4)))
  | 4 => vmaskOk w && (partFits (reg32 (fb w)) (reg4 (w / 8 % 4)))
  | _ => false

/-- Major 0x4E (R172), as `decode4E`. -/
def code4E (w : Nat) : Bool :=
  match w / 4 % 8 with
  | 0 => w / 512 % 32 == 0 && vmaskOk w
  | 1 => w / 512 % 32 == 0 && vmaskOk w && ((reg4 (w % 4)) != 2)
  | 2 => vmaskOk w
  | 3 => vmaskOk w && ((reg4 (w % 4)) != 2)
  | 4 => vmaskOk w
  | 5 => vmaskOk w && ((reg4 (w % 4)) != 2)
  | _ => false

/-- Major 0x60 (R188), as `decode60`. -/
def code60 (w : Nat) : Bool :=
  match w % 128 with
  | 0 => w / 128 % 2 == 0 && decide (fa w < 4) && decide (fb w < 4)
  | 1 => w / 128 % 2 == 0 && decide (fa w < 4) && decide (fb w < 4)
  | 2 => w / 128 % 2 == 0 && decide (fa w < 4)
  | 3 => w / 128 % 2 == 0 && decide (fa w < 4)
  | _ => false

/-- Major 0x61 (R189, R194), as `decode61`. -/
def code61 (w : Nat) : Bool :=
  match w % 128 with
  | 0 => w / 128 % 128 == 0 && decide (fd w < 4)
  | 1 => w / 128 % 128 == 0 && decide (fd w < 4)
  | 2 => w / 128 % 4096 == 0 && decide (fd w < 4)
  | 3 => w / 128 % 131072 == 0
  | _ => false

/-- Major 0x62 (R190, R191), as `decode62`. -/
def code62 (w : Nat) : Bool :=
  match w % 128 with
  | 0 => w / 128 % 2 == 0 && w / 512 % 32 == 0
  | 1 => w / 128 % 2 == 0 && w / 512 % 32 == 0
  | 2 => w / 512 % 32 == 0
  | 3 => w / 128 % 2 == 0 && w / 512 % 32 == 0
  | 4 => w / 128 % 2 == 0 && w / 512 % 32 == 0
  | _ => false

/-- Major 0x63 (R192, R193), as `decode63`. -/
def code63 (w : Nat) : Bool :=
  match w / 8 % 16 with
  | 0 => w / 128 % 2 == 0 && rcOk (w % 8)
  | 1 => w / 128 % 2 == 0 && decide (fa w < 4) && rcOk (w % 8)
  | 2 => w % 8 == 0 && w / 128 % 4 == 0 && w / 8192 % 2 == 0
  | 3 => w % 8 == 0 && w / 128 % 128 == 0
  | _ => false

/-- Major 0x70 (R204), as `decode70`. -/
def code70 (w : Nat) : Bool :=
  match w % 32 with
  | 0 => w / 32 % 2 == 0 && ktagOk w
  | 1 => w / 32 % 2 == 0 && ktagOk w
  | 2 => w / 32 % 2 == 0 && ktagOk w
  | _ => false

/-- Major 0x71 (R205, R206), as `decode71`. -/
def code71 (w : Nat) : Bool :=
  match w % 32 with
  | 0 => w / 32 % 2 == 0 && ktagOk w
  | 1 => w / 32 % 2 == 0 && ktagOk w
  | 2 => w / 32 % 2 == 0 && ktagOk w
  | _ => false

/-- Major 0x72 (R207, R208), as `decode72`. -/
def code72 (w : Nat) : Bool :=
  match w % 32 with
  | 0 => w / 32 % 2 == 0 && ktagOk w
  | 1 => w / 32 % 2 == 0 && ktagOk w
  | _ => false

/-- Major 0x74 (R215, R216, R217, R218), as `decode74`. -/
def code74 (w : Nat) : Bool :=
  match w % 512 with
  | 0 => decide (fa w < 16)
  | 1 => decide (fa w < 16)
  | 2 => w / 512 % 32 == 0 && decide (fa w < 16)
  | 3 => w / 512 % 32 == 0 && decide (fa w < 16)
  | 4 => w / 512 % 32 == 0
  | 5 => decide (fa w < 16)
  | 6 => w / 512 % 32 == 0 && w / 524288 % 32 == 0 && decide (fa w < 16)
  | _ => false

/-- Major 0x75 (R221, R222, R224, R225), as `decode75`. -/
def code75 (w : Nat) : Bool :=
  match w % 512 with
  | 0 => w / 524288 % 32 == 0 && decide (fa w < 16) && ((reg32 (fb w)) != 0)
  | 1 => w / 524288 % 32 == 0 && decide (fa w < 16)
  | 2 => w / 512 % 32 == 0 && decide (fa w < 16)
  | 3 => w / 524288 % 32 == 0 && decide (fa w < 16)
  | 4 => true
  | 5 => w / 512 % 32768 == 0
  | _ => false

/-- Major 0x80 (R230, R232, R233, R236), as `decode80`. -/
def code80 (w : Nat) : Bool :=
  match w % 512 with
  | 0 => w / 512 % 32 == 0
  | 1 => true
  | 2 => w / 512 % 32 == 0
  | 3 => w / 512 % 1024 == 0
  | _ => false

/-- Major 0x81 (R237, R238, R239, R240), as `decode81`. -/
def code81 (w : Nat) : Bool :=
  match w % 16 with
  | 0 => w / 16 % 1024 == 0
  | 1 => w / 16 % 1024 == 0
  | 2 => ctagOk w
  | 3 => w / 16 % 1024 == 0
  | 4 => w / 16 % 1048576 == 0
  | 5 => w / 16 % 32768 == 0
  | _ => false

/-- Major 0x82 (R247, R249), as `decode82`. -/
def code82 (w : Nat) : Bool :=
  match w % 512 with
  | 0 => w / 512 % 32 == 0
  | 1 => w / 512 % 32 == 0
  | 2 => true
  | 3 => w / 512 % 32 == 0
  | 4 => w / 512 % 1024 == 0
  | _ => false

/-- Major 0x83 (R235), as `decode83`. -/
def code83 (w : Nat) : Bool :=
  match w % 512 with
  | 0 => w / 512 % 32 == 0 && w / 524288 % 32 == 0
  | _ => false

/-- Major 0x84 (R250, R251, R252, R253), as `decode84`. -/
def code84 (w : Nat) : Bool :=
  match w % 16 with
  | 0 => w / 16 % 1024 == 0 && w / 524288 % 32 == 0
  | 1 => w / 16 % 1024 == 0 && w / 524288 % 32 == 0
  | 2 => w / 16 % 32 == 0 && w / 524288 % 32 == 0
  | 3 => w / 256 % 2 == 0
  | 4 => w / 256 % 2 == 0
  | 5 => w / 16 % 1024 == 0
  | 6 => w / 16 % 1048576 == 0
  | _ => false

/-- Major 0xF0 (R269), as `decodeF0`. -/
def codeF0 (w : Nat) : Bool :=
  match w / 128 % 4 with
  | 0 => w / 16384 % 32 == 0
  | 1 => true
  | 2 => true
  | 3 => true
  | _ => false

/-- Major 0xF1 (R276, R281, R362), as `decodeF1`. -/
def codeF1 (w : Nat) : Bool :=
  match w % 512 with
  | 0 => w / 512 % 32768 == 0
  | 1 => w / 512 % 32768 == 0
  | 2 => w / 524288 % 32 == 0
  | 3 => true
  | 4 => true
  | _ => false

/-- Major 0xF2 (R281), as `decodeF2`. -/
def codeF2 (w : Nat) : Bool :=
  match w % 512 with
  | 0 => w / 512 % 32 == 0
  | 1 => true
  | _ => false

/-- A word that passes step 1 of spec/05 R110. -/
def wordLegal (w : Nat) : Bool :=
  match w / 16777216 with
  | 0x01 => (decode01 w).any Instr.wf
  | 0x02 => (decode02 w).any Instr.wf
  | 0x03 => (decode03 w).any Instr.wf
  | 0x04 => (decode04 w).any Instr.wf
  | 0x05 => (decode05 w).any Instr.wf
  | 0x08 => (decode08 w).any Instr.wf
  | 0x09 => (decode09 w).any Instr.wf
  | 0x0A => (decode0A w).any Instr.wf
  | 0x0B => (decode0B w).any Instr.wf
  | 0x0F => (decode0F w).any Instr.wf
  | 0x10 => (decode10 w).any Instr.wf
  | 0x18 => (decode18 w).any Instr.wf
  | 0x19 => (decode19 w).any Instr.wf
  | 0x1A => (decode1A w).any Instr.wf
  | 0x1B => (decode1B w).any Instr.wf
  | 0x1C => (decode1C w).any Instr.wf
  | 0x1D => (decode1D w).any Instr.wf
  | 0x1E => (decode1E w).any Instr.wf
  | 0x1F => (decode1F w).any Instr.wf
  | 0x20 => (decode20 w).any Instr.wf
  | 0x21 => (decode21 w).any Instr.wf
  | 0x28 => (decode28 w).any Instr.wf
  | 0x29 => (decode29 w).any Instr.wf
  | 0x2A => (decode2A w).any Instr.wf
  | 0x2B => (decode2B w).any Instr.wf
  | 0x2C => code2C w
  | 0x40 => code40 w
  | 0x41 => code41 w
  | 0x42 => code42 w
  | 0x43 => code43 w
  | 0x44 => code44 w
  | 0x45 => code45 w
  | 0x46 => code46 w
  | 0x47 => code47 w
  | 0x48 => code48 w
  | 0x49 => code49 w
  | 0x4A => code4A w
  | 0x4B => code4B w
  | 0x4C => code4C w
  | 0x4D => code4D w
  | 0x4E => code4E w
  | 0x60 => code60 w
  | 0x61 => code61 w
  | 0x62 => code62 w
  | 0x63 => code63 w
  | 0x70 => code70 w
  | 0x71 => code71 w
  | 0x72 => code72 w
  | 0x74 => code74 w
  | 0x75 => code75 w
  | 0x80 => code80 w
  | 0x81 => code81 w
  | 0x82 => code82 w
  | 0x83 => code83 w
  | 0x84 => code84 w
  | 0xF0 => codeF0 w
  | 0xF1 => codeF1 w
  | 0xF2 => codeF2 w
  | _ => false
/-- The level that a word names (spec/00 R7): LD.ACQ, ST.REL, FENCE, and the atomics with an order other than none. -/
def wordLevel (w : Nat) : Option Nat :=
  match w / 16777216 with
  | 0x2A | 0x2B => some (flvl w)
  | 0x2C => if w / 64 % 8 = 0 then some (w % 8) else if w / 8 % 4 = 0 then none else some (w % 8)
  | _ => none

end Sys2Proof.Machine
end

