-- ==== Sys2Proof/Machine/Loader.lean ====
section
/-! DEFINITION. Images: their records, and what the loader rejects (spec/05 R118 to R125). -/

namespace Sys2Proof.Machine

/-- A section descriptor (spec/05 Table 5.10). -/
structure Section where
  kind : Nat
  link : Nat
  offset : Nat
  size : Nat
  reserved : Bool
  deriving DecidableEq, Repr
/-- Descriptor i of an image. -/
def sectionAt (img : Bytes) (i : Nat) : Section :=
  let o := 32 + 32 * i
  { kind := field img o 2, link := field img (o + 2) 2, offset := field img (o + 8) 8, size := field img (o + 16) 8
    reserved := field img (o + 4) 4 != 0 || field img (o + 24) 8 != 0 }
/-- The image header, or a descriptor's OFFSET or SIZE, is bad (spec/14 Table 14.5, BADIMAGE with DETAIL 0xFFFF_FFFF): `head` is
the first 32 bytes. -/
def headerBad (head : Bytes) (len : Nat) : Bool :=
  field head 0 4 != 0x01494758 || field head 4 2 != 1 || field head 6 2 == 0 || decide (4096 < field head 6 2) || field head 8 8 != len ||
    field head 16 16 != 0 || decide (len < 32 + 32 * field head 6 2)
/-- The descriptors of an image. -/
def sections (img : Bytes) : List Section := (List.range (field img 6 2)).map (sectionAt img)
/-- The bytes of a section. -/
def Section.bytes (q : Section) (img : Bytes) : Bytes := (img.drop q.offset).take q.size

/-- A mask set of a kernel header (spec/05 Table 5.11). -/
def grantOf (k ch qb ag acc : Nat) : Grant :=
  { k := BitVec.ofNat 16 k, ch := BitVec.ofNat 16 ch, qa := BitVec.ofNat 4 qb, bl := BitVec.ofNat 4 (qb / 16), ag := BitVec.ofNat 8 ag
    acc := BitVec.ofNat 64 acc }
/-- Code of a kernel section begins here. -/
def codeStart (nlit : Nat) : Nat := (128 + 8 * nlit + 63) / 64 * 64
/-- The four SVSP words of a kernel header. -/
def svspWords (b : Bytes) : List Nat := [field b 72 8, field b 80 8, field b 88 8, field b 96 8]
/-- The kernel of a KERNEL section (spec/05 R119); its literals are those of the image. -/
def kernelOfBytes (b : Bytes) : Kernel :=
  let attr := field b 2 2
  let nlit := min (field b 20 2) (b.length / 8)
  let words := min (field b 4 4) b.length / 4
  { inbox := testN attr 4, fixed := testN attr 2, kind := attr % 4, entry := field b 8 4, hentry := field b 12 4, precinit := fieldW b 16 4
    wv := field b 22 1, wm := field b 23 1, maxsp := field b 24 2
    use := grantOf (field b 26 2) (field b 28 2) (field b 30 1) (field b 31 1) (field b 32 8)
    share := grantOf (field b 40 2) (field b 42 2) (field b 44 1) (field b 45 1) (field b 48 8)
    save := grantOf 0 (field b 46 2) (field b 64 1) 0 (field b 56 8)
    svsp := (svspWords b).map (fun w => (w % 2 ^ 22, w / 2 ^ 22 % 2 ^ 22))
    literals := (List.range nlit).map (fun i => fieldW b (128 + 8 * i) 8)
    code := (List.range words).map (fun i => BitVec.ofNat 32 (field b (codeStart nlit + 4 * i) 4)) }
/-- A word of a kernel's code that the loader refuses (spec/05 R120): step 1 or 3 of R110, a major from 0xF0 to 0xF3 outside a
system image, a literal index or a branch target out of range. Of a kernel of KIND 0b00 a word that either kind of tile lacks is refused: `fails
for both kinds` is read as `is checked for both kinds` (DEDUCED, log 78; spec/01 R18). -/
def Kernel.wordBad (k : Kernel) (system : Bool) (nlit len : Nat) (pc w : Nat) : Bool :=
  let major := w / 2 ^ 24
  !wordLegal w || (decide (0xF0 ≤ major ∧ major ≤ 0xF3) && !system) || (decide (0x60 ≤ major ∧ major ≤ 0x63) && k.kind != 1) ||
    (major == 0x84 && k.kind != 2) || (major == 0x10 && decide (nlit ≤ w % 2 ^ 14)) ||
    (decide (0x18 ≤ major ∧ major ≤ 0x1F) &&
      (let target := (pc : Int) + 4 * sextN w 19
       decide (target < 0 ∨ (len : Int) - 4 < target)))
/-- A KERNEL section is rejected (spec/05 R120). The reserved bits of PREC in PRECINIT must be 0 (Table 5.5, spec/00 R4). An SVSP range of
length 0 is not used, and its offset is looked at only for its alignment; the bytes between the literal table and the code, and those behind
the last record of a section, are not looked at (DESIGN CHOICE, log 73). -/
def kernelBad (system : Bool) (b : Bytes) : Bool :=
  let k := kernelOfBytes b
  let len := field b 4 4
  let nlit := field b 20 2
  let limits := fun (n : Nat) => decide (n % 4 = 0 ∧ n < len)
  field b 0 2 != 1 || field b 2 2 / 32 != 0 || testN (field b 2 2) 3 || k.kind == 3 || decide (len < 4 ∨ 65536 < len) || len % 4 != 0 ||
    !limits k.entry || (if k.inbox then !limits k.hentry else k.hentry != 0) || specialBad 0 k.precinit || decide (16384 < nlit) ||
    decide (k.wv = 0 ∨ 15 < k.wv ∨ k.wm = 0 ∨ 15 < k.wm ∨ 256 < k.maxsp) || decide (b.length < codeStart nlit + len) ||
    k.share.minus k.use != Grant.none || k.save.minus k.use != Grant.none ||
    (k.kind == 2 && (k.use.acc != 0 || k.use.qa != 0 || k.use.bl != 0)) || !allZero ((b.drop 65).take 7) || !allZero ((b.drop 104).take 24) ||
    (svspWords b).any (fun w => w / 2 ^ 44 != 0 || w % 64 != 0 || w / 2 ^ 22 % 64 != 0 ||
      (w / 2 ^ 22 % 2 ^ 22 != 0 && decide (0x3FC000 < w % 2 ^ 22 + w / 2 ^ 22 % 2 ^ 22))) ||
    k.code.zipIdx.any (fun e => k.wordBad system nlit len (4 * e.2) e.1.toNat)

/-- Load-time parameters of spec/05 Table 5.13, PCODE 1 to 7. -/
def State.loadParam (s : State) (part pcode : Nat) : Nat :=
  let dies := [0, 1, 2, 3].filter (fun d => !(vget (s.part part).tiles d == 0))
  let here := fun (lo hi : Nat) => (dies.map (fun d => popN (hi - lo) ((vget (s.part part).tiles d).toNat / 2 ^ lo))).sum
  let peers := Config.peerModules part
  let there := fun (lo hi : Nat) => (peers.map (fun p => ([0, 1, 2, 3].map (fun d =>
    popN (hi - lo) (Config.peerTiles part p / 2 ^ (64 * d + lo) % 2 ^ 64))).sum)).sum
  match pcode with
  | 1 => here 0 48 + there 0 48
  | 2 => here 52 56 + there 52 56
  | 3 => dies.length + (peers.map (fun p => ([0, 1, 2, 3].filter (fun d => Config.peerTiles part p / 2 ^ (64 * d) % 2 ^ 64 != 0)).length)).sum
  | 4 => bit (!dies.isEmpty) + peers.length
  | 5 => Config.podModules
  | 6 => part
  | _ => 192
/-- A LITPATCH record is rejected (spec/05 Tables 5.12, 5.13): `nlit` literals. -/
def patchBad (nlit : Nat) (b : Bytes) : Bool :=
  decide (nlit ≤ field b 0 2) || decide (field b 2 2 = 0 ∨ 7 < field b 2 2) || decide (63 < field b 4 1) || field b 5 3 != 0
/-- The records of a LITPATCH section. -/
def patches (b : Bytes) : List Bytes := (List.range (b.length / 16)).map (fun i => (b.drop (16 * i)).take 16)
/-- The literals of a kernel with the records of a LITPATCH section applied in order (spec/05 R122). -/
def State.patch (s : State) (part : Nat) (lits : List Word) (b : Bytes) : List Word :=
  (patches b).foldl (fun l r => l.set (field r 0 2) (wordN (s.loadParam part (field r 2 2) * 2 ^ field r 4 1) + fieldW r 8 8)) lits

/-- The counts of a template header (spec/05 Table 5.14): nodes, edges, scopes, buffers, relocations, channels, gangs. -/
structure TemplateCounts where
  node : Nat
  edge : Nat
  scope : Nat
  buf : Nat
  rel : Nat
  chan : Nat
  gang : Nat
  deriving DecidableEq, Repr
/-- The counts in a section. -/
def TemplateCounts.ofBytes (b : Bytes) : TemplateCounts :=
  { node := field b 0 2, scope := field b 2 2, edge := field b 4 4, buf := field b 8 1, chan := field b 10 2, gang := field b 12 2
    rel := field b 14 2 }
/-- Offsets of the records: edges, scopes, buffers, relocations, channels, gangs. -/
def TemplateCounts.edges (c : TemplateCounts) : Nat := 64 + 32 * c.node
/-- See `TemplateCounts.edges`. -/
def TemplateCounts.scopes (c : TemplateCounts) : Nat := c.edges + 8 * c.edge
/-- See `TemplateCounts.edges`. -/
def TemplateCounts.bufs (c : TemplateCounts) : Nat := c.scopes + 8 * c.scope
/-- See `TemplateCounts.edges`. -/
def TemplateCounts.rels (c : TemplateCounts) : Nat := c.bufs + 16 * c.buf
/-- See `TemplateCounts.edges`. -/
def TemplateCounts.chans (c : TemplateCounts) : Nat := c.rels + 16 * c.rel
/-- See `TemplateCounts.edges`. -/
def TemplateCounts.gangs (c : TemplateCounts) : Nat := c.chans + 16 * c.chan
/-- The gang records, each padded to a multiple of 8 bytes, and whether they lie in the section. -/
def gangRecords (b : Bytes) : (n : Nat) → (o : Nat) → List Bytes × Bool
  | 0, o => ([], decide (o ≤ b.length))
  | n + 1, o =>
    if b.length < o + 8 then ([], false)
    else
      let size := 8 + field b o 1 * field b (o + 1) 1
      let r := gangRecords b n (o + (size + 7) / 8 * 8)
      ((b.drop o).take size :: r.1, r.2)
/-- A node record. -/
def nodeOfBytes (b : Bytes) : Node :=
  { kernel := field b 0 2, scope := field b 2 2, count := field b 4 2, clevel := field b 6 1 % 8, lead := testN (field b 7 1) 0
    member := testN (field b 7 1) 1, spawnOnly := testN (field b 7 1) 2, cost := field b 8 4
    gang := if field b 12 2 = 0xFFFF then none else some (field b 12 2), dx := field b 14 1 % 16, dy := field b 14 1 / 16
    slot := field b 15 1 % 4, argoff := if field b 16 4 = 0xFFFFFFFF then none else some (field b 16 4), seed := fieldW b 24 8 }
/-- Record i of `n` bytes in a table. -/
def recordAt (b : Bytes) (o n i : Nat) : Bytes := (b.drop (o + n * i)).take n
/-- The template of a TEMPLATE section (spec/05 R123). -/
def templateOfBytes (b : Bytes) : Template :=
  let c := TemplateCounts.ofBytes b
  let table := fun {α : Type} (o n k : Nat) (f : Bytes → α) => (List.range (min k b.length)).map (fun i => f (recordAt b o n i))
  let index := fun (v : Nat) => if v = 0xFFFF then none else some v
  { levels := Vector.ofFn (fun i => byteAt b (16 + i.val))
    nodes := table 64 32 c.node nodeOfBytes
    edges := table c.edges 8 c.edge (fun r => (field r 0 2, field r 2 2))
    scopes := table c.scopes 8 c.scope (fun r => (index (field r 0 2), index (field r 2 2)))
    buffers := table c.bufs 16 c.buf (fun r =>
      { slot := field r 0 1 % 64, read := testN (field r 1 1) 0, write := testN (field r 1 1) 1, minlen := field r 8 8 })
    relocs := table c.rels 16 c.rel (fun r => { node := field r 0 2, argw := field r 2 1, slot := field r 3 1, offset := fieldW r 8 8 })
    channels := table c.chans 16 c.chan (fun r =>
      { snode := field r 0 2, sch := Fin.ofNat 16 (field r 2 1), rnode := field r 4 2, rch := Fin.ofNat 16 (field r 3 1), depth := field r 6 1
        manual := testN (field r 7 1) 0, beats := field r 8 1 + 1, qoff := field r 12 4 })
    gangs := (gangRecords b (min c.gang b.length) c.gangs).1.map (fun r =>
      { w := field r 0 1, h := field r 1 1, lockstep := testN (field r 2 1) 0, pattern := r.drop 8 }) }
/-- A reserved field of a template's records is not zero, or its records do not lie in the section (spec/05 R124). -/
def templateReserved (b : Bytes) : Bool :=
  let c := TemplateCounts.ofBytes b
  let any := fun (o n k : Nat) (f : Bytes → Bool) => (List.range k).any (fun i => f (recordAt b o n i))
  decide (c.node = 0 ∨ 65535 < c.node ∨ c.scope = 0 ∨ 4096 < c.scope ∨ 64 < c.buf) || decide (b.length < c.gangs) ||
    !(gangRecords b c.gang c.gangs).2 || field b 9 1 != 0 || !allZero ((b.drop 24).take 40) ||
    any 64 32 c.node (fun r => field r 6 1 / 8 != 0 || field r 7 1 / 8 != 0 || field r 15 1 / 4 != 0 || field r 20 4 != 0) ||
    any c.edges 8 c.edge (fun r => field r 4 4 != 0) || any c.scopes 8 c.scope (fun r => field r 4 4 != 0) ||
    any c.bufs 16 c.buf (fun r => field r 0 1 / 64 != 0 || field r 1 1 / 4 != 0 || field r 2 6 != 0) ||
    any c.rels 16 c.rel (fun r => field r 4 4 != 0 || decide (31 < field r 2 1)) ||
    any c.chans 16 c.chan (fun r => field r 2 1 / 16 != 0 || field r 3 1 / 16 != 0 || field r 7 1 / 2 != 0 || field r 9 3 != 0) ||
    (gangRecords b c.gang c.gangs).1.any (fun r => field r 2 1 / 2 != 0 || field r 3 5 != 0)

/-- The level table breaks R29, or an entry, declared or not, holds a reserved code or a reserved bit (spec/02 R29, spec/00 R4, R8). -/
def levelsBad (levels : Vector Byte 8) : Bool :=
  let declared := levels.toList.filter (fun e => testN e.toNat 7)
  levels.toList.any (fun e => e.toNat / 16 % 8 != 0 || decide (6 < e.toNat % 16)) ||
    (declared.zip declared.tail).any (fun p => decide (p.2.toNat % 16 < p.1.toNat % 16))
/-- A level is declared. -/
def levelDeclared (levels : Vector Byte 8) (n : Nat) : Bool := testN (vget levels n).toNat 7
/-- The depth of a scope, the root being at depth 1. -/
def Template.depth (t : Template) : (fuel : Nat) → (i : Nat) → Nat
  | 0, _ => 33
  | n + 1, i => match t.scopes[i]? with
    | some (some p, _) => t.depth n p + 1
    | _ => 1
/-- The scopes break spec/05 R124 or spec/02 R32. -/
def Template.scopesBad (t : Template) : Bool :=
  t.scopes.zipIdx.any (fun e =>
    if e.2 = 0 then e.1.1.isSome || e.1.2.isSome
    else match e.1 with
      | (some p, some o) => decide (e.2 ≤ p) || decide (32 < t.depth 32 e.2) || (match t.nodes[o]? with
        | some n => n.spawnOnly
        | none => true)
      | _ => true)
/-- Nodes left when those without an edge from a node left are taken away, again and again: none when the edges form no
cycle. -/
def Template.peel (t : Template) : (fuel : Nat) → List Nat → List Nat
  | 0, l => l
  | n + 1, l => t.peel n (l.filter (fun k => t.edges.any (fun e => e.2 == k && l.contains e.1)))
/-- Nodes that can be reached from those listed. -/
def Template.reach (t : Template) : (fuel : Nat) → List Nat → List Nat
  | 0, l => l
  | n + 1, l => t.reach n (l ++ (t.edges.filter (fun e => l.contains e.1 && !l.contains e.2)).map (·.2)).eraseDups
/-- The node records break spec/05 R124: `kernels` of the image, `rodata` bytes. -/
def Template.nodeBad (t : Template) (kernels : List Kernel) (rodata : Nat) (k : Nat) (n : Node) : Bool :=
  decide (kernels.length ≤ n.kernel) || decide (t.scopes.length ≤ n.scope) || !levelDeclared t.levels n.clevel ||
    (match n.argoff with
     | some o => decide (rodata < o + 256)
     | none => false) ||
    (match n.gang with
     | some g => decide (t.gangs.length ≤ g) || n.lead == n.member
     | none => n.lead || n.member) ||
    (if n.member then n.count != 0 else !n.spawnOnly && n.count != (t.edges.filter (fun e => e.2 == k)).length)
/-- An edge breaks spec/05 R124. -/
def Template.edgeBad (t : Template) (e : Nat × Nat) : Bool :=
  match t.nodes[e.1]?, t.nodes[e.2]? with
  | some _, some b => b.member || b.spawnOnly
  | _, _ => true
/-- A footprint can lie wholly within one die (spec/02 R45): the dies are alike. -/
def GangShape.fitsDie (q : GangShape) : Bool :=
  decide (q.w ≤ 8 ∧ q.h ≤ 7) && (List.range (9 - q.w)).any (fun c => (List.range (8 - q.h)).any (fun r =>
    q.positions.all (fun p => kindMatches (q.at_ p.1 p.2 % 16) (tileAt (c + p.1) (r + p.2)))))
/-- A gang breaks spec/05 R124, spec/02 R43 or R45. -/
def Template.gangBad (t : Template) (kernels : List Kernel) (g : Nat) (q : GangShape) : Bool :=
  let nodes := t.nodes.filter (fun n => n.gang == some g)
  let ks := nodes.filterMap (fun n => kernels[n.kernel]?)
  decide (q.w = 0 ∨ 16 < q.w ∨ q.h = 0 ∨ 14 < q.h) || q.pattern.length != q.w * q.h ||
    q.pattern.any (fun b => decide (4 < b.toNat % 16) || (decide (b.toNat % 16 < 2) == decide (b.toNat / 16 = 0))) ||
    !q.pattern.any (fun b => decide (b.toNat % 16 < 2)) || (nodes.filter (·.lead)).length != 1 ||
    nodes.any (fun n => !q.used n.dx n.dy || !testN (q.at_ n.dx n.dy) (4 + n.slot) || (match kernels[n.kernel]? with
      | some k => k.kind != 0 && k.kind != q.at_ n.dx n.dy % 16 + 1
      | none => false)) ||
    (ks.any (·.fixed) && ks.any (fun k => !k.fixed)) ||
    (q.lockstep && (!q.fitsDie || ks.any (fun k => !k.fixed || k.inbox)))
/-- The backing queue of a channel: the end of its range. -/
def Channel.queueEnd (c : Channel) : Nat := c.qoff + (c.depth + 1) * c.beats * 64
/-- Two receiving nodes that lie on one tile whatever the placer chooses: the same node, or one position of one gang. -/
def Template.together (t : Template) (a b : Nat) : Bool :=
  a == b || (match t.nodes[a]?, t.nodes[b]? with
    | some m, some n => m.gang.isSome && m.gang == n.gang && m.dx == n.dx && m.dy == n.dy
    | _, _ => false)
/-- A channel breaks spec/05 R124 or spec/02 R48; `rest` are the channels behind it. -/
def Template.chanBad (t : Template) (kernels : List Kernel) (c : Channel) (rest : List Channel) : Bool :=
  let mask := fun (n : Nat) => match (t.nodes[n]?).bind (fun m => kernels[m.kernel]?) with
    | some k => k.use.ch.toNat
    | none => 0
  decide (c.depth = 0 ∨ 64 < c.depth) || !testN (mask c.snode) c.sch.val || !testN (mask c.rnode) c.rch.val || c.qoff % 64 != 0 ||
    decide (0x400000 < c.queueEnd) || (c.snode == c.rnode && c.sch == c.rch) ||
    (c.snode != c.rnode && (t.reach t.nodes.length [c.snode]).contains c.rnode) ||
    rest.any (fun d =>
      (c.snode == d.snode && c.sch == d.sch) || (c.snode == d.rnode && c.sch == d.rch) || (c.rnode == d.snode && c.rch == d.sch) ||
        (c.rnode == d.rnode && c.rch == d.rch) ||
        (t.together c.rnode d.rnode && decide (c.qoff < d.queueEnd ∧ d.qoff < c.queueEnd)))
/-- Each element of a list with those behind it. -/
def tails {α : Type} : List α → List (α × List α)
  | [] => []
  | a :: l => (a, l) :: tails l
/-- A TEMPLATE section is rejected (spec/05 R124). -/
def templateBad (kernels : List Kernel) (rodata : Nat) (b : Bytes) : Bool :=
  let t := templateOfBytes b
  templateReserved b || levelsBad t.levels || t.scopesBad ||
    t.nodes.zipIdx.any (fun e => t.nodeBad kernels rodata e.2 e.1) ||
    t.nodes.any (fun n => match kernels[n.kernel]? with
      | some k => k.code.any (fun w => match wordLevel w.toNat with
        | some l => !levelDeclared t.levels l
        | none => false)
      | none => false) ||
    t.edges.any t.edgeBad || !(t.peel t.nodes.length (List.range t.nodes.length)).isEmpty ||
    t.gangs.zipIdx.any (fun e => t.gangBad kernels e.2 e.1) || !(t.buffers.map (·.slot)).Nodup ||
    t.relocs.any (fun r => decide (t.nodes.length ≤ r.node) || !t.buffers.any (fun q => q.slot == r.slot)) ||
    (tails t.channels).any (fun e => t.chanBad kernels e.1 e.2)

/-- The kernels of an image as its sections hold them, before the patches. -/
def imageKernels (img : Bytes) : List Kernel := ((sections img).filter (fun q => q.kind == 1)).map (fun q => kernelOfBytes (q.bytes img))
/-- The bytes of the RODATA section. -/
def imageRodata (img : Bytes) : Bytes :=
  match (sections img).find? (fun q => q.kind == 4) with
  | some q => q.bytes img
  | none => []
/-- A section of an image is rejected (spec/05 R118 to R124): section i. A LINK may name a kernel of any section. A LITPATCH section is a
whole number of records of 16 bytes (DESIGN CHOICE, log 73). -/
def sectionBad (system : Bool) (img : Bytes) (i : Nat) (q : Section) : Bool :=
  let b := q.bytes img
  let kernels := imageKernels img
  q.reserved || q.offset % 64 != 0 || (q.kind != 2 && q.link != 0) ||
    (match q.kind with
     | 1 => kernelBad system b
     | 2 => (match kernels[q.link]? with
       | some k => b.length % 16 != 0 || (patches b).any (patchBad k.literals.length)
       | none => true)
     | 3 => templateBad kernels (imageRodata img).length b
     | 4 => ((sections img).take i).any (fun p => p.kind == 4)
     | 5 => false
     | _ => true)
/-- The DETAIL of a rejected image (spec/14 Table 14.5), or none: `img` holds LEN bytes whose header is good. -/
def imageBad (system : Bool) (img : Bytes) : Option Nat :=
  if (sections img).any (fun q => decide (img.length < q.offset + q.size)) then some 0xFFFFFFFF
  else ((sections img).zipIdx.find? (fun e => sectionBad system img e.2 e.1)).map (·.2)
/-- The image that a partition loads (spec/05 R118 to R123): literals patched with its load-time parameters. Every LITPATCH section that
names a kernel is applied to it, in section order (DESIGN CHOICE, log 73). -/
def State.imageOf (s : State) (part handle : Nat) (system : Bool) (img : Bytes) : Image :=
  let lits := fun (i : Nat) (k : Kernel) => ((sections img).filter (fun q => q.kind == 2 && q.link == i)).foldl (fun l q =>
    s.patch part l (q.bytes img)) k.literals
  { part := part, handle := handle, system := system, bytes := img.length
    kernels := (imageKernels img).zipIdx.map (fun e => { e.1 with literals := lits e.2 e.1 })
    templates := ((sections img).filter (fun q => q.kind == 3)).map (fun q => templateOfBytes (q.bytes img))
    rodata := imageRodata img }

end Sys2Proof.Machine
end

