-- ==== Sys2Proof/Machine/Queues.lean ====
section
/-! DEFINITION. Work queues, commands, instantiation and completion records (spec/14 R291 to R300, R308; spec/17 R359). -/

namespace Sys2Proof.Machine

/-- ENABLE of spec/14 Table 14.1. -/
def Queue.enabled (q : Queue) : Bool := testW q.cfg0 63
/-- WEIGHT. -/
def Queue.weight (q : Queue) : Nat := bits q.cfg0 59 52
/-- CLASS. -/
def Queue.cls (q : Queue) : Nat := bits q.cfg0 51 50
/-- PART. -/
def Queue.part (q : Queue) : Nat := bits q.cfg0 47 44
/-- Bytes of an adapter entry. -/
def Queue.adapterSize (q : Queue) : Nat := 2 ^ (bits q.cfg0 43 40 + 6)
/-- QSTAT (spec/14 Table 14.2). -/
def Queue.qstat (q : Queue) : Word := wordN (q.overrun.toNat * 2 ^ 48 + q.done.toNat * 2 ^ 32 + q.taken.toNat * 2 ^ 16 + q.posted.toNat)
/-- A read of a queue's window (spec/14 R291). -/
def State.readWindow (s : State) (queue offset : Nat) : Word := if offset = 0x40 then (s.queue queue).qstat else 0

/-- A write of QCFG0 is refused (spec/14 R291). -/
def Queue.refuses (q : Queue) (v : Word) : Bool :=
  bits v 61 60 != 0 || bits v 49 48 != 0 || bits v 35 0 != 0 || bits v 59 52 == 0 || decide (10 < bits v 43 40) ||
    decide (bits v 39 36 < 2 ∨ 8 < bits v 39 36) || (q.enabled && (bits v 47 44 != q.part || bits v 39 36 != bits q.cfg0 39 36))
/-- QCFG_WRITE (spec/14 R291): of QCFG0, or of QCFG1. -/
def execQcfgWrite (queue : Nat) (high : Bool) (v : Word) (s : State) : Host.Outcome State Fault Refusal :=
  .next (
    if 2048 ≤ queue then s
    else if high then (if bits v 63 56 = 0 then s.onQueue queue (fun q => { q with cfg1 := v }) else s)
    else if (s.queue queue).refuses v then s else s.onQueue queue (fun q => { q with cfg0 := v }))

/-- The event that carries out a command. -/
def commandEvent (queue : Nat) (b : Bytes) : Instr :=
  match (byteAt b 0).toNat with
  | 2 => .loadImage queue [] false
  | 3 => .unloadImage queue
  | 4 => .runGraph queue [] false
  | 5 => .cancelCommand queue
  | _ => .nopCommand queue
/-- A store to a queue's window is accepted (spec/14 R292). -/
def Queue.accepts (q : Queue) (data : Bytes) : Bool :=
  data.length == 64 && q.enabled && decide ((q.posted - q.taken).toNat < 2 ^ bits q.cfg0 39 36)
/-- COMMAND_STORE (spec/14 R291, R292): a store to offset 0 enters the ring, or is dropped and counted; one to another offset is
dropped. -/
def execCommandStore (queue offset : Nat) (data : Bytes) (s : State) : Host.Outcome State Fault Refusal :=
  .next (
    if 2048 ≤ queue ∨ offset ≠ 0 then s
    else if (s.queue queue).accepts data then
      ((s.onQueue queue (fun q => { q with ring := q.ring ++ [data], posted := q.posted + 1 })).post (commandEvent queue data)).post
        (.adapterPrefetch queue)
    else s.onQueue queue (fun q => { q with overrun := if q.overrun = 0xFFFF then q.overrun else q.overrun + 1 }))

/-- A queue that competes under R308: its number, class, quantum, the cost of its head, and its deficit. -/
structure Rival where
  queue : Nat
  cls : Nat
  quantum : Nat
  cost : Nat
  deficit : Nat
  deriving DecidableEq, Repr
/-- The rival of a class whose turn it is: the queue visited, or the next in increasing number, cyclically. -/
def rivalAt (rs : List Rival) (at_ : Nat) : Option Rival :=
  match rs.find? (fun r => decide (at_ ≤ r.queue)) with
  | some r => some r
  | none => rs.head?
/-- Deficit round robin inside a class (spec/14 R308, spec/02 R40): the queue in turn and whether it has had its quantum; the
winner, the rivals with their deficits, and the turn. -/
def pickQueue : (fuel : Nat) → List Rival → (at_ : Nat) → (given : Bool) → Option (Rival × List Rival × Nat)
  | 0, _, _, _ => none
  | n + 1, rs, at_, given =>
    match rivalAt rs at_ with
    | none => none
    | some r =>
      let d := r.deficit + (if given && r.queue == at_ then 0 else r.quantum)
      let rs := rs.map (fun x => if x.queue == r.queue then { x with deficit := d } else x)
      if r.cost ≤ d then some ({ r with deficit := d }, rs, r.queue) else pickQueue n rs (r.queue + 1) false
/-- Deficit round robin over the classes with the quanta of spec/14 Table 14.11. -/
def pickClass (quanta : Vector Nat 4) : (fuel : Nat) → List Rival → Drr → Option (Rival × List Rival × Drr)
  | 0, _, _ => none
  | n + 1, rs, d =>
    let mine := rs.filter (fun r => r.cls == d.cls.val)
    let next : Drr := { d with cls := d.cls + 1, credited := false }
    if mine.isEmpty then pickClass quanta n rs next
    else
      let c := d.deficit.get d.cls + (if d.credited then 0 else quanta.get d.cls)
      match pickQueue (1024 * (mine.length + 1)) mine (d.at_.get d.cls) (d.given.get d.cls) with
      | none => none
      | some (w, ms, at_) =>
        let rs := rs.filter (fun r => r.cls != d.cls.val) ++ ms
        let d := { d with at_ := vset d.at_ d.cls.val at_, given := vset d.given d.cls.val true }
        if w.cost ≤ c then
          some (w, rs.map (fun r => if r.queue == w.queue then { r with deficit := r.deficit - w.cost } else r),
            { d with deficit := vset d.deficit d.cls.val (c - w.cost), credited := true })
        else pickClass quanta n rs { d with deficit := vset d.deficit d.cls.val c, cls := d.cls + 1, credited := false }
/-- The choice of R308 among the rivals, which stand in increasing queue number. -/
def Drr.choose (quanta : Vector Nat 4) (d : Drr) (rs : List Rival) : Option (Rival × List Rival × Drr) :=
  if rs.isEmpty then none else pickClass quanta 256 rs d

/-- The partition in whose turn a shared unit of a die stands (spec/17 R359): turns of `len` cycles, in increasing partition
number over the partitions configured on the die (log 31). -/
def State.turnOf (s : State) (die len : Nat) : Option Nat :=
  let ps := (List.range 16).filter (fun p => (s.part p).configured && vget (s.part p).tiles die != 0)
  ps[s.cycle / len % ps.length]?
/-- A unit of a die may take work of a partition now. -/
def State.hasTurn (s : State) (die len part : Nat) : Bool :=
  s.turnOf die len == some part || !(s.part part).configured || vget (s.part part).tiles die == 0
/-- The dies of this module that hold tiles of a partition and are good, in increasing order (spec/14 R296). -/
def State.diesOf (s : State) (part : Nat) : List Nat :=
  [0, 1, 2, 3].filter (fun d => (s.die d).good && !s.lostDie d && (s.part part).configured &&
    (vget (s.part part).tiles d).toNat % 2 ^ 48 + (vget (s.part part).tiles d).toNat / 2 ^ 52 % 16 != 0)
/-- The dies that hold tiles of a partition, on every module that it spans, in increasing order of module and die (spec/14 R296). -/
def State.homesOf (s : State) (part : Nat) : List (Nat × Nat) :=
  let mine := (s.diesOf part).map (fun d => (s.mgmt.package, d))
  if (Config.peerModules part).isEmpty then mine
  else (List.range 1024).flatMap (fun p =>
    if p = s.mgmt.package then mine
    else if (Config.peerModules part).contains p then
      ([0, 1, 2, 3].filter (fun d => Config.peerTiles part p / 2 ^ (64 * d) % 2 ^ 64 != 0)).map (fun d => (p, d))
    else [])
/-- The die whose command core serves a partition. -/
def State.coreDie (s : State) (part : Nat) : Nat := (s.diesOf part).headD 0
/-- SourceNo() of a die's command core (spec/04 Table 4.6). -/
def State.coreSource (s : State) (die : Nat) : Nat := s.sourceNo (die * 64 + 48) 0

/-- Queues of a partition whose head the ROM may take (spec/14 Table 14.3, FENCE). -/
def State.admissible (s : State) (part : Nat) : List Rival :=
  s.queues.filterMap (fun e =>
    match e.2.ring with
    | b :: _ =>
      if e.2.part == part && (!testN (byteAt b 1).toNat 0 || e.2.taken == e.2.done) then
        some { queue := e.1, cls := e.2.cls, quantum := e.2.weight, cost := 1, deficit := e.2.admDeficit }
      else none
    | [] => none)
/-- Admission quanta of spec/14 Table 14.11. -/
def admQuanta : Vector Nat 4 := #v[8, 4, 2, 1]
/-- The command at the head of a queue's ring taken by the ROM, if arbitration admits it now (spec/14 R293, R308; spec/17 R359). -/
def State.take (s : State) (queue : Nat) : Option (Command × State) :=
  let q := s.queue queue
  let part := q.part
  if s.mgmt.state != .ready || !s.hasTurn (s.coreDie part) 256 part then none
  else match q.ring, Drr.choose admQuanta (s.part part).adm (s.admissible part) with
    | b :: rest, some (w, rs, d) =>
      if w.queue = queue then
        let (id, s) := s.fresh
        let c : Command := { id := id, queue := queue, part := part, bytes := b, taccept := s.now, outcome := none, record := none }
        let s := rs.foldl (fun s r => s.onQueue r.queue (fun x => { x with admDeficit := r.deficit })) s
        let s := s.onQueue queue (fun x => { x with ring := rest, taken := x.taken + 1, ahead := x.ahead - 1
                                                    admDeficit := if rest.isEmpty then 0 else x.admDeficit })
        let last := !s.queues.any (fun e => e.2.part == part && e.2.cls == q.cls && !e.2.ring.isEmpty)
        let d := if last then { d with deficit := vset d.deficit q.cls 0 } else d
        let s := s.onPart part (fun p => { p with adm := d })
        some (c, { s with commands := s.commands ++ [c] })
      else none
    | _, _ => none

/-- A command decided: its completion record follows (spec/14 R295). -/
def State.outcomeOf (s : State) (c : Command) (status detail serial : Nat) : State :=
  State.post { s with commands := s.commands.map (fun x => if x.id == c.id then { x with outcome := some (status, detail, serial) } else x) }
    (.completionRecord c.id)
/-- A reserved field of a command is not zero, or CPL is misaligned (spec/14 Tables 14.3, 14.4): `used` are the bytes from 24 on
that its opcode uses. -/
def commandBad (b : Bytes) (used : List Nat) : Bool :=
  decide (2 ≤ (byteAt b 1).toNat) || field b 2 6 != 0 || field b 16 8 % 64 != 0 ||
    ((List.range 40).map (· + 24)).any (fun i => !used.contains i && byteAt b i != 0)
/-- A command of one of some opcodes at the head of a queue carried out once it is admitted; until then it waits. -/
def State.command (s : State) (queue : Nat) (mine : Nat → Bool) (ev : Instr) (run : Command → State → State) : State :=
  let wait := if s.deferred.contains ev then s else s.defer ev
  match (s.queue queue).ring with
  | [] => s
  | b :: rest =>
    if mine (byteAt b 0).toNat then
      match s.take queue with
      | none => wait
      | some (c, s') => run c s'
    else if rest.any (fun x => mine (byteAt x 0).toNat) then wait else s
/-- NOP (spec/14 R293, R294), and an opcode that the ROM does not know. -/
def execNopCommand (queue : Nat) (s : State) : Host.Outcome State Fault Refusal :=
  .next (s.command queue (fun o => o < 2 || 5 < o) (.nopCommand queue) (fun c s =>
    s.outcomeOf c (if byteAt c.bytes 0 = 1 ∧ !commandBad c.bytes [] then 0 else 16) 0 0))

/-- The command core of a partition, as the issuer of the reads of a queue's command: `part_` 0 for its blocks, 1 for its adapter entry. -/
def State.coreIssuer (s : State) (part queue : Nat) (part_ : Nat := 0) : Issuer := .device part (s.coreSource (s.coreDie part)) (2 * queue + part_ + 1)

/-- An image enters a partition's store on this module under a handle; with `trapk` the kernel named becomes the trap kernel, placed in every code
store (spec/13 R275, spec/14 Table 14.6). -/
def State.enterImage (s : State) (part handle : Nat) (system : Bool) (trapk : Option Nat) (img : Bytes) : State :=
  let s := { s with images := s.images ++ [s.imageOf part handle system img] }
  match trapk with
  | some tk =>
    let s := s.onPart part (fun p => { p with trapImage := handle, partinfo := wordN (bits p.partinfo 63 17 * 2 ^ 17 + 2 ^ 16 + tk) })
    (s.tiles.filter (fun e => e.2.part == some part)).foldl (fun s e => s.placeCode e.1 (part, handle, tk)) s
  | none => s
/-- An image loaded (spec/14 Table 14.6): its handle is a free one. It enters the stores of the partition's other modules too, and the command is
over when it has (log 77). -/
def State.install (s : State) (c : Command) (part : Nat) (system : Bool) (trapk : Option Nat) (img : Bytes) : State :=
  let mine := s.images.filter (fun m => m.part == part)
  let (h, s) := s.ownNumber part 65535 ((List.range 65535).filter (fun i => mine.any (fun m => m.handle == i + 1)))
  let s := s.enterImage part (h + 1) system trapk img
  let peers := Config.peerModules part
  if peers.isEmpty then s.outcomeOf c 0 (h + 1) 0
  else State.tell { s with commands := s.commands.map (fun x => if x.id == c.id then { x with awaits := peers } else x) } part peers .image
    [c.id, h + 1, bit system, match trapk with
      | some tk => tk + 1
      | none => 0] img
/-- The image store of a partition takes no more: its bytes, or the handles that this module gives out, are used up (spec/14 Table 14.5). -/
def State.storeFull (s : State) (part len : Nat) : Bool :=
  let mine := s.images.filter (fun m => m.part == part)
  let (r, n) := s.rank part
  decide (Config.imageStore < (mine.map (·.bytes)).sum + len ∨ (65535 - r) / n ≤ (mine.filter (fun m => (m.handle - 1) % n == r)).length)
/-- What LOAD brings about once taken (spec/14 R293, R294, Table 14.5; spec/05 R125): `s0` is the state before, for a load that must
wait. -/
def State.load (s0 : State) (c : Command) (remote : Bytes) (bad : Bool) (s : State) : State :=
  let b := c.bytes
  let part := c.part
  let flags := (byteAt b 40).toNat
  let src := fieldW b 24 8
  let len := field b 32 8
  let p := s.coreIssuer part c.queue
  let wait := fun (r : CoreRead) => s0.readWaits p r (.loadImage c.queue remote bad)
  if commandBad b (List.range 17 |>.map (· + 24) |>.append [42, 43]) || decide (4 ≤ flags) ||
      (testN flags 0 && !testW (s.queue c.queue).cfg0 62) then s.outcomeOf c 16 0 0
  else
    let head := s.coreBytes p src 32 remote bad
    if head.fails then (s.readDone p head).outcomeOf c 25 0 0
    else match wait head with
    | some s => s
    | none =>
      if headerBad head.bytes len then (s.readDone p head).outcomeOf c 17 0xFFFFFFFF 0
      else
        let body := s.coreBytes p src len remote bad
        let s := s.readDone p body
        if body.fails then s.outcomeOf c 25 0 0
        else match wait body, imageBad (testN flags 0) body.bytes with
          | some s, _ => s
          | none, some i => s.outcomeOf c 17 i 0
          | none, none =>
            if testN flags 1 && decide ((imageKernels body.bytes).length ≤ field b 42 2) then s.outcomeOf c 18 0 0
            else if s.storeFull part len then s.outcomeOf c 24 0 0
            else s.install c part (testN flags 0) (if testN flags 1 then some (field b 42 2) else none) body.bytes
/-- LOAD (spec/05 R125, spec/14 R294). A load that needs bytes from outside the module asks for them and is tried again when they
come. -/
def execLoadImage (queue : Nat) (remote : Bytes) (bad : Bool) (s : State) : Host.Outcome State Fault Refusal :=
  .next (s.command queue (· == 2) (.loadImage queue remote bad) (fun c s' => State.load s c remote bad s'))

/-- An image has a live instance (spec/05 R125). -/
def State.imageBusy (s : State) (part handle : Nat) : Bool := s.instances.any (fun i => i.part == part && i.image == handle)
/-- An image leaves a partition's store on this module (spec/14 Table 14.6). -/
def State.dropImage (s : State) (part h : Nat) : State :=
  let s : State := { s with images := s.images.filter (fun m => !(m.part == part && m.handle == h)) }
  let s := s.onPart part (fun p => if p.trapImage = h then { p with partinfo := setBit p.partinfo 16 false } else p)
  { s with tiles := s.tiles.map (fun (e : Nat × Tile) =>
    (e.1, { e.2 with code := e.2.code.filter (fun k => !(k.1 == part && k.2.1 == h)) })) }
/-- What UNLOAD brings about (spec/14 R294). -/
def State.unload (c : Command) (s : State) : State :=
  let part := c.part
  let h := field c.bytes 24 2
  if commandBad c.bytes [24, 25] then s.outcomeOf c 16 0 0
  else if (s.image part h).isNone then s.outcomeOf c 18 0 0
  else if s.imageBusy part h then s.outcomeOf c 22 0 0
  else ((s.dropImage part h).tell part (Config.peerModules part) .unload [h]).outcomeOf c 0 0 0
/-- UNLOAD. -/
def execUnloadImage (queue : Nat) (s : State) : Host.Outcome State Fault Refusal :=
  .next (s.command queue (· == 3) (.unloadImage queue) State.unload)

/-- What CANCEL brings about (spec/14 R294): it completes with the CANCELLED scope of a live instance. -/
def State.cancelInstance (c : Command) (s : State) : State :=
  let part := c.part
  if commandBad c.bytes [24, 25, 26, 27] then s.outcomeOf c 16 0 0
  else match (s.instanceOf part (field c.bytes 24 4)).bind (fun i => s.scopeOf part (i.scopes.getD 0 0)) with
    | some key =>
      if s.scopeState key == .active || s.scopeState key == .cancelling then s.cancelScope key 1 else s.outcomeOf c 23 0 0
    | none => s.outcomeOf c 23 0 0
/-- CANCEL_COMMAND. -/
def execCancelCommand (queue : Nat) (s : State) : Host.Outcome State Fault Refusal :=
  .next (s.command queue (· == 5) (.cancelCommand queue) State.cancelInstance)

/-- The argument image of a node with its relocations patched (spec/02 R28, spec/14 R297). -/
def Template.argImage (t : Template) (rodata table : Bytes) (k : Nat) : Bytes :=
  let base := match (t.nodes[k]?).bind (·.argoff) with
    | some o => padTo 256 ((rodata.drop o).take 256)
    | none => zeros 256
  (t.relocs.filter (fun r => r.node == k)).foldl (fun b r =>
    b.take (8 * r.argw) ++ toBytes 8 (fieldW table (16 * r.slot) 8 + r.offset).toNat ++ b.drop (8 * r.argw + 8)) base
/-- DIST of every node (spec/14 R305), found by going over the nodes as often as the longest path has edges; the edges form no
cycle. -/
def Template.dists (t : Template) : (fuel : Nat) → List Nat → List Nat
  | 0, l => l
  | n + 1, l => t.dists n (t.nodes.zipIdx.map (fun e =>
      min (e.1.cost + ((t.edges.filter (fun x => x.1 == e.2)).map (fun x => l.getD x.2 0)).foldl max 0) (2 ^ 32 - 1)))
/-- What a RUN gives the records of its instance: SERIAL, template index, queue and its class, SEEDBASE, the dies of the partition; the package that
took it, none when it is this one, for that one the others, and the scope handles that it has given (log 77). -/
structure Run where
  serial : Nat
  tmpl : Nat
  queue : Nat
  cls : Nat
  seedbase : Word
  homes : List (Nat × Nat)
  home : Option Nat
  others : List Nat
  scopes : List Word
  deriving DecidableEq, Repr
/-- The node index of a gang's leader. -/
def Template.leader (t : Template) (g : Nat) : Nat := (t.nodes.findIdx? (fun n => n.gang == some g && n.lead)).getD 0
/-- The node at whose home a node's record stands: a MEMBER's is its leader (spec/14 R296). -/
def Template.homeNode (t : Template) (k : Nat) : Nat :=
  match t.nodes[k]? with
  | some n => if n.member then t.leader (n.gang.getD 0) else k
  | none => k
/-- The record of a node (spec/14 R296, R298, R299, R305): its scope is entered when the scope records stand. -/
def State.nodeRecord (s : State) (m : Image) (t : Template) (run : Run) (dist : List Nat) (k : Nat) (n : Node) : TaskRec :=
  let preds := (t.edges.filter (fun e => e.2 == k && (match t.nodes[e.1]? with
    | some p => !p.spawnOnly
    | none => false))).map (fun e => run.homes.getD (t.homeNode e.1 % run.homes.length) (0, 0))
  { TaskRec.free with
    state := .waiting, lead := n.lead, member := n.member, sys := m.system, count := n.count, clevel := n.clevel, cls := run.cls
    cost := n.cost, dist := dist.getD (if n.gang.isSome then t.leader (n.gang.getD 0) else k) 0, serial := run.serial, node := k
    queue := run.queue, gidx := n.gang, dx := n.dx, dy := n.dy, pslot := n.slot, seed := mix (run.seedbase ^^^ n.seed), part := m.part, image := m.handle
    tmpl := run.tmpl, expected := Vector.ofFn (fun d => (preds.filter (fun h => h == (s.mgmt.package, d.val))).length)
    far := (preds.filter (fun h => h.1 != s.mgmt.package)).length }
/-- The records of the nodes of an instance that stand on this module, in node order: handles, 0 for a SPAWNONLY node and for one of another
module; or the partition-relative index of the die whose Tun could not supply one (spec/14 R296). -/
def State.addNodes (s : State) (m : Image) (t : Template) (run : Run) (args : List Bytes) : Except Nat (List Word × State) :=
  let dist := t.dists t.nodes.length []
  t.nodes.zipIdx.foldl (fun acc e =>
    match acc with
    | .error i => .error i
    | .ok (hs, s) =>
      let i := t.homeNode e.2 % run.homes.length
      let home := run.homes.getD i (s.mgmt.package, 0)
      if e.1.spawnOnly ∨ home.1 ≠ s.mgmt.package then .ok (hs ++ [0], s)
      else
        match s.addTask home.2 (s.nodeRecord m t run dist e.2 e.1) with
        | none => .error i
        | some (h, s) =>
          let image := args.getD e.2 []
          let s := (s.writeArgs h image).onTask h (fun r => { r with prefetches := t.pairs e.2 image })
          .ok (hs ++ [h], s)) (.ok ([], s))
/-- The home die of a template scope, as an index into the partition's dies (spec/14 R296): that of its OWNER node, the first for the root. -/
def Template.scopeHome (t : Template) (owner : Option Nat) (n : Nat) : Nat :=
  match owner with
  | some o => t.homeNode o % n
  | none => 0
/-- The scope records of an instance, in template order (spec/14 R296); their handles are new ones, or those that the command's module has given
(log 77). -/
def State.addScopes (s : State) (part : Nat) (t : Template) (run : Run) : Except Nat (List Nat × State) :=
  t.scopes.zipIdx.foldl (fun acc e =>
    match acc with
    | .error i => .error i
    | .ok (keys, s) =>
      let i := t.scopeHome e.1.2 run.homes.length
      let home := run.homes.getD i (s.mgmt.package, 0)
      let r : ScopeRec :=
        { state := .active, gen := 0, part := part, serial := run.serial, die := if home.1 = s.mgmt.package then home.2 else 4
          parent := e.1.1.bind (fun p => keys[p]?), depth := t.depth 32 e.2, sealed_ := false, opener := 0, cause := 0, owner := 0, tcancel := 0
          counts := AckCounts.zero, acks := [], home := run.home, others := run.others, awaits := run.others }
      match (match run.scopes[e.2]? with
        | some h => s.copyScope part h r
        | none => s.addScope part r) with
      | none => .error i
      | some (k, s) => .ok (keys ++ [k], s)) (.ok ([], s))
/-- The records of an instance that stand on this module, and the instance (spec/01 R22 step 2, spec/14 R296); or the DETAIL of TUNFULL, and
nothing is left. -/
def State.createRecords (s : State) (m : Image) (t : Template) (run : Run) (cmd : Nat) (table : Bytes) : Except Nat (Instance × State) :=
  let args := (List.range t.nodes.length).map (t.argImage m.rodata table)
  match s.addNodes m t run args with
  | .error i => .error i
  | .ok (nodes, s) =>
    match s.addScopes m.part t run with
    | .error i => .error i
    | .ok (keys, s) =>
      let s := nodes.zipIdx.foldl (fun s e => match t.nodes[e.2]? with
        | some n => s.onTask e.1 (fun r => { r with
            scope := keys.getD n.scope 0
            leader := if n.member then handleEntry (nodes.getD (t.homeNode e.2) 0) else 0 })
        | none => s) s
      let scopes := keys.map (fun k => match s.scope k with
        | some r => scopeHandle k r
        | none => 0)
      let i : Instance :=
        { part := m.part, serial := run.serial, image := m.handle, tmpl := run.tmpl, queue := run.queue, cmd := cmd, seedbase := run.seedbase
          nodes := nodes, scopes := scopes, args := args, ended := 0, lost := 0, underflow := false, closes := [], broken := [], home := run.home
          others := run.others, awaits := run.others, starting := true }
      .ok (i, { s with instances := s.instances ++ [i] })
/-- An instance whose records all stand starts on this module (spec/01 R22 steps 3 and 4): the SERIAL is used up, every task of this module whose
counter is 0 is posted, and the root scope is sealed. -/
def State.startInstance (s : State) (part serial : Nat) : State :=
  match s.instanceOf part serial with
  | none => s
  | some i =>
    let keys := i.scopes.map (fun h => scopeKey part (bits h 19 0))
    let owners : List (Option Nat) := match s.templateOf i with
      | some t => t.scopes.map (fun e => e.2)
      | none => []
    let s := owners.zipIdx.foldl (fun (s : State) e => match e.1 with
      | some o => s.onScope (keys.getD e.2 0) (fun r => { r with opener := i.nodes.getD o 0 })
      | none => s) s
    let s := s.onInstance part serial (fun i => { i with starting := false })
    let s := s.onPart part (fun p => { p with nextSerial := if BitVec.ofNat 32 serial + 1 = 0 then 1 else BitVec.ofNat 32 serial + 1 })
    let s := i.nodes.foldl (fun s h => match s.taskOf h with
      | some r => if r.count = 0 && !r.member then s.postTask h else s
      | none => s) s
    let root := keys.getD 0 0
    (s.onScope root (fun r => { r with sealed_ := true })).wakeScope root
/-- The instance of a RUN created (spec/01 R22 steps 2 to 4, spec/14 R296), or the DETAIL of TUNFULL. The other modules of the partition are told
what to create, and it starts when all have (log 77). -/
def State.instantiate (s : State) (c : Command) (m : Image) (t : Template) (ti : Nat) (table : Bytes) (homes : List (Nat × Nat)) :
    Except Nat State :=
  let run : Run :=
    { serial := (s.part m.part).nextSerial.toNat, tmpl := ti, queue := c.queue, cls := (s.queue c.queue).cls, seedbase := fieldW c.bytes 40 8
      homes := homes, home := none, scopes := [], others := Config.peerModules m.part }
  match s.createRecords m t run c.id table with
  | .error i => .error i
  | .ok (i, s) =>
    .ok (if run.others.isEmpty then s.startInstance i.part i.serial
      else s.tell i.part run.others .create ([i.serial, i.image, ti, c.queue, run.cls, run.seedbase.toNat, homes.length] ++
        homes.map (fun h => 4 * h.1 + h.2) ++ i.scopes.map (·.toNat)) table)
/-- The first declared buffer slot, in increasing number, that the buffer table does not bind well: UNBOUND or SHORTBUF, and the
slot (spec/14 R296). -/
def bufferBad (t : Template) (table : Bytes) : Option (Nat × Nat) :=
  ((List.range 64).filterMap (fun i => t.buffers.find? (fun b => b.slot == i))).findSome? (fun b =>
    let base := fieldW table (16 * b.slot) 8
    let len := field table (16 * b.slot + 8) 8
    if len = 0 then some (19, b.slot)
    else if len < b.minlen ∨ bits base 63 56 ≠ 0 then some (20, b.slot)
    else none)
/-- The adapter entry that a RUN names (spec/14 R300), if it names one. -/
def Queue.adapterAt (q : Queue) (b : Bytes) : Option Word :=
  if field b 48 4 = 0xFFFFFFFF ∨ q.cfg1 = 0 then none else some (q.cfg1 + wordN (field b 48 4 * q.adapterSize))
/-- The adapter entry of a RUN read: it fails the command when it fails translation or is poisoned (spec/14 Table 14.5, spec/17 R371). -/
def State.adapterRead (s : State) (part queue : Nat) (b : Bytes) : CoreRead :=
  let p := s.coreIssuer part queue 1
  match (s.queue queue).adapterAt b with
  | some va => s.coreBytes p va (s.queue queue).adapterSize [] false
  | none => s.coreBytes p 0 0 [] false
/-- What RUN brings about (spec/14 R293, R296; Table 14.5): `s0` is the state before, for a command that must wait. -/
def State.runCommand (s0 : State) (c : Command) (remote : Bytes) (bad : Bool) (s : State) : State :=
  let b := c.bytes
  let part := c.part
  let nbind := (byteAt b 28).toNat
  let buftab := fieldW b 32 8
  if commandBad b ((List.range 5 |>.map (· + 24)) ++ (List.range 20 |>.map (· + 32))) || decide (64 < nbind) || buftab.toNat % 16 != 0 then
    s.outcomeOf c 16 0 0
  else match s.image part (field b 24 2), (s.image part (field b 24 2)).bind (fun m => m.templates[field b 26 2]?) with
    | some m, some t =>
      let p := s.coreIssuer part c.queue
      let q := s.coreIssuer part c.queue 1
      let table := s.coreBytes p buftab (16 * nbind) remote bad
      let entry := s.adapterRead part c.queue b
      let ev := Instr.runGraph c.queue remote bad
      let s := (s.readDone p table).readDone q entry
      if table.fails || entry.fails then s.outcomeOf c 25 0 0
      else match (match s0.readWaits p table ev with
          | some s => some s
          | none => s0.readWaits q entry ev), bufferBad t table.bytes with
        | some s, _ => s
        | none, some e => s.outcomeOf c e.1 e.2 0
        | none, none =>
          -- a partition that spans modules runs only once they agree on the time (spec/16 R351)
          if !(Config.peerModules part).isEmpty && !s.locked then s.outcomeOf c 25 0 0
          else if (s.homesOf part).isEmpty then s.outcomeOf c 26 0 0
          else match s.instantiate c m t (field b 26 2) table.bytes (s.homesOf part) with
            | .error i => s.outcomeOf c 21 i 0
            | .ok s => s
    | _, _ => s.outcomeOf c 18 0 0
/-- RUN (spec/14 R296). The commands of a partition are instantiated one at a time: one waits while an instance has still to start, and one that
another module has refused for that reason tries again (log 77). -/
def execRunGraph (queue : Nat) (remote : Bytes) (bad : Bool) (s : State) : Host.Outcome State Fault Refusal :=
  let ev := Instr.runGraph queue remote bad
  .next (if s.instances.any (fun i => i.part == (s.queue queue).part && i.starting) then (if s.deferred.contains ev then s else s.defer ev)
    else match s.commands.find? (fun c => c.queue == queue && c.again) with
      | some c => State.runCommand s c remote bad
          { s with commands := s.commands.map (fun x => if x.id == c.id then { x with again := false } else x) }
      | none => s.command queue (· == 4) ev (fun c s' => State.runCommand s c remote bad s'))

/-- The prefetch of one adapter entry (spec/14 R300): its translations are looked up, and lines of this module that the host holds are asked
for (spec/16 R354); the lines that it allocates change no value, and a failure is reported nowhere. -/
def State.prefetchEntry (s : State) (part queue : Nat) (b : Bytes) : State :=
  if byteAt b 0 != 4 then s
  else
    let r := s.adapterRead part queue b
    let s := r.at_.foldl (fun s va => s.walked part va) s
    if r.fault then s else (s.snoop r.lines false).getD s
/-- ADAPTER_PREFETCH (spec/14 R300): the ROM reads ahead up to 8 entries of an enabled queue that has an adapter table. -/
def execAdapterPrefetch (queue : Nat) (s : State) : Host.Outcome State Fault Refusal :=
  let q := s.queue queue
  .next (if q.enabled && q.cfg1 != 0 then
    (((q.ring.take 8).drop q.ahead).foldl (fun s b => s.prefetchEntry q.part queue b) s).onQueue queue (fun q =>
      { q with ahead := max q.ahead (min 8 q.ring.length) })
  else s)

/-- The completion record of a command (spec/14 Table 14.7). -/
def State.completion (s : State) (c : Command) (status detail serial : Nat) (i : Option Instance) : Bytes :=
  toBytes 4 serial ++ toBytes 2 c.queue ++ [BitVec.ofNat 8 status] ++ [BitVec.ofNat 8 (match i with
    | some i => bit i.underflow
    | none => 0)] ++ (c.bytes.drop 8).take 8 ++ toBytes 8 c.taccept.toNat ++ toBytes 8 s.now.toNat ++ toBytes 4 detail ++
    toBytes 4 (match i with
    | some i => i.ended + (i.away.map (·.2.1)).sum
    | none => 0) ++ toBytes 4 (match i with
    | some i => i.lost + (i.away.map (·.2.2)).sum
    | none => 0) ++ zeros 20
/-- An instance is gone with its root scope (spec/02 Table 2.6). -/
def State.endInstance (s : State) (i : Instance) : State :=
  let s : State := { s with instances := s.instances.filter (fun x => !(x.part == i.part && x.serial == i.serial)) }
  match s.scopeOf i.part (i.scopes.getD 0 0) with
  | some k => ((s.children k).foldl (fun s e => s.freeScope e.1) s).freeScope k
  | none => s
/-- A command is over: DONE advances, and the instance of a RUN is gone with its root scope (spec/14 R295; spec/02 Table 2.6). -/
def State.commandDone (s : State) (c : Command) : State :=
  let s : State := { s with commands := s.commands.filter (fun x => x.id != c.id) }
  let s := s.onQueue c.queue (fun q => { q with done := q.done + 1 })
  match s.instances.find? (fun i => i.cmd == c.id) with
  | none => s
  | some i => (s.endInstance i).tell i.part i.others .over [i.serial]
/-- How the record of a command goes out. -/
inductive RecordOut where
  | done (s : State)
  | wait (s : State)
  | sent (s : State) (id : Nat)
/-- The record written at CPL (spec/14 R295): in this module at once, elsewhere by a request that stands until it has been
performed; one whose address fails translation is dropped and counted. -/
def State.writeRecord (s : State) (c : Command) (part : Nat) (bs : Bytes) : RecordOut :=
  let cpl := fieldW c.bytes 16 8
  if cpl = 0 then .done s
  else match classify cpl with
    | .virtual =>
      (match s.writeAndWait part (s.coreSource (s.coreDie part)) cpl bs (.completionRecord c.id) with
       | .done s => .done s
       | .wait s => .wait s
       | .sent s id => .sent s id
       | .failed => .done ((s.walked part cpl).countDie (s.coreDie part) 3))
    | _ => .done (s.countDie (s.coreDie part) 3)
/-- The outcome of a RUN whose root scope is CLOSED or CANCELLED (spec/14 Table 14.5). -/
def State.runOutcome (s : State) (i : Instance) : Option (Nat × Nat × Nat) :=
  match (s.scopeOf i.part (i.scopes.getD 0 0)).bind s.scope with
  | some r => if r.state == .closed then some (0, 0, i.serial) else if r.state == .cancelled then some (r.cause, 0, i.serial) else none
  | none => none
/-- CANCEL commands of an instance that wait for its root scope. -/
def State.cancelsOf (s : State) (i : Instance) : List Command :=
  s.commands.filter (fun c => c.outcome.isNone && byteAt c.bytes 0 == 5 && c.part == i.part && field c.bytes 24 4 == i.serial)
/-- COMPLETION_RECORD (spec/14 R295): CANCEL commands of an instance complete before its own RUN (R294). -/
def execCompletionRecord (cmd : Nat) (s : State) : Host.Outcome State Fault Refusal :=
  .next (match s.commands.find? (fun c => c.id == cmd) with
    | none => s
    | some c =>
      let i := s.instances.find? (fun i => i.cmd == cmd)
      let waiting := match i with
        | some i => if (s.runOutcome i).isSome then s.cancelsOf i else []
        | none => []
      match c.record with
      | some id => if (s.request id).isSome then s else s.commandDone c
      | none =>
        if !waiting.isEmpty then (waiting.foldl (fun s c => s.outcomeOf c 0 0 0) s).post (.completionRecord cmd)
        else match (match c.outcome with
            | some o => some o
            | none => i.bind s.runOutcome) with
          | none => s
          | some (status, detail, serial) =>
            match s.writeRecord c c.part (s.completion c status detail serial i) with
            | .done s => s.commandDone c
            | .wait s => s.defer (.completionRecord cmd)
            | .sent s id =>
              { s with commands := s.commands.map (fun x => if x.id == cmd then { x with record := some id } else x) })

end Sys2Proof.Machine
end

