-- ==== Sys2Proof/Machine/Pod.lean ====
section
/-! DEFINITION. What the modules that a partition spans tell one another (spec/14 R294, R296; spec/02 R34, R48; spec/10 R238, R245): the spec says
that records on other modules are written by messages and that the CANCELLING state reaches every package, and gives the messages no form; that
form is the model's (log 77). -/

namespace Sys2Proof.Machine

/-- A word of a message. -/
def mailWord (b : Bytes) (i : Nat) : Nat := field b (16 + 8 * i) 8
/-- The words of a message from the n-th on. -/
def mailWords (b : Bytes) (n : Nat) : List Word := ((List.range (field b 8 8)).drop n).map (fun i => wordN (mailWord b i))
/-- What follows the words of a message. -/
def mailTail (b : Bytes) : Bytes := b.drop (16 + 8 * field b 8 8)

/-- The records of an instance that could not be created everywhere are freed (spec/14 R296 step 4). -/
def State.withdraw (s : State) (i : Instance) : State :=
  let s := [0, 1, 2, 3].foldl (fun s d => s.onDie d (fun q => { q with tun := q.tun.map (fun (e : Nat × TaskRec) =>
    if e.2.part == i.part && e.2.serial == i.serial && e.2.state != .free then (e.1, { e.2 with state := .free }) else e) })) s
  { s with scopes := s.scopes.filter (fun e => !(e.2.part == i.part && e.2.serial == i.serial))
           instances := s.instances.filter (fun x => !(x.part == i.part && x.serial == i.serial)) }
/-- A RUN of this module is given up on every module; the command ends, or tries again. -/
def State.giveUp (s : State) (i : Instance) (outcome : Option (Nat × Nat)) : State :=
  let s := (s.withdraw i).tell i.part i.others .over [i.serial]
  match s.commands.find? (fun c => c.id == i.cmd), outcome with
  | some c, some (status, detail) => s.outcomeOf c status detail 0
  | some c, none => State.post { s with commands := s.commands.map (fun x => if x.id == c.id then { x with again := true } else x) }
      (.runGraph c.queue [] false)
  | none, _ => s
/-- Records that another module's RUN asks for (spec/14 R296): this module makes one instance of a partition at a time; of two modules that both
make one, the lower package goes first. -/
def State.createFor (s : State) (pkg part : Nat) (b : Bytes) : State :=
  let serial := mailWord b 0
  let refuse := fun (s : State) (why : Nat) => s.tell part [pkg] .refused [serial, why]
  match s.instances.find? (fun i => i.part == part && i.starting), s.image part (mailWord b 1),
      (s.image part (mailWord b 1)).bind (fun m => m.templates[mailWord b 2]?) with
  | some i, some m, some t =>
    if i.home.isNone && decide (pkg < s.mgmt.package) then make (s.giveUp i none) m t refuse else refuse s 0
  | none, some m, some t => make s m t refuse
  | _, _, _ => refuse s 1
where
  make (s : State) (m : Image) (t : Template) (refuse : State → Nat → State) : State :=
    let run : Run :=
      { serial := mailWord b 0, tmpl := mailWord b 2, queue := mailWord b 3, cls := mailWord b 4, seedbase := wordN (mailWord b 5)
        homes := ((mailWords b 7).take (mailWord b 6)).map (fun h => (h.toNat / 4, h.toNat % 4)), home := some pkg, others := []
        scopes := mailWords b (7 + mailWord b 6) }
    match s.createRecords m t run 0 (mailTail b) with
    | .error i => refuse s (i + 2)
    | .ok (i, s) => s.tell part [pkg] .created (i.serial :: i.nodes.map (·.toNat))
/-- The records of a module stand: the instance starts once those of all do. -/
def State.createdBy (s : State) (pkg part : Nat) (b : Bytes) : State :=
  match s.instanceOf part (mailWord b 0) with
  | none => s
  | some i =>
    if i.home.isSome || !i.starting then s
    else
      let nodes := i.nodes.zipWith (fun a b => if a = 0 then b else a) (mailWords b 1)
      let left := i.awaits.filter (· != pkg)
      let s := s.onInstance part i.serial (fun i => { i with nodes := nodes, awaits := left })
      if left.isEmpty then (s.tell part i.others .nodes (i.serial :: nodes.map (·.toNat))).startInstance part i.serial else s

/-- A report of a module on the tasks of an instance (spec/14 Table 14.7). -/
def State.tallied (s : State) (pkg part serial : Nat) (b : Bytes) : State :=
  s.onInstance part serial (fun i => { i with
    away := Assoc.set i.away pkg (mailWord b 1, mailWord b 2), underflow := i.underflow || mailWord b 3 != 0 })
/-- The counts of an acknowledgement as a message gives them, from its n-th word on. -/
def mailCounts (b : Bytes) (n : Nat) : AckCounts :=
  { killed := mailWord b n, discarded := mailWord b (n + 1), trunc := mailWord b (n + 2), atoms := mailWord b (n + 3)
    dropped := mailWord b (n + 4), decs := mailWord b (n + 5), nested := testN (mailWord b (n + 6)) 0, forced := testN (mailWord b (n + 6)) 1
    lost := testN (mailWord b (n + 6)) 2 }
/-- Two counts added. -/
def AckCounts.plus (a c : AckCounts) : AckCounts :=
  { killed := a.killed + c.killed, discarded := a.discarded + c.discarded, trunc := a.trunc + c.trunc, atoms := a.atoms + c.atoms
    dropped := a.dropped + c.dropped, decs := a.decs + c.decs, nested := a.nested || c.nested, forced := a.forced || c.forced
    lost := a.lost || c.lost }
/-- A cancellation that another module asks for (spec/10 R238): `id` is its request, 0 when it has already begun there. -/
def State.cancelFor (s : State) (pkg part key cause id : Nat) : State :=
  match s.scope key with
  | none => if id = 0 then s else s.tell part [pkg] .answer [id, 2, key]
  | some r =>
    let code := match r.state with
      | .active => 0
      | .cancelling => 1
      | _ => 2
    let s := s.cancelScope key cause
    if id ≠ 0 then s.tell part [pkg] .answer [id, code, key]
    else if code = 1 then s.tell part [pkg] .adopt [key, r.owner] else s
/-- The answer to a CANCEL (spec/10 R238): its acknowledgement stands with the record of this module. -/
def State.cancelAnswered (s : State) (id code key : Nat) : State :=
  match s.request id with
  | none => s
  | some q =>
    match q.kind with
    | .cancel _ addr k =>
      let ack : Ack := { addr := addr, slot := q.slot, task := q.task, k := k, issuer := q.src, counted := code == 0 }
      let s := match code, s.scope key with
        | 2, some r => s.deliverAck key r ack
        | 2, none => s.unchargeTask q.slot q.task k
        | _, _ => s.onScope key (fun r => { r with acks := r.acks ++ [ack] })
      s.answer id (wordN code)
    | _ => s
/-- The scopes that a cancellation of this module took are part of an older one of an ancestor (spec/02 R34). -/
def State.adopt (s : State) (key owner : Nat) : State :=
  match s.scope key with
  | none => s
  | some r =>
    if r.owner = owner then s
    else
      let mine := (s.scopes.filter (fun e => e.2.state == .cancelling && e.2.owner == key)).map (·.1)
      let s := mine.foldl (fun s k => s.onScope k (fun r => { r with owner := owner, counts := AckCounts.zero })) s
      (s.onScope owner (fun q => { q with counts := q.counts.plus r.counts })).post (.ackDelivery owner)
/-- CANCEL commands of an instance on a module other than its RUN's are over with it (spec/14 R294). -/
def State.cancelsOver (s : State) (key : Nat) : State :=
  match (s.scope key).bind (fun r => if r.parent.isNone then s.instanceOf r.part r.serial else none) with
  | some i => (s.cancelsOf i).foldl (fun s c => s.outcomeOf c 0 0 0) s
  | none => s

/-- The other end of a channel has been bound on another module (spec/02 R48). -/
def State.boundFor (s : State) (pkg part serial chan v : Nat) : State :=
  let sender : Bool := v % 2 == 1
  let gt := v / 2 % 1024
  let c := v / 2048
  let s := s.onInstance part serial (fun i => { i with
    ends := i.ends.filter (fun e => !(e.1 == chan && e.2.1 == sender)) ++ [(chan, sender, pkg, gt, c)] })
  match s.findEnd part serial chan (if sender then .receiver else .sender) with
  | some e => s.onChan e.1 e.2 (fun q => { q with peer := some (pkg, gt, c) })
  | none => s.onParked part serial chan (if sender then .receiver else .sender) (fun q => { q with peer := some (pkg, gt, c) })
/-- A task of another module closes a channel whose receiver it does not know (spec/02 R48), or will not send again (R51). -/
def State.closeFor (s : State) (part serial chan : Nat) (kind : TokenKind) : State :=
  match s.findEnd part serial chan .receiver, s.instanceOf part serial with
  | some e, _ => s.post (.tokenArrival e.1 e.2 { kind := kind, bytes := [], tail := true, chan := some (serial, chan) })
  | none, some i =>
    if [0, 1, 2, 3].any (fun d => (s.die d).tun.any (fun e => e.2.part == part && e.2.serial == serial &&
        e.2.parkedChans.any (fun q => q.2.chan == chan && q.2.side == .receiver))) then
      s.onParked part serial chan .receiver (fun e => if e.state == .opened then e.takeEnd kind s.cycle else e)
    else s.onInstance part i.serial (fun i => { i with closes := i.closes ++ [(chan, kind)] })
  | none, none => s
/-- The receiver of a channel on another module has died before it was placed (spec/02 R48), or is held (spec/13 R283). -/
def State.onSender (s : State) (part serial chan : Nat) (f : Endpoint → Endpoint) : State :=
  match s.findEnd part serial chan .sender with
  | some e => s.onChan e.1 e.2 f
  | none => s.onParked part serial chan .sender f

/-- A message of another module carried out (log 77). -/
def State.podMessage (s : State) (pkg part : Nat) (b : Bytes) : State :=
  let w := mailWord b
  match PodMsg.all[field b 0 8]? with
  | none => s
  | some m =>
    match m with
    | .image => (s.enterImage part (w 1) (w 2 != 0) (if w 3 = 0 then none else some (w 3 - 1)) (mailTail b)).tell part [pkg] .loaded [w 0, w 1]
    | .unload => s.dropImage part (w 0)
    | .loaded =>
      (match s.commands.find? (fun c => c.id == w 0 && c.awaits.contains pkg) with
       | some c =>
         let s : State := { s with commands := s.commands.map (fun x => if x.id == c.id then { x with awaits := x.awaits.filter (· != pkg) } else x) }
         if (c.awaits.filter (· != pkg)).isEmpty then s.outcomeOf c 0 (w 1) 0 else s
       | none => s)
    | .create => s.createFor pkg part b
    | .created => s.createdBy pkg part b
    | .refused =>
      (match s.instanceOf part (w 0) with
       | some i => if i.home.isSome || !i.starting then s
         else s.giveUp i (if w 1 = 0 then none else if w 1 = 1 then some (18, 0) else some (21, w 1 - 2))
       | none => s)
    | .nodes => (s.onInstance part (w 0) (fun i => { i with nodes := mailWords b 1 })).startInstance part (w 0)
    | .over =>
      (match s.instanceOf part (w 0) with
       | some i => if i.home ≠ some pkg then s else if i.starting then s.withdraw i else s.endInstance i
       | none => s)
    | .empty =>
      (match s.scope (w 0) with
       | some r => ((s.onScope (w 0) (fun r => { r with awaits := r.awaits.filter (· != pkg) })).tallied pkg part r.serial b).post (.scopeClose (w 0))
       | none => s)
    | .sealed =>
      (match s.scope (w 0) with
       | some r => (((s.onScope (w 0) (fun r => { r with sealed_ := true })).tell part (r.others.filter (· != pkg)) .sealed [w 0])).post (.scopeClose (w 0))
       | none => s)
    | .closed => ((s.onScope (w 0) (fun r => { r with state := .closed })).cancelsOver (w 0)).scopeEnded (w 0)
    | .cancel => s.cancelFor pkg part (w 0) (w 1) (w 2)
    | .answer => s.cancelAnswered (w 0) (w 1) (w 2)
    | .cancelling => s.cancelHere (w 0) (w 1)
    | .adopt => s.adopt (w 0) (w 1)
    | .drained =>
      (match s.scope (w 0) with
       | some r =>
         let s := (s.onScope (w 0) (fun r => { r with awaits := r.awaits.filter (· != pkg) })).tallied pkg part r.serial b
         (s.tally (w 0) (·.plus (mailCounts b 4))).post (.ackDelivery r.owner)
       | none => s)
    | .cancelled => ((s.onScope (w 0) (fun r => { r with counts := mailCounts b 1 })).cancelsOver (w 0)).scopeCancelled (w 0)
    | .bound => s.boundFor pkg part (w 0) (w 1) (w 2)
    | .close => s.closeFor part (w 0) (w 1) (if w 2 = 2 then .endTok else .endCancelled)
    | .broken =>
      (s.onInstance part (w 0) (fun i => { i with broken := i.broken ++ [w 1] })).onSender part (w 0) (w 1)
        (fun e => if e.state == .opened then { e with state := .broken } else e)
    | .hold => s.onSender part (w 0) (w 1) (fun e => { e with frozen := w 2 != 0 })
    | .expect => s.onTask (wordN (w 0)) (fun r => { r with far := r.far + 1 })
    | .waits => s.waitsFrom pkg part ((mailWords b 0).map (·.toNat))
    | .words => s.wordsFrom part ((mailWords b 0).map (·.toNat))
/-- A packet of a message of another module: carried out once all of its pieces are here (log 77). -/
def State.mailIn (s : State) (p : Packet) : State :=
  let pkg := p.src / 4096
  let n := field p.data 0 4
  let old : List (Nat × Bytes) := match s.mail.find? (fun (m : Mail) => m.pkg == pkg && m.id == p.aux) with
    | some m => m.pieces
    | none => []
  let pieces := old.filter (fun e => e.1 != field p.data 4 4) ++ [(field p.data 4 4, p.data.drop 8)]
  let rest := s.mail.filter (fun (m : Mail) => !(m.pkg == pkg && m.id == p.aux))
  if (pieces.map (·.2.length)).sum < n then { s with mail := rest ++ [{ pkg := pkg, id := p.aux, length := n, pieces := pieces }] }
  else State.podMessage { s with mail := rest } pkg p.part ((List.range pieces.length).flatMap (fun i =>
    ((pieces.filter (fun e => e.1 == 240 * i)).map (·.2)).flatten))

end Sys2Proof.Machine
end

