-- ==== Sys2Proof/Machine/Dispatcher.lean ====
section
/-! DEFINITION. The dispatcher: selection, placement, prefetch and the start of a task (spec/14 R301 to R306, R308, R310; spec/02
R27, R45, R47). -/

namespace Sys2Proof.Machine

/-- The queued tasks of a partition on a die that the arbiter may choose (spec/14 R301, R310): a task spawned into a gang goes to
its own slot, and a resumed task is passed over until its slot is free. -/
def State.queued (s : State) (die part : Nat) : List (Nat × TaskRec) :=
  (s.die die).tun.filter (fun e =>
    e.2.part == part && e.2.state == .ready && e.2.ready == .queued && !(e.2.gang.isSome && e.2.spawned && e.2.saved == 0) &&
      (e.2.saved == 0 || (s.resumePlan (s.handleOf die e.1) e.2).isSome))
/-- A task is older than another (spec/14 R306): by TPOST, then by entry. A resumed task, which keeps its TPOST, stands at the head of its
list (R301). -/
def older (a b : Nat × TaskRec) : Bool := decide (a.2.tpost.toNat < b.2.tpost.toNat ∨ (a.2.tpost = b.2.tpost ∧ a.1 ≤ b.1))
/-- The ready list of a queue, oldest first. -/
def State.readyList (s : State) (die part queue : Nat) : List (Nat × TaskRec) :=
  ((s.queued die part).filter (fun e => e.2.queue == queue)).mergeSort older
/-- The partition's tiles all lie on one die of one module, as it is configured: Residency (spec/14 R306). -/
def State.residency (s : State) (part : Nat) : Bool :=
  decide (([0, 1, 2, 3].filter (fun d => vget (s.part part).tiles d != 0)).length ≤ 1) && (Config.peerModules part).isEmpty
/-- The task that the mode chooses of a ready list (spec/14 R306). `hits` says which of the sixteen oldest find the first line of
their first prefetch pair in the die cache; a task without a pair never does. -/
def chooseTask (residency : Bool) (bypass : Nat) (hits : Word) (l : List (Nat × TaskRec)) : Option (Nat × TaskRec) :=
  match l.find? (fun e => decide (bypass ≤ e.2.bypassed)) with
  | some e => some e
  | none =>
    if residency then
      match ((l.take 16).zipIdx.find? (fun e => testW hits e.2 && !e.1.2.prefetches.isEmpty)) with
      | some e => some e.1
      | none => l.head?
    else l.foldl (fun best e => match best with
      | none => some e
      | some b => if b.2.dist < e.2.dist then some e else best) none
/-- Slots that a placement reserves (spec/14 R308). -/
def State.placeCost (s : State) (h : Word) (r : TaskRec) : Nat :=
  match (s.recordTemplate r).bind (fun t => r.gidx.bind (fun g => t.gangs[g]?)), r.gidx with
  | some q, some g =>
    if r.saved ≠ 0 then max 1 (s.unitOf h r).length
    else match s.recordTemplate r with
      | some t => max 1 (q.slots 0 0 (s.gangFixed r.part r.image t g)).length
      | none => 1
  | _, _ => match s.kernelRec r with
    | some k => if k.2.fixed then 4 else 1
    | none => 1
/-- Dispatch quanta of spec/14 Table 14.11. -/
def disQuanta : Vector Nat 4 := #v[256, 128, 64, 32]
/-- The candidates of the queues of a partition on a die: queue, ready list, chosen task. -/
def State.candidates (s : State) (die part : Nat) (hits : Word) : List (Nat × List (Nat × TaskRec) × (Nat × TaskRec)) :=
  let qs := ((s.queued die part).map (·.2.queue)).dedup.mergeSort (fun a b => decide (a ≤ b))
  qs.filterMap (fun q =>
    let l := s.readyList die part q
    (chooseTask (s.residency part) (s.part part).bypass hits l).map (fun e => (q, l, e)))
/-- DISPATCH_SELECT (spec/14 R301, R306, R308): when no entry of the partition is CHOSEN on the die, the arbiter selects a list and
the mode a task. The tag probe of Residency changes timing only: its outcome is free (log 32). -/
def execDispatchSelect (die part : Nat) (s : State) : Host.Outcome State Fault Refusal :=
  .next (
    if (s.chosen die part).isSome || !(s.die die).tun.any (fun e => e.2.part == part && e.2.ready == .queued && e.2.state == .ready) then s
    else if !s.hasTurn die 64 part then s.later (.dispatchSelect die part)
    else
      let (hits, s) := s.draw
      let cs := s.candidates die part hits
      let rivals := cs.map (fun c =>
        ({ queue := c.1, cls := (s.queue c.1).cls, quantum := 4 * (s.queue c.1).weight, cost := s.placeCost (s.handleOf die c.2.2.1) c.2.2.2
           deficit := vget (s.queue c.1).disDeficit die } : Rival))
      match Drr.choose disQuanta (vget (s.part part).dis die) rivals with
      | none => s.later (.dispatchSelect die part)
      | some (w, rs, d) =>
        match cs.find? (fun c => c.1 == w.queue) with
        | none => s
        | some (_, l, e) =>
          let s := rs.foldl (fun s r => s.onQueue r.queue (fun x => { x with disDeficit := vset x.disDeficit die r.deficit })) s
          let s := s.onPart part (fun p => { p with dis := vset p.dis die d })
          let passed := (l.takeWhile (fun x => x.1 != e.1)).map (·.1)
          let s := passed.foldl (fun s x => s.onRecord die x (fun r => { r with bypassed := r.bypassed + 1 })) s
          ((s.onRecord die e.1 (fun r => { r with ready := .chosen, chosenAt := s.cycle })).resetDeficits die part w.queue w.cls).post
            (.place die part))

/-- A placed task in PREFETCH (spec/14 R301, R303): its ranges are reserved for saving, and its prefetches wait for their reads. -/
def State.startPrefetch (s : State) (h : Word) : State :=
  match s.taskOf h with
  | none => s
  | some r =>
    if r.state == .dead || r.loc.isNone then s
    else
      let s := s.onTask h (fun r => { r with
        state := .placing, ready := .prefetch, ranges := r.prefetches.map (fun p => (p.doff, p.len))
        prefetches := r.prefetches.map (fun p => { p with since := s.cycle }) })
      let s := if r.prefetches.isEmpty then s else s.post (.prefetchReadIssue (dieOf (tileOfSlot (r.loc.getD 0))) [] false)
      s.post (.taskRunnable (handleDie h) (handleEntry h))
/-- The placement of a task chosen or queued at its own slot, if it can be placed now (spec/14 R310). -/
def State.placeNow (s : State) (die : Nat) (h : Word) (r : TaskRec) : Option State :=
  if r.saved ≠ 0 then (s.resumePlan h r).map (s.placeResumed r)
  else match r.gidx, s.recordTemplate r with
    | some gi, some t =>
      (t.gangs[gi]?).bind (fun q => (s.findGang die r).map (fun b =>
        let s := s.placeGang h r t gi q b.1 b.2
        match s.instanceOf r.part r.serial with
        | some i => (t.members gi).foldl (fun s n => s.startPrefetch (i.nodes.getD n 0)) s
        | none => s))
    | _, _ => (s.findSingle die r).map (fun g => (s.placeSingle h g).startPrefetch h)
/-- Tasks spawned into a gang, placed at the slots they name as those come free (spec/10 R230). -/
def State.placeSpawned (s : State) (die part : Nat) : State :=
  (s.die die).tun.foldl (fun s e =>
    if e.2.part == part && e.2.state == .ready && e.2.ready == .queued && e.2.spawned && e.2.saved == 0 then
      match e.2.gang.bind (fun k => Assoc.find s.gangs k), s.kernelRec e.2 with
      | some q, some (kidx, k) =>
        let gt := q.tile e.2.dx e.2.dy
        let g := gt * 4 + e.2.pslot
        let h := s.handleOf die e.1
        if (s.slot g).state == .reserved && (s.slot g).task == 0 && s.codeFits gt [(part, e.2.image, kidx)] && s.grantFits gt k e.2.gang && s.inboxFree gt k then
          (s.grantSlot h g).startPrefetch h
        else s.later (.place die part)
      | _, _ => s
    else s) s
/-- PLACE (spec/14 R310): the CHOSEN entry is placed when a footprint is free; until then it stays CHOSEN, and after 4,096 cycles
R311 may apply. -/
def execPlace (die part : Nat) (s : State) : Host.Outcome State Fault Refusal :=
  .next (
    if !s.hasTurn die 64 part then s.later (.place die part)
    else
      let s := s.placeSpawned die part
      match s.chosen die part with
      | none => s.post (.dispatchSelect die part)
      | some (e, r) =>
        match s.placeNow die (s.handleOf die e) r with
        | some s => s.post (.dispatchSelect die part)
        | none => (s.later (.place die part)).later (.preemptTrigger die part))

/-- Prefetches of tasks placed on a die whose reads have not been issued: task, and pair. -/
def State.pendingPrefetches (s : State) (die : Nat) : List (Word × TaskRec × Prefetch) :=
  [0, 1, 2, 3].flatMap (fun d => (s.die d).tun.flatMap (fun e =>
    if e.2.state == .placing && e.2.ready == .prefetch && (match e.2.loc with
        | some g => dieOf (tileOfSlot g) == die
        | none => false) then
      (e.2.prefetches.filter (fun p => p.outcome.isNone)).map (fun p => (s.handleOf d e.1, e.2, p))
    else []))
/-- The members of a merged read: the same partition and privilege, source address and LEN (spec/14 R304). -/
def joins (r : TaskRec) (p : Prefetch) (e : Word × TaskRec × Prefetch) : Bool :=
  e.2.1.part == r.part && e.2.1.sys == r.sys && e.2.2.src == p.src && e.2.2.len == p.len
/-- The prefetches of some members changed. -/
def State.onPrefetches (s : State) (l : List (Word × TaskRec × Prefetch)) (f : Prefetch → Prefetch) : State :=
  l.foldl (fun s e => s.onTask e.1 (fun r => { r with prefetches := r.prefetches.map (fun x => if x.word == e.2.2.word then f x else x) })) s
/-- The next segment of a merged read (spec/14 R304): it never crosses a 256-byte boundary (spec/10 Table 10.6), and delivers to every member
that is left; a source that fails translation delivers to none (spec/15 R326). The dispatch port of the first member's tile reads. -/
def State.prefetchSegment (s : State) (die : Nat) (remote : Bytes) (bad : Bool) (all : List (Word × TaskRec × Prefetch)) (r : TaskRec)
    (p : Prefetch) : State :=
  let src := p.src + wordN p.done
  let n := min (p.len - p.done) (256 - src.toNat % 256)
  let q : Issuer := { Issuer.device r.part (s.sourceNo (tileOfSlot (r.loc.getD 0)) 6) (p.issued.getD 0) with super := r.sys }
  let read := s.coreBytes q src n remote bad
  let again := Instr.prefetchReadIssue die [] false
  if read.fault then (((s.readDone q read).onPrefetches all (fun x => { x with outcome := some false })).post again)
  else match s.readWaits q read (.prefetchReadIssue die remote bad) with
    | some s => s
    | none =>
      let s := all.foldl (fun s e => s.writeTarget (.tile (tileOfSlot (e.2.1.loc.getD 0)) (e.2.2.doff + p.done)) read.bytes read.bad)
        (s.readDone q read)
      (s.onPrefetches all (fun x => { x with done := p.done + n, outcome := if p.len ≤ p.done + n then some true else none })).post again
/-- PREFETCH_READ_ISSUE (spec/14 R303, R304): the read of the member that has waited longest issues once that is 256 cycles, for every
member that joins it; then it goes on segment by segment. -/
def execPrefetchReadIssue (die : Nat) (remote : Bytes) (bad : Bool) (s : State) : Host.Outcome State Fault Refusal :=
  let l := s.pendingPrefetches die
  .next (match l.find? (fun e => e.2.2.issued.isSome) with
    | some (_, r, p) => s.prefetchSegment die remote bad (l.filter (fun e => e.2.2.issued == p.issued)) r p
    | none =>
      match l.foldl (fun (m : Option (Word × TaskRec × Prefetch)) e => match m with
        | none => some e
        | some b => if e.2.2.since < b.2.2.since then some e else m) none with
      | none => s
      | some (_, r, p) =>
        if s.cycle < p.since + 256 then s.later (.prefetchReadIssue die remote bad)
        else
          let all := l.filter (joins r p)
          let (id, s) := s.fresh
          let s := s.onDie die (fun d => { d with merged := d.merged + (all.length - 1) })
          (s.onPrefetches all (fun x => { x with issued := some id })).post (.prefetchReadIssue die remote bad))

/-- TASK_RUNNABLE (spec/14 Table 14.9): with its code present and every prefetch done or failed the entry becomes RUNNABLE. The stores
of its predecessors have been performed: END commits only after them (spec/04 R97; log 22). -/
def execTaskRunnable (die entry : Nat) (s : State) : Host.Outcome State Fault Refusal :=
  let r := s.record die entry
  .next (
    if r.state != .placing || r.ready != .prefetch then s
    else if r.prefetches.any (fun p => p.outcome.isNone) then s.later (.taskRunnable die entry)
    else (s.onRecord die entry (fun r => { r with ready := .runnable })).post (.taskStart die entry))

/-- The members of a lockstep gang that start with a task (spec/02 R45): those of the template that have not started. -/
def State.startUnit (s : State) (h : Word) (r : TaskRec) : List (Word × TaskRec) :=
  match r.gang.bind (fun k => Assoc.find s.gangs k) with
  | some q =>
    if q.lockstep && !r.spawned then
      [0, 1, 2, 3].flatMap (fun d => ((s.die d).tun.filter (fun e => e.2.gang == r.gang && !e.2.spawned && e.2.state == .placing && e.2.saved == 0)).map
        (fun e => (s.handleOf d e.1, e.2)))
    else [(h, r)]
  | none => [(h, r)]
/-- The argument block of a task (spec/02 R27, spec/14 R302, R303): word w of each pair prefetched names the copy. -/
def State.argBlock (s : State) (h : Word) (r : TaskRec) (gt : Nat) : Bytes :=
  let image := s.readMem (dramKey (handleDie h) (Config.argBase + 256 * handleEntry h)) 256
  (r.prefetches.filter (fun p => p.outcome == some true)).foldl (fun b p =>
    b.take (8 * p.word) ++ toBytes 8 (s.windowAddr gt p.doff).toNat ++ b.drop (8 * p.word + 8)) image
/-- A task starts (spec/02 R27; spec/14 Table 14.9): its argument block is written, x1 and x2 are set, its slot is in ISSUE. A task
that SPAWN.TREE started begins at its PC with X[b] in x1 (spec/10 R232). -/
def State.startTask (s : State) (h : Word) (r : TaskRec) : State :=
  match r.loc with
  | none => s
  | some g =>
    let gt := tileOfSlot g
    let off := 0x3FC000 + 0x100 * (g % 4)
    let s := s.writeTarget (.tile gt off) (s.argBlock h r gt) false
    let n := (r.prefetches.filter (fun p => p.outcome == some true)).length
    let s := s.onSlot g (fun t =>
      let t := { t with state := .issue }
      match r.start with
      | some (pc, arg) => { t with main := { ((t.main.set 1 arg).set 2 0) with pc := pc } }
      | none => { t with main := (t.main.set 1 (s.windowAddr gt off)).set 2 (wordN n) })
    s.onTask h (fun r => { r with state := .running, ready := .none, prefetches := [] })
/-- TASK_START (spec/02 R27, R45, R47): the members of a lockstep gang start on one common die cycle, and a slot started later in such
a gang enters the rotation at its gang cycle (spec/10 R232). -/
def execTaskStart (die entry : Nat) (s : State) : Host.Outcome State Fault Refusal :=
  let h := s.handleOf die entry
  let r := s.record die entry
  let gang := r.gang.bind (fun k => Assoc.find s.gangs k)
  .next (
    if r.state != .placing || r.ready != .runnable || r.saved != 0 then s
    else if r.spawned && (match gang with
        | some q => q.lockstep && decide (q.clock < r.chosenAt)
        | none => false) then s.later (.taskStart die entry)
    else
      let unit := s.startUnit h r
      if unit.any (fun e => e.2.ready != .runnable) then s.later (.taskStart die entry)
      else unit.foldl (fun s e => s.startTask e.1 e.2) s)

/-- GANG_CYCLE_RESUME (spec/02 R47): 8 die cycles after its last late slot can issue, the members issue the gang cycle that stalled. -/
def execGangCycleResume (gang : Nat) (s : State) : Host.Outcome State Fault Refusal :=
  .next (match Assoc.find s.gangs gang with
    | none => s
    | some q =>
      match q.resumeAt with
      | none => s
      | some c =>
        if s.cycle < c then s.later (.gangCycleResume gang)
        else s.onGang gang (fun q => { q with stalled := false, resumeAt := none }))

end Sys2Proof.Machine
end

