-- ==== Sys2Proof/Machine/Matrix.lean ====
section
/-! DEFINITION. The matrix queue: issue, binding and completion of matrix entries, and PREC (spec/08 R181 to R197). -/

namespace Sys2Proof.Machine

/-- The fields of a matrix instruction. -/
structure MatWord where
  op : MatOp
  acc : Nat := 0
  src : Nat := 0
  qa : Nat := 0
  bl : Nat := 0
  keep : Bool := false
  a : Reg := 0
  b : Reg := 0
  rc : Rc := .fromRM
/-- MAXSP of the kernel a slot runs (spec/05 Table 5.11). -/
def State.maxsp (s : State) (t : Slot) : Nat :=
  match s.kernel t.part t.image t.kernel with
  | some k => k.maxsp
  | none => 0
/-- The entry of a matrix instruction with what it reads at issue. -/
def MatWord.entry (w : MatWord) (t : Slot) (maxsp fill : Nat) : MatEntry :=
  { op := w.op, bank := t.bank, pc := t.pc, acc := w.acc, src := w.src, qa := w.qa, bl := w.bl, keep := w.keep
    xa := t.x w.a, xb := t.x w.b, prec := t.prec, rc := Rc.resolve w.rc t.rc, seed := t.seed, seq := t.srseq, maxsp := maxsp
    fill := fill, flags := 0, serial := t.entrySerial }
/-- The entry reserves a FIFO position at issue (spec/08 R178). -/
def MatOp.fills : MatOp → Bool
  | .qaLd | .accCvtQ => true
  | _ => false
/-- A conversion. -/
def MatOp.converts : MatOp → Bool
  | .accCvt | .accCvtQ => true
  | _ => false
/-- An MMA or MMA.SEG, which moves its slot to MATRIX. -/
def MatOp.isProduct : MatOp → Bool
  | .mma | .mmaSeg => true
  | _ => false
/-- The grants that an instruction needs (spec/01 R17; spec/05 R110 step 5). -/
def MatWord.granted (w : MatWord) (t : Slot) : Bool :=
  match w.op with
  | .mma => t.hasAcc w.acc && t.hasQa w.qa && t.hasBl w.bl
  | .mmaSeg => t.hasAcc w.acc && t.hasQa w.qa
  | .qaLd | .qaPop => t.hasQa w.qa
  | .blLd => t.hasBl w.bl
  | .accAdd => t.hasAcc w.acc && t.hasAcc w.src
  | .accCvtQ => t.hasAcc w.acc && t.hasQa w.qa
  | _ => t.hasAcc w.acc
/-- Bytes of the memory operand of a form, if it has one (spec/08 Table 8.3). -/
def MatWord.memBytes (w : MatWord) (t : Slot) : Option Nat :=
  match w.op with
  | .qaLd | .blLd => some imageBytes
  | .accLd | .accSt => some accImageBytes
  | .accCvt => some (if testW (t.x w.b) 8 then 4096 else imageBytes)
  | _ => none
/-- The address check of spec/08 R187 step 3. -/
def State.matAddrCause (s : State) (t : Slot) (va : Word) (n : Nat) : Option Nat :=
  match classify va with
  | .window pkg gt off =>
    if va.toNat % 64 ≠ 0 then some 5
    else
      let own := decide (pkg = s.mgmt.package)
      if !((own || Config.configuredPackage pkg) && (isMTile gt || isSTile gt) && s.ownsTile t.part pkg gt &&
          decide (off + n ≤ 0x400000)) then some 4
      else if s.inLockstep t && !(own && gt == tileOfSlot s.cur) then some 4
      else none
  | _ => some 4
/-- The checks that a matrix instruction makes at issue (spec/08 R187): cause and value. -/
def State.matCheck (s : State) (w : MatWord) (t : Slot) : Option (Nat × Word) :=
  if !w.granted t then some (3, s.wordAt t)
  else if w.op == .mmaSeg && !(List.range 32).all (fun i => t.hasBl (bits (t.x w.b) (2 * i + 1) (2 * i))) then
    some (3, s.wordAt t)
  else match (if w.op.converts then convCause (t.x w.b) (w.op == .accCvtQ) else none) with
    | some 7 => some (7, wordN (bits (t.x w.b) 63 32))
    | some c => some (c, s.wordAt t)
    | none =>
      match w.memBytes t with
      | none => none
      | some n => (s.matAddrCause t (t.x w.a) n).map (fun c => (c, t.x w.a))
/-- A matrix instruction is accepted into its queue (spec/02 R39): a fill reserves the tail position, a conversion under .SR
takes its n, and an MMA or MMA.SEG moves the slot to MATRIX and retires when it leaves. -/
def State.acceptMatrix (s : State) (w : MatWord) (t : Slot) : State :=
  let gt := tileOfSlot s.cur
  let fill := if w.op.fills then (s.tile gt).nextFill else 0
  let e := w.entry t (s.maxsp t) fill
  let s := if w.op.fills then s.onTile gt (fun u =>
      { u with nextFill := u.nextFill + 1
               fifos := vset u.fifos w.qa (vget u.fifos w.qa ++ [{ fill := fill, full := false, image := [], poison := false }]) })
    else s
  let s := s.onSlot s.cur (fun t =>
    let t := { t with mq := t.mq ++ [e], entrySerial := t.entrySerial + 1 }
    let t := if w.op.converts then t.takeSr e.rc else t
    if w.op.isProduct then { t with state := .matrix } else t.advance)
  s.post (.matrixEntryBind s.cur)
/-- A queued matrix instruction (spec/08 R186, R187). -/
def State.matrix (s : State) (regs : List Reg) (w : MatWord) : Host.Outcome State Fault Refusal :=
  s.issue { engine := true, mtile := true } regs (fun t =>
    match s.matCheck w t with
    | some (c, v) => .trap c v
    | none =>
      if 4 ≤ t.mq.length || s.acquirePending s.cur then .wait s
      else if w.op.fills && decide (4 ≤ (vget (s.tile (tileOfSlot s.cur)).fifos w.qa).length) then .wait s
      else .done (s.acceptMatrix w t))

/-- MMA (spec/08 R188). -/
def execMma (acc : Acc) (qa bl : Fin 4) (s : State) : Host.Outcome State Fault Refusal :=
  s.matrix [] { op := .mma, acc := acc.val, qa := qa.val, bl := bl.val }
/-- MMA.KEEP (spec/08 R188): the head position stays FULL. -/
def execMmaKeep (acc : Acc) (qa bl : Fin 4) (s : State) : Host.Outcome State Fault Refusal :=
  s.matrix [] { op := .mma, acc := acc.val, qa := qa.val, bl := bl.val, keep := true }
/-- MMA.SEG (spec/08 R188): X[b] holds the latch of each row. -/
def execMmaSeg (acc : Acc) (qa : Fin 4) (b : Reg) (s : State) : Host.Outcome State Fault Refusal :=
  s.matrix [b] { op := .mmaSeg, acc := acc.val, qa := qa.val, b := b }
/-- MMA.SEG.KEEP (spec/08 R188). -/
def execMmaSegKeep (acc : Acc) (qa : Fin 4) (b : Reg) (s : State) : Host.Outcome State Fault Refusal :=
  s.matrix [b] { op := .mmaSeg, acc := acc.val, qa := qa.val, b := b, keep := true }
/-- QA.LD (spec/08 R189). -/
def execQaLd (qa : Fin 4) (a : Reg) (s : State) : Host.Outcome State Fault Refusal :=
  s.matrix [a] { op := .qaLd, qa := qa.val, a := a }
/-- BL.LD (spec/08 R189). -/
def execBlLd (bl : Fin 4) (a : Reg) (s : State) : Host.Outcome State Fault Refusal :=
  s.matrix [a] { op := .blLd, bl := bl.val, a := a }
/-- QA.POP (spec/08 R189). -/
def execQaPop (qa : Fin 4) (s : State) : Host.Outcome State Fault Refusal :=
  s.matrix [] { op := .qaPop, qa := qa.val }
/-- ACC.CLR (spec/08 R190). -/
def execAccClr (acc : Acc) (a : Reg) (s : State) : Host.Outcome State Fault Refusal :=
  s.matrix [a] { op := .accClr, acc := acc.val, a := a }
/-- ACC.REBASE (spec/08 R190). -/
def execAccRebase (acc : Acc) (a : Reg) (s : State) : Host.Outcome State Fault Refusal :=
  s.matrix [a] { op := .accRebase, acc := acc.val, a := a }
/-- ACC.ADD (spec/08 R190). -/
def execAccAdd (acc src : Acc) (s : State) : Host.Outcome State Fault Refusal :=
  s.matrix [] { op := .accAdd, acc := acc.val, src := src.val }
/-- ACC.LD (spec/08 R191). -/
def execAccLd (acc : Acc) (a : Reg) (s : State) : Host.Outcome State Fault Refusal :=
  s.matrix [a] { op := .accLd, acc := acc.val, a := a }
/-- ACC.ST (spec/08 R191). -/
def execAccSt (acc : Acc) (a : Reg) (s : State) : Host.Outcome State Fault Refusal :=
  s.matrix [a] { op := .accSt, acc := acc.val, a := a }
/-- ACC.CVT (spec/08 R192). -/
def execAccCvt (acc : Acc) (a b : Reg) (rc : Rc) (s : State) : Host.Outcome State Fault Refusal :=
  s.matrix [a, b] { op := .accCvt, acc := acc.val, a := a, b := b, rc := rc }
/-- ACC.CVT.Q (spec/08 R192). -/
def execAccCvtQ (acc : Acc) (qa : Fin 4) (b : Reg) (rc : Rc) (s : State) : Host.Outcome State Fault Refusal :=
  s.matrix [b] { op := .accCvtQ, acc := acc.val, qa := qa.val, b := b, rc := rc }
/-- MX.WAIT (spec/08 R194): not ready until every matrix entry of the slot has completed. -/
def execMxWait (s : State) : Host.Outcome State Fault Refusal :=
  s.issue { engine := true, mtile := true } [] (fun t =>
    if t.mq.isEmpty && t.mbound.isEmpty then .done (s.retire s.cur id) else .wait (s.confirmSlot s.cur))
/-- The value that PREC.I writes (spec/08 R193). -/
def precImm (d a : BitVec 5) (b : BitVec 4) : Word :=
  wordN (bitsN d.toNat 3 0 + bitsN d.toNat 4 4 * 2 ^ 4 + bitsN b.toNat 2 2 * 2 ^ 5 + bitsN a.toNat 3 0 * 2 ^ 8 +
    bitsN a.toNat 4 4 * 2 ^ 12 + bitsN b.toNat 3 3 * 2 ^ 13 + bitsN b.toNat 1 0 * 2 ^ 16)
/-- PREC.I (spec/08 R193). -/
def execPrecI (d a : BitVec 5) (b : BitVec 4) (s : State) : Host.Outcome State Fault Refusal :=
  s.issue { engine := true, mtile := true } [] (fun _ => .done (s.retire s.cur (fun t => { t with prec := precImm d a b })))
/-- PREC.X (spec/08 R193): reads X[a] and PREC, then xd takes the old PREC and PREC takes X[a]. -/
def execPrecX (d a : Reg) (s : State) : Host.Outcome State Fault Refusal :=
  s.issue { engine := true, mtile := true } [a, d] (fun t =>
    if specialBad 0 (t.x a) then s.trapWord t 1
    else .done (s.retire s.cur (fun t => { t.setX d t.prec with prec := t.x a })))

/-- The head position of a FIFO is FULL. -/
def State.fifoReady (s : State) (gt q : Nat) : Bool :=
  match s.fifoHead gt q with
  | some p => p.full
  | none => false
/-- What a product uses once its head position is FULL (spec/08 R188): the descriptions of A and of each row's latch. -/
structure ProductPlan where
  img : List Host.Cell
  ad : Header
  latch : Nat → List Host.Cell × Header
  cost : Nat
/-- The checks of a product at the head of its queue (spec/08 R179, R188): the plan, or cause and value. -/
def State.planProduct (s : State) (gt : Nat) (t : Slot) (e : MatEntry) : Except (Nat × Word) ProductPlan :=
  let p := e.prec
  let scm := bits p 17 16
  let bad : Except (Nat × Word) ProductPlan := .error (6, s.wordAt t)
  match s.fifoHead gt e.qa with
  | none => bad
  | some pos =>
    match describe pos.image (testW p 5) (bits p 3 0) (testW p 4) scm with
    | none => bad
    | some ad =>
      let rows := List.range ad.rows
      let desc := fun (i : Nat) => describe (vget (s.tile gt).latches (e.latch i)).image (testW p 13) (bits p 11 8) (testW p 12) scm
      match desc 0 with
      | none => bad
      | some b0 =>
        let k := mmaDepth (max (storageWidth ad.code) (storageWidth b0.code))
        let ok := rows.all (fun i => match desc i with
          | some b => b.code == b0.code && b.signed == b0.signed && b.scm == b0.scm && decide (b.cols ≤ k)
          | none => false)
        let sasb := serialWidth ad.code * serialWidth b0.code
        if !ok || decide (k < ad.cols) then bad
        else if e.maxsp ≠ 0 && decide (e.maxsp < sasb) then .error (8, wordN sasb)
        else .ok { img := pos.image, ad := ad, cost := mmaCost ad.code b0.code
                   latch := fun i => ((vget (s.tile gt).latches (e.latch i)).image, (desc i).getD b0) }
/-- The latches that a product describes: those of the rows of its A block, once that has been described (spec/08 R188). -/
def State.productLatches (s : State) (gt : Nat) (e : MatEntry) : List Nat :=
  match s.fifoHead gt e.qa with
  | none => []
  | some pos =>
    match describe pos.image (testW e.prec 5) (bits e.prec 3 0) (testW e.prec 4) (bits e.prec 17 16) with
    | none => []
    | some ad => (List.range ad.rows).map e.latch
/-- An entry reads a poisoned element, field, position or latch (spec/08 R197). -/
def State.matPoisoned (s : State) (gt : Nat) (t : Slot) (e : MatEntry) : Bool :=
  match e.op with
  | .mma | .mmaSeg =>
    (match s.fifoHead gt e.qa with
      | some p => p.poison
      | none => false) || (s.productLatches gt e).any (fun b => (vget (s.tile gt).latches b).poison) ||
    (match s.planProduct gt t e with
      | .ok p => s.poisoned (fieldKey gt e.acc) 8 || (List.range p.ad.rows).any (fun i =>
          (List.range (p.latch i).2.rows).any (fun j => s.elemPoisoned gt e.acc (32 * i + j)))
      | .error _ => false)
  | .accRebase | .accSt | .accCvt | .accCvtQ => s.accPoisoned gt e.acc
  | .accAdd => s.accPoisoned gt e.acc || s.accPoisoned gt e.src
  | _ => false
/-- The cost of an entry that can bind (spec/08 Table 8.3). -/
def State.matCost (s : State) (gt : Nat) (t : Slot) (e : MatEntry) : Nat :=
  match e.op with
  | .mma | .mmaSeg => (match s.planProduct gt t e with
    | .ok p => p.cost
    | .error _ => 0)
  | .qaPop => 1
  | .accClr | .qaLd | .blLd => 8
  | .accLd => 16
  | _ => 32
/-- The array is free and nothing that the head of a slot's queue names is still being written (spec/08 R182). -/
def State.matFree (s : State) (gt : Nat) (t : Slot) (e : MatEntry) : Bool :=
  (s.tile gt).mat.busy.isNone && !s.matHazard gt e && t.deferred.isNone && t.heldBy.isNone
/-- Where the memory operand of an entry lies: the tile and offset on this module, or another package's tile. -/
def State.matTarget (s : State) (e : MatEntry) : Target :=
  match classify e.xa with
  | .window pkg gt off => if pkg = s.mgmt.package then .tile gt off else .remoteTile pkg gt off
  | _ => .tile 0 0
/-- The matrix port can send what an entry sends to another module (spec/16 R341). -/
def State.matRoom (s : State) (gt : Nat) (e : MatEntry) : Bool :=
  !((match e.op with
    | .qaLd | .blLd | .accLd | .accSt | .accCvt => true
    | _ => false) && (s.matTarget e).remote) || s.retryRoom (s.sourceNo gt 5)
/-- The head of a slot's matrix queue can bind (spec/08 R182): the FIFO head that it needs is FULL, and its product passes its
checks, which poison comes before (R197); a full retry buffer holds a form that sends to another module (spec/16 R341). -/
def State.matHeadReady (s : State) (gt : Nat) (t : Slot) (e : MatEntry) : Bool :=
  s.matFree gt t e && s.matRoom gt e && (match e.op with
    | .mma | .mmaSeg => s.fifoReady gt e.qa && (s.matPoisoned gt t e || (match s.planProduct gt t e with
      | .ok _ => true
      | .error _ => false))
    | .qaPop => s.fifoReady gt e.qa
    | _ => true)
/-- The heads of a tile's matrix queues. -/
def State.matHeads (s : State) (gt : Nat) : Vector (Option Head) 4 :=
  Vector.ofFn (fun i =>
    let t := s.slot (gt * 4 + i.val)
    match t.mq with
    | e :: _ => some { cost := s.matCost gt t e, ready := s.matHeadReady gt t e }
    | [] => none)

/-- Bytes cut into pieces of at most 256, each with its offset. -/
def pieces (bs : Bytes) : List (Nat × Bytes) :=
  (List.range ((bs.length + 255) / 256)).map (fun i => (256 * i, (bs.drop (256 * i)).take 256))
/-- The matrix port as the issuer of an entry's accesses. -/
def State.matIssuer (s : State) (g : Nat) (e : MatEntry) : Issuer := s.issuer g 5 (s.slot g).status.super e.serial
/-- The result of ACC.ST or ACC.CVT written (spec/08 R191, R192): when it lies in another module, requests that stand until they have been
performed. -/
def State.matStore (s : State) (g : Nat) (e : MatEntry) (bs : Bytes) : State :=
  match s.matTarget e with
  | .remoteTile pkg gt off => (pieces bs).foldl (fun s p =>
      (s.sendBlock (s.matIssuer g e) (.remoteTile pkg gt (off + p.1)) (e.xa + wordN p.1) p.2 false
        (some (.matrixEntryComplete (tileOfSlot g)))).2) s
  | t =>
    let p := s.matIssuer g e
    if s.barred p.part (tileOfSlot g) t then (pieces bs).foldl (fun s q => s.dropAccess 2 p.part p.src t (e.xa + wordN q.1)) s
    else s.writeTarget t bs false
/-- Loads of an operand that lies in another module set out (spec/08 R181). -/
def State.matRequest (s : State) (g : Nat) (e : MatEntry) (n : Nat) : State :=
  match s.matTarget e with
  | .remoteTile pkg gt off => (List.range ((n + 255) / 256)).foldl (fun s i =>
      s.sendRead (s.matIssuer g e) (.remoteTile pkg gt (off + 256 * i)) (e.xa + wordN (256 * i)) (min 256 (n - 256 * i))
        (some (.matrixEntryComplete (tileOfSlot g)))) s
  | t =>
    let p := s.matIssuer g e
    if s.barred p.part (tileOfSlot g) t then
      (List.range ((n + 255) / 256)).foldl (fun s i => s.dropAccess 1 p.part p.src t (e.xa + wordN (256 * i))) s
    else s
/-- Bytes that a load entry reads, if it is one. -/
def MatOp.loads : MatOp → Option Nat
  | .qaLd | .blLd => some imageBytes
  | .accLd => some accImageBytes
  | _ => none
/-- The words that U takes for a conversion of a slot's entry (spec/08 R192). -/
def MatEntry.srWords (e : MatEntry) (t : Slot) (n : Nat) : Nat := srWord e.seed t.instance_ t.taskid t.lt 0 n e.seq
/-- An entry binds (spec/08 R182): it occupies the array and its cost is charged; the accesses of its memory part set out. What ACC.ST and
ACC.CVT write is read now, and so are the flags of the elements that ACC.CVT writes (R183, R192). -/
def State.bindMat (s : State) (g : Nat) (e : MatEntry) (cost : Nat) (arb : Arbiter) : State :=
  let gt := tileOfSlot g
  let t := s.slot g
  let r := s.convert gt e.acc e.xb e.rc (e.srWords t)
  let bound := if e.op == .accCvt then { e with flags := r.2 } else e
  let s := s.onSlot g (fun t => { t with mq := t.mq.drop 1, mbound := t.mbound ++ [bound], umat := t.umat + wordN cost })
  let s := s.onTile gt (fun u =>
    { u with mat := { (arb.emptied (Fin.ofNat 4 g) (s.slot g).mq.isEmpty) with busy := some (g, e.serial) } })
  let s := match e.op with
    | .accSt => s.matStore g e (s.accImage gt e.acc)
    | .accCvt => s.matStore g e r.1
    | _ => (match e.op.loads with
      | some n => s.matRequest g e n
      | none => s)
  s.post (.matrixEntryComplete gt)
/-- The FIFO position of a fill becomes FULL with an image (spec/08 R178). -/
def State.fillFifo (s : State) (gt q fill : Nat) (img : List Host.Cell) (bad : Bool) : State :=
  s.onTile gt (fun u => { u with fifos := vset u.fifos q ((vget u.fifos q).map (fun p =>
    if !p.full && p.fill == fill then { p with full := true, image := img, poison := bad } else p)) })
/-- A piece of the image that a fill brings is in its position (spec/09 R207). -/
def State.fillPiece (s : State) (gt q fill off : Nat) (bs : Bytes) (bad : Bool) : State :=
  s.onTile gt (fun u => { u with fifos := vset u.fifos q ((vget u.fifos q).map (fun p =>
    if !p.full && p.fill == fill then { p with image := Memory.write p.image off bs, poison := p.poison || bad } else p)) })
/-- The position of a fill is FULL. -/
def State.fillDone (s : State) (gt q fill : Nat) : State :=
  s.onTile gt (fun u => { u with fifos := vset u.fifos q ((vget u.fifos q).map (fun p =>
    if !p.full && p.fill == fill then { p with full := true } else p)) })
/-- The head position of a FIFO becomes FREE (spec/08 R178). -/
def State.popFifo (s : State) (gt q : Nat) : State :=
  s.onTile gt (fun u => { u with fifos := vset u.fifos q ((vget u.fifos q).drop 1) })
/-- What a load entry has read. -/
structure Loaded where
  image : List Host.Cell
  /-- A run of its bytes holds a poisoned one. -/
  bad : Nat → Nat → Bool
  /-- The reads that brought it. -/
  reads : List Request
/-- The image that a load entry reads; none while bytes of another module are still to come. A reply without data is poison (spec/16
R361). -/
def State.matLoaded (s : State) (g : Nat) (e : MatEntry) (n : Nat) : Option Loaded :=
  match s.matTarget e with
  | .tile gt off => if s.lostDie (dieOf gt) || s.barred (s.slot g).part (tileOfSlot g) (.tile gt off) then some { image := [], bad := fun _ _ => true, reads := [] }
    else some { image := Memory.slice s.mem (sramKey gt off) n, bad := fun i m => s.poisoned (sramKey gt off + i) m, reads := [] }
  | _ =>
    let rs := s.reads (s.matIssuer g e)
    if !rs.all (fun r => r.data.isSome) || rs.isEmpty then none
    else some
      { image := Memory.cells 0 (rs.flatMap (fun r => padTo r.kind.bytes (r.data.getD ([], false)).1))
        bad := fun i m => rs.any (fun r => (r.data.getD ([], false)).2 &&
          decide ((r.addr - e.xa).toNat < i + m ∧ i < (r.addr - e.xa).toNat + r.kind.bytes)), reads := rs }
/-- The writes of an entry to another module have still to be performed (spec/08 R184, spec/16 R342). -/
def State.matStoring (s : State) (g : Nat) (e : MatEntry) : Bool :=
  s.requests.any (fun r => r.slot == g && r.src == (s.matIssuer g e).src && r.entry == e.serial && (match r.kind with
    | .block _ => true
    | _ => false))
/-- What an entry does when it completes (spec/08 R188 to R192); none while it waits for bytes, or for its writes to be performed. -/
def State.completeMat (s : State) (g : Nat) (e : MatEntry) : Option State :=
  let gt := tileOfSlot g
  let t := s.slot g
  let eb := sextN (bits e.xa 15 0) 16
  match e.op with
  | .mma | .mmaSeg =>
    some (match s.planProduct gt t e with
      | .ok p =>
        let s := s.product gt e.acc p.img p.ad p.latch
        let s := if e.keep then s else s.popFifo gt e.qa
        s.onSlot g (fun t => { t.setFlow e.bank (t.flowOf e.bank).advance with state := t.active })
      | .error _ => s.onSlot g (fun t => { t with state := t.active }))
  | .qaPop => some (s.popFifo gt e.qa)
  | .accClr => some (s.accClear gt e.acc eb)
  | .accRebase => some (s.accRebase gt e.acc eb)
  | .accAdd => some (s.accAdd gt e.acc e.src)
  | .accSt => if s.matStoring g e then none else some s
  | .accCvt => if s.matStoring g e then none else some (s.onSlot g (fun t => t.orFlags e.flags))
  | .accCvtQ =>
    let r := s.convert gt e.acc e.xb e.rc (e.srWords t)
    some ((s.fillFifo gt e.qa e.fill (Memory.cells 0 r.1) false).onSlot g (fun t => t.orFlags r.2))
  | .qaLd => (s.matLoaded g e imageBytes).map (fun r => (s.fillFifo gt e.qa e.fill r.image (r.bad 0 imageBytes)).dropReads r.reads)
  | .blLd => (s.matLoaded g e imageBytes).map (fun r =>
      (s.onTile gt (fun u => { u with latches := vset u.latches e.bl { image := r.image, poison := r.bad 0 imageBytes } })).dropReads r.reads)
  | .accLd => (s.matLoaded g e accImageBytes).map (fun r =>
      ((s.accLoad gt e.acc (Memory.read r.image 0 accImageBytes)).markAcc gt e.acc r.bad).dropReads r.reads)

/-- A product at the head of a queue whose checks fail (spec/08 R188): its trap is taken once every earlier entry has
completed, on what every entry bound before has left (R183). -/
def State.matHeadTrap (s : State) (gt : Nat) (t : Slot) : Option (Nat × Word × MatEntry) :=
  match t.mq with
  | e :: _ =>
    if e.op.isProduct && t.mbound.isEmpty && s.matFree gt t e && s.fifoReady gt e.qa && !s.matPoisoned gt t e then
      (match s.planProduct gt t e with
       | .error (c, v) => some (c, v, e)
       | .ok _ => none)
    else none
  | [] => none
/-- MATRIX_ENTRY_BIND (spec/08 R182): when the array is free, the arbiter binds a head that can bind; when that head is this
slot's it binds, else this event waits. A failed check at the head becomes a trap, a poisoned resource ends the task. -/
def execMatrixEntryBind (slot : Nat) (s : State) : Host.Outcome State Fault Refusal :=
  .next (
    let gt := tileOfSlot slot
    let t := s.slot slot
    let again := s.defer (.matrixEntryBind slot)
    match t.mq with
    | [] => s
    | e :: _ =>
      if s.enginesHold slot then again
      else match s.matHeadTrap gt t with
        | some (c, v, e) =>
          (s.onSlot slot (fun t => { t with mq := t.mq.drop 1, deferred := some (BitVec.ofNat 8 c, v, e.pc) })).post (.deferredTrap slot)
        | none =>
          match (s.tile gt).mat.pick (s.matHeads gt) (s.quanta gt true) with
          | none => again
          | some (i, arb) =>
            if i.val ≠ slot % 4 then again
            else if s.matPoisoned gt t e then
              (s.onSlot slot (fun t => { t with heldBy := some e.serial, state := t.active })).consumePoison slot
            else s.bindMat slot e (s.matCost gt t e) arb)
/-- An entry leaves the array's books. -/
def State.unbindMat (s : State) (g serial : Nat) : State :=
  s.onSlot g (fun t => { t with mbound := t.mbound.filter (fun p => p.serial != serial) })
/-- The first bound entry of a tile whose memory part has ended, completed: the entry that occupies the array is not among them. -/
def State.completeWaiting (s : State) (gt : Nat) : Option State :=
  ([0, 1, 2, 3].flatMap (fun i => (s.slot (gt * 4 + i)).mbound.map (fun e => (gt * 4 + i, e)))).findSome? (fun p =>
    if (s.tile gt).mat.busy == some (p.1, p.2.serial) then none else (s.completeMat p.1 p.2).map (fun s => s.unbindMat p.1 p.2.serial))
/-- MATRIX_ENTRY_COMPLETE (spec/08 R181): the entry that occupies the array leaves it, and completes unless its memory part, which runs
beside the array, still waits for another module; with nothing on the array, an entry whose memory part has ended completes. -/
def execMatrixEntryComplete (gtile : Nat) (s : State) : Host.Outcome State Fault Refusal :=
  .next (match (s.tile gtile).mat.busy with
    | none => (s.completeWaiting gtile).getD s
    | some (g, serial) =>
      if s.enginesHold g then s.defer (.matrixEntryComplete gtile)
      else
        let free := fun (s : State) => s.onTile gtile (fun u => { u with mat := u.mat.free })
        match (s.slot g).mbound.find? (fun e => e.serial == serial) with
        | none => free s
        | some e =>
          match s.completeMat g e with
          | none => free ((s.completeWaiting gtile).getD s)
          | some s => (free s).unbindMat g serial)

end Sys2Proof.Machine
end

