-- ==== Sys2Proof/Machine/Engines.lean ====
section
/-! DEFINITION. Engine commands, and how address generators and Fathom engines carry them out (spec/09 R198 to R211; spec/15
R323 to R325). -/

namespace Sys2Proof.Machine

/-- The fields of a stream parameter block (spec/09 Table 9.2). -/
structure Block where
  kind : Nat
  rec_ : Bool
  msg : Bool
  opt : Nat
  len : Nat
  src : Word
  dst : Word
  res : Word
  n : Nat
  sstr : Word
  dstr : Word
  aux : Word
  reserved : Bool
  deriving DecidableEq, Repr
/-- A block read from its 64 bytes. -/
def Block.ofBytes (bs : Bytes) : Block :=
  let b1 := (byteAt bs 1).toNat
  { kind := (byteAt bs 0).toNat, rec_ := testN b1 0, msg := testN b1 1, opt := (byteAt bs 2).toNat, len := field bs 4 4
    src := fieldW bs 8 8, dst := fieldW bs 16 8, res := fieldW bs 24 8, n := field bs 32 4, sstr := fieldW bs 40 8
    dstr := fieldW bs 48 8, aux := fieldW bs 56 8
    reserved := decide (4 ≤ b1) || byteAt bs 3 != 0 || field bs 36 4 != 0 }
/-- WIDEN or CHSRC. -/
def Block.opt0 (b : Block) : Bool := testN b.opt 0
/-- TOCH. -/
def Block.toch (b : Block) : Bool := testN b.opt 1
/-- RESID. -/
def Block.resid (b : Block) : Bool := testN b.opt 2
/-- A reserved field, or one that the kind does not use, is not zero (spec/09 Tables 9.2, 9.3). -/
def Block.malformed (b : Block) : Bool :=
  let uses := fun (ks : List Nat) => ks.contains b.kind
  b.reserved || (!b.rec_ && b.res != 0) ||
    (match b.kind with
     | 6 => decide (8 ≤ b.opt)
     | 7 => decide (2 ≤ b.opt)
     | _ => b.opt != 0) ||
    (!uses [1, 2, 3, 4, 5, 6] && b.len != 0) || (b.kind == 3 && b.src != 0) || (b.kind == 8 && b.dst != 0) ||
    (!uses [2, 4, 5, 6, 7] && b.n != 0) || (!uses [2, 3, 4, 5, 6, 7] && b.sstr != 0) ||
    (!(uses [2, 4, 5] || (b.kind == 6 && b.resid)) && b.dstr != 0) || (!uses [4, 5, 6] && b.aux != 0) ||
    (((b.kind == 7 && b.opt0) || b.kind == 8) && bits b.src 63 4 != 0) || (b.kind == 7 && bits b.dst 63 2 != 0) ||
    (b.kind == 6 && b.toch && bits b.dst 63 4 != 0) ||
    (b.kind == 6 && b.resid && (bits b.dstr 63 50 != 0 || bits b.dstr 31 16 != 0))
/-- The header of the images of CP.DECOMP (spec/09 R206). -/
def Block.header (b : Block) (rows : Nat) : Header :=
  { scaled := false, scm := 1, signed := false, code := if b.opt0 then 0xB else 8, ver := 1, rows := rows, cols := b.len
    tscale := 0, reserved := false, book := [] }
/-- The limits of spec/09 Table 9.3 that the block alone decides. -/
def Block.limits (b : Block) : Bool :=
  match b.kind with
  | 4 | 5 => b.aux.toNat % 4 == 0
  | 6 => decide (1 ≤ b.len ∧ b.len ≤ (if b.opt0 then 384 else 768) ∧ 1 ≤ b.n) && (b.toch || b.dst.toNat % 64 == 0)
  | 7 => b.opt0 || (decide (1 ≤ b.n) && b.src.toNat % 64 == 0 && b.sstr.toNat % 64 == 0)
  | _ => true
/-- The endpoint a block names, with the side it must have (spec/09 R199 step 4, R219). -/
def Block.channel (b : Block) : Option (Nat × Side) :=
  match b.kind with
  | 6 => if b.toch then some (bits b.dst 3 0, .sender) else none
  | 7 => if b.opt0 then some (bits b.src 3 0, .receiver) else none
  | 8 => some (bits b.src 3 0, .receiver)
  | _ => none
/-- RES passes its check: the cause with which it fails (spec/09 R199 step 4). -/
def State.resCause (s : State) (part : Nat) (b : Block) : Option Nat :=
  if !b.rec_ then none
  else match classify b.res with
    | .window pkg gt off =>
      if !((pkg == s.mgmt.package || Config.configuredPackage pkg) && (isMTile gt || isSTile gt) && s.ownsTile part pkg gt &&
          decide (off + 16 ≤ 0x400000)) then some 4
      else if b.res.toNat % 16 ≠ 0 then some 5 else none
    | _ => some 4
/-- The checks on a block (spec/09 R199 step 4): cause and, for an address, the value. -/
def State.blockCause (s : State) (t : Slot) (gt kind : Nat) (b : Block) : Option (Nat × Option Word) :=
  let small := match b.channel with
    | some (c, .sender) => t.hasCh c && decide ((s.chan gt c).entryBeats < (b.header 32).beats)
    | _ => false
  if b.kind ≠ kind || b.malformed || !b.limits || small then some (1, none)
  else if b.kind == 7 && !t.hasQa (bits b.dst 1 0) then some (3, none)
  else match (match b.channel with
      | some (c, side) =>
        if !t.hasCh c || (s.chan gt c).heldBy.isSome then some 3 else if (s.chan gt c).side != side then some 1 else none
      | none => none) with
    | some k => some (k, none)
    | none => (s.resCause t.part b).map (fun k => (k, some b.res))

/-- A generator of a tile changed. -/
def State.onGen (s : State) (gt g : Nat) (f : Gen → Gen) : State :=
  s.onTile gt (fun t => { t with gens := vset t.gens g (f (vget t.gens g)) })
/-- A position reserved at the tail of a FIFO (spec/08 R178): its fill. -/
def State.reserveFill (s : State) (gt q : Nat) : Nat × State :=
  let f := (s.tile gt).nextFill
  (f, s.onTile gt (fun u =>
    { u with nextFill := f + 1
             fifos := vset u.fifos q (vget u.fifos q ++ [{ fill := f, full := false, image := [], poison := false }]) }))
/-- Commands a generator holds, requests of a port not counted (spec/09 R199 step 2). -/
def Gen.held (q : Gen) : Nat := (q.queue.filter (fun c => !c.inner)).length
/-- An earlier scalar store of the slot to a block's bytes that has not been performed (spec/09 R199 step 3). -/
def State.storePending (s : State) (g : Nat) (a n : Nat) : Bool :=
  (s.outstanding g).any (fun r => r.phase != .performed && (match r.kind with
    | .store bs => decide (r.addr.toNat < a + n ∧ a < r.addr.toNat + bs.length)
    | .atomic _ m _ _ => decide (r.addr.toNat < a + n ∧ a < r.addr.toNat + m)
    | _ => false))
/-- A command accepted (spec/09 R199 step 5, R201): its ticket, and the state. -/
def State.acceptCommand (s : State) (t : Slot) (gt g : Nat) (kind : Nat) (k : KTag) (block : Bytes) : BitVec 32 × State :=
  let b := Block.ofBytes block
  let ticket := (vget (s.tile gt).gens g).ticket + 1
  let fresh := (vget (s.tile gt).gens g).queue.isEmpty
  let (fill, s) := if kind = 7 then (let r := s.reserveFill gt (bits b.dst 1 0)
    (some r.1, r.2)) else (none, s)
  let s := match b.channel with
    | some (c, _) => s.onChan gt c (fun e => { e with heldBy := some g })
    | none => s
  let c : EngineCmd :=
    { kind := kind, block := block, ticket := ticket, k := k, super := t.status.super, slot := s.cur, task := t.task
      part := t.part, started := false, progress := 0, done := 0, discarded := 0, pois := false, stop := none, code := none
      fill := fill, ctx := none, row := 0, index := none, seg := 0, inner := false, recorded := false
      scope := (match s.taskOf t.task with
        | some r => r.scope
        | none => noScope) }
  let s := (s.onGen gt g (fun q => { q with queue := q.queue ++ [c], ticket := ticket })).charge gt k
  (ticket, if fresh then s.post (.engineSegment gt g [] false) else s)
/-- An engine command (spec/09 R199). -/
def State.engineCommand (s : State) (d p : Reg) (k : KTag) (g : Fin 8) (kind : Nat) : Host.Outcome State Fault Refusal :=
  s.issue { engine := true } [p, d] (fun t =>
    let gt := tileOfSlot s.cur
    let q := vget (s.tile gt).gens g.val
    if !t.hasAg g.val || !t.hasTag k then s.trapWord t 3
    else match s.ownScratch s.cur (t.x p) 1 with
      | none => .trap 4 (t.x p)
      | some off =>
        if (t.x p).toNat % 64 ≠ 0 then .trap 5 (t.x p)
        else if 8 ≤ q.held || (match k with
            | some k => s.counter gt k.val == 65535
            | none => false) then .wait s
        else if s.storePending s.cur (t.x p).toNat 64 || s.acquirePending s.cur then .wait s
        else if s.poisoned (sramKey gt off) 64 then .wait (s.consumePoison s.cur)
        else
          let bs := s.readMem (sramKey gt off) 64
          match s.blockCause t gt kind (Block.ofBytes bs) with
          | some (c, some v) => .trap c v
          | some (c, none) => s.trapWord t c
          | none =>
            if kind = 7 && decide (4 ≤ (vget (s.tile gt).fifos (bits (Block.ofBytes bs).dst 1 0)).length) then .wait s
            else
              let r := s.acceptCommand t gt g.val kind k bs
              r.2.finish d (r.1.setWidth 64))

/-- CP (spec/09 R204). -/
def execCp (d p : Reg) (k : KTag) (g : Fin 8) (s : State) : Host.Outcome State Fault Refusal := s.engineCommand d p k g 1
/-- CP.2D (spec/09 R204). -/
def execCp2d (d p : Reg) (k : KTag) (g : Fin 8) (s : State) : Host.Outcome State Fault Refusal := s.engineCommand d p k g 2
/-- CP.FILL (spec/09 R204). -/
def execCpFill (d p : Reg) (k : KTag) (g : Fin 8) (s : State) : Host.Outcome State Fault Refusal := s.engineCommand d p k g 3
/-- CP.GATHER (spec/09 R205). -/
def execCpGather (d p : Reg) (k : KTag) (g : Fin 8) (s : State) : Host.Outcome State Fault Refusal := s.engineCommand d p k g 4
/-- CP.SCATTER (spec/09 R205). -/
def execCpScatter (d p : Reg) (k : KTag) (g : Fin 8) (s : State) : Host.Outcome State Fault Refusal := s.engineCommand d p k g 5
/-- CP.DECOMP (spec/09 R206). -/
def execCpDecomp (d p : Reg) (k : KTag) (g : Fin 8) (s : State) : Host.Outcome State Fault Refusal := s.engineCommand d p k g 6
/-- FIFO.FEED (spec/09 R207). -/
def execFifoFeed (d p : Reg) (k : KTag) (g : Fin 8) (s : State) : Host.Outcome State Fault Refusal := s.engineCommand d p k g 7
/-- AG.PORT (spec/09 R208). -/
def execAgPort (d p : Reg) (k : KTag) (g : Fin 8) (s : State) : Host.Outcome State Fault Refusal := s.engineCommand d p k g 8

/-- The outcome of an engine's address check (spec/09 R203, spec/15 R320, R323): a target, the end of the operation with a code, a
stop with its FKIND, or a translation that its TLB has still to obtain. -/
inductive EngTarget where
  | ok (t : Target)
  | fail (code : Nat)
  | stop (fkind : Nat)
  | miss
/-- The TLB of a command. -/
def engineTlb (gt g : Nat) (c : EngineCmd) : Nat := if c.fathom then 256 + 16 * dieOf gt + fathomOf gt g else gt
/-- The checks of an engine access of `n` bytes inside one page. -/
def State.engineTarget (s : State) (gt g : Nat) (c : EngineCmd) (kind : AccKind) (va : Word) (n : Nat) : EngTarget :=
  match classify va with
  | .bad => .fail 1
  | .window pkg t off =>
    if !((pkg == s.mgmt.package || Config.configuredPackage pkg) && (isMTile t || isSTile t) && s.ownsTile c.part pkg t &&
        decide (off + n ≤ 0x400000)) then .fail 1
    else .ok (if pkg = s.mgmt.package then .tile t off else .remoteTile pkg t off)
  | .virtual =>
    match s.translate (engineTlb gt g c) c.part c.super kind va (engineAsker gt g) (c.ctx.getD 0) with
    | .ok t => .ok t
    | .miss => .miss
    | .fault 0x0D _ _ => .fail 2
    | .fault _ k refuse => if refuse then .fail 1 else .stop k
/-- The home of an address asked for its translation (spec/15 R320). -/
def State.engineAsks (s : State) (gt g : Nat) (c : EngineCmd) (va : Word) : State :=
  s.askHome (engineTlb gt g c) c.part va (engineAsker gt g) (c.ctx.getD 0)
/-- The unit that runs a command, as the issuer of its accesses. -/
def State.engineIssuer (s : State) (gt g : Nat) (c : EngineCmd) : Issuer :=
  { slot := c.slot, src := s.engineSource gt g c, part := c.part, task := c.task, scope := c.scope, super := c.super, entry := gt * 8 + g }
/-- What an engine has read: bytes, poison, and the remote bytes left; the pieces of other modules, of at most 256 bytes, that have still
to come; the end or stop of the operation; or a wait for a line that the host holds. -/
structure EngRead where
  bytes : Bytes
  bad : Bool
  rest : Bytes
  need : List (Target × Word × Nat)
  fail : Option Nat
  stop : Option (Nat × Word)
  /-- An address whose translation has still to come. -/
  miss : Option Word
  lines : List (Nat × Nat)
  /-- The remote bytes that came with the event; whether a source lies where the partition has no time slot. -/
  came : Bytes × Bool
  held : Bool
/-- Nothing read. -/
def EngRead.start (remote : Bytes × Bool) : EngRead :=
  { bytes := [], bad := remote.2, rest := remote.1, need := [], fail := none, stop := none, miss := none, lines := []
    came := remote, held := false }
/-- A run of bytes read, at most 256 at a time; bytes of another module or the host are taken from those that came (`rest`). -/
def State.engineRead (s : State) (gt g : Nat) (c : EngineCmd) : (fuel : Nat) → (va : Word) → (n : Nat) → EngRead → EngRead
  | 0, _, _, r => r
  | f + 1, va, n, r =>
    if n = 0 || r.fail.isSome || r.stop.isSome || r.miss.isSome then r
    else
      let m := min n (256 - va.toNat % 256)
      match s.engineTarget gt g c .read va m with
      | .fail k => { r with fail := some k }
      | .stop k => { r with stop := some (k, va) }
      | .miss => { r with miss := some va }
      | .ok t =>
        let r := { r with held := r.held || !s.served c.part gt t }
        let r :=
          if t.remote then
            if r.rest.length < m then { r with need := r.need ++ [(t, va, m)] }
            else { r with bytes := r.bytes ++ r.rest.take m, rest := r.rest.drop m }
          else
            { r with bytes := r.bytes ++ (s.readTarget t m).1, bad := r.bad || (s.readTarget t m).2
                     lines := r.lines ++ s.heldLines t m }
        s.engineRead gt g c f (va + wordN m) (n - m) r
/-- The head command of a generator. -/
def State.headCmd (s : State) (gt g : Nat) : Option EngineCmd := (vget (s.tile gt).gens g).queue.head?
/-- The head command changed. -/
def State.onHead (s : State) (gt g : Nat) (f : EngineCmd → EngineCmd) : State :=
  s.onGen gt g (fun q => { q with queue := match q.queue with
    | c :: rest => f c :: rest
    | [] => [] })
/-- The head command ends with a code (spec/09 R203). -/
def State.endCmd (s : State) (gt g code : Nat) : State :=
  let s := match s.headCmd gt g with
    | some c => s.unask (engineAsker gt g) (engineTlb gt g c)
    | none => s
  (s.onHead gt g (fun c => { c with code := some code, stop := none, asking := false })).post (.engineComplete gt g)
/-- The head command consumes poison (spec/09 R211): it ends with CODE POISON, and the scope of its task becomes CANCELLING. -/
def State.endPoison (s : State) (gt g : Nat) (c : EngineCmd) : State :=
  (match s.taskOf c.task with
   | some q => s.poisonScope q.scope
   | none => s).endCmd gt g 4
/-- The head command goes on with its next segment. -/
def State.nextSeg (s : State) (gt g : Nat) (f : EngineCmd → EngineCmd) : State :=
  (s.onHead gt g (fun c => { f c with stop := none, asking := false })).post (.engineSegment gt g [] false)
/-- The head command stops on a faulting page (spec/15 R323, R333): a record is logged unless the same failure stands. -/
def State.stopCmd (s : State) (gt g : Nat) (c : EngineCmd) (acc fkind : Nat) (va : Word) : State :=
  let same := match c.stop with
    | some e => e.fkind == fkind && e.va == va
    | none => false
  let s := s.unask (engineAsker gt g) (engineTlb gt g c)
  if same then s.onHead gt g (fun h => { h with asking := false })
  else
    let (fid, s) := s.nextFid c.part
    let unit := match c.ctx with
      | some x => 16 + x
      | none => g
    let s := s.appendLog c.part (s.faultRecord 0x11 fkind (acc + 16 * bit c.super) 0 (s.engineSource gt g c) va c.task fid c.ticket
      unit 0xFF c.done c.part)
    s.onHead gt g (fun c => { c with stop := some { fkind := fkind, va := va }, asking := false })
/-- What stands in the way of a segment whose source has been read: the state in which the engine waits, stops or ends. -/
def State.readBlocked (s : State) (gt g : Nat) (c : EngineCmd) (r : EngRead) : Option State :=
  match r.fail, r.stop with
  | some k, _ => some (s.endCmd gt g k)
  | none, some (k, va) => some (s.stopCmd gt g c 1 k va)
  | none, none =>
    match r.miss with
    | some va => some ((s.engineAsks gt g c va).defer (.engineSegment gt g r.came.1 r.came.2))
    | none =>
    if r.held then some (s.defer (.engineSegment gt g r.came.1 r.came.2))
    else if !r.need.isEmpty then
      some (if !s.retryRoom (s.engineSource gt g c) then s.defer (.engineSegment gt g r.came.1 r.came.2)
        else r.need.foldl (fun s p => s.sendRead (s.engineIssuer gt g c) p.1 p.2.1 p.2.2 (some (.engineSegment gt g [] false))) s)
    else (s.snoop r.lines false).map (fun s => s.defer (.engineSegment gt g r.came.1 r.came.2))
/-- Bytes that leave the module for their owner, with a request that stands until they have been performed (spec/16 R342). -/
def State.engineSend (s : State) (gt g : Nat) (c : EngineCmd) (t : Target) (va : Word) (bs : Bytes) (bad : Bool) : State :=
  (s.sendBlock (s.engineIssuer gt g c) t va bs bad none).2
/-- A segment written (spec/09 R202): `read` is what it needs of its source. -/
def State.writeSegment (s : State) (gt g : Nat) (c : EngineCmd) (dst : Word) (len : Nat) (r : EngRead) (bs : Bytes)
    (after : EngineCmd → EngineCmd) : State :=
  match s.engineTarget gt g c .write dst len with
  | .fail k => s.endCmd gt g k
  | .stop k => s.stopCmd gt g c 2 k dst
  | .miss => (s.engineAsks gt g c dst).defer (.engineSegment gt g r.came.1 r.came.2)
  | .ok t =>
    if !s.served c.part gt t || (t.remote && !s.retryRoom (s.engineSource gt g c)) then s.defer (.engineSegment gt g r.came.1 r.came.2)
    else match s.readBlocked gt g c r with
    | some s => s
    | none =>
      match s.snoop (s.heldLines t len) true with
      | some s => s.defer (.engineSegment gt g r.came.1 r.came.2)
      | none =>
        let s := if t.remote then s.engineSend gt g c t dst bs r.bad else s.writeTarget t bs r.bad
        s.nextSeg gt g (fun c => { after c with progress := c.progress + 1, done := c.done + len, pois := c.pois || r.bad })

/-- Segments of a run of `len` bytes at a destination: none crosses a 256-byte boundary (spec/09 R202). -/
def segCount (dst : Word) (len : Nat) : Nat := if len = 0 then 0 else (dst.toNat % 256 + len + 255) / 256
/-- Segment j of a run, in rising order: its offset in the run and its length. -/
def segAt (dst : Word) (len j : Nat) : Nat × Nat :=
  let lo := 256 * j - dst.toNat % 256
  (lo, min len (256 * (j + 1) - dst.toNat % 256) - lo)
/-- A run is walked downwards: DST > SRC and the ranges overlap (spec/09 R202). -/
def walksDown (src dst : Word) (len : Nat) : Bool := decide (src.toNat < dst.toNat ∧ dst.toNat < src.toNat + len)
/-- The row and segment of the segment numbered `p` in processing order: rows of equal length at the addresses `dst r`. -/
def locateSeg (rows len : Nat) (dst : Nat → Word) : (fuel : Nat) → (r p : Nat) → Option (Nat × Nat)
  | 0, _, _ => none
  | f + 1, r, p =>
    if rows ≤ r then none
    else if p < segCount (dst r) len then some (r, p) else locateSeg rows len dst f (r + 1) (p - segCount (dst r) len)
/-- One segment of a copied run. A row of CP.GATHER or CP.SCATTER whose ranges overlap is walked as a CP walks it (DESIGN CHOICE, log 71). -/
def State.copySegment (s : State) (gt g : Nat) (c : EngineCmd) (src dst : Word) (len j : Nat) (remote : Bytes × Bool)
    (after : EngineCmd → EngineCmd) : State :=
  let j := if walksDown src dst len then segCount dst len - 1 - j else j
  let p := segAt dst len j
  let r := s.engineRead gt g c 3 (src + wordN p.1) p.2 (EngRead.start remote)
  s.writeSegment gt g c (dst + wordN p.1) p.2 r r.bytes after

/-- The next segment of CP and CP.2D (spec/09 R204). -/
def State.stepCopy (s : State) (gt g : Nat) (c : EngineCmd) (b : Block) (remote : Bytes × Bool) : State :=
  let rows := if c.kind = 1 then 1 else b.n
  let src := fun (r : Nat) => b.src + wordN r * b.sstr
  let dst := fun (r : Nat) => b.dst + wordN r * b.dstr
  match locateSeg rows b.len dst (if b.len = 0 then 0 else c.progress + 1) 0 c.progress with
  | none => s.endCmd gt g 0
  | some (r, j) => s.copySegment gt g c (src r) (dst r) b.len j remote id
/-- The next segment of CP.FILL (spec/09 R204): byte i is byte i mod 8 of SSTR. -/
def State.stepFill (s : State) (gt g : Nat) (c : EngineCmd) (b : Block) : State :=
  if segCount b.dst b.len ≤ c.progress then s.endCmd gt g 0
  else
    let p := segAt b.dst b.len c.progress
    let bs := (List.range p.2).map (fun i => byteAt (toBytes 8 b.sstr.toNat) ((p.1 + i) % 8))
    s.writeSegment gt g c (b.dst + wordN p.1) p.2 (EngRead.start ([], false)) bs id
/-- The next step of CP.GATHER and CP.SCATTER (spec/09 R205): an index word read once, or a segment of its row. -/
def State.stepIndexed (s : State) (gt g : Nat) (c : EngineCmd) (b : Block) (remote : Bytes × Bool) : State :=
  let nextRow := fun (c : EngineCmd) => { c with row := c.row + 1, index := none, seg := 0 }
  if b.n ≤ c.row then s.endCmd gt g 0
  else match c.index with
    | none =>
      let r := s.engineRead gt g c 2 (b.aux + 4 * wordN c.row) 4 (EngRead.start remote)
      (match s.readBlocked gt g c r with
       | some s => s
       | none =>
         if r.bad then s.endPoison gt g c
         else
           let x := ofBytes r.bytes
           s.nextSeg gt g (fun c => if x = 0xFFFFFFFF then nextRow c else { c with index := some x, seg := 0 }))
    | some x =>
      let i := wordN c.row
      let src := if c.kind = 4 then b.src + wordN x * b.sstr else b.src + i * b.sstr
      let dst := if c.kind = 4 then b.dst + i * b.dstr else b.dst + wordN x * b.dstr
      if segCount dst b.len ≤ c.seg then s.nextSeg gt g nextRow
      else s.copySegment gt g c src dst b.len c.seg remote (fun c => { c with seg := c.seg + 1 })

/-- The E4M3 code of an FP4 code (spec/09 R206). -/
def widenCode (c : Nat) : Nat := [0x00, 0x30, 0x38, 0x3C, 0x40, 0x44, 0x48, 0x4C].getD (c % 8) 0 + c / 8 % 2 * 0x80
/-- Rows of image t of CP.DECOMP. -/
def Block.imageRows (b : Block) (t : Nat) : Nat := min 32 (b.n - 32 * t)
/-- The 64 header bytes of an image of CP.DECOMP (spec/09 R206, spec/03 Table 3.8). -/
def Block.headerBytes (b : Block) (rows : Nat) : Bytes :=
  padTo 64 ([BitVec.ofNat 8 (0x20 + (if b.opt0 then 0xB else 8)), 1] ++ toBytes 2 rows ++ toBytes 2 b.len)
/-- Scale bytes of a row. -/
def Block.scales (b : Block) : Nat := (b.len + 31) / 32
/-- What an element byte of an image is made of its source byte (spec/09 R206, spec/03 R68). -/
inductive Nibble where
  /-- The byte as it is. -/
  | whole
  /-- Its lower half: the spare half of the last byte of a row is 0. -/
  | low
  /-- The E4M3 code of one of its halves. -/
  | widened (half : Nat)
  deriving DecidableEq, Repr
/-- The byte made of a source byte. -/
def Nibble.apply (m : Nibble) (v : Byte) : Byte :=
  match m with
  | .whole => v
  | .low => BitVec.ofNat 8 (v.toNat % 16)
  | .widened h => BitVec.ofNat 8 (widenCode (v.toNat / 16 ^ h % 16))
/-- Byte j of an element row of CP.DECOMP: its place in the packed source row, and what becomes of that byte. -/
def Block.rowByte (b : Block) (j : Nat) : Option (Nat × Nibble) :=
  if b.opt0 then (if j < b.len then some (j / 2, .widened (j % 2)) else none)
  else if j < b.len / 2 then some (j, .whole)
  else if j < (b.len + 1) / 2 then some (j, .low)
  else none
/-- Where byte `o` of image t comes from, and what it is made of that byte; a byte that no reader of the image looks at comes from nowhere
(spec/08 R177). -/
def Block.imageSource (b : Block) (t o : Nat) : Option (Word × Nibble) :=
  let rows := b.imageRows t
  if o < 1600 then
    let i := (o - 64) / 48
    let k := (o - 64) % 48
    if 64 ≤ o ∧ i < rows ∧ k < b.scales then some (b.aux + wordN ((32 * t + i) * b.scales + k), .whole) else none
  else
    let i := (o - 1600) / 384
    if rows ≤ i then none
    else (b.rowByte ((o - 1600) % 384)).map (fun x => (b.src + wordN (32 * t + i) * b.sstr + wordN x.1, x.2))
/-- The runs of an image: the header, the scale bytes of each row, and the element rows (spec/08 R177). -/
def imageRuns : List (Nat × Nat) :=
  (0, 64) :: (List.range 32).map (fun i => (64 + 48 * i, 48)) ++ (List.range 32).map (fun i => (1600 + 384 * i, 384))
/-- The segment numbered `p` of runs that lie at a destination: its offset and length, or the segments left over. -/
def locateRun (dst : Word) : (runs : List (Nat × Nat)) → (p : Nat) → Except Nat (Nat × Nat)
  | [], p => .error p
  | (lo, n) :: rest, p =>
    if p < segCount (dst + wordN lo) n then .ok (lo + (segAt (dst + wordN lo) n p).1, (segAt (dst + wordN lo) n p).2)
    else locateRun dst rest (p - segCount (dst + wordN lo) n)
/-- The segment numbered `p` of the images from image t on: image, offset in it and length. -/
def locateImage (images : Nat) (dst : Nat → Word) : (fuel : Nat) → (t p : Nat) → Option (Nat × Nat × Nat)
  | 0, _, _ => none
  | f + 1, t, p =>
    if images ≤ t then none
    else match locateRun (dst t) imageRuns p with
      | .ok x => some (t, x.1, x.2)
      | .error p => locateImage images dst f (t + 1) p
/-- The bytes `lo` to `lo + n − 1` of image t, which lie in one of its runs, as an engine reads them, and the bytes they become. Bytes that no
reader looks at are free values (log 25). -/
def State.imagePart (s : State) (gt g : Nat) (c : EngineCmd) (b : Block) (t lo n : Nat) (remote : Bytes × Bool) : EngRead × Bytes :=
  let srcs := (List.range n).map (fun i => b.imageSource t (lo + i))
  let as := srcs.filterMap (fun x => x.map (·.1))
  let first := as.headD 0
  let r := if as.isEmpty then EngRead.start remote
    else s.engineRead gt g c 3 first ((as.getLastD 0 - first).toNat + 1) (EngRead.start remote)
  let hd := b.headerBytes (b.imageRows t)
  (r, (List.range n).map (fun i =>
    if lo + i < 64 then byteAt hd (lo + i)
    else match srcs.getD i none with
      | none => Config.freeByte s.drawn (lo + i)
      | some x => x.2.apply (byteAt r.bytes (x.1 - first).toNat)))
/-- The residency record of CP.DECOMP sent to its S-tile (spec/09 R206, spec/10 Table 10.10): VALID, CH, the tile that issued
it (or that the images lie in) as HOLDER, the image count, and DST or the sending endpoint. One for an S-tile of another module goes out as
a request, which takes the answer (log 24). -/
def State.sendResidency (s : State) (gt g : Nat) (c : EngineCmd) (b : Block) : State :=
  let pkg := bits b.dstr 49 40
  let t := bits b.dstr 39 32
  let images := (b.n + 31) / 32
  let holder := match classify b.dst with
    | .window p h _ => if b.toch then bits (s.tileId gt) 17 0 else p * 2 ^ 8 + h
    | _ => bits (s.tileId gt) 17 0
  let w0 := wordN (2 ^ 63 + 2 ^ 62 * bit b.toch + 2 ^ 32 * holder + images)
  let w1 := b.dst
  let expert := bits b.dstr 15 0
  let sent := s.onHead gt g (fun c => { c with row := 1 })
  if !((pkg == s.mgmt.package || Config.configuredPackage pkg) && isSTile t && s.ownsTile c.part pkg t) then s.endCmd gt g 7
  else if pkg = s.mgmt.package then sent.post (.residencyRecord t expert w0 w1 (some (gt * 8 + g)))
  else if !s.retryRoom (s.engineSource gt g c) then s.defer (.engineSegment gt g [] false)
  else
    let p := s.engineIssuer gt g c
    let (id, s) := sent.fresh
    let va := wordN (0xFFFE * 2 ^ 48 + pkg * 2 ^ 38 + t * 2 ^ 30)
    let q := p.request id (.residency w0 w1) va (.remoteTile pkg t 0) (s.nextSeq p.src (pkg * 4096)) none
    State.sendPacket { s with requests := s.requests ++ [q] }
      { reqPacket 0x06 p.src c.part pkg t c.super false va (wordN expert) (toBytes 8 w0.toNat ++ toBytes 8 w1.toNat) with
        dest := pkg * 4096 + t * 16 + 5 }
/-- The element rows of image t read one after another, after its scale bytes. -/
def State.readRows (s : State) (gt g : Nat) (c : EngineCmd) (b : Block) (t rows : Nat) (r : EngRead) : EngRead :=
  (List.range rows).foldl (fun r i => s.engineRead gt g c 4 (b.src + wordN (32 * t + i) * b.sstr) ((b.len + 1) / 2) r) r
/-- A token of CP.DECOMP leaves when the channel allows it (spec/09 R206): image t as a data tile. Its scale bytes are read first, since
poison in them ends the operation (R211). On an endpoint that is CLOSED already it ends as on one that is BROKEN (DESIGN CHOICE, log 72). -/
def State.stepToken (s : State) (gt g : Nat) (c : EngineCmd) (b : Block) (t : Nat) (remote : Bytes × Bool) : State :=
  let ch := bits b.dst 3 0
  let e := s.chan gt ch
  let rows := b.imageRows t
  let h := b.header rows
  let n := rows * b.scales
  let scales := s.engineRead gt g c 8 (b.aux + wordN (32 * t * b.scales)) n (EngRead.start remote)
  let r := if c.index = some t then s.readRows gt g c b t rows scales else scales
  let beats := fun (l : Bytes) => padTo ((l.length + 63) / 64 * 64) l
  match s.readBlocked gt g c r with
  | some s => s
  | none =>
    if c.index ≠ some t then
      (if r.bad then s.endPoison gt g c else s.nextSeg gt g (fun c => { c with index := some t }))
    else if e.state != .opened then s.endCmd gt g 8
    else if e.peer.isNone || e.allowance = 0 || e.frozen || !s.tokenRoom gt e then s.defer (.engineSegment gt g remote.1 remote.2)
    else
      let packed := (b.len + 1) / 2
      let row := fun (i : Nat) => (List.range h.rowBytes).map (fun j => match b.rowByte j with
        | some x => x.2.apply (byteAt r.bytes (n + i * packed + x.1))
        | none => 0)
      let tok : Token :=
        { kind := .data, bytes := b.headerBytes rows ++ beats (r.bytes.take n) ++ beats ((List.range rows).flatMap row), tail := true, bad := r.bad }
      let s := s.onChan gt ch (fun e => { e with allowance := e.allowance - 1, count := e.count + 1 })
      (s.sendToken c.part gt ch tok).nextSeg gt g (fun c =>
        { c with progress := c.progress + 1, index := none, done := c.done + tok.bytes.length, pois := c.pois || r.bad })
/-- The next step of CP.DECOMP (spec/09 R206): poison in the scale bytes that a segment brings ends the operation (R211). -/
def State.stepDecomp (s : State) (gt g : Nat) (c : EngineCmd) (b : Block) (remote : Bytes × Bool) : State :=
  let images := (b.n + 31) / 32
  let finish := if c.row = 1 then (match remote.1 with
      | v :: _ => s.endCmd gt g (if v = 0 then 0 else 7)
      | [] => s)
    else if b.resid then s.sendResidency gt g c b else s.endCmd gt g 0
  if b.toch then (if images ≤ c.progress then finish else s.stepToken gt g c b c.progress remote)
  else
    let dst := fun (t : Nat) => b.dst + wordN (13888 * t)
    match locateImage images dst (c.progress + 1) 0 c.progress with
    | none => finish
    | some (t, lo, n) =>
      let r := s.imagePart gt g c b t lo n remote
      if lo < 1600 && r.1.bad && (s.readBlocked gt g c r.1).isNone then s.endPoison gt g c
      else State.writeSegment { s with drawn := s.drawn + 1 } gt g c (dst t + wordN lo) n r.1 r.2 id

/-- A token at the head of a receiving endpoint taken by an engine: its entry is free at once (spec/09 R208, R216). -/
def State.engineTake (s : State) (gt ch : Nat) : State :=
  let s := s.onChan gt ch (fun e => { e with
    tokens := e.tokens.drop 1, taken := e.taken + 1, lastTaken := s.cycle, returned := e.returned + bit (!e.manual) })
  if (s.chan gt ch).manual then s else s.returnUnits ((s.tile gt).part.getD 0) gt ch 1
/-- An image made from the beats of a data-tile token (spec/09 R207); none when it is unusable. -/
def tokenImage (bs : Bytes) : Option (List Host.Cell) :=
  let h := Header.ofBytes bs
  if h.invalid || decide (32 < h.rows) || decide (384 < h.rowBytes) then none
  else
    let k := (h.cols + 31) / 32
    let scaleBytes := if h.scm = 1 then (h.rows * k + 63) / 64 * 64 else 0
    let m := Memory.write [] 0 (bs.take 64)
    let m := if h.scm = 1 then (List.range h.rows).foldl (fun m i => Memory.write m (64 + 48 * i) ((bs.drop (64 + i * k)).take k)) m else m
    some ((List.range h.rows).foldl (fun m i =>
      Memory.write m (1600 + 384 * i) ((bs.drop (64 + scaleBytes + i * h.rowBytes)).take h.rowBytes)) m)
/-- An image has arrived in the position that a FIFO.FEED fills. -/
def State.feedImage (s : State) (gt g : Nat) (c : EngineCmd) (q : Nat) (img : List Host.Cell) (bad : Bool) : State :=
  let s := match c.fill with
    | some f => s.fillFifo gt q f img bad
    | none => s
  s.nextSeg gt g (fun c => { c with fill := none, progress := c.progress + 1, done := c.done + 13888, pois := c.pois || bad })
/-- A piece of an image has been read (spec/16 R337): with the last the position is FULL. -/
def State.feedPiece (s : State) (gt g : Nat) (c : EngineCmd) (q n : Nat) (r : EngRead) : State :=
  let f := c.fill.getD 0
  let s := s.fillPiece gt q f (256 * c.seg) r.bytes r.bad
  if 256 * c.seg + n < imageBytes then s.nextSeg gt g (fun c => { c with seg := c.seg + 1, pois := c.pois || r.bad })
  else (s.fillDone gt q f).nextSeg gt g (fun c =>
    { c with fill := none, seg := 0, progress := c.progress + 1, done := c.done + imageBytes, pois := c.pois || r.bad })
/-- A FIFO.FEED ends: the position that it is filling becomes FREE. -/
def State.feedEnds (s : State) (gt g : Nat) (c : EngineCmd) (code : Nat) : State :=
  ((s.dropFill gt c).onHead gt g (fun c => { c with fill := none })).endCmd gt g code
/-- The next step of FIFO.FEED (spec/09 R207): an image in memory is read in pieces of 256 bytes. -/
def State.stepFeed (s : State) (gt g : Nat) (c : EngineCmd) (b : Block) (remote : Bytes × Bool) : State :=
  let q := bits b.dst 1 0
  let again := s.defer (.engineSegment gt g remote.1 remote.2)
  if c.progress ≥ b.n && !(b.opt0 && b.n = 0) then s.feedEnds gt g c 0
  else if c.fill.isNone then
    if 4 ≤ (vget (s.tile gt).fifos q).length then again
    else
      let r := s.reserveFill gt q
      r.2.nextSeg gt g (fun c => { c with fill := some r.1 })
  else if !b.opt0 then
    let n := min 256 (imageBytes - 256 * c.seg)
    let r := s.engineRead gt g c 3 (b.src + wordN c.progress * b.sstr + wordN (256 * c.seg)) n (EngRead.start remote)
    match s.readBlocked gt g c r with
    | some s => s
    | none => s.feedPiece gt g c q n r
  else
    let ch := bits b.src 3 0
    let e := s.chan gt ch
    match e.ended, e.tokens with
    | some k, _ => s.feedEnds gt g c (if k == .endTok then 6 else 9)
    | none, t :: _ =>
      if !t.tail then again
      else if t.kind == .data then
        let bs := s.readMem (sramKey gt (e.entry t.seq)) (64 * t.beats)
        let bad := s.poisoned (sramKey gt (e.entry t.seq)) (64 * t.beats)
        let s := s.engineTake gt ch
        (match tokenImage bs with
         | some img => s.feedImage gt g c q img bad
         | none => s.feedEnds gt g c 5)
      else if t.kind == .message then (s.engineTake gt ch).feedEnds gt g c 5
      else
        let s := s.onChan gt ch (fun e => { e with tokens := e.tokens.drop 1, ended := some t.kind, lastTaken := s.cycle })
        s.feedEnds gt g c (if t.kind == .endTok then 6 else 9)
    | none, [] => again

/-- The contexts of a Fathom engine that are in use: those of the generators' head commands on its die. -/
def State.contextsUsed (s : State) (die n : Nat) : List Nat :=
  (s.tiles.filter (fun e => dieOf e.1 == die)).flatMap (fun e => (List.range 8).filterMap (fun g =>
    if fathomOf e.1 g = n then (match (vget e.2.gens g).queue.head? with
      | some c => c.ctx
      | none => none) else none))
/-- A Fathom command obtains a context of its partition (spec/15 R323, spec/17 Table 17.1 FCTX); none when all are in use. -/
def State.freeContext (s : State) (gt g part : Nat) : Option Nat :=
  (setBits 16 (s.part part).fctx.toNat).find? (fun x => !(s.contextsUsed (dieOf gt) (fathomOf gt g)).contains x)
/-- The head command of a generator carried one step further. -/
def State.engineStep (s : State) (gt g : Nat) (remote : Bytes × Bool) (c : EngineCmd) : State :=
  let b := Block.ofBytes c.block
  match c.kind with
  | 1 | 2 => s.stepCopy gt g c b remote
  | 3 => s.stepFill gt g c b
  | 4 | 5 => s.stepIndexed gt g c b remote
  | 6 => s.stepDecomp gt g c b remote
  | 7 => s.stepFeed gt g c b remote
  | _ => s.post (.agPortRequest gt g)
/-- The head command of a generator goes on with the bytes that came; a poisoned reply without data ends the operation with CODE POISON (spec/17
R361). -/
def State.engineGo (s : State) (gt g : Nat) (remote : Bytes) (bad : Bool) (c : EngineCmd) : State :=
  if bad && remote.isEmpty then s.endPoison gt g c
  else (s.onHead gt g (fun c => { c with started := true })).engineStep gt g (remote, bad) { c with started := true }
/-- The bytes that another module or the host has sent for the head command (spec/16 R345): it waits until all have come. -/
def State.engineReplies (s : State) (gt g : Nat) (c : EngineCmd) : State :=
  let rs := s.reads (s.engineIssuer gt g c)
  match readsData rs with
  | none => s
  | some (bs, bad) =>
    (s.dropReads rs).engineGo gt g (if rs.any (fun r => (r.data.map (fun d => d.1.isEmpty)).getD false) then [] else bs) bad c
/-- ENGINE_SEGMENT (spec/09 R202): the head command starts, or writes one segment. A stopped command waits until GEN advances (spec/15
R333), one whose slot is being saved for the save (R210); `remote` holds source bytes that another module or the host
supplied and `bad` their poison. -/
def execEngineSegment (gtile g : Nat) (remote : Bytes) (bad : Bool) (s : State) : Host.Outcome State Fault Refusal :=
  .next (match s.headCmd gtile g with
    | none => s
    | some c =>
      if c.code.isSome || (c.stop.isSome && !c.asking) then s
      else if s.genSaving gtile g then s.defer (.engineSegment gtile g remote bad)
      else if c.fathom && c.ctx.isNone then
        (match s.freeContext gtile g c.part with
         | none => s.defer (.engineSegment gtile g remote bad)
         | some x => s.nextSeg gtile g (fun c => { c with started := true, ctx := some x }))
      else if remote.isEmpty && !(s.reads (s.engineIssuer gtile g c)).isEmpty then s.engineReplies gtile g c
      else s.engineGo gtile g remote bad c)
/-- The retry of a stopped command (spec/15 R333): it stops again on the same failure, or goes on. -/
def State.retryEngine (s : State) (gt g : Nat) : State :=
  match s.headCmd gt g with
  | some c => if c.stop.isSome && c.code.isNone then (s.onHead gt g (fun c => { c with asking := true })).post (.engineSegment gt g [] false) else s
  | none => s

/-- The next command of a generator starts. -/
def State.startNext (s : State) (gt g : Nat) : State :=
  match s.headCmd gt g with
  | some c => s.post (if c.code.isSome then .engineComplete gt g else .engineSegment gt g [] false)
  | none => s
/-- The 64 bytes of a completion message (spec/09 R203). -/
def EngineCmd.message (c : EngineCmd) (g code : Nat) : Bytes :=
  padTo 64 (c.record code ++ [BitVec.ofNat 8 c.kind, BitVec.ofNat 8 g, (match c.k with
    | some k => BitVec.ofNat 8 k.val
    | none => 0xFF)])
/-- Writes of a command that have still to be performed elsewhere. -/
def State.engineWrites (s : State) (gt g : Nat) (c : EngineCmd) : Bool :=
  s.requests.any (fun r => r.src == s.engineSource gt g c && r.task == c.task && r.entry == gt * 8 + g && (match r.kind with
    | .block _ => true
    | _ => false))
/-- The completion record written (spec/09 R203); one whose write fails is counted. -/
def State.recordCmd (s : State) (gt g : Nat) (c : EngineCmd) (code : Nat) : State :=
  let s := s.onHead gt g (fun c => { c with recorded := true })
  if !(Block.ofBytes c.block).rec_ then s
  else match s.engineTarget gt g c .write (Block.ofBytes c.block).res 16 with
    | .ok t =>
      if t.remote then s.engineSend gt g c t (Block.ofBytes c.block).res (c.record code) false
      else s.writeTarget t (c.record code) false
    | _ => s.countTile gt 4
/-- A command that has completed leaves its generator (spec/09 R201, R203, R219). -/
def State.retireCmd (s : State) (gt g : Nat) (c : EngineCmd) (code : Nat) : State :=
  let s := (s.onGen gt g (fun q => { q with queue := q.queue.drop 1 })).uncharge gt c.k
  let s := if c.inner then s.onHead gt g (fun c => { c with done := c.done + 1 }) else s.releaseChannel gt c
  let s := if (Block.ofBytes c.block).msg && !c.cut then s.post (.messageArrival gt (c.message g code) none) else s
  s.startNext gt g
/-- ENGINE_COMPLETE (spec/09 R203): when every write has been performed the record is written; when it has been performed the
counter is uncharged and the message posted, and the next command starts. -/
def execEngineComplete (gtile g : Nat) (s : State) : Host.Outcome State Fault Refusal :=
  .next (match s.headCmd gtile g with
    | none => s
    | some c =>
      match c.code with
      | none => s
      | some code =>
        if s.engineWrites gtile g c || s.genSaving gtile g then
          (s.confirmWrites (fun r => r.src == s.engineSource gtile g c)).defer (.engineComplete gtile g)
        else if !c.recorded then
          (match (Block.ofBytes c.block).rec_, s.engineTarget gtile g c .write (Block.ofBytes c.block).res 16 with
           | true, .miss => (s.engineAsks gtile g c (Block.ofBytes c.block).res).defer (.engineComplete gtile g)
           | _, _ => ((s.recordCmd gtile g c code).unask (engineAsker gtile g) (engineTlb gtile g c)).post (.engineComplete gtile g))
        else s.retireCmd gtile g c code)

/-- A message token that is a request which passes its checks (spec/09 R208). -/
def State.portRequest (s : State) (c : EngineCmd) (bs : Bytes) : Bool :=
  let b := Block.ofBytes bs
  decide (1 ≤ b.kind ∧ b.kind ≤ 5) && !b.malformed && b.limits && (s.resCause c.part b).isNone
/-- AG_PORT_REQUEST (spec/09 R208): the token at the head is taken as a request and executed, or discarded and counted; END
ends the binding. -/
def execAgPortRequest (gtile g : Nat) (s : State) : Host.Outcome State Fault Refusal :=
  .next (match s.headCmd gtile g with
    | none => s
    | some c =>
      if c.kind ≠ 8 || c.code.isSome then s
      else if s.genSaving gtile g then s.defer (.agPortRequest gtile g)
      else
        let ch := bits (fieldW c.block 8 8) 3 0
        let e := s.chan gtile ch
        match e.ended, e.tokens with
        | some k, _ => s.endCmd gtile g (if k == .endTok then 0 else 9)
        | none, t :: _ =>
          if !t.tail then s.defer (.agPortRequest gtile g)
          else if t.kind == .endTok || t.kind == .endCancelled then
            (s.onChan gtile ch (fun e => { e with tokens := e.tokens.drop 1, ended := some t.kind, lastTaken := s.cycle })).endCmd gtile g
              (if t.kind == .endTok then 0 else 9)
          else
            let bs := s.readMem (sramKey gtile (e.entry t.seq)) 64
            let bad := s.poisoned (sramKey gtile (e.entry t.seq)) (64 * t.beats)
            let s := s.engineTake gtile ch
            if bad then s.endPoison gtile g c
            else if t.kind == .message && s.portRequest c bs then
              let ticket := (vget (s.tile gtile).gens g).ticket + 1
              let inner : EngineCmd :=
                { kind := (byteAt bs 0).toNat, block := bs, ticket := ticket, k := none, super := c.super, slot := c.slot, task := c.task
                  part := c.part, started := false, progress := 0, done := 0, discarded := 0, pois := false, stop := none, code := none
                  fill := none, ctx := none, row := 0, index := none, seg := 0, inner := true, recorded := false, scope := c.scope }
              ((s.onHead gtile g (fun c => { c with progress := c.progress + 1 })).onGen gtile g (fun q =>
                { q with queue := inner :: q.queue, ticket := ticket })).startNext gtile g
            else (s.onHead gtile g (fun c => { c with progress := c.progress + 1, discarded := c.discarded + 1 })).post (.agPortRequest gtile g)
        | none, [] => s.defer (.agPortRequest gtile g))

end Sys2Proof.Machine
end

