-- ==== Sys2Proof/Machine/Translation.lean ====
section
/-! DEFINITION. Walks, fills and invalidations (spec/15 R320 to R322), and the retry of stopped engine operations (R333). -/

namespace Sys2Proof.Machine

/-- WALK_COMPLETE (spec/15 R321 rules 1 and 2, R313): in a turn of the partition (spec/17 R359) a walk whose home has kept its GEN
ends with a fill, or with `no entry`, which a fill whose word 0 is zero carries to the access that asked; a walk whose GEN has
changed starts again. Malformed entries that it met are counted. -/
def execWalkComplete (walk : Nat) (s : State) : Host.Outcome State Fault Refusal :=
  .next (match ([0, 1, 2, 3].flatMap (fun d => (s.die d).walks)).find? (fun w => w.id == walk) with
    | none => s
    | some w =>
      if !s.hasTurn w.home 64 w.part then s.later (.walkComplete walk)
      else if w.gen ≠ s.gen w.home w.part then
        (s.onDie w.home (fun d => { d with walks := d.walks.map (fun x =>
          if x.id == walk then { x with gen := s.gen w.home w.part } else x) })).post (.walkComplete walk)
      else
        let r := s.walk w.part w.va
        let s := s.onDie w.home (fun d => { d with walks := d.walks.filter (fun x => x.id != walk) })
        let s := if r.2 = 0 then s else s.countDie w.home 0 r.2
        match r.1 with
        | some e =>
          let home := 320 + w.home
          (s.onTlb home (fun t => t.install (tlbRoom home) { e with home := w.home })).post
            (.tlbFill w.tlb { home := w.home, part := w.part, gen := w.gen, w0 := e.w0, w1 := e.w1, w2 := e.w2, by_ := w.by_, ctx := w.ctx })
        | none => s.post (.tlbFill w.tlb { home := w.home, part := w.part, gen := w.gen, w0 := 0, w1 := w.va, w2 := 0, by_ := w.by_, ctx := w.ctx }))

/-- A GEN is older than another: both wrap at 2^32 (spec/15 R321). -/
def genOlder (a b : Nat) : Bool := decide (0 < (b + 2 ^ 32 - a) % 2 ^ 32 ∧ (b + 2 ^ 32 - a) % 2 ^ 32 < 2 ^ 31)
/-- The latest GEN of a home and partition that a TLB has received in an invalidation. -/
def Tlb.latest (t : Tlb) (home part : Nat) : Option Nat := Assoc.find t.gens (home * 16 + part)
/-- A fill is stale (spec/15 R321 rule 4). -/
def Tlb.stale (t : Tlb) (f : Fill) : Bool :=
  match t.latest f.home f.part with
  | some g => genOlder f.gen g
  | none => false
/-- The entry that a fill brings. -/
def fillEntry (f : Fill) : TlbEntry := { part := f.part, home := f.home, w0 := f.w0, w1 := f.w1, w2 := f.w2, ctx := f.ctx }
/-- TLB_FILL (spec/15 R321 rules 3 and 4, R320): a fill that carries an older GEN is discarded, and the access asks again. An answer `no
entry` serves the asker that waits for it and no later access; with an entry the asker waits for no other walk of that page. -/
def execTlbFill (tlb : Nat) (fill : Fill) (s : State) : Host.Outcome State Fault Refusal :=
  .next (
    if (s.tlb tlb).stale fill then s
    else if fill.w0 = 0 then
      (if fill.by_ = 0 then s else s.onTlb tlb (fun t => { t with answers := t.answers ++ [(fill.part, fill.w1, fill.by_)] }))
    else (s.onTlb tlb (fun t => t.install (tlbRoom tlb) (fillEntry fill))).unask fill.by_ tlb (fillEntry fill).covers)

/-- The entries of a TLB that an invalidation drops (spec/13 R281, spec/15 R321 rule 5): one that carries a GEN concerns the
entries of its home. -/
def Tlb.dropped (t : Tlb) (inv : Invalidation) : List TlbEntry :=
  t.entries.filter (fun e => e.matches inv.part inv.va inv.how && (inv.gen.isNone || e.home == inv.home))
/-- A TLB after an invalidation: the entries are gone, a GEN is noted, and answers on their way are asked again. -/
def Tlb.invalidated (t : Tlb) (inv : Invalidation) : Tlb :=
  { entries := t.entries.filter (fun e => !(t.dropped inv).contains e)
    gens := match inv.gen with
      | some g => Assoc.set t.gens (inv.home * 16 + inv.part) g
      | none => t.gens
    answers := t.answers.filter (fun a => a.1 != inv.part) }
/-- A source number is one of the units that a TLB serves: those of a tile, or a Fathom engine. -/
def servedBy (tlb src : Nat) : Bool :=
  let unit := src % 16
  let gt := src % 4096 / 16
  if tlb < 256 then gt == tlb else gt == (tlb - 256) / 16 * 64 + 56 + (tlb - 256) % 16 / 8 && unit == (tlb - 256) % 8
/-- A request has been performed, or is parked at another module's ingress port (spec/15 R322). -/
def Request.settled (r : Request) : Bool := r.phase == .performed || r.phase == .accepted
/-- The accesses that a TLB translated with entries it drops, and that have not been performed (spec/15 R322): requests, and the
memory entries of the vector unit, whose lanes may have used any entry. -/
def State.pendingWith (s : State) (tlb : Nat) (drop : List TlbEntry) : List (Nat × Nat) :=
  if drop.isEmpty then []
  else
    (s.requests.filter (fun r => r.foreign.isNone && servedBy tlb r.src && !r.settled && bits r.addr 63 56 == 0 &&
      drop.any (fun e => e.part == r.part && e.covers r.addr))).map (fun r => (0, r.id)) ++
    (if 256 ≤ tlb then [] else [0, 1, 2, 3].flatMap (fun i =>
      let t := s.slot (tlb * 4 + i)
      ((t.vq ++ t.vbound).filter (fun e => e.op.isMemory && !e.targets.isEmpty)).map (fun e => (tlb * 4 + i + 1, e.serial))))
/-- An access that an acknowledgement waits for is still to be performed. -/
def State.stillPending (s : State) (w : Nat × Nat) : Bool :=
  match w.1 with
  | 0 => s.requests.any (fun r => r.id == w.2 && !r.settled)
  | g + 1 => ((s.slot g).vq ++ (s.slot g).vbound).any (fun e => e.serial == w.2)
/-- Acknowledgements that a TLB.INV no longer waits for are struck off its wait, also while a handler runs (spec/15 R322). -/
def State.strike (s : State) (g serial n : Nat) : State :=
  let f := fun (w : Option Wait) => match w with
    | some (.tlb left) => some (Wait.tlb (left.erase n))
    | o => o
  if (s.slot g).waitSerial ≠ serial && (s.slot g).wait.isSome then s
  else (s.onSlot g (fun t => { t with wait := f t.wait, resume := f t.resume })).post (.waitComplete g)
/-- An event that is an invalidation for the same issuer of another package. -/
def Instr.invalidates (src serial : Nat) : Instr → Bool
  | .tlbInvalidation _ inv => inv.slot == noSlot + src && inv.serial == serial
  | _ => false
/-- A TLB acknowledges (spec/15 R322): to the slot of this module, or, once every TLB has, to the issuer's package with a packet of
kind 0x09 (log 24). -/
def State.acknowledge (s : State) (tlb : Nat) (inv : Invalidation) : State :=
  if inv.slot < noSlot then s.strike inv.slot inv.serial (tlb + 1024 * inv.home)
  else
    let src := inv.slot - noSlot
    if (s.agenda ++ s.deferred).any (Instr.invalidates src inv.serial) then s
    else s.sendPacket { ctlPacket 0x09 (s.mgmt.package * 4096 + 50 * 16) inv.part (src / 4096) 0 (wordN inv.serial) [] with dest := src }
/-- TLB_INVALIDATION (spec/15 R321, R322): the entries are dropped when it arrives; the acknowledgement follows once every access
that they translated has been performed or is parked. -/
def execTlbInvalidation (tlb : Nat) (inv : Invalidation) (s : State) : Host.Outcome State Fault Refusal :=
  .next (
    let first := inv.waits.isNone
    let left := (inv.waits.getD (s.pendingWith tlb ((s.tlb tlb).dropped inv))).filter s.stillPending
    let s := if first then s.onTlb tlb (fun t => t.invalidated inv) else s
    if left.isEmpty then s.acknowledge tlb inv else s.defer (.tlbInvalidation tlb { inv with waits := some left }))
/-- An invalidation of another package's TLB.INV with SCOPE 2 (spec/15 R321 rule 5): every home it names advances here, and every
tile and Fathom TLB of the module drops what matches. -/
def State.foreignInvalidate (s : State) (src part serial : Nat) (va how : Word) : State :=
  let homes := if testW how 4 then [0, 1, 2, 3] else [shardOf va]
  let tlbs := [0, 1, 2, 3].flatMap (fun d => dieTlbs d false)
  homes.foldl (fun s h =>
    let s := s.advanceHome part h va how
    (tlbs.foldl (fun s n => s.post (.tlbInvalidation n
      { slot := noSlot + src, part := part, home := h, gen := some (s.gen h part), va := va, how := how, serial := serial })) s).post
      (.parkedRetry part h)) s

/-- The stopped engine operations of a partition whose address a home serves retry (spec/15 R333). -/
def State.retryEngines (s : State) (part home : Nat) : State :=
  (s.tiles.flatMap (fun e => (List.range 8).map (fun g => (e.1, g)))).foldl (fun s q =>
    match s.headCmd q.1 q.2 with
    | some c =>
      (match c.stop with
       | some e => if c.part = part ∧ shardOf e.va = home then s.retryEngine q.1 q.2 else s
       | none => s)
    | none => s) s

end Sys2Proof.Machine
end

