-- ==== Sys2Proof/Machine/Ingress.lean ====
section
/-! DEFINITION. Packets between modules: flows, resends and notices (spec/16 R336 to R348), guards at a UALink port (spec/17 R360, R361,
R363), and accesses that arrive from other modules (spec/15 R327 to R333). -/

namespace Sys2Proof
open Machine

/-- A reserved value or a non-zero reserved field (spec/16 R337), or more data than a packet carries. -/
def Packet.malformed (p : Packet) : Bool :=
  !(decide (1 ≤ p.kind ∧ p.kind ≤ 0xA) || decide (0x10 ≤ p.kind ∧ p.kind ≤ 0x12)) || p.reserved != 0 || decide (256 < p.data.length) ||
    decide (3 < p.cls ∨ 4 < p.beats ∨ 32 < p.ilen)
/-- The SEQ of a packet as a number that wraps at 2^16. -/
def Packet.number (p : Packet) : BitVec 16 := BitVec.ofNat 16 p.seq
/-- An access as its packet describes it: what it does, and its bytes. -/
def Packet.access (p : Packet) : AccKind :=
  match p.kind with
  | 2 => .write
  | 3 => .atomic (bits p.aux 5 0)
  | _ => .read
/-- Bytes of the access. -/
def Packet.size (p : Packet) : Nat :=
  match p.kind with
  | 2 => p.data.length
  | 3 => bits p.aux 11 6
  | _ => bits p.aux 15 0
/-- The access was made in SUPER mode (log 24). -/
def Packet.super (p : Packet) : Bool := testW p.aux 63
/-- A packet of a source is later than another of the same flow: SEQ wraps at 2^16, and a flow has at most 2^15 packets on their way
(spec/16 R336). -/
def Packet.after (p q : Packet) : Bool := p.number != q.number && decide ((p.number - q.number).toNat < 2 ^ 15)
/-- The runs of bytes that the access touches, by their offsets from ADDR. -/
def Packet.runs (p : Packet) : List (Nat × Nat) := if p.enable.isEmpty then [(0, p.size)] else p.enable
/-- The access waits behind one that is parked or returned (spec/15 R329, R331). -/
def Packet.behind (p q : Packet) : Bool :=
  p.src == q.src && (p.rel || decide (p.addr.toNat < q.addr.toNat + q.size ∧ q.addr.toNat < p.addr.toNat + p.size))
/-- ACC of a fault record (spec/15 Table 15.5). -/
def Packet.acc (p : Packet) : Nat :=
  (match p.kind with
   | 1 => 1
   | 2 => 2
   | _ => 7) + 8 * bit p.rel + 16 * bit p.super
/-- The tile whose guard a packet must pass (spec/17 R360): that of a window address, of a deposit, a message or a barrier word. -/
def Packet.guardTile (p : Packet) : Option Nat :=
  match p.kind, p.cls with
  | 4, 3 => some (p.dest % 4096 / 16)
  | 5, _ => some (p.dest % 4096 / 16)
  | 6, 3 => some (bits p.addr 37 30)
  | 1, _ | 2, _ | 3, _ => (match classify p.addr with
    | .window _ gt _ => some gt
    | _ => none)
  | _, _ => none
/-- The head that remains of a trimmed packet (spec/16 R343). -/
def Packet.head (p : Packet) : Packet := { p with trim := true, cls := 0, data := [] }

end Sys2Proof

namespace Sys2Proof.Machine

/-- A UALink port. -/
def State.port (s : State) (n : Nat) : Port := vget s.ports n
/-- A UALink port changed. -/
def State.onUalink (s : State) (n : Nat) (f : Port → Port) : State := { s with ports := vset s.ports n (f (s.port n)) }
/-- The die of a port (spec/16 R348). -/
def portDie (n : Nat) : Nat := n / 4 % 4
/-- The number by which this package is named as a destination. -/
def State.here (s : State) : Nat := s.mgmt.package * 4096
/-- The accept notice of a class 3 packet, or of a decrement that a guard drops (spec/16 R342, spec/17 R361); POIS says that the
access was refused (spec/15 R330; log 24). -/
def State.notice (s : State) (port : Nat) (p : Packet) (perf refused : Bool) : State := s.respond port p 0x12 0 perf refused []
/-- A resend request for a packet (spec/16 R344). -/
def State.askResend (s : State) (port : Nat) (p : Packet) (seq : Nat) : State := s.respond port { p with seq := seq } 0x11 0 false false []

/-- A packet that has entered is dropped at a guard (spec/17 R360). -/
def State.guardRecord (s : State) (p : Packet) (reason gpos : Nat) : State := s.guardLogged p.kind reason gpos p.src p.part p.dest p.addr
/-- What the sender of a dropped packet sees (spec/17 R361). The notice of a dropped store says so in a byte, by which a completion record
is counted (spec/09 R203; log 24). -/
def State.guardOutcome (s : State) (port : Nat) (p : Packet) : State :=
  match p.kind with
  | 0x01 | 0x03 | 0x06 => s.reply port p [] true
  | 0x02 => s.respond port p 0x12 0 true false [1]
  | 0x04 | 0x07 => s.notice port p true false
  | 0x05 => (s.notice port p true false).reply port p (toBytes 8 1) false
  | _ => s

/-- The flow of a packet that arrives from another package. A flow that this module has not seen begins where its source
stands. -/
def State.inbound (s : State) (p : Packet) : PacketFlow :=
  (s.flow p.src s.here).getD
    { src := p.src, dest := s.here, next := 0, retry := [], accepted := p.number, goBack := none }
/-- A packet of class 3 that has entered waits for its unit. -/
def Instr.waitsIn (src : Nat) (seq : Option Nat) : Instr → Bool
  | .ualinkIngress _ q => q.iport != 0xFF && q.cls == 3 && q.src == src && (seq.isNone || seq == some q.seq)
  | _ => false
/-- What a packet that has been accepted already is answered (spec/16 R342, R344): the reply is a load's or an atomic's notice, and its
bytes, which the first reply brought, are free values here; a store's says whether it has been performed, and nothing is said while it
waits for its unit. -/
def State.answerAgain (s : State) (port : Nat) (p : Packet) : State :=
  if (s.agenda ++ s.deferred).any (Instr.waitsIn p.src (some p.seq)) ||
      s.requests.any (fun r => r.foreign.any (fun q => q.2.src == p.src && q.2.seq == p.seq)) then s
  else if (s.port port).parked.any (fun q => q.packet.src == p.src && q.packet.seq == p.seq) then s.notice port p false false
  else if p.kind = 1 ∨ p.kind = 3 ∨ p.kind = 6 then
    let (_, s') := s.draw
    s'.reply port p ((List.range (if p.kind = 1 then p.size else 8)).map (Config.freeByte s.drawn)) false
  else s.notice port p true false
/-- A trimmed head (spec/16 R344): the flow goes back to its packet, and the source is asked to send it again; one that has been accepted
is answered again. -/
def State.trimmedHead (s : State) (port : Nat) (p : Packet) : State :=
  let f := s.inbound p
  if f.accepted ≠ p.number && decide ((f.accepted - p.number).toNat < 2 ^ 15) then s.answerAgain port p
  else (s.setFlow { f with goBack := some p.number }).askResend port p p.seq
/-- A class 3 packet is taken in its flow's order (spec/16 R336, R344; spec/15 R331): true when it is taken. A packet already
accepted is discarded and answered again; a gap, or go-back, discards it until the packet awaited comes. -/
def State.takeSeq (s : State) (port : Nat) (p : Packet) : Bool × State :=
  let f := s.inbound p
  let discard := s.onUalink port (fun q => { q with discards := satInc q.discards })
  if (s.port port).returned.any (fun q => q.src == p.src && q.seq == p.seq) then
    (true, s.onUalink port (fun q => { q with returned := q.returned.filter (fun r => !(r.src == p.src && r.seq == p.seq)) }))
  else if p.number = f.accepted then (true, s.setFlow { f with accepted := f.accepted + 1, goBack := none })
  else if (f.accepted - p.number).toNat < 2 ^ 15 then (false, discard.answerAgain port p)
  else match f.goBack with
    | some _ => (false, discard)
    | none => (false, (discard.setFlow { f with goBack := some f.accepted }).askResend port p f.accepted.toNat)

/-- Where an access lands (spec/15 R327, R328): a target, a failure that parks it, or one that refuses it, with the FKIND. -/
inductive Landing where
  | ok (t : Target)
  | park (fkind : Nat)
  | refuse (fkind : Nat)
/-- The entry that an access finds at ingress; one whose HKIND is not 0 counts as no entry, unless it refuses. -/
def State.landing (s : State) (p : Packet) : Landing :=
  match classify p.addr with
  | .window _ gt off => .ok (.tile gt off)
  | .bad => .refuse 1
  | .virtual =>
    let outcome := match s.window p.part p.super p.addr with
      | some x => x
      | none =>
        match (match (s.tlb (320 + shardOf p.addr)).lookup p.part p.addr with
          | some e => some e
          | none => (s.walk p.part p.addr).1) with
        | none => .fault 0x0B 1 false
        | some e => if bits e.w1 15 14 != 0 && !testW e.w0 1 then .fault 0x0B 1 false else e.check p.part p.super p.access p.addr
    match outcome with
    | .ok t => .ok t
    | .miss => .park 1
    | .fault c k refuse => if c = 0x0D || c = 0x04 || refuse then .refuse k else .park k
/-- What that lookup leaves behind (spec/15 R313, R320). -/
def State.landed (s : State) (p : Packet) : State := if classify p.addr = .virtual then s.walked p.part p.addr else s
/-- An Ingress Fault record (spec/15 R332): DISP, FID and queue entry. -/
def State.ingressRecord (s : State) (port : Nat) (p : Packet) (fkind disp : Nat) (fid : BitVec 32) (entry : Nat) : State :=
  s.appendLog p.part (s.faultRecord 0x12 fkind p.acc disp p.src p.addr 0 fid 0 port entry 0 p.part)
/-- An access refused at ingress (spec/15 R330). -/
def State.refuseAccess (s : State) (port : Nat) (p : Packet) : State :=
  if p.kind = 2 then s.notice port p true true else s.reply port p [] true
/-- An access returned for resend (spec/15 R331, spec/16 R343): nothing is logged. -/
def State.returnAccess (s : State) (port : Nat) (p : Packet) : State :=
  let s := s.onUalink port (fun q => { q with returned := q.returned ++ [p], trims := satInc q.trims })
  (s.countDie (portDie port) 8).askResend port p p.seq
/-- An access put in the port's fault queue (spec/15 R328, R331): with `fid` none it takes the next FID and is logged; `fkind` is 0
for one that only waits behind another. -/
def State.park (s : State) (port : Nat) (p : Packet) (fkind : Nat) (fid : Option Nat) : State :=
  let q := s.port port
  if 64 ≤ q.parked.length ∨ 16 ≤ (q.parked.filter (fun f => f.packet.part == p.part)).length then s.returnAccess port p
  else
    let entry := ((List.range 64).find? (fun i => !q.parked.any (fun f => f.entry == i))).getD 0
    let (n, s) := match fid with
      | some n => (n, s)
      | none =>
        let r := s.nextFid p.part
        (r.1.toNat, r.2.ingressRecord port p fkind 0 r.1 entry)
    (s.onUalink port (fun q => { q with parked := q.parked ++ [{ entry := entry, packet := p, fid := n, step := fkind }] })).notice port p
      false false
/-- The bytes that an access reads at its owner, and the poison mark of those that it touches. -/
def State.readRuns (s : State) (t : Target) (p : Packet) : Bytes × Bool :=
  ((s.ownerRead t p.size).1, p.runs.any (fun r => (s.ownerRead (t.shift r.1) r.2).2))
/-- The bytes that an access writes at its owner. -/
def State.writeRuns (s : State) (t : Target) (p : Packet) : State :=
  p.runs.foldl (fun s r =>
    let bs := (p.data.drop r.1).take r.2
    match t with
    | .tile _ off => if 0x02000000 ≤ off then s.ownerWrite t bs else s.writeTarget (t.shift r.1) bs p.pois
    | _ => s.writeTarget (t.shift r.1) bs p.pois) s
/-- The partition of an access that has entered at a port has a time slot on every framed unit between the port and its target (spec/17
R364; log 34). -/
def State.carries (s : State) (port part : Nat) (t : Target) : Bool :=
  (match t with
   | .dram d off _ => pathUnits (diePath (portDie port) d) ++ [(1, d * 32 + off / 256 % 32)]
   | .tile g _ => pathUnits (diePath (portDie port) (dieOf g))
   | _ => []).all (fun u => s.framed part u.1 u.2)
/-- An access performed at its owning unit (spec/04 R86, spec/16 R342): a reply, or a notice with PERF = 1; it waits for a time slot and for a
line that the host holds. -/
def State.serve (s : State) (port : Nat) (p : Packet) (t : Target) : State :=
  if !s.carries port p.part t then s.defer (.ualinkIngress port { p with iport := port })
  else match s.snoop (s.heldLines t p.size) (p.kind != 1) with
  | some s => s.defer (.ualinkIngress port { p with iport := port })
  | none =>
    match p.kind with
    | 1 => s.reply port p (s.readRuns t p).1 (s.readRuns t p).2
    | 2 => (s.writeRuns t p).notice port p true false
    | _ =>
      let old := s.readTarget t p.size
      let f := s.atomicAt p.part (bits p.aux 5 0) p.size (fieldW p.data 0 8) (fieldW p.data 8 8) old.1
      let s := if f.2.2 then s.countDie t.die 4 else s.writeTarget t f.1 old.2
      s.reply port p (toBytes 8 f.2.1.toNat) old.2
/-- An access that arrives (spec/15 R328, R329): it waits behind an earlier access of its source, or is translated. -/
def State.arrive (s : State) (port : Nat) (p : Packet) : State :=
  if (s.port port).returned.any (fun q => p.behind q && p.after q) then s.returnAccess port p
  else match (s.port port).parked.reverse.find? (fun f => p.behind f.packet) with
    | some f => s.park port p 0 (some f.fid)
    | none =>
      match s.landing p with
      | .ok t => (s.landed p).serve port p t
      | .park k => (s.landed p).park port p k none
      | .refuse k => ((s.landed p).ingressRecord port p k 1 0 0xFF).refuseAccess port p
/-- A parked access leaves its entry. -/
def State.unpark (s : State) (port entry : Nat) : State :=
  s.onUalink port (fun q => { q with parked := q.parked.filter (fun f => f.entry != entry) })
/-- A parked access retries its translation (spec/15 R333). -/
def State.retryParked (s : State) (port : Nat) (f : Parked) : State :=
  let s' := s.landed f.packet
  match s.landing f.packet with
  | .ok t => (s'.unpark port f.entry).serve port f.packet t
  | .refuse k => ((s'.unpark port f.entry).ingressRecord port f.packet k 2 0 f.entry).refuseAccess port f.packet
  | .park k =>
    if k = f.step then s'
    else
      let r := s'.nextFid f.packet.part
      (r.2.ingressRecord port f.packet k 0 r.1 f.entry).onUalink port (fun q => { q with parked := q.parked.map (fun g =>
        if g.entry == f.entry then { g with fid := r.1.toNat, step := k } else g) })
/-- An access that has left its entry waits for a line that the host holds, and one of its source waits behind it. -/
def State.heldBack (s : State) (p : Packet) : Bool :=
  s.deferred.any (fun i => match i with
    | .ualinkIngress _ q => q.iport != 0xFF && q.cls == 3 && p.behind q
    | _ => false)
/-- The parked accesses of a port retry in arrival order (spec/15 R329, R333): those whose address the home serves, and those that
only waited behind an access that has gone. One behind an access that has left its entry and still waits for its unit waits after it. -/
def State.retryPort (s : State) (part home port : Nat) : State :=
  (s.port port).parked.foldl (fun s f =>
    let earlier := ((s.port port).parked.takeWhile (fun g => g.entry != f.entry))
    if f.packet.part ≠ part ∨ earlier.any (fun g => f.packet.behind g.packet) then s
    else if s.heldBack f.packet then (s.unpark port f.entry).defer (.ualinkIngress port { f.packet with iport := port })
    else if f.step = 0 ∨ shardOf f.packet.addr = home then s.retryParked port f else s) s
/-- The TLBs have still to take the invalidation with which a home's GEN has advanced (spec/15 R321). -/
def State.invalidating (s : State) (part home : Nat) : Bool :=
  (s.agenda ++ s.deferred).any (fun i => match i with
    | .tlbInvalidation _ inv => inv.part == part && inv.home == home && inv.gen.isSome && inv.waits.isNone
    | _ => false)
/-- PARKED_RETRY (spec/15 R333): GEN has advanced at a home: stopped engine operations and parked accesses try again, once no TLB holds
what it dropped. -/
def execParkedRetry (part home : Nat) (s : State) : Host.Outcome State Fault Refusal :=
  .next (if s.invalidating part home then s.later (.parkedRetry part home)
  else (List.range 16).foldl (fun s n => s.retryPort part home n) (s.retryEngines part home))

/-- The copy of a packet in its source's retry buffer freed (spec/16 R341, R342). -/
def State.freeCopy (s : State) (src dest seq : Nat) : State :=
  match s.flow src dest with
  | some f => s.setFlow { f with retry := f.retry.filter (fun p => p.seq != seq) }
  | none => s
/-- The words of a class 1 request of this module that its reply repeats in ADDR and AUX (log 24). -/
def Request.echo (r : Request) : Option (Word × Word) :=
  match r.kind with
  | .dec h => some (if r.slot = noSlot then succAddr else 0, h)
  | .slotSave h => some (h, 1)
  | .slotRestore h how => some (h, how)
  | .guardWrite n v => some (wordN n, v)
  | _ => none
/-- A request of this module that a packet of a flow carried. -/
def State.requestOf (s : State) (src dest seq : Nat) : Option Request :=
  s.requests.find? (fun r => r.foreign.isNone && r.remote && r.src == src && r.seq.toNat == seq && r.phase != .performed && r.echo.isNone &&
    (match r.target, r.kind with
     | some t, _ => t.package == dest / 4096
     | none, .message target _ _ => target / 256 == dest / 4096
     | none, _ => bits r.addr 47 38 == dest / 4096))
/-- ACCEPT_NOTICE (spec/16 R342): the copy is freed; PERF = 1 says that a store has been performed, PERF = 0 that the access is
parked. -/
def execAcceptNotice (src dest seq : Nat) (perf : Bool) (s : State) : Host.Outcome State Fault Refusal :=
  .next (
    let s := s.freeCopy src dest seq
    match s.requestOf src dest seq with
    | none => s
    | some r =>
      if !perf then s.onRequest r.id (fun r => { r with phase := .accepted })
      else if r.kind.isStore then s.post (.replyArrival r.id 0 false) else s)

/-- The generator whose command a request serves (log 24): its tile and number, by the entry of the request. -/
def State.engineOf (s : State) (r : Request) : Option (Nat × Nat × EngineCmd) :=
  match s.headCmd (r.entry / 8) (r.entry % 8) with
  | some c => if r.src == s.engineSource (r.entry / 8) (r.entry % 8) c && r.task == c.task then some (r.entry / 8, r.entry % 8, c) else none
  | none => none
/-- A write of an engine has been dropped or refused: its operation ends with this CODE at that segment (spec/15 R330), or its record is
counted (spec/09 R203). -/
def State.engineRefused (s : State) (r : Request) (gt g : Nat) (c : EngineCmd) (code : Nat) : State :=
  let lost := ((s.requests.filter (fun q => q.src == r.src && q.task == r.task && q.entry == r.entry && decide (r.id ≤ q.id))).map (fun q =>
    match q.kind with
    | .block bs => bs.length
    | _ => 0)).sum
  let s := s.dropRequest r.id
  (if c.recorded then s.countTile gt 4
  else if c.code.isSome then s
  else s.onHead gt g (fun c => { c with done := c.done - lost, code := some code, stop := none })).post (.engineComplete gt g)
/-- A poison reply without data: a read of a unit gets no bytes (spec/17 R361). -/
def State.answerBare (s : State) (r : Request) : State :=
  (if r.kind.isPiece then s.onRequest r.id (fun q => { q with bare := true }) else s).post (.replyArrival r.id 0 true)
/-- A request that leaves the module is refused (spec/15 R330, spec/16 R356): a load's or an atomic's reply returns with poison; an
engine operation ends with CODE FAULT at that segment; a record of the command core is dropped and counted (spec/14 R295); a slot's
store makes its scope CANCELLING with status POISON. -/
def State.refused (s : State) (r : Request) : State :=
  if !r.kind.isStore then s.answerBare r
  else match s.engineOf r with
    | some (gt, g, c) => s.engineRefused r gt g c 1
    | none =>
      if s.commands.any (fun c => c.record == some r.id) then (s.post (.replyArrival r.id 0 false)).countDie (s.coreDie r.part) 3
      else s.post (.replyArrival r.id 0 true)
/-- A store has been dropped at a guard (spec/17 R361): it counts as performed, and the record of an engine or of the command core is counted
(spec/09 R203, spec/14 R295). -/
def State.dropped (s : State) (r : Request) : State :=
  match s.engineOf r with
  | some (gt, g, c) => if c.recorded then s.engineRefused r gt g c 1 else s.post (.replyArrival r.id 0 false)
  | none =>
    (s.post (.replyArrival r.id 0 false)).countDie (s.coreDie r.part) 3 (bit (s.commands.any (fun c => c.record == some r.id)))

/-- A reply reaches the unit that sent the request (spec/16 R345), which takes its value or its bytes. -/
def State.takeReply (s : State) (p : Packet) : State :=
  let s := s.freeCopy p.dest p.src p.seq
  let v := ofBytes p.data
  match s.requests.find? (fun r => r.foreign.isNone && r.remote && r.src == p.dest && r.phase != .performed && r.echo.isSome &&
      r.echo == some (p.addr, p.aux)) with
  | some r =>
    (match r.kind with
     | .guardWrite _ _ => if r.level ≤ 1 then s.post (.replyArrival r.id v p.pois) else s.onRequest r.id (fun q => { q with level := q.level - 1 })
     | _ => s.post (.replyArrival r.id v p.pois))
  | none =>
    (match s.requestOf p.dest p.src p.seq with
     | some r => if r.kind.isStore then s else if p.pois && p.data.isEmpty then s.answerBare r else s.post (.replyArrival r.id v p.pois)
     | none => s)

/-- A request that a packet brings, held until its unit answers (spec/10 R228). -/
def State.foreignRequest (s : State) (port : Nat) (p : Packet) (kind : ReqKind) : Nat × State :=
  let (id, s) := s.fresh
  (id, { s with requests := s.requests ++
    [{ id := id, kind := kind, phase := .left, slot := noSlot, task := 0, scope := noScope, part := p.part, src := s.here + 50 * 16
       super := p.super, addr := p.addr, target := none, bank := .main, dest := none, acq := false, rel := p.rel, level := 0
       orphan := false, image := none, remote := false, seq := 0, result := none, foreign := some (port, p) }] })
/-- A Tun request of class 1 (log 24): DEC, SLOT.SAVE and SLOT.RESTORE name a task by its handle, as does the decrement of a SUCC; GUARD.WR
carries no data. -/
def State.tunRequest (s : State) (port : Nat) (p : Packet) : State :=
  if p.data.isEmpty then
    let s := s.onPart p.part (fun q => { q with permits := vset q.permits p.addr.toNat p.aux })
    s.reply port p (toBytes 8 0) false
  else if p.addr = 0 || p.addr = succAddr then
    let r := s.foreignRequest port p (.dec p.aux)
    r.2.post (.decrementMessage { target := p.aux, mark := byteAt p.data 8, epos := if p.addr = 0 then 0xFF else byteAt p.data 9, src := p.src
                                  owner := some (p.part, bits (fieldW p.data 0 8) 31 0), reply := some r.1, told := p.addr = 0 })
  else if p.aux = 1 then
    let r := s.foreignRequest port p (.slotSave p.addr)
    r.2.slotSave r.1 p.part 0 p.addr
  else
    let r := s.foreignRequest port p (.slotRestore p.addr p.aux)
    r.2.slotRestore r.1 p.part p.addr p.aux
/-- A barrier request of another package (spec/10 R246, R247; log 24): the reply, and the word. -/
def foreignBarrier (w : BarrierWord) (p : Packet) : Word × BarrierWord :=
  let code := bits p.aux 2 0
  let arrived : Option (BitVec 16) := if testW p.aux 19 then some (BitVec.ofNat 16 (bits p.aux 18 3)) else none
  let levels : Vector Byte 8 := Vector.ofFn (fun i => byteAt p.data i.val)
  if !w.valid levels then (failure 15, w)
  else match code with
    | 0 => (wordN w.phase, w)
    | 1 => if arrived == some (BitVec.ofNat 16 w.phase) then (failure 13, w) else (wordN w.phase, { w with arrived := w.arrived + 1 }.trip)
    | _ => (0, w.leave arrived (code == 5))
/-- An inbox message of another package (spec/09 R223, R224): queued, refused when the inbox has no owner, held while it is full. -/
def State.messageIn (s : State) (port gt : Nat) (p : Packet) : State :=
  let ib := (s.tile gt).inbox
  let done := fun (s : State) (v : Nat) => (s.notice port p true false).reply port p (toBytes 8 v) false
  match ib.owner with
  | none => done s 1
  | some o =>
    if s.lostDie (dieOf gt) then done s 1
    else if inboxRoom gt ≤ ib.arrived - ib.taken then s.defer (.ualinkIngress port { p with iport := port })
    else done (s.deposit gt p.data p.pois o) 0
/-- The token that a channel deposit carries (spec/16 Table 16.2; log 24): its kind, whether its tail is there, and the entry and the index of its
first beat. -/
def depositToken (p : Packet) : Token :=
  { kind := (match bits p.aux 1 0 with
      | 0 => .data
      | 1 => .message
      | 2 => .endTok
      | _ => .endCancelled)
    bytes := p.data, tail := testW p.aux 2, bad := p.pois, place := some (bits p.aux 9 3, bits p.aux 17 10) }
/-- The receiving endpoint of a tile that a deposit's channel is bound to (spec/02 R51). -/
def State.depositEnd (s : State) (gt : Nat) (p : Packet) : Option Nat :=
  (List.range 16).find? (fun c => (s.chan gt c).side == .receiver && (s.chan gt c).chan == bits p.aux 33 18 &&
    (s.chan gt c).serial % 2 ^ 30 == bits p.aux 63 34)
/-- A channel deposit of another package: beats of a token, or a control token, are in the queue when the notice leaves (spec/16 R342). One for a
channel that is no longer bound is discarded, but a control token reaches the endpoint of a pre-empted receiver as it was saved. -/
def State.depositIn (s : State) (port gt : Nat) (p : Packet) : State :=
  let tok : Token := depositToken p
  let s : State := match s.depositEnd gt p with
    | some c => s.takeToken gt c tok
    | none =>
      if tok.kind = .endTok ∨ tok.kind = .endCancelled then
        s.onParked p.part (bits p.aux 63 34) (bits p.aux 33 18) .receiver (fun q =>
          if q.state == .opened then q.takeEnd tok.kind s.cycle else q)
      else s
  s.notice port p true false
/-- A residency record of another package reaches its S-tile (spec/09 R206; log 24): the reply says 7 when it is refused. -/
def State.residencyIn (s : State) (port gt : Nat) (p : Packet) : State :=
  let ok := decide (p.aux.toNat < 1024) && isSTile gt && !s.lostDie (dieOf gt) && !p.pois
  let s := if ok then s.onTile gt (fun t => { t with residency := Assoc.set t.residency p.aux.toNat (fieldW p.data 0 8, fieldW p.data 8 8) }) else s
  s.reply port p (toBytes 8 (if ok then 0 else 7)) false
/-- A packet of class 3 delivered to its unit. -/
def State.deliverRequest (s : State) (port : Nat) (p : Packet) : State :=
  let gt := p.dest % 4096 / 16
  match p.kind with
  | 4 => s.depositIn port gt p
  | 5 => s.messageIn port gt p
  | 6 => if p.dest % 16 = 5 then s.residencyIn port gt p else (match s.barrierKey p.addr with
    | some k =>
      if s.poisoned k 16 then s.reply port p [] true
      else
        let r := foreignBarrier (BarrierWord.ofBytes (s.readMem k 16)) p
        (s.writeMem k r.2.bytes).reply port p (toBytes 8 r.1.toNat) false
    | none => s.reply port p [] true)
  | _ => s.arrive port p
/-- A packet of class 1 delivered (log 24). -/
def State.deliverControl (s : State) (port : Nat) (p : Packet) : State :=
  match p.kind with
  | 4 =>
    let gt := p.aux.toNat / 16
    let r := p.aux.toNat % 16
    if p.data.isEmpty then s.post (.channelBrokenNotice gt r) else s.post (.allowanceReturn gt r (ofBytes p.data))
  | 6 => if p.addr = podAddr then s.mailIn p else s.tunRequest port p
  | 7 => s.post (.decrementMessage { target := fieldW p.data 0 8, mark := byteAt p.data 8, epos := byteAt p.data 9, src := field p.data 12 4 })
  | 8 => s.post (.cancelBroadcast (handleDie p.aux) (handleEntry p.aux))
  | 9 =>
    if p.data.isEmpty then s.strike (p.dest % 4096 / 16 * 4 + p.dest % 4) p.aux.toNat (8192 + p.src / 4096)
    else s.foreignInvalidate p.src p.part (field p.data 0 8) p.addr p.aux
  | 0xA => s.post (.timestampSync (field p.data 0 8) (s.port port).delay)
  | _ => s
/-- UALINK_INGRESS (spec/15 R327; spec/16 R337, R342 to R344; spec/17 R360, R361): a packet enters at a port. A malformed one is
discarded and counted; one whose PART is not configured, or whose tile belongs to another partition, is dropped and logged; a
trimmed head asks for a resend; others go to their unit. A packet whose IPORT is set has entered before and has waited. -/
def execUalinkIngress (port : Nat) (p : Packet) (s : State) : Host.Outcome State Fault Refusal :=
  .next (
    let entered := p.iport = port
    let stranger := !(s.part p.part).configured || decide (16 ≤ p.part)
    if p.malformed then s.countDie (portDie port) 5
    else if stranger && p.cls ≠ 3 then (s.guardRecord p 2 (0x100 + port)).guardOutcome port p
    else if p.trim then (s.onUalink port (fun q => { q with trims := satInc q.trims })).trimmedHead port p
    else if p.cls = 3 then
      -- a class 3 packet waits for an earlier one of its source that has entered and waits for its unit (spec/16 R336)
      (if entered && s.deferred.any (Instr.waitsIn p.src none) then s.defer (.ualinkIngress port p)
      else if !entered && (s.agenda ++ s.deferred).any (Instr.waitsIn p.src none) then s.defer (.ualinkIngress port p)
      else
        let (taken, s) := if entered then (true, s) else s.takeSeq port p
        if !taken then s
        else if stranger then (s.guardRecord p 2 (0x100 + port)).guardOutcome port p
        else match p.guardTile with
          | some gt =>
            if (s.tile gt).part = some p.part then s.deliverRequest port p else (s.guardRecord p 1 gt).guardOutcome port p
          | none => s.deliverRequest port p)
    else if p.kind = 0x10 then s.takeReply p
    else if p.kind = 0x11 then s.post (.resendRequest p.dest (flowDest p.src) p.seq)
    else if p.kind = 0x12 then
      (if p.pois || !p.data.isEmpty then
        (match s.requestOf p.dest p.src p.seq with
         | some r => if p.pois then (s.freeCopy p.dest p.src p.seq).refused r else (s.freeCopy p.dest p.src p.seq).dropped r
         | none => s.freeCopy p.dest p.src p.seq)
       else s.post (.acceptNotice p.dest (flowDest p.src) p.seq p.perf))
    else s.deliverControl port p)

/-- ROUTER_TRIM (spec/16 R343): a class 3 packet on its way loses its payload; the head travels on in class 0. Trims are counted on
the source's die. -/
def execRouterTrim (src dest seq : Nat) (s : State) : Host.Outcome State Fault Refusal :=
  let mine := fun (p : Packet) => p.cls == 3 && p.src == src && flowDest p.dest == flowDest dest && p.seq == seq
  .next (if s.egress.any (fun e => match e with
      | .packet _ p => mine p
      | _ => false) then
    State.countDie { s with egress := s.egress.map (fun e => match e with
      | .packet n p => if mine p then .packet n p.head else e
      | e => e) } (src % 4096 / 16 / 64) 8
  else s)
/-- The port of this module at which the packets of a foreign source arrive when its destination die is not known (spec/16 R348). -/
def arrivalPort (src : Nat) : Nat := src % 4096 / 16 / 64 * 4 + src / 4096 % 4
/-- TRIMMED_HEAD_ARRIVAL (spec/16 R344): see `State.trimmedHead`. -/
def execTrimmedHeadArrival (src dest seq : Nat) (s : State) : Host.Outcome State Fault Refusal :=
  let p : Packet := { kind := 2, cls := 3, trim := true, pois := false, rel := false, perf := false, src := src, part := 0, dest := dest
                      seq := seq, eport := arrivalPort src, iport := arrivalPort src, addr := 0, aux := 0, reserved := 0, data := [] }
  .next (if flowDest dest ≠ s.here then s else s.trimmedHead (arrivalPort src) p)
/-- RESEND_REQUEST (spec/16 R344): the source sends again, in SEQ order and from the packet named onward, what its retry buffer
holds of the flow. -/
def execResendRequest (src dest seq : Nat) (s : State) : Host.Outcome State Fault Refusal :=
  .next (match s.flow src dest with
    | none => s
    | some f =>
      (f.retry.filter (fun p => decide ((p.number - BitVec.ofNat 16 seq).toNat < 2 ^ 15))).foldl (fun s p =>
        ((s.emit (.packet (portOf p) p)).onUalink (portOf p) (fun q => { q with resends := satInc q.resends })).countDie
          (src % 4096 / 16 / 64) 9) s)
/-- FOREIGN_UALINK_REQUEST (spec/16 R347): an error response, counted at the port. -/
def execForeignUalinkRequest (port : Nat) (s : State) : Host.Outcome State Fault Refusal :=
  .next ((s.onUalink port (fun q => { q with foreign := satInc q.foreign })).emit (.ualinkError port))

end Sys2Proof.Machine
end

