-- ==== Sys2Proof/Machine/HostLink.lean ====
section
/-! DEFINITION. The host link and the global timestamp (spec/16 R350 to R356). -/

namespace Sys2Proof.Machine

/-- The die and DRAM offset that the HDM decoder gives a host physical address (spec/16 R353): none outside its range. -/
def HostLink.maps (h : HostLink) (hpa : Nat) : Option (Nat × Nat) :=
  if h.hdmBase ≤ hpa ∧ hpa < h.hdmBase + h.hdmSize then
    some ((hpa - h.hdmBase) / Config.dramBytes, (hpa - h.hdmBase) % Config.dramBytes)
  else none
/-- An event of the host link counted: an error of a request, or an access to the reserved range. -/
def State.countHost (s : State) (refused : Bool) : State :=
  { s with host := if refused then { s.host with refused := satInc s.host.refused } else { s.host with errors := satInc s.host.errors } }
/-- Some byte of a range lies in what is reserved to the ROM (spec/15 R403, spec/16 R353). -/
def State.reservedRange (s : State) (die off n : Nat) : Bool := decide ((s.die die).rsvLo < off + n)
/-- The 64-byte lines of a range. -/
def linesOf (off n : Nat) : List Nat := (List.range ((off + n - 1) / 64 + 1 - off / 64)).map (fun i => off / 64 + i)
/-- Entries of a die's directory (spec/16 R354). -/
def directoryRoom : Nat := 1048576
/-- Lines that the host now holds enter the directory (spec/16 R354); none when a line must be displaced first, for which a snoop is
out. -/
def State.hold (s : State) (die : Nat) (lines : List Nat) : State × Bool :=
  let fresh := lines.filter (fun l => !(s.die die).directory.contains l)
  let surplus := (s.die die).directory.length + fresh.length - directoryRoom
  if surplus = 0 then (s.onDie die (fun d => { d with directory := d.directory ++ fresh }), true)
  else
    match s.snoop (((s.die die).directory.take surplus).map (fun l => (die, l))) true with
    | some s => (s, false)
    | none => (s, false)
/-- HOST_MEM_READ (spec/16 R353, R354; spec/18 R381): the bytes as stored, read without a key; the host then holds the lines. A lost
die and the reserved range answer with poison. Outside the decoder's range there is no such address. -/
def execHostMemRead (hpa size : Nat) (s : State) : Host.Outcome State Fault Refusal :=
  match s.host.maps hpa with
  | none => .fault (.outsideHdm hpa)
  | some (die, off) =>
    .next (
      if s.mgmt.state != .ready then s
      else if s.lostDie die || !(s.die die).good then s.emit (.hostCompletion hpa (zeros size) true)
      else if s.reservedRange die off size then (s.countHost true).emit (.hostCompletion hpa (zeros size) true)
      else match s.hold die (linesOf off size) with
        | (s, false) => s.defer (.hostMemRead hpa size)
        | (s, true) => s.emit (.hostCompletion hpa (s.readKeyed (dramKey die off) size 0) (s.poisoned (dramKey die off) size)))
/-- HOST_MEM_WRITE (spec/16 R353): performed at the home die cache, before its completion; a write to a lost die or to the reserved
range is dropped. -/
def execHostMemWrite (hpa : Nat) (data : Bytes) (s : State) : Host.Outcome State Fault Refusal :=
  match s.host.maps hpa with
  | none => .fault (.outsideHdm hpa)
  | some (die, off) =>
    .next (
      if s.mgmt.state != .ready then s
      else if s.lostDie die || !(s.die die).good then s.emit (.hostCompletion hpa [] false)
      else if s.reservedRange die off data.length then (s.countHost true).emit (.hostCompletion hpa [] false)
      else (s.writeKeyed (dramKey die off) data 0 false).emit (.hostCompletion hpa [] false))
/-- BACK_INVALIDATE_RESPONSE (spec/16 R354): the host's modified data is performed first, the line leaves the directory (log 33),
and the accesses that waited go on. -/
def execBackInvalidateResponse (die line : Nat) (data : Option Bytes) (s : State) : Host.Outcome State Fault Refusal :=
  .next (
    if !(s.die die).snooped.contains line then s
    else
      let s := match data with
        | some bs => if s.lostDie die then s else s.writeKeyed (dramKey die (line * 64)) (padTo 64 bs) 0 false
        | none => s
      let s := s.onDie die (fun d => { d with
        snooped := d.snooped.filter (· != line), directory := d.directory.filter (· != line) })
      { s with agenda := s.agenda ++ s.deferred, deferred := [] })
/-- A host request that ends without its data (spec/16 R356): the outcome of a refusal at ingress, counted at the host link. The writes that
a zero-length read was to confirm are treated as dropped. -/
def State.hostFailure (s : State) (id : Nat) : State :=
  let s := s.countHost false
  match s.requests.find? (fun r => r.id == id && r.remote && r.phase != .performed) with
  | some r =>
    if r.kind == .confirm then
      (s.requests.filter (fun q => q.toHost && q.kind.isStore && q.src == r.src && decide (q.id < id))).foldl State.refused (s.dropRequest id)
    else s.refused r
  | none => s
/-- HOST_ERROR_COMPLETION (spec/16 R356). -/
def execHostErrorCompletion (id : Nat) (s : State) : Host.Outcome State Fault Refusal := .next (s.hostFailure id)
/-- HOST_COMPLETION_TIMEOUT (spec/16 R356): no completion within 50 µs. -/
def execHostCompletionTimeout (id : Nat) (s : State) : Host.Outcome State Fault Refusal := .next (s.hostFailure id)

/-- The timestamp sent on every port, a packet of class 1 (spec/16 R351, Table 16.1): it names no package, since it goes to whatever module
the port leads to (log 24). -/
def State.sendTimestamps (s : State) : State :=
  (List.range 16).foldl (fun s n => if (s.port n).trained then
    s.emit (.packet n (sized { ctlPacket 0x0A (s.here + (portDie n * 64 + 50) * 16) 0 0 0 0 (toBytes 8 s.now.toNat) with eport := n })) else s) s
/-- The module takes the pod's time (spec/16 R351): it is locked within 8 ns; it may step forward once before its first lock, which a
free value decides (log 35), and otherwise corrects its rate. -/
def State.takeTime (s : State) (target : Word) : State :=
  let err : Int := (target.toNat : Int) - s.now.toNat
  if -8 ≤ err ∧ err ≤ 8 then { s with drift := err, locked := true, stepped := true }
  else if 0 < err && !s.stepped then
    let (v, s) := s.draw
    if testW v 0 then { s with now := target, drift := 0, locked := true, stepped := true }
    else { s with drift := err, locked := false }
  else { s with drift := err, locked := false }
/-- TIMESTAMP_SYNC (spec/16 R351): the master's value plus the delay of its path. The master, whose own time it is, sends it. -/
def execTimestampSync (master : Nat) (delay : Nat) (s : State) : Host.Outcome State Fault Refusal :=
  .next (if s.mgmt.isMaster then State.sendTimestamps { s with locked := true, stepped := true } else s.takeTime (wordN (master + delay)))
/-- LINK_DELAY_ECHO (spec/16 R351): half of a round trip. -/
def execLinkDelayEcho (port roundTrip : Nat) (s : State) : Host.Outcome State Fault Refusal :=
  .next (s.onUalink port (fun q => { q with delay := roundTrip / 2 }))

end Sys2Proof.Machine
end

