-- ==== Sys2Proof/Machine/Partitions.lean ====
section
/-! DEFINITION. Configuring a partition, turns and time slots, deadlock detection, errors and the loss of a die (spec/17; spec/15
R403). -/

namespace Sys2Proof.Machine

/-- Bytes of a page-table shard, rounded up to 2 MiB (spec/15 R403). -/
def shardBytes (nb : Nat) : Nat := (2 ^ nb * 256 + 2 ^ 21 - 1) / 2 ^ 21 * 2 ^ 21
/-- Where a shard is placed on a die (spec/15 R403): in a released range that fits, else directly below the lowest range reserved. -/
def Die.shardPlace (d : Die) (need : Nat) : Option Nat :=
  let rs := d.shards.map (fun r => (r.2.1, r.2.1 + r.2.2))
  let fits := fun (a : Nat) => decide (a + need ≤ Config.dramBytes - Config.systemBytes) && rs.all (fun r => decide (a + need ≤ r.1 ∨ r.2 ≤ a))
  match (rs.map (·.2)).find? fits with
  | some a => some a
  | none => if need ≤ d.rsvLo then some (d.rsvLo - need) else none
/-- A partition's shard on a die placed and filled with zeros; its previous range is released (spec/15 R403). -/
def State.placeShard (s : State) (part nb die : Nat) : Option State :=
  if s.lostDie die || !(s.die die).good then some s
  else match (s.die die).shardPlace (shardBytes nb) with
    | none => none
    | some a =>
      let k := dramKey die a
      let s := s.clearMem k (shardBytes nb)
      let s : State := { s with keyTag := s.keyTag.filter (fun e => decide (e.1 * 16 < k ∨ k + shardBytes nb ≤ e.1 * 16)) }
      some (s.onDie die (fun d => { d with shards := d.shards.filter (fun r => r.1 != part) ++ [(part, a, shardBytes nb)] }))
/-- The four shards of a partition. -/
def State.placeShards (s : State) (part nb : Nat) : Option State :=
  [0, 1, 2, 3].foldl (fun (o : Option State) d => o.bind (fun s => s.placeShard part nb d)) (some s)
/-- DRAMRSV (spec/18 Table 18.4): RSVLO of each die, in units of 2 MiB. -/
def State.dramRsv (s : State) : Word :=
  wordN (([0, 1, 2, 3].map (fun d => (s.die d).rsvLo / 2 ^ 21 % 65536 * 2 ^ (16 * d))).sum)

/-- A tile holds a task, a grant, an engine command or a lane group (spec/17 R358). -/
def State.tileBusy (s : State) (gt : Nat) : Bool :=
  [0, 1, 2, 3].any (fun i => (s.slot (gt * 4 + i)).state != .empty || (s.slot (gt * 4 + i)).grant != Grant.none) ||
    (s.tile gt).gens.toList.any (fun q => !q.queue.isEmpty) ||
    (List.range 16).any (fun p => (s.laneUses p).any (fun u => u.1.1 == gt))
/-- Tiles that a blob no longer lists leave their partition once they hold nothing (spec/17 R358). -/
def State.dropLeaving (s : State) : State :=
  (s.tiles.map (·.1)).foldl (fun s gt =>
    match (s.tile gt).part with
    | some p => if testN (vget (s.part p).tiles (dieOf gt)).toNat (localOf gt) || s.tileBusy gt then s
      else s.onTile gt (fun t => { t with part := none })
    | none => s) s
/-- A tile joins a partition (spec/17 R358): its scratchpad, Bushel, FIFOs, latches, code store and TLB are cleared; the trap kernel of
the partition, if it has one, is in its code store (spec/13 R275). -/
def State.joinTile (s : State) (part gt : Nat) : State :=
  let s := (s.clearMem (sramKey gt 0) (2 ^ 30)).onTile gt (fun t =>
    { Tile.reset with part := some part, errors := t.errors, residency := t.residency, gens := t.gens })
  if (s.part part).trapImage = 0 then s else s.placeCode gt (part, (s.part part).trapImage, bits (s.part part).partinfo 15 0)

/-- The TILES mask of a partition blob for a die (spec/17 Table 17.1). -/
def blobTiles (b : Bytes) (die : Nat) : Nat := field b (16 + 8 * die) 8
/-- The tiles that a partition blob lists. -/
def blobTileList (b : Bytes) : List Nat :=
  [0, 1, 2, 3].flatMap (fun d => (setBits 64 (blobTiles b d)).map (fun n => d * 64 + n))
/-- A reserved field of a partition blob is not zero. -/
def partitionReserved (b : Bytes) : Bool := byteAt b 1 != 0 || field b 4 4 != 0 || !allZero ((b.drop 74).take 54)
/-- A partition blob fails its own checks (spec/17 R358, Table 17.1; spec/18 R381). -/
def State.partitionBad (s : State) (b : Bytes) : Bool :=
  let part := (byteAt b 0).toNat
  let nb := (byteAt b 2).toNat
  let ptwin := fieldW b 8 8
  let others := (List.range 16).filter (fun p => p != part && (s.part p).configured)
  let tunq := fun (d : Nat) => field b (48 + 4 * d) 4
  let cways := fun (d : Nat) => BitVec.ofNat 16 (field b (64 + 2 * d) 2)
  let fctx := BitVec.ofNat 16 (field b 72 2)
  let dies := [0, 1, 2, 3]
  decide (16 ≤ part) || decide (nb < 8 ∨ 22 < nb) || ptwin.toNat % 2 ^ 32 != 0 || bits ptwin 63 56 != 0 ||
    dies.any (fun d => bitsN (blobTiles b d) 51 48 != 0 || bitsN (blobTiles b d) 63 56 != 0) ||
    dies.any (fun d => decide (196608 < tunq d)) || (fctx == 0 && dies.any (fun d => blobTiles b d != 0)) ||
    (blobTileList b).any (fun gt =>
      s.lostDie (dieOf gt) || !(s.die (dieOf gt)).good ||
      (match (s.tile gt).part with
       | some p => p != part
       | none => s.tileBusy gt)) ||
    dies.any (fun d => decide (Config.tunEntries < tunq d + (others.map (fun p => vget (s.part p).tunq d)).sum)) ||
    others.any (fun p => (s.part p).fctx &&& fctx != 0 || dies.any (fun d => vget (s.part p).cways d &&& cways d != 0))
/-- A partition configured or reconfigured (spec/17 R358; spec/15 R321, R403): none when a shard cannot be placed. At the first
configuration its registers take their reset values, GEN is 0 and the residency tables of its S-tiles are cleared. -/
def State.configure (s : State) (b : Bytes) : Option State :=
  let part := (byteAt b 0).toNat
  let nb := (byteAt b 2).toNat
  let old := s.part part
  let first := !old.configured
  match if first || nb != old.nb then s.placeShards part nb else some s with
  | none => none
  | some s =>
    let base := if first then { Partition.reset with keys := old.keys } else old
    let s := s.onPart part (fun _ => { base with
      configured := true, nb := nb, bypass := if byteAt b 3 = 0 then 8 else (byteAt b 3).toNat, ptwin := fieldW b 8 8
      tiles := Vector.ofFn (fun d => BitVec.ofNat 64 (blobTiles b d.val))
      partinfo := wordN (bits base.partinfo 31 0 + part * 2 ^ 32)
      tunq := Vector.ofFn (fun d => field b (48 + 4 * d.val) 4)
      cways := Vector.ofFn (fun d => BitVec.ofNat 16 (field b (64 + 2 * d.val) 2)), fctx := BitVec.ofNat 16 (field b 72 2) })
    let s := if first then [0, 1, 2, 3].foldl (fun s d => s.onDie d (fun q => { q with gens := Assoc.erase q.gens part })) s else s
    let s := (blobTileList b).foldl (fun s gt => if (s.tile gt).part = some part then s else s.joinTile part gt) s
    let s := if first then (blobTileList b).foldl (fun s gt => s.onTile gt (fun t => { t with residency := [] })) s else s
    some s.dropLeaving

/-- Work that waits for a turn or a slot moves on. -/
def State.resumeDeferred (s : State) : State := { s with agenda := s.agenda ++ s.deferred, deferred := [] }
/-- FRAME_START (spec/17 R364, R365; spec/13 R281; spec/18 R390): the lend states written during an earlier frame take effect and
their replies follow, the clock step takes effect, and tiles that have emptied leave their partition. -/
def execFrameStart (s : State) : Host.Outcome State Fault Refusal :=
  .next (
    let s : State := { s with mgmt := { s.mgmt with clkstep := s.mgmt.nextStep } }
    let s := s.dropLeaving
    if s.mgmt.frameReplies.isEmpty || s.cycle / 8192 == s.mgmt.frames then s
    else
      let ids := s.mgmt.frameReplies
      let s : State := { s with mgmt := { s.mgmt with
        lend := s.mgmt.nextLend.foldl (fun l e => Assoc.set l e.1 e.2) s.mgmt.lend, nextLend := [], frameReplies := [] } }
      ids.foldl (fun s id => s.answer id 0) s)
/-- TIME_SLOT_START (spec/17 R364): a framed unit enters a time slot; traffic that waited for it moves on. Which partition the slot
serves is a function of the frame table, the lend states and the cycle count. -/
def execTimeSlotStart (_cls _unit : Nat) (s : State) : Host.Outcome State Fault Refusal := .next s.resumeDeferred
/-- ROTATION_TURN (spec/17 R359): a turn passes to the next partition, whose work then proceeds. Whose turn it is is a function of the
cycle count (log 31). -/
def execRotationTurn (_die _unit : Nat) (s : State) : Host.Outcome State Fault Refusal := .next s.resumeDeferred

/-- DEADLOCK_SNAPSHOT (spec/17 R367): a die notes its waiting slots; when the last has, the partitions' snapshots are exchanged. -/
def execDeadlockSnapshot (die : Nat) (s : State) : Host.Outcome State Fault Refusal :=
  .next (
    if s.lostDie die || !(s.die die).good then s
    else
      let mine := ((s.slots.map (·.1)).filter (fun g => dieOf (tileOfSlot g) == die)).filterMap s.waitingOf
      let s := s.onDie die (fun d => { d with previous := d.snapshot, snapshot := mine, snapshotAt := s.now })
      if die = s.lastDie then
        ((List.range 16).filter (fun p => (s.part p).configured)).foldl (fun s p => s.post (.snapshotExchange p)) s
      else s)
/-- SNAPSHOT_EXCHANGE (spec/17 R367 to R369): the dies' snapshots go to the other modules of the partition, and a closed set found in two
consecutive snapshots is reported, once. -/
def execSnapshotExchange (part : Nat) (s : State) : Host.Outcome State Fault Refusal :=
  .next ((s.judge part).tell part (Config.peerModules part) .waits (s.snapshotWords part))

/-- An error-log record (spec/17 Table 17.9): ECLASS, UNIT, die, partition, SRC, ADDR, ACK. -/
def State.errorRecord (s : State) (cls unit die part src addr : Nat) (ack : Bytes) : Bytes :=
  [BitVec.ofNat 8 cls, BitVec.ofNat 8 unit, BitVec.ofNat 8 die, BitVec.ofNat 8 part] ++ toBytes 4 (src % 2 ^ 22) ++ toBytes 8 addr ++
    toBytes 8 s.now.toNat ++ toBytes 4 1 ++ zeros 36 ++ padTo 64 ack
/-- The partition of an error's tile, or 0xFF. -/
def State.errorPart (s : State) (e : ErrorReport) : Nat :=
  if e.unit = 1 ∨ e.unit = 2 ∨ 7 ≤ e.unit then 0xFF
  else match (s.tile e.gtile).part with
    | some p => p
    | none => 0xFF
/-- PATROL_SCRUB (spec/17 R370): a granule is read and corrected, which changes no value. -/
def execPatrolScrub (_die _granule : Nat) (s : State) : Host.Outcome State Fault Refusal := .next s
/-- CORRECTED_ERROR (spec/17 R370, R377): counted, and logged; those of one unit within 1 ms merge into one record. -/
def execCorrectedError (e : ErrorReport) (s : State) : Host.Outcome State Fault Refusal :=
  .next (
    let s := s.countDie e.die 10
    let same := fun (r : Bytes) => byteAt r 0 == 1 && (byteAt r 1).toNat == e.unit && (byteAt r 2).toNat == e.die &&
      field r 4 4 == e.src % 2 ^ 22 && decide (s.now.toNat ≤ field r 16 8 + 1000000)
    if s.mgmt.errorLog.any same then
      { s with mgmt := { s.mgmt with errorLog := s.mgmt.errorLog.map (fun r =>
        if same r then r.take 24 ++ toBytes 4 (min (field r 24 4 + 1) (2 ^ 32 - 1)) ++ r.drop 28 else r) } }
    else s.logError (s.errorRecord 1 e.unit e.die (s.errorPart e) e.src e.addr []) e.die)
/-- A task is DEAD by an error in its record (spec/17 R373): killed if it had issued, and its scope is poisoned. -/
def State.recordLost (s : State) (h : Word) : State :=
  match s.taskOf h with
  | none => s
  | some r =>
    let s := s.poisonScope r.scope
    let owner := match s.scope r.scope with
      | some q => q.owner
      | none => r.scope
    match r.state, r.loc with
    | .running, some g => s.killOne g owner
    | _, _ => s.buryTask h (r.saved != 0) owner (s.scopeMark r.scope) 0
/-- The root scope of the instance of a scope record is poisoned (spec/17 R373). -/
def State.scopeLost (s : State) (key : Nat) : State :=
  match (s.scope key).bind (fun r => s.instanceOf r.part r.serial) with
  | some i => (match s.scopeOf i.part (i.scopes.getD 0 0) with
    | some k => s.poisonScope k
    | none => s)
  | none => s
/-- What an uncorrectable error does (spec/17 Tables 17.8, R373; spec/08 R197). `addr` is a DRAM offset (units 1, 2), a window offset
(3, and 4 from 0x01000000), FIFO + 16 × position or 256 + latch (4 below that), and for unit 7 a Tun entry, a scope key or a line as
`gtile` is 0, 1 or 2. A die-cache line is dirty or clean by a free value (log 36). -/
def State.errorEffect (s : State) (e : ErrorReport) : State :=
  match e.unit with
  | 1 => s.markPoison (dramKey e.die (e.addr / 64 * 64)) 64
  | 2 =>
    let (v, s) := s.draw
    if testW v 0 then s.markPoison (dramKey e.die (e.addr / 64 * 64)) 64 else s
  | 3 => s.markPoison (sramKey e.gtile (e.addr / 8 * 8)) 8
  | 4 =>
    if 0x01000000 ≤ e.addr then s.markPoison (sramKey e.gtile (e.addr / 16 * 16)) 16
    else if 256 ≤ e.addr then
      s.onTile e.gtile (fun t => { t with latches := vset t.latches (e.addr - 256) { vget t.latches (e.addr - 256) with poison := true } })
    else s.onTile e.gtile (fun t => { t with fifos := vset t.fifos (e.addr % 16) ((vget t.fifos (e.addr % 16)).zipIdx.map (fun p =>
      if p.2 == e.addr / 16 then { p.1 with poison := true } else p.1)) })
  | 5 => s.consumePoison (e.gtile * 4 + e.src % 4)
  | 7 =>
    match e.gtile with
    | 0 => s.recordLost (s.handleOf e.die e.addr)
    | 1 => s.scopeLost e.addr
    | _ => s.markPoison (dramKey e.die (e.addr * 64)) 64
  | _ => s
/-- UNCORRECTABLE_ERROR (spec/17 R370, R373, R377): counted and logged, as data poisoned or as an error in control state. -/
def execUncorrectableError (e : ErrorReport) (s : State) : Host.Outcome State Fault Refusal :=
  .next (((s.countDie e.die 11).logError
    (s.errorRecord (if e.unit = 5 ∨ e.unit = 7 then 3 else 2) e.unit e.die (s.errorPart e) e.src e.addr []) e.die).errorEffect e)
/-- LINK_RETRAIN (spec/17 R370; spec/16 R340): logged; the lane groups bound on the link are withdrawn. A mesh link is its tile's local
ID × 4 + direction; the links of ports have numbers from 256. -/
def execLinkRetrain (die link : Nat) (s : State) : Host.Outcome State Fault Refusal :=
  .next (
    let s := s.logError (s.errorRecord 6 8 die 0xFF 0 link []) die
    if 256 ≤ link then s
    else (List.range 16).foldl (fun s p =>
      ((s.laneUses p).filter (fun u => u.1 == (die * 64 + link / 4, link % 4))).foldl (fun s u => s.withdrawLane u.2.1 u.2.2) s) s)

/-- A task is lost with a die (spec/17 R375): its scope becomes CANCELLING with status DIE-LOST; it is not counted, and the
acknowledgement says so. -/
def State.loseTask (s : State) (h : Word) : State :=
  match s.taskOf h with
  | none => s
  | some r =>
    if r.state == .ended || r.state == .dead then s
    else
      let s := s.cancelScope r.scope 3
      let owner := match s.scope r.scope with
        | some q => q.owner
        | none => r.scope
      let issued := r.state == .running || r.saved != 0
      let s := match r.state, r.loc with
        | .running, some g => s.killOne g owner
        | .placing, some g => if (s.slot g).task == h then s.killOne g owner else s.buryTask h issued owner (s.scopeMark r.scope) 0
        | _, _ => s.buryTask h issued owner (s.scopeMark r.scope) 0
      s.tally owner (fun c => { c with killed := c.killed - bit issued, discarded := c.discarded - bit (!issued), lost := true })
/-- The lockstep gang of a lost task, and the scope that counts the death of its mates (spec/10 R242). -/
def State.lostGang (s : State) (h : Word) : Option (Nat × Nat) :=
  (s.taskOf h).bind (fun r => (s.lockGang { r with state := .preempted }).map (fun k => (k.1, s.ownerOf r.scope)))
/-- A save image lies in the DRAM of a die. -/
def State.savedOn (s : State) (r : TaskRec) (die : Nat) : Bool :=
  r.saved != 0 && (match s.translateNow r.part true .read r.saved with
    | .ok (.dram d _ _) => d == die
    | _ => false)
/-- The tasks that a die's loss takes (spec/17 R375). -/
def State.lostTasks (s : State) (die : Nat) : List Word :=
  [0, 1, 2, 3].flatMap (fun d => ((s.die d).tun.filter (fun e =>
    e.2.state != .free && e.2.state != .ended && e.2.state != .dead &&
      (d == die || s.savedOn e.2 die || (match e.2.loc with
        | some g => dieOf (tileOfSlot g) == die && (e.2.state == .running || e.2.state == .placing)
        | none => false)))).map (fun e => s.handleOf d e.1))
/-- An event on its way when a die is lost (spec/17 R374, R376): tokens and messages of the lost die are discarded, its decrements become
DIE-LOST ones. -/
def State.afterLoss (s : State) (die : Nat) : Instr → Option Instr
  | .tokenArrival g c tok =>
    match (s.chan g c).peer with
    | some (pkg, h, _) => if pkg = s.mgmt.package ∧ dieOf h = die then none else some (.tokenArrival g c tok)
    | none => some (.tokenArrival g c tok)
  | .messageArrival g bs (some id) =>
    match s.request id with
    | some r => if r.foreign.isNone && r.src / 4096 == s.mgmt.package && dieOf (r.src % 4096 / 16) == die then none
      else some (.messageArrival g bs (some id))
    | none => none
  | .decrementMessage m => some (.decrementMessage (if m.die = die then { m with mark := 4 } else m))
  | i => some i
/-- A request that a unit of a die sent. -/
def State.sentBy (s : State) (die : Nat) (r : Request) : Bool :=
  r.foreign.isNone && r.src / 4096 == s.mgmt.package && dieOf (r.src % 4096 / 16) == die && r.slot != noSlot
/-- Commands that the lost die's command core had taken complete DIELOST (spec/17 R375): a RUN with its root scope. -/
def State.loseCommands (s : State) (mine : List Command) : State :=
  mine.foldl (fun s c =>
    match s.instances.find? (fun i => i.cmd == c.id) with
    | some i => (match s.scopeOf i.part (i.scopes.getD 0 0) with
      | some k => s.cancelScope k 3
      | none => s)
    | none => if c.outcome.isNone then s.outcomeOf c 3 0 0 else s) s
/-- A die is lost (spec/17 R374 to R376): what it sent is discarded, its tasks are lost, and nothing is placed on it again. -/
def State.loseDie (s : State) (die : Nat) : State :=
  if s.lostDie die then s
  else
    let core := s.commands.filter (fun c => s.coreDie c.part == die)
    let lost := s.lostTasks die
    let s := s.onDie die (fun d => { d with lostAt := some s.now })
    let s : State := { s with agenda := s.agenda.filterMap (s.afterLoss die), deferred := s.deferred.filterMap (s.afterLoss die) }
    let s : State := { s with requests := s.requests.filter (fun r => !s.sentBy die r) }
    let s : State := { s with tiles := s.tiles.map (fun e =>
      if dieOf e.1 = die then (e.1, { e.2 with gens := Vector.replicate 8 { queue := [], ticket := 0 } }) else e) }
    let gangs := lost.filterMap s.lostGang
    let s := lost.foldl (fun s h => s.loseTask h) s
    let s := gangs.foldl (fun s k => match Assoc.find s.gangs k.1 with
      | some q => s.killGang k.1 k.2 q
      | none => s) s
    let s := s.loseCommands core
    let s : State := { s with
      tiles := s.tiles.map (fun e => if dieOf e.1 = die then (e.1, { Tile.reset with errors := e.2.errors }) else e)
      slots := s.slots.filter (fun e => dieOf (tileOfSlot e.1) != die) }
    let s := s.onDie die (fun d => { Die.reset with
      lostAt := d.lostAt, entryGens := d.entryGens, counters := d.counters, dramTemp := d.dramTemp, coreTemp := d.coreTemp })
    s.logError (s.errorRecord 5 0 die 0xFF 0 0 (toBytes 8 s.now.toNat)) s.lastDie
/-- DIE_LOST (spec/17 R374). -/
def execDieLost (die : Nat) (s : State) : Host.Outcome State Fault Refusal := .next (s.loseDie die)
/-- THERMAL_TRIP (spec/18 R391): the die's rails are cut and it is lost. -/
def execThermalTrip (die : Nat) (s : State) : Host.Outcome State Fault Refusal := .next (s.loseDie die)

end Sys2Proof.Machine
end

