-- ==== Sys2Proof/Machine/Bringup.lean ====
section
/-! DEFINITION. Reset and bring-up, signed blobs, the Sprinell interface, attestation, power and heat (spec/18). -/

namespace Sys2Proof.Machine

/-- A reset of the whole module (spec/18 R379): every task, partition, image and key ends, nothing is written for them, and the ROM
draws a new BOOTID (R385). What has left the module stays outside. -/
def State.restart (s : State) : State :=
  { State.reset with
    egress := s.egress, schedule := s.schedule, drawn := s.drawn, nextId := s.nextId
    mgmt := { Mgmt.reset with resets := s.mgmt.resets + 1, bootid := Config.bootId (s.mgmt.resets + 1) } }
/-- COLD_RESET (spec/18 R379). -/
def execColdReset (s : State) : Host.Outcome State Fault Refusal := .next s.restart
/-- WARM_RESET (spec/18 R379). -/
def execWarmReset (s : State) : Host.Outcome State Fault Refusal := .next s.restart
/-- RESET (spec/18 R388): a warm reset. -/
def execResetCommand (s : State) : Host.Outcome State Fault Refusal := .next s.restart

/-- The mask of good dies, MSTATE.DIEOK (spec/18 Table 18.4). -/
def State.dieOk (s : State) : Nat := ([0, 1, 2, 3].map (fun d => bit (s.die d).good * 2 ^ d)).sum
/-- The next reset state, or FAILED when no die is good (spec/18 R381). -/
def State.enter (s : State) (m : ModuleState) : State :=
  { s with mgmt := { s.mgmt with state := if m = .rails ∨ m = .selftest ∨ s.dieOk ≠ 0 then m else .failed } }
/-- The dies still good after a test (spec/18 R381). -/
def State.keepGood (s : State) (good : BitVec 4) : State :=
  [0, 1, 2, 3].foldl (fun s d => s.onDie d (fun q => { q with good := q.good && testN good.toNat d })) s
/-- RAILS_DONE (spec/18 Table 18.1): every die is to be tested. -/
def execRailsDone (s : State) : Host.Outcome State Fault Refusal :=
  .next (if s.mgmt.state = .rails then s.enter .selftest else s)
/-- SELFTEST_DONE (spec/18 Table 18.1, R381): the dies whose SRAMs pass are good so far. -/
def execSelftestDone (good : BitVec 4) (s : State) : Host.Outcome State Fault Refusal :=
  .next (
    if s.mgmt.state = .selftest then
      (([0, 1, 2, 3].foldl (fun (s : State) d => s.onDie d (fun q => { q with good := true })) s).keepGood good).enter .draminit
    else s)
/-- DRAMINIT_DONE (spec/18 Table 18.1): DRAM holds zeros and no poison mark. -/
def execDraminitDone (good : BitVec 4) (s : State) : Host.Outcome State Fault Refusal :=
  .next (
    if s.mgmt.state = .draminit then
      let s : State := { s with mem := [], poison := [], keyTag := [] }
      (s.keepGood good).enter .identity
    else s)
/-- The keys of the IDENTITY state (spec/18 R386): the identity and key-agreement keys from the device secret, the alias key from the
identity key and measurement 1; slot 0 of SPDM runs from the root to the alias certificate. -/
def Mgmt.identify (m : Mgmt) : Mgmt :=
  let identity := Config.deriveKey 0 Config.deviceSecret
  let agreement := Config.deriveKey 1 Config.deviceSecret
  let measured := vget m.measurements 1
  let alias_ := Config.deriveKey 2 (identity ++ measured)
  { m with identityKey := identity, agreementKey := agreement, aliasKey := alias_, agreementCert := Config.certify identity agreement []
           chain := Config.certificates ++ Config.certify identity alias_ measured }
/-- IDENTITY_DONE (spec/18 R386, Table 18.6): measurements taken and keys derived. -/
def execIdentityDone (s : State) : Host.Outcome State Fault Refusal :=
  .next (
    if s.mgmt.state = .identity then
      let m := vset (vset (Vector.replicate 6 (zeros 64)) 1 (Config.sha512 Config.romImage)) 2
        (Config.sha512 (Config.fuses ++ [BitVec.ofNat 8 s.dieOk]))
      { s with mgmt := ({ s.mgmt with state := .links, measurements := m } : Mgmt).identify }
    else s)
/-- LINKS_DONE (spec/18 R380, R381): the module is READY, or FAILED with no good die; each die that is not good is lost, with an
error-log record. -/
def execLinksDone (good : BitVec 4) (s : State) : Host.Outcome State Fault Refusal :=
  .next (
    if s.mgmt.state = .links then
      let s := (s.keepGood good).enter .ready
      if s.mgmt.state = .failed then s
      else
        let s := ([0, 1, 2, 3].filter (fun d => !(s.die d).good)).foldl (fun (s : State) d =>
          (s.onDie d (fun q => { q with lostAt := some s.now })).logError
            (s.errorRecord 5 0 d 0xFF 0 0 (toBytes 8 s.now.toNat)) s.lastDie) s
        { s with
          ports := s.ports.map (fun p => { p with trained := true })
          mgmt := { s.mgmt with dramrsv := s.dramRsv } }
    else s)
/-- CONFIGURATION_REQUEST (spec/18 R380): retried until READY. -/
def execConfigurationRequest (_msg : Bytes) (s : State) : Host.Outcome State Fault Refusal :=
  .next (s.emit (.configReply (s.mgmt.state != .ready)))

/-- The reply of a Sprinell command. -/
def State.sprinell (s : State) (status : Nat) (data : Bytes) : State := s.emit (.sprinell status data)
/-- A Sprinell command that needs the main rails (spec/18 R388): NOTREADY before READY. -/
def State.whenReady (s : State) (f : State → State) : State :=
  if s.mgmt.state = .ready then f s else s.sprinell (Config.sprinellStatus 0) []
/-- The handler of a blob's TYPE (spec/18 Table 18.3); one of no known TYPE goes to the first, which refuses it. -/
def blobEvent (b : Bytes) : Instr :=
  match (byteAt b 6).toNat with
  | 2 => .moduleBlob
  | 3 => .partitionBlob
  | 4 => .memkeyBlob
  | 5 => .linkkeyBlob
  | 6 => .powerBlob
  | _ => .ownerBlob
/-- BLOB (spec/18 R383): a blob joins the one queue, in arrival order. -/
def execQueueBlob (data : Bytes) (s : State) : Host.Outcome State Fault Refusal :=
  .next (s.whenReady (fun s => ({ s with mgmt := { s.mgmt with queue := s.mgmt.queue ++ [data] } } : State).post (blobEvent data)))

/-- A blob's payload (spec/18 R382). -/
def blobPayload (b : Bytes) : Bytes := (b.drop 64).take (field b 8 4)
/-- The size of a payload that its TYPE fixes, and its reserved fields (spec/18 Table 18.3, spec/17 Table 17.1). -/
def payloadBad (type : Nat) (p : Bytes) : Bool :=
  match type with
  | 1 => p.length != 133
  | 2 => p.length != 20032 || bitsN (field p 0 2) 15 10 != 0 || bitsN (field p 2 1) 7 1 != 0 || !allZero ((p.drop 3).take 61)
  | 3 => p.length != 128 || partitionReserved p
  | 4 => p.length != 208 || byteAt p 135 != 0
  | 5 => false
  | _ => p.length != 2
/-- BADFMT (spec/18 Table 18.5). -/
def blobMalformed (b : Bytes) : Bool :=
  let type := (byteAt b 6).toNat
  field b 0 4 != 0x01424C42 || field b 4 2 != 1 || decide (type < 1 ∨ 6 < type) || byteAt b 7 != 0 ||
    decide (field b 8 4 < 1 ∨ 65536 < field b 8 4) || field b 12 4 != 0 || !allZero ((b.drop 40).take 24) ||
    decide (b.length ≠ 64 + field b 8 4 + 132) || payloadBad type (blobPayload b)
/-- The key that a blob's signature is checked under (spec/18 Table 18.3). -/
def State.blobKey (s : State) : Bytes := if s.mgmt.owner = [] then Config.ghekinKey else s.mgmt.owner
/-- A measurement chain advanced (spec/18 Table 18.6). -/
def State.measure (s : State) (i : Nat) (b : Bytes) : State :=
  let m := Config.sha512 (vget s.mgmt.measurements i ++ Config.sha512 b)
  { s with mgmt := { s.mgmt with measurements := vset s.mgmt.measurements i m } }
/-- OWNER: the owner key is replaced (spec/18 R383). -/
def State.installOwner (s : State) (p : Bytes) : Option State :=
  if byteAt p 0 = 4 then
    let m := vset s.mgmt.measurements 3 (Config.sha512 p)
    some { s with mgmt := { s.mgmt with owner := p, measurements := m } }
  else none
/-- MODULE: the package number, the master flag and the frame table (spec/18 R383). -/
def State.installModule (s : State) (p : Bytes) : Option State :=
  let frame := p.drop 64
  if (List.range 16).any (fun i => (s.part i).configured) || frame.any (fun x => decide (0x10 ≤ x.toNat ∧ x.toNat ≤ 0xFE)) then none
  else some { s with mgmt := { s.mgmt with
    package := bitsN (field p 0 2) 9 0, isMaster := testN (field p 2 1) 0, frame := frame, lend := [], nextLend := [] } }
/-- PARTITION: configured under spec/17 R358; DRAMRSV follows (spec/15 R403). -/
def State.installPartition (s : State) (p : Bytes) : Option State :=
  if s.partitionBad p then none
  else (s.configure p).map (fun s => { s with mgmt := { s.mgmt with dramrsv := s.dramRsv } })
/-- MEMKEY: key KEYID of a partition (spec/18 R383). A line held under the old key was written under it, and `keyTag` says so. -/
def State.installMemkey (s : State) (b p : Bytes) : Option State :=
  let part := (byteAt p 0).toNat
  let id := (byteAt p 1).toNat
  if 16 ≤ part ∨ id < 1 ∨ 63 < id then none
  else (Config.unwrapKey s.mgmt.agreementKey (b.take 64 ++ p)).map (fun k => s.onPart part (fun q => { q with keys := Assoc.set q.keys id k }))
/-- LINKKEY: taken at the port's next key switch (spec/18 R383). -/
def State.installLinkkey (s : State) (p : Bytes) : Option State :=
  let port := (byteAt p 0).toNat
  if 16 ≤ port then none
  else some { s with ports := vset s.ports port { vget s.ports port with nextKey := some (p.drop 1) } }
/-- POWER: PLMAX, and a working limit above it lowered (spec/18 R383). -/
def State.installPower (s : State) (p : Bytes) : Option State :=
  let w := field p 0 2
  if w < 900 ∨ 1800 < w then none
  else some { s with mgmt := { s.mgmt with plmax := w, plwork := min s.mgmt.plwork w } }
/-- The effect of a blob that passes every check before its own (spec/18 R383): none when it fails those. -/
def State.admitBlob (s : State) (b : Bytes) : Option State :=
  let p := blobPayload b
  match (byteAt b 6).toNat with
  | 1 => s.installOwner p
  | 2 => (s.installModule p).map (fun s => s.measure 4 b)
  | 3 => (s.installPartition p).map (fun s => s.measure 4 b)
  | 4 => (s.installMemkey b p).map (fun s => s.measure 5 (b.take 64))
  | 5 => (s.installLinkkey p).map (fun s => s.measure 4 b)
  | _ => (s.installPower p).map (fun s => s.measure 4 b)
/-- A blob's status and what it does (spec/18 R383, R384): the first failing check of Table 18.5. -/
def State.applyBlob (s : State) (b : Bytes) : Nat × State :=
  let type := (byteAt b 6).toNat
  let serial := fieldW b 16 8
  let boot := fieldW b 24 8
  if blobMalformed b then (1, s)
  else if (serial ≠ 0 ∧ serial ≠ Config.moduleSerial) ∨ (boot ≠ 0 ∧ boot ≠ s.mgmt.bootid) ∨ (serial = 0 ∧ type = 4) then (2, s)
  else if type ≠ 1 ∧ s.mgmt.owner = [] then (3, s)
  else if !Config.verify s.blobKey (b.take (64 + field b 8 4)) (b.drop (64 + field b 8 4)) then (4, s)
  else if (fieldW b 32 8).toNat ≤ (vget s.mgmt.seqs type).toNat then (5, s)
  else match s.admitBlob b with
    | none => (6, s)
    | some s => (0, { s with mgmt := { s.mgmt with seqs := vset s.mgmt.seqs type (fieldW b 32 8) } })
/-- The blob at the head of the queue is checked and applied (spec/18 R383), if it is one of these; one further back waits until those before it
have been. -/
def State.takeBlob (s : State) (mine : Instr) : State :=
  match s.mgmt.queue with
  | [] => s
  | b :: rest =>
    if blobEvent b = mine then
      let r := ({ s with mgmt := { s.mgmt with queue := rest } } : State).applyBlob b
      r.2.sprinell r.1 []
    else if rest.any (fun b => decide (blobEvent b = mine)) then s.defer mine
    else s
/-- OWNER (spec/18 R383). -/
def execOwnerBlob (s : State) : Host.Outcome State Fault Refusal := .next (s.takeBlob .ownerBlob)
/-- MODULE (spec/18 R383). -/
def execModuleBlob (s : State) : Host.Outcome State Fault Refusal := .next (s.takeBlob .moduleBlob)
/-- PARTITION (spec/18 R383; spec/17 R358). -/
def execPartitionBlob (s : State) : Host.Outcome State Fault Refusal := .next (s.takeBlob .partitionBlob)
/-- MEMKEY (spec/18 R383). -/
def execMemkeyBlob (s : State) : Host.Outcome State Fault Refusal := .next (s.takeBlob .memkeyBlob)
/-- LINKKEY (spec/18 R383). -/
def execLinkkeyBlob (s : State) : Host.Outcome State Fault Refusal := .next (s.takeBlob .linkkeyBlob)
/-- POWER (spec/18 R383). -/
def execPowerBlob (s : State) : Host.Outcome State Fault Refusal := .next (s.takeBlob .powerBlob)
/-- KEY_SWITCH (spec/18 R383): the port's loaded key takes effect. -/
def execKeySwitch (port : Nat) (s : State) : Host.Outcome State Fault Refusal :=
  .next (
    match (vget s.ports port).nextKey with
    | some k => { s with ports := vset s.ports port { vget s.ports port with key := k, nextKey := none } }
    | none => s)

/-- STATE of MSTATE (spec/18 Table 18.4). -/
def ModuleState.code : ModuleState → Nat
  | .rails => 0
  | .selftest => 1
  | .draminit => 2
  | .identity => 3
  | .links => 4
  | .ready => 5
  | .failed => 15
/-- A Sprinell register (spec/18 Table 18.4): none where the number names none (log 44). -/
def State.sprinellReg (s : State) : Nat → Option Word
  | 0 => some (wordN (s.mgmt.state.code + s.dieOk * 2 ^ 8))
  | 1 => some s.mgmt.bootid
  | 2 => some s.mgmt.dramrsv
  | 3 => some (wordN (s.mgmt.watts % 2 ^ 16 + s.mgmt.plmax * 2 ^ 16 + s.mgmt.plwork * 2 ^ 32 + s.mgmt.clkstep * 2 ^ 48))
  | 4 => some s.mgmt.temp
  | _ => none
/-- The reply that carries a value, or a failure. -/
def State.sprinellValue (s : State) : Option Word → State
  | some v => s.sprinell 0 (toBytes 8 v.toNat)
  | none => s.sprinell (Config.sprinellStatus 1) []
/-- REG.RD (spec/18 R388). -/
def execRegRd (reg : Nat) (s : State) : Host.Outcome State Fault Refusal := .next (s.sprinellValue (s.sprinellReg reg))
/-- PL.SET (spec/18 R388, R389): from 900 W to PLMAX. -/
def execPlSet (watts : Nat) (s : State) : Host.Outcome State Fault Refusal :=
  .next (
    if watts < 900 ∨ s.mgmt.plmax < watts then s.sprinell (Config.sprinellStatus 1) []
    else ({ s with mgmt := { s.mgmt with plwork := watts } } : State).sprinell 0 [])
/-- LOG.RD (spec/18 R388): records of the guard log or the error log from an index. -/
def execLogRd (errorLog : Bool) (index count : Nat) (s : State) : Host.Outcome State Fault Refusal :=
  .next (s.whenReady (fun s =>
    let l := if errorLog then s.mgmt.errorLog else s.mgmt.guardLog
    s.sprinell 0 ((l.drop index).take count).flatten))
/-- A counter of CNT.RD (spec/18 R388; spec/17 R378; spec/16 R344): numbers below 13 are the die's, 16 to 31 those of its four ports,
32 and 33 the host link's (log 44). -/
def State.sprinellCounter (s : State) (die index : Nat) : Option Word :=
  let port := vget s.ports (die * 4 + (index - 16) / 4)
  if 4 ≤ die then none
  else if index < 13 then some (vget (s.die die).counters index)
  else if index < 16 then none
  else if index < 32 then some (match index % 4 with
    | 0 => port.trims
    | 1 => port.resends
    | 2 => port.discards
    | _ => port.foreign)
  else if index = 32 then some s.host.errors
  else if index = 33 then some s.host.refused
  else none
/-- CNT.RD (spec/18 R388). -/
def execCntRd (die index : Nat) (s : State) : Host.Outcome State Fault Refusal :=
  .next (s.whenReady (fun s => s.sprinellValue (s.sprinellCounter die index)))

/-- An SPDM request answered (spec/18 R387): the response is of another standard and stands open (log 11); it may depend on the
transcript so far, the measurements as they are now, the certificates of slot 0 and the alias key (R386). -/
def State.spdmAnswer (s : State) (code : Nat) (msg : Bytes) : State :=
  let r := Config.spdmResponse code msg s.mgmt.transcript s.mgmt.measurements.toList.flatten s.mgmt.chain s.mgmt.aliasKey
  ({ s with mgmt := { s.mgmt with transcript := s.mgmt.transcript ++ msg ++ r } } : State).emit (.spdm r)
/-- GET_VERSION (spec/18 R387): it begins a new transcript. -/
def execGetVersion (msg : Bytes) (s : State) : Host.Outcome State Fault Refusal :=
  .next (({ s with mgmt := { s.mgmt with transcript := [], session := false } } : State).spdmAnswer 0x84 msg)
/-- GET_CAPABILITIES (spec/18 R387). -/
def execGetCapabilities (msg : Bytes) (s : State) : Host.Outcome State Fault Refusal := .next (s.spdmAnswer 0xE1 msg)
/-- NEGOTIATE_ALGORITHMS (spec/18 R387). -/
def execNegotiateAlgorithms (msg : Bytes) (s : State) : Host.Outcome State Fault Refusal := .next (s.spdmAnswer 0xE3 msg)
/-- GET_DIGESTS (spec/18 R387). -/
def execGetDigests (msg : Bytes) (s : State) : Host.Outcome State Fault Refusal := .next (s.spdmAnswer 0x81 msg)
/-- GET_CERTIFICATE (spec/18 R386, R387). -/
def execGetCertificate (msg : Bytes) (s : State) : Host.Outcome State Fault Refusal := .next (s.spdmAnswer 0x82 msg)
/-- CHALLENGE (spec/18 R387). -/
def execChallenge (msg : Bytes) (s : State) : Host.Outcome State Fault Refusal := .next (s.spdmAnswer 0x83 msg)
/-- GET_MEASUREMENTS (spec/18 R387, Table 18.6). -/
def execGetMeasurements (msg : Bytes) (s : State) : Host.Outcome State Fault Refusal := .next (s.spdmAnswer 0xE0 msg)
/-- KEY_EXCHANGE (spec/18 R387). -/
def execKeyExchange (msg : Bytes) (s : State) : Host.Outcome State Fault Refusal := .next (s.spdmAnswer 0xE4 msg)
/-- FINISH (spec/18 R387): the session is established. -/
def execFinish (msg : Bytes) (s : State) : Host.Outcome State Fault Refusal :=
  .next (let s := s.spdmAnswer 0xE5 msg
         { s with mgmt := { s.mgmt with session := true } })
/-- END_SESSION (spec/18 R387). -/
def execEndSession (msg : Bytes) (s : State) : Host.Outcome State Fault Refusal :=
  .next (let s := s.spdmAnswer 0xEC msg
         { s with mgmt := { s.mgmt with session := false } })
/-- IDE_KM (spec/16 R352; spec/18 R387): keys are established inside an SPDM session. -/
def execIdeKm (msg : Bytes) (s : State) : Host.Outcome State Fault Refusal :=
  .next (
    let s := s.emit (.spdm (Config.ideKmResponse msg s.mgmt.ideKeys))
    if s.mgmt.session then { s with mgmt := { s.mgmt with ideKeys := msg } } else s)

/-- The clock step at the next frame start, one up (spec/18 R390). -/
def State.stepUp (s : State) : State := { s with mgmt := { s.mgmt with nextStep := min 8 (s.mgmt.nextStep + 1) } }
/-- GOVERNOR_SAMPLE (spec/18 R390): every 10 µs, the board power and its 1 ms average in W. Up when the average exceeds PLWORK; down after
100 samples below 97 % of it; an error-log record for each 100 samples over it at step 8. -/
def execGovernorSample (_watts average : Nat) (s : State) : Host.Outcome State Fault Refusal :=
  .next (
    let m := s.mgmt
    if m.plwork < average then
      if m.nextStep < 8 then ({ s with mgmt := { m with below := 0 } } : State).stepUp
      else if m.clkstep < 8 then { s with mgmt := { m with below := 0 } }
      else if m.overAtLimit + 1 < 100 then { s with mgmt := { m with below := 0, overAtLimit := m.overAtLimit + 1 } }
      else
        let s : State := { s with mgmt := { m with below := 0, overAtLimit := 0 } }
        s.logError (s.errorRecord 3 0 s.lastDie 0xFF 0 0 []) s.lastDie
    else if average * 100 < m.plwork * 97 then
      if m.below + 1 < 100 then { s with mgmt := { m with below := m.below + 1, overAtLimit := 0 } }
      else
        let hot := [0, 1, 2, 3].any (fun d => (s.die d).hot)
        { s with mgmt := { m with below := 0, overAtLimit := 0, nextStep := if hot then m.nextStep else m.nextStep - 1 } }
    else { s with mgmt := { m with below := 0, overAtLimit := 0 } })
/-- TELEMETRY_REFRESH (spec/18 R389). -/
def execTelemetryRefresh (watts : Nat) (temp : Word) (s : State) : Host.Outcome State Fault Refusal :=
  .next { s with mgmt := { s.mgmt with watts := watts, temp := temp } }
/-- THERMAL_LIMIT (spec/18 R391, Table 18.8): temperatures of a die's hottest DRAM layer and compute point, °C. -/
def execThermalLimit (die : Nat) (dram compute : Int) (s : State) : Host.Outcome State Fault Refusal :=
  .next (
    if s.lostDie die then s
    else
      let above : Bool := decide (95 < dram ∨ 105 < compute)
      let cool : Bool := decide (dram ≤ 93 ∧ compute ≤ 103)
      let s := s.onDie die (fun d => { d with
        dramTemp := dram, coreTemp := compute
        refreshHalved := if 85 < dram then true else if dram < 83 then false else d.refreshHalved
        hot := if above then true else if cool then false else d.hot })
      if 105 ≤ dram ∨ 115 ≤ compute then s.loseDie die
      else if (s.die die).hot then s.stepUp else s)

end Sys2Proof.Machine
end

