-- ==== Sys2Proof/Machine/Scalar.lean ====
section
/-! DEFINITION. The integer instructions (spec/06 R127 to R134) and the special-register instructions (spec/05 R113). -/

namespace Sys2Proof.Machine

/-- An instruction that reads registers and writes one in one cycle (spec/06 R127, Table 6.1). -/
def State.alu (s : State) (regs : List Reg) (d : Reg) (f : Slot → Word) : Host.Outcome State Fault Refusal :=
  s.issue {} regs (fun _ => .done (s.retire s.cur (fun t => t.setX d (f t))))
/-- As `State.alu`, with flags ORed into FLAGS. -/
def State.aluFlags (s : State) (regs : List Reg) (d : Reg) (f : Slot → Word × BitVec 7) : Host.Outcome State Fault Refusal :=
  s.issue {} regs (fun _ => .done (s.retire s.cur (fun t => (t.setX d (f t).1).orFlags (f t).2)))
/-- A slot with a result on its way to a register. -/
def Slot.pend (t : Slot) (d : Reg) (r : Word × BitVec 7) (unit : Nat) : Slot :=
  { t with results := t.results ++ [{ bank := t.bank, reg := d, value := r.1, flags := r.2, unit := unit }] }
/-- An instruction of more than one cycle (spec/06 R128, Table 6.1): its result is computed from what it read at issue and
written later. `unit` is 1 for the divider and 2 for the FP32 divide-and-root unit, which one instruction occupies at a
time. With `rounds`, an instruction issued under .SR takes its n (spec/06 R135); FMIN, FMAX and the comparisons, which never round, take none
(DESIGN CHOICE, log 75). -/
def State.slow (s : State) (unit : Nat) (regs : List Reg) (d : Reg) (rounds : Bool) (f : Slot → Nat → Word × BitVec 7) :
    Host.Outcome State Fault Refusal :=
  s.issue {} regs (fun t =>
    if unit != 0 && t.results.any (fun e => e.unit == unit) then .wait s
    else
      let u := if rounds && t.rc == 4 then t.srU 2 0 t.srseq else 0
      .done ((s.retire s.cur (fun t => (t.pend d (f t u) unit).takeSr (if rounds then t.rc else 0))).post (.scalarResult s.cur)))

/-- Sat to the signed 64-bit range, with SAT if it changed the value (spec/06 Table 6.2). -/
def saturate (v : Int) : Word × BitVec 7 :=
  let y := sat v (-(2 ^ 63)) (2 ^ 63 - 1)
  (wrap y, if y = v then 0 else flagSat)
/-- DIV: quotient truncated towards zero (spec/06 Table 6.3). -/
def divide (u v : Int) : Word × BitVec 7 :=
  if v = 0 then (-1, flagDivZero)
  else if u = -(2 ^ 63) ∧ v = -1 then (wrap u, flagOverflow)
  else (wrap (Int.tdiv u v), 0)

/-- SCALAR_RESULT (spec/06 R127, R128): the oldest pending result of a slot is written to its register, and only then are
its flags ORed into FLAGS. -/
def execScalarResult (slot : Nat) (s : State) : Host.Outcome State Fault Refusal :=
  .next (s.onSlot slot (fun t =>
    match t.results with
    | [] => t
    | r :: rest => ({ t with results := rest }.writeX r.bank r.reg r.value).orFlags r.flags))

/-- ADD (spec/06 R129): u + v. -/
def execAdd (d a b : Reg) (s : State) : Host.Outcome State Fault Refusal :=
  s.alu [a, b, d] d (fun t => t.x a + t.x b)

/-- SUB (spec/06 R129): u − v. -/
def execSub (d a b : Reg) (s : State) : Host.Outcome State Fault Refusal :=
  s.alu [a, b, d] d (fun t => t.x a - t.x b)

/-- AND (spec/06 R129). -/
def execAnd (d a b : Reg) (s : State) : Host.Outcome State Fault Refusal :=
  s.alu [a, b, d] d (fun t => t.x a &&& t.x b)

/-- OR (spec/06 R129). -/
def execOr (d a b : Reg) (s : State) : Host.Outcome State Fault Refusal :=
  s.alu [a, b, d] d (fun t => t.x a ||| t.x b)

/-- XOR (spec/06 R129). -/
def execXor (d a b : Reg) (s : State) : Host.Outcome State Fault Refusal :=
  s.alu [a, b, d] d (fun t => t.x a ^^^ t.x b)

/-- ANDN (spec/06 R129): u and not v. -/
def execAndn (d a b : Reg) (s : State) : Host.Outcome State Fault Refusal :=
  s.alu [a, b, d] d (fun t => t.x a &&& ~~~(t.x b))

/-- ADDW (spec/06 R129): the sum at 32 bits, sign-extended. -/
def execAddw (d a b : Reg) (s : State) : Host.Outcome State Fault Refusal :=
  s.alu [a, b, d] d (fun t => sextW (t.x a + t.x b))

/-- SUBW (spec/06 R129): the difference at 32 bits, sign-extended. -/
def execSubw (d a b : Reg) (s : State) : Host.Outcome State Fault Refusal :=
  s.alu [a, b, d] d (fun t => sextW (t.x a - t.x b))

/-- ADDS (spec/06 R129): the signed sum, saturated; SAT if Sat changed the value. -/
def execAdds (d a b : Reg) (s : State) : Host.Outcome State Fault Refusal :=
  s.aluFlags [a, b, d] d (fun t => saturate (sgn (t.x a) + sgn (t.x b)))

/-- SUBS (spec/06 R129): the signed difference, saturated; SAT if Sat changed the value. -/
def execSubs (d a b : Reg) (s : State) : Host.Outcome State Fault Refusal :=
  s.aluFlags [a, b, d] d (fun t => saturate (sgn (t.x a) - sgn (t.x b)))

/-- MIN (spec/06 R129): the smaller signed value. -/
def execMin (d a b : Reg) (s : State) : Host.Outcome State Fault Refusal :=
  s.alu [a, b, d] d (fun t => wrap (min (sgn (t.x a)) (sgn (t.x b))))

/-- MAX (spec/06 R129): the larger signed value. -/
def execMax (d a b : Reg) (s : State) : Host.Outcome State Fault Refusal :=
  s.alu [a, b, d] d (fun t => wrap (max (sgn (t.x a)) (sgn (t.x b))))

/-- MINU (spec/06 R129): the smaller unsigned value. -/
def execMinu (d a b : Reg) (s : State) : Host.Outcome State Fault Refusal :=
  s.alu [a, b, d] d (fun t => wordN (min (t.x a).toNat (t.x b).toNat))

/-- MAXU (spec/06 R129): the larger unsigned value. -/
def execMaxu (d a b : Reg) (s : State) : Host.Outcome State Fault Refusal :=
  s.alu [a, b, d] d (fun t => wordN (max (t.x a).toNat (t.x b).toNat))

/-- ABS (spec/06 R129): the absolute value, saturated; SAT when su = −2^63. -/
def execAbs (d a : Reg) (s : State) : Host.Outcome State Fault Refusal :=
  s.aluFlags [a, d] d (fun t => saturate (sgn (t.x a)).natAbs)

/-- SLL (spec/06 R131): shift count Bits(v, 5, 0). -/
def execSll (d a b : Reg) (s : State) : Host.Outcome State Fault Refusal :=
  s.alu [a, b, d] d (fun t => (t.x a) <<< bits (t.x b) 5 0)

/-- SRL (spec/06 R131). -/
def execSrl (d a b : Reg) (s : State) : Host.Outcome State Fault Refusal :=
  s.alu [a, b, d] d (fun t => (t.x a) >>> bits (t.x b) 5 0)

/-- SRA (spec/06 R131). -/
def execSra (d a b : Reg) (s : State) : Host.Outcome State Fault Refusal :=
  s.alu [a, b, d] d (fun t => (t.x a).sshiftRight (bits (t.x b) 5 0))

/-- ROL (spec/06 R131). -/
def execRol (d a b : Reg) (s : State) : Host.Outcome State Fault Refusal :=
  s.alu [a, b, d] d (fun t => rotl (t.x a) (bits (t.x b) 5 0))

/-- ROR (spec/06 R131). -/
def execRor (d a b : Reg) (s : State) : Host.Outcome State Fault Refusal :=
  s.alu [a, b, d] d (fun t => rotr (t.x a) (bits (t.x b) 5 0))

/-- CLZ (spec/06 R131): leading zero bits, 0 to 64. -/
def execClz (d a : Reg) (s : State) : Host.Outcome State Fault Refusal :=
  s.alu [a, d] d (fun t => wordN (clzN 64 (t.x a).toNat))

/-- CTZ (spec/06 R131): trailing zero bits, 0 to 64. -/
def execCtz (d a : Reg) (s : State) : Host.Outcome State Fault Refusal :=
  s.alu [a, d] d (fun t => wordN (ctzN 64 (t.x a).toNat))

/-- POPC (spec/06 R131): the number of 1 bits. -/
def execPopc (d a : Reg) (s : State) : Host.Outcome State Fault Refusal :=
  s.alu [a, d] d (fun t => wordN (popN 64 (t.x a).toNat))

/-- BSWAP (spec/06 R131): the bytes in reverse order. -/
def execBswap (d a : Reg) (s : State) : Host.Outcome State Fault Refusal :=
  s.alu [a, d] d (fun t => byteSwap (t.x a))

/-- BREV (spec/06 R131): the bits in reverse order. -/
def execBrev (d a : Reg) (s : State) : Host.Outcome State Fault Refusal :=
  s.alu [a, d] d (fun t => wordN (revN 64 (t.x a).toNat))

/-- EXTU (spec/06 R131). -/
def execExtu (d a b : Reg) (s : State) : Host.Outcome State Fault Refusal :=
  s.alu [a, b, d] d (fun t => extractU (t.x a) (t.x b))

/-- EXTS (spec/06 R131). -/
def execExts (d a b : Reg) (s : State) : Host.Outcome State Fault Refusal :=
  s.alu [a, b, d] d (fun t => extractS (t.x a) (t.x b))

/-- INS (spec/06 R131): xd is also a source. -/
def execIns (d a b : Reg) (s : State) : Host.Outcome State Fault Refusal :=
  s.alu [a, b, d] d (fun t => insertField (t.x d) (t.x a) (t.x b))

/-- SEQ (spec/06 R132). -/
def execSeq (d a b : Reg) (s : State) : Host.Outcome State Fault Refusal :=
  s.alu [a, b, d] d (fun t => boolW (t.x a == t.x b))

/-- SNE (spec/06 R132). -/
def execSne (d a b : Reg) (s : State) : Host.Outcome State Fault Refusal :=
  s.alu [a, b, d] d (fun t => boolW (t.x a != t.x b))

/-- SLT (spec/06 R132). -/
def execSlt (d a b : Reg) (s : State) : Host.Outcome State Fault Refusal :=
  s.alu [a, b, d] d (fun t => boolW (decide (sgn (t.x a) < sgn (t.x b))))

/-- SLTU (spec/06 R132). -/
def execSltu (d a b : Reg) (s : State) : Host.Outcome State Fault Refusal :=
  s.alu [a, b, d] d (fun t => boolW (decide ((t.x a).toNat < (t.x b).toNat)))

/-- SGE (spec/06 R132). -/
def execSge (d a b : Reg) (s : State) : Host.Outcome State Fault Refusal :=
  s.alu [a, b, d] d (fun t => boolW (decide (sgn (t.x b) ≤ sgn (t.x a))))

/-- SGEU (spec/06 R132). -/
def execSgeu (d a b : Reg) (s : State) : Host.Outcome State Fault Refusal :=
  s.alu [a, b, d] d (fun t => boolW (decide ((t.x b).toNat ≤ (t.x a).toNat)))

/-- CMOVZ (spec/06 R132): xd is unchanged when X[b] ≠ 0. -/
def execCmovz (d a b : Reg) (s : State) : Host.Outcome State Fault Refusal :=
  s.alu [a, b, d] d (fun t => if t.x b = 0 then t.x a else t.x d)

/-- CMOVNZ (spec/06 R132): xd is unchanged when X[b] = 0. -/
def execCmovnz (d a b : Reg) (s : State) : Host.Outcome State Fault Refusal :=
  s.alu [a, b, d] d (fun t => if t.x b ≠ 0 then t.x a else t.x d)

/-- MUL (spec/06 R130). -/
def execMul (d a b : Reg) (s : State) : Host.Outcome State Fault Refusal :=
  s.slow 0 [a, b, d] d false (fun t _ => (wrap (sgn (t.x a) * sgn (t.x b)), 0))

/-- MULH (spec/06 R130): floor(su × sv / 2^64). -/
def execMulh (d a b : Reg) (s : State) : Host.Outcome State Fault Refusal :=
  s.slow 0 [a, b, d] d false (fun t _ => (wrap (sgn (t.x a) * sgn (t.x b) / (2 ^ 64 : Nat)), 0))

/-- MULHU (spec/06 R130): floor(u × v / 2^64). -/
def execMulhu (d a b : Reg) (s : State) : Host.Outcome State Fault Refusal :=
  s.slow 0 [a, b, d] d false (fun t _ => (wordN ((t.x a).toNat * (t.x b).toNat / 2 ^ 64), 0))

/-- MULHSU (spec/06 R130): floor(su × v / 2^64). -/
def execMulhsu (d a b : Reg) (s : State) : Host.Outcome State Fault Refusal :=
  s.slow 0 [a, b, d] d false (fun t _ => (wrap (sgn (t.x a) * ((t.x b).toNat : Int) / (2 ^ 64 : Nat)), 0))

/-- MULW (spec/06 R130): the product at 32 bits, sign-extended. -/
def execMulw (d a b : Reg) (s : State) : Host.Outcome State Fault Refusal :=
  s.slow 0 [a, b, d] d false (fun t _ => (sextW (t.x a * t.x b), 0))

/-- DIV (spec/06 R130): −1 with DivZero for divisor 0, −2^63 with Overflow for −2^63 by −1. -/
def execDiv (d a b : Reg) (s : State) : Host.Outcome State Fault Refusal :=
  s.slow 1 [a, b, d] d false (fun t _ => divide (sgn (t.x a)) (sgn (t.x b)))

/-- DIVU (spec/06 R130): 2^64 − 1 with DivZero for divisor 0. -/
def execDivu (d a b : Reg) (s : State) : Host.Outcome State Fault Refusal :=
  s.slow 1 [a, b, d] d false (fun t _ => if t.x b = 0 then (-1, flagDivZero) else (wordN ((t.x a).toNat / (t.x b).toNat), 0))

/-- REM (spec/06 R130): su with DivZero for divisor 0. -/
def execRem (d a b : Reg) (s : State) : Host.Outcome State Fault Refusal :=
  s.slow 1 [a, b, d] d false (fun t _ => if t.x b = 0 then (t.x a, flagDivZero) else (wrap (Int.tmod (sgn (t.x a)) (sgn (t.x b))), 0))

/-- REMU (spec/06 R130): u with DivZero for divisor 0. -/
def execRemu (d a b : Reg) (s : State) : Host.Outcome State Fault Refusal :=
  s.slow 1 [a, b, d] d false (fun t _ => if t.x b = 0 then (t.x a, flagDivZero) else (wordN ((t.x a).toNat % (t.x b).toNat), 0))

/-- ADDI (spec/06 R133). -/
def execAddi (d a : Reg) (i : BitVec 12) (s : State) : Host.Outcome State Fault Refusal :=
  s.alu [a, d] d (fun t => t.x a + imm12 i)

/-- ANDI (spec/06 R133). -/
def execAndi (d a : Reg) (i : BitVec 12) (s : State) : Host.Outcome State Fault Refusal :=
  s.alu [a, d] d (fun t => t.x a &&& imm12 i)

/-- ORI (spec/06 R133): the immediate is zero-extended. -/
def execOri (d a : Reg) (i : BitVec 12) (s : State) : Host.Outcome State Fault Refusal :=
  s.alu [a, d] d (fun t => t.x a ||| uimm12 i)

/-- XORI (spec/06 R133): the immediate is zero-extended. -/
def execXori (d a : Reg) (i : BitVec 12) (s : State) : Host.Outcome State Fault Refusal :=
  s.alu [a, d] d (fun t => t.x a ^^^ uimm12 i)

/-- SLLI (spec/06 R133). -/
def execSlli (d a : Reg) (i : BitVec 6) (s : State) : Host.Outcome State Fault Refusal :=
  s.alu [a, d] d (fun t => (t.x a) <<< i.toNat)

/-- SRLI (spec/06 R133). -/
def execSrli (d a : Reg) (i : BitVec 6) (s : State) : Host.Outcome State Fault Refusal :=
  s.alu [a, d] d (fun t => (t.x a) >>> i.toNat)

/-- SRAI (spec/06 R133). -/
def execSrai (d a : Reg) (i : BitVec 6) (s : State) : Host.Outcome State Fault Refusal :=
  s.alu [a, d] d (fun t => (t.x a).sshiftRight i.toNat)

/-- RORI (spec/06 R133). -/
def execRori (d a : Reg) (i : BitVec 6) (s : State) : Host.Outcome State Fault Refusal :=
  s.alu [a, d] d (fun t => rotr (t.x a) i.toNat)

/-- SEQI (spec/06 R133). -/
def execSeqi (d a : Reg) (i : BitVec 12) (s : State) : Host.Outcome State Fault Refusal :=
  s.alu [a, d] d (fun t => boolW (t.x a == imm12 i))

/-- SNEI (spec/06 R133). -/
def execSnei (d a : Reg) (i : BitVec 12) (s : State) : Host.Outcome State Fault Refusal :=
  s.alu [a, d] d (fun t => boolW (t.x a != imm12 i))

/-- SLTI (spec/06 R133). -/
def execSlti (d a : Reg) (i : BitVec 12) (s : State) : Host.Outcome State Fault Refusal :=
  s.alu [a, d] d (fun t => boolW (decide (sgn (t.x a) < sgn (imm12 i))))

/-- SLTUI (spec/06 R133). -/
def execSltui (d a : Reg) (i : BitVec 12) (s : State) : Host.Outcome State Fault Refusal :=
  s.alu [a, d] d (fun t => boolW (decide ((t.x a).toNat < (imm12 i).toNat)))

/-- ADDIW (spec/06 R133). -/
def execAddiw (d a : Reg) (i : BitVec 12) (s : State) : Host.Outcome State Fault Refusal :=
  s.alu [a, d] d (fun t => sextW (t.x a + imm12 i))

/-- LI (spec/06 R133). -/
def execLi (d : Reg) (i : BitVec 12) (s : State) : Host.Outcome State Fault Refusal :=
  s.alu [d] d (fun _ => imm12 i)

/-- SHORI (spec/06 R133): (u << 12) + i. -/
def execShori (d a : Reg) (i : BitVec 12) (s : State) : Host.Outcome State Fault Refusal :=
  s.alu [a, d] d (fun t => (t.x a) <<< 12 + uimm12 i)

/-- RDSR (spec/05 R113): a number outside Table 5.4 raises Illegal Instruction. -/
def execRdsr (d : Reg) (sr : BitVec 12) (s : State) : Host.Outcome State Fault Refusal :=
  s.issue {} [d] (fun t => if SpecialReg.assigned sr then s.readSpecial d sr.toNat t else s.trapWord t 1)
/-- WRSR (spec/05 R113). -/
def execWrsr (a : Reg) (sr : BitVec 12) (s : State) : Host.Outcome State Fault Refusal :=
  s.issue {} [a] (fun t => s.writeSpecial sr.toNat (fun _ => t.x a) t)
/-- SETSR (spec/05 R113). -/
def execSetsr (a : Reg) (sr : BitVec 12) (s : State) : Host.Outcome State Fault Refusal :=
  s.issue {} [a] (fun t => s.writeSpecial sr.toNat (fun v => v ||| t.x a) t)
/-- CLRSR (spec/05 R113). -/
def execClrsr (a : Reg) (sr : BitVec 12) (s : State) : Host.Outcome State Fault Refusal :=
  s.issue {} [a] (fun t => s.writeSpecial sr.toNat (fun v => v &&& ~~~(t.x a)) t)

/-- A literal of the kernel that the slot fetches from, none at or above NLIT (spec/05 R121). -/
def State.literal (s : State) (t : Slot) (idx : Nat) : Option Word :=
  match s.kernelOf t with
  | some k => k.literals[idx]?
  | none => none
/-- LIT (spec/06 R134; spec/05 R121). -/
def execLit (d : Reg) (idx : BitVec 14) (s : State) : Host.Outcome State Fault Refusal :=
  s.issue {} [d] (fun t => match s.literal t idx.toNat with
    | some v => .done (s.retire s.cur (fun t => t.setX d v))
    | none => s.trapWord t 1)
/-- LIT.W (spec/06 R134): the low 32 bits, sign-extended. -/
def execLitW (d : Reg) (idx : BitVec 14) (s : State) : Host.Outcome State Fault Refusal :=
  s.issue {} [d] (fun t => match s.literal t idx.toNat with
    | some v => .done (s.retire s.cur (fun t => t.setX d (sextW v)))
    | none => s.trapWord t 1)

end Sys2Proof.Machine
end

