-- ==== Sys2Proof/Machine/ScalarFloat.lean ====
section
/-! DEFINITION. The scalar FP32 instructions (spec/06 R135). -/

namespace Sys2Proof.Machine

/-- The FP32 operand in a register: bits 31:0 (spec/06 R135). -/
def Slot.f (t : Slot) (r : Reg) : BitVec 32 := (t.x r).setWidth 32
/-- An FP32 result: zero-extended. -/
def fres (r : BitVec 32 × BitVec 7) : Word × BitVec 7 := (r.1.setWidth 64, r.2)
/-- A comparison's result. -/
def fcmp (r : Bool × BitVec 7) : Word × BitVec 7 := (boolW r.1, r.2)
/-- An integer result. -/
def fint (r : Int × BitVec 7) : Word × BitVec 7 := (wrap r.1, r.2)

/-- FADD (spec/06 R135): a + b, rounded under RM. -/
def execFadd (d a b : Reg) (s : State) : Host.Outcome State Fault Refusal :=
  s.slow 0 [a, b, d] d true (fun t u => fres (fadd32 t.rc u (t.f a) (t.f b)))

/-- FSUB (spec/06 R135): a − b, rounded under RM. -/
def execFsub (d a b : Reg) (s : State) : Host.Outcome State Fault Refusal :=
  s.slow 0 [a, b, d] d true (fun t u => fres (fsub32 t.rc u (t.f a) (t.f b)))

/-- FMUL (spec/06 R135): a × b, rounded under RM. -/
def execFmul (d a b : Reg) (s : State) : Host.Outcome State Fault Refusal :=
  s.slow 0 [a, b, d] d true (fun t u => fres (fmul32 t.rc u (t.f a) (t.f b)))

/-- FDIV (spec/06 R135): a / b, rounded under RM. -/
def execFdiv (d a b : Reg) (s : State) : Host.Outcome State Fault Refusal :=
  s.slow 2 [a, b, d] d true (fun t u => fres (fdiv32 t.rc u (t.f a) (t.f b)))

/-- FSQRT (spec/06 R135). -/
def execFsqrt (d a : Reg) (s : State) : Host.Outcome State Fault Refusal :=
  s.slow 2 [a, d] d true (fun t u => fres (fsqrt32 t.rc u (t.f a)))

/-- FMADD (spec/06 R135): a × b + d, rounded once. -/
def execFmadd (d a b : Reg) (s : State) : Host.Outcome State Fault Refusal :=
  s.slow 0 [a, b, d] d true (fun t u => fres (fma32 false t.rc u (t.f a) (t.f b) (t.f d)))

/-- FMIN (spec/06 R135). -/
def execFmin (d a b : Reg) (s : State) : Host.Outcome State Fault Refusal :=
  s.slow 0 [a, b, d] d false (fun t _ => fres (fmin32 (t.f a) (t.f b), 0))

/-- FMAX (spec/06 R135). -/
def execFmax (d a b : Reg) (s : State) : Host.Outcome State Fault Refusal :=
  s.slow 0 [a, b, d] d false (fun t _ => fres (fmax32 (t.f a) (t.f b), 0))

/-- FABS (spec/06 R135): bit 31 cleared. -/
def execFabs (d a : Reg) (s : State) : Host.Outcome State Fault Refusal :=
  s.alu [a, d] d (fun t => (fabs32 (t.f a)).setWidth 64)

/-- FNEG (spec/06 R135): bit 31 inverted. -/
def execFneg (d a : Reg) (s : State) : Host.Outcome State Fault Refusal :=
  s.alu [a, d] d (fun t => (fneg32 (t.f a)).setWidth 64)

/-- FEQ (spec/06 R135). -/
def execFeq (d a b : Reg) (s : State) : Host.Outcome State Fault Refusal :=
  s.slow 0 [a, b, d] d false (fun t _ => fcmp (feq32 (t.f a) (t.f b), 0))

/-- FLT (spec/06 R135): Invalid when an operand is NaN. -/
def execFlt (d a b : Reg) (s : State) : Host.Outcome State Fault Refusal :=
  s.slow 0 [a, b, d] d false (fun t _ => fcmp (flt32 (t.f a) (t.f b)))

/-- FLE (spec/06 R135): Invalid when an operand is NaN. -/
def execFle (d a b : Reg) (s : State) : Host.Outcome State Fault Refusal :=
  s.slow 0 [a, b, d] d false (fun t _ => fcmp (fle32 (t.f a) (t.f b)))

/-- FCLASS (spec/06 R135). -/
def execFclass (d a : Reg) (s : State) : Host.Outcome State Fault Refusal :=
  s.alu [a, d] d (fun t => wordN (fclass32 (t.f a)))

/-- FTOI (spec/06 R135): to [−2^63, 2^63 − 1]. -/
def execFtoi (d a : Reg) (s : State) : Host.Outcome State Fault Refusal :=
  s.slow 0 [a, d] d true (fun t u => fint (ftoi32 (-(2 ^ 63)) (2 ^ 63 - 1) t.rc u (t.f a)))

/-- FTOU (spec/06 R135): to [0, 2^64 − 1]. -/
def execFtou (d a : Reg) (s : State) : Host.Outcome State Fault Refusal :=
  s.slow 0 [a, d] d true (fun t u => fint (ftoi32 0 (2 ^ 64 - 1) t.rc u (t.f a)))

/-- ITOF (spec/06 R135): the signed value rounded to FP32. -/
def execItof (d a : Reg) (s : State) : Host.Outcome State Fault Refusal :=
  s.slow 0 [a, d] d true (fun t u => fres (itof32 t.rc u (sgn (t.x a))))

/-- UTOF (spec/06 R135): the unsigned value rounded to FP32. -/
def execUtof (d a : Reg) (s : State) : Host.Outcome State Fault Refusal :=
  s.slow 0 [a, d] d true (fun t u => fres (itof32 t.rc u (t.x a).toNat))

end Sys2Proof.Machine
end

