-- ==== Sys2Proof/Machine/Select.lean ====
section
/-! DEFINITION. The select unit of S-tiles (spec/10 R250 to R253). -/

namespace Sys2Proof.Machine

/-- E of a select configuration (spec/10 Table 10.9). -/
def selE (v : Word) : Nat := bits v 10 0
/-- GS, the group size. -/
def selGS (v : Word) : Nat := 2 ^ bits v 19 16
/-- GL, the group limit, 0 for none. -/
def selGL (v : Word) : Nat := bits v 28 24
/-- A configuration that SEL.CFG refuses (spec/10 R250). -/
def selBad (v : Word) : Bool :=
  bits v 63 29 != 0 || bits v 23 20 != 0 || bits v 15 11 != 0 || decide (1024 < selE v) || decide (10 < bits v 19 16) ||
    decide (16 < selGL v)
/-- Bytes of the memory operand of an address in the slot's own scratchpad, aligned to 64 (spec/10 R250, R251): a cause. -/
def State.selCause (s : State) (va : Word) (n : Nat) : Option Nat :=
  match s.ownScratch s.cur va 1 with
  | none => some 4
  | some off => if va.toNat % 64 ≠ 0 then some 5 else if off + n ≤ 0x400000 then none else some 4
/-- A select instruction accepted into its queue (spec/02 R39, spec/10 R252). -/
def State.acceptSelect (s : State) (e : SelEntry) (f : Slot → Slot) : Issue :=
  if 4 ≤ (s.slot s.cur).sq.length then .wait s
  else .done ((s.retire s.cur (fun t =>
    let t := f t
    { t with sq := t.sq ++ [{ e with serial := t.entrySerial }], entrySerial := t.entrySerial + 1 })).post (.selectEntryBind s.cur))
/-- An entry with what it reads at issue. -/
def selEntry (t : Slot) (op : SelOp) (d a b : Reg) (k : Nat) : SelEntry :=
  { op := op, bank := t.bank, d := d, xa := t.x a, xb := t.x b, k := k, data := [], serial := 0 }

/-- SEL.CFG (spec/10 R250). -/
def execSelCfg (a : Reg) (s : State) : Host.Outcome State Fault Refusal :=
  s.issue { engine := true, stile := true } [a] (fun t =>
    if selBad (t.x a) then s.trapWord t 1
    else s.acceptSelect (selEntry t .cfg 0 a 0 0) (fun t => { t with sel := { t.sel with issued := t.x a } }))
/-- SEL.MASK (spec/10 R250): the 128 bytes at X[a]. -/
def execSelMask (a : Reg) (s : State) : Host.Outcome State Fault Refusal :=
  s.issue { engine := true, stile := true } [a] (fun t =>
    match s.selCause (t.x a) 128 with
    | some c => .trap c (t.x a)
    | none => if s.acquirePending s.cur then .wait s else s.acceptSelect (selEntry t .mask 0 a 0 0) id)
/-- SEL.DEAD (spec/10 R250). -/
def execSelDead (a b : Reg) (s : State) : Host.Outcome State Fault Refusal :=
  s.issue { engine := true, stile := true } [a, b] (fun t =>
    if bits (t.x a) 63 10 ≠ 0 then s.trapWord t 1 else s.acceptSelect (selEntry t .dead 0 a b 0) id)
/-- TOPK and TOPK.MORE (spec/10 R251): the checks use E of the last SEL.CFG issued. -/
def State.topk (s : State) (op : SelOp) (d a b : Reg) (k : Fin 16) : Host.Outcome State Fault Refusal :=
  s.issue { engine := true, stile := true } [a, b, d] (fun t =>
    let n := selE t.sel.issued
    if n = 0 then s.trapWord t 1
    else match s.selCause (t.x a) (4 * n), s.selCause (t.x b) (8 * (k.val + 1)) with
      | some c, _ => .trap c (t.x a)
      | none, some c => .trap c (t.x b)
      | none, none => if s.acquirePending s.cur then .wait s else s.acceptSelect (selEntry t op d a b (k.val + 1)) id)
/-- TOPK (spec/10 R251). -/
def execTopk (d a b : Reg) (k : Fin 16) (s : State) : Host.Outcome State Fault Refusal := s.topk .topk d a b k
/-- TOPK.MORE (spec/10 R251): WIN and GRP are kept. -/
def execTopkMore (d a b : Reg) (k : Fin 16) (s : State) : Host.Outcome State Fault Refusal := s.topk .topkMore d a b k
/-- SEL.RES (spec/10 R253). -/
def execSelRes (d a : Reg) (s : State) : Host.Outcome State Fault Refusal :=
  s.issue { engine := true, stile := true } [a, d] (fun t =>
    if bits (t.x a) 63 18 ≠ 0 ∨ bits (t.x a) 15 10 ≠ 0 then s.trapWord t 1 else s.acceptSelect (selEntry t .res d a 0 0) id)
/-- SEL.WAIT (spec/10 R252): not ready until every select entry of the slot has completed. -/
def execSelWait (s : State) : Host.Outcome State Fault Refusal :=
  s.issue { engine := true, stile := true } [] (fun t => if t.sq.isEmpty && t.sbound.isEmpty then .done (s.retire s.cur id) else .wait s)

/-- The cost of a select entry (spec/10 R252). -/
def SelEntry.cost (e : SelEntry) : Nat :=
  match e.op with
  | .topk | .topkMore => 16 + 3 * e.k
  | .mask => 2
  | _ => 1
/-- The bytes that an entry reads when it binds: own-tile offset and length. -/
def SelEntry.reads (e : SelEntry) (cfg : Word) : Option (Nat × Nat) :=
  match e.op with
  | .mask => some (bits e.xa 29 0, 128)
  | .topk | .topkMore => some (bits e.xa 29 0, 4 * selE cfg)
  | _ => none
/-- The state of a tournament and the results found, in order (spec/10 R251). -/
structure Ranking where
  win : BitVec 1024
  grp : BitVec 1024
  out : List Word
/-- The score of an expert. -/
def scoreOf (data : Bytes) (e : Nat) : BitVec 32 := BitVec.ofNat 32 (field data (4 * e) 4)
/-- An expert may win next. -/
def Ranking.eligible (r : Ranking) (cfg : Word) (dead : BitVec 1024) (data : Bytes) (e : Nat) : Bool :=
  !testN dead.toNat e && !(decode32 (scoreOf data e)).isNaN && !testN r.win.toNat e &&
    (selGL cfg == 0 || testN r.grp.toNat (e / selGS cfg) || decide (popN 1024 r.grp.toNat < selGL cfg))
/-- The eligible expert with the largest score, the lowest on a tie. -/
def Ranking.best (r : Ranking) (cfg : Word) (dead : BitVec 1024) (data : Bytes) : Option Nat :=
  (List.range (selE cfg)).foldl (fun b e =>
    if !r.eligible cfg dead data e then b
    else match b with
      | none => some e
      | some w => if ltNum (decode32 (scoreOf data w)) (decode32 (scoreOf data e)) then some e else b) none
/-- The ranking (spec/10 R251): up to `n` winners. -/
def Ranking.run (cfg : Word) (dead : BitVec 1024) (data : Bytes) : (n : Nat) → Ranking → Ranking
  | 0, r => r
  | n + 1, r =>
    match r.best cfg dead data with
    | none => r
    | some w => Ranking.run cfg dead data n
      { win := setBit r.win w true, grp := setBit r.grp (w / selGS cfg) true
        out := r.out ++ [wordN (w + 2 ^ 32 * (scoreOf data w).toNat)] }
/-- A select entry completes (spec/10 R250 to R253). -/
def State.completeSelect (s : State) (g : Nat) (e : SelEntry) : State :=
  let gt := tileOfSlot g
  let c := (s.slot g).sel
  match e.op with
  | .cfg => s.onSlot g (fun t => { t with sel := { t.sel with cfg := e.xa, win := 0, grp := 0 } })
  | .mask => s.onSlot g (fun t => { t with sel := { t.sel with dead := BitVec.ofNat 1024 (ofBytes e.data) } })
  | .dead => s.onSlot g (fun t => { t with sel := { t.sel with dead := setBit t.sel.dead (bits e.xa 9 0) (testW e.xb 0) } })
  | .res =>
    let i := bits e.xa 9 0
    let row := Assoc.get (0, 0) (s.tile gt).residency i
    let s := if testW e.xa 17 then
        s.onTile gt (fun u => { u with residency := Assoc.set u.residency i (setBit row.1 63 false, row.2) }) else s
    s.onSlot g (fun t => t.writeX e.bank e.d (if testW e.xa 16 then row.2 else row.1))
  | _ =>
    let start : Ranking := if e.op == .topk then { win := 0, grp := 0, out := [] } else { win := c.win, grp := c.grp, out := [] }
    let r := Ranking.run c.cfg c.dead e.data e.k start
    let pad := List.replicate (e.k - r.out.length) (0xFF8000000000FFFF : Word)
    let s := s.writeTarget (.tile gt (bits e.xb 29 0)) ((r.out ++ pad).flatMap (fun v => toBytes 8 v.toNat)) false
    s.onSlot g (fun t =>
      (({ t with sel := { t.sel with win := r.win, grp := r.grp } } : Slot).writeX e.bank e.d (wordN r.out.length)).orFlags
        (if r.out.length < e.k then flagShort else 0))
/-- The heads of a tile's select queues. -/
def State.selHeads (s : State) (gt : Nat) : Vector (Option Head) 4 :=
  Vector.ofFn (fun i =>
    let t := s.slot (gt * 4 + i.val)
    match t.sq with
    | e :: _ => some { cost := e.cost, ready := t.heldBy.isNone }
    | [] => none)
/-- SELECT_ENTRY_BIND (spec/10 R252): when the unit is free, the arbiter binds a head; when it is this slot's, its scores or
mask are read. Poison there ends the task as for a matrix entry. -/
def execSelectEntryBind (slot : Nat) (s : State) : Host.Outcome State Fault Refusal :=
  .next (
    let gt := tileOfSlot slot
    let t := s.slot slot
    let again := s.defer (.selectEntryBind slot)
    match t.sq with
    | [] => s
    | e :: _ =>
      if s.enginesHold slot || (s.tile gt).sel.busy.isSome then again
      else match (s.tile gt).sel.pick (s.selHeads gt) (s.quanta gt true) with
        | none => again
        | some (i, arb) =>
          if i.val ≠ slot % 4 then again
          else
            let r := match e.reads t.sel.cfg with
              | some (off, n) => s.readTarget (.tile gt off) n
              | none => ([], false)
            if r.2 then (s.onSlot slot (fun t => { t with heldBy := some e.serial })).consumePoison slot
            else
              let s := s.onSlot slot (fun t => { t with
                sq := t.sq.drop 1, sbound := t.sbound ++ [{ e with data := r.1 }], usel := t.usel + wordN e.cost })
              (s.onTile gt (fun u => { u with
                sel := { (arb.emptied (Fin.ofNat 4 slot) (s.slot slot).sq.isEmpty) with busy := some (slot, e.serial) } })).post
                (.selectEntryComplete gt))
/-- SELECT_ENTRY_COMPLETE (spec/10 R252): the entry that occupies the unit writes its results and flags. -/
def execSelectEntryComplete (gtile : Nat) (s : State) : Host.Outcome State Fault Refusal :=
  .next (match (s.tile gtile).sel.busy with
    | none => s
    | some (g, serial) =>
      if s.enginesHold g then s.defer (.selectEntryComplete gtile)
      else
        let s' := s.onTile gtile (fun u => { u with sel := u.sel.free })
        match (s.slot g).sbound.find? (fun e => e.serial == serial) with
        | none => s'
        | some e => (s'.completeSelect g e).onSlot g (fun t => { t with sbound := t.sbound.filter (fun p => p.serial != serial) }))

/-- RESIDENCY_RECORD (spec/10 R253, spec/09 R206): a record replaces its entry, or is refused when its EXPERT is 1,024 or
above; the CP.DECOMP that sent it is told. -/
def execResidencyRecord (gtile expert : Nat) (w0 w1 : Word) (engine : Option Nat) (s : State) : Host.Outcome State Fault Refusal :=
  let ok := decide (expert < 1024) && isSTile gtile && !s.lostDie (dieOf gtile)
  let s := if ok then s.onTile gtile (fun t => { t with residency := Assoc.set t.residency expert (w0, w1) }) else s
  .next (match engine with
    | some e => (match (vget (s.tile (e / 8)).gens (e % 8)).queue with
      | c :: _ => if c.kind = 6 && c.row = 1 && c.code.isNone then s.endCmd (e / 8) (e % 8) (if ok then 0 else 7) else s
      | [] => s)
    | none => s)

end Sys2Proof.Machine
end

