-- ==== Sys2Proof/Machine/Vector.lean ====
section
/-! DEFINITION. The vector queue: issue, begin, completion and memory accesses of vector entries (spec/07). -/

namespace Sys2Proof.Machine

/-- The cost of an entry (spec/07 Table 7.1). -/
def VecOp.cost : VecOp → Nat
  | .fdiv | .fsqrt | .lds | .sts => 16
  | .fadd | .fsub | .fmul | .fma | .fnma | .fmin | .fmax | .fabs | .fneg | .fscaleb | .fmuls | .fmas => 2
  | .frcp | .frsq | .fexp2 | .fexp | .flog2 | .ftanh | .fsigm | .fsin | .fcos | .redfaddx => 8
  | .perm | .perm2 | .splat | .rot | .slideup | .slidedn | .zip | .unzip | .compress => 2
  | .cvt | .cvtF32 | .ftoi | .ftou | .itof | .utof | .cvtMx | .cvtF32Mx | .mxsc | .rand | .narrow | .widen => 2
  | .redadd | .redaddu | .redmin | .redmax | .redminu | .redmaxu | .redfmin | .redfmax | .ld | .st => 4
  | .redfadd | .scanadd => 6
  | .scanfadd | .gather | .scatter => 32
  | _ => 1
/-- The vector registers that an entry names (spec/07 R156). -/
def VecEntry.vregs (e : VecEntry) : List Reg :=
  match e.op with
  | .mand | .mor | .mxor | .mandn | .mnot | .mpopc | .mfirst | .mmov | .mrd => []
  | .bcast | .lane | .rand | .ins => [e.d]
  | .mvx | .redadd | .redaddu | .redmin | .redmax | .redminu | .redmaxu | .redfadd | .redfmin | .redfmax | .redfaddx
  | .mxsc => [e.a]
  | .cfeq | .cflt | .cfle | .cfun | .ceq | .cne | .clt | .cle | .cltu | .cleu => [e.a, e.b]
  | .ceqx | .cltx | .cgtx => [e.a]
  | .perm2 => [e.d, e.a, e.a + 1, e.b]
  | .ld | .st | .lds | .sts => [e.d]
  | .gather | .scatter => [e.d, e.b]
  | .splat | .rot | .slideup | .slidedn | .compress | .fsqrt | .fabs | .fneg | .frcp | .frsq | .fexp2 | .fexp | .flog2
  | .ftanh | .fsigm | .fsin | .fcos | .abs | .not | .popc | .clz | .fmuls | .fmas | .addx | .mulx | .macx | .srax | .scanadd
  | .scanfadd | .cvt | .cvtF32 | .ftoi | .ftou | .itof | .utof | .cvtMx | .cvtF32Mx | .narrow | .widen => [e.d, e.a]
  | _ => [e.d, e.a, e.b]
/-- An operation that rounds under a code and so takes a stochastic word under .SR (spec/07 R156, R159, R166 to R169). -/
def VecOp.rounds : VecOp → Bool
  | .fadd | .fsub | .fmul | .fdiv | .fsqrt | .fma | .fnma | .fscaleb | .fmuls | .fmas | .redfadd | .scanfadd | .redfaddx
  | .cvt | .ftoi | .ftou | .itof | .utof | .cvtMx | .cvtF32Mx => true
  | _ => false
/-- Registers of a vector instruction: d, a, b, mask, format, part, element size, rounding field. -/
structure VecWord where
  op : VecOp
  d : Fin 32 := 0
  a : Fin 32 := 0
  b : Fin 32 := 0
  mask : VMask := none
  fmt : Nat := 0
  part : Nat := 0
  es : Nat := 0
  rc : Rc := .fromRM
/-- The entry of a vector instruction with what it reads at issue (spec/07 R156). -/
def VecWord.entry (w : VecWord) (t : Slot) (targets : List Target) : VecEntry :=
  { op := w.op, bank := t.bank, pc := t.pc, d := w.d, a := w.a, b := w.b, mask := w.mask, fmt := w.fmt, part := w.part
    es := w.es, xa := t.x w.a, xb := t.x w.b, rc := Rc.resolve w.rc t.rc, seed := t.seed, seq := t.srseq
    super := t.status.super, targets := targets, serial := t.entrySerial }
/-- A slot with an entry appended to its vector queue (spec/02 R39); one that draws takes its n (spec/03 R79). -/
def Slot.pushVec (t : Slot) (e : VecEntry) : Slot :=
  let t := { t with vq := t.vq ++ [e], entrySerial := t.entrySerial + 1 }
  if (e.op.rounds && e.rc == 4) || e.op == .rand then { t with srseq := t.srseq + 1 } else t

/-- A vector instruction other than a memory access: its own checks give a cause, then it waits for room in the queue. -/
def State.vector (s : State) (regs : List Reg) (w : VecWord) (bad : Slot → Option Nat) : Host.Outcome State Fault Refusal :=
  s.issue { engine := true } regs (fun t =>
    match bad t with
    | some c => s.trapWord t c
    | none =>
      if 8 ≤ t.vq.length then .wait s
      else .done ((s.retire s.cur (fun t => t.pushVec (w.entry t []))).post (.vectorEntryBegin s.cur)))
/-- No check of its own. -/
def vecOk (_ : Slot) : Option Nat := none

/-- The format check of spec/07 R158 and R168: codes from `lo` to `hi`, and the part. -/
def fmtCause (fmt part lo hi : Nat) : Option Nat :=
  let code := bitsN fmt 3 0
  let signed := testN fmt 4
  match runLength code with
  | some l => if 256 < (part + 1) * l then some 1
    else if (signed && !(decide (1 ≤ code ∧ code ≤ 7))) || !(decide (lo ≤ code ∧ code ≤ hi)) then some 6 else none
  | none => some 6
/-- The check of a scale descriptor (spec/07 R170). -/
def scaleCause (x : Word) (packing : Bool) : Option Nat :=
  if bits x 63 24 ≠ 0 ∨ bits x 7 5 ≠ 0 ∨ (mxEmax (bits x 4 0)).isNone then some 6
  else if packing ∧ (bits x 15 8 = 0xFF ∨ bits x 23 16 = 0xFF) then some 6
  else none

/-- The check of one lane's address (spec/07 R173): with `base`, a gather's or scatter's X[a]. -/
def State.checkLane (s : State) (g : Nat) (super write : Bool) (e : Nat) (base : Option Word) (va : Word) : Checked :=
  let t := s.slot g
  match classify va with
  | .bad => .trap 4
  | .window pkg gt off =>
    if va.toNat % e ≠ 0 then .trap 5
    else
      let own := decide (pkg = s.mgmt.package)
      let region := (own || Config.configuredPackage pkg) && (isMTile gt || isSTile gt) && s.ownsTile t.part pkg gt &&
        decide (off + e ≤ 0x400000)
      let same := match base with
        | some x => classify x == .window pkg gt (bits x 29 0)
        | none => true
      if region && same then .ok (if own then .tile gt off else .remoteTile pkg gt off) else .trap 4
  | .virtual =>
    if va.toNat % e ≠ 0 then .trap 5
    else if base.isSome then .trap 4
    else match s.translate (tileOfSlot g) t.part super (if write then .write else .read) va (slotAsker g) with
      | .ok q => .ok q
      | .fault c _ _ => .trap c
      | .miss => .wait
/-- The lanes checked in order: their targets, or the first lane that fails or must wait, with its address. -/
def State.checkLanes (s : State) (g : Nat) (super write : Bool) (e : Nat) (base : Option Word) :
    List Word → Except (Checked × Word) (List Target)
  | [] => .ok []
  | va :: rest =>
    match s.checkLane g super write e base va with
    | .ok q => (match s.checkLanes g super write e base rest with
      | .ok l => .ok (q :: l)
      | .error x => .error x)
    | c => .error (c, va)
/-- VLD, VST, VLDS, VSTS (spec/07 R173): all 64 lanes are checked at issue. -/
def State.vectorMem (s : State) (regs : List Reg) (w : VecWord) (write : Bool) : Host.Outcome State Fault Refusal :=
  s.issue { engine := true } regs (fun t =>
    if write && w.es == 2 then s.trapWord t 1
    else if 8 ≤ t.vq.length || s.acquirePending s.cur then .wait s
    else
      let addrs := (List.range 64).map (laneAddr w.op w.es (t.x w.a) (t.x w.b) 0)
      match s.checkLanes s.cur t.status.super write (esBytes w.es) none addrs with
      | .ok l => .done ((s.retire s.cur (fun t => t.pushVec (w.entry t l))).post (.vectorEntryBegin s.cur))
      | .error (.trap c, va) => .trap c va
      | .error (_, va) => .wait (s.askHome (tileOfSlot s.cur) t.part va (slotAsker s.cur)))
/-- VGATHER and VSCATTER (spec/07 R173): from the issue the slot is not ready until the entry has passed its checks, and only
then does the instruction retire. -/
def State.vectorIndexed (s : State) (regs : List Reg) (w : VecWord) (write : Bool) : Host.Outcome State Fault Refusal :=
  s.issue { engine := true } regs (fun t =>
    if write && w.es == 2 then s.trapWord t 1
    else if 8 ≤ t.vq.length || s.acquirePending s.cur then .wait s
    else .done ((s.onSlot s.cur (fun t => { t.pushVec (w.entry t []) with heldBy := some t.entrySerial })).post
      (.vectorEntryBegin s.cur)))

/-- What an entry reads (spec/07 R156). -/
def Slot.vecIn (t : Slot) (gtile : Nat) (e : VecEntry) : VecIn :=
  let mr := fun (r : Fin 32) => t.getM e.bank (Fin.ofNat 8 r.val)
  { a := t.getV gtile e.bank e.a, a1 := t.getV gtile e.bank (e.a + 1), b := t.getV gtile e.bank e.b
    d := t.getV gtile e.bank e.d, m := t.activeMask e, ma := mr e.a, mb := mr e.b, md := mr e.d, inst := t.instance_
    taskid := t.taskid, lt := t.lt }
/-- What an entry wrote, put into its destinations (spec/07 R156). -/
def Slot.writeVec (t : Slot) (gtile : Nat) (e : VecEntry) (o : VecOut) : Slot :=
  let t := match o.v with
    | some v => t.setV gtile e.bank e.d v
    | none => t
  let t := match o.m with
    | some m => t.setM e.bank (Fin.ofNat 8 e.d.val) m
    | none => t
  let t := match o.x with
    | some x => t.writeX e.bank e.d x
    | none => t
  t.orFlags o.flags

/-- The head of a slot's vector queue can begin (spec/07 R156): no register that it names awaits the data of a load of the main flow or of
a handler that has the same registers (spec/02 R55), and a load that met poison lets no later entry begin (R176). -/
def Slot.vecHeadReady (t : Slot) (gtile : Nat) (e : VecEntry) : Bool :=
  let pending := t.vbound.filter (fun p => p.op.isLoad)
  pending.all (fun p => !(t.usesHandlerV gtile p.bank == t.usesHandlerV gtile e.bank && e.vregs.contains p.d)) &&
    (match t.heldBy with
     | some n => n == e.serial || t.vq.any (fun q => q.serial == n)
     | none => true) && t.deferred.isNone
/-- The vector port can send what an entry sends outside the module (spec/16 R341). -/
def State.vecRoom (s : State) (gtile : Nat) (e : VecEntry) : Bool :=
  !(e.op.isMemory && (e.targets.isEmpty || e.targets.any (fun t => t.remote))) || s.retryRoom (s.sourceNo gtile 4)
/-- The heads of a tile's vector queues. -/
def State.vecHeads (s : State) (gtile : Nat) : Vector (Option Head) 4 :=
  Vector.ofFn (fun i =>
    let t := s.slot (gtile * 4 + i.val)
    match t.vq with
    | e :: _ => some { cost := e.op.cost, ready := t.vecHeadReady gtile e && s.vecRoom gtile e }
    | [] => none)

/-- Snoops that the lanes of an access must wait for (spec/16 R354). -/
def State.snoopLanes (s : State) (l : List (Nat × Target)) (n : Nat) (write : Bool) : Option State :=
  s.snoop (l.flatMap (fun p => s.heldLines p.2 n)).dedup write
/-- The addresses of an entry's lanes. -/
def VecEntry.addr (e : VecEntry) (v : VecIn) (i : Nat) : Word := laneAddr e.op e.es e.xa e.xb v.b i
/-- A vector load sets out: the requests of lanes outside the module leave, or its data may arrive at once. -/
def State.startLoad (s : State) (g : Nat) (e : VecEntry) (v : VecIn) (l : List (Nat × Target)) : State :=
  if l.any (fun p => p.2.remote) then s.loadLanes g e (e.addr v) l else s.post (.vectorLoadData g [] false)

/-- The entry leaves the queue and occupies the unit; its cost is charged to the task (spec/02 R40). -/
def State.bindVec (s : State) (g : Nat) (e : VecEntry) (arb : Arbiter) : State :=
  let s := s.onSlot g (fun t => { t with vq := t.vq.drop 1, vbound := t.vbound ++ [e], uvec := t.uvec + wordN e.op.cost })
  (s.onTile (tileOfSlot g) (fun u =>
    { u with vec := { (arb.emptied (Fin.ofNat 4 g) (s.slot g).vq.isEmpty) with busy := some (g, e.serial) } })).post
      (.vectorEntryComplete (tileOfSlot g))
/-- The instruction of a gather or scatter retires once its checks have passed (spec/07 R173). -/
def Slot.releaseHeld (t : Slot) (e : VecEntry) : Slot :=
  if t.heldBy = some e.serial then { t.setFlow e.bank (t.flowOf e.bank).advance with heldBy := none } else t
/-- A load of the slot that awaits its data reads bytes that a store would write (spec/04 R92 rule 1). -/
def Slot.loadsOverlap (t : Slot) (l : List (Nat × Target)) (n : Nat) : Bool :=
  t.vbound.any (fun p => p.op.isLoad && p.targets.any (fun q => l.any (fun r => q.overlaps (esBytes p.es) r.2 n)))
/-- A memory entry begins (spec/07 R173, R174). -/
def State.beginMem (s : State) (g : Nat) (e : VecEntry) (arb : Arbiter) (again : State) : State :=
  let t := s.slot g
  let v := t.vecIn (tileOfSlot g) e
  let n := esBytes e.es
  let write := !e.op.isLoad
  let indexed := e.op == .gather || e.op == .scatter
  let act := setBits 64 v.m.toNat
  let checked : Except (Checked × Word) (List (Nat × Target)) :=
    if indexed then
      (match s.checkLanes g e.super write n (some e.xa) (act.map (e.addr v)) with
       | .ok l => .ok (act.zip l)
       | .error x => .error x)
    else .ok (laneTargets v.m e.targets)
  match checked with
  | .error (.trap c, va) =>
    (s.onSlot g (fun t => { t with vq := t.vq.drop 1, deferred := some (BitVec.ofNat 8 c, va, e.pc) })).post (.deferredTrap g)
  | .error (_, va) => (s.askHome (tileOfSlot g) t.part va (slotAsker g)).defer (.vectorEntryBegin g)
  | .ok l =>
    if (write && t.loadsOverlap l n) || !l.all (fun p => s.served t.part (tileOfSlot g) p.2) then again
    else match s.snoopLanes l n write with
    | some s => s.defer (.vectorEntryBegin g)
    | none =>
      let e' := { e with targets := l.map (·.2), addrs := l.map (fun p => e.addr v p.1), xb := v.m }
      let s := (s.onSlot g (fun t => t.releaseHeld e)).bindVec g e' arb
      if write then s.storeLanes g e (e.addr v) v.d l else s.startLoad g e v l
/-- VECTOR_ENTRY_BEGIN (spec/07 R156; spec/02 R40): when the unit is free, the arbiter binds a head that can begin; when that
head is this slot's it begins, else this event waits. -/
def execVectorEntryBegin (slot : Nat) (s : State) : Host.Outcome State Fault Refusal :=
  .next (
    let gt := tileOfSlot slot
    let again := s.defer (.vectorEntryBegin slot)
    match (s.slot slot).vq with
    | [] => s
    | e :: _ =>
      if (s.tile gt).vec.busy.isSome || s.enginesHold slot then again
      else match (s.tile gt).vec.pick (s.vecHeads gt) (s.quanta gt false) with
        | none => again
        | some (i, arb) =>
          if i.val ≠ slot % 4 then again
          else if e.op.isMemory then s.beginMem slot e arb again
          else s.bindVec slot e arb)
/-- VECTOR_ENTRY_COMPLETE (spec/07 R156): the entry that occupies the unit writes its destinations and flags, and the unit is
free; a load's destination is written when its data arrives. -/
def execVectorEntryComplete (gtile : Nat) (s : State) : Host.Outcome State Fault Refusal :=
  .next (match (s.tile gtile).vec.busy with
    | none => s
    | some (g, serial) =>
      if s.enginesHold g then s.defer (.vectorEntryComplete gtile)
      else
        let s' := s.onTile gtile (fun u => { u with vec := u.vec.free })
        match (s.slot g).vbound.find? (fun e => e.serial == serial) with
        | none => s'
        | some e =>
          if e.op.isLoad then s'
          else s'.onSlot g (fun t =>
            { (t.writeVec gtile e (vecCompute e (t.vecIn gtile e))) with vbound := t.vbound.filter (fun p => p.serial != serial) }))
/-- The active lanes of an entry that has begun: lane, target and address. -/
def VecEntry.active (e : VecEntry) : List (Nat × Target × Word) := (setBits 64 e.xb.toNat).zip (e.targets.zip e.addrs)
/-- The value of each active lane of a load: from memory, or from outside the module: the next of the bytes that came with the event, or
what answered the requests `rs`; none while bytes are still to come. A guard that drops the lane's read answers with poison (spec/17 R361). -/
def State.gatherData (s : State) (part gtile : Nat) (rs : List Request) (n : Nat) :
    List (Nat × Target × Word) → Bytes → Option (List (Nat × Nat × Bool))
  | [], _ => some []
  | (i, t, va) :: rest, bs =>
    let v : Option (Nat × Bool) :=
      if s.barred part gtile t then some (0, true)
      else if !t.remote then some (ofBytes (s.readTarget t n).1, (s.readTarget t n).2)
      else if bs.isEmpty then laneReply rs va n
      else some (ofBytes (bs.take n), false)
    match v, s.gatherData part gtile rs n rest (if t.remote then bs.drop n else bs) with
    | some v, some l => some ((i, v) :: l)
    | _, _ => none
/-- The values of a waiting load of a slot, once all have come. -/
def State.loadValues (s : State) (g : Nat) (remote : Bytes) (e : VecEntry) : Option (List (Nat × Nat × Bool)) :=
  let far := (e.active.filter (fun p => p.2.1.remote)).length * esBytes e.es
  if !remote.isEmpty && remote.length != far then none
  else s.gatherData (s.slot g).part (tileOfSlot g) (s.reads (s.issuer g 4 e.super e.serial)) (esBytes e.es) e.active remote
/-- VECTOR_LOAD_DATA (spec/07 R156, R176): the data of the oldest load of a slot whose bytes have all come arrives and its destination is
written; with poison in an active lane nothing is written and the scope is cancelled. The bytes of lanes that lie outside the module come
as the replies to the load's requests, or with the event in lane order. -/
def execVectorLoadData (slot : Nat) (remote : Bytes) (poison : Bool) (s : State) : Host.Outcome State Fault Refusal :=
  .next (match (s.slot slot).vbound.findSome? (fun e => if e.op.isLoad then (s.loadValues slot remote e).map (fun v => (e, v)) else none) with
    | none => s
    | some (e, vals) =>
      let gt := tileOfSlot slot
      let t := s.slot slot
      let n := esBytes e.es
      let src := s.sourceNo gt 4
      let l := e.active.map (fun p => (p.1, p.2.1))
      if s.vecStoreBefore slot e.serial l n || !l.all (fun p => s.turnAt p.2 n src) then s.defer (.vectorLoadData slot remote poison)
      else match s.snoopLanes l n false with
        | some s => s.defer (.vectorLoadData slot remote poison)
        | none =>
          let s := l.foldl (fun s p => s.enterAt p.2 n src) (s.dropReads (s.reads (s.issuer slot 4 e.super e.serial)))
          let s := e.active.foldl (fun s p => if s.barred t.part gt p.2.1 then s.dropAccess 1 t.part src p.2.1 p.2.2 else s) s
          if poison || vals.any (fun p => p.2.2) then
            (s.onSlot slot (fun t => { t with heldBy := some e.serial })).consumePoison slot
          else
            let old := t.getV gt e.bank e.d
            let v := ofLanes (fun i => match vals.find? (fun p => p.1 == i) with
              | some p => loadLane e.es p.2.1
              | none => lane old i)
            s.onSlot slot (fun t =>
              { t.setV gt e.bank e.d v with vbound := t.vbound.filter (fun p => p.serial != e.serial) }))

/-- A mask register number in a field of five bits. -/
def mreg (m : MReg) : Fin 32 := Fin.ofNat 32 m.val
/-- VPERM2 with a = 31 (spec/07 Table 7.7). -/
def perm2Cause (a : Reg) (_ : Slot) : Option Nat := if a = 31 then some 1 else none

/-- VFADD (spec/07 R159). -/
def execVfadd (d : Reg) (a : Reg) (b : Reg) (m : VMask) (s : State) : Host.Outcome State Fault Refusal :=
  s.vector [] { op := .fadd, d := d, a := a, b := b, mask := m } vecOk

/-- VFSUB (spec/07 R159). -/
def execVfsub (d : Reg) (a : Reg) (b : Reg) (m : VMask) (s : State) : Host.Outcome State Fault Refusal :=
  s.vector [] { op := .fsub, d := d, a := a, b := b, mask := m } vecOk

/-- VFMUL (spec/07 R159). -/
def execVfmul (d : Reg) (a : Reg) (b : Reg) (m : VMask) (s : State) : Host.Outcome State Fault Refusal :=
  s.vector [] { op := .fmul, d := d, a := a, b := b, mask := m } vecOk

/-- VFDIV (spec/07 R159). -/
def execVfdiv (d : Reg) (a : Reg) (b : Reg) (m : VMask) (s : State) : Host.Outcome State Fault Refusal :=
  s.vector [] { op := .fdiv, d := d, a := a, b := b, mask := m } vecOk

/-- VFSQRT (spec/07 R159). -/
def execVfsqrt (d : Reg) (a : Reg) (m : VMask) (s : State) : Host.Outcome State Fault Refusal :=
  s.vector [] { op := .fsqrt, d := d, a := a, mask := m } vecOk

/-- VFMA (spec/07 R159). -/
def execVfma (d : Reg) (a : Reg) (b : Reg) (m : VMask) (s : State) : Host.Outcome State Fault Refusal :=
  s.vector [] { op := .fma, d := d, a := a, b := b, mask := m } vecOk

/-- VFNMA (spec/07 R159). -/
def execVfnma (d : Reg) (a : Reg) (b : Reg) (m : VMask) (s : State) : Host.Outcome State Fault Refusal :=
  s.vector [] { op := .fnma, d := d, a := a, b := b, mask := m } vecOk

/-- VFMIN (spec/07 R159). -/
def execVfmin (d : Reg) (a : Reg) (b : Reg) (m : VMask) (s : State) : Host.Outcome State Fault Refusal :=
  s.vector [] { op := .fmin, d := d, a := a, b := b, mask := m } vecOk

/-- VFMAX (spec/07 R159). -/
def execVfmax (d : Reg) (a : Reg) (b : Reg) (m : VMask) (s : State) : Host.Outcome State Fault Refusal :=
  s.vector [] { op := .fmax, d := d, a := a, b := b, mask := m } vecOk

/-- VFABS (spec/07 R159). -/
def execVfabs (d : Reg) (a : Reg) (m : VMask) (s : State) : Host.Outcome State Fault Refusal :=
  s.vector [] { op := .fabs, d := d, a := a, mask := m } vecOk

/-- VFNEG (spec/07 R159). -/
def execVfneg (d : Reg) (a : Reg) (m : VMask) (s : State) : Host.Outcome State Fault Refusal :=
  s.vector [] { op := .fneg, d := d, a := a, mask := m } vecOk

/-- VFSCALEB (spec/07 R159). -/
def execVfscaleb (d : Reg) (a : Reg) (b : Reg) (m : VMask) (s : State) : Host.Outcome State Fault Refusal :=
  s.vector [] { op := .fscaleb, d := d, a := a, b := b, mask := m } vecOk

/-- VFMULS (spec/07 R159). -/
def execVfmuls (d : Reg) (a : Reg) (b : Reg) (m : VMask) (s : State) : Host.Outcome State Fault Refusal :=
  s.vector [b] { op := .fmuls, d := d, a := a, b := b, mask := m } vecOk

/-- VFMAS (spec/07 R159). -/
def execVfmas (d : Reg) (a : Reg) (b : Reg) (m : VMask) (s : State) : Host.Outcome State Fault Refusal :=
  s.vector [b] { op := .fmas, d := d, a := a, b := b, mask := m } vecOk

/-- VFRCP (spec/07 R160). -/
def execVfrcp (d : Reg) (a : Reg) (m : VMask) (s : State) : Host.Outcome State Fault Refusal :=
  s.vector [] { op := .frcp, d := d, a := a, mask := m } vecOk

/-- VFRSQ (spec/07 R160). -/
def execVfrsq (d : Reg) (a : Reg) (m : VMask) (s : State) : Host.Outcome State Fault Refusal :=
  s.vector [] { op := .frsq, d := d, a := a, mask := m } vecOk

/-- VFEXP2 (spec/07 R160). -/
def execVfexp2 (d : Reg) (a : Reg) (m : VMask) (s : State) : Host.Outcome State Fault Refusal :=
  s.vector [] { op := .fexp2, d := d, a := a, mask := m } vecOk

/-- VFEXP (spec/07 R160). -/
def execVfexp (d : Reg) (a : Reg) (m : VMask) (s : State) : Host.Outcome State Fault Refusal :=
  s.vector [] { op := .fexp, d := d, a := a, mask := m } vecOk

/-- VFLOG2 (spec/07 R160). -/
def execVflog2 (d : Reg) (a : Reg) (m : VMask) (s : State) : Host.Outcome State Fault Refusal :=
  s.vector [] { op := .flog2, d := d, a := a, mask := m } vecOk

/-- VFTANH (spec/07 R160). -/
def execVftanh (d : Reg) (a : Reg) (m : VMask) (s : State) : Host.Outcome State Fault Refusal :=
  s.vector [] { op := .ftanh, d := d, a := a, mask := m } vecOk

/-- VFSIGM (spec/07 R160). -/
def execVfsigm (d : Reg) (a : Reg) (m : VMask) (s : State) : Host.Outcome State Fault Refusal :=
  s.vector [] { op := .fsigm, d := d, a := a, mask := m } vecOk

/-- VFSIN (spec/07 R160). -/
def execVfsin (d : Reg) (a : Reg) (m : VMask) (s : State) : Host.Outcome State Fault Refusal :=
  s.vector [] { op := .fsin, d := d, a := a, mask := m } vecOk

/-- VFCOS (spec/07 R160). -/
def execVfcos (d : Reg) (a : Reg) (m : VMask) (s : State) : Host.Outcome State Fault Refusal :=
  s.vector [] { op := .fcos, d := d, a := a, mask := m } vecOk

/-- VADD (spec/07 R161). -/
def execVadd (d : Reg) (a : Reg) (b : Reg) (m : VMask) (s : State) : Host.Outcome State Fault Refusal :=
  s.vector [] { op := .add, d := d, a := a, b := b, mask := m } vecOk

/-- VSUB (spec/07 R161). -/
def execVsub (d : Reg) (a : Reg) (b : Reg) (m : VMask) (s : State) : Host.Outcome State Fault Refusal :=
  s.vector [] { op := .sub, d := d, a := a, b := b, mask := m } vecOk

/-- VMUL (spec/07 R161). -/
def execVmul (d : Reg) (a : Reg) (b : Reg) (m : VMask) (s : State) : Host.Outcome State Fault Refusal :=
  s.vector [] { op := .mul, d := d, a := a, b := b, mask := m } vecOk

/-- VMULH (spec/07 R161). -/
def execVmulh (d : Reg) (a : Reg) (b : Reg) (m : VMask) (s : State) : Host.Outcome State Fault Refusal :=
  s.vector [] { op := .mulh, d := d, a := a, b := b, mask := m } vecOk

/-- VMULHU (spec/07 R161). -/
def execVmulhu (d : Reg) (a : Reg) (b : Reg) (m : VMask) (s : State) : Host.Outcome State Fault Refusal :=
  s.vector [] { op := .mulhu, d := d, a := a, b := b, mask := m } vecOk

/-- VADDS (spec/07 R161). -/
def execVadds (d : Reg) (a : Reg) (b : Reg) (m : VMask) (s : State) : Host.Outcome State Fault Refusal :=
  s.vector [] { op := .adds, d := d, a := a, b := b, mask := m } vecOk

/-- VSUBS (spec/07 R161). -/
def execVsubs (d : Reg) (a : Reg) (b : Reg) (m : VMask) (s : State) : Host.Outcome State Fault Refusal :=
  s.vector [] { op := .subs, d := d, a := a, b := b, mask := m } vecOk

/-- VADDUS (spec/07 R161). -/
def execVaddus (d : Reg) (a : Reg) (b : Reg) (m : VMask) (s : State) : Host.Outcome State Fault Refusal :=
  s.vector [] { op := .addus, d := d, a := a, b := b, mask := m } vecOk

/-- VSUBUS (spec/07 R161). -/
def execVsubus (d : Reg) (a : Reg) (b : Reg) (m : VMask) (s : State) : Host.Outcome State Fault Refusal :=
  s.vector [] { op := .subus, d := d, a := a, b := b, mask := m } vecOk

/-- VMIN (spec/07 R161). -/
def execVmin (d : Reg) (a : Reg) (b : Reg) (m : VMask) (s : State) : Host.Outcome State Fault Refusal :=
  s.vector [] { op := .min, d := d, a := a, b := b, mask := m } vecOk

/-- VMAX (spec/07 R161). -/
def execVmax (d : Reg) (a : Reg) (b : Reg) (m : VMask) (s : State) : Host.Outcome State Fault Refusal :=
  s.vector [] { op := .max, d := d, a := a, b := b, mask := m } vecOk

/-- VMINU (spec/07 R161). -/
def execVminu (d : Reg) (a : Reg) (b : Reg) (m : VMask) (s : State) : Host.Outcome State Fault Refusal :=
  s.vector [] { op := .minu, d := d, a := a, b := b, mask := m } vecOk

/-- VMAXU (spec/07 R161). -/
def execVmaxu (d : Reg) (a : Reg) (b : Reg) (m : VMask) (s : State) : Host.Outcome State Fault Refusal :=
  s.vector [] { op := .maxu, d := d, a := a, b := b, mask := m } vecOk

/-- VABS (spec/07 R161). -/
def execVabs (d : Reg) (a : Reg) (m : VMask) (s : State) : Host.Outcome State Fault Refusal :=
  s.vector [] { op := .abs, d := d, a := a, mask := m } vecOk

/-- VAND (spec/07 R161). -/
def execVand (d : Reg) (a : Reg) (b : Reg) (m : VMask) (s : State) : Host.Outcome State Fault Refusal :=
  s.vector [] { op := .and, d := d, a := a, b := b, mask := m } vecOk

/-- VOR (spec/07 R161). -/
def execVor (d : Reg) (a : Reg) (b : Reg) (m : VMask) (s : State) : Host.Outcome State Fault Refusal :=
  s.vector [] { op := .or, d := d, a := a, b := b, mask := m } vecOk

/-- VXOR (spec/07 R161). -/
def execVxor (d : Reg) (a : Reg) (b : Reg) (m : VMask) (s : State) : Host.Outcome State Fault Refusal :=
  s.vector [] { op := .xor, d := d, a := a, b := b, mask := m } vecOk

/-- VANDN (spec/07 R161). -/
def execVandn (d : Reg) (a : Reg) (b : Reg) (m : VMask) (s : State) : Host.Outcome State Fault Refusal :=
  s.vector [] { op := .andn, d := d, a := a, b := b, mask := m } vecOk

/-- VNOT (spec/07 R161). -/
def execVnot (d : Reg) (a : Reg) (m : VMask) (s : State) : Host.Outcome State Fault Refusal :=
  s.vector [] { op := .not, d := d, a := a, mask := m } vecOk

/-- VSLL (spec/07 R161). -/
def execVsll (d : Reg) (a : Reg) (b : Reg) (m : VMask) (s : State) : Host.Outcome State Fault Refusal :=
  s.vector [] { op := .sll, d := d, a := a, b := b, mask := m } vecOk

/-- VSRL (spec/07 R161). -/
def execVsrl (d : Reg) (a : Reg) (b : Reg) (m : VMask) (s : State) : Host.Outcome State Fault Refusal :=
  s.vector [] { op := .srl, d := d, a := a, b := b, mask := m } vecOk

/-- VSRA (spec/07 R161). -/
def execVsra (d : Reg) (a : Reg) (b : Reg) (m : VMask) (s : State) : Host.Outcome State Fault Refusal :=
  s.vector [] { op := .sra, d := d, a := a, b := b, mask := m } vecOk

/-- VPOPC (spec/07 R161). -/
def execVpopc (d : Reg) (a : Reg) (m : VMask) (s : State) : Host.Outcome State Fault Refusal :=
  s.vector [] { op := .popc, d := d, a := a, mask := m } vecOk

/-- VCLZ (spec/07 R161). -/
def execVclz (d : Reg) (a : Reg) (m : VMask) (s : State) : Host.Outcome State Fault Refusal :=
  s.vector [] { op := .clz, d := d, a := a, mask := m } vecOk

/-- VQMUL (spec/07 R161). -/
def execVqmul (d : Reg) (a : Reg) (b : Reg) (m : VMask) (s : State) : Host.Outcome State Fault Refusal :=
  s.vector [] { op := .qmul, d := d, a := a, b := b, mask := m } vecOk

/-- VSRAR (spec/07 R161). -/
def execVsrar (d : Reg) (a : Reg) (b : Reg) (m : VMask) (s : State) : Host.Outcome State Fault Refusal :=
  s.vector [] { op := .srar, d := d, a := a, b := b, mask := m } vecOk

/-- VADDX (spec/07 R161). -/
def execVaddx (d : Reg) (a : Reg) (b : Reg) (m : VMask) (s : State) : Host.Outcome State Fault Refusal :=
  s.vector [b] { op := .addx, d := d, a := a, b := b, mask := m } vecOk

/-- VMULX (spec/07 R161). -/
def execVmulx (d : Reg) (a : Reg) (b : Reg) (m : VMask) (s : State) : Host.Outcome State Fault Refusal :=
  s.vector [b] { op := .mulx, d := d, a := a, b := b, mask := m } vecOk

/-- VMACX (spec/07 R161). -/
def execVmacx (d : Reg) (a : Reg) (b : Reg) (m : VMask) (s : State) : Host.Outcome State Fault Refusal :=
  s.vector [b] { op := .macx, d := d, a := a, b := b, mask := m } vecOk

/-- VSRAX (spec/07 R161). -/
def execVsrax (d : Reg) (a : Reg) (b : Reg) (m : VMask) (s : State) : Host.Outcome State Fault Refusal :=
  s.vector [b] { op := .srax, d := d, a := a, b := b, mask := m } vecOk

/-- VFEQ (spec/07 R162). -/
def execVfeq (d : MReg) (a : Reg) (b : Reg) (m : VMask) (s : State) : Host.Outcome State Fault Refusal :=
  s.vector [] { op := .cfeq, d := mreg d, a := a, b := b, mask := m } vecOk

/-- VFLT (spec/07 R162). -/
def execVflt (d : MReg) (a : Reg) (b : Reg) (m : VMask) (s : State) : Host.Outcome State Fault Refusal :=
  s.vector [] { op := .cflt, d := mreg d, a := a, b := b, mask := m } vecOk

/-- VFLE (spec/07 R162). -/
def execVfle (d : MReg) (a : Reg) (b : Reg) (m : VMask) (s : State) : Host.Outcome State Fault Refusal :=
  s.vector [] { op := .cfle, d := mreg d, a := a, b := b, mask := m } vecOk

/-- VFUN (spec/07 R162). -/
def execVfun (d : MReg) (a : Reg) (b : Reg) (m : VMask) (s : State) : Host.Outcome State Fault Refusal :=
  s.vector [] { op := .cfun, d := mreg d, a := a, b := b, mask := m } vecOk

/-- VEQ (spec/07 R162). -/
def execVeq (d : MReg) (a : Reg) (b : Reg) (m : VMask) (s : State) : Host.Outcome State Fault Refusal :=
  s.vector [] { op := .ceq, d := mreg d, a := a, b := b, mask := m } vecOk

/-- VNE (spec/07 R162). -/
def execVne (d : MReg) (a : Reg) (b : Reg) (m : VMask) (s : State) : Host.Outcome State Fault Refusal :=
  s.vector [] { op := .cne, d := mreg d, a := a, b := b, mask := m } vecOk

/-- VLT (spec/07 R162). -/
def execVlt (d : MReg) (a : Reg) (b : Reg) (m : VMask) (s : State) : Host.Outcome State Fault Refusal :=
  s.vector [] { op := .clt, d := mreg d, a := a, b := b, mask := m } vecOk

/-- VLE (spec/07 R162). -/
def execVle (d : MReg) (a : Reg) (b : Reg) (m : VMask) (s : State) : Host.Outcome State Fault Refusal :=
  s.vector [] { op := .cle, d := mreg d, a := a, b := b, mask := m } vecOk

/-- VLTU (spec/07 R162). -/
def execVltu (d : MReg) (a : Reg) (b : Reg) (m : VMask) (s : State) : Host.Outcome State Fault Refusal :=
  s.vector [] { op := .cltu, d := mreg d, a := a, b := b, mask := m } vecOk

/-- VLEU (spec/07 R162). -/
def execVleu (d : MReg) (a : Reg) (b : Reg) (m : VMask) (s : State) : Host.Outcome State Fault Refusal :=
  s.vector [] { op := .cleu, d := mreg d, a := a, b := b, mask := m } vecOk

/-- VEQX (spec/07 R162). -/
def execVeqx (d : MReg) (a : Reg) (b : Reg) (m : VMask) (s : State) : Host.Outcome State Fault Refusal :=
  s.vector [b] { op := .ceqx, d := mreg d, a := a, b := b, mask := m } vecOk

/-- VLTX (spec/07 R162). -/
def execVltx (d : MReg) (a : Reg) (b : Reg) (m : VMask) (s : State) : Host.Outcome State Fault Refusal :=
  s.vector [b] { op := .cltx, d := mreg d, a := a, b := b, mask := m } vecOk

/-- VGTX (spec/07 R162). -/
def execVgtx (d : MReg) (a : Reg) (b : Reg) (m : VMask) (s : State) : Host.Outcome State Fault Refusal :=
  s.vector [b] { op := .cgtx, d := mreg d, a := a, b := b, mask := m } vecOk

/-- VSEL (spec/07 R163). -/
def execVsel (d : Reg) (a : Reg) (b : Reg) (m : MReg) (s : State) : Host.Outcome State Fault Refusal :=
  s.vector [] { op := .sel, d := d, a := a, b := b, mask := some m } vecOk

/-- MAND (spec/07 R163). -/
def execMand (d : MReg) (a : MReg) (b : MReg) (s : State) : Host.Outcome State Fault Refusal :=
  s.vector [] { op := .mand, d := mreg d, a := mreg a, b := mreg b } vecOk

/-- MOR (spec/07 R163). -/
def execMor (d : MReg) (a : MReg) (b : MReg) (s : State) : Host.Outcome State Fault Refusal :=
  s.vector [] { op := .mor, d := mreg d, a := mreg a, b := mreg b } vecOk

/-- MXOR (spec/07 R163). -/
def execMxor (d : MReg) (a : MReg) (b : MReg) (s : State) : Host.Outcome State Fault Refusal :=
  s.vector [] { op := .mxor, d := mreg d, a := mreg a, b := mreg b } vecOk

/-- MANDN (spec/07 R163). -/
def execMandn (d : MReg) (a : MReg) (b : MReg) (s : State) : Host.Outcome State Fault Refusal :=
  s.vector [] { op := .mandn, d := mreg d, a := mreg a, b := mreg b } vecOk

/-- MNOT (spec/07 R163). -/
def execMnot (d : MReg) (a : MReg) (s : State) : Host.Outcome State Fault Refusal :=
  s.vector [] { op := .mnot, d := mreg d, a := mreg a } vecOk

/-- MPOPC (spec/07 R163). -/
def execMpopc (d : Reg) (a : MReg) (s : State) : Host.Outcome State Fault Refusal :=
  s.vector [d] { op := .mpopc, d := d, a := mreg a } vecOk

/-- MFIRST (spec/07 R163). -/
def execMfirst (d : Reg) (a : MReg) (s : State) : Host.Outcome State Fault Refusal :=
  s.vector [d] { op := .mfirst, d := d, a := mreg a } vecOk

/-- MMOV (spec/07 R163). -/
def execMmov (d : MReg) (a : Reg) (s : State) : Host.Outcome State Fault Refusal :=
  s.vector [a] { op := .mmov, d := mreg d, a := a } vecOk

/-- MRD (spec/07 R163). -/
def execMrd (d : Reg) (a : MReg) (s : State) : Host.Outcome State Fault Refusal :=
  s.vector [d] { op := .mrd, d := d, a := mreg a } vecOk

/-- VBCAST (spec/07 R164). -/
def execVbcast (d : Reg) (a : Reg) (m : VMask) (s : State) : Host.Outcome State Fault Refusal :=
  s.vector [a] { op := .bcast, d := d, a := a, mask := m } vecOk

/-- VSPLAT (spec/07 R164). -/
def execVsplat (d : Reg) (a : Reg) (b : Reg) (m : VMask) (s : State) : Host.Outcome State Fault Refusal :=
  s.vector [b] { op := .splat, d := d, a := a, b := b, mask := m } vecOk

/-- VPERM (spec/07 R164). -/
def execVperm (d : Reg) (a : Reg) (b : Reg) (m : VMask) (s : State) : Host.Outcome State Fault Refusal :=
  s.vector [] { op := .perm, d := d, a := a, b := b, mask := m } vecOk

/-- VPERM2 (spec/07 R164). -/
def execVperm2 (d : Reg) (a : Reg) (b : Reg) (m : VMask) (s : State) : Host.Outcome State Fault Refusal :=
  s.vector [] { op := .perm2, d := d, a := a, b := b, mask := m } (perm2Cause a)

/-- VROT (spec/07 R164). -/
def execVrot (d : Reg) (a : Reg) (b : Reg) (m : VMask) (s : State) : Host.Outcome State Fault Refusal :=
  s.vector [b] { op := .rot, d := d, a := a, b := b, mask := m } vecOk

/-- VSLIDEUP (spec/07 R164). -/
def execVslideup (d : Reg) (a : Reg) (b : Reg) (m : VMask) (s : State) : Host.Outcome State Fault Refusal :=
  s.vector [b] { op := .slideup, d := d, a := a, b := b, mask := m } vecOk

/-- VSLIDEDN (spec/07 R164). -/
def execVslidedn (d : Reg) (a : Reg) (b : Reg) (m : VMask) (s : State) : Host.Outcome State Fault Refusal :=
  s.vector [b] { op := .slidedn, d := d, a := a, b := b, mask := m } vecOk

/-- VZIP (spec/07 R164). -/
def execVzip (d : Reg) (a : Reg) (b : Reg) (m : VMask) (s : State) : Host.Outcome State Fault Refusal :=
  s.vector [] { op := .zip, d := d, a := a, b := b, mask := m } vecOk

/-- VUNZIP (spec/07 R164). -/
def execVunzip (d : Reg) (a : Reg) (b : Reg) (m : VMask) (s : State) : Host.Outcome State Fault Refusal :=
  s.vector [] { op := .unzip, d := d, a := a, b := b, mask := m } vecOk

/-- VCOMPRESS (spec/07 R164). -/
def execVcompress (d : Reg) (a : Reg) (m : MReg) (s : State) : Host.Outcome State Fault Refusal :=
  s.vector [] { op := .compress, d := d, a := a, mask := some m } vecOk

/-- VLANE (spec/07 R164). -/
def execVlane (d : Reg) (m : VMask) (s : State) : Host.Outcome State Fault Refusal :=
  s.vector [] { op := .lane, d := d, mask := m } vecOk

/-- VMVX (spec/07 R164). -/
def execVmvx (d : Reg) (a : Reg) (b : Reg) (s : State) : Host.Outcome State Fault Refusal :=
  s.vector [d, b] { op := .mvx, d := d, a := a, b := b } vecOk

/-- VINS (spec/07 R164). -/
def execVins (d : Reg) (a : Reg) (b : Reg) (s : State) : Host.Outcome State Fault Refusal :=
  s.vector [a, b] { op := .ins, d := d, a := a, b := b } vecOk

/-- VREDADD (spec/07 R165). -/
def execVredadd (d : Reg) (a : Reg) (m : VMask) (s : State) : Host.Outcome State Fault Refusal :=
  s.vector [d] { op := .redadd, d := d, a := a, mask := m } vecOk

/-- VREDADDU (spec/07 R165). -/
def execVredaddu (d : Reg) (a : Reg) (m : VMask) (s : State) : Host.Outcome State Fault Refusal :=
  s.vector [d] { op := .redaddu, d := d, a := a, mask := m } vecOk

/-- VREDMIN (spec/07 R165). -/
def execVredmin (d : Reg) (a : Reg) (m : VMask) (s : State) : Host.Outcome State Fault Refusal :=
  s.vector [d] { op := .redmin, d := d, a := a, mask := m } vecOk

/-- VREDMAX (spec/07 R165). -/
def execVredmax (d : Reg) (a : Reg) (m : VMask) (s : State) : Host.Outcome State Fault Refusal :=
  s.vector [d] { op := .redmax, d := d, a := a, mask := m } vecOk

/-- VREDMINU (spec/07 R165). -/
def execVredminu (d : Reg) (a : Reg) (m : VMask) (s : State) : Host.Outcome State Fault Refusal :=
  s.vector [d] { op := .redminu, d := d, a := a, mask := m } vecOk

/-- VREDMAXU (spec/07 R165). -/
def execVredmaxu (d : Reg) (a : Reg) (m : VMask) (s : State) : Host.Outcome State Fault Refusal :=
  s.vector [d] { op := .redmaxu, d := d, a := a, mask := m } vecOk

/-- VREDFADD (spec/07 R166). -/
def execVredfadd (d : Reg) (a : Reg) (m : VMask) (s : State) : Host.Outcome State Fault Refusal :=
  s.vector [d] { op := .redfadd, d := d, a := a, mask := m } vecOk

/-- VREDFMIN (spec/07 R165). -/
def execVredfmin (d : Reg) (a : Reg) (m : VMask) (s : State) : Host.Outcome State Fault Refusal :=
  s.vector [d] { op := .redfmin, d := d, a := a, mask := m } vecOk

/-- VREDFMAX (spec/07 R165). -/
def execVredfmax (d : Reg) (a : Reg) (m : VMask) (s : State) : Host.Outcome State Fault Refusal :=
  s.vector [d] { op := .redfmax, d := d, a := a, mask := m } vecOk

/-- VSCANADD (spec/07 R165). -/
def execVscanadd (d : Reg) (a : Reg) (m : VMask) (s : State) : Host.Outcome State Fault Refusal :=
  s.vector [] { op := .scanadd, d := d, a := a, mask := m } vecOk

/-- VSCANFADD (spec/07 R166). -/
def execVscanfadd (d : Reg) (a : Reg) (m : VMask) (s : State) : Host.Outcome State Fault Refusal :=
  s.vector [] { op := .scanfadd, d := d, a := a, mask := m } vecOk

/-- VREDFADDX (spec/07 R167). -/
def execVredfaddx (d : Reg) (a : Reg) (m : VMask) (s : State) : Host.Outcome State Fault Refusal :=
  s.vector [d] { op := .redfaddx, d := d, a := a, mask := m } vecOk

/-- VCVT (spec/07 R169). -/
def execVcvt (d : Reg) (a : Reg) (fmt : FormatField) (m : VMask) (p : Fin 4) (rc : Rc) (s : State) : Host.Outcome State Fault Refusal :=
  s.vector [] { op := .cvt, d := d, a := a, mask := m, fmt := fmt.val, part := p.val, rc := rc } (fun _ => fmtCause fmt.val p.val 0 14)

/-- VCVT_F32 (spec/07 R169). -/
def execVcvtF32 (d : Reg) (a : Reg) (fmt : FormatField) (m : VMask) (p : Fin 4) (s : State) : Host.Outcome State Fault Refusal :=
  s.vector [] { op := .cvtF32, d := d, a := a, mask := m, fmt := fmt.val, part := p.val } (fun _ => fmtCause fmt.val p.val 0 14)

/-- VFTOI (spec/07 R169). -/
def execVftoi (d : Reg) (a : Reg) (m : VMask) (rc : Rc) (s : State) : Host.Outcome State Fault Refusal :=
  s.vector [] { op := .ftoi, d := d, a := a, mask := m, rc := rc } vecOk

/-- VFTOU (spec/07 R169). -/
def execVftou (d : Reg) (a : Reg) (m : VMask) (rc : Rc) (s : State) : Host.Outcome State Fault Refusal :=
  s.vector [] { op := .ftou, d := d, a := a, mask := m, rc := rc } vecOk

/-- VITOF (spec/07 R169). -/
def execVitof (d : Reg) (a : Reg) (m : VMask) (rc : Rc) (s : State) : Host.Outcome State Fault Refusal :=
  s.vector [] { op := .itof, d := d, a := a, mask := m, rc := rc } vecOk

/-- VUTOF (spec/07 R169). -/
def execVutof (d : Reg) (a : Reg) (m : VMask) (rc : Rc) (s : State) : Host.Outcome State Fault Refusal :=
  s.vector [] { op := .utof, d := d, a := a, mask := m, rc := rc } vecOk

/-- VCVT_MX (spec/07 R170). -/
def execVcvtMx (d : Reg) (a : Reg) (b : Reg) (m : VMask) (p : Fin 4) (rc : Rc) (s : State) : Host.Outcome State Fault Refusal :=
  s.vector [b] { op := .cvtMx, d := d, a := a, b := b, mask := m, part := p.val, rc := rc } (fun t => scaleCause (t.x b) true)

/-- VCVT_F32_MX (spec/07 R170). -/
def execVcvtF32Mx (d : Reg) (a : Reg) (b : Reg) (m : VMask) (p : Fin 4) (rc : Rc) (s : State) : Host.Outcome State Fault Refusal :=
  s.vector [b] { op := .cvtF32Mx, d := d, a := a, b := b, mask := m, part := p.val, rc := rc } (fun t => scaleCause (t.x b) false)

/-- VMXSC (spec/07 R170). -/
def execVmxsc (d : Reg) (a : Reg) (fmt : FormatField) (m : VMask) (s : State) : Host.Outcome State Fault Refusal :=
  s.vector [d] { op := .mxsc, d := d, a := a, mask := m, fmt := fmt.val } (fun _ => if (mxEmax fmt.val).isNone then some 6 else none)

/-- VRAND (spec/07 R171). -/
def execVrand (d : Reg) (m : VMask) (s : State) : Host.Outcome State Fault Refusal :=
  s.vector [] { op := .rand, d := d, mask := m } vecOk

/-- VNARROW (spec/07 R169). -/
def execVnarrow (d : Reg) (a : Reg) (fmt : FormatField) (m : VMask) (p : Fin 4) (s : State) : Host.Outcome State Fault Refusal :=
  s.vector [] { op := .narrow, d := d, a := a, mask := m, fmt := fmt.val, part := p.val } (fun _ => fmtCause fmt.val p.val 1 7)

/-- VWIDEN (spec/07 R169). -/
def execVwiden (d : Reg) (a : Reg) (fmt : FormatField) (m : VMask) (p : Fin 4) (s : State) : Host.Outcome State Fault Refusal :=
  s.vector [] { op := .widen, d := d, a := a, mask := m, fmt := fmt.val, part := p.val } (fun _ => fmtCause fmt.val p.val 1 7)

/-- VLD (spec/07 R172). -/
def execVld (d : Reg) (a : Reg) (m : VMask) (es : Fin 4) (s : State) : Host.Outcome State Fault Refusal :=
  s.vectorMem [a] { op := .ld, d := d, a := a, mask := m, es := es.val } false

/-- VST (spec/07 R172). -/
def execVst (d : Reg) (a : Reg) (m : VMask) (es : Fin 4) (s : State) : Host.Outcome State Fault Refusal :=
  s.vectorMem [a] { op := .st, d := d, a := a, mask := m, es := es.val } true

/-- VLDS (spec/07 R172). -/
def execVlds (d : Reg) (a : Reg) (b : Reg) (m : VMask) (es : Fin 4) (s : State) : Host.Outcome State Fault Refusal :=
  s.vectorMem [a, b] { op := .lds, d := d, a := a, b := b, mask := m, es := es.val } false

/-- VSTS (spec/07 R172). -/
def execVsts (d : Reg) (a : Reg) (b : Reg) (m : VMask) (es : Fin 4) (s : State) : Host.Outcome State Fault Refusal :=
  s.vectorMem [a, b] { op := .sts, d := d, a := a, b := b, mask := m, es := es.val } true

/-- VGATHER (spec/07 R172). -/
def execVgather (d : Reg) (a : Reg) (b : Reg) (m : VMask) (es : Fin 4) (s : State) : Host.Outcome State Fault Refusal :=
  s.vectorIndexed [a] { op := .gather, d := d, a := a, b := b, mask := m, es := es.val } false

/-- VSCATTER (spec/07 R172). -/
def execVscatter (d : Reg) (a : Reg) (b : Reg) (m : VMask) (es : Fin 4) (s : State) : Host.Outcome State Fault Refusal :=
  s.vectorIndexed [a] { op := .scatter, d := d, a := a, b := b, mask := m, es := es.val } true

end Sys2Proof.Machine
end

