-- ==== Sys2Proof/Machine/Dispatch.lean ====
section
/-! DEFINITION. One arm per constructor of `Instr`: the meaning of each instruction and event. -/

namespace Sys2Proof.Machine

/-- The effect of one instruction or event on the machine. -/
def exec (i : Instr) (s : State) : Host.Outcome State Fault Refusal :=
  match i with
  | .tlogheadRead part => Sys2Proof.Machine.execTlogheadRead part s
  | .atomfnHighWrite part j v => Sys2Proof.Machine.execAtomfnHighWrite part j v s
  | .atomfnLowWrite part j v => Sys2Proof.Machine.execAtomfnLowWrite part j v s
  | .scalarResult slot => Sys2Proof.Machine.execScalarResult slot s
  | .waitComplete slot => Sys2Proof.Machine.execWaitComplete slot s
  | .replyArrival id value poison => Sys2Proof.Machine.execReplyArrival id value poison s
  | .loadPerform id => Sys2Proof.Machine.execLoadPerform id s
  | .storePerform id => Sys2Proof.Machine.execStorePerform id s
  | .atomicExecute id => Sys2Proof.Machine.execAtomicExecute id s
  | .barrierRequest id => Sys2Proof.Machine.execBarrierRequest id s
  | .spawnRequest id => Sys2Proof.Machine.execSpawnRequest id s
  | .scopeRequest id => Sys2Proof.Machine.execScopeRequest id s
  | .cancelRequest id => Sys2Proof.Machine.execCancelRequest id s
  | .cancelBroadcast die entry => Sys2Proof.Machine.execCancelBroadcast die entry s
  | .kill slot => Sys2Proof.Machine.execKill slot s
  | .killHoldExpiry slot => Sys2Proof.Machine.execKillHoldExpiry slot s
  | .endCommit slot => Sys2Proof.Machine.execEndCommit slot s
  | .decrementMessage m => Sys2Proof.Machine.execDecrementMessage m s
  | .succFailureNotice gtile => Sys2Proof.Machine.execSuccFailureNotice gtile s
  | .scopeClose scope => Sys2Proof.Machine.execScopeClose scope s
  | .ackDelivery scope => Sys2Proof.Machine.execAckDelivery scope s
  | .completionRecord cmd => Sys2Proof.Machine.execCompletionRecord cmd s
  | .commandStore queue offset data => Sys2Proof.Machine.execCommandStore queue offset data s
  | .qcfgWrite queue high v => Sys2Proof.Machine.execQcfgWrite queue high v s
  | .registerWrite gtile offset v => Sys2Proof.Machine.execRegisterWrite gtile offset v s
  | .nopCommand queue => Sys2Proof.Machine.execNopCommand queue s
  | .loadImage queue remote bad => Sys2Proof.Machine.execLoadImage queue remote bad s
  | .unloadImage queue => Sys2Proof.Machine.execUnloadImage queue s
  | .runGraph queue remote bad => Sys2Proof.Machine.execRunGraph queue remote bad s
  | .cancelCommand queue => Sys2Proof.Machine.execCancelCommand queue s
  | .adapterPrefetch queue => Sys2Proof.Machine.execAdapterPrefetch queue s
  | .dispatchSelect die part => Sys2Proof.Machine.execDispatchSelect die part s
  | .place die part => Sys2Proof.Machine.execPlace die part s
  | .prefetchReadIssue die remote bad => Sys2Proof.Machine.execPrefetchReadIssue die remote bad s
  | .taskRunnable die entry => Sys2Proof.Machine.execTaskRunnable die entry s
  | .taskStart die entry => Sys2Proof.Machine.execTaskStart die entry s
  | .spawnTreeDelivery id => Sys2Proof.Machine.execSpawnTreeDelivery id s
  | .preemptTrigger die part => Sys2Proof.Machine.execPreemptTrigger die part s
  | .saveBegin slot => Sys2Proof.Machine.execSaveBegin slot s
  | .saveComplete slot => Sys2Proof.Machine.execSaveComplete slot s
  | .preemptAbandon slot => Sys2Proof.Machine.execPreemptAbandon slot s
  | .resume die entry => Sys2Proof.Machine.execResume die entry s
  | .slotTrap slot cause tval => Sys2Proof.Machine.execSlotTrap slot cause tval s
  | .deferredTrap slot => Sys2Proof.Machine.execDeferredTrap slot s
  | .handlerEntry slot => Sys2Proof.Machine.execHandlerEntry slot s
  | .messageArrival gtile data reply => Sys2Proof.Machine.execMessageArrival gtile data reply s
  | .tokenArrival gtile ch token => Sys2Proof.Machine.execTokenArrival gtile ch token s
  | .allowanceReturn gtile ch units => Sys2Proof.Machine.execAllowanceReturn gtile ch units s
  | .channelBrokenNotice gtile ch => Sys2Proof.Machine.execChannelBrokenNotice gtile ch s
  | .laneGroupWithdraw gtile ch => Sys2Proof.Machine.execLaneGroupWithdraw gtile ch s
  | .residencyRecord gtile expert w0 w1 engine => Sys2Proof.Machine.execResidencyRecord gtile expert w0 w1 engine s
  | .engineSegment gtile g remote bad => Sys2Proof.Machine.execEngineSegment gtile g remote bad s
  | .engineComplete gtile g => Sys2Proof.Machine.execEngineComplete gtile g s
  | .agPortRequest gtile g => Sys2Proof.Machine.execAgPortRequest gtile g s
  | .vectorEntryBegin slot => Sys2Proof.Machine.execVectorEntryBegin slot s
  | .vectorEntryComplete gtile => Sys2Proof.Machine.execVectorEntryComplete gtile s
  | .vectorLoadData slot remote poison => Sys2Proof.Machine.execVectorLoadData slot remote poison s
  | .matrixEntryBind slot => Sys2Proof.Machine.execMatrixEntryBind slot s
  | .matrixEntryComplete gtile => Sys2Proof.Machine.execMatrixEntryComplete gtile s
  | .selectEntryBind slot => Sys2Proof.Machine.execSelectEntryBind slot s
  | .selectEntryComplete gtile => Sys2Proof.Machine.execSelectEntryComplete gtile s
  | .gangCycleResume gang => Sys2Proof.Machine.execGangCycleResume gang s
  | .ualinkIngress port p => Sys2Proof.Machine.execUalinkIngress port p s
  | .parkedRetry part home => Sys2Proof.Machine.execParkedRetry part home s
  | .acceptNotice src dest seq perf => Sys2Proof.Machine.execAcceptNotice src dest seq perf s
  | .routerTrim src dest seq => Sys2Proof.Machine.execRouterTrim src dest seq s
  | .trimmedHeadArrival src dest seq => Sys2Proof.Machine.execTrimmedHeadArrival src dest seq s
  | .resendRequest src dest seq => Sys2Proof.Machine.execResendRequest src dest seq s
  | .walkComplete walk => Sys2Proof.Machine.execWalkComplete walk s
  | .tlbFill tlb fill => Sys2Proof.Machine.execTlbFill tlb fill s
  | .tlbInvalidation tlb inv => Sys2Proof.Machine.execTlbInvalidation tlb inv s
  | .frameStart => Sys2Proof.Machine.execFrameStart s
  | .deadlockSnapshot die => Sys2Proof.Machine.execDeadlockSnapshot die s
  | .snapshotExchange part => Sys2Proof.Machine.execSnapshotExchange part s
  | .timestampSync master delay => Sys2Proof.Machine.execTimestampSync master delay s
  | .linkDelayEcho port roundTrip => Sys2Proof.Machine.execLinkDelayEcho port roundTrip s
  | .patrolScrub die granule => Sys2Proof.Machine.execPatrolScrub die granule s
  | .correctedError e => Sys2Proof.Machine.execCorrectedError e s
  | .uncorrectableError e => Sys2Proof.Machine.execUncorrectableError e s
  | .linkRetrain die link => Sys2Proof.Machine.execLinkRetrain die link s
  | .dieLost die => Sys2Proof.Machine.execDieLost die s
  | .hostMemRead hpa size => Sys2Proof.Machine.execHostMemRead hpa size s
  | .hostMemWrite hpa data => Sys2Proof.Machine.execHostMemWrite hpa data s
  | .backInvalidateResponse die line data => Sys2Proof.Machine.execBackInvalidateResponse die line data s
  | .hostErrorCompletion id => Sys2Proof.Machine.execHostErrorCompletion id s
  | .hostCompletionTimeout id => Sys2Proof.Machine.execHostCompletionTimeout id s
  | .foreignUalinkRequest port => Sys2Proof.Machine.execForeignUalinkRequest port s
  | .coldReset => Sys2Proof.Machine.execColdReset s
  | .warmReset => Sys2Proof.Machine.execWarmReset s
  | .railsDone => Sys2Proof.Machine.execRailsDone s
  | .selftestDone good => Sys2Proof.Machine.execSelftestDone good s
  | .draminitDone good => Sys2Proof.Machine.execDraminitDone good s
  | .identityDone => Sys2Proof.Machine.execIdentityDone s
  | .linksDone good => Sys2Proof.Machine.execLinksDone good s
  | .governorSample watts average => Sys2Proof.Machine.execGovernorSample watts average s
  | .telemetryRefresh watts temp => Sys2Proof.Machine.execTelemetryRefresh watts temp s
  | .thermalLimit die dram compute => Sys2Proof.Machine.execThermalLimit die dram compute s
  | .thermalTrip die => Sys2Proof.Machine.execThermalTrip die s
  | .queueBlob data => Sys2Proof.Machine.execQueueBlob data s
  | .regRd reg => Sys2Proof.Machine.execRegRd reg s
  | .plSet watts => Sys2Proof.Machine.execPlSet watts s
  | .logRd errorLog index count => Sys2Proof.Machine.execLogRd errorLog index count s
  | .cntRd die index => Sys2Proof.Machine.execCntRd die index s
  | .resetCommand => Sys2Proof.Machine.execResetCommand s
  | .ownerBlob => Sys2Proof.Machine.execOwnerBlob s
  | .moduleBlob => Sys2Proof.Machine.execModuleBlob s
  | .partitionBlob => Sys2Proof.Machine.execPartitionBlob s
  | .memkeyBlob => Sys2Proof.Machine.execMemkeyBlob s
  | .linkkeyBlob => Sys2Proof.Machine.execLinkkeyBlob s
  | .keySwitch port => Sys2Proof.Machine.execKeySwitch port s
  | .powerBlob => Sys2Proof.Machine.execPowerBlob s
  | .getVersion msg => Sys2Proof.Machine.execGetVersion msg s
  | .getCapabilities msg => Sys2Proof.Machine.execGetCapabilities msg s
  | .negotiateAlgorithms msg => Sys2Proof.Machine.execNegotiateAlgorithms msg s
  | .getDigests msg => Sys2Proof.Machine.execGetDigests msg s
  | .getCertificate msg => Sys2Proof.Machine.execGetCertificate msg s
  | .challenge msg => Sys2Proof.Machine.execChallenge msg s
  | .getMeasurements msg => Sys2Proof.Machine.execGetMeasurements msg s
  | .keyExchange msg => Sys2Proof.Machine.execKeyExchange msg s
  | .finish msg => Sys2Proof.Machine.execFinish msg s
  | .endSession msg => Sys2Proof.Machine.execEndSession msg s
  | .ideKm msg => Sys2Proof.Machine.execIdeKm msg s
  | .timeSlotStart cls unit => Sys2Proof.Machine.execTimeSlotStart cls unit s
  | .rotationTurn die unit => Sys2Proof.Machine.execRotationTurn die unit s
  | .configurationRequest msg => Sys2Proof.Machine.execConfigurationRequest msg s
  | .add d a b => Sys2Proof.Machine.execAdd d a b s
  | .sub d a b => Sys2Proof.Machine.execSub d a b s
  | .and d a b => Sys2Proof.Machine.execAnd d a b s
  | .or d a b => Sys2Proof.Machine.execOr d a b s
  | .xor d a b => Sys2Proof.Machine.execXor d a b s
  | .andn d a b => Sys2Proof.Machine.execAndn d a b s
  | .addw d a b => Sys2Proof.Machine.execAddw d a b s
  | .subw d a b => Sys2Proof.Machine.execSubw d a b s
  | .adds d a b => Sys2Proof.Machine.execAdds d a b s
  | .subs d a b => Sys2Proof.Machine.execSubs d a b s
  | .min d a b => Sys2Proof.Machine.execMin d a b s
  | .max d a b => Sys2Proof.Machine.execMax d a b s
  | .minu d a b => Sys2Proof.Machine.execMinu d a b s
  | .maxu d a b => Sys2Proof.Machine.execMaxu d a b s
  | .abs d a => Sys2Proof.Machine.execAbs d a s
  | .mul d a b => Sys2Proof.Machine.execMul d a b s
  | .mulh d a b => Sys2Proof.Machine.execMulh d a b s
  | .mulhu d a b => Sys2Proof.Machine.execMulhu d a b s
  | .mulhsu d a b => Sys2Proof.Machine.execMulhsu d a b s
  | .mulw d a b => Sys2Proof.Machine.execMulw d a b s
  | .div d a b => Sys2Proof.Machine.execDiv d a b s
  | .divu d a b => Sys2Proof.Machine.execDivu d a b s
  | .rem d a b => Sys2Proof.Machine.execRem d a b s
  | .remu d a b => Sys2Proof.Machine.execRemu d a b s
  | .sll d a b => Sys2Proof.Machine.execSll d a b s
  | .srl d a b => Sys2Proof.Machine.execSrl d a b s
  | .sra d a b => Sys2Proof.Machine.execSra d a b s
  | .rol d a b => Sys2Proof.Machine.execRol d a b s
  | .ror d a b => Sys2Proof.Machine.execRor d a b s
  | .clz d a => Sys2Proof.Machine.execClz d a s
  | .ctz d a => Sys2Proof.Machine.execCtz d a s
  | .popc d a => Sys2Proof.Machine.execPopc d a s
  | .bswap d a => Sys2Proof.Machine.execBswap d a s
  | .brev d a => Sys2Proof.Machine.execBrev d a s
  | .extu d a b => Sys2Proof.Machine.execExtu d a b s
  | .exts d a b => Sys2Proof.Machine.execExts d a b s
  | .ins d a b => Sys2Proof.Machine.execIns d a b s
  | .seq d a b => Sys2Proof.Machine.execSeq d a b s
  | .sne d a b => Sys2Proof.Machine.execSne d a b s
  | .slt d a b => Sys2Proof.Machine.execSlt d a b s
  | .sltu d a b => Sys2Proof.Machine.execSltu d a b s
  | .sge d a b => Sys2Proof.Machine.execSge d a b s
  | .sgeu d a b => Sys2Proof.Machine.execSgeu d a b s
  | .cmovz d a b => Sys2Proof.Machine.execCmovz d a b s
  | .cmovnz d a b => Sys2Proof.Machine.execCmovnz d a b s
  | .fadd d a b => Sys2Proof.Machine.execFadd d a b s
  | .fsub d a b => Sys2Proof.Machine.execFsub d a b s
  | .fmul d a b => Sys2Proof.Machine.execFmul d a b s
  | .fdiv d a b => Sys2Proof.Machine.execFdiv d a b s
  | .fsqrt d a => Sys2Proof.Machine.execFsqrt d a s
  | .fmadd d a b => Sys2Proof.Machine.execFmadd d a b s
  | .fmin d a b => Sys2Proof.Machine.execFmin d a b s
  | .fmax d a b => Sys2Proof.Machine.execFmax d a b s
  | .fabs d a => Sys2Proof.Machine.execFabs d a s
  | .fneg d a => Sys2Proof.Machine.execFneg d a s
  | .feq d a b => Sys2Proof.Machine.execFeq d a b s
  | .flt d a b => Sys2Proof.Machine.execFlt d a b s
  | .fle d a b => Sys2Proof.Machine.execFle d a b s
  | .fclass d a => Sys2Proof.Machine.execFclass d a s
  | .ftoi d a => Sys2Proof.Machine.execFtoi d a s
  | .ftou d a => Sys2Proof.Machine.execFtou d a s
  | .itof d a => Sys2Proof.Machine.execItof d a s
  | .utof d a => Sys2Proof.Machine.execUtof d a s
  | .addi d a im => Sys2Proof.Machine.execAddi d a im s
  | .andi d a im => Sys2Proof.Machine.execAndi d a im s
  | .ori d a im => Sys2Proof.Machine.execOri d a im s
  | .xori d a im => Sys2Proof.Machine.execXori d a im s
  | .slli d a im => Sys2Proof.Machine.execSlli d a im s
  | .srli d a im => Sys2Proof.Machine.execSrli d a im s
  | .srai d a im => Sys2Proof.Machine.execSrai d a im s
  | .rori d a im => Sys2Proof.Machine.execRori d a im s
  | .seqi d a im => Sys2Proof.Machine.execSeqi d a im s
  | .snei d a im => Sys2Proof.Machine.execSnei d a im s
  | .slti d a im => Sys2Proof.Machine.execSlti d a im s
  | .sltui d a im => Sys2Proof.Machine.execSltui d a im s
  | .addiw d a im => Sys2Proof.Machine.execAddiw d a im s
  | .li d im => Sys2Proof.Machine.execLi d im s
  | .shori d a im => Sys2Proof.Machine.execShori d a im s
  | .rdsr d sr => Sys2Proof.Machine.execRdsr d sr s
  | .wrsr a sr => Sys2Proof.Machine.execWrsr a sr s
  | .setsr a sr => Sys2Proof.Machine.execSetsr a sr s
  | .clrsr a sr => Sys2Proof.Machine.execClrsr a sr s
  | .lit d idx => Sys2Proof.Machine.execLit d idx s
  | .litW d idx => Sys2Proof.Machine.execLitW d idx s
  | .beqz c off => Sys2Proof.Machine.execBeqz c off s
  | .bnez c off => Sys2Proof.Machine.execBnez c off s
  | .bltz c off => Sys2Proof.Machine.execBltz c off s
  | .bgez c off => Sys2Proof.Machine.execBgez c off s
  | .bgtz c off => Sys2Proof.Machine.execBgtz c off s
  | .blez c off => Sys2Proof.Machine.execBlez c off s
  | .call c off => Sys2Proof.Machine.execCall c off s
  | .jmp off => Sys2Proof.Machine.execJmp off s
  | .jr a => Sys2Proof.Machine.execJr a s
  | .jalr d a => Sys2Proof.Machine.execJalr d a s
  | .yield => Sys2Proof.Machine.execYield s
  | .trap n => Sys2Proof.Machine.execTrap n s
  | .ecall n => Sys2Proof.Machine.execEcall n s
  | .tsRead d => Sys2Proof.Machine.execTsRead d s
  | .loop a im => Sys2Proof.Machine.execLoop a im s
  | .loopI n im => Sys2Proof.Machine.execLoopI n im s
  | .ldB d a off => Sys2Proof.Machine.execLdB d a off s
  | .ldBu d a off => Sys2Proof.Machine.execLdBu d a off s
  | .ldH d a off => Sys2Proof.Machine.execLdH d a off s
  | .ldHu d a off => Sys2Proof.Machine.execLdHu d a off s
  | .ldW d a off => Sys2Proof.Machine.execLdW d a off s
  | .ldWu d a off => Sys2Proof.Machine.execLdWu d a off s
  | .ld d a off => Sys2Proof.Machine.execLd d a off s
  | .stB d a off => Sys2Proof.Machine.execStB d a off s
  | .stH d a off => Sys2Proof.Machine.execStH d a off s
  | .stW d a off => Sys2Proof.Machine.execStW d a off s
  | .st d a off => Sys2Proof.Machine.execSt d a off s
  | .ldAcq d a lvl sz => Sys2Proof.Machine.execLdAcq d a lvl sz s
  | .stRel d a lvl sz => Sys2Proof.Machine.execStRel d a lvl sz s
  | .fence lvl => Sys2Proof.Machine.execFence lvl s
  | .amoAdd d a w64 ord lvl => Sys2Proof.Machine.execAmoAdd d a w64 ord lvl s
  | .amoAnd d a w64 ord lvl => Sys2Proof.Machine.execAmoAnd d a w64 ord lvl s
  | .amoOr d a w64 ord lvl => Sys2Proof.Machine.execAmoOr d a w64 ord lvl s
  | .amoXor d a w64 ord lvl => Sys2Proof.Machine.execAmoXor d a w64 ord lvl s
  | .amoSwap d a w64 ord lvl => Sys2Proof.Machine.execAmoSwap d a w64 ord lvl s
  | .amoCas d a w64 ord lvl => Sys2Proof.Machine.execAmoCas d a w64 ord lvl s
  | .amoMins d a w64 ord lvl => Sys2Proof.Machine.execAmoMins d a w64 ord lvl s
  | .amoMinu d a w64 ord lvl => Sys2Proof.Machine.execAmoMinu d a w64 ord lvl s
  | .amoMaxs d a w64 ord lvl => Sys2Proof.Machine.execAmoMaxs d a w64 ord lvl s
  | .amoMaxu d a w64 ord lvl => Sys2Proof.Machine.execAmoMaxu d a w64 ord lvl s
  | .amoFadd32 d a ord lvl => Sys2Proof.Machine.execAmoFadd32 d a ord lvl s
  | .amoHist d a ord lvl => Sys2Proof.Machine.execAmoHist d a ord lvl s
  | .amoDecz d a w64 ord lvl => Sys2Proof.Machine.execAmoDecz d a w64 ord lvl s
  | .amoTake d a ord lvl => Sys2Proof.Machine.execAmoTake d a ord lvl s
  | .amoReturn d a ord lvl => Sys2Proof.Machine.execAmoReturn d a ord lvl s
  | .atomInv d a id ord lvl => Sys2Proof.Machine.execAtomInv d a id ord lvl s
  | .vfadd d a b m => Sys2Proof.Machine.execVfadd d a b m s
  | .vfsub d a b m => Sys2Proof.Machine.execVfsub d a b m s
  | .vfmul d a b m => Sys2Proof.Machine.execVfmul d a b m s
  | .vfdiv d a b m => Sys2Proof.Machine.execVfdiv d a b m s
  | .vfsqrt d a m => Sys2Proof.Machine.execVfsqrt d a m s
  | .vfma d a b m => Sys2Proof.Machine.execVfma d a b m s
  | .vfnma d a b m => Sys2Proof.Machine.execVfnma d a b m s
  | .vfmin d a b m => Sys2Proof.Machine.execVfmin d a b m s
  | .vfmax d a b m => Sys2Proof.Machine.execVfmax d a b m s
  | .vfabs d a m => Sys2Proof.Machine.execVfabs d a m s
  | .vfneg d a m => Sys2Proof.Machine.execVfneg d a m s
  | .vfscaleb d a b m => Sys2Proof.Machine.execVfscaleb d a b m s
  | .vfmuls d a b m => Sys2Proof.Machine.execVfmuls d a b m s
  | .vfmas d a b m => Sys2Proof.Machine.execVfmas d a b m s
  | .vfrcp d a m => Sys2Proof.Machine.execVfrcp d a m s
  | .vfrsq d a m => Sys2Proof.Machine.execVfrsq d a m s
  | .vfexp2 d a m => Sys2Proof.Machine.execVfexp2 d a m s
  | .vfexp d a m => Sys2Proof.Machine.execVfexp d a m s
  | .vflog2 d a m => Sys2Proof.Machine.execVflog2 d a m s
  | .vftanh d a m => Sys2Proof.Machine.execVftanh d a m s
  | .vfsigm d a m => Sys2Proof.Machine.execVfsigm d a m s
  | .vfsin d a m => Sys2Proof.Machine.execVfsin d a m s
  | .vfcos d a m => Sys2Proof.Machine.execVfcos d a m s
  | .vadd d a b m => Sys2Proof.Machine.execVadd d a b m s
  | .vsub d a b m => Sys2Proof.Machine.execVsub d a b m s
  | .vmul d a b m => Sys2Proof.Machine.execVmul d a b m s
  | .vmulh d a b m => Sys2Proof.Machine.execVmulh d a b m s
  | .vmulhu d a b m => Sys2Proof.Machine.execVmulhu d a b m s
  | .vadds d a b m => Sys2Proof.Machine.execVadds d a b m s
  | .vsubs d a b m => Sys2Proof.Machine.execVsubs d a b m s
  | .vaddus d a b m => Sys2Proof.Machine.execVaddus d a b m s
  | .vsubus d a b m => Sys2Proof.Machine.execVsubus d a b m s
  | .vmin d a b m => Sys2Proof.Machine.execVmin d a b m s
  | .vmax d a b m => Sys2Proof.Machine.execVmax d a b m s
  | .vminu d a b m => Sys2Proof.Machine.execVminu d a b m s
  | .vmaxu d a b m => Sys2Proof.Machine.execVmaxu d a b m s
  | .vabs d a m => Sys2Proof.Machine.execVabs d a m s
  | .vand d a b m => Sys2Proof.Machine.execVand d a b m s
  | .vor d a b m => Sys2Proof.Machine.execVor d a b m s
  | .vxor d a b m => Sys2Proof.Machine.execVxor d a b m s
  | .vandn d a b m => Sys2Proof.Machine.execVandn d a b m s
  | .vnot d a m => Sys2Proof.Machine.execVnot d a m s
  | .vsll d a b m => Sys2Proof.Machine.execVsll d a b m s
  | .vsrl d a b m => Sys2Proof.Machine.execVsrl d a b m s
  | .vsra d a b m => Sys2Proof.Machine.execVsra d a b m s
  | .vpopc d a m => Sys2Proof.Machine.execVpopc d a m s
  | .vclz d a m => Sys2Proof.Machine.execVclz d a m s
  | .vqmul d a b m => Sys2Proof.Machine.execVqmul d a b m s
  | .vsrar d a b m => Sys2Proof.Machine.execVsrar d a b m s
  | .vaddx d a b m => Sys2Proof.Machine.execVaddx d a b m s
  | .vmulx d a b m => Sys2Proof.Machine.execVmulx d a b m s
  | .vmacx d a b m => Sys2Proof.Machine.execVmacx d a b m s
  | .vsrax d a b m => Sys2Proof.Machine.execVsrax d a b m s
  | .vfeq d a b m => Sys2Proof.Machine.execVfeq d a b m s
  | .vflt d a b m => Sys2Proof.Machine.execVflt d a b m s
  | .vfle d a b m => Sys2Proof.Machine.execVfle d a b m s
  | .vfun d a b m => Sys2Proof.Machine.execVfun d a b m s
  | .veq d a b m => Sys2Proof.Machine.execVeq d a b m s
  | .vne d a b m => Sys2Proof.Machine.execVne d a b m s
  | .vlt d a b m => Sys2Proof.Machine.execVlt d a b m s
  | .vle d a b m => Sys2Proof.Machine.execVle d a b m s
  | .vltu d a b m => Sys2Proof.Machine.execVltu d a b m s
  | .vleu d a b m => Sys2Proof.Machine.execVleu d a b m s
  | .veqx d a b m => Sys2Proof.Machine.execVeqx d a b m s
  | .vltx d a b m => Sys2Proof.Machine.execVltx d a b m s
  | .vgtx d a b m => Sys2Proof.Machine.execVgtx d a b m s
  | .vsel d a b m => Sys2Proof.Machine.execVsel d a b m s
  | .mand d a b => Sys2Proof.Machine.execMand d a b s
  | .mor d a b => Sys2Proof.Machine.execMor d a b s
  | .mxor d a b => Sys2Proof.Machine.execMxor d a b s
  | .mandn d a b => Sys2Proof.Machine.execMandn d a b s
  | .mnot d a => Sys2Proof.Machine.execMnot d a s
  | .mpopc d a => Sys2Proof.Machine.execMpopc d a s
  | .mfirst d a => Sys2Proof.Machine.execMfirst d a s
  | .mmov d a => Sys2Proof.Machine.execMmov d a s
  | .mrd d a => Sys2Proof.Machine.execMrd d a s
  | .vbcast d a m => Sys2Proof.Machine.execVbcast d a m s
  | .vsplat d a b m => Sys2Proof.Machine.execVsplat d a b m s
  | .vperm d a b m => Sys2Proof.Machine.execVperm d a b m s
  | .vperm2 d a b m => Sys2Proof.Machine.execVperm2 d a b m s
  | .vrot d a b m => Sys2Proof.Machine.execVrot d a b m s
  | .vslideup d a b m => Sys2Proof.Machine.execVslideup d a b m s
  | .vslidedn d a b m => Sys2Proof.Machine.execVslidedn d a b m s
  | .vzip d a b m => Sys2Proof.Machine.execVzip d a b m s
  | .vunzip d a b m => Sys2Proof.Machine.execVunzip d a b m s
  | .vcompress d a m => Sys2Proof.Machine.execVcompress d a m s
  | .vlane d m => Sys2Proof.Machine.execVlane d m s
  | .vmvx d a b => Sys2Proof.Machine.execVmvx d a b s
  | .vins d a b => Sys2Proof.Machine.execVins d a b s
  | .vredadd d a m => Sys2Proof.Machine.execVredadd d a m s
  | .vredaddu d a m => Sys2Proof.Machine.execVredaddu d a m s
  | .vredmin d a m => Sys2Proof.Machine.execVredmin d a m s
  | .vredmax d a m => Sys2Proof.Machine.execVredmax d a m s
  | .vredminu d a m => Sys2Proof.Machine.execVredminu d a m s
  | .vredmaxu d a m => Sys2Proof.Machine.execVredmaxu d a m s
  | .vredfadd d a m => Sys2Proof.Machine.execVredfadd d a m s
  | .vredfmin d a m => Sys2Proof.Machine.execVredfmin d a m s
  | .vredfmax d a m => Sys2Proof.Machine.execVredfmax d a m s
  | .vscanadd d a m => Sys2Proof.Machine.execVscanadd d a m s
  | .vscanfadd d a m => Sys2Proof.Machine.execVscanfadd d a m s
  | .vredfaddx d a m => Sys2Proof.Machine.execVredfaddx d a m s
  | .vcvt d a fmt m p rc => Sys2Proof.Machine.execVcvt d a fmt m p rc s
  | .vcvtF32 d a fmt m p => Sys2Proof.Machine.execVcvtF32 d a fmt m p s
  | .vftoi d a m rc => Sys2Proof.Machine.execVftoi d a m rc s
  | .vftou d a m rc => Sys2Proof.Machine.execVftou d a m rc s
  | .vitof d a m rc => Sys2Proof.Machine.execVitof d a m rc s
  | .vutof d a m rc => Sys2Proof.Machine.execVutof d a m rc s
  | .vcvtMx d a b m p rc => Sys2Proof.Machine.execVcvtMx d a b m p rc s
  | .vcvtF32Mx d a b m p rc => Sys2Proof.Machine.execVcvtF32Mx d a b m p rc s
  | .vmxsc d a fmt m => Sys2Proof.Machine.execVmxsc d a fmt m s
  | .vrand d m => Sys2Proof.Machine.execVrand d m s
  | .vnarrow d a fmt m p => Sys2Proof.Machine.execVnarrow d a fmt m p s
  | .vwiden d a fmt m p => Sys2Proof.Machine.execVwiden d a fmt m p s
  | .vld d a m es => Sys2Proof.Machine.execVld d a m es s
  | .vst d a m es => Sys2Proof.Machine.execVst d a m es s
  | .vlds d a b m es => Sys2Proof.Machine.execVlds d a b m es s
  | .vsts d a b m es => Sys2Proof.Machine.execVsts d a b m es s
  | .vgather d a b m es => Sys2Proof.Machine.execVgather d a b m es s
  | .vscatter d a b m es => Sys2Proof.Machine.execVscatter d a b m es s
  | .mma acc qa bl => Sys2Proof.Machine.execMma acc qa bl s
  | .mmaKeep acc qa bl => Sys2Proof.Machine.execMmaKeep acc qa bl s
  | .mmaSeg acc qa b => Sys2Proof.Machine.execMmaSeg acc qa b s
  | .mmaSegKeep acc qa b => Sys2Proof.Machine.execMmaSegKeep acc qa b s
  | .qaLd qa a => Sys2Proof.Machine.execQaLd qa a s
  | .blLd bl a => Sys2Proof.Machine.execBlLd bl a s
  | .qaPop qa => Sys2Proof.Machine.execQaPop qa s
  | .mxWait => Sys2Proof.Machine.execMxWait s
  | .accClr acc a => Sys2Proof.Machine.execAccClr acc a s
  | .accRebase acc a => Sys2Proof.Machine.execAccRebase acc a s
  | .accAdd acc src => Sys2Proof.Machine.execAccAdd acc src s
  | .accLd acc a => Sys2Proof.Machine.execAccLd acc a s
  | .accSt acc a => Sys2Proof.Machine.execAccSt acc a s
  | .accCvt acc a b rc => Sys2Proof.Machine.execAccCvt acc a b rc s
  | .accCvtQ acc qa b rc => Sys2Proof.Machine.execAccCvtQ acc qa b rc s
  | .precI d a b => Sys2Proof.Machine.execPrecI d a b s
  | .precX d a => Sys2Proof.Machine.execPrecX d a s
  | .cp d p k g => Sys2Proof.Machine.execCp d p k g s
  | .cp2d d p k g => Sys2Proof.Machine.execCp2d d p k g s
  | .cpFill d p k g => Sys2Proof.Machine.execCpFill d p k g s
  | .cpGather d p k g => Sys2Proof.Machine.execCpGather d p k g s
  | .cpScatter d p k g => Sys2Proof.Machine.execCpScatter d p k g s
  | .cpDecomp d p k g => Sys2Proof.Machine.execCpDecomp d p k g s
  | .fifoFeed d p k g => Sys2Proof.Machine.execFifoFeed d p k g s
  | .agPort d p k g => Sys2Proof.Machine.execAgPort d p k g s
  | .send d ch b => Sys2Proof.Machine.execSend d ch b s
  | .sendRaw d ch b => Sys2Proof.Machine.execSendRaw d ch b s
  | .recv d ch => Sys2Proof.Machine.execRecv d ch s
  | .tryrecv d ch => Sys2Proof.Machine.execTryrecv d ch s
  | .alt d a => Sys2Proof.Machine.execAlt d a s
  | .chGrant d ch b => Sys2Proof.Machine.execChGrant d ch b s
  | .chClose ch => Sys2Proof.Machine.execChClose ch s
  | .waitlt k n => Sys2Proof.Machine.execWaitlt k n s
  | .waitltX k b => Sys2Proof.Machine.execWaitltX k b s
  | .kRd d k => Sys2Proof.Machine.execKRd d k s
  | .kAdd k b => Sys2Proof.Machine.execKAdd k b s
  | .msgSend d a b => Sys2Proof.Machine.execMsgSend d a b s
  | .msgEnd => Sys2Proof.Machine.execMsgEnd s
  | .spawn d a => Sys2Proof.Machine.execSpawn d a s
  | .spawnTree d a b => Sys2Proof.Machine.execSpawnTree d a b s
  | .dec d a => Sys2Proof.Machine.execDec d a s
  | .taskIns d => Sys2Proof.Machine.execTaskIns d s
  | .scopeOpen d a => Sys2Proof.Machine.execScopeOpen d a s
  | .scopeId d a => Sys2Proof.Machine.execScopeId d a s
  | .cancel d a b k => Sys2Proof.Machine.execCancel d a b k s
  | .cancelWait d a => Sys2Proof.Machine.execCancelWait d a s
  | .killHold => Sys2Proof.Machine.execKillHold s
  | .killOpen d => Sys2Proof.Machine.execKillOpen d s
  | .barJoin d a => Sys2Proof.Machine.execBarJoin d a s
  | .barArrive d a => Sys2Proof.Machine.execBarArrive d a s
  | .barWait d a b => Sys2Proof.Machine.execBarWait d a b s
  | .barLeave d a => Sys2Proof.Machine.execBarLeave d a s
  | .gangSync d => Sys2Proof.Machine.execGangSync d s
  | .endTask a => Sys2Proof.Machine.execEndTask a s
  | .selCfg a => Sys2Proof.Machine.execSelCfg a s
  | .selMask a => Sys2Proof.Machine.execSelMask a s
  | .selDead a b => Sys2Proof.Machine.execSelDead a b s
  | .topk d a b k => Sys2Proof.Machine.execTopk d a b k s
  | .topkMore d a b k => Sys2Proof.Machine.execTopkMore d a b k s
  | .selRes d a => Sys2Proof.Machine.execSelRes d a s
  | .selWait => Sys2Proof.Machine.execSelWait s
  | .csrrd d csr => Sys2Proof.Machine.execCsrrd d csr s
  | .csrrw d a csr => Sys2Proof.Machine.execCsrrw d a csr s
  | .csrrs d a csr => Sys2Proof.Machine.execCsrrs d a csr s
  | .csrrc d a csr => Sys2Proof.Machine.execCsrrc d a csr s
  | .tret => Sys2Proof.Machine.execTret s
  | .idle => Sys2Proof.Machine.execIdle s
  | .tlbInv a b => Sys2Proof.Machine.execTlbInv a b s
  | .guardWr d a b => Sys2Proof.Machine.execGuardWr d a b s
  | .frameWr d a b => Sys2Proof.Machine.execFrameWr d a b s
  | .slotSave d a => Sys2Proof.Machine.execSlotSave d a s
  | .slotRestore d a b => Sys2Proof.Machine.execSlotRestore d a b s

end Sys2Proof.Machine
end

