-- ==== Sys2Proof/Machine/Wheel.lean ====
section
/-! DEFINITION. Which slot issues (spec/02 R35 to R38, R45 to R47), fetching a word, and the passing of time. `run` stands
for the dispatch of one instruction or event. -/

namespace Sys2Proof.Machine

/-- An outcome with a change of its next state. -/
def onNext (f : State → State) : Host.Outcome State Fault Refusal → Host.Outcome State Fault Refusal
  | .next s => .next (f s)
  | o => o

/-- The correction of the timestamp that a number of nanoseconds allows: 1 ns in every 1,024 ns (spec/16 R351). -/
def State.correction (s : State) (ns : Nat) : Int :=
  let room : Int := (s.now.toNat + ns) / 1024 - s.now.toNat / 1024
  max (-room) (min room s.drift)
/-- What recurs when the die cycle count reaches a multiple of 8,192 or 65,536 (spec/17 R364, R367), and at the timestamp master
every 65,536 ns (spec/16 R351). -/
def State.periodic (s : State) (cycles ns : Nat) : List Instr :=
  (if s.cycle / 8192 < (s.cycle + cycles) / 8192 then [.frameStart] else []) ++
  (if s.cycle / 65536 < (s.cycle + cycles) / 65536 then [.deadlockSnapshot 0, .deadlockSnapshot 1, .deadlockSnapshot 2, .deadlockSnapshot 3]
    else []) ++
  (if s.mgmt.isMaster && decide (s.now.toNat / 65536 < (s.now.toNat + ns) / 65536) then [.timestampSync 0 0] else [])
/-- Time that passes (log 3): die cycles and nanoseconds. -/
def State.pass (s : State) (cycles ns : Nat) : State :=
  let d := s.correction ns
  { s with cycle := s.cycle + cycles, now := s.now + BitVec.ofInt 64 (ns + d), drift := s.drift - d
           agenda := s.agenda ++ s.periodic cycles ns }
/-- The nanoseconds in a number of die cycles at the clock step in force: 3.0 × (1 − n/16) GHz (spec/18 R390). -/
def Mgmt.nanos (m : Mgmt) (cycles : Nat) : Nat := cycles * 16 / (48 - 3 * m.clkstep)
/-- One die cycle passes. -/
def State.tick (s : State) : State := s.pass 1 (s.mgmt.nanos (s.cycle + 1) - s.mgmt.nanos s.cycle)
/-- Cycles pass one by one. -/
def State.ticks : (n : Nat) → State → State
  | 0, s => s
  | n + 1, s => State.ticks n s.tick

/-- A slot is in the rotation (spec/02 Table 2.7). -/
def Slot.runs (t : Slot) : Bool := t.state == .issue || t.state == .handler

/-- Fetching the word at the PC of a slot and decoding it: the instruction, or the value that its Illegal Instruction trap
reports (spec/05 R106, R110 step 1; spec/13 Table 13.5). -/
noncomputable def State.next (s : State) (g : Nat) : Except Word Instr :=
  let t := s.slot g
  match s.fetch t with
  | none => .error (wordN t.pc)
  | some w =>
    match decode w.toNat with
    | .ok i => .ok i
    | .error _ => .error (w.setWidth 64)

/-- The word at a slot's PC fetched, decoded and carried out, or the trap that the fetch raises. -/
noncomputable def fetchRun (run : Instr → State → Host.Outcome State Fault Refusal) (g : Nat) (s : State) :
    Host.Outcome State Fault Refusal :=
  match s.next g with
  | .ok i => run i { s with cur := g }
  | .error v => run (.slotTrap g 1 v) { s with cur := g }
/-- Between two states a slot has taken a trap: it runs in its trap bank, its task has died, or it is being saved for TASK delivery. -/
def tookTrap (s s' : State) (g : Nat) : Bool :=
  ((s'.slot g).status.tbank && !(s.slot g).status.tbank) || (s'.slot g).task != (s.slot g).task || (s'.slot g).freeze != (s.slot g).freeze
/-- The state after the trap that a slot's next instruction raises at its fetch or its checks, if it raises one. -/
noncomputable def trapAt (run : Instr → State → Host.Outcome State Fault Refusal) (s : State) (g : Nat) : Option State :=
  if !(s.slot g).runs then none
  else match fetchRun run g s with
    | .next s' => if tookTrap s s' g then some s' else none
    | _ => none
/-- One slot at its instruction boundary (spec/13 R273): a kill, a trap at fetch or decoding, or the issue of the instruction at its PC. A
pre-emption comes after them: a slot whose issue has stopped for it takes no more than a trap. -/
noncomputable def attempt (run : Instr → State → Host.Outcome State Fault Refusal) (g : Nat) (s : State) :
    Host.Outcome State Fault Refusal :=
  let t := s.slot g
  if t.killable then run (.kill g) s
  else if t.heldBy.isSome || t.deferred.isSome then .next { s with stalled := true }
  else if t.frozen && !s.inLockstep t then .next ((trapAt run s g).getD { s with stalled := true })
  else fetchRun run g s

/-- One slot's turn at issue, and whether it issued (spec/02 R35): a wait whose condition is unmet makes the slot BLOCKED and does not
issue; one whose condition is met completes at once. -/
noncomputable def tryIssue (run : Instr → State → Host.Outcome State Fault Refusal) (g : Nat) (s : State) :
    Host.Outcome State Fault Refusal × Bool :=
  match attempt run g s with
  | .next s' =>
    if s'.stalled then (.next { s' with stalled := false }, false)
    else match (s'.slot g).state, (s'.slot g).wait with
      | .blocked, some w =>
        if !w.holdsIssue then (.next s', true)
        else (match run (.waitComplete g) { s' with agenda := s'.agenda.erase (.waitComplete g), issuing := true } with
          | .next s'' => if (s''.slot g).state == .blocked then (.next s', false) else (.next { s'' with issuing := false }, true)
          | o => (o, true))
      | _, _ => (.next s', true)
  | o => (o, true)
/-- The first slot of an order that can issue does so (spec/02 R36); a slot that cannot is passed over. The answer says
which slot issued. -/
noncomputable def issueFirst (run : Instr → State → Host.Outcome State Fault Refusal) :
    List Nat → State → Host.Outcome State Fault Refusal × Option Nat
  | [], s => (.next s, none)
  | g :: rest, s =>
    if (s.slot g).runs then
      match tryIssue run g s with
      | (.next s', false) => issueFirst run rest s'
      | (o, _) => (o, some g)
    else issueFirst run rest s

/-- The order in which a tile in COMPACT mode examines its slots (spec/02 R36). -/
def compactOrder (gtile : Nat) (last : Fin 4) : List Nat := [1, 2, 3, 4].map (fun i => gtile * 4 + (last.val + i) % 4)
/-- In FIXED mode the slot of the phase may issue (spec/02 R37): cycles to the next phase whose slot is in the rotation. -/
def State.phaseWait (s : State) (gtile : Nat) : Nat :=
  ((List.range 4).find? (fun i => (s.slot (gtile * 4 + (s.cycle + i) % 4)).runs)).getD 0

/-- The slots of a lockstep gang whose phase a gang cycle is, and that are not empty in it (spec/02 R46; spec/10 R249). -/
def State.gangPhase (s : State) (gang : Gang) : List Nat :=
  gang.slots.filter (fun g => g % 4 == gang.clock % 4 && ((s.slot g).runs ||
    ((s.slot g).state == .blocked && (s.slot g).task != 0 && (match (s.slot g).wait with
      | some (.gang _ _) => false
      | _ => true))))
/-- A slot of a lockstep gang can issue in this cycle. -/
noncomputable def canIssue (run : Instr → State → Host.Outcome State Fault Refusal) (s : State) (g : Nat) : Bool :=
  (s.slot g).runs && (tryIssue run g s).2

/-- An item other than an instruction that makes a gang cycle late: a task spawned into the gang whose grant is not complete
64 gang cycles after its spawn, and an MMA, MMA.SEG or QA.POP whose head position is not FULL (spec/08 R185; spec/10 R230,
R232). -/
def State.lateItem (s : State) (k : Nat) (gang : Gang) : Bool :=
  [0, 1, 2, 3].any (fun d => (s.die d).tun.any (fun e => e.2.gang == some k && (e.2.state == .ready || e.2.state == .placing) &&
    decide (0 < e.2.chosenAt ∧ e.2.chosenAt ≤ gang.clock) && e.2.pslot % 4 == gang.clock % 4)) ||
  gang.slots.any (fun g =>
    (s.tile (tileOfSlot g)).mat.busy.isNone && (match (s.slot g).mq with
      | e :: _ => (e.op == .mma || e.op == .mmaSeg || e.op == .qaPop) && !s.matHazard (tileOfSlot g) e &&
        (match vget (s.tile (tileOfSlot g)).fifos e.qa with
         | p :: _ => !p.full
         | [] => true)
      | [] => false))
/-- The turn of a lockstep gang (spec/02 R46, R47). A member in its trap bank issues during the stall (spec/13 R277).
Members cleared for the gang cycle issue one by one; when all have, the gang clock advances; a late slot or item stalls the
gang, which issues again 8 cycles after the last of them can go on. -/
noncomputable def gangTurn (run : Instr → State → Host.Outcome State Fault Refusal) (k : Nat) (gang : Gang) (s : State) :
    Host.Outcome State Fault Refusal :=
  match gang.slots.find? (fun g => (s.slot g).status.tbank && (s.slot g).task != 0) with
  | some g => (issueFirst run [g] s).1
  | none =>
    let phase := s.gangPhase gang
    let late := s.lateItem k gang
    if gang.stalled then
      if gang.resumeAt.isSome then .next s
      else if !late && phase.all (canIssue run s) then
        .next ((s.onGang k (fun q => { q with resumeAt := some (s.cycle + 8) })).post (.gangCycleResume k))
      else
        -- what a late slot waits for goes on (a walk may start, a wait makes it BLOCKED)
        match phase.find? (fun g => (s.slot g).runs && !canIssue run s g) with
        | some g => (tryIssue run g s).1
        | none => .next s
    else match gang.left with
      | g :: rest =>
        onNext (fun s => if rest.isEmpty then s.onGang k (fun q => { q with clock := q.clock + 1 }) else s)
          (issueFirst run [g] (s.onGang k (fun q => { q with left := rest }))).1
      | [] =>
        -- a gang that is being saved holds at the boundary of a gang cycle (spec/13 R284)
        if gang.slots.any (fun g => (s.slot g).frozen) && !gang.slots.any (fun g => (s.slot g).inHandler) then
          .next ((phase.findSome? (trapAt run s)).getD s)
        else if late then .next (s.onGang k (fun q => { q with stalled := true, resumeAt := none }))
        else if phase.isEmpty then .next (s.onGang k (fun q => { q with clock := q.clock + 1 }))
        else if phase.all (canIssue run s) then .next (s.onGang k (fun q => { q with left := phase }))
        else .next (s.onGang k (fun q => { q with stalled := true, resumeAt := none }))

/-- The gang that holds a tile's slots in lockstep. -/
def State.lockstepOf (s : State) (gtile : Nat) : Option (Nat × Gang) :=
  s.gangs.find? (fun e => e.2.lockstep && e.2.slots.any (fun g => tileOfSlot g == gtile && (s.slot g).task != 0))

/-- After a tile's turn: the slot that issued is L (spec/02 R36), the next tile is examined, and events put aside are tried
again. -/
def State.afterTurn (gtile : Nat) (issued : Option Nat) (s : State) : State :=
  let s := match issued with
    | some g => if (s.tile gtile).fixed then s else s.onTile gtile (fun t => { t with last := Fin.ofNat 4 g })
    | none => s
  { s with cursor := gtile + 1, agenda := s.agenda ++ s.deferred, deferred := [], stalled := false }

/-- The turn of a tile's issue wheel. -/
noncomputable def tileTurn (run : Instr → State → Host.Outcome State Fault Refusal) (gtile : Nat) (s : State) :
    Host.Outcome State Fault Refusal :=
  match s.lockstepOf gtile with
  | some (k, gang) => onNext (State.afterTurn gtile none) (gangTurn run k gang s)
  | none =>
    if (s.tile gtile).fixed then
      let s := State.ticks (s.phaseWait gtile) s
      onNext (State.afterTurn gtile none) (issueFirst run [gtile * 4 + s.cycle % 4] s).1
    else
      let r := issueFirst run (compactOrder gtile (s.tile gtile).last) s
      onNext (State.afterTurn gtile r.2) r.1

/-- A tile has a slot in the rotation, or belongs to a lockstep gang, whose clock runs on. -/
def State.busyTiles (s : State) : List Nat :=
  (s.slots.filter (fun e => e.2.runs || (e.2.gang.isSome && (e.2.state == .blocked || e.2.state == .matrix) && s.inLockstep e.2))).map
    (fun e => tileOfSlot e.1)
/-- The tile whose turn comes next: the first at or after the cursor that has a slot in the rotation (log 2). -/
def State.nextTile (s : State) : Option Nat :=
  match s.busyTiles.find? (fun g => decide (s.cursor ≤ g)) with
  | some g => some g
  | none => s.busyTiles.head?

/-- The packet that an event is, within the module: its partition, and the dies that it crosses (spec/16 R338). Requests on the Tun, decrements, what
a receiver returns to its sender, and the answers of a home unit; accesses, tokens, messages and replies see to theirs themselves. -/
def State.way (s : State) (i : Instr) : Option (Nat × List Nat) :=
  let asked := fun (id : Nat) => (s.request id).bind (fun r => if r.foreign.isSome then none else some (r.part, [dieOf (r.src % 4096 / 16)]))
  let back := fun (g c : Nat) => (s.chan g c).peer.bind (fun p =>
    if p.1 = s.mgmt.package ∧ p.2.1 ≠ g then (s.tile g).part.map (fun k => (k, diePath (dieOf p.2.1) (dieOf g))) else none)
  match i with
  | .spawnRequest id | .scopeRequest id | .cancelRequest id | .spawnTreeDelivery id => asked id
  | .decrementMessage m =>
    if m.src / 4096 = s.mgmt.package then (s.taskOf m.target).map (fun r => (r.part, diePath (dieOf (m.src % 4096 / 16)) (handleDie m.target))) else none
  | .allowanceReturn g c _ | .channelBrokenNotice g c => back g c
  | .tlbFill n f => some (f.part, diePath f.home (if n < 256 then dieOf n else if n < 320 then (n - 256) / 16 else n - 320))
  | .residencyRecord t _ _ _ (some e) => (s.tile t).part.map (fun k => (k, diePath (dieOf (e / 8)) (dieOf t)))
  | _ => none
/-- An event waits: its partition has no time slot on a framed unit of its way (spec/17 R364; log 34). -/
def State.heldUp (s : State) (i : Instr) : Bool := (s.way i).any (fun w => !(pathUnits w.2).all (fun u => s.framed w.1 u.1 u.2))
/-- An event, if it need not wait. -/
noncomputable def runEvent (run : Instr → State → Host.Outcome State Fault Refusal) (i : Instr) (s : State) :
    Host.Outcome State Fault Refusal :=
  if s.heldUp i then .next (s.defer i) else run i s

/-- The move of an agent. -/
noncomputable def moveAgent (run : Instr → State → Host.Outcome State Fault Refusal) (a : Agent) (s : State) :
    Host.Outcome State Fault Refusal :=
  match a with
  | .event i => runEvent run i s
  | .tile g => tileTurn run g s

/-- One step (log 2, log 3): the scheduled turn; without one, the oldest event that is due, else the next tile's wheel, else
the events put aside are tried again. -/
noncomputable def State.stepWith (run : Instr → State → Host.Outcome State Fault Refusal) (s : State) :
    Host.Outcome State Fault Refusal :=
  match s.schedule with
  | t :: rest => moveAgent run t.who ({ s with schedule := rest, stalled := false }.pass t.cycles t.ns)
  | [] =>
    let s := s.tick
    match s.agenda with
    | i :: rest => runEvent run i { s with agenda := rest }
    | [] =>
      match s.nextTile with
      | some g => tileTurn run g s
      | none => .next { s with agenda := s.deferred, deferred := [] }

/-- A kernel for a word placed by `State.placeWord`. -/
def wordKernel (w : BitVec 32) : Kernel :=
  let all : Grant := { k := -1, ch := -1, qa := -1, bl := -1, ag := -1, acc := -1 }
  { inbox := true, fixed := false, kind := 0, entry := 0, hentry := 0, precinit := 0, wv := 4, wm := 4, maxsp := 0
    use := all, share := Grant.none, save := Grant.none, svsp := [], literals := [], code := [w] }
/-- The tile and slot that `State.placeWord` uses: an S-tile for the select instructions, else tile 0. -/
def wordSlot (w : Nat) : Nat := if w / 2 ^ 24 = 0x84 then 52 * 4 else 0
/-- The module READY, with partition 0 configured and a task of one loaded kernel running in a slot, whose next word is `w`
(log 21). -/
def State.placeWord (s : State) (w : Nat) : State :=
  let g := wordSlot w
  let kernel := wordKernel (BitVec.ofNat 32 w)
  let levels : Vector Byte 8 := Vector.replicate 8 0x81
  let node : Node := { kernel := 0, scope := 0, count := 0, clevel := 0, lead := false, member := false, spawnOnly := false
                       cost := 0, gang := none, dx := 0, dy := 0, slot := 0, argoff := none, seed := 0 }
  let tmpl : Template := { levels := levels, nodes := [node], edges := [], scopes := [(none, none)], buffers := [], relocs := []
                           channels := [], gangs := [] }
  let image : Image := { part := 0, handle := 1, system := false, bytes := 0, kernels := [kernel], templates := [tmpl], rodata := [] }
  let task := taskHandle s.mgmt.package 0 0 1
  let scope : ScopeRec := { state := .active, gen := 1, part := 0, serial := 1, die := 0, parent := none, depth := 1
                            sealed_ := true, opener := 0, cause := 0, owner := scopeKey 0 0, tcancel := 0
                            counts := AckCounts.zero, acks := [] }
  let rec_ : TaskRec := { TaskRec.free with state := .running, gen := 1, scope := scopeKey 0 0, serial := 1, loc := some g
                                            part := 0, image := 1, tmpl := 0 }
  let inst : Instance := { part := 0, serial := 1, image := 1, tmpl := 0, queue := 0, cmd := 0, seedbase := 0, nodes := [task]
                           scopes := [wordN (2 ^ 20)], args := [], ended := 0, lost := 0, underflow := false, closes := [], broken := [] }
  let super := decide (0xF0 ≤ w / 2 ^ 24)
  let slot : Slot := { Slot.reset with
    state := .issue, grant := kernel.use, levels := levels, part := 0, image := 1, kernel := 0, task := task
    instance_ := 1, status := { super := super, tbank := false, khold := false, inh := false, lock := false } }
  let s := { s with
    images := [image], instances := [inst], scopes := [(scopeKey 0 0, scope)], slots := [(g, slot)], agenda := []
    deferred := [], schedule := [], cursor := 0, mgmt := { s.mgmt with state := .ready, frame := List.replicate 19968 0 } }
  let s := s.onPart 0 (fun p => { p with configured := true, tiles := vset p.tiles 0 (-1), tunq := vset p.tunq 0 16 })
  let s := s.onDie 0 (fun d => { d with good := true, tun := [(0, rec_)], entryGens := [(0, 1)] })
  s.onTile (tileOfSlot g) (fun t => { t with part := some 0, code := [(0, 1, 0)], inbox := { t.inbox with owner := some 0 } })

end Sys2Proof.Machine
end

