-- ==== Sys2Proof/Machine/Step.lean ====
section
/-! DEFINITION. One step of the machine, and the placing of an instruction where it fetches next. -/

namespace Sys2Proof.Machine

/-- One step: one agent of the module moves (log 2). -/
noncomputable def step (s : State) : Host.Outcome State Fault Refusal := s.stepWith exec

/-- The state with an instruction word where the next step fetches (log 21). -/
def State.withFetchWord (s : State) (_nbits w : Nat) : State := s.placeWord w

end Sys2Proof.Machine
end

