-- ==== Sys2Proof/Certificates/Slice0/Obligations.lean ====
section
/-! DEFINITION. The statements for the provers, and the vocabulary they use. A table here says what an instruction names and
computes, row by row, as the spec's own tables do; a statement says that `exec` does just that. -/

namespace Sys2Proof.Claims

open Sys2Proof.Machine

/-- The slot whose instruction is executed. -/
abbrev me (s : State) : Slot := s.slot s.cur
/-- An instruction that names the scalar registers `rs` may issue: none of them awaits a result (spec/06 R127), and the common
checks of spec/05 R110 steps 2 to 4 and spec/13 R267 pass. -/
def Ready (s : State) (f : Form) (rs : List Reg) : Prop :=
  s.anyBusy s.cur (me s) rs = false ∧ (me s).formCause (tileOfSlot s.cur) f = none
/-- The state once the slot's instruction has retired with a change of its slot: nothing else differs. -/
def retired (s : State) (f : Slot → Slot) : State := s.setSlot s.cur (f (me s)).advance
/-- An instruction completes with a given next state. -/
def Gives (i : Instr) (s t : State) : Prop := exec i s = .next t
/-- Two states differ in their slots at most. -/
def SameBut (s t : State) : Prop := t = { s with slots := t.slots }
/-- An instruction with a word (the others of `Instr` are the events). -/
def encoded (i : Instr) : Bool := (encode i).isSome

/-! ## Encoding -/

/-- Words that the spec's own examples write out, and the instructions they stand for. -/
noncomputable def exampleWords : List (Nat × Instr) :=
  [(0x01319000, .add 6 6 8), (0x28284006, .ld 5 1 0), (0x08380040, .addi 7 0 16), (0x2101C014, .loop 7 5), (0x19400002, .bnez 8 2),
   (0x0F28004C, .rdsr 5 0x013), (0x0F01C00B, .clrsr 7 0x002), (0x29304046, .st 6 1 8), (0x2C298073, .amoAdd 5 6 true .rel 3),
   (0x2A3A1806, .ldAcq 7 8 3 6), (0x46510006, .vredfadd 10 4 none), (0x622A4000, .accClr 5 9), (0x71298880, .cpGather 5 6 (some 2) 1),
   (0x75008200, .waitlt 2 1), (0x81298E72, .cancel 5 6 7 (some 3)), (0x842AD833, .topk 5 11 12 3), (0xF0080401, .csrrd 1 0x101),
   (0xF1014C02, .tlbInv 5 6)]
/-- The majors that spec/05 Table 5.3 assigns. -/
def assignedMajors : List Nat :=
  [0x01, 0x02, 0x03, 0x04, 0x05, 0x08, 0x09, 0x0A, 0x0B, 0x0F, 0x10, 0x18, 0x19, 0x1A, 0x1B, 0x1C, 0x1D, 0x1E, 0x1F, 0x20, 0x21, 0x28,
   0x29, 0x2A, 0x2B, 0x2C, 0x40, 0x41, 0x42, 0x43, 0x44, 0x45, 0x46, 0x47, 0x48, 0x49, 0x4A, 0x4B, 0x4C, 0x4D, 0x4E, 0x60, 0x61, 0x62,
   0x63, 0x70, 0x71, 0x72, 0x74, 0x75, 0x80, 0x81, 0x82, 0x83, 0x84, 0xF0, 0xF1, 0xF2]

end Sys2Proof.Claims

open Sys2Proof Sys2Proof.Machine Sys2Proof.Claims

/-- The example words of the spec decode to the instructions they stand for, and a word whose major spec/05 Table 5.3 does not assign
decodes to none. -/
def Obligations.WordsDecode : Prop :=
  (∀ p ∈ exampleWords, decode p.1 = .ok p.2) ∧ ∀ w : Nat, w / 2 ^ 24 ∉ assignedMajors → decode w = .error .reservedMajor
/-- Decoding the word of a well-formed instruction gives the instruction back, every operand at every value (spec/05 R106 to R110). -/
def Obligations.DecodeEncode : Prop := ∀ (i : Instr) (w : Nat), i.wf = true → encode i = some w → decode w = .ok i
/-- A word that decodes is the word of the instruction it decodes to: no bit of it is ignored (spec/05 R108). -/
def Obligations.EncodeDecode : Prop := ∀ (w : Nat) (i : Instr), decode w = .ok i → encode i = some w ∧ i.wf = true

namespace Sys2Proof.Claims

/-! ## Integer instructions of one cycle: the registers named, the destination, the value (spec/06 Tables 6.2, 6.4 to 6.7) -/

/-- See above; `t` is the slot. -/
def aluRow (i : Instr) (t : Slot) : Option (List Reg × Reg × Word) :=
  match i with
  | .add d a b => some ([a, b, d], d, t.x a + t.x b)
  | .sub d a b => some ([a, b, d], d, t.x a - t.x b)
  | .and d a b => some ([a, b, d], d, t.x a &&& t.x b)
  | .or d a b => some ([a, b, d], d, t.x a ||| t.x b)
  | .xor d a b => some ([a, b, d], d, t.x a ^^^ t.x b)
  | .andn d a b => some ([a, b, d], d, t.x a &&& ~~~(t.x b))
  | .addw d a b => some ([a, b, d], d, ((t.x a + t.x b).setWidth 32).signExtend 64)
  | .subw d a b => some ([a, b, d], d, ((t.x a - t.x b).setWidth 32).signExtend 64)
  | .min d a b => some ([a, b, d], d, if (t.x a).toInt ≤ (t.x b).toInt then t.x a else t.x b)
  | .max d a b => some ([a, b, d], d, if (t.x a).toInt ≤ (t.x b).toInt then t.x b else t.x a)
  | .minu d a b => some ([a, b, d], d, if (t.x a).toNat ≤ (t.x b).toNat then t.x a else t.x b)
  | .maxu d a b => some ([a, b, d], d, if (t.x a).toNat ≤ (t.x b).toNat then t.x b else t.x a)
  | .sll d a b => some ([a, b, d], d, t.x a <<< ((t.x b).toNat % 64))
  | .srl d a b => some ([a, b, d], d, t.x a >>> ((t.x b).toNat % 64))
  | .sra d a b => some ([a, b, d], d, (t.x a).sshiftRight ((t.x b).toNat % 64))
  | .rol d a b => some ([a, b, d], d, (t.x a).rotateLeft ((t.x b).toNat % 64))
  | .ror d a b => some ([a, b, d], d, (t.x a).rotateRight ((t.x b).toNat % 64))
  | .clz d a => some ([a, d], d, wordN (if t.x a = 0 then 64 else 63 - (t.x a).toNat.log2))
  | .ctz d a => some ([a, d], d, wordN (ctzN 64 (t.x a).toNat))
  | .popc d a => some ([a, d], d, wordN (popN 64 (t.x a).toNat))
  | .bswap d a => some ([a, d], d, wordN (ofBytes (toBytes 8 (t.x a).toNat).reverse))
  | .brev d a => some ([a, d], d, wordN (revN 64 (t.x a).toNat))
  | .extu d a b => some ([a, b, d], d, wordN ((t.x a).toNat / 2 ^ fieldPos (t.x b) % 2 ^ fieldBits (t.x b)))
  | .exts d a b => some ([a, b, d], d, wrap (sextN ((t.x a).toNat / 2 ^ fieldPos (t.x b)) (fieldBits (t.x b))))
  | .ins d a b => some ([a, b, d], d, insertField (t.x d) (t.x a) (t.x b))
  | .seq d a b => some ([a, b, d], d, if t.x a = t.x b then 1 else 0)
  | .sne d a b => some ([a, b, d], d, if t.x a = t.x b then 0 else 1)
  | .slt d a b => some ([a, b, d], d, if (t.x a).toInt < (t.x b).toInt then 1 else 0)
  | .sltu d a b => some ([a, b, d], d, if (t.x a).toNat < (t.x b).toNat then 1 else 0)
  | .sge d a b => some ([a, b, d], d, if (t.x a).toInt < (t.x b).toInt then 0 else 1)
  | .sgeu d a b => some ([a, b, d], d, if (t.x a).toNat < (t.x b).toNat then 0 else 1)
  | .cmovz d a b => some ([a, b, d], d, if t.x b = 0 then t.x a else t.x d)
  | .cmovnz d a b => some ([a, b, d], d, if t.x b = 0 then t.x d else t.x a)
  | .addi d a im => some ([a, d], d, t.x a + im.signExtend 64)
  | .andi d a im => some ([a, d], d, t.x a &&& im.signExtend 64)
  | .ori d a im => some ([a, d], d, t.x a ||| im.setWidth 64)
  | .xori d a im => some ([a, d], d, t.x a ^^^ im.setWidth 64)
  | .slli d a im => some ([a, d], d, t.x a <<< im.toNat)
  | .srli d a im => some ([a, d], d, t.x a >>> im.toNat)
  | .srai d a im => some ([a, d], d, (t.x a).sshiftRight im.toNat)
  | .rori d a im => some ([a, d], d, (t.x a).rotateRight im.toNat)
  | .seqi d a im => some ([a, d], d, if t.x a = im.signExtend 64 then 1 else 0)
  | .snei d a im => some ([a, d], d, if t.x a = im.signExtend 64 then 0 else 1)
  | .slti d a im => some ([a, d], d, if (t.x a).toInt < im.toInt then 1 else 0)
  | .sltui d a im => some ([a, d], d, if (t.x a).toNat < (im.signExtend 64).toNat then 1 else 0)
  | .addiw d a im => some ([a, d], d, ((t.x a + im.signExtend 64).setWidth 32).signExtend 64)
  | .li d im => some ([d], d, im.signExtend 64)
  | .shori d a im => some ([a, d], d, t.x a <<< 12 + im.setWidth 64)
  | .fabs d a => some ([a, d], d, t.x a &&& 0x7FFFFFFF)
  | .fneg d a => some ([a, d], d, (t.x a &&& 0xFFFFFFFF) ^^^ 0x80000000)
  | .fclass d a => some ([a, d], d, wordN (fclass32 ((t.x a).setWidth 32)))
  | _ => none
/-- The saturating ones: the exact result, which is saturated to the signed 64-bit range (spec/06 Table 6.2). -/
def satRow (i : Instr) (t : Slot) : Option (List Reg × Reg × Int) :=
  match i with
  | .adds d a b => some ([a, b, d], d, (t.x a).toInt + (t.x b).toInt)
  | .subs d a b => some ([a, b, d], d, (t.x a).toInt - (t.x b).toInt)
  | .abs d a => some ([a, d], d, (t.x a).toInt.natAbs)
  | _ => none

/-! ## Results written later: busy unit (1 divider, 2 FP32 divide and root), registers, destination, value, flags (spec/06 Tables 6.3,
6.7). `u` is the stochastic word. -/

/-- Multiply and divide. -/
def mulRow (i : Instr) (t : Slot) : Option (Nat × List Reg × Reg × Word × BitVec 7) :=
  match i with
  | .mul d a b => some (0, [a, b, d], d, t.x a * t.x b, 0)
  | .mulh d a b => some (0, [a, b, d], d, wrap ((t.x a).toInt * (t.x b).toInt / 2 ^ 64), 0)
  | .mulhu d a b => some (0, [a, b, d], d, wordN ((t.x a).toNat * (t.x b).toNat / 2 ^ 64), 0)
  | .mulhsu d a b => some (0, [a, b, d], d, wrap ((t.x a).toInt * ((t.x b).toNat : Int) / 2 ^ 64), 0)
  | .mulw d a b => some (0, [a, b, d], d, ((t.x a * t.x b).setWidth 32).signExtend 64, 0)
  | .div d a b => some (1, [a, b, d], d,
      if t.x b = 0 then -1 else if (t.x a).toInt = -2 ^ 63 ∧ (t.x b).toInt = -1 then t.x a else wrap (Int.tdiv (t.x a).toInt (t.x b).toInt),
      if t.x b = 0 then 8 else if (t.x a).toInt = -2 ^ 63 ∧ (t.x b).toInt = -1 then 4 else 0)
  | .divu d a b => some (1, [a, b, d], d, if t.x b = 0 then -1 else t.x a / t.x b, if t.x b = 0 then 8 else 0)
  | .rem d a b => some (1, [a, b, d], d, if t.x b = 0 then t.x a else wrap (Int.tmod (t.x a).toInt (t.x b).toInt), if t.x b = 0 then 8 else 0)
  | .remu d a b => some (1, [a, b, d], d, if t.x b = 0 then t.x a else t.x a % t.x b, if t.x b = 0 then 8 else 0)
  | _ => none
/-- Scalar FP32: as `mulRow`, and whether the instruction rounds under RM. -/
def floatRow (i : Instr) (t : Slot) (u : Nat) : Option (Nat × List Reg × Reg × Bool × Word × BitVec 7) :=
  let f := fun (r : Reg) => (t.x r).setWidth 32
  let z := fun (r : BitVec 32 × BitVec 7) => (r.1.setWidth 64, r.2)
  match i with
  | .fadd d a b => some (0, [a, b, d], d, true, z (fadd32 t.rc u (f a) (f b)))
  | .fsub d a b => some (0, [a, b, d], d, true, z (fsub32 t.rc u (f a) (f b)))
  | .fmul d a b => some (0, [a, b, d], d, true, z (fmul32 t.rc u (f a) (f b)))
  | .fdiv d a b => some (2, [a, b, d], d, true, z (fdiv32 t.rc u (f a) (f b)))
  | .fsqrt d a => some (2, [a, d], d, true, z (fsqrt32 t.rc u (f a)))
  | .fmadd d a b => some (0, [a, b, d], d, true, z (fma32 false t.rc u (f a) (f b) (f d)))
  | .fmin d a b => some (0, [a, b, d], d, false, (fmin32 (f a) (f b)).setWidth 64, 0)
  | .fmax d a b => some (0, [a, b, d], d, false, (fmax32 (f a) (f b)).setWidth 64, 0)
  | .feq d a b => some (0, [a, b, d], d, false, if feq32 (f a) (f b) then 1 else 0, 0)
  | .flt d a b => some (0, [a, b, d], d, false, if (flt32 (f a) (f b)).1 then 1 else 0, (flt32 (f a) (f b)).2)
  | .fle d a b => some (0, [a, b, d], d, false, if (fle32 (f a) (f b)).1 then 1 else 0, (fle32 (f a) (f b)).2)
  | .ftoi d a => some (0, [a, d], d, true, wrap (ftoi32 (-2 ^ 63) (2 ^ 63 - 1) t.rc u (f a)).1, (ftoi32 (-2 ^ 63) (2 ^ 63 - 1) t.rc u (f a)).2)
  | .ftou d a => some (0, [a, d], d, true, wrap (ftoi32 0 (2 ^ 64 - 1) t.rc u (f a)).1, (ftoi32 0 (2 ^ 64 - 1) t.rc u (f a)).2)
  | .itof d a => some (0, [a, d], d, true, z (itof32 t.rc u (t.x a).toInt))
  | .utof d a => some (0, [a, d], d, true, z (itof32 t.rc u (t.x a).toNat))
  | _ => none
/-- The state with a result on its way to the slot's register `d`: it is written by SCALAR_RESULT. -/
def pending (s : State) (unit : Nat) (d : Reg) (v : Word) (flags : BitVec 7) (sr : Bool) : State :=
  (retired s (fun t => { t with
    results := t.results ++ [{ bank := t.bank, reg := d, value := v, flags := flags, unit := unit }]
    srseq := if sr then t.srseq + 1 else t.srseq })).post (.scalarResult s.cur)
/-- The word U that a scalar instruction rounds with under .SR (spec/06 R135; spec/03 R79). -/
def scalarU (t : Slot) : Nat := if t.rc = 4 then srWord t.seed t.instance_ t.taskid t.lt 2 0 t.srseq else 0

end Sys2Proof.Claims

/-- An integer instruction of one cycle writes its value to xd (x0 discards it) and retires; nothing else of the state changes. ADDS,
SUBS and ABS saturate, and set SAT, bit 5 of FLAGS, when the exact result lies outside the signed range (spec/06 R127, R129, R131 to R133,
R135). -/
def Sys2Proof.Claims.AluResult : Prop :=
  ∀ (s : State) (i : Instr) (rs : List Reg) (d : Reg),
    (∀ v, aluRow i (me s) = some (rs, d, v) → Ready s {} rs → Gives i s (retired s (fun t => t.setX d v))) ∧
    (∀ v, satRow i (me s) = some (rs, d, v) → Ready s {} rs →
      Gives i s (retired s (fun t =>
        { t.setX d (if v < -2 ^ 63 then BitVec.ofInt 64 (-2 ^ 63) else if 2 ^ 63 ≤ v then BitVec.ofInt 64 (2 ^ 63 - 1) else BitVec.ofInt 64 v) with
          flags := if v < -2 ^ 63 ∨ 2 ^ 63 ≤ v then t.flags ||| 0x20 else t.flags })))
/-- EXTU, EXTS and INS bit by bit (spec/06 R131): a field acts on positions p to min(p + n, 64) − 1, with n = 0 meaning 64. -/
def Sys2Proof.Claims.BitFields : Prop :=
  ∀ (u v w : Word) (k : Nat), k < 64 →
    let p := v.toNat % 64
    let n := min (if v.toNat / 256 % 64 = 0 then 64 else v.toNat / 256 % 64) (64 - p)
    (extractU u v).getLsbD k = (decide (k < n) && u.getLsbD (p + k)) ∧
    (extractS u v).getLsbD k = u.getLsbD (p + min k (n - 1)) ∧
    (insertField w u v).getLsbD k = (if p ≤ k ∧ k < p + n then u.getLsbD (k - p) else w.getLsbD k)
/-- Integer instructions of one cycle, and the bit fields of EXTU, EXTS and INS (spec/06 R127, R129, R131 to R133, R135). -/
def Obligations.IntegerResults : Prop := Sys2Proof.Claims.AluResult ∧ Sys2Proof.Claims.BitFields
/-- A multiply, a divide or a scalar FP32 instruction issues: its result, computed from what it reads at issue, is on its way; one that
rounds takes its stochastic word under .SR. While the divider, or the FP32 divide and root unit, is occupied, an instruction that needs it
waits (spec/06 R127, R128, R130, R135). -/
def Sys2Proof.Claims.LateResult : Prop :=
  ∀ (s : State) (i : Instr) (unit : Nat) (rs : List Reg) (d : Reg) (rounds : Bool) (v : Word) (f : BitVec 7),
    (mulRow i (me s) = some (unit, rs, d, v, f) ∧ rounds = false ∨ floatRow i (me s) (scalarU (me s)) = some (unit, rs, d, rounds, v, f)) →
    Ready s {} rs →
    (unit = 0 ∨ (me s).results.any (fun e => e.unit == unit) = false → Gives i s (pending s unit d v f (rounds && (me s).rc == 4))) ∧
    (unit ≠ 0 → (me s).results.any (fun e => e.unit == unit) = true → Gives i s { s with stalled := true })
/-- SCALAR_RESULT writes the slot's oldest result to its register and only then ORs its flags into FLAGS (spec/06 R127). -/
def Sys2Proof.Claims.ScalarResultWrites : Prop :=
  ∀ (s : State) (g : Nat) (r : Result) (rest : List Result), (s.slot g).results = r :: rest →
    ∃ t, Gives (.scalarResult g) s t ∧ SameBut s t ∧ (∀ h, h ≠ g → t.slot h = s.slot h) ∧
      (t.slot g).results = rest ∧ ((t.slot g).flowOf r.bank).get r.reg = (if r.reg = 0 then 0 else r.value) ∧
      (∀ b q, (b, q) ≠ (r.bank, r.reg) → ((t.slot g).flowOf b).get q = ((s.slot g).flowOf b).get q) ∧
      (t.slot g).flags = (s.slot g).flags ||| r.flags.setWidth 64
/-- Results that are written later: issue, and SCALAR_RESULT (spec/06 R127, R128, R130, R135). Choices of the model that it rests on: log 75. -/
def Obligations.LateResults : Prop := Sys2Proof.Claims.LateResult ∧ Sys2Proof.Claims.ScalarResultWrites

namespace Sys2Proof.Claims

/-! ## Special registers and literals -/

/-- The value of a special register (spec/05 Table 5.4). -/
def srValue (s : State) (n : Nat) : Option Word :=
  match n with
  | 0x000 => some (me s).prec
  | 0x001 => some (me s).rm
  | 0x002 => some (me s).flags
  | 0x003 => some (me s).seed
  | 0x004 => some ((me s).flow.lc0.setWidth 64)
  | 0x005 => some ((me s).flow.lc1.setWidth 64)
  | 0x010 => some (me s).instance_
  | 0x011 => some (me s).taskid
  | 0x012 => some (wordN (s.cur % 4))
  | 0x013 => some (s.tileId (s.cur / 4))
  | 0x014 => some (me s).grant.word
  | 0x015 => some (me s).grant.acc
  | _ => none
/-- The slot after a write of a special register, and the mask of its bits that are not reserved (spec/05 Tables 5.5 to 5.7, spec/06
Table 6.10). -/
def srWrite (t : Slot) (n : Nat) (v : Word) : Option (Slot × Word) :=
  match n with
  | 0x000 => some ({ t with prec := v }, 0x33F3F)
  | 0x001 => some ({ t with rm := v }, 0x7)
  | 0x002 => some ({ t with flags := v }, 0x7F)
  | 0x003 => some ({ t with seed := v }, 0xFFFFFFFFFFFFFFFF)
  | 0x004 => some (t.setFlow t.bank { t.flow with lc0 := v.setWidth 32 }, 0xFFFFFFFF)
  | 0x005 => some (t.setFlow t.bank { t.flow with lc1 := v.setWidth 32 }, 0xFFFFFFFF)
  | _ => none
/-- What WRSR, SETSR and CLRSR write: register number, register named, new value from the old (spec/05 R113). -/
def srForm (i : Instr) (t : Slot) (old : Word) : Option (Nat × Reg × Word) :=
  match i with
  | .wrsr a sr => some (sr.toNat, a, t.x a)
  | .setsr a sr => some (sr.toNat, a, old ||| t.x a)
  | .clrsr a sr => some (sr.toNat, a, old &&& ~~~(t.x a))
  | _ => none
/-- An access to FLAGS can issue: every queued entry of the slot has completed, and every scalar result is written (spec/05 R112, spec/06
R127). -/
def FlagsReady (t : Slot) : Prop :=
  t.vq = [] ∧ t.vbound = [] ∧ t.mq = [] ∧ t.mbound = [] ∧ t.sq = [] ∧ t.sbound = [] ∧ t.results = []

/-! ## Branches, jumps and loops -/

/-- A conditional branch: the register, the offset, and whether it is taken (spec/06 Table 6.8). -/
def branchRow (i : Instr) (t : Slot) : Option (Reg × BitVec 19 × Bool) :=
  match i with
  | .beqz c off => some (c, off, decide (t.x c = 0))
  | .bnez c off => some (c, off, decide (t.x c ≠ 0))
  | .bltz c off => some (c, off, decide ((t.x c).toInt < 0))
  | .bgez c off => some (c, off, decide (0 ≤ (t.x c).toInt))
  | .bgtz c off => some (c, off, decide (0 < (t.x c).toInt))
  | .blez c off => some (c, off, decide ((t.x c).toInt ≤ 0))
  | _ => none
/-- PC + 4 × Sext(off, 19). -/
def target (t : Slot) (off : BitVec 19) : Nat := (BitVec.ofNat 64 t.pc + 4 * off.signExtend 64).toNat
/-- The slot after a taken branch, JMP or JR. -/
def jumped (s : State) (dst : Nat) : State := s.setSlot s.cur ((me s).setFlow (me s).bank ((me s).flow.jump dst))
/-- LOOP and LOOP.I: registers named, the count, the body length (spec/06 R141). -/
def loopRow (i : Instr) (t : Slot) : Option (List Reg × Nat × BitVec 12) :=
  match i with
  | .loop a im => some ([a], (t.x a).toNat % 2 ^ 32, im)
  | .loopI n im => some ([], n.val, im)
  | _ => none
/-- The flow with a level pushed (spec/06 R141): lc0 counts for the first level, lc1 for the second. -/
def pushed (f : Flow) (count : Nat) (len : Nat) : Flow :=
  { f with
    loops := f.loops ++ [{ first := f.pc + 4, last := f.pc + 4 * len }], pc := f.pc + 4
    lc0 := if f.loops.length = 0 then BitVec.ofNat 32 (count - 1) else f.lc0
    lc1 := if f.loops.length = 0 then f.lc1 else BitVec.ofNat 32 (count - 1) }

end Sys2Proof.Claims

/-- RDSR reads a special register into xd. WRSR, SETSR and CLRSR write one when no reserved bit, and for RM no reserved code, would be
written; else, and for a read-only register, they raise Illegal Instruction. An access to FLAGS waits for the slot's queues and results
(spec/05 R112, R113). -/
def Obligations.SpecialRegisters : Prop :=
  ∀ (s : State) (i : Instr) (n : Nat) (d a : Reg) (sr : BitVec 12) (old v : Word),
    (srValue s sr.toNat = some v → Ready s {} [d] → (sr = 2 → FlagsReady (me s)) → Gives (.rdsr d sr) s (retired s (fun t => t.setX d v))) ∧
    (srValue s n = some old → srForm i (me s) old = some (n, a, v) → Ready s {} [a] → (n = 2 → FlagsReady (me s)) →
      (∀ t m, srWrite (me s) n v = some (t, m) → v &&& ~~~m = 0 → (n = 1 → v.toNat ≤ 4) → Gives i s (s.setSlot s.cur t.advance)) ∧
      ((∀ t m, srWrite (me s) n v = some (t, m) → v &&& ~~~m ≠ 0 ∨ (n = 1 ∧ 4 < v.toNat)) →
        Gives i s (s.takeTrap s.cur 1 (s.wordAt (me s))))) ∧
    (srForm i (me s) old = some (2, a, v) → Ready s {} [a] → ¬FlagsReady (me s) → s.engineStuck (me s) = false →
      Gives i s { s with stalled := true })
/-- LIT and LIT.W load a literal of the running kernel (spec/06 R134); an index at or above NLIT raises Illegal Instruction (spec/05
R121). -/
def Obligations.Literals : Prop :=
  ∀ (s : State) (d : Reg) (idx : BitVec 14) (k : Kernel), s.kernelOf (me s) = some k → Ready s {} [d] →
    (∀ v, k.literals[idx.toNat]? = some v →
      Gives (.lit d idx) s (retired s (fun t => t.setX d v)) ∧
      Gives (.litW d idx) s (retired s (fun t => t.setX d ((v.setWidth 32).signExtend 64)))) ∧
    (k.literals.length ≤ idx.toNat →
      Gives (.lit d idx) s (s.takeTrap s.cur 1 (s.wordAt (me s))) ∧ Gives (.litW d idx) s (s.takeTrap s.cur 1 (s.wordAt (me s))))
/-- A conditional branch goes to its target when taken, else to the next instruction. JMP, JR, CALL and JALR go to theirs, from all 64
bits of a register for JR and JALR, with the link PC + 4; CALL and JALR leave the loop stack alone, and at the end of a loop body they raise
Illegal Instruction (spec/06 R136, R137, R142). -/
def Obligations.Transfers : Prop :=
  ∀ (s : State) (i : Instr) (d a : Reg) (off : BitVec 19) (taken : Bool),
    (branchRow i (me s) = some (a, off, taken) → Ready s {} [a] →
      Gives i s (if taken then jumped s (target (me s) off) else retired s id)) ∧
    (Ready s {} [] → Gives (.jmp off) s (jumped s (target (me s) off))) ∧
    (Ready s {} [a] → Gives (.jr a) s (jumped s ((me s).x a).toNat)) ∧
    (Ready s {} [d] → (me s).flow.atEnd = false →
      Gives (.call d off) s (s.setSlot s.cur (((me s).setX d (wordN ((me s).pc + 4))).setPc (target (me s) off)))) ∧
    (Ready s {} [a, d] → (me s).flow.atEnd = false →
      Gives (.jalr d a) s (s.setSlot s.cur (((me s).setX d (wordN ((me s).pc + 4))).setPc ((me s).x a).toNat))) ∧
    (Ready s {} [d] → (me s).flow.atEnd = true → Gives (.call d off) s (s.takeTrap s.cur 1 (s.wordAt (me s)))) ∧
    (Ready s {} [a, d] → (me s).flow.atEnd = true → Gives (.jalr d a) s (s.takeTrap s.cur 1 (s.wordAt (me s))))
/-- LOOP and LOOP.I push a level, or skip the body when the count is 0; a length of 0 or a third level raises Illegal Instruction
(spec/06 R141). -/
def Sys2Proof.Claims.LoopPush : Prop :=
  ∀ (s : State) (i : Instr) (rs : List Reg) (count : Nat) (im : BitVec 12), loopRow i (me s) = some (rs, count, im) → Ready s {} rs →
    (im ≠ 0 → (me s).flow.loops.length < 2 → Gives i s (s.setSlot s.cur ((me s).setFlow (me s).bank
      (if count = 0 then { (me s).flow with pc := (me s).pc + 4 * im.toNat + 4 } else pushed (me s).flow count im.toNat)))) ∧
    (im = 0 ∨ 2 ≤ (me s).flow.loops.length → Gives i s (s.takeTrap s.cur 1 (s.wordAt (me s))))
/-- The end of a loop body (spec/06 R142 rule 1): away from the innermost LEND the PC goes on; at it a count that is not 0 goes down and
the body starts again; a count of 0 pops the level, and the level outside it is tested if its LEND is the same. A taken transfer out of the
innermost body pops its level, and then the level outside it if that is left too; one to a target inside leaves the stack (rule 2). -/
def Sys2Proof.Claims.LoopStack : Prop :=
  ∀ (f : Flow) (l o : LoopLevel) (dst : Nat),
    let inside := fun (k : LoopLevel) (pc : Nat) => k.first ≤ pc ∧ pc ≤ k.last
    (f.loops = [] → f.advance = { f with pc := f.pc + 4 }) ∧
    (f.loops.getLast? = some l → l.last ≠ f.pc → f.advance = { f with pc := f.pc + 4 }) ∧
    (f.loops = [l] → l.last = f.pc → f.lc0 ≠ 0 → f.advance = { f with pc := l.first, lc0 := f.lc0 - 1 }) ∧
    (f.loops = [l] → l.last = f.pc → f.lc0 = 0 → f.advance = { f with pc := f.pc + 4, loops := [] }) ∧
    (f.loops = [o, l] → l.last = f.pc → f.lc1 ≠ 0 → f.advance = { f with pc := l.first, lc1 := f.lc1 - 1 }) ∧
    (f.loops = [o, l] → l.last = f.pc → f.lc1 = 0 → o.last ≠ f.pc → f.advance = { f with pc := f.pc + 4, loops := [o] }) ∧
    (f.loops = [o, l] → l.last = f.pc → f.lc1 = 0 → o.last = f.pc → f.lc0 ≠ 0 →
      f.advance = { f with pc := o.first, lc0 := f.lc0 - 1, loops := [o] }) ∧
    (f.loops = [o, l] → l.last = f.pc → f.lc1 = 0 → o.last = f.pc → f.lc0 = 0 → f.advance = { f with pc := f.pc + 4, loops := [] }) ∧
    (f.jump dst).pc = dst ∧ (f.jump dst).lc0 = f.lc0 ∧ (f.jump dst).lc1 = f.lc1 ∧ (f.jump dst).x = f.x ∧
    (f.loops = [] → (f.jump dst).loops = []) ∧
    (f.loops.getLast? = some l → ¬(inside l f.pc ∧ ¬inside l dst) → (f.jump dst).loops = f.loops) ∧
    (f.loops = [l] → inside l f.pc → ¬inside l dst → (f.jump dst).loops = []) ∧
    (f.loops = [o, l] → inside l f.pc → ¬inside l dst → ¬(inside o f.pc ∧ ¬inside o dst) → (f.jump dst).loops = [o]) ∧
    (f.loops = [o, l] → inside l f.pc → ¬inside l dst → inside o f.pc → ¬inside o dst → (f.jump dst).loops = [])
/-- Hardware loops: LOOP, the end of a body, leaving it (spec/06 R141, R142). Choices of the model that it rests on: log 18, 40. -/
def Obligations.Loops : Prop := Sys2Proof.Claims.LoopPush ∧ Sys2Proof.Claims.LoopStack
/-- TRAP n and ECALL n take a trap with cause 9 and 10 and the number as its value; ECALL at the end of a loop body is an Illegal
Instruction instead (spec/06 R138, R142; spec/13 Table 13.5). -/
def Sys2Proof.Claims.SoftwareTraps : Prop :=
  ∀ (s : State) (n : Fin 32), Ready s {} [] →
    Gives (.trap n) s (s.takeTrap s.cur 9 (wordN n.val)) ∧
    ((me s).flow.atEnd = false → Gives (.ecall n) s (s.takeTrap s.cur 10 (wordN n.val))) ∧
    ((me s).flow.atEnd = true → Gives (.ecall n) s (s.takeTrap s.cur 1 (s.wordAt (me s))))
/-- TS.READ reads the timestamp (spec/06 R139); YIELD without a waiting message only goes on, and with one the instruction
retires and the slot, HANDLER, goes on after it when the handlers have run (spec/06 R137; spec/02 R55). -/
def Sys2Proof.Claims.TimestampAndYield : Prop :=
  ∀ (s : State) (d : Reg),
    (Ready s {} [d] → Gives (.tsRead d) s (retired s (fun t => t.setX d s.now))) ∧
    (Ready s { noHandler := true } [] → s.messageWaits s.cur = false → Gives .yield s (retired s id)) ∧
    (Ready s { noHandler := true } [] → s.messageWaits s.cur = true → Gives .yield s ((retired s id).enterHandler s.cur none))
/-- A handler point with a message: at YIELD once it has retired, or in a BLOCKED slot, the slot is HANDLER, its PC the handler entry of
its kernel, x1 the window address of the oldest message and x2 its first 8 bytes; the main flow is kept (spec/02 R55). -/
def Sys2Proof.Claims.HandlerEntryState : Prop :=
  ∀ (s : State) (g : Nat) (k : Kernel), s.messageWaits g = true → s.kernel (s.slot g).part (s.slot g).image (s.slot g).kernel = some k →
    (s.slot g).state = .blocked → (s.slot g).killable = false → (s.slot g).freeze = none →
    ∃ t, Gives (.handlerEntry g) s t ∧ SameBut s t ∧ (∀ h, h ≠ g → t.slot h = s.slot h) ∧
      (t.slot g).state = .handler ∧ (t.slot g).inHandler = true ∧ (t.slot g).resume = (s.slot g).wait ∧ (t.slot g).main = (s.slot g).main ∧
      (t.slot g).handler.pc = k.hentry ∧ (t.slot g).handler.loops = [] ∧
      (let off := inboxBase (g / 4) + 64 * ((s.tile (g / 4)).inbox.taken % inboxRoom (g / 4))
       (t.slot g).handler.get 1 = s.windowAddr (g / 4) off ∧
       (t.slot g).handler.get 2 = wordN (ofBytes (s.readMem (sramKey (g / 4) off) 8)))
/-- TRAP, ECALL, TS.READ, YIELD and the entry of a handler (spec/06 R137 to R139; spec/02 R55). -/
def Obligations.TrapsAndHandlers : Prop := Sys2Proof.Claims.SoftwareTraps ∧ Sys2Proof.Claims.TimestampAndYield ∧ Sys2Proof.Claims.HandlerEntryState

/-! ## Traps -/

/-- A trap of a USER slot outside a lockstep gang goes to the trap kernel when TRAPDEL says so: EPC, ECAUSE and ETVAL take it, MODE and
TBANK are 1, and the trap bank runs from the trap kernel's ENTRY; nothing else of the slot, and no other slot, changes (spec/13 R274,
R275). -/
def Sys2Proof.Claims.SuperTrapEntry : Prop :=
  ∀ (s : State) (g cause : Nat) (v : Word) (k : Kernel), (s.slot g).status.super = false → s.inLockstep (s.slot g) = false → cause < 14 →
    (s.part (s.slot g).part).trapdel.toNat / 2 ^ (2 * cause) % 4 = 0 → (s.part (s.slot g).part).partinfo.getLsbD 16 = true →
    s.kernel (s.slot g).part (s.part (s.slot g).part).trapImage (bits (s.part (s.slot g).part).partinfo 15 0) = some k →
    let u := (s.takeTrap g cause v).slot g
    (s.takeTrap g cause v).mem = s.mem ∧ (∀ h, h ≠ g → (s.takeTrap g cause v).slot h = s.slot h) ∧
    u = { s.slot g with
      epc := wordN ((s.slot g).pc % 65536), ecause := BitVec.ofNat 8 cause, etval := v
      status := { super := true, tbank := true, khold := (s.slot g).hold.isSome, inh := (s.slot g).inHandler, lock := false }
      trap := { (s.slot g).trap with pc := k.entry } }
/-- TRET in the trap bank: MODE and TBANK are 0, and the flow that trapped goes on at EPC; outside it TRET is an Illegal Instruction.
A trap entered and returned from leaves every flow as it was, but for the trap bank (spec/13 R275, R276). -/
def Sys2Proof.Claims.TrapReturn : Prop :=
  ∀ (s : State),
    (Ready s { privileged := true } [] → (me s).status.tbank = true → s.inLockstep (me s) = false →
      ∃ t, Gives .tret s t ∧ SameBut s t ∧ (∀ h, h ≠ s.cur → t.slot h = s.slot h) ∧
        (t.slot s.cur).status = { super := false, tbank := false, khold := false, inh := false, lock := false } ∧
        (t.slot s.cur).pc = bits (me s).epc 15 0 ∧ (t.slot s.cur).trap = (me s).trap ∧
        (t.slot s.cur).flow.x = (if (me s).inHandler then (me s).handler.x else (me s).main.x)) ∧
    (Ready s { privileged := true } [] → (me s).status.tbank = false → Gives .tret s (s.takeTrap s.cur 1 (s.wordAt (me s)))) ∧
    (∀ (g cause : Nat) (v : Word), (s.slot g).status = { super := false, tbank := false, khold := false, inh := false, lock := false } →
      s.inLockstep (s.slot g) = false → (s.slot g).pc < 65536 → s.delivery g cause = .super →
      let u := ((s.takeTrap g cause v).returnTrap g).slot g
      u.main = (s.slot g).main ∧ u.handler = (s.slot g).handler ∧ u.status = (s.slot g).status ∧ u.v = (s.slot g).v ∧
        u.flags = (s.slot g).flags ∧ u.bank = (s.slot g).bank)
/-- A trap taken in SUPER mode, or with TRAPDEL's code for CANCEL, ends the task: the delivery is CANCEL; TASK becomes SUPER in a lockstep
gang, and SUPER becomes CANCEL without a trap kernel (spec/13 R274). -/
def Sys2Proof.Claims.TrapDelivery : Prop :=
  ∀ (s : State) (g cause : Nat),
    let p := s.part (s.slot g).part
    let disp := p.trapdel.toNat / 2 ^ (2 * cause) % 4
    ((s.slot g).status.super = true → s.delivery g cause = .cancel) ∧
    ((s.slot g).status.super = false → disp = 2 → s.delivery g cause = .cancel) ∧
    ((s.slot g).status.super = false → disp = 0 → s.delivery g cause = if p.partinfo.getLsbD 16 then .super else .cancel) ∧
    ((s.slot g).status.super = false → disp = 1 → s.inLockstep (s.slot g) = true →
      s.delivery g cause = if p.partinfo.getLsbD 16 then .super else .cancel) ∧
    ((s.slot g).status.super = false → disp = 1 → s.inLockstep (s.slot g) = false → (s.slot g).inHandler = true →
      s.delivery g cause = .cancel)
/-- How a trap is delivered, what its entry saves, and TRET (spec/13 R274 to R276). -/
def Obligations.TrapEntryAndReturn : Prop := Sys2Proof.Claims.SuperTrapEntry ∧ Sys2Proof.Claims.TrapReturn ∧ Sys2Proof.Claims.TrapDelivery

namespace Sys2Proof.Claims

/-! ## Scalar memory instructions -/

/-- The access of a scalar load, store or atomic: registers named, kind, what the checks look for, address, size, destination, level,
acquire, release (spec/06 R143, Table 6.11, R148, R149; spec/04 Table 4.7). -/
structure MemRow where
  regs : List Reg
  kind : ReqKind
  acc : AccKind
  addr : Word
  size : Nat
  dest : Option Reg := none
  level : Option Level := none
  acq : Bool := false
  rel : Bool := false
/-- A load of a size code. -/
def loadRow (d a : Reg) (sz n : Nat) (addr : Word) (l : Option Level) : MemRow :=
  { regs := [a, d], kind := .load n sz, acc := .read, addr := addr, size := n, dest := some d, level := l, acq := l.isSome }
/-- A store of the low bytes of X[d]. -/
def storeRow (t : Slot) (d a : Reg) (n : Nat) (addr : Word) (l : Option Level) : MemRow :=
  { regs := [a, d], kind := .store (toBytes n (t.x d).toNat), acc := .write, addr := addr, size := n, level := l, rel := l.isSome }
/-- An atomic without operand b. -/
def atomRow (t : Slot) (d a : Reg) (id n : Nat) (o : AmoOrder) (l : Level) : MemRow :=
  { regs := [d, a], kind := .atomic id n (t.x d) 0, acc := .atomic id, addr := t.x a, size := n, dest := some d
    level := if o = .none then none else some l, acq := decide (o = .acq ∨ o = .ar), rel := decide (o = .rel ∨ o = .ar) }
/-- An atomic with operand b, X[d + 1]. -/
def atomRowB (t : Slot) (d a : Reg) (id n : Nat) (o : AmoOrder) (l : Level) : MemRow :=
  { atomRow t d a id n o l with regs := [d, a, d + 1], kind := .atomic id n (t.x d) (t.x (d + 1)) }
/-- X[a] + Sext(off, 11). -/
def ea (t : Slot) (a : Reg) (off : BitVec 11) : Word := t.x a + off.signExtend 64
/-- 8 or 4 bytes. -/
def wsize (w : Bool) : Nat := if w then 8 else 4
/-- See `MemRow`. HIST and ATOM.INV have rows of their own below. -/
def memRow (i : Instr) (t : Slot) : Option MemRow :=
  match i with
  | .ldB d a off => some (loadRow d a 0 1 (ea t a off) none)
  | .ldBu d a off => some (loadRow d a 1 1 (ea t a off) none)
  | .ldH d a off => some (loadRow d a 2 2 (ea t a off) none)
  | .ldHu d a off => some (loadRow d a 3 2 (ea t a off) none)
  | .ldW d a off => some (loadRow d a 4 4 (ea t a off) none)
  | .ldWu d a off => some (loadRow d a 5 4 (ea t a off) none)
  | .ld d a off => some (loadRow d a 6 8 (ea t a off) none)
  | .stB d a off => some (storeRow t d a 1 (ea t a off) none)
  | .stH d a off => some (storeRow t d a 2 (ea t a off) none)
  | .stW d a off => some (storeRow t d a 4 (ea t a off) none)
  | .st d a off => some (storeRow t d a 8 (ea t a off) none)
  | .ldAcq d a l sz => if sz = 7 then none else some (loadRow d a sz.val (2 ^ (sz.val / 2)) (t.x a) (some l))
  | .stRel d a l sz => if sz.val % 2 = 1 then none else some (storeRow t d a (2 ^ (sz.val / 2)) (t.x a) (some l))
  | .amoAdd d a w o l => some (atomRow t d a 0 (wsize w) o l)
  | .amoAnd d a w o l => some (atomRow t d a 1 (wsize w) o l)
  | .amoOr d a w o l => some (atomRow t d a 2 (wsize w) o l)
  | .amoXor d a w o l => some (atomRow t d a 3 (wsize w) o l)
  | .amoSwap d a w o l => some (atomRow t d a 4 (wsize w) o l)
  | .amoCas d a w o l => if d = 31 then none else some (atomRowB t d a 5 (wsize w) o l)
  | .amoMins d a w o l => some (atomRow t d a 6 (wsize w) o l)
  | .amoMinu d a w o l => some (atomRow t d a 7 (wsize w) o l)
  | .amoMaxs d a w o l => some (atomRow t d a 8 (wsize w) o l)
  | .amoMaxu d a w o l => some (atomRow t d a 9 (wsize w) o l)
  | .amoFadd32 d a o l => some (atomRow t d a 10 4 o l)
  | .amoDecz d a w o l => some (atomRow t d a 12 (wsize w) o l)
  | .amoTake d a o l => some (atomRow t d a 13 8 o l)
  | .amoReturn d a o l => some (atomRow t d a 14 8 o l)
  | _ => none
/-- The scalar port of the slot at `cur` takes an access: fewer than 16 await completion, no acquire does, the reply unit and the retry
buffer have room, and before a release every earlier access has been performed (spec/06 R145, R146; spec/13 R287; spec/16 R341). -/
def PortFree (s : State) (rel : Bool) : Prop :=
  ((s.outstanding s.cur).filter (fun r => r.kind.counted)).length < 16 ∧ (∀ r ∈ s.outstanding s.cur, r.acq = false) ∧
  s.replyRoom (tileOfSlot s.cur) = true ∧ s.retryRoom (s.slotSource s.cur) = true ∧ (rel = true → s.accessesPerformed s.cur = true)
/-- The level of an access, if it names one, is declared in the instance's level table. -/
def Declared (t : Slot) (l : Option Level) : Prop := ∀ k, l = some k → (t.levels.get k).getLsbD 7 = true
/-- The state in which an access has been accepted: the instruction has retired, its request is in flight, and the event that brings it
to its owner is due. -/
def accepted (s : State) (r : Request) (e : Instr) : State :=
  { retired s id with requests := s.requests ++ [r], agenda := s.agenda ++ [e], nextId := s.nextId + 1 }
/-- A request of the slot at `cur`. -/
def IsRequest (s : State) (r : Request) (kind : ReqKind) (addr : Word) (target : Option Target) (dest : Option Reg) : Prop :=
  r.id = s.nextId ∧ r.kind = kind ∧ r.phase = .inTile ∧ r.slot = s.cur ∧ r.task = (me s).task ∧ r.part = (me s).part ∧
  r.src = s.slotSource s.cur ∧ r.super = (me s).status.super ∧ r.addr = addr ∧ r.target = target ∧ r.bank = (me s).bank ∧ r.dest = dest ∧
  r.orphan = false ∧ r.image = none ∧ r.remote = false ∧ r.foreign = none
/-- An access is accepted. -/
def Accepts (i : Instr) (s : State) (q : MemRow) (kind : ReqKind) (addr : Word) (t : Target) : Prop :=
  ∃ r, Gives i s (accepted s r (kind.perform s.nextId)) ∧ IsRequest s r kind addr (some t) q.dest ∧
    r.acq = q.acq ∧ r.rel = q.rel ∧ r.level = (q.level.map (·.val)).getD 0

end Sys2Proof.Claims

/-- A scalar load, store or atomic whose checks pass retires on acceptance, with its request in flight. AMO.HIST is accepted when the counter array's base and the counter that X[d] selects both pass; ATOM.INV when its entry is valid, with
the word size of the descriptor (spec/06 R143 to R146, R148, R149). -/
def Obligations.AccessAccepted : Prop :=
  (∀ (s : State) (i : Instr) (q : MemRow) (t : Target), i.wf = true → memRow i (me s) = some q → Ready s {} q.regs → PortFree s q.rel →
    Declared (me s) q.level → s.checkAccess s.cur q.acc q.size q.addr = .ok t → Accepts i s q q.kind q.addr t) ∧
  ∀ (s : State) (d a : Reg) (o : AmoOrder) (l : Level) (id : Fin 64) (t u : Target), d ≠ 31 → (o = .none → l = 0) →
    Ready s {} [d, a, d + 1] →
    (let q := atomRowB (me s) d a 11 4 o l
     let addr := q.addr + 4 * BitVec.ofNat 64 (((me s).x d).toNat % 65536)
     PortFree s q.rel → Declared (me s) q.level → s.checkAccess s.cur q.acc 4 q.addr = .ok u → s.checkAccess s.cur q.acc 4 addr = .ok t →
     Accepts (.amoHist d a o l) s q q.kind addr t) ∧
    (let f := (s.part (me s).part).atomfn[id.val - 16]?.getD 0
     let q := atomRowB (me s) d a id.val (wsize (f.getLsbD 1)) o l
     16 ≤ id.val → f.getLsbD 0 = true → PortFree s q.rel → Declared (me s) q.level → s.checkAccess s.cur q.acc q.size q.addr = .ok t →
     Accepts (.atomInv d a id o l) s q q.kind q.addr t) ∧
    (id.val < 16 ∨ ((s.part (me s).part).atomfn[id.val - 16]?.getD 0).getLsbD 0 = false →
      Gives (.atomInv d a id o l) s (s.takeTrap s.cur 1 (s.wordAt (me s))))
/-- A failed check is a precise trap with the effective address as its value; an undeclared level is an Illegal Instruction (spec/06
R144). -/
def Sys2Proof.Claims.AccessTraps : Prop :=
  ∀ (s : State) (i : Instr) (q : MemRow) (c : Nat), i.wf = true → memRow i (me s) = some q → Ready s {} q.regs → PortFree s q.rel →
    (¬Declared (me s) q.level → Gives i s (s.takeTrap s.cur 1 (s.wordAt (me s)))) ∧
    (Declared (me s) q.level → s.checkAccess s.cur q.acc q.size q.addr = .trap c → Gives i s (s.takeTrap s.cur c q.addr))
/-- The checks of an access, in the order of spec/06 R144: class, alignment, window, translation. In a tile's scratchpad every access of
the tile's partition passes; the Bushel needs the issuing tile and the grant, and takes no atomic; a translated address takes the causes
of spec/15 Table 15.3 from the entry that covers it. -/
def Sys2Proof.Claims.AccessChecks : Prop :=
  ∀ (s : State) (g : Nat) (k : AccKind) (n : Nat) (va : Word), n ∈ [1, 2, 4, 8] →
    let top := va.toNat / 2 ^ 48
    let pkg := va.toNat / 2 ^ 38 % 1024
    let gt := va.toNat / 2 ^ 30 % 256
    let off := va.toNat % 2 ^ 30
    let super := (s.slot g).status.super
    let p := (s.slot g).part
    (top ≠ 0xFFFE → 256 ≤ top → s.checkAccess g k n va = .trap 4) ∧
    ((top = 0xFFFE ∨ top < 256) → va.toNat % n ≠ 0 → s.checkAccess g k n va = .trap 5) ∧
    (top = 0xFFFE → va.toNat % n = 0 → pkg = s.mgmt.package → (gt % 64 < 48 ∨ 52 ≤ gt % 64 ∧ gt % 64 < 56) →
      ((s.tile gt).part ≠ some p → s.checkAccess g k n va = .trap 4) ∧
      ((s.tile gt).part = some p →
        (off < 2 ^ 22 → s.checkAccess g k n va = .ok (.tile gt off)) ∧
        (2 ^ 22 ≤ off → off < 0x01000000 → s.checkAccess g k n va = .trap 4) ∧
        (0x01000000 ≤ off → off < 0x01100000 → s.checkAccess g k n va =
          if gt = g / 4 ∧ gt % 64 < 48 ∧ n = 8 ∧ (k = .read ∨ k = .write) ∧
            (super = true ∨ (s.slot g).grant.acc.getLsbD ((off - 0x01000000) / 0x4000) = true) then .ok (.tile gt off) else .trap 4) ∧
        (0x02000000 ≤ off → super = false → s.checkAccess g k n va = .trap 4))) ∧
    (top < 256 → va.toNat % n = 0 → s.window p super va = none → ∀ e, (s.tile (g / 4)).tlb.lookup p va = some e →
      (e.w1.toNat % 16 ≠ p → s.checkAccess g k n va = .trap 0x0D) ∧
      (e.w1.toNat % 16 = p → e.w0.getLsbD 1 = true → s.checkAccess g k n va = .trap 0x0B) ∧
      (e.w1.toNat % 16 = p → e.w0.getLsbD 1 = false → k = .read →
        (e.w1.getLsbD 9 = false ∨ (e.w1.getLsbD 12 = true ∧ super = false) → s.checkAccess g k n va = .trap 0x0C) ∧
        (e.w1.getLsbD 9 = true → (e.w1.getLsbD 12 = true → super = true) → s.checkAccess g k n va = .ok (e.target va))))
/-- The checks of a memory access and the traps they raise (spec/06 R145, spec/04 R82, R83). -/
def Obligations.AccessFaults : Prop := Sys2Proof.Claims.AccessTraps ∧ Sys2Proof.Claims.AccessChecks
/-- FENCE retires once every earlier access has been performed and no acquire is waited for; until then it waits, and the slot's writes to the host are
confirmed by a zero-length read (spec/16 R355), else nothing changes; an undeclared
level is an Illegal Instruction (spec/06 R147). Choices of the model that it rests on: log 22, 76. -/
def Obligations.Fence : Prop :=
  ∀ (s : State) (l : Level), Ready s {} [] →
    ((me s).declares l = true → s.accessesPerformed s.cur = true → s.acquirePending s.cur = false → Gives (.fence l) s (retired s id)) ∧
    ((me s).declares l = true → s.engineStuck (me s) = false → (s.accessesPerformed s.cur = false ∨ s.acquirePending s.cur = true) →
      Gives (.fence l) s { s.confirmSlot s.cur with stalled := true }) ∧
    ((me s).declares l = false → Gives (.fence l) s (s.takeTrap s.cur 1 (s.wordAt (me s))))

namespace Sys2Proof.Claims

/-- A request at its owner: it has not been performed, nothing that it must wait for is outstanding, no access of a higher source number to
its bytes has been performed in this cycle (spec/04 R102), the bytes are in the scratchpad of tile `gt` at `off`, on a die that is not
lost, and the tile's guard lets it in (spec/17 R360). -/
def AtScratchpad (s : State) (r : Request) (n gt off : Nat) : Prop :=
  s.request r.id = some r ∧ r.phase = .inTile ∧ r.target = some (.tile gt off) ∧ off + n ≤ 2 ^ 22 ∧ s.lostDie (dieOf gt) = false ∧
  s.overlapBefore r n = false ∧ s.served r.part (r.src % 4096 / 16) (.tile gt off) = true ∧
  s.barred r.part (r.src % 4096 / 16) (.tile gt off) = false ∧
  (s.reachedAt = s.cycle → ∀ q ∈ s.reached, gt * 2 ^ 30 + off < q.1 + q.2.1 → q.1 < gt * 2 ^ 30 + off + n → q.2.2 ≤ r.src)
/-- The order of the accesses of this cycle, with one more at its end: `n` bytes from a key. -/
def ordered (s : State) (k n src : Nat) : State :=
  { s with reachedAt := s.cycle, reached := (if s.reachedAt = s.cycle then s.reached else []) ++ [(k, n, src)] }
/-- The request has been performed, and its reply is on its way. -/
def performed (s : State) (r : Request) (v : Word) (bad : Bool) : State :=
  { s with requests := s.requests.map (fun q => if q.id == r.id then { q with phase := .performed } else q)
           agenda := s.agenda ++ [.replyArrival r.id v.toNat bad] }

/-- The guard of a tile has dropped a packet of KIND `kind`: it is counted on the tile's die, and logged with its reason, the tile and its address
unless the log is full (spec/17 R360, R363). -/
def LoggedDrop (s t : State) (gt kind reason : Nat) (addr : Word) : Prop :=
  vget (t.die (dieOf gt)).counters 6 = satInc (vget (s.die (dieOf gt)).counters 6) ∧
  (s.mgmt.guardLog.length < 4096 → ∃ b : Bytes, t.mgmt.guardLog = s.mgmt.guardLog ++ [b] ∧ b.length = 32 ∧
    b.take 4 = [BitVec.ofNat 8 kind, BitVec.ofNat 8 reason] ++ toBytes 2 gt ∧ b.drop 24 = toBytes 8 addr.toNat)

end Sys2Proof.Claims

/-- LOAD_PERFORM fixes the value of a load at its owner: the bytes there, least significant first, and their poison mark; memory is
unchanged (spec/04 R86). -/
def Sys2Proof.Claims.LoadPerformed : Prop :=
  ∀ (s : State) (r : Request) (n ext gt off : Nat), AtScratchpad s r n gt off → r.kind = .load n ext →
    Gives (.loadPerform r.id) s
      (performed (ordered s (gt * 2 ^ 30 + off) n r.src) r (wordN (ofBytes (s.readMem (gt * 2 ^ 30 + off) n))) (s.poisoned (gt * 2 ^ 30 + off) n))
/-- STORE_PERFORM writes just the bytes of the store: every other byte of memory reads as before, and only the poison marks of granules
covered whole go (spec/04 R86; spec/17 R371). -/
def Sys2Proof.Claims.StorePerformed : Prop :=
  ∀ (s : State) (r : Request) (bs : Bytes) (gt off : Nat), Memory.wf s.mem → AtScratchpad s r bs.length gt off → r.kind = .store bs →
    ∃ t, Gives (.storePerform r.id) s t ∧
      t = { ordered s (gt * 2 ^ 30 + off) bs.length r.src with
        mem := t.mem, poison := t.poison, requests := s.requests.filter (fun q => q.id != r.id) } ∧
      (∀ j, (h : j < bs.length) → Memory.at_ t.mem (gt * 2 ^ 30 + off + j) = bs[j]) ∧
      (∀ k, k < gt * 2 ^ 30 + off ∨ gt * 2 ^ 30 + off + bs.length ≤ k → Memory.at_ t.mem k = Memory.at_ s.mem k) ∧
      (∀ g ∈ s.poison, g ∈ t.poison ∨ (gt * 2 ^ 30 + off ≤ g ∧ g + granule g ≤ gt * 2 ^ 30 + off + bs.length)) ∧ (∀ g ∈ t.poison, g ∈ s.poison)
/-- The guard of a tile drops a load, a store or an atomic of a tile of another partition: nothing is performed, memory and every slot are as
before, the drop is counted on the tile's die and logged with the kind, reason 1, the tile and the address; the store's sender sees it
done, and a load or an atomic is answered with poison (spec/17 R360, R361, R363). -/
def Sys2Proof.Claims.GuardDrops : Prop :=
  ∀ (s : State) (r : Request) (gt off : Nat), s.request r.id = some r → r.phase = .inTile → r.target = some (.tile gt off) →
    r.src % 4096 / 16 ≠ gt → (s.tile gt).part ≠ some r.part → gt < 256 → s.served r.part (r.src % 4096 / 16) (.tile gt off) = true →
    let Dropped := fun (kind : Nat) (i : Instr) (rs : List Request) (due : List Instr) =>
      ∃ t, Gives i s t ∧ t.mem = s.mem ∧ t.slots = s.slots ∧ t.tiles = s.tiles ∧ t.requests = rs ∧ t.agenda = s.agenda ++ due ∧
        LoggedDrop s t gt kind 1 r.addr
    let done := s.requests.map (fun q => if q.id == r.id then { q with phase := .performed } else q)
    (∀ bs, r.kind = .store bs → s.overlapBefore r bs.length = false →
      Dropped 2 (.storePerform r.id) (s.requests.filter (fun q => q.id != r.id)) []) ∧
    (∀ n ext, r.kind = .load n ext → s.overlapBefore r n = false → Dropped 1 (.loadPerform r.id) done [.replyArrival r.id 0 true]) ∧
    (∀ fn w a b, r.kind = .atomic fn w a b → s.overlapBefore r w = false → Dropped 3 (.atomicExecute r.id) done [.replyArrival r.id 0 true])
/-- A load and a store performed: the bytes read or written, and the reply; and what a guard drops (spec/06 R143 to R147; spec/17 R360, R361). Choices of the model that it rests on: log 2, 34. -/
def Obligations.AccessPerformed : Prop := Sys2Proof.Claims.LoadPerformed ∧ Sys2Proof.Claims.StorePerformed ∧ Sys2Proof.Claims.GuardDrops
/-- ATOMIC_EXECUTE replaces the word by the function of it and the operands, as one step, and the result sets out (spec/04 R102). -/
def Sys2Proof.Claims.AtomicExecuted : Prop :=
  ∀ (s : State) (r : Request) (fn w : Nat) (a b : Word) (gt off : Nat), Memory.wf s.mem → AtScratchpad s r w gt off →
    r.kind = .atomic fn w a b → fn < 15 → (w = 4 ∨ w = 8) → s.poisoned (gt * 2 ^ 30 + off) w = false →
    let o := ofBytes (s.readMem (gt * 2 ^ 30 + off) w)
    let f := atomFixed fn w o (a.toNat % 2 ^ (8 * w)) (b.toNat % 2 ^ (8 * w))
    ∃ t, Gives (.atomicExecute r.id) s t ∧ 
      t = { performed (ordered s (gt * 2 ^ 30 + off) w r.src) r (wordN f.2) false with mem := t.mem, poison := t.poison } ∧
      ofBytes (t.readMem (gt * 2 ^ 30 + off) w) = f.1 % 2 ^ (8 * w) ∧
      (∀ k, k < gt * 2 ^ 30 + off ∨ gt * 2 ^ 30 + off + w ≤ k → Memory.at_ t.mem k = Memory.at_ s.mem k)
/-- The functions of spec/04 Table 4.7 on words of `w` bytes: the new word and the result. -/
def Sys2Proof.Claims.AtomicFunctions : Prop :=
  ∀ (w old a b : Nat), (w = 4 ∨ w = 8) → old < 2 ^ (8 * w) → a < 2 ^ (8 * w) → b < 2 ^ (8 * w) →
    let m := 2 ^ (8 * w)
    let sg := fun (v : Nat) => if v < m / 2 then (v : Int) else (v : Int) - m
    atomFixed 0 w old a b = ((old + a) % m, old) ∧ atomFixed 1 w old a b = (old &&& a, old) ∧ atomFixed 2 w old a b = (old ||| a, old) ∧
    atomFixed 3 w old a b = (old ^^^ a, old) ∧ atomFixed 4 w old a b = (a, old) ∧
    atomFixed 5 w old a b = (if old = a then b else old, old) ∧ atomFixed 6 w old a b = (if sg a < sg old then a else old, old) ∧
    atomFixed 7 w old a b = (min old a, old) ∧ atomFixed 8 w old a b = (if sg old < sg a then a else old, old) ∧
    atomFixed 9 w old a b = (max old a, old) ∧
    atomFixed 10 4 old a b = ((fadd32 0 0 (BitVec.ofNat 32 old) (BitVec.ofNat 32 a)).1.toNat, old) ∧
    atomFixed 11 w old a b = ((old + b) % m, old) ∧ atomFixed 12 w old a b = (if old = 0 then 0 else old - 1, old) ∧
    atomFixed 14 8 old a b =
      (old / 2 ^ 32 % 2 ^ 32 * 2 ^ 32 + min (old % 2 ^ 32 + a % 2 ^ 32) (2 ^ 32 - 1), old) ∧
    atomFixed 13 8 old a b =
      (let n := a % 2 ^ 32
       let free := old % 2 ^ 32
       let idx := old / 2 ^ 32 % 2 ^ 32 % n
       if n = 0 ∨ free = 0 then (old, 2 ^ 64 - 1) else (free - 1 + (idx + 1) % n * 2 ^ 32, idx))
/-- An atomic executed at its unit, and what each function writes (spec/06 R148; spec/04 R102). -/
def Obligations.Atomics : Prop := Sys2Proof.Claims.AtomicExecuted ∧ Sys2Proof.Claims.AtomicFunctions
/-- REPLY_ARRIVAL writes the value of a load or atomic to the register that waits for it, extended as its size code says; x0 discards it;
memory and every other slot are unchanged. Poison writes nothing: the task's scope is poisoned and the slot is at a kill point (spec/06
Table 6.11, R153). -/
def Obligations.ReplyWrites : Prop :=
  ∀ (s : State) (r : Request) (d : Reg) (v : Word), s.request r.id = some r → r.foreign = none → r.orphan = false → r.image = none →
    s.returns r = true → r.dest = some d →
    (∀ n ext, r.kind = .load n ext → ext < 7 → n = 2 ^ (ext / 2) →
      ∃ t, Gives (.replyArrival r.id v.toNat false) s t ∧ t = { s with slots := t.slots, requests := s.requests.filter (fun q => q.id != r.id) } ∧
        (∀ h, h ≠ r.slot → t.slot h = s.slot h) ∧
        t.slot r.slot = (s.slot r.slot).writeX r.bank d
          (if ext = 0 then (v.setWidth 8).signExtend 64 else if ext = 1 then (v.setWidth 8).setWidth 64
           else if ext = 2 then (v.setWidth 16).signExtend 64 else if ext = 3 then (v.setWidth 16).setWidth 64
           else if ext = 4 then (v.setWidth 32).signExtend 64 else if ext = 5 then (v.setWidth 32).setWidth 64 else v)) ∧
    (∀ fn w a b, r.kind = .atomic fn w a b →
      ∃ t, Gives (.replyArrival r.id v.toNat false) s t ∧ t = { s with slots := t.slots, requests := s.requests.filter (fun q => q.id != r.id) } ∧
        (∀ h, h ≠ r.slot → t.slot h = s.slot h) ∧ t.slot r.slot = (s.slot r.slot).writeX r.bank d v) ∧
    (∀ n ext, r.kind = .load n ext → ext < 7 →
      ∃ t, Gives (.replyArrival r.id v.toNat true) s t ∧ t.mem = s.mem ∧ ∀ h, (t.slot h).main = (s.slot h).main ∧ (t.slot h).handler = (s.slot h).handler ∧
        (t.slot h).trap = (s.slot h).trap)

namespace Sys2Proof.Claims

/-! ## Vector instructions -/

/-- The registers that a vector instruction waits for, and what it puts in the queue (spec/07 Tables 7.2 to 7.11). -/
def vecRow (i : Instr) : Option (List Reg × VecWord) :=
  match i with
  | .vfadd d a b m => some ([], { op := .fadd, d := d, a := a, b := b, mask := m })
  | .vfsub d a b m => some ([], { op := .fsub, d := d, a := a, b := b, mask := m })
  | .vfmul d a b m => some ([], { op := .fmul, d := d, a := a, b := b, mask := m })
  | .vfdiv d a b m => some ([], { op := .fdiv, d := d, a := a, b := b, mask := m })
  | .vfsqrt d a m => some ([], { op := .fsqrt, d := d, a := a, mask := m })
  | .vfma d a b m => some ([], { op := .fma, d := d, a := a, b := b, mask := m })
  | .vfnma d a b m => some ([], { op := .fnma, d := d, a := a, b := b, mask := m })
  | .vfmin d a b m => some ([], { op := .fmin, d := d, a := a, b := b, mask := m })
  | .vfmax d a b m => some ([], { op := .fmax, d := d, a := a, b := b, mask := m })
  | .vfabs d a m => some ([], { op := .fabs, d := d, a := a, mask := m })
  | .vfneg d a m => some ([], { op := .fneg, d := d, a := a, mask := m })
  | .vfscaleb d a b m => some ([], { op := .fscaleb, d := d, a := a, b := b, mask := m })
  | .vfmuls d a b m => some ([b], { op := .fmuls, d := d, a := a, b := b, mask := m })
  | .vfmas d a b m => some ([b], { op := .fmas, d := d, a := a, b := b, mask := m })
  | .vfrcp d a m => some ([], { op := .frcp, d := d, a := a, mask := m })
  | .vfrsq d a m => some ([], { op := .frsq, d := d, a := a, mask := m })
  | .vfexp2 d a m => some ([], { op := .fexp2, d := d, a := a, mask := m })
  | .vfexp d a m => some ([], { op := .fexp, d := d, a := a, mask := m })
  | .vflog2 d a m => some ([], { op := .flog2, d := d, a := a, mask := m })
  | .vftanh d a m => some ([], { op := .ftanh, d := d, a := a, mask := m })
  | .vfsigm d a m => some ([], { op := .fsigm, d := d, a := a, mask := m })
  | .vfsin d a m => some ([], { op := .fsin, d := d, a := a, mask := m })
  | .vfcos d a m => some ([], { op := .fcos, d := d, a := a, mask := m })
  | .vadd d a b m => some ([], { op := .add, d := d, a := a, b := b, mask := m })
  | .vsub d a b m => some ([], { op := .sub, d := d, a := a, b := b, mask := m })
  | .vmul d a b m => some ([], { op := .mul, d := d, a := a, b := b, mask := m })
  | .vmulh d a b m => some ([], { op := .mulh, d := d, a := a, b := b, mask := m })
  | .vmulhu d a b m => some ([], { op := .mulhu, d := d, a := a, b := b, mask := m })
  | .vadds d a b m => some ([], { op := .adds, d := d, a := a, b := b, mask := m })
  | .vsubs d a b m => some ([], { op := .subs, d := d, a := a, b := b, mask := m })
  | .vaddus d a b m => some ([], { op := .addus, d := d, a := a, b := b, mask := m })
  | .vsubus d a b m => some ([], { op := .subus, d := d, a := a, b := b, mask := m })
  | .vmin d a b m => some ([], { op := .min, d := d, a := a, b := b, mask := m })
  | .vmax d a b m => some ([], { op := .max, d := d, a := a, b := b, mask := m })
  | .vminu d a b m => some ([], { op := .minu, d := d, a := a, b := b, mask := m })
  | .vmaxu d a b m => some ([], { op := .maxu, d := d, a := a, b := b, mask := m })
  | .vabs d a m => some ([], { op := .abs, d := d, a := a, mask := m })
  | .vand d a b m => some ([], { op := .and, d := d, a := a, b := b, mask := m })
  | .vor d a b m => some ([], { op := .or, d := d, a := a, b := b, mask := m })
  | .vxor d a b m => some ([], { op := .xor, d := d, a := a, b := b, mask := m })
  | .vandn d a b m => some ([], { op := .andn, d := d, a := a, b := b, mask := m })
  | .vnot d a m => some ([], { op := .not, d := d, a := a, mask := m })
  | .vsll d a b m => some ([], { op := .sll, d := d, a := a, b := b, mask := m })
  | .vsrl d a b m => some ([], { op := .srl, d := d, a := a, b := b, mask := m })
  | .vsra d a b m => some ([], { op := .sra, d := d, a := a, b := b, mask := m })
  | .vpopc d a m => some ([], { op := .popc, d := d, a := a, mask := m })
  | .vclz d a m => some ([], { op := .clz, d := d, a := a, mask := m })
  | .vqmul d a b m => some ([], { op := .qmul, d := d, a := a, b := b, mask := m })
  | .vsrar d a b m => some ([], { op := .srar, d := d, a := a, b := b, mask := m })
  | .vaddx d a b m => some ([b], { op := .addx, d := d, a := a, b := b, mask := m })
  | .vmulx d a b m => some ([b], { op := .mulx, d := d, a := a, b := b, mask := m })
  | .vmacx d a b m => some ([b], { op := .macx, d := d, a := a, b := b, mask := m })
  | .vsrax d a b m => some ([b], { op := .srax, d := d, a := a, b := b, mask := m })
  | .vfeq d a b m => some ([], { op := .cfeq, d := Fin.ofNat 32 d.val, a := a, b := b, mask := m })
  | .vflt d a b m => some ([], { op := .cflt, d := Fin.ofNat 32 d.val, a := a, b := b, mask := m })
  | .vfle d a b m => some ([], { op := .cfle, d := Fin.ofNat 32 d.val, a := a, b := b, mask := m })
  | .vfun d a b m => some ([], { op := .cfun, d := Fin.ofNat 32 d.val, a := a, b := b, mask := m })
  | .veq d a b m => some ([], { op := .ceq, d := Fin.ofNat 32 d.val, a := a, b := b, mask := m })
  | .vne d a b m => some ([], { op := .cne, d := Fin.ofNat 32 d.val, a := a, b := b, mask := m })
  | .vlt d a b m => some ([], { op := .clt, d := Fin.ofNat 32 d.val, a := a, b := b, mask := m })
  | .vle d a b m => some ([], { op := .cle, d := Fin.ofNat 32 d.val, a := a, b := b, mask := m })
  | .vltu d a b m => some ([], { op := .cltu, d := Fin.ofNat 32 d.val, a := a, b := b, mask := m })
  | .vleu d a b m => some ([], { op := .cleu, d := Fin.ofNat 32 d.val, a := a, b := b, mask := m })
  | .veqx d a b m => some ([b], { op := .ceqx, d := Fin.ofNat 32 d.val, a := a, b := b, mask := m })
  | .vltx d a b m => some ([b], { op := .cltx, d := Fin.ofNat 32 d.val, a := a, b := b, mask := m })
  | .vgtx d a b m => some ([b], { op := .cgtx, d := Fin.ofNat 32 d.val, a := a, b := b, mask := m })
  | .vsel d a b m => some ([], { op := .sel, d := d, a := a, b := b, mask := some m })
  | .mand d a b => some ([], { op := .mand, d := Fin.ofNat 32 d.val, a := Fin.ofNat 32 a.val, b := Fin.ofNat 32 b.val })
  | .mor d a b => some ([], { op := .mor, d := Fin.ofNat 32 d.val, a := Fin.ofNat 32 a.val, b := Fin.ofNat 32 b.val })
  | .mxor d a b => some ([], { op := .mxor, d := Fin.ofNat 32 d.val, a := Fin.ofNat 32 a.val, b := Fin.ofNat 32 b.val })
  | .mandn d a b => some ([], { op := .mandn, d := Fin.ofNat 32 d.val, a := Fin.ofNat 32 a.val, b := Fin.ofNat 32 b.val })
  | .mnot d a => some ([], { op := .mnot, d := Fin.ofNat 32 d.val, a := Fin.ofNat 32 a.val })
  | .mpopc d a => some ([d], { op := .mpopc, d := d, a := Fin.ofNat 32 a.val })
  | .mfirst d a => some ([d], { op := .mfirst, d := d, a := Fin.ofNat 32 a.val })
  | .mmov d a => some ([a], { op := .mmov, d := Fin.ofNat 32 d.val, a := a })
  | .mrd d a => some ([d], { op := .mrd, d := d, a := Fin.ofNat 32 a.val })
  | .vbcast d a m => some ([a], { op := .bcast, d := d, a := a, mask := m })
  | .vsplat d a b m => some ([b], { op := .splat, d := d, a := a, b := b, mask := m })
  | .vperm d a b m => some ([], { op := .perm, d := d, a := a, b := b, mask := m })
  | .vperm2 d a b m => some ([], { op := .perm2, d := d, a := a, b := b, mask := m })
  | .vrot d a b m => some ([b], { op := .rot, d := d, a := a, b := b, mask := m })
  | .vslideup d a b m => some ([b], { op := .slideup, d := d, a := a, b := b, mask := m })
  | .vslidedn d a b m => some ([b], { op := .slidedn, d := d, a := a, b := b, mask := m })
  | .vzip d a b m => some ([], { op := .zip, d := d, a := a, b := b, mask := m })
  | .vunzip d a b m => some ([], { op := .unzip, d := d, a := a, b := b, mask := m })
  | .vcompress d a m => some ([], { op := .compress, d := d, a := a, mask := some m })
  | .vlane d m => some ([], { op := .lane, d := d, mask := m })
  | .vmvx d a b => some ([d, b], { op := .mvx, d := d, a := a, b := b })
  | .vins d a b => some ([a, b], { op := .ins, d := d, a := a, b := b })
  | .vredadd d a m => some ([d], { op := .redadd, d := d, a := a, mask := m })
  | .vredaddu d a m => some ([d], { op := .redaddu, d := d, a := a, mask := m })
  | .vredmin d a m => some ([d], { op := .redmin, d := d, a := a, mask := m })
  | .vredmax d a m => some ([d], { op := .redmax, d := d, a := a, mask := m })
  | .vredminu d a m => some ([d], { op := .redminu, d := d, a := a, mask := m })
  | .vredmaxu d a m => some ([d], { op := .redmaxu, d := d, a := a, mask := m })
  | .vredfadd d a m => some ([d], { op := .redfadd, d := d, a := a, mask := m })
  | .vredfmin d a m => some ([d], { op := .redfmin, d := d, a := a, mask := m })
  | .vredfmax d a m => some ([d], { op := .redfmax, d := d, a := a, mask := m })
  | .vscanadd d a m => some ([], { op := .scanadd, d := d, a := a, mask := m })
  | .vscanfadd d a m => some ([], { op := .scanfadd, d := d, a := a, mask := m })
  | .vredfaddx d a m => some ([d], { op := .redfaddx, d := d, a := a, mask := m })
  | .vcvt d a fmt m p rc => some ([], { op := .cvt, d := d, a := a, mask := m, fmt := fmt.val, part := p.val, rc := rc })
  | .vcvtF32 d a fmt m p => some ([], { op := .cvtF32, d := d, a := a, mask := m, fmt := fmt.val, part := p.val })
  | .vftoi d a m rc => some ([], { op := .ftoi, d := d, a := a, mask := m, rc := rc })
  | .vftou d a m rc => some ([], { op := .ftou, d := d, a := a, mask := m, rc := rc })
  | .vitof d a m rc => some ([], { op := .itof, d := d, a := a, mask := m, rc := rc })
  | .vutof d a m rc => some ([], { op := .utof, d := d, a := a, mask := m, rc := rc })
  | .vcvtMx d a b m p rc => some ([b], { op := .cvtMx, d := d, a := a, b := b, mask := m, part := p.val, rc := rc })
  | .vcvtF32Mx d a b m p rc => some ([b], { op := .cvtF32Mx, d := d, a := a, b := b, mask := m, part := p.val, rc := rc })
  | .vmxsc d a fmt m => some ([d], { op := .mxsc, d := d, a := a, mask := m, fmt := fmt.val })
  | .vrand d m => some ([], { op := .rand, d := d, mask := m })
  | .vnarrow d a fmt m p => some ([], { op := .narrow, d := d, a := a, mask := m, fmt := fmt.val, part := p.val })
  | .vwiden d a fmt m p => some ([], { op := .widen, d := d, a := a, mask := m, fmt := fmt.val, part := p.val })
  | _ => none
/-- The vector memory instructions: a store reads what a load writes. -/
def vecMemRow (i : Instr) : Option (List Reg × VecWord) :=
  match i with
  | .vld d a m es => some ([a], { op := .ld, d := d, a := a, mask := m, es := es.val })
  | .vst d a m es => some ([a], { op := .st, d := d, a := a, mask := m, es := es.val })
  | .vlds d a b m es => some ([a, b], { op := .lds, d := d, a := a, b := b, mask := m, es := es.val })
  | .vsts d a b m es => some ([a, b], { op := .sts, d := d, a := a, b := b, mask := m, es := es.val })
  | .vgather d a b m es => some ([a], { op := .gather, d := d, a := a, b := b, mask := m, es := es.val })
  | .vscatter d a b m es => some ([a], { op := .scatter, d := d, a := a, b := b, mask := m, es := es.val })
  | _ => none
/-- A packed form takes a format: its code is from `lo` to `hi`, SIGNED goes with integer codes only, and the part lies in the register
(spec/07 R158, R168). -/
def formatFine (fmt part lo hi : Nat) : Prop :=
  lo ≤ fmt % 16 ∧ fmt % 16 ≤ hi ∧ (16 ≤ fmt → 1 ≤ fmt % 16 ∧ fmt % 16 ≤ 7) ∧ ∃ l, runLength (fmt % 16) = some l ∧ (part + 1) * l ≤ 256
/-- The E8M0 formats: FP4, FP6, FP8 and signed INT8, as SIGNED × 16 + code (spec/03 R78). -/
def mxFormats : List Nat := [0x08, 0x09, 0x0A, 0x0B, 0x0C, 0x15]
/-- The operands of a vector instruction are ones that its form accepts (spec/07 R158, R164, R168 to R170). -/
def vecFine (i : Instr) (t : Slot) : Prop :=
  match i with
  | .vcvt _ _ f _ p _ => formatFine f.val p.val 0 14
  | .vcvtF32 _ _ f _ p => formatFine f.val p.val 0 14
  | .vnarrow _ _ f _ p => formatFine f.val p.val 1 7
  | .vwiden _ _ f _ p => formatFine f.val p.val 1 7
  | .vperm2 _ a _ _ => a ≠ 31
  | .vmxsc _ _ f _ => f.val ∈ mxFormats
  | .vcvtMx _ _ b _ _ _ => (t.x b).toNat < 2 ^ 24 ∧ (t.x b).toNat % 256 ∈ mxFormats ∧ (t.x b).toNat / 256 % 256 ≠ 255 ∧ (t.x b).toNat / 65536 ≠ 255
  | .vcvtF32Mx _ _ b _ _ _ => (t.x b).toNat < 2 ^ 24 ∧ (t.x b).toNat % 256 ∈ mxFormats
  | _ => True
/-- The entry that a slot's vector instruction leaves in its queue: what it names, and what it read at issue (spec/07 R156). -/
def IsEntry (t : Slot) (w : VecWord) (e : VecEntry) : Prop :=
  e.op = w.op ∧ e.bank = t.bank ∧ e.pc = t.pc ∧ e.d = w.d ∧ e.a = w.a ∧ e.b = w.b ∧ e.mask = w.mask ∧ e.fmt = w.fmt ∧ e.part = w.part ∧
  e.es = w.es ∧ e.xa = t.x w.a ∧ e.xb = t.x w.b ∧ e.seed = t.seed ∧ e.seq = t.srseq ∧ e.super = t.status.super ∧ e.serial = t.entrySerial ∧
  e.rc = (match w.rc with
    | .rne => 0
    | .rtz => 1
    | .rup => 2
    | .rdn => 3
    | .sr => 4
    | .fromRM => t.rm.toNat % 8)
/-- The slot with an entry in its vector queue: one that rounds under .SR, or VRAND, has taken its stochastic number (spec/03 R79). -/
def queued (t : Slot) (e : VecEntry) : Slot :=
  { t with vq := t.vq ++ [e], entrySerial := t.entrySerial + 1
           srseq := if (e.op.rounds && e.rc == 4) || e.op == .rand then t.srseq + 1 else t.srseq }
/-- A lane's address (spec/07 Table 7.12) of VLD, VST, VLDS and VSTS. -/
def laneAt (w : VecWord) (t : Slot) (j : Nat) : Word :=
  let e := if w.es = 0 then 4 else if w.es = 3 then 1 else 2
  if w.op = .ld ∨ w.op = .st then t.x w.a + BitVec.ofNat 64 (e * j) else t.x w.a + BitVec.ofNat 64 j * t.x w.b

end Sys2Proof.Claims

/-- A vector instruction other than a memory access retires into its slot's queue when that has room; one whose operands its form does
not accept raises its trap and one without room waits (spec/02 R39; spec/07 R156, R158). -/
def Sys2Proof.Claims.VectorIssue : Prop :=
  ∀ (s : State) (i : Instr) (rs : List Reg) (w : VecWord), vecRow i = some (rs, w) → Ready s { engine := true } rs →
    (vecFine i (me s) → (me s).vq.length < 8 →
      ∃ e, IsEntry (me s) w e ∧ Gives i s ((retired s (fun t => queued t e)).post (.vectorEntryBegin s.cur))) ∧
    (vecFine i (me s) → 8 ≤ (me s).vq.length → Gives i s { s with stalled := true }) ∧
    (¬vecFine i (me s) → ∃ c, (c = 1 ∨ c = 6) ∧ Gives i s (s.takeTrap s.cur c (s.wordAt (me s))))
/-- VLD, VST, VLDS and VSTS: when the addresses of all 64 lanes pass, the instruction retires into the queue; the lowest lane that fails
gives the trap. VGATHER and VSCATTER go into the queue unchecked, and the slot issues nothing until they have passed (spec/07 R173). -/
def Sys2Proof.Claims.VectorMemoryIssue : Prop :=
  ∀ (s : State) (i : Instr) (rs : List Reg) (w : VecWord), i.wf = true → vecMemRow i = some (rs, w) → Ready s { engine := true } rs →
    (me s).vq.length < 8 → s.acquirePending s.cur = false →
    let write := decide (w.op = .st ∨ w.op = .sts)
    let n := if w.es = 0 then 4 else if w.es = 3 then 1 else 2
    let check := fun (j : Nat) => s.checkLane s.cur (me s).status.super write n none (laneAt w (me s) j)
    (w.op ≠ .gather → w.op ≠ .scatter → (write = true → w.es ≠ 2) →
      (∀ targets : List Target, targets.length = 64 → (∀ j (h : j < targets.length), check j = .ok targets[j]) →
        ∃ e, IsEntry (me s) w e ∧ e.targets = targets ∧ Gives i s ((retired s (fun t => queued t e)).post (.vectorEntryBegin s.cur))) ∧
      (∀ j c, j < 64 → (∀ k, k < j → ∃ t, check k = .ok t) → check j = .trap c → Gives i s (s.takeTrap s.cur c (laneAt w (me s) j)))) ∧
    ((w.op = .gather ∨ w.op = .scatter) → (w.op = .scatter → w.es ≠ 2) →
      ∃ e, IsEntry (me s) w e ∧ e.targets = [] ∧
        Gives i s ((s.setSlot s.cur { queued (me s) e with heldBy := some (me s).entrySerial }).post (.vectorEntryBegin s.cur)))
/-- Vector instructions enter the queue of their slot (spec/07 R156, R173). Choices of the model that it rests on: log 2, 63. -/
def Obligations.VectorIssues : Prop := Sys2Proof.Claims.VectorIssue ∧ Sys2Proof.Claims.VectorMemoryIssue
/-- VECTOR_ENTRY_BEGIN: an entry that can begin and is the only head of its tile, its slot alone with a queue, occupies the free unit; its
cost goes to the task's measure and its completion is due (spec/07 R156; spec/02 R40). -/
def Sys2Proof.Claims.VectorBegin : Prop :=
  ∀ (s : State) (g : Nat) (e : VecEntry) (rest : List VecEntry), (s.slot g).vq = e :: rest → e.op.isMemory = false →
    (s.tile (g / 4)).vec.busy = none → s.enginesHold g = false → (s.slot g).vecHeadReady (g / 4) e = true →
    (∀ k, k < 4 → k ≠ g % 4 → (s.slot (g / 4 * 4 + k)).vq = []) →
    ∃ t, Gives (.vectorEntryBegin g) s t ∧
      t = { s with slots := t.slots, tiles := t.tiles, agenda := s.agenda ++ [.vectorEntryComplete (g / 4)] } ∧
      t.slot g = { s.slot g with vq := rest, vbound := (s.slot g).vbound ++ [e], uvec := (s.slot g).uvec + wordN e.op.cost } ∧
      (t.tile (g / 4)).vec.busy = some (g, e.serial) ∧ (∀ h, h ≠ g → t.slot h = s.slot h) ∧ (∀ h, h ≠ g / 4 → t.tile h = s.tile h)
/-- VECTOR_ENTRY_COMPLETE: the entry that occupies the unit writes what it computes from its sources to its destination and ORs its flags
into FLAGS, and the unit is free; nothing else changes (spec/07 R156). -/
def Sys2Proof.Claims.VectorComplete : Prop :=
  ∀ (s : State) (gt g n : Nat) (e : VecEntry), (s.tile gt).vec.busy = some (g, n) → s.enginesHold g = false →
    (s.slot g).vbound.find? (fun p => p.serial == n) = some e → e.op.isLoad = false →
    let o := vecCompute e ((s.slot g).vecIn gt e)
    ∃ t, Gives (.vectorEntryComplete gt) s t ∧ t = { s with slots := t.slots, tiles := t.tiles } ∧ (∀ h, h ≠ g → t.slot h = s.slot h) ∧
      (∀ h, h ≠ gt → t.tile h = s.tile h) ∧ (t.tile gt).vec.busy = none ∧
      t.slot g = { s.slot g with
        v := (t.slot g).v, hv := (t.slot g).hv, main := (t.slot g).main, handler := (t.slot g).handler, trap := (t.slot g).trap
        flags := (t.slot g).flags, vbound := (t.slot g).vbound } ∧
      (∀ b, b ≠ e.bank → (t.slot g).flowOf b = (s.slot g).flowOf b) ∧
      ((t.slot g).flowOf e.bank).pc = ((s.slot g).flowOf e.bank).pc ∧
      (t.slot g).vbound = (s.slot g).vbound.filter (fun p => p.serial != n) ∧ (t.slot g).flags = (s.slot g).flags ||| o.flags.setWidth 64 ∧
      (∀ r, (t.slot g).getV gt e.bank r = if r = e.d then o.v.getD ((s.slot g).getV gt e.bank r) else (s.slot g).getV gt e.bank r) ∧
      (∀ r, (t.slot g).getM e.bank r = if r.val = e.d.val % 8 then o.m.getD ((s.slot g).getM e.bank r) else (s.slot g).getM e.bank r) ∧
      (∀ r, ((t.slot g).flowOf e.bank).get r =
        if r = e.d ∧ r ≠ 0 then o.x.getD (((s.slot g).flowOf e.bank).get r) else ((s.slot g).flowOf e.bank).get r)
/-- A vector entry begins and completes (spec/07 R156; spec/02 R39, R40). Choices of the model that it rests on: log 2, 63. -/
def Obligations.VectorRuns : Prop := Sys2Proof.Claims.VectorBegin ∧ Sys2Proof.Claims.VectorComplete

namespace Sys2Proof.Claims

/-- The value and flags of an active lane (spec/07 Tables 7.2 to 7.4): `a`, `b` and `d` are the lanes of the registers, `x` the low half of
X[b], `u` the lane's stochastic word. The flag values are SAT (32). -/
def laneRow (op : VecOp) (rc u : Nat) (a b d x : BitVec 32) : Option (BitVec 32 × BitVec 7) :=
  let clamp := fun (v lo hi : Int) => some (BitVec.ofInt 32 (if v < lo then lo else if hi < v then hi else v), if v < lo ∨ hi < v then (32 : BitVec 7) else 0)
  let n := b.toNat % 32
  match op with
  | .add => some (a + b, 0)
  | .sub => some (a - b, 0)
  | .mul => some (a * b, 0)
  | .mulh => some (((a.signExtend 64 * b.signExtend 64) >>> 32).setWidth 32, 0)
  | .mulhu => some (((a.setWidth 64 * b.setWidth 64) >>> 32).setWidth 32, 0)
  | .adds => clamp (a.toInt + b.toInt) (-2 ^ 31) (2 ^ 31 - 1)
  | .subs => clamp (a.toInt - b.toInt) (-2 ^ 31) (2 ^ 31 - 1)
  | .addus => clamp (a.toNat + b.toNat) 0 (2 ^ 32 - 1)
  | .subus => clamp (a.toNat - b.toNat) 0 (2 ^ 32 - 1)
  | .min => some (if b.toInt < a.toInt then b else a, 0)
  | .max => some (if a.toInt < b.toInt then b else a, 0)
  | .minu => some (if b.toNat < a.toNat then b else a, 0)
  | .maxu => some (if a.toNat < b.toNat then b else a, 0)
  | .abs => clamp a.toInt.natAbs 0 (2 ^ 31 - 1)
  | .and => some (a &&& b, 0)
  | .or => some (a ||| b, 0)
  | .xor => some (a ^^^ b, 0)
  | .andn => some (a &&& ~~~b, 0)
  | .not => some (~~~a, 0)
  | .sll => some (a <<< n, 0)
  | .srl => some (a >>> n, 0)
  | .sra => some (a.sshiftRight n, 0)
  | .qmul => clamp ((a.toInt * b.toInt + 2 ^ 30) / 2 ^ 31) (-2 ^ 31) (2 ^ 31 - 1)
  | .addx => some (a + x, 0)
  | .mulx => some (a * x, 0)
  | .macx => some (d + a * x, 0)
  | .srax => some (a.sshiftRight (x.toNat % 32), 0)
  | .fadd => some (fadd32 rc u a b)
  | .fsub => some (fsub32 rc u a b)
  | .fmul => some (fmul32 rc u a b)
  | .fdiv => some (fdiv32 rc u a b)
  | .fsqrt => some (fsqrt32 rc u a)
  | .fma => some (fma32 false rc u a b d)
  | .fnma => some (fma32 true rc u a b d)
  | .fmuls => some (fmul32 rc u a x)
  | .fmas => some (fma32 false rc u a x d)
  | .fabs => some (a &&& 0x7FFFFFFF, 0)
  | .fneg => some (a ^^^ 0x80000000, 0)
  | _ => none
/-- The source of lane `i` of a permute (spec/07 Table 7.7). -/
def permRow (op : VecOp) (v : VecIn) (xa xb : Word) (i : Nat) : Option (BitVec 32) :=
  let z := min xb.toNat 64
  match op with
  | .bcast => some (xa.setWidth 32)
  | .splat => some (lane v.a (xb.toNat % 64))
  | .perm => some (lane v.a ((lane v.b i).toNat % 64))
  | .perm2 => some (if (lane v.b i).toNat % 128 < 64 then lane v.a ((lane v.b i).toNat % 64) else lane v.a1 ((lane v.b i).toNat % 64))
  | .rot => some (lane v.a ((i + xb.toNat) % 64))
  | .slideup => some (if i < z then 0 else lane v.a (i - z))
  | .slidedn => some (if i + z < 64 then lane v.a (i + z) else 0)
  | .zip => some (if i % 2 = 0 then lane v.a (i / 2) else lane v.b (i / 2))
  | .unzip => some (if i < 32 then lane v.a (2 * i) else lane v.b (2 * (i - 32)))
  | .lane => some (BitVec.ofNat 32 i)
  | _ => none
/-- The relation that a compare tests in a lane (spec/07 Table 7.5), the integer ones. -/
def relRow (op : VecOp) (a b x : BitVec 32) : Option Bool :=
  match op with
  | .ceq => some (decide (a = b))
  | .cne => some (decide (a ≠ b))
  | .clt => some (decide (a.toInt < b.toInt))
  | .cle => some (decide (a.toInt ≤ b.toInt))
  | .cltu => some (decide (a.toNat < b.toNat))
  | .cleu => some (decide (a.toNat ≤ b.toNat))
  | .ceqx => some (decide (a = x))
  | .cltx => some (decide (a.toInt < x.toInt))
  | .cgtx => some (decide (x.toInt < a.toInt))
  | _ => none

end Sys2Proof.Claims

/-- Lane by lane what a vector operation computes: an active lane takes the operation's value and gives its flags, an inactive lane keeps
the destination's; nothing but the vector destination is written. Compares and mask operations write a mask register; counts, lane reads
and integer reductions over the active lanes write a scalar one (spec/07 R155, R159, R161 to R165). -/
def Obligations.VectorLanes : Prop :=
  ∀ (e : VecEntry) (v : VecIn),
    ((∀ (i : Nat), i < 64 →
      let u := if e.rc = 4 then srWord e.seed v.inst v.taskid v.lt 1 i e.seq else 0
      ∀ r f, laneRow e.op e.rc u (lane v.a i) (lane v.b i) (lane v.d i) (e.xb.setWidth 32) = some (r, f) →
        (vecCompute e v).v.map (fun y => lane y i) = some (if v.m.getLsbD i then r else lane v.d i) ∧
        (v.m.getLsbD i = true → f &&& (vecCompute e v).flags = f) ∧ (vecCompute e v).x = none ∧ (vecCompute e v).m = none)) ∧
    (∀ (i : Nat), i < 64 → ∀ r, permRow e.op v e.xa e.xb i = some r →
      (vecCompute e v).v.map (fun y => lane y i) = some (if v.m.getLsbD i then r else lane v.d i) ∧ (vecCompute e v).flags = 0 ∧
      (vecCompute e v).x = none ∧ (vecCompute e v).m = none) ∧
    let o := vecCompute e v
    let active := (List.range 64).filter (fun i => v.m.getLsbD i)
    (∀ (i : Nat) (r : Bool), i < 64 → relRow e.op (lane v.a i) (lane v.b i) (e.xb.setWidth 32) = some r →
      o.m.map (fun y => y.getLsbD i) = some (if v.m.getLsbD i then r else v.md.getLsbD i) ∧ o.v = none ∧ o.x = none) ∧
    (e.op = .mand → o.m = some (v.ma &&& v.mb)) ∧ (e.op = .mor → o.m = some (v.ma ||| v.mb)) ∧ (e.op = .mxor → o.m = some (v.ma ^^^ v.mb)) ∧
    (e.op = .mandn → o.m = some (v.ma &&& ~~~v.mb)) ∧ (e.op = .mnot → o.m = some (~~~v.ma)) ∧ (e.op = .mmov → o.m = some e.xa) ∧
    (e.op = .mrd → o.x = some v.ma) ∧
    (e.op = .mpopc → o.x = some (BitVec.ofNat 64 ((List.range 64).filter (fun i => v.ma.getLsbD i)).length)) ∧
    (e.op = .mvx → o.x = some ((lane v.a (e.xb.toNat % 64)).setWidth 64)) ∧
    (e.op = .redadd → o.x = some (BitVec.ofInt 64 (active.map (fun i => (lane v.a i).toInt)).sum)) ∧
    (e.op = .redaddu → o.x = some (BitVec.ofNat 64 (active.map (fun i => (lane v.a i).toNat)).sum)) ∧
    (e.op = .sel → ∀ i, i < 64 → o.v.map (fun y => lane y i) = some (if v.m.getLsbD i then lane v.a i else lane v.b i)) ∧
    (e.op = .ins → ∀ i, i < 64 → o.v.map (fun y => lane y i) = some (if i = e.xb.toNat % 64 then e.xa.setWidth 32 else lane v.d i))
/-- VECTOR_LOAD_DATA of a load from the module's own memory, once every earlier store of the slot's vector port has been performed and no
access of a higher source number has been performed in this cycle: each active lane takes its element, extended as ES says, every other lane
and register keeps its value, and memory is unchanged; with poison in an active lane no register is written (spec/07 R156, R172, R174,
R176; spec/04 R102). Choices of the model that it rests on: log 63. -/
def Obligations.VectorLoadWrites : Prop :=
  ∀ (s : State) (g : Nat) (e : VecEntry) (offs : List Nat), (s.slot g).vbound.find? (fun p => p.op.isLoad) = some e →
    e.targets = offs.map (fun o => .tile (g / 4) o) → e.targets.length = (setBits 64 e.xb.toNat).length →
    e.addrs.length = e.targets.length → s.lostDie (dieOf (g / 4)) = false →
    (∀ r ∈ s.requests, r.slot = g → r.src = s.sourceNo (g / 4) 4 → (∃ bs, r.kind = .store bs) → r.phase = .performed) →
    (s.reachedAt = s.cycle → ∀ q ∈ s.reached, q.2.2 ≤ s.sourceNo (g / 4) 4) →
    let s' := s.dropReads (s.reads (s.issuer g 4 e.super e.serial))
    let n := if e.es = 0 then 4 else if e.es = 3 then 1 else 2
    let val := fun (o : Nat) => BitVec.ofNat 32 (ofBytes (s.readMem (g / 4 * 2 ^ 30 + o) n))
    let ext := fun (w : BitVec 32) => if e.es = 0 then w else if e.es = 1 then (w.setWidth 16).signExtend 32
      else if e.es = 2 then (w.setWidth 16).setWidth 32 else (w.setWidth 8).signExtend 32
    ((∀ o ∈ offs, s.poisoned (g / 4 * 2 ^ 30 + o) n = false) →
      ∃ t, Gives (.vectorLoadData g [] false) s t ∧
        t = { s' with slots := t.slots, reached := t.reached, reachedAt := t.reachedAt } ∧ (∀ h, h ≠ g → t.slot h = s.slot h) ∧
        (∀ r, r ≠ e.d → (t.slot g).getV (g / 4) e.bank r = (s.slot g).getV (g / 4) e.bank r) ∧
        (∀ k (h : k < offs.length) i, (setBits 64 e.xb.toNat)[k]? = some i →
          lane ((t.slot g).getV (g / 4) e.bank e.d) i = ext (val offs[k])) ∧
        (∀ i, i < 64 → e.xb.getLsbD i = false →
          lane ((t.slot g).getV (g / 4) e.bank e.d) i = lane ((s.slot g).getV (g / 4) e.bank e.d) i)) ∧
    (∃ t, Gives (.vectorLoadData g [] true) s t ∧ t.mem = s.mem ∧ ∀ h r, (t.slot h).v.get r = (s.slot h).v.get r ∧ (t.slot h).hv.get r = (s.slot h).hv.get r)

namespace Sys2Proof.Claims

/-! ## Matrix instructions -/

/-- What a matrix instruction waits for and puts in the queue (spec/08 Table 8.4). -/
def matRow (i : Instr) : Option (List Reg × MatWord) :=
  match i with
  | .mma acc qa bl => some ([], { op := .mma, acc := acc.val, qa := qa.val, bl := bl.val })
  | .mmaKeep acc qa bl => some ([], { op := .mma, acc := acc.val, qa := qa.val, bl := bl.val, keep := true })
  | .mmaSeg acc qa b => some ([b], { op := .mmaSeg, acc := acc.val, qa := qa.val, b := b })
  | .mmaSegKeep acc qa b => some ([b], { op := .mmaSeg, acc := acc.val, qa := qa.val, b := b, keep := true })
  | .qaLd qa a => some ([a], { op := .qaLd, qa := qa.val, a := a })
  | .blLd bl a => some ([a], { op := .blLd, bl := bl.val, a := a })
  | .qaPop qa => some ([], { op := .qaPop, qa := qa.val })
  | .accClr acc a => some ([a], { op := .accClr, acc := acc.val, a := a })
  | .accRebase acc a => some ([a], { op := .accRebase, acc := acc.val, a := a })
  | .accAdd acc src => some ([], { op := .accAdd, acc := acc.val, src := src.val })
  | .accLd acc a => some ([a], { op := .accLd, acc := acc.val, a := a })
  | .accSt acc a => some ([a], { op := .accSt, acc := acc.val, a := a })
  | .accCvt acc a b rc => some ([a, b], { op := .accCvt, acc := acc.val, a := a, b := b, rc := rc })
  | .accCvtQ acc qa b rc => some ([b], { op := .accCvtQ, acc := acc.val, qa := qa.val, b := b, rc := rc })
  | _ => none
/-- The grants that a matrix instruction needs (spec/05 R110 step 5; spec/08 R187). -/
def MatGranted (w : MatWord) (t : Slot) : Prop :=
  (w.op ∉ [MatOp.qaLd, .blLd, .qaPop] → t.grant.acc.getLsbD w.acc = true) ∧ (w.op = .accAdd → t.grant.acc.getLsbD w.src = true) ∧
  (w.op ∈ [MatOp.mma, .mmaSeg, .qaLd, .qaPop, .accCvtQ] → t.grant.qa.getLsbD w.qa = true) ∧
  (w.op ∈ [MatOp.mma, .blLd] → t.grant.bl.getLsbD w.bl = true) ∧
  (w.op = .mmaSeg → ∀ i, i < 32 → t.grant.bl.getLsbD ((t.x w.b).toNat / 2 ^ (2 * i) % 4) = true)
/-- The operand in memory of a matrix instruction, if it has one, is a whole number of beats in the scratchpad of an M-tile or S-tile of
this package and of the slot's partition, the slot's own tile in a lockstep gang (spec/08 R187). -/
def MatOperand (s : State) (w : MatWord) : Prop :=
  let n := if w.op = .qaLd ∨ w.op = .blLd then 13888 else if w.op = .accLd ∨ w.op = .accSt then 16960
    else if ((me s).x w.b).getLsbD 8 then 4096 else 13888
  w.op ∈ [MatOp.qaLd, .blLd, .accLd, .accSt, .accCvt] →
    ∃ gt off, ((me s).x w.a).toNat = 0xFFFE * 2 ^ 48 + s.mgmt.package * 2 ^ 38 + gt * 2 ^ 30 + off ∧ s.mgmt.package < 1024 ∧ gt < 256 ∧
      off % 64 = 0 ∧ off + n ≤ 2 ^ 22 ∧ (gt % 64 < 48 ∨ 52 ≤ gt % 64 ∧ gt % 64 < 56) ∧ (s.tile gt).part = some (me s).part ∧
      (s.inLockstep (me s) = true → gt = s.cur / 4)
/-- The entry that a matrix instruction leaves in its slot's queue. -/
def IsMatEntry (s : State) (w : MatWord) (e : MatEntry) : Prop :=
  let t := me s
  e.op = w.op ∧ e.bank = t.bank ∧ e.pc = t.pc ∧ e.acc = w.acc ∧ e.src = w.src ∧ e.qa = w.qa ∧ e.bl = w.bl ∧ e.keep = w.keep ∧ e.xa = t.x w.a ∧
  e.xb = t.x w.b ∧ e.prec = t.prec ∧ e.seed = t.seed ∧ e.seq = t.srseq ∧ e.serial = t.entrySerial ∧ e.flags = 0 ∧
  e.fill = (if w.op = .qaLd ∨ w.op = .accCvtQ then (s.tile (s.cur / 4)).nextFill else 0)
/-- The tile with the tail position of a FIFO reserved by a fill. -/
def reservedTile (u : Tile) (q : Nat) : Tile :=
  { u with nextFill := u.nextFill + 1
           fifos := vset u.fifos q (vget u.fifos q ++ [{ fill := u.nextFill, full := false, image := [], poison := false }]) }

end Sys2Proof.Claims

/-- A matrix instruction whose checks pass, with room in its queue and, for a fill, in its FIFO, enters the queue: it retires, but an MMA
puts its slot in MATRIX with the PC at it; a fill reserves the tail position. Without a grant it raises Resource Fault, and without room it
waits (spec/08 R178, R186, R187). MX.WAIT retires when every matrix entry of the slot has completed (R194). PREC.I and PREC.X write PREC at
once (R193). -/
def Sys2Proof.Claims.MatrixIssue : Prop :=
  ∀ (s : State) (i : Instr) (rs : List Reg) (w : MatWord), matRow i = some (rs, w) → Ready s { engine := true, mtile := true } rs →
    (MatGranted w (me s) → MatOperand s w → (w.op = .accCvt ∨ w.op = .accCvtQ → convCause ((me s).x w.b) (w.op == .accCvtQ) = none) →
      (me s).mq.length < 4 → s.acquirePending s.cur = false →
      (w.op = .qaLd ∨ w.op = .accCvtQ → (vget (s.tile (s.cur / 4)).fifos w.qa).length < 4) →
      ∃ e t, IsMatEntry s w e ∧ Gives i s t ∧ t = { s with slots := t.slots, tiles := t.tiles, agenda := s.agenda ++ [.matrixEntryBind s.cur] } ∧
        (∀ h, h ≠ s.cur → t.slot h = s.slot h) ∧ (∀ h, h ≠ s.cur / 4 → t.tile h = s.tile h) ∧
        t.tile (s.cur / 4) = (if w.op = .qaLd ∨ w.op = .accCvtQ then reservedTile (s.tile (s.cur / 4)) w.qa else s.tile (s.cur / 4)) ∧
        (let u := { me s with mq := (me s).mq ++ [e], entrySerial := (me s).entrySerial + 1
                              srseq := if (w.op = MatOp.accCvt ∨ w.op = MatOp.accCvtQ) ∧ e.rc = 4 then (me s).srseq + 1 else (me s).srseq }
         t.slot s.cur = if w.op = .mma ∨ w.op = .mmaSeg then { u with state := .matrix } else u.advance)) ∧
    (¬MatGranted w (me s) → Gives i s (s.takeTrap s.cur 3 (s.wordAt (me s))))
/-- MX.WAIT, PREC.I and PREC.X (spec/08 R193, R194). MX.WAIT that waits has writes of its slot to the host confirmed (spec/16 R355). PREC.I takes the A format from `d`, the B format from `a`, the automatic bits and the
scale mode from `b`; PREC.X exchanges PREC with a register, unless that would write a reserved bit. -/
def Sys2Proof.Claims.PrecisionAndWait : Prop :=
  ∀ (s : State),
    (Ready s { engine := true, mtile := true } [] → ((me s).mq = [] ∧ (me s).mbound = [] → Gives .mxWait s (retired s id)) ∧
      (¬((me s).mq = [] ∧ (me s).mbound = []) → Gives .mxWait s { s.confirmSlot s.cur with stalled := true })) ∧
    (∀ (d a : BitVec 5) (b : BitVec 4), Ready s { engine := true, mtile := true } [] →
      ∃ p : Word, Gives (.precI d a b) s (retired s (fun t => { t with prec := p })) ∧
        p.extractLsb' 0 4 = d.extractLsb' 0 4 ∧ p.getLsbD 4 = d.getLsbD 4 ∧ p.getLsbD 5 = b.getLsbD 2 ∧ p.extractLsb' 8 4 = a.extractLsb' 0 4 ∧
        p.getLsbD 12 = a.getLsbD 4 ∧ p.getLsbD 13 = b.getLsbD 3 ∧ p.extractLsb' 16 2 = b.extractLsb' 0 2 ∧ p &&& ~~~0x33F3F = 0) ∧
    (∀ (d a : Reg), Ready s { engine := true, mtile := true } [a, d] →
      ((me s).x a &&& ~~~0x33F3F = 0 → Gives (.precX d a) s (retired s (fun t => { t.setX d (me s).prec with prec := (me s).x a }))) ∧
      ((me s).x a &&& ~~~0x33F3F ≠ 0 → Gives (.precX d a) s (s.takeTrap s.cur 1 (s.wordAt (me s)))))
/-- Matrix instructions enter the queue; PREC.I, PREC.X and MX.WAIT (spec/08 R182, R193, R194). Choices of the model that it rests on: log 2. -/
def Obligations.MatrixIssues : Prop := Sys2Proof.Claims.MatrixIssue ∧ Sys2Proof.Claims.PrecisionAndWait
/-- MATRIX_ENTRY_BIND: the one head of its tile, when it can bind and reads no poison, occupies the free array; its cost goes to the task's
measure and its completion is due. ACC.ST writes the accumulator image, and ACC.CVT the converted tile, to its place in the scratchpad
then, and other forms write nothing; the flags of the elements that ACC.CVT writes stay with its entry until it completes (spec/08 R182,
R191, R192; spec/02 R40). Choices of the model that it rests on: log 2, 63. -/
def Obligations.MatrixBind : Prop :=
  ∀ (s : State) (g gt off : Nat) (e : MatEntry) (rest : List MatEntry), gt = g / 4 → (s.slot g).mq = e :: rest → (s.tile gt).mat.busy = none →
    s.enginesHold g = false → s.matHeadTrap gt (s.slot g) = none → s.matHeadReady gt (s.slot g) e = true → s.matPoisoned gt (s.slot g) e = false →
    (∀ k, k < 4 → k ≠ g % 4 → (s.slot (gt * 4 + k)).mq = []) → s.matCost gt (s.slot g) e ≤ 256 → s.matTarget e = .tile gt off →
    s.lostDie (dieOf gt) = false →
    let r := s.convert gt e.acc e.xb e.rc (fun n => srWord e.seed (s.slot g).instance_ (s.slot g).taskid (s.slot g).lt 0 n e.seq)
    ∃ t, Gives (.matrixEntryBind g) s t ∧
      t = { s with slots := t.slots, tiles := t.tiles, mem := t.mem, poison := t.poison, keyTag := t.keyTag
                   agenda := s.agenda ++ [.matrixEntryComplete gt] } ∧
      t.slot g = { s.slot g with mq := rest, mbound := (s.slot g).mbound ++ [if e.op = .accCvt then { e with flags := r.2 } else e],
                                     umat := (s.slot g).umat + wordN (s.matCost gt (s.slot g) e) } ∧
      (t.tile gt).mat.busy = some (g, e.serial) ∧ (∀ h, h ≠ g → t.slot h = s.slot h) ∧ (∀ h, h ≠ gt → t.tile h = s.tile h) ∧
      (e.op ≠ .accSt → e.op ≠ .accCvt → t.mem = s.mem) ∧
      (e.op = .accSt → t.mem = Memory.write s.mem (gt * 2 ^ 30 + off) (s.accImage gt e.acc)) ∧
      (e.op = .accCvt → t.mem = Memory.write s.mem (gt * 2 ^ 30 + off) r.1)

namespace Sys2Proof.Claims

/-- The entry that occupies the array of a tile can complete. -/
def Occupies (s : State) (gt g : Nat) (e : MatEntry) : Prop :=
  (s.tile gt).mat.busy = some (g, e.serial) ∧ s.enginesHold g = false ∧ gt = g / 4 ∧
  (s.slot g).mbound.find? (fun p => p.serial == e.serial) = some e
/-- What an element of an accumulator becomes when the contributions of row `i` of A and column `j` of B enter it in order. -/
def dot (eb : Int) (p : ProductPlan) (i j : Nat) (x : AccElem) : AccElem :=
  (List.range (min p.ad.cols (p.latch i).2.cols)).foldl
    (fun x k => (x.add eb (productOf (operand p.img p.ad i k) (operand (p.latch i).1 (p.latch i).2 j k))).1) x

end Sys2Proof.Claims

/-- MATRIX_ENTRY_COMPLETE leaves the array free and the entry gone from its slot. QA.POP frees the head position, QA.LD makes its
reserved position FULL and BL.LD loads its latch with the bytes of the operand; memory is unchanged (spec/08 R178, R189). A product adds to
element (i, j) of its accumulator the products of row i of A with row j of the latch, for the rows they have, and to no other; its slot
leaves MATRIX and the instruction retires (R188). ACC.CLR zeroes every element and sets EB; ACC.REBASE shifts every element to the new EB
(R190). ACC.ST and ACC.CVT complete once every byte that they write has been performed; ACC.CVT then ORs its flags into FLAGS (R184, R192). Choices of the model that it rests on: log 2, 63. -/
def Obligations.MatrixComplete : Prop :=
  ∀ (s : State) (gt g : Nat) (e : MatEntry), Occupies s gt g e → Memory.wf s.mem → e.acc < 64 → e.qa < 4 → e.bl < 4 →
    (∀ t, Gives (.matrixEntryComplete gt) s t → (t.tile gt).mat.busy = none ∨ t = s.defer (.matrixEntryComplete gt)) ∧
    (e.op = .qaPop → ∃ t, Gives (.matrixEntryComplete gt) s t ∧ t.mem = s.mem ∧ vget (t.tile gt).fifos e.qa = (vget (s.tile gt).fifos e.qa).drop 1 ∧
      (t.slot g).mbound = (s.slot g).mbound.filter (fun p => p.serial != e.serial)) ∧
    (∀ off, s.matTarget e = .tile gt off → s.lostDie (dieOf gt) = false →
      (e.op = .qaLd → ∃ t, Gives (.matrixEntryComplete gt) s t ∧ t.mem = s.mem ∧
        vget (t.tile gt).fifos e.qa = (vget (s.tile gt).fifos e.qa).map (fun p => if p.full = false ∧ p.fill = e.fill then
          { p with full := true, image := Memory.slice s.mem (gt * 2 ^ 30 + off) 13888, poison := s.poisoned (gt * 2 ^ 30 + off) 13888 } else p)) ∧
      (e.op = .blLd → ∃ t, Gives (.matrixEntryComplete gt) s t ∧ t.mem = s.mem ∧
        vget (t.tile gt).latches e.bl =
          { image := Memory.slice s.mem (gt * 2 ^ 30 + off) 13888, poison := s.poisoned (gt * 2 ^ 30 + off) 13888 })) ∧
    (∀ p, (e.op = .mma ∨ e.op = .mmaSeg) → s.planProduct gt (s.slot g) e = .ok p → p.ad.rows ≤ 32 → (∀ i, (p.latch i).2.rows ≤ 32) →
      ∃ t, Gives (.matrixEntryComplete gt) s t ∧ (t.slot g).state = (s.slot g).active ∧
        ((t.slot g).flowOf e.bank).pc = ((s.slot g).flowOf e.bank).advance.pc ∧ t.accEb gt e.acc = s.accEb gt e.acc ∧
        vget (t.tile gt).fifos e.qa = (if e.keep then vget (s.tile gt).fifos e.qa else (vget (s.tile gt).fifos e.qa).drop 1) ∧
        (∀ i j, i < 32 → j < 32 → t.accElem gt e.acc (32 * i + j) =
          if i < p.ad.rows ∧ j < (p.latch i).2.rows then dot (s.accEb gt e.acc) p i j (s.accElem gt e.acc (32 * i + j))
          else s.accElem gt e.acc (32 * i + j)) ∧
        (∀ a, a < 64 → a ≠ e.acc → ∀ n, n < 1024 → t.accElem gt a n = s.accElem gt a n)) ∧
    (e.op = .accClr → ∃ t, Gives (.matrixEntryComplete gt) s t ∧ t.accEb gt e.acc = (e.xa.setWidth 16).toInt ∧ t.accInx gt e.acc = false ∧
      (∀ n, n < 1024 → t.accElem gt e.acc n = { a := 0, st := 0 }) ∧
      (∀ a, a < 64 → a ≠ e.acc → ∀ n, n < 1024 → t.accElem gt a n = s.accElem gt a n)) ∧
    (e.op = .accRebase → ∃ t, Gives (.matrixEntryComplete gt) s t ∧ t.accEb gt e.acc = (e.xa.setWidth 16).toInt ∧
      (∀ n, n < 1024 → t.accElem gt e.acc n = AccElem.clamp (s.accElem gt e.acc n).st
        (floorShift (s.accElem gt e.acc n).a (s.accEb gt e.acc - (e.xa.setWidth 16).toInt)).1)) ∧
    (e.op = .accAdd → e.src < 64 → ∃ t, Gives (.matrixEntryComplete gt) s t ∧ t.accEb gt e.acc = s.accEb gt e.acc ∧
      (∀ n, n < 1024 → (t.accElem gt e.acc n).a = (AccElem.clamp 0 ((s.accElem gt e.acc n).a +
          (floorShift (s.accElem gt e.src n).a (s.accEb gt e.src - s.accEb gt e.acc)).1)).a)) ∧
    ((∀ r ∈ s.requests, r.slot = g → r.entry = e.serial → ∀ bs, r.kind ≠ .block bs) →
      (e.op = .accSt → ∃ t, Gives (.matrixEntryComplete gt) s t ∧ t.mem = s.mem ∧
        (t.slot g).mbound = (s.slot g).mbound.filter (fun p => p.serial != e.serial)) ∧
      (e.op = .accCvt → ∃ t, Gives (.matrixEntryComplete gt) s t ∧ t.mem = s.mem ∧
        (t.slot g).mbound = (s.slot g).mbound.filter (fun p => p.serial != e.serial) ∧
        (t.slot g).flags = (s.slot g).flags ||| e.flags.setWidth 64))

namespace Sys2Proof.Claims

/-! ## Engine commands -/

/-- An engine command: destination, block register, counter, generator, kind (spec/09 Tables 9.1, 9.3). -/
def engineRow (i : Instr) : Option (Reg × Reg × KTag × Fin 8 × Nat) :=
  match i with
  | .cp d p k g => some (d, p, k, g, 1)
  | .cp2d d p k g => some (d, p, k, g, 2)
  | .cpFill d p k g => some (d, p, k, g, 3)
  | .cpGather d p k g => some (d, p, k, g, 4)
  | .cpScatter d p k g => some (d, p, k, g, 5)
  | .cpDecomp d p k g => some (d, p, k, g, 6)
  | .fifoFeed d p k g => some (d, p, k, g, 7)
  | .agPort d p k g => some (d, p, k, g, 8)
  | _ => none
/-- X[r] is the address of a block of 64 bytes in the scratchpad of the slot's own tile, at offset `off`. -/
def OwnBlock (s : State) (r : Reg) (off : Nat) : Prop :=
  ((me s).x r).toNat = 0xFFFE * 2 ^ 48 + s.mgmt.package * 2 ^ 38 + s.cur / 4 * 2 ^ 30 + off ∧ s.mgmt.package < 1024 ∧ s.cur < 1024 ∧
  off % 64 = 0 ∧ off + 64 ≤ 2 ^ 22
/-- The head command of a generator is `c` and can take a step: it has not ended or stopped, it waits for no bytes of another module or the
host, its slots are not being saved, and a Fathom command has its context. -/
def Runs (s : State) (gt g : Nat) (c : EngineCmd) (rest : List EngineCmd) : Prop :=
  g < 8 ∧ (vget (s.tile gt).gens g).queue = c :: rest ∧ c.code = none ∧ c.stop = none ∧ s.genSaving gt g = false ∧
  s.reads (s.engineIssuer gt g c) = [] ∧
  (c.fathom = true → c.ctx ≠ none)
/-- The window address of an offset of a tile's scratchpad. -/
def spad (s : State) (gt off : Nat) : Word := BitVec.ofNat 64 (0xFFFE * 2 ^ 48 + s.mgmt.package * 2 ^ 38 + gt * 2 ^ 30 + off)

end Sys2Proof.Claims

/-- An engine command whose grants, block and resources pass their checks is accepted: it joins its generator's queue with the next TICKET,
which xd takes, charges its counter, holds its endpoint, and retires (spec/09 R199, R201, R219). Without the grant of its generator it
raises Resource Fault; a full queue makes it wait. An accepted command runs: a segment of CP.FILL writes its 256 bytes (R202, R204), a
command that has ended leaves its generator (R203), and AG.PORT ends with CODE 0 at END (R208). Choices of the model that it rests on: log 2. -/
def Obligations.EngineAccepted : Prop :=
  (∀ (s : State) (i : Instr) (d p : Reg) (k : KTag) (g : Fin 8) (kind off : Nat), engineRow i = some (d, p, k, g, kind) →
    Ready s { engine := true } [p, d] →
    let gt := s.cur / 4
    let q := vget (s.tile gt).gens g.val
    let bs := s.readMem (gt * 2 ^ 30 + off) 64
    ((me s).grant.ag.getLsbD g.val = true → (∀ n, k = some n → (me s).grant.k.getLsbD n.val = true) → OwnBlock s p off →
      (q.queue.filter (fun c => !c.inner)).length < 8 → (∀ n, k = some n → s.counter gt n.val ≠ 65535) →
      s.storePending s.cur ((me s).x p).toNat 64 = false → s.acquirePending s.cur = false → s.poisoned (gt * 2 ^ 30 + off) 64 = false →
      s.blockCause (me s) gt kind (Block.ofBytes bs) = none → (kind = 7 → (vget (s.tile gt).fifos (bits (Block.ofBytes bs).dst 1 0)).length < 4) →
      ∃ c t, Gives i s t ∧ t = { s with slots := t.slots, tiles := t.tiles, agenda := t.agenda } ∧
        t.slot s.cur = ((me s).setX d ((q.ticket + 1).setWidth 64)).advance ∧ (∀ h, h ≠ s.cur → t.slot h = s.slot h) ∧
        (∀ h, h ≠ gt → t.tile h = s.tile h) ∧
        vget (t.tile gt).gens g.val = { queue := q.queue ++ [c], ticket := q.ticket + 1 } ∧
        (∀ n, n < 16 → t.counter gt n = if k.map (·.val) = some n then s.counter gt n + 1 else s.counter gt n) ∧
        c.kind = kind ∧ c.block = bs ∧ c.ticket = q.ticket + 1 ∧ c.k = k ∧ c.slot = s.cur ∧ c.task = (me s).task ∧ c.started = false ∧
        c.code = none ∧ t.agenda = s.agenda ++ (if q.queue = [] then [.engineSegment gt g.val [] false] else [])) ∧
    ((me s).grant.ag.getLsbD g.val = false → Gives i s (s.takeTrap s.cur 3 (s.wordAt (me s)))) ∧
    ((me s).grant.ag.getLsbD g.val = true → (∀ n, k = some n → (me s).grant.k.getLsbD n.val = true) → OwnBlock s p off →
      8 ≤ (q.queue.filter (fun c => !c.inner)).length → Gives i s { s with stalled := true })) ∧
  (∀ (s : State) (gt g dst : Nat) (c : EngineCmd) (rest : List EngineCmd), Runs s gt g c rest → gt < 256 → s.mgmt.package < 1024 →
    (isMTile gt || isSTile gt) = true → (s.tile gt).part = some c.part → s.lostDie (dieOf gt) = false → c.kind = 3 →
    let b := Block.ofBytes c.block
    b.dst = spad s gt dst → dst + b.len ≤ 2 ^ 22 → dst % 256 = 0 → 256 * (c.progress + 1) ≤ b.len →
    ∃ t, Gives (.engineSegment gt g [] false) s t ∧ t.slots = s.slots ∧
      t.mem = Memory.write s.mem (gt * 2 ^ 30 + dst + 256 * c.progress) ((List.range 256).map (fun i => b.sstr.extractLsb' (8 * (i % 8)) 8))) ∧
  (∀ (s : State) (gt g code : Nat) (c : EngineCmd) (rest : List EngineCmd), g < 8 → (vget (s.tile gt).gens g).queue = c :: rest →
    s.genSaving gt g = false → c.code = some code → s.engineWrites gt g c = false → c.recorded = true → c.inner = false → c.channel = none →
    ∃ t, Gives (.engineComplete gt g) s t ∧ t.mem = s.mem ∧ t.slots = s.slots ∧ (vget (t.tile gt).gens g).queue = rest) ∧
  (∀ (s : State) (gt g : Nat) (c : EngineCmd) (rest : List EngineCmd), g < 8 → (vget (s.tile gt).gens g).queue = c :: rest →
    s.genSaving gt g = false → c.kind = 8 → c.code = none →
    let e := s.chan gt (bits (fieldW c.block 8 8) 3 0)
    ∀ q more, e.ended = none → e.tokens = q :: more → q.tail = true → q.kind = .endTok →
      ∃ t, Gives (.agPortRequest gt g) s t ∧ t.mem = s.mem ∧ (t.chan gt (bits (fieldW c.block 8 8) 3 0)).tokens = more ∧
        (vget (t.tile gt).gens g).queue.head?.map (·.code) = some (some 0))
/-- ENGINE_SEGMENT of CP and CP.FILL within a tile's scratchpad: one segment of at most 256 bytes, ending at a 256-byte boundary of the
destination or at the run's end, is written, and every other byte of memory is unchanged; the next segment is due. When the run is done the
command ends with CODE 0 (spec/09 R202, R204). -/
def Sys2Proof.Claims.EngineSegments : Prop :=
  ∀ (s : State) (gt g so dst : Nat) (c : EngineCmd) (rest : List EngineCmd), Runs s gt g c rest → gt < 256 → s.mgmt.package < 1024 →
    let b := Block.ofBytes c.block
    let j := c.progress
    let lo := 256 * j - dst % 256
    let n := min b.len (256 * (j + 1) - dst % 256) - lo
    (isMTile gt || isSTile gt) = true → (s.tile gt).part = some c.part → b.dst = spad s gt dst → dst + b.len ≤ 2 ^ 22 → 0 < b.len →
    s.lostDie (dieOf gt) = false →
    (c.kind = 1 → b.src = spad s gt so → so + b.len ≤ 2 ^ 22 → ¬(so < dst ∧ dst < so + b.len) → lo < b.len → s.poisoned (gt * 2 ^ 30 + so + lo) n = false →
      ∃ t, Gives (.engineSegment gt g [] false) s t ∧
        t.mem = Memory.write s.mem (gt * 2 ^ 30 + dst + lo) (s.readMem (gt * 2 ^ 30 + so + lo) n) ∧
        (∃ c', vget (t.tile gt).gens g = { vget (s.tile gt).gens g with queue := c' :: rest } ∧
          c'.progress = j + 1 ∧ c'.done = c.done + n ∧ c'.started = true ∧ c'.code = none) ∧
        t.agenda = s.agenda ++ [.engineSegment gt g [] false] ∧ t.slots = s.slots) ∧
    (c.kind = 3 → lo < b.len →
      ∃ t, Gives (.engineSegment gt g [] false) s t ∧
        t.mem = Memory.write s.mem (gt * 2 ^ 30 + dst + lo) ((List.range n).map (fun i => b.sstr.extractLsb' (8 * ((lo + i) % 8)) 8)) ∧
        t.agenda = s.agenda ++ [.engineSegment gt g [] false] ∧ t.slots = s.slots) ∧
    ((c.kind = 1 ∨ c.kind = 3) → b.len ≤ lo →
      ∃ t, Gives (.engineSegment gt g [] false) s t ∧ t.mem = s.mem ∧
        (∃ c', vget (t.tile gt).gens g = { vget (s.tile gt).gens g with queue := c' :: rest } ∧ c'.code = some 0) ∧
        t.agenda = s.agenda ++ [.engineComplete gt g] ∧ t.slots = s.slots)
/-- ENGINE_COMPLETE of a command that has ended: without a record, or once that is written, the command leaves its generator, its counter
goes down by 1 unless it is 0, its message, if it asks for one and no kill cut it, sets out, and the next command starts, or completes
where a kill has cut it; with a record to write in the tile's scratchpad, its 16 bytes are written first (spec/09 R201, R203, R209).
AG_PORT_REQUEST ends its port with CODE 0 at END, waits for a token, and takes a message token that is no good request and counts it
(R208). -/
def Sys2Proof.Claims.EngineCompletes : Prop :=
  ∀ (s : State) (gt g : Nat) (c : EngineCmd) (rest : List EngineCmd), g < 8 → (vget (s.tile gt).gens g).queue = c :: rest →
    s.genSaving gt g = false →
    (∀ code, c.code = some code → s.engineWrites gt g c = false →
      (c.recorded = true → c.inner = false → c.channel = none →
        ∃ t, Gives (.engineComplete gt g) s t ∧ t.mem = s.mem ∧ t.slots = s.slots ∧ (vget (t.tile gt).gens g).queue = rest ∧
          (∀ n, n < 16 → t.counter gt n = if c.k.map (·.val) = some n ∧ s.counter gt n ≠ 0 then s.counter gt n - 1 else s.counter gt n) ∧
          t.agenda = s.agenda ++ (if (Block.ofBytes c.block).msg ∧ c.cut = false then [.messageArrival gt (c.message g code) none] else []) ++
            (match rest.head? with
             | none => []
             | some n => if n.code = none then [.engineSegment gt g [] false] else [.engineComplete gt g])) ∧
      (∀ off, c.recorded = false → (Block.ofBytes c.block).rec_ = true → (Block.ofBytes c.block).res = spad s gt off → off + 16 ≤ 2 ^ 22 →
        gt < 256 → s.mgmt.package < 1024 → (isMTile gt || isSTile gt) = true → (s.tile gt).part = some c.part → s.lostDie (dieOf gt) = false →
        ∃ t, Gives (.engineComplete gt g) s t ∧ t.mem = Memory.write s.mem (gt * 2 ^ 30 + off) (c.record code) ∧ (c.record code).length = 16 ∧
          t.agenda = s.agenda ++ [.engineComplete gt g] ∧ t.slots = s.slots)) ∧
    (c.kind = 8 → c.code = none →
      let ch := bits (fieldW c.block 8 8) 3 0
      let e := s.chan gt ch
      (e.ended = none → e.tokens = [] → Gives (.agPortRequest gt g) s (s.defer (.agPortRequest gt g))) ∧
      (∀ q more, e.ended = none → e.tokens = q :: more → q.tail = true → q.kind = .endTok →
        ∃ t, Gives (.agPortRequest gt g) s t ∧ t.mem = s.mem ∧ t.agenda = s.agenda ++ [.engineComplete gt g] ∧ (t.chan gt ch).tokens = more ∧
          (vget (t.tile gt).gens g).queue.head?.map (·.code) = some (some 0)) ∧
      (∀ q more, e.ended = none → e.tokens = q :: more → q.tail = true → q.kind = .message → e.manual = true →
        s.poisoned (gt * 2 ^ 30 + e.entry q.seq) (64 * q.beats) = false →
        s.portRequest c (s.readMem (gt * 2 ^ 30 + e.entry q.seq) 64) = false →
        ∃ t, Gives (.agPortRequest gt g) s t ∧ t.mem = s.mem ∧ (t.chan gt ch).tokens = more ∧ (t.chan gt ch).taken = e.taken + 1 ∧
          (vget (t.tile gt).gens g).queue.head?.map (·.discarded) = some (c.discarded + 1)))
/-- Engine commands run segment by segment and complete (spec/09 R202 to R204, R219). Choices of the model that it rests on: log 2, 37, 71, 76. -/
def Obligations.EngineRuns : Prop := Sys2Proof.Claims.EngineSegments ∧ Sys2Proof.Claims.EngineCompletes

namespace Sys2Proof.Claims

/-! ## Channels, counters and messages -/

/-- The endpoint `ch` of the slot's tile, granted to the slot, on a side, and held by no engine command. -/
def Holds (s : State) (ch : Fin 16) (side : Side) : Prop :=
  (me s).grant.ch.getLsbD ch.val = true ∧ (s.chan (s.cur / 4) ch.val).side = side ∧ (s.chan (s.cur / 4) ch.val).heldBy = none
/-- A status word (spec/09 Table 9.8): code, channel, beats, offset of the entry. -/
def status (code ch beats off : Nat) : Word := BitVec.ofNat 64 (code + 256 * ch + 4096 * beats + 2 ^ 24 * off)
/-- The instruction retires with a register written. -/
def answered (s : State) (d : Reg) (v : Word) : State := s.setSlot s.cur ((me s).setX d v).advance
/-- The slot is BLOCKED in a wait, its PC at the instruction, and the wait will be examined. -/
def blockedIn (s : State) (w : Wait) : State :=
  { s.setSlot s.cur { me s with state := .blocked, wait := some w, waitSerial := (me s).waitSerial + 1 } with
    agenda := s.agenda ++ [.waitComplete s.cur] }

end Sys2Proof.Claims

/-- RECV and TRYRECV of a MANUAL or AUTO channel whose entry in hand, if any, has been freed: the token at the head is taken, its place and
length in the status word, and RECV is BLOCKED, TRYRECV answers EMPTY, when no complete token is there; a control token ends the channel
(spec/09 R216, Tables 9.8, 9.9). ALT takes from the endpoint of its mask whose head was complete first, or is BLOCKED (R217). Without the
grant they raise Resource Fault. -/
def Obligations.Receives : Prop :=
  ∀ (s : State) (d a : Reg) (ch : Fin 16),
    let e := s.chan (s.cur / 4) ch.val
    (Ready s { noHandler := true } [d] → Ready s {} [d] → Holds s ch .receiver → e.held = none →
      (∀ q more, e.ended = none → e.tokens = q :: more → q.tail = true → (q.kind = .data ∨ q.kind = .message) →
        ∃ t, Gives (.recv d ch) s t ∧ Gives (.tryrecv d ch) s t ∧ t = { s with slots := t.slots, tiles := t.tiles } ∧
          t.slot s.cur = ((me s).setX d (status 0 ch.val q.beats (e.qoff + q.seq % (e.depth + 1) * (e.entryBeats * 64)))).advance ∧
          (∀ h, h ≠ s.cur → t.slot h = s.slot h) ∧ (∀ h, h ≠ s.cur / 4 → t.tile h = s.tile h) ∧
          t.chan (s.cur / 4) ch.val = { e with tokens := more, held := some q.seq, taken := e.taken + 1, lastTaken := s.cycle }) ∧
      (∀ q more, e.ended = none → e.tokens = q :: more → q.tail = true → q.kind = .endTok →
        ∃ t, Gives (.recv d ch) s t ∧ Gives (.tryrecv d ch) s t ∧ t.slot s.cur = ((me s).setX d (status 1 ch.val 0 0)).advance ∧
          (t.chan (s.cur / 4) ch.val).ended = some .endTok) ∧
      (e.headReady = false → Gives (.recv d ch) s (blockedIn s (.recv d ch.val)) ∧ Gives (.tryrecv d ch) s (answered s d (status 3 ch.val 0 0)))) ∧
    (Ready s { noHandler := true } [a, d] → (me s).x a = BitVec.ofNat 64 (2 ^ ch.val) → Holds s ch .receiver →
      (e.headReady = true → Gives (.alt d a) s (answered (s.takeAlt (s.cur / 4) ch.val).2 d (s.takeAlt (s.cur / 4) ch.val).1)) ∧
      (e.headReady = false → Gives (.alt d a) s (blockedIn s (.alt d (BitVec.ofNat 16 (2 ^ ch.val)))))) ∧
    (Ready s {} [d] → (me s).grant.ch.getLsbD ch.val = false → Gives (.tryrecv d ch) s (s.takeTrap s.cur 3 (s.wordAt (me s))))
/-- SEND and SEND.RAW of bytes in the slot's own scratchpad, once every earlier access of the slot has been performed (the model's choice of
when the token is read, log 70): when the channel is OPEN and its entries are large enough the slot is BLOCKED
with the token read; on a CLOSED or BROKEN channel they answer CLOSED or BROKEN, and for a token too large TOOBIG. A SEND of a block that
is no valid header raises Format Fault (spec/09 R215, Table 9.8). CH.GRANT returns units of a MANUAL channel, and CH.CLOSE sends END after
every earlier token, or does nothing on a channel that is not OPEN (R218). Choices of the model that it rests on: log 2, 38. -/
def Obligations.Sends : Prop :=
  ∀ (s : State) (d b : Reg) (ch : Fin 16) (off : Nat),
    let e := s.chan (s.cur / 4) ch.val
    let key := s.cur / 4 * 2 ^ 30 + off
    let h := Header.ofBytes (s.readMem key 64)
    (Ready s { noHandler := true } [b, d] → Holds s ch .sender →
      (e.state = .closed → Gives (.send d ch b) s (answered s d (status 6 ch.val 0 0)) ∧ Gives (.sendRaw d ch b) s (answered s d (status 6 ch.val 0 0))) ∧
      (e.state = .broken → Gives (.send d ch b) s (answered s d (status 4 ch.val 0 0)) ∧ Gives (.sendRaw d ch b) s (answered s d (status 4 ch.val 0 0))) ∧
      (e.state = .opened → OwnBlock s b off → s.checkAccess s.cur .read 64 ((me s).x b) = .ok (.tile (s.cur / 4) off) → s.acquirePending s.cur = false →
        s.accessesPerformed s.cur = true → s.lostDie (dieOf (s.cur / 4)) = false → (∀ r ∈ s.requests, r.src ≠ s.sourceNo (s.cur / 4) 7) →
        (1 ≤ e.entryBeats → Gives (.sendRaw d ch b) s (blockedIn s (.send d ch.val
          { kind := .message, bytes := s.readMem key 64, tail := true, bad := s.poisoned key 64 }))) ∧
        (h.invalid = true → Gives (.send d ch b) s (s.takeTrap s.cur 6 (s.wordAt (me s)))) ∧
        (h.invalid = false → e.entryBeats < h.beats → Gives (.send d ch b) s (answered s d (status 5 ch.val 0 0))) ∧
        (h.invalid = false → h.beats ≤ e.entryBeats →
          (∀ i, i < h.beats → s.checkAccess s.cur .read 64 ((me s).x b + BitVec.ofNat 64 (64 * i)) = .ok (.tile (s.cur / 4) (off + 64 * i))) →
          Gives (.send d ch b) s (blockedIn s (.send d ch.val
            { kind := .data, bytes := (List.range h.beats).flatMap (fun i => s.readMem (key + 64 * i) 64), tail := true
              bad := (List.range h.beats).any (fun i => s.poisoned (key + 64 * i) 64) }))))) ∧
    (Ready s {} [b, d] → Holds s ch .receiver →
      (e.manual = false → Gives (.chGrant d ch b) s (answered s d (status 8 ch.val 0 0))) ∧
      (e.manual = true → e.state ≠ .broken → e.returned + ((me s).x b).toNat + (if e.held.isSome then 1 else 0) ≤ e.taken →
        ∃ t, Gives (.chGrant d ch b) s t ∧ t.mem = s.mem ∧ t.slot s.cur = ((me s).setX d (status 0 ch.val 0 0)).advance ∧
          (t.chan (s.cur / 4) ch.val).returned = e.returned + ((me s).x b).toNat) ∧
      (e.manual = true → e.state ≠ .broken → e.taken < e.returned + ((me s).x b).toNat + (if e.held.isSome then 1 else 0) →
        Gives (.chGrant d ch b) s (answered s d (status 7 ch.val 0 0)))) ∧
    (Ready s {} [] → Holds s ch .sender →
      (e.state ≠ .opened → Gives (.chClose ch) s (retired s id)) ∧
      (e.state = .opened → s.accessesPerformed s.cur = true → ∀ g r, e.peer = some (s.mgmt.package, g, r) → s.sameChannel e g r = true →
        (g, r) ≠ (s.cur / 4, ch.val) →
        ∃ t, Gives (.chClose ch) s t ∧ t.mem = s.mem ∧ (t.chan (s.cur / 4) ch.val).state = .closed ∧ t.slot s.cur = (me s).advance ∧
          t.agenda = s.agenda ++ [.tokenArrival g r
            { kind := .endTok, bytes := [], tail := true, chan := some (e.serial, e.chan)
              origin := some (s.sourceNo (s.cur / 4) 7, (me s).part,
                BitVec.ofNat 64 (0xFFFE * 2 ^ 48 + s.mgmt.package * 2 ^ 38 + g * 2 ^ 30 + e.qoff +
                  64 * (e.entryBeats * (e.count % (e.depth + 1)) + e.sent)))
              place := if e.lane then none else some (e.count % (e.depth + 1), e.sent) }]))
/-- WAITLT and WAITLT.X go on when the count is below the threshold and else are BLOCKED, and a threshold of 0 is an Illegal Instruction
(spec/09 R221). MSG.END in a handler takes the message in hand from the inbox: the next handler starts, or the main flow goes on (R225). MSG.SEND from the slot's own
scratchpad to a tile of this package sends the 64 bytes, and xd awaits the answer (R224). -/
def Obligations.CountersAndMessages : Prop :=
  ∀ (s : State) (d a b : Reg) (k : Fin 16) (n : Fin 32),
    let c := (s.counter (s.cur / 4) k.val).toNat
    ((me s).grant.k.getLsbD k.val = true →
      (Ready s { noHandler := true } [] → n = 0 → Gives (.waitlt k n) s (s.takeTrap s.cur 1 (s.wordAt (me s)))) ∧
      (Ready s { noHandler := true } [] → n ≠ 0 →
        (c < n.val → Gives (.waitlt k n) s (retired s id)) ∧ (n.val ≤ c → Gives (.waitlt k n) s (blockedIn s (.counter k.val n.val)))) ∧
      (Ready s { noHandler := true } [b] →
        (c < ((me s).x b).toNat → Gives (.waitltX k b) s (retired s id)) ∧
        (0 < ((me s).x b).toNat → ((me s).x b).toNat ≤ c → Gives (.waitltX k b) s (blockedIn s (.counter k.val ((me s).x b).toNat))) ∧
        ((me s).x b = 0 → Gives (.waitltX k b) s (s.takeTrap s.cur 1 (s.wordAt (me s)))))) ∧
    ((me s).grant.k.getLsbD k.val = false → Ready s {} [d] → Gives (.kRd d k) s (s.takeTrap s.cur 3 (s.wordAt (me s)))) ∧
    (Ready s {} [] →
      ((me s).inHandler = true → (me s).status.tbank = false → (me s).resume = none →
        (s.tile (s.cur / 4)).inbox.arrived ≤ (s.tile (s.cur / 4)).inbox.taken + 1 →
        ∃ t, Gives .msgEnd s t ∧ t.mem = s.mem ∧ (t.tile (s.cur / 4)).inbox.taken = (s.tile (s.cur / 4)).inbox.taken + 1 ∧
          t.slot s.cur = { me s with inHandler := false, state := .issue }) ∧
      ((me s).inHandler = false → Gives .msgEnd s (s.takeTrap s.cur 1 (s.wordAt (me s))))) ∧
    (∀ gt off, Ready s {} [a, b, d] → OwnBlock s b off → s.checkAccess s.cur .read 64 ((me s).x b) = .ok (.tile (s.cur / 4) off) →
      s.messageTarget (me s).part ((me s).x a) = true → ((me s).x a).toNat % 2 ^ 18 = s.mgmt.package * 256 + gt → gt < 256 → PortFree s true →
      s.lostDie (dieOf (s.cur / 4)) = false → (∀ r ∈ s.requests, r.src ≠ s.sourceNo (s.cur / 4) 7) →
      ∃ r, Gives (.msgSend d a b) s (accepted s r (.messageArrival gt (s.readMem (s.cur / 4 * 2 ^ 30 + off) 64) (some s.nextId))) ∧
        r.kind = .message (s.mgmt.package * 256 + gt) (s.readMem (s.cur / 4 * 2 ^ 30 + off) 64) (s.poisoned (s.cur / 4 * 2 ^ 30 + off) 64) ∧
        r.id = s.nextId ∧ r.dest = some d ∧ r.slot = s.cur)

namespace Sys2Proof.Claims

/-! ## Tasks, scopes, barriers -/

/-- An instruction of spec/10 R228 is accepted: it retires, its request is in flight, its register awaits the reply. -/
def Asks (i : Instr) (s : State) (d : Reg) (kind : ReqKind) (addr : Word) (rel : Bool) (e : Nat → Instr) : Prop :=
  ∃ r, Gives i s (accepted s r (e s.nextId)) ∧ IsRequest s r kind addr none (some d) ∧ r.acq = false ∧ r.rel = rel
/-- The record of the slot's task. -/
def myTask (s : State) : Option TaskRec := s.taskOf (me s).task
/-- The gang cycle of the slot's gang, 0 outside one. -/
def gangCycle (s : State) : Nat :=
  match s.gangOf (me s) with
  | some q => q.clock
  | none => 0
/-- X[r] is the address of a barrier word in a scratchpad of the partition on this package. -/
def BarrierAt (s : State) (r : Reg) (gt off : Nat) : Prop :=
  ((me s).x r).toNat = 0xFFFE * 2 ^ 48 + s.mgmt.package * 2 ^ 38 + gt * 2 ^ 30 + off ∧ s.mgmt.package < 1024 ∧ gt < 256 ∧
  off % 16 = 0 ∧ off < 2 ^ 22 ∧ (gt % 64 < 48 ∨ 52 ≤ gt % 64 ∧ gt % 64 < 56) ∧ (s.tile gt).part = some (me s).part

end Sys2Proof.Claims

/-- SPAWN, SPAWN.TREE, DEC, SCOPE.OPEN, SCOPE.ID, CANCEL, BAR.JOIN, BAR.ARRIVE and BAR.LEAVE send their request to the unit that owns the
record or word, and retire; what they ask is read at issue. Checks that fail at issue are traps. SPAWN_REQUEST answers the handle of the
record that it enters, and fails STALE for a task that is gone; SPAWN_TREE_DELIVERY that has visited every slot answers its three counts; a
DECREMENT_MESSAGE takes 1 from the counter of a WAITING task, which goes on waiting while it is not 0, and SUCC_FAILURE_NOTICE advances its
counter of the tile (spec/10 R228, R230 to R233, R237, R238, R247; spec/01 R23). Choices of the model that it rests on: log 2, 12, 24, 77. -/
def Obligations.TaskRequests : Prop :=
  ∀ (s : State) (d a b : Reg),
    (∀ off, Ready s { engine := true } [a, d] → OwnBlock s a off → PortFree s true → s.poisoned (s.cur / 4 * 2 ^ 30 + off) 64 = false →
      let bs := s.readMem (s.cur / 4 * 2 ^ 30 + off) 64
      (spawnReserved bs = false → fieldW bs 24 8 = 0 →
        Asks (.spawn d a) s d (.spawn bs none) (wordN (gangCycle s)) true .spawnRequest) ∧
      (spawnReserved bs = true → Gives (.spawn d a) s (s.takeTrap s.cur 1 (s.wordAt (me s)))) ∧
      (∀ o, spawnReserved bs = false → (fieldW bs 24 8).toNat = 0xFFFE * 2 ^ 48 + s.mgmt.package * 2 ^ 38 + s.cur / 4 * 2 ^ 30 + o → o % 64 = 0 →
        o + 256 ≤ 2 ^ 22 → s.poisoned (s.cur / 4 * 2 ^ 30 + o) 256 = false →
        Asks (.spawn d a) s d (.spawn bs (some (s.readMem (s.cur / 4 * 2 ^ 30 + o) 256))) (wordN (gangCycle s)) true .spawnRequest)) ∧
    (∀ q k, Ready s { engine := true } [a, b, d] → PortFree s true → s.gangOf (me s) = some q → s.slotKernel s.cur = some k →
      ((me s).x a).toNat % 4 = 0 → ((me s).x a).toNat < 4 * k.code.length →
      Asks (.spawnTree d a b) s d (.spawnTree ((me s).x a).toNat ((me s).x b) 0 0 0 (s.treeSlots q)) (wordN q.clock) true .spawnTreeDelivery) ∧
    (Ready s { engine := true } [a, b, d] → s.gangOf (me s) = none → Gives (.spawnTree d a b) s (s.takeTrap s.cur 1 (s.wordAt (me s)))) ∧
    (Ready s { engine := true } [a, d] → PortFree s true → ((me s).x a).toNat / 2 ^ 20 % 1024 = s.mgmt.package →
      Asks (.dec d a) s d (.dec ((me s).x a)) 0 true (fun id => .decrementMessage { target := (me s).x a, mark := 0, epos := 0xFF, src := s.slotSource s.cur, owner := (myTask s).map (fun r => (r.part, r.serial)), reply := some id, told := true })) ∧
    (Ready s { engine := true } [a, d] → PortFree s false →
      Asks (.scopeOpen d a) s d (.scopeOpen ((me s).x a)) 0 false .scopeRequest ∧ Asks (.scopeId d a) s d (.scopeId ((me s).x a)) 0 false .scopeRequest) ∧
    (∀ k : CTag, Ready s { engine := true } [a, b, d] → PortFree s false → (∀ n, k = some n → (me s).grant.k.getLsbD n.val = true ∧ s.counter (s.cur / 4) n.val ≠ 65535) →
      (me s).x b = 0 →
      ∃ r t, Gives (.cancel d a b k) s t ∧ t = { accepted s r (.cancelRequest s.nextId) with tiles := t.tiles } ∧
        IsRequest s r (.cancel ((me s).x a) 0 k) 0 none (some d) ∧
        ∀ n, n < 16 → t.counter (s.cur / 4) n = if k.map (·.val) = some n then s.counter (s.cur / 4) n + 1 else s.counter (s.cur / 4) n) ∧
    (∀ (q : Request) (bs : Bytes) (args : Option Bytes), s.request q.id = some q → q.kind = .spawn bs args → s.taskOf q.task = none →
      Gives (.spawnRequest q.id) s (s.answer q.id (BitVec.ofNat 64 (2 ^ 63 + 1)))) ∧
    (∀ (q : Request) (r : TaskRec) (bs : Bytes) (args : Option Bytes) (n : Node), s.request q.id = some q → q.kind = .spawn bs args →
      s.taskOf q.task = some r → (s.recordTemplate r).bind (fun t => t.nodes[field bs 0 2]?) = some n → n.spawnOnly = true → field bs 16 4 = 0 →
      s.scopeState r.scope = .active → s.reported r.scope = false → (byteAt bs 2).toNat % 2 = 0 → ∀ h s', s.addTask (q.src % 4096 / 16 / 64) (s.spawnedRecord r n bs r.scope) = some (h, s') →
      ∃ t, Gives (.spawnRequest q.id) s t ∧ (.replyArrival q.id h.toNat false) ∈ t.agenda) ∧
    (∀ (q : Request) (pc : Nat) (arg : Word) (a b c : Nat), s.request q.id = some q → q.kind = .spawnTree pc arg a b c [] →
      Gives (.spawnTreeDelivery q.id) s (s.answer q.id (BitVec.ofNat 64 (a + b * 2 ^ 16 + c * 2 ^ 32)))) ∧
    (∀ (m : Decrement) (r : TaskRec), s.taskOf m.target = some r → m.reply = none → m.owner = none → handleDie m.target < 4 → s.reachedAt ≠ s.cycle →
      s.unstarted m.target = false →       r.state = .waiting → r.count ≠ 0 → r.count ≠ 1 →
      ∃ t, Gives (.decrementMessage m) s t ∧ t.mem = s.mem ∧ t.slots = s.slots ∧ t.agenda = s.agenda ∧
        (t.record (handleDie m.target) (handleEntry m.target)).count = r.count - 1 ∧
        (t.record (handleDie m.target) (handleEntry m.target)).state = .waiting) ∧
    (∀ gt, ∃ t, Gives (.succFailureNotice gt) s t ∧ t = { s with tiles := t.tiles } ∧
      vget (t.tile gt).errors 5 = satInc (vget (s.tile gt).errors 5)) ∧
    (∀ gt off, BarrierAt s a gt off →
      (Ready s { engine := true } [a, d] → PortFree s false → Asks (.barJoin d a) s d .barJoin ((me s).x a) false .barrierRequest) ∧
      (Ready s { engine := true, noHandler := true } [a, d] → PortFree s true → Asks (.barArrive d a) s d .barArrive ((me s).x a) true .barrierRequest) ∧
      (Ready s { engine := true } [a, d] → PortFree s true → Asks (.barLeave d a) s d .barLeave ((me s).x a) true .barrierRequest) ∧
      (Ready s { engine := true, noHandler := true } [a, b, d] → s.acquirePending s.cur = false →
        Gives (.barWait d a b) s (blockedIn s (.barrier d ((me s).x a) (((me s).x b).setWidth 16)))))
/-- TASK.INS reads INSTAT. KILL.HOLD opens a region of 4,096 cycles and in an open region raises Illegal Instruction; KILL.OPEN closes it
and answers 0, after an expiry 1, and outside both raises Illegal Instruction. CANCEL.WAIT on a proper descendant is BLOCKED, on the issuer's
own scope it fails SELF. GANG.SYNC outside a gang answers 0. END is BLOCKED until the task's work is done. (spec/10 R235, R236, R239, R240,
R249.) Choices of the model that it rests on: log 2. -/
def Obligations.TaskLocal : Prop :=
  ∀ (s : State) (d a : Reg),
    (∀ r, myTask s = some r → Ready s { engine := true } [d] → Gives (.taskIns d) s (answered s d r.instat)) ∧
    (Ready s { engine := true } [] → s.inLockstep (me s) = false →
      ((me s).hold = none → Gives .killHold s ((s.setSlot s.cur { me s with hold := some (s.cycle + 4096), expired := false }.advance).post
        (.killHoldExpiry s.cur))) ∧
      ((me s).hold ≠ none → Gives .killHold s (s.takeTrap s.cur 1 (s.wordAt (me s))))) ∧
    (Ready s { engine := true } [d] →
      ((me s).hold ≠ none → Gives (.killOpen d) s (s.setSlot s.cur ({ me s with hold := none }.setX d 0).advance)) ∧
      ((me s).hold = none → (me s).expired = true → Gives (.killOpen d) s (s.setSlot s.cur ({ me s with expired := false }.setX d 1).advance)) ∧
      ((me s).hold = none → (me s).expired = false → Gives (.killOpen d) s (s.takeTrap s.cur 1 (s.wordAt (me s))))) ∧
    (∀ r k, Ready s { engine := true, noHandler := true } [a, d] → (∀ e v, (me s).wait ≠ some (.settled e v)) → myTask s = some r → (me s).x a ≠ 0 → s.scopeOf (me s).part ((me s).x a) = some k →
      (k = r.scope → Gives (.cancelWait d a) s (answered s d (BitVec.ofNat 64 (2 ^ 63 + 3)))) ∧
      (k ≠ r.scope → s.descends k r.scope = true → Gives (.cancelWait d a) s (blockedIn s (.scope d k))) ∧
      (s.descends k r.scope = false → (me s).status.super = false → Gives (.cancelWait d a) s (answered s d (BitVec.ofNat 64 (2 ^ 63 + 2))))) ∧
    (Ready s { engine := true, noHandler := true } [d] → s.accessesPerformed s.cur = true → s.acquirePending s.cur = false → (me s).gang = none →
      Gives (.gangSync d) s (answered s d 0)) ∧
    (∀ k, Ready s { engine := true, noHandler := true } [d] → s.accessesPerformed s.cur = true → s.acquirePending s.cur = false → (me s).gang = some k →
      ∃ t, Gives (.gangSync d) s t ∧ t.mem = s.mem ∧ (t.slot s.cur).state = .blocked ∧ (t.slot s.cur).wait = some (.gang d ((me s).gangSyncs + 1)) ∧
        (t.slot s.cur).gangSyncs = (me s).gangSyncs + 1 ∧ (t.slot s.cur).main = (me s).main) ∧
    (Ready s { engine := true, noHandler := true } [a] →
      Gives (.endTask a) s (let u : Slot :=
          { me s with hold := none, expired := false, state := .blocked, wait := some (.ending (((me s).x a).setWidth 8)), waitSerial := (me s).waitSerial + 1 }
        let s' := s.setSlot s.cur u
        { s' with agenda := s.agenda ++ [.waitComplete s.cur] }))
/-- WAIT_COMPLETE ends a wait whose condition is met: the slot is ISSUE (HANDLER in a handler), its instruction has retired, and its
register has its value; one whose condition is not met goes on (spec/02 R35, Table 2.7; spec/09 R221; spec/10 R239, R247). A member of a
lockstep gang that was late goes back to ISSUE at the same instruction, which it issues with its gang (spec/02 R46, R47). END_COMMIT of a
task whose work is done ends it: its slot holds no task any more (spec/10 R235). Choices of the model that it rests on: log 2, 62. -/
def Obligations.WaitsEnd : Prop :=
  (∀ (s : State) (g k n : Nat), (s.slot g).state = .blocked → (s.slot g).wait = some (.counter k n) → (s.slot g).freeze = none →
    (s.slot g).killNotice = false → s.inLockstep (s.slot g) = true → s.issuing = false → (s.counter (g / 4) k).toNat < n →
    Gives (.waitComplete g) s (s.setSlot g { s.slot g with state := (s.slot g).active, wait := none })) ∧
  (∀ (s : State) (g : Nat) (status : Byte) (r : TaskRec), (s.slot g).state = .blocked → (s.slot g).wait = some (.ending status) →
    (s.slot g).freeze = none → s.taskOf (s.slot g).task = some r → s.scopeState r.scope = .active → s.workDone g = true → (s.slot g).gang = none →
    ∃ t, Gives (.endCommit g) s t ∧ (t.slot g).task = 0 ∧ (t.slot g).state = .empty) ∧
  ∀ (s : State) (g : Nat) (w : Wait), (s.slot g).state = .blocked → (s.slot g).wait = some w → (s.slot g).freeze = none → (s.slot g).killNotice = false →
    (s.inLockstep (s.slot g) = true → s.issuing = true ∨ w.holdsIssue = false) →
    let on := fun (f : Slot → Slot) => s.setSlot g { (f (s.slot g)).advance with state := (s.slot g).active, wait := none }
    (∀ k n, w = .counter k n → ((s.counter (g / 4) k).toNat < n → Gives (.waitComplete g) s (on id)) ∧
      (n ≤ (s.counter (g / 4) k).toNat → s.messageWaits g = false → Gives (.waitComplete g) s (s.defer (.waitComplete g)))) ∧
    (∀ d v, w = .settled d v → Gives (.waitComplete g) s (on (fun t => t.setX d v))) ∧
    (∀ d addr p k, w = .barrier d addr p → s.barrierKey addr = some k → s.poisoned k 16 = false →
      let b := BarrierWord.ofBytes (s.readMem k 16)
      (b.valid (s.slot g).levels = true → BitVec.ofNat 16 b.phase ≠ p → Gives (.waitComplete g) s (on (fun t => t.setX d (BitVec.ofNat 64 b.lastKilled)))) ∧
      (b.valid (s.slot g).levels = true → BitVec.ofNat 16 b.phase = p → s.messageWaits g = false →
        Gives (.waitComplete g) s (s.defer (.waitComplete g))) ∧
      (b.valid (s.slot g).levels = false → Gives (.waitComplete g) s (on (fun t => t.setX d (BitVec.ofNat 64 (2 ^ 63 + 15)))))) ∧
    (∀ d key r, w = .scope d key → s.scope key = some r → (r.state = .closed → Gives (.waitComplete g) s (on (fun t => t.setX d 1))) ∧
      (r.state = .cancelled → Gives (.waitComplete g) s (on (fun t => t.setX d (BitVec.ofNat 64 (2 + 256 * r.cause)))))) ∧
    (w = .tlb [] → Gives (.waitComplete g) s (on id)) ∧
    (∀ n, w = .idle n → n < (s.tile (g / 4)).inbox.msgEnds → Gives (.waitComplete g) s (on id)) ∧
    (∀ d c tok, w = .send d c tok → tok.tail = true → tok.bytes.length = 64 → (s.chan (g / 4) c).state = .opened → (s.chan (g / 4) c).frozen = false →
      0 < (s.chan (g / 4) c).allowance → s.accessesPerformed g = true → (s.chan (g / 4) c).peer ≠ none → s.tokenRoom (g / 4) (s.chan (g / 4) c) = true →
      ∃ t, Gives (.waitComplete g) s t ∧ t.mem = s.mem ∧ (t.slot g).state = (s.slot g).active ∧ (t.slot g).wait = none ∧
        (t.chan (g / 4) c).allowance = (s.chan (g / 4) c).allowance - 1 ∧ (t.chan (g / 4) c).count = (s.chan (g / 4) c).count + 1 ∧
        (t.slot g).flow.get d = if d = 0 then 0 else status 0 c 1 0)
/-- BARRIER_REQUEST on a word of this module: BAR.JOIN records a membership and leaves the word, BAR.ARRIVE adds 1 to ARRIVED, and BAR.LEAVE
arrives if the member has not and adds 1 to DEPART, while no request of the slot on a word of another module is on its way. When ARRIVED
reaches EXPECT the phase trips (spec/10 R246, R247). Choices of the model that it rests on: log 2, 17, 30. -/
def Obligations.BarrierWords : Prop :=
  ∀ (s : State) (q : Request) (k : Nat), Memory.wf s.mem → s.request q.id = some q → s.barrierKey q.addr = some k → s.poisoned k 16 = false →
    (∀ r ∈ s.requests, r.slot = q.slot → r.remote = true → r.kind.onBarrier = false) →
    s.served q.part (q.src % 4096 / 16) (.tile (k / 2 ^ 30) (k % 2 ^ 30)) = true →
    s.barred q.part (q.src % 4096 / 16) (.tile (k / 2 ^ 30) (k % 2 ^ 30)) = false →
    let w := BarrierWord.ofBytes (s.readMem k 16)
    let t := s.slot q.slot
    let step := fun (arrived departed : Nat) =>
      if w.expect ≤ w.arrived + arrived then
        { w with expect := (w.expect + 65536 - (w.depart + departed)) % 65536, arrived := 0, depart := 0, killed := 0, lastKilled := w.killed
                 phase := (w.phase + 1) % 65536 }
      else { w with arrived := w.arrived + arrived, depart := w.depart + departed }
    w.valid t.levels = true → w.arrived < 65535 → w.depart < 65535 →
    (q.kind = .barJoin → t.memberships.length < 4 → (∀ m ∈ t.memberships, m.addr ≠ q.addr) →
      ∃ u, Gives (.barrierRequest q.id) s u ∧ u.mem = s.mem ∧ u.agenda = s.agenda ++ [.replyArrival q.id (BitVec.ofNat 64 w.phase).toNat false] ∧
        (u.slot q.slot).memberships = t.memberships ++ [{ addr := q.addr, arrived := none }]) ∧
    (∀ m, t.memberships.find? (fun m => m.addr == q.addr) = some m → m.arrived ≠ some (BitVec.ofNat 16 w.phase) →
      (q.kind = .barArrive →
        ∃ u, Gives (.barrierRequest q.id) s u ∧ BarrierWord.ofBytes (u.readMem k 16) = step 1 0 ∧
          u.agenda = s.agenda ++ [.replyArrival q.id (BitVec.ofNat 64 w.phase).toNat false] ∧
          (∀ j, j < k ∨ k + 16 ≤ j → Memory.at_ u.mem j = Memory.at_ s.mem j)) ∧
      (q.kind = .barLeave →
        ∃ u, Gives (.barrierRequest q.id) s u ∧ BarrierWord.ofBytes (u.readMem k 16) = step 1 1 ∧
          u.agenda = s.agenda ++ [.replyArrival q.id 0 false] ∧ (∀ n ∈ (u.slot q.slot).memberships, n.addr ≠ q.addr))) ∧
    (∀ m, t.memberships.find? (fun m => m.addr == q.addr) = some m → m.arrived = some (BitVec.ofNat 16 w.phase) → q.kind = .barArrive →
      ∃ u, Gives (.barrierRequest q.id) s u ∧ u.mem = s.mem ∧ u.agenda = s.agenda ++ [.replyArrival q.id (BitVec.ofNat 64 (2 ^ 63 + 13)).toNat false]) ∧
    (t.memberships.find? (fun m => m.addr == q.addr) = none → (q.kind = .barArrive ∨ q.kind = .barLeave) →
      ∃ u, Gives (.barrierRequest q.id) s u ∧ u.mem = s.mem ∧ u.agenda = s.agenda ++ [.replyArrival q.id (BitVec.ofNat 64 (2 ^ 63 + 12)).toNat false])
/-- The records of tasks. A DECREMENT_MESSAGE takes 1 from the counter of its target, records its mark, and posts the task READY when a
WAITING task's counter reaches 0; an ENDED or DEAD target fails ABSORBED, and a counter of 0 UNDERFLOW (spec/01 R23; spec/10 R233, R236).
END_COMMIT of a task whose work is done ends it and empties its slot (R235); KILL at a kill point makes the task DEAD: its slot holds no
task, and is EMPTY once the task's accesses, requests and engine operations have settled (R241). SPAWN_REQUEST for a node that is not SPAWNONLY fails BADNODE, and otherwise enters the record and replies its
handle (R230). SPAWN_TREE_DELIVERY that has visited every slot replies its counts, and counts a slot that holds a task as busy (R232).
SUCC_FAILURE_NOTICE is counted (R231). Choices of the model that it rests on: log 2, 16, 68, 77. -/
def Obligations.TaskRecords : Prop :=
  ∀ (s : State),
    (∀ (m : Decrement) (r : TaskRec) (id : Nat), s.taskOf m.target = some r → m.reply = some id → m.owner = some (r.part, r.serial) → m.mark = 0 →
      m.told = true → handleDie m.target < 4 → (∃ q, s.request id = some q) → (s.reachedAt = s.cycle → ∀ q ∈ s.reached, q.2.2 ≤ m.src) →
      s.unstarted m.target = false →
      (r.state ≠ .ended → r.state ≠ .dead → r.count ≠ 0 →
        ∃ t, Gives (.decrementMessage m) s t ∧ t.mem = s.mem ∧ t.slots = s.slots ∧
          (t.record (handleDie m.target) (handleEntry m.target)).count = r.count - 1 ∧
          (t.record (handleDie m.target) (handleEntry m.target)).instat = r.instat ∧
          (t.record (handleDie m.target) (handleEntry m.target)).state = (if r.count = 1 ∧ r.state = .waiting then .ready else r.state) ∧
          (.replyArrival id 0 false) ∈ t.agenda) ∧
      (r.state = .ended ∨ r.state = .dead → ∃ t, Gives (.decrementMessage m) s t ∧ t.dies = s.dies ∧ (.replyArrival id (BitVec.ofNat 64 (2 ^ 63 + 9)).toNat false) ∈ t.agenda) ∧
      (r.state ≠ .ended → r.state ≠ .dead → r.count = 0 →
        ∃ t, Gives (.decrementMessage m) s t ∧ (.replyArrival id (BitVec.ofNat 64 (2 ^ 63 + 10)).toNat false) ∈ t.agenda)) ∧
    (∀ (g : Nat) (status : Byte) (r : TaskRec), (s.slot g).state = .blocked → (s.slot g).wait = some (.ending status) → s.taskOf (s.slot g).task = some r →
      (s.slot g).freeze = none → s.scopeState r.scope = .active → s.workDone g = true → (s.slot g).gang = none → handleDie (s.slot g).task < 4 →
      r.state = .running →
      ∃ t, Gives (.endCommit g) s t ∧ (t.slot g).state = .empty ∧ (t.slot g).task = 0 ∧ (t.slot g).grant = Grant.none ∧ t.taskOf (s.slot g).task ≠ some r) ∧
    (∀ (g : Nat) (r : TaskRec), (s.slot g).task ≠ 0 → s.taskOf (s.slot g).task = some r → (s.slot g).killNotice = true → (s.slot g).hold = none →
      (s.slot g).state ≠ .saving → (s.slot g).settling = false → (s.slot g).gang = none → handleDie (s.slot g).task < 4 → r.state = .running → g < 1024 →
      ∃ t, Gives (.kill g) s t ∧ (t.slot g).task = 0 ∧ t.taskOf (s.slot g).task ≠ some r ∧
        ((∀ q ∈ s.requests, q.slot ≠ g) → (∀ e ∈ (s.slot g).vq, e.op ≠ .st ∧ e.op ≠ .sts) →
          (∀ n, n < 8 → ∀ c ∈ (vget (s.tile (g / 4)).gens n).queue, c.slot ≠ g) → (t.slot g).state = .empty)) ∧
    (∀ g, (s.slot g).settling = true → (s.slot g).gang = none →
      (s.effectsSettled g = true → ∃ t, Gives (.kill g) s t ∧ (t.slot g).state = .empty ∧ (t.slot g).task = 0 ∧ (t.slot g).grant = Grant.none) ∧
      (s.effectsSettled g = false → (∀ q ∈ s.requests, q.toHost = false) → Gives (.kill g) s (s.defer (.kill g)))) ∧
    (∀ (q : Request) (bs : Bytes) (args : Option Bytes) (r : TaskRec), s.request q.id = some q → q.kind = .spawn bs args → s.taskOf q.task = some r →
      ((∀ n, (s.recordTemplate r).bind (fun t => t.nodes[field bs 0 2]?) = some n → n.spawnOnly = false) →
        ∃ t, Gives (.spawnRequest q.id) s t ∧ t.dies = s.dies ∧ t.agenda = s.agenda ++ [.replyArrival q.id (BitVec.ofNat 64 (2 ^ 63 + 7)).toNat false]) ∧
      (∀ n h s', (s.recordTemplate r).bind (fun t => t.nodes[field bs 0 2]?) = some n → n.spawnOnly = true → field bs 16 4 = 0 →
        s.scopeState r.scope = .active → s.reported r.scope = false → (byteAt bs 2).toNat % 2 = 0 →
        s.addTask (q.src % 4096 / 16 / 64) (s.spawnedRecord r n bs r.scope) = some (h, s') →
        ∃ t, Gives (.spawnRequest q.id) s t ∧ (.replyArrival q.id h.toNat false) ∈ t.agenda)) ∧
    (∀ (q : Request) (pc : Nat) (arg : Word) (a b c : Nat) (left : List Nat), s.request q.id = some q → q.kind = .spawnTree pc arg a b c left →
      (left = [] → ∃ t, Gives (.spawnTreeDelivery q.id) s t ∧ t.dies = s.dies ∧
        t.agenda = s.agenda ++ [.replyArrival q.id (BitVec.ofNat 64 (a + b * 2 ^ 16 + c * 2 ^ 32)).toNat false]) ∧
      (∀ r k g more kern n gang, left = g :: more → s.taskOf q.task = some r → r.gang = some k → s.kernelRec r = some kern → s.nodeOf r = some n →
        Assoc.find s.gangs k = some gang → (s.slot g).task ≠ 0 →
        ∃ t, Gives (.spawnTreeDelivery q.id) s t ∧ t.dies = s.dies ∧ t.agenda = s.agenda ++ [.spawnTreeDelivery q.id] ∧
          (t.request q.id).map (·.kind) = some (.spawnTree pc arg a (b + 1) c more))) ∧
    (∀ gt, Gives (.succFailureNotice gt) s (s.countTile gt 5))
/-- The records of scopes. CANCEL_REQUEST on an ACTIVE scope that the issuer may name makes it and every ACTIVE descendant CANCELLING at one
point and replies 0; on one that is CANCELLING, 1 (spec/02 R34; spec/10 R238). CANCEL_BROADCAST gives the news to the slot of a task of a
CANCELLING scope. KILL_HOLD_EXPIRY closes a region when its time has come, and not before (R240). SCOPE_CLOSE closes a sealed and empty
ACTIVE scope (spec/02 R33), and ACK_DELIVERY makes a drained CANCELLING scope CANCELLED (R245). KILL carries the news out: the slot
holds the task no more (R241). SCOPE_REQUEST of SCOPE.ID with 0 replies the
handle of the issuer's own scope, and SCOPE.OPEN under a scope that is CLOSED or at depth 32 fails (R237). Choices of the model that it rests on: log 2, 16, 76, 77. -/
def Obligations.Scopes : Prop :=
  ∀ (s : State),
    (∀ (q : Request) (h addr : Word) (k : KTag) (key : Nat) (r : ScopeRec), s.request q.id = some q → q.kind = .cancel h addr k → h ≠ 0 →
      s.scopeOf q.part h = some key → s.descends key q.scope = true → s.scope key = some r → r.home = none →
      (r.state = .active →
        ∃ t, Gives (.cancelRequest q.id) s t ∧ t.mem = s.mem ∧ t.slots = s.slots ∧ (.replyArrival q.id 0 false) ∈ t.agenda ∧
          (∀ j, s.scopeState j = .active → t.scopeState j = (if s.descends j key then .cancelling else .active)) ∧
          (t.scope key).map (·.owner) = some key) ∧
      (r.state = .cancelling →
        ∃ t, Gives (.cancelRequest q.id) s t ∧ t.agenda = s.agenda ++ [.replyArrival q.id 1 false] ∧ ∀ j, t.scopeState j = s.scopeState j)) ∧
    (∀ (die entry : Nat) (r : TaskRec) (g : Nat), s.taskOf (s.handleOf die entry) = some r → s.scopeState r.scope = .cancelling → r.state = .running →
      r.loc = some g → Gives (.cancelBroadcast die entry) s ((s.setSlot g { s.slot g with killNotice := true }).post (.kill g))) ∧
    (∀ (g : Nat) (r : TaskRec), (s.slot g).task ≠ 0 → s.taskOf (s.slot g).task = some r → (s.slot g).killNotice = true → (s.slot g).hold = none →
      (s.slot g).state ≠ .saving → (s.slot g).settling = false → (s.slot g).gang = none → ∃ t, Gives (.kill g) s t ∧ (t.slot g).task = 0) ∧
    (∀ (g c : Nat), (s.slot g).hold = some c → s.inLockstep (s.slot g) = false →
      (s.cycle < c → Gives (.killHoldExpiry g) s (s.defer (.killHoldExpiry g))) ∧
      (c ≤ s.cycle → (s.slot g).killNotice = false →
        Gives (.killHoldExpiry g) s (s.setSlot g { s.slot g with hold := none, expired := true })) ∧
      (c ≤ s.cycle → (s.slot g).killNotice = true →
        Gives (.killHoldExpiry g) s ((s.setSlot g { s.slot g with hold := none, expired := true, forced := true }).post (.kill g)))) ∧
    (∀ (key : Nat) (r : ScopeRec), s.scope key = some r → (∀ e ∈ s.scopes, e.1 = key → e.2 = r) → r.state = .active →
      (r.sealed_ = true → s.settledScope key = true → (∀ q ∈ s.requests, q.scope ≠ key) → r.home = none → r.awaits = [] →
        ∃ t, Gives (.scopeClose key) s t ∧ t.scopeState key = .closed ∧ t.mem = s.mem) ∧
      (r.sealed_ = false ∨ s.settledScope key = false → Gives (.scopeClose key) s s)) ∧
    (∀ (key : Nat) (r : ScopeRec), s.scope key = some r → r.state = .cancelling → r.owner = key → r.acks = [] → r.cause = 1 → r.parent = none → r.home = none →
      (∀ e ∈ s.scopes, e.2.owner = key → e.1 = key) → (∀ e ∈ s.scopes, e.1 = key → e.2 = r) → s.owed = [] →
      (s.drained key = true → ∃ t, Gives (.ackDelivery key) s t ∧ t.scopeState key = .cancelled) ∧
      (s.drained key = false → (.ackDelivery key) ∉ s.deferred → (∀ q ∈ s.requests, q.toHost = false) → Gives (.ackDelivery key) s (s.defer (.ackDelivery key)))) ∧
    (∀ (q : Request) (r : ScopeRec), s.request q.id = some q → s.scope q.scope = some r →
      (q.kind = .scopeId 0 → ∃ t, Gives (.scopeRequest q.id) s t ∧ t.scopes = s.scopes ∧
        t.agenda = s.agenda ++ [.replyArrival q.id (BitVec.ofNat 64 (r.gen.toNat * 2 ^ 20 + q.scope % 2 ^ 20)).toNat false]) ∧
      (q.kind = .scopeOpen 0 → r.state = .closed → ∃ t, Gives (.scopeRequest q.id) s t ∧ t.scopes = s.scopes ∧
        t.agenda = s.agenda ++ [.replyArrival q.id (BitVec.ofNat 64 (2 ^ 63 + 6)).toNat false]) ∧
      (q.kind = .scopeOpen 0 → r.state = .active → r.told = false → 32 ≤ r.depth → ∃ t, Gives (.scopeRequest q.id) s t ∧ t.scopes = s.scopes ∧
        t.agenda = s.agenda ++ [.replyArrival q.id (BitVec.ofNat 64 (2 ^ 63 + 5)).toNat false]))

namespace Sys2Proof.Claims

/-! ## The select unit -/

/-- X[r] is the address of `n` bytes, aligned to 64, in the scratchpad of the slot's own tile. -/
def OwnBytes (s : State) (r : Reg) (n : Nat) : Prop :=
  ∃ off, ((me s).x r).toNat = 0xFFFE * 2 ^ 48 + s.mgmt.package * 2 ^ 38 + s.cur / 4 * 2 ^ 30 + off ∧ s.mgmt.package < 1024 ∧ s.cur < 1024 ∧
    off % 64 = 0 ∧ off + n ≤ 2 ^ 22
/-- A select instruction that becomes an entry: registers named, the entry's operation, destination, two sources and count. -/
def selRow (i : Instr) : Option (List Reg × SelOp × Reg × Reg × Reg × Nat) :=
  match i with
  | .selCfg a => some ([a], .cfg, 0, a, 0, 0)
  | .selMask a => some ([a], .mask, 0, a, 0, 0)
  | .selDead a b => some ([a, b], .dead, 0, a, b, 0)
  | .topk d a b k => some ([a, b, d], .topk, d, a, b, k.val + 1)
  | .topkMore d a b k => some ([a, b, d], .topkMore, d, a, b, k.val + 1)
  | .selRes d a => some ([a, d], .res, d, a, 0, 0)
  | _ => none
/-- The register operands of a select instruction have no reserved bit or value; a ranking has experts (spec/10 R250, R251, R253). -/
def SelWord (t : Slot) (op : SelOp) (a : Reg) : Prop :=
  match op with
  | .cfg => t.x a &&& 0xFFFFFFFFE0F0F800 = 0 ∧ (t.x a).toNat % 2048 ≤ 1024 ∧ (t.x a).toNat / 2 ^ 16 % 16 ≤ 10 ∧ (t.x a).toNat / 2 ^ 24 % 32 ≤ 16
  | .mask => True
  | .dead => (t.x a).toNat < 1024
  | .res => t.x a &&& ~~~0x303FF = 0
  | .topk | .topkMore => t.sel.issued.toNat % 2048 ≠ 0
/-- Its operands in memory lie in its tile. -/
def SelMem (s : State) (op : SelOp) (a b : Reg) (k : Nat) : Prop :=
  match op with
  | .mask => OwnBytes s a 128 ∧ s.acquirePending s.cur = false
  | .topk | .topkMore => OwnBytes s a (4 * ((me s).sel.issued.toNat % 2048)) ∧ OwnBytes s b (8 * k) ∧ s.acquirePending s.cur = false
  | _ => True
/-- The entry that occupies the select unit of a tile can complete. -/
def SelOccupies (s : State) (gt g : Nat) (e : SelEntry) : Prop :=
  (s.tile gt).sel.busy = some (g, e.serial) ∧ s.enginesHold g = false ∧ gt = g / 4 ∧
  (s.slot g).sbound.find? (fun p => p.serial == e.serial) = some e

end Sys2Proof.Claims

/-- A select instruction whose checks pass becomes an entry of its slot's queue and retires; SEL.CFG also becomes the configuration last
issued. A full queue makes it wait. A reserved operand, or a ranking of no experts, raises Illegal Instruction. SEL.WAIT retires when no
entry of the slot is left. The free unit takes the one head that its tile has, is free again when the entry is complete, and a residency record
replaces its entry (spec/10 R250 to R253). Choices of the model that it rests on: log 2. -/
def Obligations.SelectIssue : Prop :=
  ∀ (s : State) (i : Instr),
    (∀ rs op d a b k, selRow i = some (rs, op, d, a, b, k) → Ready s { engine := true, stile := true } rs →
      (SelWord (me s) op a → SelMem s op a b k → (me s).sq.length < 4 →
        Gives i s (let e : SelEntry :=
            { op := op, bank := (me s).bank, d := d, xa := (me s).x a, xb := (me s).x b, k := k, data := [], serial := (me s).entrySerial }
          { retired s (fun t => { t with
              sq := t.sq ++ [e], entrySerial := t.entrySerial + 1
              sel := if op = SelOp.cfg then { t.sel with issued := t.x a } else t.sel }) with
            agenda := s.agenda ++ [.selectEntryBind s.cur] })) ∧
      (SelWord (me s) op a → SelMem s op a b k → 4 ≤ (me s).sq.length → Gives i s { s with stalled := true }) ∧
      (¬SelWord (me s) op a → Gives i s (s.takeTrap s.cur 1 (s.wordAt (me s))))) ∧
    (Ready s { engine := true, stile := true } [] →
      ((me s).sq = [] ∧ (me s).sbound = [] → Gives .selWait s (retired s id)) ∧
      (¬((me s).sq = [] ∧ (me s).sbound = []) → Gives .selWait s { s with stalled := true })) ∧
    (∀ (g : Nat) (e : SelEntry) (rest : List SelEntry), (s.slot g).sq = e :: rest → (s.tile (g / 4)).sel.busy = none → s.enginesHold g = false →
      (s.slot g).heldBy = none → (∀ k, k < 4 → k ≠ g % 4 → (s.slot (g / 4 * 4 + k)).sq = []) → e.op = .cfg ∨ e.op = .dead ∨ e.op = .res →
      ∃ t, Gives (.selectEntryBind g) s t ∧ (t.tile (g / 4)).sel.busy = some (g, e.serial) ∧ (t.slot g).sq = rest ∧ t.mem = s.mem) ∧
    (∀ (g gt : Nat) (e : SelEntry), SelOccupies s gt g e →
      ∃ t, Gives (.selectEntryComplete gt) s t ∧ (t.tile gt).sel.busy = none ∧ ∀ h, h ≠ g → t.slot h = s.slot h) ∧
    (∀ (gt n : Nat) (w0 w1 : Word), n < 1024 → isSTile gt = true → s.lostDie (dieOf gt) = false →
      ∃ t, Gives (.residencyRecord gt n w0 w1 none) s t ∧ Assoc.get (0, 0) (t.tile gt).residency n = (w0, w1) ∧ t.mem = s.mem ∧ t.slots = s.slots)
/-- SELECT_ENTRY_BIND: the one head of its tile that the free unit can take is bound, its scores or mask are read, and its cost goes to the
task's measure. SELECT_ENTRY_COMPLETE then leaves the unit free, the entry gone from its slot, and what the entry does done: the
configuration and an empty tournament, the mask, one bit of it, a residency entry read and perhaps made invalid, or a ranking: its
results written at X[b] with padding, their number in xd, SHORT when they are fewer than k. RESIDENCY_RECORD replaces its
entry (spec/10 R250 to R253). -/
def Sys2Proof.Claims.SelectEntries : Prop :=
  ∀ (s : State) (g gt : Nat) (e : SelEntry), gt = g / 4 →
    (∀ rest, (s.slot g).sq = e :: rest → (s.tile gt).sel.busy = none → s.enginesHold g = false → (s.slot g).heldBy = none → e.cost ≤ 256 →
      (∀ k, k < 4 → k ≠ g % 4 → (s.slot (gt * 4 + k)).sq = []) → s.lostDie (dieOf gt) = false →
      let c := (s.slot g).sel.cfg
      let len := if e.op = .mask then 128 else if e.op = .topk ∨ e.op = .topkMore then 4 * (c.toNat % 2048) else 0
      let read := s.readMem (gt * 2 ^ 30 + e.xa.toNat % 2 ^ 30) len
      (e.op = .mask ∨ e.op = .topk ∨ e.op = .topkMore → s.poisoned (gt * 2 ^ 30 + e.xa.toNat % 2 ^ 30) len = false) →
      ∃ t, Gives (.selectEntryBind g) s t ∧
        t = { s with slots := t.slots, tiles := t.tiles, agenda := s.agenda ++ [.selectEntryComplete gt] } ∧
        t.slot g = { s.slot g with sq := rest, sbound := (s.slot g).sbound ++ [{ e with data := read }], usel := (s.slot g).usel + wordN e.cost } ∧
        (t.tile gt).sel.busy = some (g, e.serial) ∧ (∀ h, h ≠ g → t.slot h = s.slot h) ∧ (∀ h, h ≠ gt → t.tile h = s.tile h)) ∧
    (SelOccupies s gt g e → s.lostDie (dieOf gt) = false →
      ∃ t, Gives (.selectEntryComplete gt) s t ∧ (t.tile gt).sel.busy = none ∧ (∀ h, h ≠ g → t.slot h = s.slot h) ∧
        (t.slot g).sbound = (s.slot g).sbound.filter (fun p => p.serial != e.serial) ∧ (e.op ≠ .topk → e.op ≠ .topkMore → t.mem = s.mem) ∧
        (e.op = .cfg → (t.slot g).sel = { (s.slot g).sel with cfg := e.xa, win := 0, grp := 0 }) ∧
        (e.op = .mask → (t.slot g).sel = { (s.slot g).sel with dead := BitVec.ofNat 1024 (ofBytes e.data) }) ∧
        (e.op = .dead → ∀ n, n < 1024 → (t.slot g).sel.dead.getLsbD n =
          if n = e.xa.toNat % 1024 then e.xb.getLsbD 0 else (s.slot g).sel.dead.getLsbD n) ∧
        (e.op = .res → let row := Assoc.get (0, 0) (s.tile gt).residency (e.xa.toNat % 1024)
          ((t.slot g).flowOf e.bank).get e.d = (if e.d = 0 then 0 else if e.xa.getLsbD 16 then row.2 else row.1) ∧
          Assoc.get (0, 0) (t.tile gt).residency (e.xa.toNat % 1024) = (if e.xa.getLsbD 17 then (row.1 &&& 0x7FFFFFFFFFFFFFFF, row.2) else row)) ∧
        (e.op = .topk ∨ e.op = .topkMore →
          let c := (s.slot g).sel
          let r := Ranking.run c.cfg c.dead e.data e.k
            { win := if e.op = .topk then 0 else c.win, grp := if e.op = .topk then 0 else c.grp, out := [] }
          t.mem = Memory.write s.mem (gt * 2 ^ 30 + e.xb.toNat % 2 ^ 30)
            ((r.out ++ List.replicate (e.k - r.out.length) (0xFF8000000000FFFF : Word)).flatMap (fun v => toBytes 8 v.toNat)) ∧
          ((t.slot g).flowOf e.bank).get e.d = (if e.d = 0 then 0 else wordN r.out.length) ∧
          (t.slot g).flags = (s.slot g).flags ||| (if r.out.length < e.k then 64 else 0) ∧
          (t.slot g).sel = { c with win := r.win, grp := r.grp })) ∧
    (∀ (n : Nat) (w0 w1 : Word), n < 1024 → isSTile gt = true → s.lostDie (dieOf gt) = false →
      Gives (.residencyRecord gt n w0 w1 none) s (s.setTile gt { s.tile gt with residency := Assoc.set (s.tile gt).residency n (w0, w1) }))
/-- The winner of a ranking step is an eligible expert: below E, not masked, not a NaN, not a winner before, and of a group already chosen
or within the limit; no eligible expert has a larger score, and on a tie none is lower. There is one whenever some expert is eligible. Its index, its score and its group
are recorded (spec/10 R251). -/
def Sys2Proof.Claims.RankingStep : Prop :=
  ∀ (cfg : Word) (dead : BitVec 1024) (data : Bytes) (r : Ranking) (n : Nat),
    let e := cfg.toNat % 2048
    let gs := 2 ^ (cfg.toNat / 2 ^ 16 % 16)
    let gl := cfg.toNat / 2 ^ 24 % 32
    let num := fun (v : Nat) => decode32 (BitVec.ofNat 32 (field data (4 * v) 4))
    let fit := fun (v : Nat) => v < e ∧ dead.getLsbD v = false ∧ (num v).isNaN = false ∧ r.win.getLsbD v = false ∧
      (gl = 0 ∨ r.grp.getLsbD (v / gs) = true ∨ popN 1024 r.grp.toNat < gl)
    (∀ w, r.best cfg dead data = some w → fit w ∧
      ∀ v, fit v → ltNum (num w) (num v) = false ∧ (v < w → ltNum (num v) (num w) = true)) ∧
    (∀ v, fit v → r.best cfg dead data ≠ none) ∧
    (r.best cfg dead data = none → Ranking.run cfg dead data (n + 1) r = r) ∧
    (∀ w, r.best cfg dead data = some w → Ranking.run cfg dead data 1 r =
      { win := setBit r.win w true, grp := setBit r.grp (w / gs) true
        out := r.out ++ [wordN (w + 2 ^ 32 * (field data (4 * w) 4 % 2 ^ 32))] })
/-- Select entries run, and the ranking of TOPK (spec/10 R251 to R254). Choices of the model that it rests on: log 2, 63. -/
def Obligations.SelectRuns : Prop := Sys2Proof.Claims.SelectEntries ∧ Sys2Proof.Claims.RankingStep

namespace Sys2Proof.Claims

/-! ## System registers -/

/-- The value of a system register or special register (spec/13 Table 13.1; spec/05 Table 5.4). -/
def csrValue (s : State) (n : Nat) : Option Word :=
  let t := me s
  let p := s.part t.part
  match n with
  | 0x100 => some t.status.word
  | 0x101 => some t.epc
  | 0x102 => some (t.ecause.setWidth 64)
  | 0x103 => some t.etval
  | 0x104 => some t.tscratch
  | 0x105 => some t.task
  | 0x108 => some t.umat
  | 0x109 => some t.uvec
  | 0x10A => some t.usel
  | 0x180 => some p.trapdel
  | 0x181 => some p.traptile
  | 0x182 => some p.tlogbase
  | 0x183 => some p.tlogsize
  | 0x184 => some p.tloghead
  | 0x185 => some p.tlogtail
  | 0x186 => some p.tloglost
  | 0x187 => some p.savebase
  | 0x188 => some p.savesize
  | 0x189 => some p.pqlimit
  | 0x18A => some p.partinfo
  | _ =>
    if 0x200 ≤ n ∧ n < 0x260 then
      (let d := vget p.atomfn ((n - 0x200) / 2)
       some (if n % 2 = 1 then (d >>> 64).setWidth 64 else d.setWidth 64))
    else srValue s n
/-- A value that a writable system register takes: no reserved bit or value (spec/13 Tables 13.1 to 13.4). -/
def CsrFine (n : Nat) (v : Word) : Prop :=
  match n with
  | 0x101 => v &&& ~~~0xFFFF = 0
  | 0x104 | 0x185 | 0x186 => True
  | 0x180 => v &&& ~~~0xFFFFFFC = 0 ∧ ∀ i, 1 ≤ i → i ≤ 13 → v.toNat / 2 ^ (2 * i) % 4 ≠ 3
  | 0x181 => v &&& ~~~0x800000000003FFFF = 0
  | 0x182 => v &&& ~~~0x00FFFFFFFFFFF000 = 0
  | 0x183 => ∃ k, 6 ≤ k ∧ k ≤ 16 ∧ v.toNat = 2 ^ k
  | 0x187 => v &&& ~~~0x00FFFFFFFFFF0000 = 0
  | 0x188 => v &&& 0xFFFF = 0
  | 0x189 => 1024 ≤ v.toNat ∧ v.toNat ≤ 2 ^ 20
  | _ => False
/-- The state after a write of a writable system register. -/
def csrWrite (s : State) (n : Nat) (v : Word) : State :=
  let t := me s
  let p := s.part t.part
  let withPart := fun (q : Partition) => { s with parts := vset s.parts t.part q }
  match n with
  | 0x101 => s.setSlot s.cur { t with epc := v }
  | 0x104 => s.setSlot s.cur { t with tscratch := v }
  | 0x180 => withPart { p with trapdel := v }
  | 0x181 => withPart { p with traptile := v }
  | 0x182 => withPart { p with tlogbase := v }
  | 0x183 => withPart { p with tlogsize := v }
  | 0x185 => withPart { p with tlogtail := v }
  | 0x186 => withPart { p with tloglost := v }
  | 0x187 => withPart { p with savebase := v }
  | 0x188 => withPart { p with savesize := v }
  | 0x189 => withPart { p with pqlimit := v }
  | _ => s
/-- What CSRRW, CSRRS and CSRRC write: register number, destination, source, new value from the old (spec/13 R269). -/
def csrForm (i : Instr) (t : Slot) (old : Word) : Option (Nat × Reg × Reg × Word) :=
  match i with
  | .csrrw d a n => some (n.toNat, d, a, t.x a)
  | .csrrs d a n => some (n.toNat, d, a, old ||| t.x a)
  | .csrrc d a n => some (n.toNat, d, a, old &&& ~~~(t.x a))
  | _ => none
/-- The state once a read of TLOGHEAD has acquired the records it counts (spec/13 R269). -/
def logAcquired (s : State) (part : Nat) : State :=
  { s with parts := vset s.parts part { s.part part with acquired := (s.part part).tloghead } }

end Sys2Proof.Claims

/-- CSRRD reads a system or special register in SUPER mode; CSRRW, CSRRS and CSRRC read it and write it, in one step. A write of a read-only
register, a reserved bit or a value out of range raises Illegal Instruction, and so does a number without a register; in USER mode all raise
Privilege Fault (spec/13 R268, R269). -/
def Sys2Proof.Claims.SystemRegisters : Prop :=
  ∀ (s : State) (i : Instr) (n : Nat) (d a : Reg) (c : BitVec 12) (old v : Word),
    (csrValue s c.toNat = some old → Ready s { privileged := true } [d] → (c = 2 → FlagsReady (me s)) →
      Gives (.csrrd d c) s (let u := if c = 0x184 then logAcquired s (me s).part else s
        u.setSlot s.cur ((me s).setX d old).advance)) ∧
    (csrValue s c.toNat = none → Ready s { privileged := true } [d] → Gives (.csrrd d c) s (s.takeTrap s.cur 1 (s.wordAt (me s)))) ∧
    (csrValue s n = some old → csrForm i (me s) old = some (n, d, a, v) → Ready s { privileged := true } [d, a] →
      (0x100 ≤ n → n < 0x200 → CsrFine n v → Gives i s (let u := csrWrite s n v
        u.setSlot s.cur (((u.slot s.cur).setX d old).advance))) ∧
      (0x100 ≤ n → n < 0x200 → ¬CsrFine n v → Gives i s (s.takeTrap s.cur 1 (s.wordAt (me s)))) ∧
      (n < 0x100 → (n = 2 → FlagsReady (me s)) → (∀ t m, srWrite (me s) n v = some (t, m) → v &&& ~~~m = 0 → (n = 1 → v.toNat ≤ 4) →
        Gives i s (s.setSlot s.cur (t.setX d old).advance))) ∧
      (0x200 ≤ n → n % 2 = 1 → Gives i s
        ({ s with parts := vset s.parts (me s).part { s.part (me s).part with holding := v } }.setSlot s.cur ((me s).setX d old).advance))) ∧
    ((me s).status.super = false → s.anyBusy s.cur (me s) [d, a] = false → csrForm i (me s) old = some (n, d, a, v) →
      Gives i s (s.takeTrap s.cur 2 (s.wordAt (me s))))
/-- The custom atomic functions and the trap log, as a host or another unit reaches them: a write to a descriptor's high half goes to the
holding word; one to its low half with VALID and no error installs both halves as the descriptor, else makes it invalid; a read of
TLOGHEAD acquires the records it counts (spec/13 R269, R270). -/
def Sys2Proof.Claims.DescriptorWrites : Prop :=
  ∀ (s : State) (part : Nat) (j : Fin 48) (v : Word), part < 16 →
    Gives (.atomfnHighWrite part j v) s { s with parts := vset s.parts part { s.part part with holding := v } } ∧
    Gives (.tlogheadRead part) s (logAcquired s part) ∧
    ∃ t, Gives (.atomfnLowWrite part j v) s t ∧ t = { s with parts := t.parts } ∧ (∀ q, q < 16 → q ≠ part → t.part q = s.part q) ∧
      (∀ k : Nat, k < 48 → k ≠ j.val → vget (t.part part).atomfn k = vget (s.part part).atomfn k) ∧
      (v.getLsbD 0 = true → descriptorBad ((s.part part).holding ++ v) = false → vget (t.part part).atomfn j.val = (s.part part).holding ++ v) ∧
      (v.getLsbD 0 = false ∨ descriptorBad ((s.part part).holding ++ v) = true → (vget (t.part part).atomfn j.val).getLsbD 0 = false)
/-- CSR reads and writes (spec/13 R267, R268, Table 13.1; spec/04 R102). Choices of the model that it rests on: log 28, 73. -/
def Obligations.SystemRegisterAccess : Prop := Sys2Proof.Claims.SystemRegisters ∧ Sys2Proof.Claims.DescriptorWrites

namespace Sys2Proof.Claims

/-! ## System instructions -/

/-- A system instruction's request is carried out at once: the instruction has retired, memory is as before, and these events are due. -/
def Carried (s t : State) (due : List Instr) : Prop :=
  t.slot s.cur = (me s).advance ∧ t.mem = s.mem ∧ t.nextId = s.nextId + 1 ∧ t.agenda = s.agenda ++ due
/-- X[a] is the handle of a task of this module that holds a slot: record and slot. -/
def RunsAt (s : State) (h : Word) (r : TaskRec) (g : Nat) : Prop :=
  s.taskOf h = some r ∧ bits h 29 20 = s.mgmt.package ∧ r.part = (me s).part ∧ h ≠ (me s).task ∧ r.state = .running ∧ r.loc = some g
/-- The walk with a number, at its home. -/
def walkAt (s : State) (id : Nat) : Option Walk := ([0, 1, 2, 3].flatMap (fun d => (s.die d).walks)).find? (fun w => w.id == id)

end Sys2Proof.Claims

/-- IDLE of an inbox owner is BLOCKED until a message has ended, and of another kernel an Illegal Instruction. TLB.INV with a reserved bit is
an Illegal Instruction; with scope 0 its slot is BLOCKED until the tile's TLB has answered; with scope 2 the GEN of the address's home goes
up by one. SLOT_TRAP delivers its trap, and DEFERRED_TRAP delivers the slot's deferred trap, at the PC of the entry, once no entry is bound
and no other slot saved as a unit with it is in its trap bank. A walk of the current GEN ends with a fill for the TLB that asked, a fill enters
its TLB, and an invalidation leaves no entry that it drops (spec/13 R267, R273, R281; spec/15 R320, R321). -/
def Sys2Proof.Claims.SystemInstructions : Prop :=
  ∀ (s : State) (a b : Reg),
    (∀ k, s.slotKernel s.cur = some k → Ready s { privileged := true } [] →
      Gives .idle s (if k.inbox then blockedIn s (.idle (s.tile (s.cur / 4)).inbox.msgEnds) else s.takeTrap s.cur 1 (s.wordAt (me s)))) ∧
    (Ready s { privileged := true } [a, b] →
      let how := (me s).x b
      (how &&& ~~~0xF3 ≠ 0 ∨ how.toNat % 4 = 3 → Gives (.tlbInv a b) s (s.takeTrap s.cur 1 (s.wordAt (me s)))) ∧
      (how &&& ~~~0xF3 = 0 → how.toNat % 4 ≠ 3 → how.getLsbD 4 = false → 2 ^ 56 ≤ ((me s).x a).toNat →
        Gives (.tlbInv a b) s (s.takeTrap s.cur 4 ((me s).x a))) ∧
      (how &&& ~~~0xF3 = 0 → how.getLsbD 4 = true ∨ ((me s).x a).toNat < 2 ^ 56 → s.accessesPerformed s.cur = true → s.acquirePending s.cur = false →
        (how.toNat % 4 = 0 → Gives (.tlbInv a b) s (let u := blockedIn s (.tlb [s.cur / 4])
          { u with agenda := u.agenda ++ [.tlbInvalidation (s.cur / 4)
            { slot := s.cur, part := (me s).part, home := 0, gen := none, va := (me s).x a, how := how, serial := (me s).waitSerial + 1 }] })) ∧
        (how.toNat % 4 = 2 → how.getLsbD 4 = false → ∃ t, Gives (.tlbInv a b) s t ∧ t.mem = s.mem ∧ (t.slot s.cur).state = .blocked ∧
          (let h := shardOf ((me s).x a)
           Assoc.get 0 (t.die h).gens (me s).part = (Assoc.get 0 (s.die h).gens (me s).part + 1) % 2 ^ 32) ∧
          (∀ d, d < 4 → d ≠ shardOf ((me s).x a) → (t.die d).gens = (s.die d).gens)))) ∧
    (∀ (g : Nat) (c : Byte) (v : Word), (s.slot g).task ≠ 0 → c ≠ 1 → Gives (.slotTrap g c v) s (s.takeTrap g c.toNat v)) ∧
    (∀ (g : Nat) (c : Byte) (v : Word), (s.slot g).task = 0 → Gives (.slotTrap g c v) s s) ∧
    (∀ (g : Nat) (c : Byte) (v : Word) (pc : Nat), (s.slot g).deferred = some (c, v, pc) → (s.slot g).killNotice = false → s.enginesHold g = false →
      let free := (s.slot g).vbound = [] ∧ (s.slot g).mbound = [] ∧ ∀ m ∈ s.saveUnit g, m ≠ g → (s.slot m).status.tbank = false
      (free →
        Gives (.deferredTrap g) s
          (let u : Slot := { s.slot g with deferred := none, heldBy := none, state := (s.slot g).active }
           (s.setSlot g (u.setPc pc)).takeTrap g c.toNat v)) ∧
      (¬free → Gives (.deferredTrap g) s (s.defer (.deferredTrap g)))) ∧
    (∀ id w, walkAt s id = some w → s.hasTurn w.home 64 w.part = true → w.gen = s.gen w.home w.part →
      ∃ t f, Gives (.walkComplete id) s t ∧ t.agenda = s.agenda ++ [.tlbFill w.tlb f] ∧ f.home = w.home ∧ f.part = w.part ∧ f.gen = w.gen ∧
        t.mem = s.mem ∧ t.slots = s.slots) ∧
    (∀ n f, (s.tlb n).stale f = false → f.w0 ≠ 0 → ∃ t, Gives (.tlbFill n f) s t ∧ fillEntry f ∈ (t.tlb n).entries ∧ t.mem = s.mem ∧ t.slots = s.slots) ∧
    (∀ n inv, inv.waits = none → s.pendingWith n ((s.tlb n).dropped inv) = [] → inv.slot < noSlot →
      ∃ t, Gives (.tlbInvalidation n inv) s t ∧ t.mem = s.mem ∧ ∀ e ∈ (t.tlb n).entries, e ∈ (s.tlb n).entries ∧ e ∉ (s.tlb n).dropped inv)
/-- GUARD.WR writes a permit of its partition, and refuses one with a reserved bit, for a tile of another partition, for its own partition or
with an illegal number of groups; FRAME.WR writes the lend state of a time slot that its partition owns, answered at the next frame start, and
refuses another; a reserved bit is an Illegal Instruction (spec/13 R281; spec/17 R362, R364, R365). -/
def Sys2Proof.Claims.GuardAndFrame : Prop :=
  ∀ (s : State) (d a b : Reg), Ready s { privileged := true } [a, b, d] → PortFree s false →
    let x := (me s).x a
    let v := (me s).x b
    let p := (me s).part
    (x.toNat < 64 → v &&& 0x7FFFFFF0E0C00000 = 0 → s.ownsTile p (v.toNat / 256 % 1024) (v.toNat % 256) = true → v.toNat / 2 ^ 32 % 16 ≠ p →
      (v.getLsbD 63 = true → 1 ≤ v.toNat / 2 ^ 24 % 32 ∧ v.toNat / 2 ^ 24 % 32 ≤ 24) → p < 16 →
      ∃ t, Gives (.guardWr d a b) s t ∧ t.slot s.cur = (me s).advance ∧ t.mem = s.mem ∧
        (∀ n, n < 64 → vget (t.part p).permits n = if n = x.toNat then v else vget (s.part p).permits n) ∧
        (∀ q, q < 16 → q ≠ p → t.part q = s.part q) ∧
        (Config.peerModules p ≠ [] ∨ t.agenda = s.agenda ++ [.replyArrival s.nextId 0 false])) ∧
    (64 ≤ x.toNat ∨ v &&& 0x7FFFFFF0E0C00000 ≠ 0 ∨ s.ownsTile p (v.toNat / 256 % 1024) (v.toNat % 256) = false ∨ v.toNat / 2 ^ 32 % 16 = p →
      ∃ t, Gives (.guardWr d a b) s t ∧ t.parts = s.parts ∧ Carried s t [.replyArrival s.nextId (BitVec.ofNat 64 (2 ^ 63 + 20)).toNat false]) ∧
    (x &&& ~~~0xFFFF7F = 0 → x.toNat / 256 % 16 ≤ 3 → v &&& ~~~0x1F1 = 0 →
      (∀ u, frameUnit (x.toNat / 256 % 16) (x.toNat / 4096 % 4096) = some u → (s.mgmt.frame.getD (u * 128 + x.toNat % 128) 0xFF).toNat = p →
        ∃ t, Gives (.frameWr d a b) s t ∧ Carried s t [] ∧ t.mgmt.frameReplies = s.mgmt.frameReplies ++ [s.nextId] ∧
          t.mgmt.lend = s.mgmt.lend ∧ ∀ e, e ∈ t.mgmt.nextLend ↔ e = (u * 128 + x.toNat % 128, v) ∨ (e ∈ s.mgmt.nextLend ∧ e.1 ≠ u * 128 + x.toNat % 128)) ∧
      ((∀ u, frameUnit (x.toNat / 256 % 16) (x.toNat / 4096 % 4096) = some u → (s.mgmt.frame.getD (u * 128 + x.toNat % 128) 0xFF).toNat ≠ p) →
        ∃ t, Gives (.frameWr d a b) s t ∧ t.mgmt = s.mgmt ∧ Carried s t [.replyArrival s.nextId (BitVec.ofNat 64 (2 ^ 63 + 20)).toNat false])) ∧
    (x &&& ~~~0xFFFF7F ≠ 0 ∨ 3 < x.toNat / 256 % 16 ∨ v &&& ~~~0x1F1 ≠ 0 → Gives (.frameWr d a b) s (s.takeTrap s.cur 1 (s.wordAt (me s))))
/-- IDLE, TLB.INV, GUARD.WR and FRAME.WR (spec/13 R267, R281; spec/17 R364). Choices of the model that it rests on: log 2, 48. -/
def Obligations.SystemExecution : Prop := Sys2Proof.Claims.SystemInstructions ∧ Sys2Proof.Claims.GuardAndFrame
/-- SLOT.SAVE of a task in a slot begins its pre-emption, with the task held, and no reply yet; of a stale handle, another partition's task,
the issuer itself or a task in no slot it fails with codes 1, 8, 3 and 16. SLOT.RESTORE of a held task whose image is good clears HELD, posts
it and replies 0; of a task that is not held it fails with 18. A handle of a package that the pod does not have is stale (spec/13 R281,
R283). Choices of the model that it rests on: log 29, 30. -/
def Obligations.SaveAndRestore : Prop :=
  ∀ (s : State) (d a b : Reg),
    let h := (me s).x a
    (Ready s { privileged := true } [a, d] → PortFree s false →
      (bits h 29 20 = s.mgmt.package → ∀ n, (s.taskOf h = none ∧ n = 1 ∨ (∃ r, s.taskOf h = some r ∧
          (r.part ≠ (me s).part ∧ n = 8 ∨ r.part = (me s).part ∧ (h = (me s).task ∧ n = 3 ∨ h ≠ (me s).task ∧ r.state ≠ .running ∧ n = 16)))) →
        ∃ t, Gives (.slotSave d a) s t ∧ Carried s t [.replyArrival s.nextId (BitVec.ofNat 64 (2 ^ 63 + n)).toNat false]) ∧
      (∀ r g m, RunsAt s h r g → s.scopeState r.scope ≠ .cancelling → g ≠ s.cur → (s.slot g).freeze = none → s.gangOf (s.slot g) = none →
        (s.slot g).status.tbank = false →
        s.saveRoom (s.slot g).part (s.imageSize g) = some m → s.saveMapped (s.slot g).part m (s.imageSize g) = none →
        ∃ t, Gives (.slotSave d a) s t ∧ Carried s t [.saveBegin g, .preemptAbandon g] ∧
          (t.slot g).freeze = some { since := s.cycle, held := true, record := none, image := m }) ∧
      (bits h 29 20 ≠ s.mgmt.package → ∃ t, Gives (.slotSave d a) s t ∧
        Carried s t (if Config.configuredPackage (bits h 29 20) then [] else [.replyArrival s.nextId (BitVec.ofNat 64 (2 ^ 63 + 1)).toNat false]))) ∧
    (Ready s { privileged := true } [a, b, d] → PortFree s false → ((me s).x b = 0 ∨ ((me s).x b).getLsbD 63 = true) →
      (∀ r, bits h 29 20 = s.mgmt.package → s.taskOf h = some r → r.part = (me s).part →
        (r.state ≠ .preempted ∨ r.held = false →
          ∃ t, Gives (.slotRestore d a b) s t ∧ Carried s t [.replyArrival s.nextId (BitVec.ofNat 64 (2 ^ 63 + 18)).toNat false]) ∧
        (r.state = .preempted → r.held = true → r.gang = none → s.restorePlace r ((me s).x b) = true →
          let img := s.imageRead r.part h r.saved
          img.fails = false → img.need = [] → img.lines = [] → s.writesOut r.part r.saved img.bytes.length = false →
          imageGood img.bytes ((s.part r.part).savebase.toNat + (s.part r.part).savesize.toNat - r.saved.toNat) = true →
          ∃ t, Gives (.slotRestore d a b) s t ∧ Carried s t [.dispatchSelect (handleDie h) r.part, .replyArrival s.nextId 0 false] ∧
            (t.record (handleDie h) (handleEntry h)).held = false ∧ (t.record (handleDie h) (handleEntry h)).state = .ready)) ∧
      (bits h 29 20 = s.mgmt.package → s.taskOf h = none →
        ∃ t, Gives (.slotRestore d a b) s t ∧ Carried s t [.replyArrival s.nextId (BitVec.ofNat 64 (2 ^ 63 + 1)).toNat false])) ∧
    (Ready s { privileged := true } [a, b, d] → (me s).x b ≠ 0 → ((me s).x b).getLsbD 63 = false →
      Gives (.slotRestore d a b) s (s.takeTrap s.cur 1 (s.wordAt (me s))))

namespace Sys2Proof.Claims

/-! ## Work queues -/

/-- A value that QCFG0 of a queue takes: no reserved bit, WEIGHT not 0, entry and ring sizes in range, and PART and RLOG kept while it is
enabled (spec/14 R291, Table 14.1). -/
def QcfgFine (q : Queue) (v : Word) : Prop :=
  v &&& 0x3003000FFFFFFFFF = 0 ∧ v.toNat / 2 ^ 52 % 256 ≠ 0 ∧ v.toNat / 2 ^ 40 % 16 ≤ 10 ∧ 2 ≤ v.toNat / 2 ^ 36 % 16 ∧ v.toNat / 2 ^ 36 % 16 ≤ 8 ∧
  (q.cfg0.getLsbD 63 = true → v.toNat / 2 ^ 44 % 16 = q.cfg0.toNat / 2 ^ 44 % 16 ∧ v.toNat / 2 ^ 36 % 16 = q.cfg0.toNat / 2 ^ 36 % 16)
/-- A command is decided: its status, DETAIL and SERIAL stand, and its completion record is due (spec/14 R295). -/
def decided (u : State) (c : Command) (status detail serial : Nat) : State :=
  { u with commands := u.commands.map (fun x => if x.id = c.id then { x with outcome := some (status, detail, serial) } else x)
           agenda := u.agenda ++ [.completionRecord c.id] }
/-- The command at the head of a queue is admitted as `c`, with opcode `op`; `u` is the state in which it has been taken. -/
def Admits (s : State) (q op : Nat) (c : Command) (u : State) : Prop := s.take q = some (c, u) ∧ (byteAt c.bytes 0).toNat = op

end Sys2Proof.Claims

/-- A store of 64 bytes at offset 0 of the window of an enabled queue with room enters its ring and its event is due; any other is dropped
and counted, the count saturating. QCFG_WRITE writes a register when the value is legal. The head of a queue that is the only one with a
command is taken when the ROM is READY and the partition has its turn. ADAPTER_PREFETCH runs up to 8 entries ahead: entries that name no
adapter change nothing else, and lines that the host holds of the entry of a RUN are asked for; no memory changes (spec/14 R291 to R293, R300;
spec/16 R354). -/
def Sys2Proof.Claims.QueueEvents : Prop :=
  ∀ (s : State) (n : Nat), n < 2048 →
    let q := s.queue n
    let room := q.cfg0.getLsbD 63 = true ∧ (q.posted - q.taken).toNat < 2 ^ (q.cfg0.toNat / 2 ^ 36 % 16)
    (∀ (data : Bytes), data.length = 64 → room → Gives (.commandStore n 0 data) s
      { s with queues := Assoc.set s.queues n { q with ring := q.ring ++ [data], posted := q.posted + 1 }
               agenda := s.agenda ++ [commandEvent n data, .adapterPrefetch n] }) ∧
    (∀ (data : Bytes), data.length ≠ 64 ∨ ¬room → Gives (.commandStore n 0 data) s
      { s with queues := Assoc.set s.queues n { q with overrun := if q.overrun = 0xFFFF then 0xFFFF else q.overrun + 1 } }) ∧
    (∀ (data : Bytes) (o : Nat), o ≠ 0 → Gives (.commandStore n o data) s s) ∧
    (∀ v, QcfgFine q v → Gives (.qcfgWrite n false v) s { s with queues := Assoc.set s.queues n { q with cfg0 := v } }) ∧
    (∀ v, ¬QcfgFine q v → Gives (.qcfgWrite n false v) s s) ∧
    (∀ v : Word, v.toNat < 2 ^ 56 → Gives (.qcfgWrite n true v) s { s with queues := Assoc.set s.queues n { q with cfg1 := v } }) ∧
    (∀ v : Word, 2 ^ 56 ≤ v.toNat → Gives (.qcfgWrite n true v) s s) ∧
    (∀ b rest, q.ring = b :: rest → s.mgmt.state = .ready → s.hasTurn (s.coreDie q.part) 256 q.part = true → 1 ≤ q.weight → s.queues = [(n, q)] →
      (byteAt b 1).getLsbD 0 = false ∨ q.taken = q.done →
      ∃ c u, s.take n = some (c, u) ∧ c.bytes = b ∧ c.queue = n ∧ c.part = q.part ∧ c.taccept = s.now ∧ c.outcome = none ∧
        u.commands = s.commands ++ [c] ∧ u.mem = s.mem ∧ (u.queue n).ring = rest ∧ (u.queue n).taken = q.taken + 1) ∧
    (q.cfg0.getLsbD 63 = true → q.cfg1 ≠ 0 →
      ((∀ b ∈ q.ring, byteAt b 0 ≠ 4 ∨ field b 48 4 = 0xFFFFFFFF) →
        Gives (.adapterPrefetch n) s { s with queues := Assoc.set s.queues n { q with ahead := max q.ahead (min 8 q.ring.length) } }) ∧
      (∃ t, Gives (.adapterPrefetch n) s t ∧ t.mem = s.mem ∧ t.slots = s.slots ∧ t.agenda = s.agenda ∧ t.commands = s.commands ∧
        t.queue n = { q with ahead := max q.ahead (min 8 q.ring.length) } ∧
        (∀ b rest, q.ring = b :: rest → q.ahead = 0 → byteAt b 0 = 4 →
          let entry := s.adapterRead q.part n b
          entry.fault = false → ∀ l ∈ entry.lines, (s.die l.1).snooped.contains l.2 = false → Egress.snoop l.1 l.2 false ∈ t.egress))) ∧
    (q.cfg0.getLsbD 63 = false ∨ q.cfg1 = 0 → Gives (.adapterPrefetch n) s s)
/-- NOP and CANCEL of no instance, UNLOAD of an image that is absent, busy or free, and unknown opcodes are decided with the status of spec/14
Table 14.5. CANCEL of a live instance makes its root scope CANCELLING. LOAD of an image that passes its checks enters it, when the store has
room, under a handle that no image of the partition has, and reports the handle. RUN of a template whose buffers are bound creates an
instance with a record for each node, or reports TUNFULL. (spec/14 R293, R294, R296.) Choices of the model that it rests on: log 2, 14, 16, 51, 77. -/
def Obligations.Commands : Prop :=
  ∀ (s u : State) (n op : Nat) (c : Command), Admits s n op c u →
    (op = 1 → commandBad c.bytes [] = false → Gives (.nopCommand n) s (decided u c 0 0 0)) ∧
    (op = 0 ∨ 5 < op → Gives (.nopCommand n) s (decided u c 16 0 0)) ∧
    (op = 3 → commandBad c.bytes [24, 25] = false →
      (u.image c.part (field c.bytes 24 2) = none → Gives (.unloadImage n) s (decided u c 18 0 0)) ∧
      (u.image c.part (field c.bytes 24 2) ≠ none → (∃ i ∈ u.instances, i.part = c.part ∧ i.image = field c.bytes 24 2) →
        Gives (.unloadImage n) s (decided u c 22 0 0)) ∧
      (u.image c.part (field c.bytes 24 2) ≠ none → (∀ i ∈ u.instances, i.part = c.part → i.image ≠ field c.bytes 24 2) →
        ∃ t, Gives (.unloadImage n) s t ∧ t.image c.part (field c.bytes 24 2) = none ∧ t.mem = u.mem ∧ t.slots = u.slots ∧
          t.commands = (decided u c 0 0 0).commands ∧ t.agenda = u.agenda ++ [.completionRecord c.id])) ∧
    (op = 5 → commandBad c.bytes [24, 25, 26, 27] = false →
      (u.instanceOf c.part (field c.bytes 24 4) = none → Gives (.cancelCommand n) s (decided u c 23 0 0)) ∧
      (∀ i key, u.instanceOf c.part (field c.bytes 24 4) = some i → u.scopeOf c.part (i.scopes.getD 0 0) = some key → u.scopeState key = .active →
        ∃ t, Gives (.cancelCommand n) s t ∧ t.scopeState key = .cancelling ∧ t.commands = u.commands ∧ t.mem = u.mem)) ∧
    (op = 2 → commandBad c.bytes (List.range 17 |>.map (· + 24) |>.append [42, 43]) = false → byteAt c.bytes 40 = 0 →
      let src := fieldW c.bytes 24 8
      let len := field c.bytes 32 8
      let core := u.coreIssuer c.part c.queue
      let head := u.coreBytes core src 32 [] false
      let body := u.coreBytes core src len [] false
      let v := u.readDone core body
      head.fails = false → head.need = [] → head.lines = [] → headerBad head.bytes len = false → body.fails = false → body.need = [] → body.lines = [] →
        (∀ i, imageBad false body.bytes = some i → Gives (.loadImage n [] false) s (decided v c 17 i 0)) ∧
        (imageBad false body.bytes = none →
          let mine := u.images.filter (fun m => m.part = c.part)
          ∃ t, Gives (.loadImage n [] false) s t ∧ t.mem = u.mem ∧ (Config.peerModules c.part ≠ [] ∨
            if Config.imageStore < (mine.map (·.bytes)).sum + len ∨ 65535 ≤ mine.length then t = decided v c 24 0 0
             else ∃ h, (∀ m ∈ mine, m.handle ≠ h) ∧ 0 < h ∧ t.images = u.images ++ [v.imageOf c.part h false body.bytes] ∧
               t.commands = (decided u c 0 h 0).commands ∧ t.agenda = u.agenda ++ [.completionRecord c.id]))) ∧
    (op = 4 → (∀ i ∈ s.instances, i.part = c.part → i.starting = false) → (∀ x ∈ s.commands, x.queue = n → x.again = false) → commandBad c.bytes ((List.range 5 |>.map (· + 24)) ++ (List.range 20 |>.map (· + 32))) = false → (byteAt c.bytes 28).toNat ≤ 64 →
      (fieldW c.bytes 32 8).toNat % 16 = 0 →
      (u.image c.part (field c.bytes 24 2) = none → Gives (.runGraph n [] false) s (decided u c 18 0 0)) ∧
      (∀ m t, u.image c.part (field c.bytes 24 2) = some m → m.templates[field c.bytes 26 2]? = some t →
        let table := u.coreBytes (u.coreIssuer c.part c.queue) (fieldW c.bytes 32 8) (16 * (byteAt c.bytes 28).toNat) [] false
        let entry := u.adapterRead c.part c.queue c.bytes
        let v := (u.readDone (u.coreIssuer c.part c.queue) table).readDone (u.coreIssuer c.part c.queue 1) entry
        table.fails = false → table.need = [] → table.lines = [] → entry.fails = false → entry.need = [] → entry.lines = [] → u.locked = true → c.queue = n →
        (∀ e, bufferBad t table.bytes = some e → Gives (.runGraph n [] false) s (decided v c e.1 e.2 0)) ∧
        (bufferBad t table.bytes = none → v.diesOf c.part = [] →
          Config.peerModules c.part ≠ [] ∨ Gives (.runGraph n [] false) s (decided v c 26 0 0)) ∧
        (bufferBad t table.bytes = none → v.diesOf c.part ≠ [] → u.mgmt.package < 1024 →
          let made := v.instantiate c m t (field c.bytes 26 2) table.bytes (v.homesOf c.part)
          (∀ i, made = .error i → Gives (.runGraph n [] false) s (decided v c 21 i 0)) ∧
          (∀ x, made = .ok x → Gives (.runGraph n [] false) s x ∧ ∃ i, x.instances = u.instances ++ [i] ∧ i.cmd = c.id ∧ i.part = m.part ∧
            i.serial = (v.part m.part).nextSerial.toNat ∧ i.nodes.length = t.nodes.length ∧ i.scopes.length = t.scopes.length ∧
            x.commands = u.commands))))
/-- The completion record of a decided command goes out once: the command is gone and its queue's DONE goes up by one; with CPL in a tile or
in DRAM of this module its 64 bytes are written there, with CPL 0 nowhere; with CPL elsewhere a request carries them, and the command is gone
once it has been performed. Its first words are SERIAL, the queue and the status (spec/14 R295,
Table 14.7). -/
def Sys2Proof.Claims.CompletionRecords : Prop :=
  ∀ (s : State) (c : Command) (st det ser : Nat), s.commands.find? (fun x => x.id == c.id) = some c → c.record = none → c.outcome = some (st, det, ser) →
    s.instances.find? (fun i => i.cmd == c.id) = none →
    let bs := s.completion c st det ser none
    let gone := fun (t : State) => t.commands = s.commands.filter (fun x => x.id != c.id) ∧ (t.queue c.queue).done = (s.queue c.queue).done + 1 ∧
      t.slots = s.slots ∧ t.agenda = s.agenda
    (fieldW c.bytes 16 8 = 0 → ∃ t, Gives (.completionRecord c.id) s t ∧ gone t ∧ t.mem = s.mem) ∧
    (∀ tgt, (fieldW c.bytes 16 8).toNat / 2 ^ 56 = 0 → fieldW c.bytes 16 8 ≠ 0 →
      s.translateNow c.part true .write (fieldW c.bytes 16 8) = .ok tgt →
      (tgt.remote = false → s.heldLines tgt bs.length = [] →
        ∃ t, Gives (.completionRecord c.id) s t ∧ gone t ∧ t.mem = (s.writeTarget tgt bs false).mem) ∧
      (tgt.remote = true → ∃ t r, Gives (.completionRecord c.id) s t ∧ t.mem = s.mem ∧ t.requests = s.requests ++ [r] ∧ r.id = s.nextId ∧
        r.kind = .block bs ∧ r.addr = fieldW c.bytes 16 8 ∧ r.wake = some (.completionRecord c.id) ∧
        t.commands = s.commands.map (fun x => if x.id = c.id then { x with record := some s.nextId } else x))) ∧
    (c.bytes.length = 64 → bs.length = 64 ∧ field bs 0 4 = ser % 2 ^ 32 ∧ field bs 4 2 = c.queue % 2 ^ 16 ∧ field bs 6 1 = st % 256 ∧
      fieldW bs 8 8 = fieldW c.bytes 8 8 ∧ fieldW bs 16 8 = c.taccept ∧ fieldW bs 24 8 = s.now ∧ field bs 32 4 = det % 2 ^ 32) ∧
    (∀ x id, s.commands.find? (fun y => y.id == x.id) = some x → x.record = some id → s.instances.find? (fun i => i.cmd == x.id) = none →
      (s.request id = none → ∃ t, Gives (.completionRecord x.id) s t ∧ t.commands = s.commands.filter (fun y => y.id != x.id) ∧
        (t.queue x.queue).done = (s.queue x.queue).done + 1) ∧
      (s.request id ≠ none → Gives (.completionRecord x.id) s s))
/-- The work queues: doorbells, commands, completion records (spec/14). Choices of the model that it rests on: log 2, 47, 51. -/
def Obligations.QueueRecords : Prop := Sys2Proof.Claims.QueueEvents ∧ Sys2Proof.Claims.CompletionRecords

namespace Sys2Proof.Claims

/-! ## Dispatch and pre-emption -/

/-- A slot whose pre-emption concerns it alone, with its task's record. -/
def Alone (s : State) (g : Nat) (r : TaskRec) (f : Freeze) : Prop :=
  s.gangOf (s.slot g) = none ∧ s.taskOf (s.slot g).task = some r ∧ (s.slot g).freeze = some f ∧ f.record = none
/-- The record of a task. -/
def recOf (s : State) (h : Word) : TaskRec := s.record (handleDie h) (handleEntry h)

end Sys2Proof.Claims

/-- DISPATCH_SELECT of a die with one queued task of the partition chooses it, and with an entry chosen does nothing. PLACE places the chosen
entry when it fits, or leaves it chosen and tries again; a task in no gang gets the slot found for it, RESERVED, its PC at its kernel's
ENTRY. PREFETCH_READ_ISSUE begins a read 256 cycles after it was asked, and then copies a segment of it, which crosses no 256-byte boundary; one
whose source fails translation has failed. TASK_RUNNABLE makes an entry whose prefetches are over RUNNABLE.
TASK_START puts the argument block into the tile, its address and the number of prefetches into x1 and x2, and the slot into ISSUE.
GANG_CYCLE_RESUME ends a gang's stall at its cycle (spec/02 R27, R47; spec/14 R301 to R304, R306, R310). Choices of the model that it rests on: log 2, 31, 69. -/
def Obligations.Dispatch : Prop :=
  ∀ (s : State) (die part : Nat), die < 4 →
    (s.chosen die part ≠ none → Gives (.dispatchSelect die part) s s) ∧
    (∀ k r, s.chosen die part = none → s.queued die part = [(k, r)] → s.hasTurn die 64 part = true → 1 ≤ (s.queue r.queue).weight →
      s.placeCost (s.handleOf die k) r ≤ 64 →
      ∃ t, Gives (.dispatchSelect die part) s t ∧ t.mem = s.mem ∧ t.slots = s.slots ∧ t.agenda = s.agenda ++ [.place die part] ∧
        (t.record die k).ready = .chosen ∧ (t.record die k).chosenAt = s.cycle) ∧
    (∀ k r, s.hasTurn die 64 part = true → (∀ e ∈ (s.die die).tun, e.2.spawned = false) → s.chosen die part = some (k, r) →
      (∀ u, s.placeNow die (s.handleOf die k) r = some u → Gives (.place die part) s { u with agenda := u.agenda ++ [.dispatchSelect die part] }) ∧
      (s.placeNow die (s.handleOf die k) r = none →
        Gives (.place die part) s ((s.later (.place die part)).later (.preemptTrigger die part))) ∧
      (∀ g kidx kern tm, s.taskOf (s.handleOf die k) = some r → handleDie (s.handleOf die k) < 4 → r.saved = 0 → r.gidx = none → r.gang = none →
        s.kernelRec r = some (kidx, kern) →
        s.recordTemplate r = some tm → s.findSingle die r = some g →
        ∃ u, s.placeNow die (s.handleOf die k) r = some u ∧ (u.slot g).task = s.handleOf die k ∧ (u.slot g).state = .reserved ∧
          (u.slot g).main.pc = kern.entry ∧ (u.slot g).grant = kern.use ∧ (recOf u (s.handleOf die k)).loc = some g ∧
          (recOf u (s.handleOf die k)).state = .placing)) ∧
    (∀ h r p g, s.pendingPrefetches die = [(h, r, p)] → s.taskOf h = some r → handleDie h < 4 → r.loc = some g →
      (p.issued = none → s.cycle < p.since + 256 → Gives (.prefetchReadIssue die [] false) s (s.later (.prefetchReadIssue die [] false))) ∧
      (p.issued = none → p.since + 256 ≤ s.cycle →
        ∃ t, Gives (.prefetchReadIssue die [] false) s t ∧ t.mem = s.mem ∧ t.slots = s.slots ∧
          t.agenda = s.agenda ++ [.prefetchReadIssue die [] false] ∧ ∀ x ∈ (recOf t h).prefetches, x.word = p.word → x.issued = some s.nextId) ∧
      (∀ n, p.issued = some n →
        let src := p.src + wordN p.done
        let m := min (p.len - p.done) (256 - src.toNat % 256)
        let read := s.coreBytes { Issuer.device r.part (s.sourceNo (g / 4) 6) n with super := r.sys } src m [] false
        (read.fault = false → read.need = [] → read.lines = [] →
          ∃ t, Gives (.prefetchReadIssue die [] false) s t ∧ t.mem = (s.writeTarget (.tile (g / 4) (p.doff + p.done)) read.bytes read.bad).mem ∧
            t.slots = s.slots ∧ t.agenda = s.agenda ++ [.prefetchReadIssue die [] false] ∧
            ∀ x ∈ (recOf t h).prefetches, x.word = p.word → x.done = p.done + m ∧ x.outcome = if p.len ≤ p.done + m then some true else none) ∧
        (read.fault = true → ∃ t, Gives (.prefetchReadIssue die [] false) s t ∧ t.mem = s.mem ∧ t.slots = s.slots ∧
          ∀ x ∈ (recOf t h).prefetches, x.word = p.word → x.outcome = some false))) ∧
    (∀ k, (s.record die k).state = .placing → (s.record die k).ready = .prefetch →
      ((∀ p ∈ (s.record die k).prefetches, p.outcome ≠ none) →
        ∃ t, Gives (.taskRunnable die k) s t ∧ (t.record die k).ready = .runnable ∧ t.agenda = s.agenda ++ [.taskStart die k] ∧ t.mem = s.mem ∧
          t.slots = s.slots) ∧
      ((∃ p ∈ (s.record die k).prefetches, p.outcome = none) → Gives (.taskRunnable die k) s (s.later (.taskRunnable die k)))) ∧
    (∀ k r g, s.taskOf (s.handleOf die k) = some r → handleDie (s.handleOf die k) < 4 → s.record die k = r → r.state = .placing → r.ready = .runnable → r.saved = 0 → r.gang = none →
      r.spawned = false → r.start = none → r.loc = some g → s.lostDie (dieOf (g / 4)) = false →
      ∃ t, Gives (.taskStart die k) s t ∧ (t.slot g).state = .issue ∧ (t.slot g).task = (s.slot g).task ∧
        (let off := 0x3FC000 + 256 * (g % 4)
         t.mem = Memory.write s.mem (g / 4 * 2 ^ 30 + off) (s.argBlock (s.handleOf die k) r (g / 4)) ∧
         (t.slot g).main.get 1 = s.windowAddr (g / 4) off) ∧
        (t.slot g).main.get 2 = wordN (r.prefetches.filter (fun p => p.outcome == some true)).length ∧
        (t.slot g).main.pc = (s.slot g).main.pc ∧ (recOf t (s.handleOf die k)).state = .running) ∧
    (∀ k q c, Assoc.find s.gangs k = some q → q.resumeAt = some c →
      (s.cycle < c → Gives (.gangCycleResume k) s (s.later (.gangCycleResume k))) ∧
      (c ≤ s.cycle → ∃ t, Gives (.gangCycleResume k) s t ∧ t = { s with gangs := t.gangs } ∧
        Assoc.find t.gangs k = some { q with stalled := false, resumeAt := none }))
/-- PREEMPT_TRIGGER waits until a task has been chosen for 4,096 cycles and no victim of its partition is on its way out, and then pre-empts
the units picked. SAVE_BEGIN puts a quiescent
slot into SAVING. PREEMPT_ABANDON gives up after PQLIMIT cycles: the slot goes on, and its task is no victim for 65,536 cycles. SAVE_COMPLETE
of a slot whose image is written empties the slot; its record holds the image's address, and is posted again unless it is held. RESUME brings
the registers of the image back and the slot issues again; the task of an image that cannot be read is PREEMPTED and held (spec/13 R282 to
R290; spec/14 R311; spec/15 R326). Choices of the model that it rests on: log 2, 27, 30, 74, 76. -/
def Obligations.Preemption : Prop :=
  ∀ (s : State) (g : Nat) (r : TaskRec) (f : Freeze),
    (∀ die part k q, s.chosen die part = some (k, q) →
      (s.cycle < q.chosenAt + 4096 ∨ s.displacing part = true → (.preemptTrigger die part) ∉ s.deferred →
        Gives (.preemptTrigger die part) s (s.defer (.preemptTrigger die part))) ∧
      (∀ v, q.chosenAt + 4096 ≤ s.cycle → s.displacing part = false → s.pickVictims die (s.handleOf die k) q = [[v]] →
        (s.preempt v false none).1 = true → Gives (.preemptTrigger die part) s ((s.preempt v false none).2.later (.preemptTrigger die part)))) ∧
    (Alone s g r f → (s.slot g).state ≠ .saving → (∀ d v, (s.slot g).wait ≠ some (.settled d v)) →
      (s.quiescent g = true → (s.slot g).killNotice = false →
        Gives (.saveBegin g) s { s.setSlot g { s.slot g with state := .saving } with agenda := s.agenda ++ [.saveComplete g] }) ∧
      (s.quiescent g = false → (∀ q ∈ s.requests, q.toHost = false) → Gives (.saveBegin g) s (s.defer (.saveBegin g)))) ∧
    (Alone s g r f → (s.slot g).state ≠ .saving → (s.slot g).status.tbank = false →
      (s.cycle < f.since + (s.part (s.slot g).part).pqlimit.toNat → Gives (.preemptAbandon g) s (s.defer (.preemptAbandon g))) ∧
      (f.since + (s.part (s.slot g).part).pqlimit.toNat ≤ s.cycle → handleDie (s.slot g).task < 4 →
        ∃ t, Gives (.preemptAbandon g) s t ∧ t.slot g = { s.slot g with freeze := none } ∧
          (recOf t (s.slot g).task).noVictim = s.cycle + 65536 ∧ (∀ e ∈ (t.part (s.slot g).part).saves, e.2.2 ≠ (s.slot g).task))) ∧
    (Alone s g r f → (s.slot g).state = .saving → (s.slot g).killNotice = false → handleDie (s.slot g).task < 4 → f.written = false →
      ∀ u, s.deviceBlock (s.slot g).part (s.sourceNo (handleDie (s.slot g).task * 64 + 49) 0) (wordN f.image) (s.saveImage [g] g f.held none) = some u →
      (∀ q ∈ u.requests, ∀ bs, q.kind ≠ .block bs) →
      ∃ t, Gives (.saveComplete g) s t ∧ (t.slot g).state = .empty ∧ (t.slot g).task = 0 ∧ (recOf t (s.slot g).task).saved = wordN f.image ∧
        (recOf t (s.slot g).task).held = f.held ∧ (recOf t (s.slot g).task).state = (if f.held then .preempted else .ready)) ∧
    (∀ die k kern, s.taskOf (s.handleOf die k) = some r → handleDie (s.handleOf die k) < 4 → r.state = .placing → r.saved ≠ 0 → r.gang = none → r.loc = some g →
      s.storesPerformed (s.handleOf die k) = true → (s.slot g).task = s.handleOf die k → s.slotKernel g = some kern → s.gangOf (s.slot g) = none →
      let read := s.imageRead r.part (s.handleOf die k) r.saved
      let img := read.bytes
      (read.fails = true → ∃ t, Gives (.resume die k) s t ∧ (recOf t (s.handleOf die k)).state = .preempted ∧ (recOf t (s.handleOf die k)).held = true) ∧
      (read.fails = false → read.need = [] → read.lines = [] → (∀ i, i < 16 → byteAt img (0x600 + 16 * i + 9) ≠ 2) →
      ∃ t, Gives (.resume die k) s t ∧ (t.slot g).state = .issue ∧ (t.slot g).task = (s.slot g).task ∧ (t.slot g).main.pc = field img 0x300 8 ∧
        (∀ i : Reg, i ≠ 0 → (t.slot g).main.get i = fieldW img (0x80 + 8 * i.val) 8) ∧
        (∀ i : Reg, i ≠ 0 → (t.slot g).handler.get i = fieldW img (0x180 + 8 * i.val) 8) ∧
        (t.slot g).prec = fieldW img 0x308 8 ∧ (t.slot g).rm = fieldW img 0x310 8 ∧ (t.slot g).flags = fieldW img 0x318 8 ∧
        (t.slot g).seed = fieldW img 0x320 8 ∧ (recOf t (s.handleOf die k)).state = .running ∧ (recOf t (s.handleOf die k)).saved = 0))

namespace Sys2Proof.Claims

/-- A token reaches its endpoint: none of the channel waits, its partition has a time slot on its way if it rides packets, and the tile's guard
lets it in (spec/17 R360, R364). -/
def Passes (s : State) (gt ch : Nat) (q : Token) : Prop :=
  ∀ src part addr, q.origin = some (src, part, addr) → s.deferred.any (Instr.tokenFor gt ch) = false ∧
    (q.place = none ∨ s.served part (src % 4096 / 16) (.tile gt 0) = true) ∧ (src % 4096 / 16 = gt ∨ (s.tile gt).part = some part)

end Sys2Proof.Claims

/-- A message for an inbox with an owner and room is written at its place, the owner's handler entry is due, and a request that awaits the
answer gets 0; without an owner it gets 1, and a full inbox makes the message wait. The guard of the tile drops a message or a token of a tile of another partition: it is logged, and the message is answered with 1. A token for an OPEN receiving endpoint is written into
its entry and queued; a control token ends the channel; one of another channel than the endpoint's is discarded. Returned units reach the sender; a broken notice breaks it; a channel that loses its
lane group rides packets (spec/02 R49, R51, R53, R54; spec/09 R216, R224; spec/16 R340). Choices of the model that it rests on: log 2, 24. -/
def Obligations.ChannelEvents : Prop :=
  ∀ (s : State) (gt ch : Nat), ch < 16 →
    let e := s.chan gt ch
    let ib := (s.tile gt).inbox
    (∀ (data : Bytes) (o id : Nat), ib.owner = some o → s.lostDie (dieOf gt) = false → data.length = 64 → s.messageBefore id = false →
      s.messageBad id = false → s.messageServed gt (some id) = true → s.messageBarred gt (some id) = none →
      (ib.arrived - ib.taken < inboxRoom gt → ∃ t, Gives (.messageArrival gt data (some id)) s t ∧
        t.mem = Memory.write s.mem (gt * 2 ^ 30 + inboxBase gt + 64 * (ib.arrived % inboxRoom gt)) data ∧
        (t.tile gt).inbox = { ib with arrived := ib.arrived + 1 } ∧ t.slots = s.slots ∧
        t.agenda = s.agenda ++ [.handlerEntry (gt * 4 + o), .replyArrival id 0 false]) ∧
      (inboxRoom gt ≤ ib.arrived - ib.taken → Gives (.messageArrival gt data (some id)) s (s.defer (.messageArrival gt data (some id))))) ∧
    (∀ (data : Bytes) (id : Nat), ib.owner = none → s.messageServed gt (some id) = true → s.messageBarred gt (some id) = none → ∃ t, Gives (.messageArrival gt data (some id)) s t ∧ t.mem = s.mem ∧ t.tiles = s.tiles ∧
      t.agenda = s.agenda ++ [.replyArrival id 1 false]) ∧
    (∀ (data : Bytes) (id : Nat) (r : Request), s.request id = some r → gt < 256 → r.src % 4096 / 16 ≠ gt → (s.tile gt).part ≠ some r.part →
      s.messageServed gt (some id) = true → ∃ t, Gives (.messageArrival gt data (some id)) s t ∧ t.mem = s.mem ∧ t.tiles = s.tiles ∧
        t.agenda = s.agenda ++ [.replyArrival id 1 false] ∧ LoggedDrop s t gt 5 1 0) ∧
    (∀ (q : Token) (x : Nat × Nat), q.chan = some x → x ≠ (e.serial, e.chan) → Passes s gt ch q → Gives (.tokenArrival gt ch q) s s) ∧
    (∀ (q : Token) (src part : Nat) (addr : Word), q.origin = some (src, part, addr) → s.deferred.any (Instr.tokenFor gt ch) = false →
      (q.place = none ∨ s.served part (src % 4096 / 16) (.tile gt 0) = true) → src % 4096 / 16 ≠ gt → (s.tile gt).part ≠ some part → gt < 256 →
      ∃ t, Gives (.tokenArrival gt ch q) s t ∧ t.mem = s.mem ∧ t.tiles = s.tiles ∧ t.agenda = s.agenda ∧ LoggedDrop s t gt (if q.place = none then 0x20 else 4) (if q.place = none then 3 else 1) addr) ∧
    (∀ (q : Token), Passes s gt ch q → e.side = .receiver → e.state = .opened → s.lostDie (dieOf gt) = false → (∀ x, q.chan = some x → x = (e.serial, e.chan)) →
      (q.kind ≠ .endTok → q.kind ≠ .endCancelled → q.place = none → (∀ x ∈ e.tokens, x.tail = true) → q.tail = true → q.bad = false → q.bytes ≠ [] →
        q.bytes.length ≤ e.entryBeats * 64 → ∃ t, Gives (.tokenArrival gt ch q) s t ∧
          t.mem = Memory.write s.mem (gt * 2 ^ 30 + e.qoff + e.count % (e.depth + 1) * e.entryBeats * 64) q.bytes ∧ t.slots = s.slots ∧
          t.chan gt ch = { e with
            tokens := e.tokens ++ [{ seq := e.count, kind := q.kind, beats := q.bytes.length / 64, tail := true, time := s.cycle }]
            count := e.count + 1, mark := none } ∧
          (∀ c, c < 16 → c ≠ ch → t.chan gt c = s.chan gt c)) ∧
      (q.kind = .endTok → ∃ t, Gives (.tokenArrival gt ch q) s t ∧ t.mem = s.mem ∧ (t.chan gt ch).state = .closed ∧
        (t.chan gt ch).tokens.length = e.tokens.length + 1) ∧
      (q.kind = .endCancelled → ∃ t, Gives (.tokenArrival gt ch q) s t ∧ t.mem = s.mem ∧ (t.chan gt ch).state = .broken ∧
        ∀ x ∈ (t.chan gt ch).tokens, x.tail = true)) ∧
    (∀ n, e.side = .sender → ∃ t, Gives (.allowanceReturn gt ch n) s t ∧ t = { s with tiles := t.tiles } ∧
      t.chan gt ch = { e with allowance := e.allowance + n, taken := e.taken + n }) ∧
    (e.side = .sender → e.state = .opened → ∃ t, Gives (.channelBrokenNotice gt ch) s t ∧ t = { s with tiles := t.tiles } ∧
      t.chan gt ch = { e with state := .broken }) ∧
    (e.lane = true → ∃ t, Gives (.laneGroupWithdraw gt ch) s t ∧ t = { s with tiles := t.tiles } ∧ (t.chan gt ch).lane = false ∧
      (t.chan gt ch).tokens = e.tokens ∧ (∀ p g c, e.peer = some (p, g, c) → (t.chan g c).lane = false)) ∧
    (e.lane = false → Gives (.laneGroupWithdraw gt ch) s s)

namespace Sys2Proof.Claims

/-! ## Translation, packets, the host -/

/-- An entry concerns an invalidation: its partition, its home when a GEN came with it, and ALL, or the address at its own page size
or the size named (spec/13 R281). -/
def Concerns (e : TlbEntry) (inv : Invalidation) : Prop :=
  e.part = inv.part ∧ (inv.gen ≠ none → e.home = inv.home) ∧
  (inv.how.getLsbD 4 = true ∨ e.covers inv.va = true ∧ (inv.how.getLsbD 5 = true ∨ e.w0.toNat / 4 % 4 = inv.how.toNat / 64 % 4))
/-- A packet of class 3 that arrives at a port in its turn: well-formed, of a configured partition, the next of its flow, and with no
earlier one of its source still on its way, parked or returned. -/
def InTurn (s : State) (port : Nat) (p : Packet) : Prop :=
  p.malformed = false ∧ p.cls = 3 ∧ p.trim = false ∧ p.part < 16 ∧ (s.part p.part).configured = true ∧ p.iport = 0xFF ∧ port < 16 ∧
  (s.agenda ++ s.deferred).any (Instr.waitsIn p.src none) = false ∧ p.enable = [] ∧ BitVec.ofNat 16 p.seq = (s.inbound p).accepted ∧
  (s.port port).returned = [] ∧ (s.port port).parked = []

end Sys2Proof.Claims

/-- WALK_COMPLETE sends the entry found, or `no entry`, to the TLB that asked, unless its home's GEN has changed: then the walk starts again
with the new GEN. TLB_FILL installs the entry, but not one older than the TLB's GEN; `no entry` is kept for the access that asked, if it still
waits. TLB_INVALIDATION drops the entries it concerns, keeps
the others, notes its GEN and, with nothing pending, acknowledges to the waiting slot (spec/13 R281; spec/15 R320, R321, R322). Choices of the model that it rests on: log 2. -/
def Obligations.TranslationEvents : Prop :=
  ∀ (s : State),
    (∀ id w, walkAt s id = some w → w.home < 4 → s.hasTurn w.home 64 w.part = true →
      (w.gen = s.gen w.home w.part → ∃ t, Gives (.walkComplete id) s t ∧ t.mem = s.mem ∧ t.slots = s.slots ∧
        (∀ x ∈ (t.die w.home).walks, x.id ≠ id) ∧
        t.agenda = s.agenda ++ [.tlbFill w.tlb (match (s.walk w.part w.va).1 with
          | some e => { home := w.home, part := w.part, gen := w.gen, w0 := e.w0, w1 := e.w1, w2 := e.w2, by_ := w.by_, ctx := w.ctx }
          | none => { home := w.home, part := w.part, gen := w.gen, w0 := 0, w1 := w.va, w2 := 0, by_ := w.by_, ctx := w.ctx })]) ∧
      (w.gen ≠ s.gen w.home w.part → ∃ t, Gives (.walkComplete id) s t ∧ t = { s with dies := t.dies, agenda := s.agenda ++ [.walkComplete id] } ∧
        ∀ x ∈ (t.die w.home).walks, x.id = id → x.gen = s.gen w.home w.part)) ∧
    (∀ n (f : Fill), n < 324 →
      (∀ g, Assoc.find (s.tlb n).gens (f.home * 16 + f.part) = some g → f.gen < 2 ^ 31 → g < 2 ^ 31 → f.gen < g → Gives (.tlbFill n f) s s) ∧
      (Assoc.find (s.tlb n).gens (f.home * 16 + f.part) = none → f.w0 ≠ 0 →
        ∃ t, Gives (.tlbFill n f) s t ∧ t = { s with tiles := t.tiles, dies := t.dies } ∧ (t.tlb n).gens = (s.tlb n).gens ∧
          (t.tlb n).entries.head? = some { part := f.part, home := f.home, w0 := f.w0, w1 := f.w1, w2 := f.w2, ctx := f.ctx } ∧
          (∀ e ∈ (s.tlb n).entries, e.part ≠ f.part → e ∈ (t.tlb n).entries) ∧
          ((t.tlb n).entries.filter (fun e => e.part = f.part ∧ e.ctx = f.ctx)).length ≤ tlbRoom n) ∧
      (Assoc.find (s.tlb n).gens (f.home * 16 + f.part) = none → f.w0 = 0 →
        (f.by_ = 0 → Gives (.tlbFill n f) s s) ∧
        (f.by_ ≠ 0 → ∃ t, Gives (.tlbFill n f) s t ∧ (t.tlb n).entries = (s.tlb n).entries ∧
          (t.tlb n).answers = (s.tlb n).answers ++ [(f.part, f.w1, f.by_)]))) ∧
    (∀ n (inv : Invalidation) left, n < 320 → inv.waits = none → s.pendingWith n ((s.tlb n).dropped inv) = [] → inv.slot < noSlot →
      (s.slot inv.slot).wait = some (.tlb left) → (s.slot inv.slot).waitSerial = inv.serial → (s.slot inv.slot).resume = none →
      ∃ t, Gives (.tlbInvalidation n inv) s t ∧ t.mem = s.mem ∧ (∀ e, e ∈ (t.tlb n).entries ↔ e ∈ (s.tlb n).entries ∧ ¬Concerns e inv) ∧
        (∀ g, inv.gen = some g → Assoc.find (t.tlb n).gens (inv.home * 16 + inv.part) = some g) ∧
        t.slot inv.slot = { s.slot inv.slot with wait := some (.tlb (left.erase (n + 1024 * inv.home))) } ∧
        t.agenda = s.agenda ++ [.waitComplete inv.slot])
/-- A store of another module that arrives in its turn at a tile of its partition is performed and noticed; one for another
partition's tile is dropped and logged; a malformed packet is counted. ACCEPT_NOTICE frees the copy, and reports a store as performed or an
access as parked. A trimmed head makes the flow go back and asks for a resend; RESEND_REQUEST sends again what is kept from the packet named
onward. ROUTER_TRIM takes the payload of a packet on its way. A foreign request is answered with an error. PARKED_RETRY performs a parked
store whose translation now succeeds, once no TLB has still to drop the old entry (spec/15 R328, R333; spec/16 R342, R343, R344, R347; spec/17 R360, R361). Choices of the model that it rests on: log 2, 24, 52. -/
def Obligations.PacketEvents : Prop :=
  ∀ (s : State),
    (∀ (port : Nat) (p : Packet),
      (p.malformed = true → Gives (.ualinkIngress port p) s (s.countDie (port / 4 % 4) 5)) ∧
      (∀ gt off, InTurn s port p → p.kind = 2 → p.pois = false → p.addr.toNat = 0xFFFE * 2 ^ 48 + s.mgmt.package * 2 ^ 38 + gt * 2 ^ 30 + off →
        s.mgmt.package < 1024 → gt < 256 → off + p.data.length ≤ 2 ^ 22 → s.lostDie (dieOf gt) = false →
        ((s.tile gt).part = some p.part → s.carries port p.part (.tile gt off) = true → ∃ t, Gives (.ualinkIngress port p) s t ∧ t.mem = Memory.write s.mem (gt * 2 ^ 30 + off) p.data ∧
          t.slots = s.slots ∧ (t.flow p.src s.here).map (·.accepted) = some ((s.inbound p).accepted + 1) ∧
          ∃ n q, t.egress = s.egress ++ [.packet n q] ∧ q.kind = 0x12 ∧ q.perf = true ∧ q.dest = p.src ∧ q.seq = p.seq) ∧
        ((s.tile gt).part ≠ some p.part → ∃ t, Gives (.ualinkIngress port p) s t ∧ t.mem = s.mem ∧ t.slots = s.slots ∧
          (s.mgmt.guardLog.length < 4096 → t.mgmt.guardLog.length = s.mgmt.guardLog.length + 1)))) ∧
    (∀ (src dest seq : Nat) (r : Request), s.requestOf src dest seq = some r →
      (∃ t, Gives (.acceptNotice src dest seq false) s t ∧ t.agenda = s.agenda ∧ (∀ q ∈ t.requests, q.id = r.id → q.phase = .accepted) ∧
        ∀ f, t.flow src dest = some f → ∀ p ∈ f.retry, p.seq ≠ seq) ∧
      (r.kind.isStore = true → ∃ t, Gives (.acceptNotice src dest seq true) s t ∧ t.requests = s.requests ∧
        t.agenda = s.agenda ++ [.replyArrival r.id 0 false])) ∧
    (∀ (src seq : Nat) (f : PacketFlow), s.flow src s.here = some f → (f.accepted = BitVec.ofNat 16 seq ∨ 2 ^ 15 ≤ (f.accepted - BitVec.ofNat 16 seq).toNat) →
      ∃ t, Gives (.trimmedHeadArrival src s.here seq) s t ∧ t = { s with flows := t.flows, egress := t.egress } ∧
        t.flow src s.here = some { f with goBack := some (BitVec.ofNat 16 seq) } ∧
        ∃ n q, t.egress = s.egress ++ [.packet n q] ∧ q.kind = 0x11 ∧ q.dest = src ∧ q.seq = seq) ∧
    (∀ (src dest seq : Nat) (f : PacketFlow), s.flow src dest = some f →
      ∃ t, Gives (.resendRequest src dest seq) s t ∧ t.mem = s.mem ∧ t.slots = s.slots ∧ t.flows = s.flows ∧
        t.egress = s.egress ++ (f.retry.filter (fun p => (BitVec.ofNat 16 p.seq - BitVec.ofNat 16 seq).toNat < 2 ^ 15)).map
          (fun p => .packet (portOf p) p)) ∧
    (∀ (src dest seq n : Nat) (p : Packet), .packet n p ∈ s.egress → p.cls = 3 → p.src = src → flowDest p.dest = flowDest dest → p.seq = seq →
      ∃ t, Gives (.routerTrim src dest seq) s t ∧ t.mem = s.mem ∧ .packet n { p with trim := true, cls := 0, data := [] } ∈ t.egress ∧
        t.egress.length = s.egress.length) ∧
    (∀ port, port < 16 → ∃ t, Gives (.foreignUalinkRequest port) s t ∧ t = { s with ports := t.ports, egress := s.egress ++ [.ualinkError port] } ∧
      (t.port port).foreign = satInc (s.port port).foreign) ∧
    (∀ (part home n gt off : Nat) (f : Parked), n < 16 → (∀ g a c, s.headCmd g a = some c → c.stop = none) → (s.port n).parked = [f] →
      s.invalidating part home = false → s.heldBack f.packet = false → f.packet.enable = [] →
      (∀ m, m < 16 → m ≠ n → (s.port m).parked = []) → f.packet.part = part → shardOf f.packet.addr = home → f.packet.kind = 2 → f.packet.pois = false →
      s.landing f.packet = .ok (.tile gt off) → s.carries n part (.tile gt off) = true → off + f.packet.data.length ≤ 2 ^ 22 → s.lostDie (dieOf gt) = false →
      ∃ t, Gives (.parkedRetry part home) s t ∧ t.mem = Memory.write s.mem (gt * 2 ^ 30 + off) f.packet.data ∧ (t.port n).parked = [])
/-- A host read of memory outside what is reserved gives the bytes as stored, and the host then holds the lines; a host write is performed; an
address that the decoder does not map is a fault. A back-invalidate response performs the host's data and lets what waited go on. An
error completion or a timeout ends a load with poison and is counted. The completion of a zero-length read says that the earlier writes of its
source have been performed (R355). The timestamp is locked within 8 ns of the master's, which sends its own in
a packet of class 1 on every port in use; half a round trip is a port's delay. A register write reaches the decoder, or a tile's error counter; a command of 64 bytes enters the ring of an enabled queue with room, a legal
QCFG0 is written, and a prefetch of adapter entries changes no memory (spec/13 R271; spec/14 R291, R292, R300; spec/16 R351, R353, R354, R356). Choices of the model that it rests on: log 2, 35, 41, 76. -/
def Obligations.HostAndTime : Prop :=
  ∀ (s : State),
    (∀ hpa n data, s.host.maps hpa = none →
      exec (.hostMemRead hpa n) s = .fault (.outsideHdm hpa) ∧ exec (.hostMemWrite hpa data) s = .fault (.outsideHdm hpa)) ∧
    (∀ hpa die off, s.host.maps hpa = some (die, off) → s.mgmt.state = .ready → s.lostDie die = false → (s.die die).good = true → die < 4 →
      (∀ n, 0 < n → off + n ≤ (s.die die).rsvLo → (s.die die).directory.length + n ≤ 1048576 →
        ∃ t, Gives (.hostMemRead hpa n) s t ∧ t = { s with dies := t.dies, egress := t.egress } ∧
          t.egress = s.egress ++ [.hostCompletion hpa (s.readKeyed ((die + 1) * 2 ^ 40 + off) n 0) (s.poisoned ((die + 1) * 2 ^ 40 + off) n)] ∧
          (∀ l, l ∈ (t.die die).directory ↔ l ∈ (s.die die).directory ∨ (off / 64 ≤ l ∧ l ≤ (off + n - 1) / 64))) ∧
      (∀ data : Bytes, off + data.length ≤ (s.die die).rsvLo →
        ∃ t, Gives (.hostMemWrite hpa data) s t ∧ t.egress = s.egress ++ [.hostCompletion hpa [] false] ∧ t.slots = s.slots ∧
          t.mem = (s.writeKeyed ((die + 1) * 2 ^ 40 + off) data 0 false).mem) ∧
      (∀ n, (s.die die).rsvLo < off + n →
        Gives (.hostMemRead hpa n) s ((s.countHost true).emit (.hostCompletion hpa (List.replicate n 0) true)))) ∧
    (∀ die line, die < 4 → line ∈ (s.die die).snooped →
      ∃ t, Gives (.backInvalidateResponse die line none) s t ∧ t = { s with dies := t.dies, agenda := s.agenda ++ s.deferred, deferred := [] } ∧
        line ∉ (t.die die).directory ∧ line ∉ (t.die die).snooped) ∧
    (∀ id r, s.requests.find? (fun r => r.id == id && r.remote && r.phase != .performed) = some r → r.kind.isStore = false →
      r.kind ≠ .confirm →
      ∃ t, Gives (.hostErrorCompletion id) s t ∧ Gives (.hostCompletionTimeout id) s t ∧ t.agenda = s.agenda ++ [.replyArrival r.id 0 true] ∧
        t.host.errors = satInc s.host.errors ∧ t.mem = s.mem) ∧
    (∀ id v r, s.request id = some r → r.toHost = true → r.kind = .confirm →
      ∃ t, Gives (.replyArrival id v false) s t ∧ t.requests = s.requests.filter (fun q => q.id != id) ∧ t.mem = s.mem ∧
        t.agenda = s.agenda ++ (s.requests.filter (fun q => q.toHost && q.kind.isStore && q.src == r.src && decide (q.id < id))).map
          (fun q => .replyArrival q.id 0 false)) ∧
    (∀ m d, s.mgmt.isMaster = false →
      let err : Int := ((BitVec.ofNat 64 (m + d)).toNat : Int) - s.now.toNat
      (-8 ≤ err ∧ err ≤ 8 → Gives (.timestampSync m d) s { s with drift := err, locked := true, stepped := true }) ∧
      (err < -8 ∨ 8 < err ∧ s.stepped = true → Gives (.timestampSync m d) s { s with drift := err, locked := false })) ∧
    (∀ m d, s.mgmt.isMaster = true → ∃ t, Gives (.timestampSync m d) s t ∧ t.locked = true ∧ t.mem = s.mem ∧ t.now = s.now ∧
      ∀ n, n < 16 → (s.port n).trained = true → ∃ p, .packet n p ∈ t.egress ∧ p.kind = 0x0A ∧ p.cls = 1 ∧ p.data = toBytes 8 s.now.toNat) ∧
    (∀ port n, port < 16 → ∃ t, Gives (.linkDelayEcho port n) s t ∧ t = { s with ports := t.ports } ∧ (t.port port).delay = n / 2) ∧
    (∀ v : Word, Gives (.registerWrite 256 0 v) s { s with host := { s.host with hdmBase := v.toNat } }) ∧
    (∀ gt n (v : Word), gt < 256 → n < 8 → ∃ t, Gives (.registerWrite gt (0x0200B000 + 8 * n) v) s t ∧ t = { s with tiles := t.tiles } ∧
      (∀ k, k < 8 → vget (t.tile gt).errors k = if k = n then v else vget (s.tile gt).errors k) ∧
      (∀ g, g ≠ gt → t.tile g = s.tile g)) ∧
    (∀ gt o (v : Word), gt < 256 → o < 0xB000 → Gives (.registerWrite gt (0x02000000 + o) v) s s) ∧
    (∀ n (data : Bytes), n < 2048 → data.length = 64 → (s.queue n).cfg0.getLsbD 63 = true →
      ((s.queue n).posted - (s.queue n).taken).toNat < 2 ^ ((s.queue n).cfg0.toNat / 2 ^ 36 % 16) →
      ∃ t, Gives (.commandStore n 0 data) s t ∧ (t.queue n).ring = (s.queue n).ring ++ [data] ∧ (t.queue n).posted = (s.queue n).posted + 1 ∧
        t.mem = s.mem) ∧
    (∀ n v, n < 2048 → QcfgFine (s.queue n) v → ∃ t, Gives (.qcfgWrite n false v) s t ∧ (t.queue n).cfg0 = v ∧ t.mem = s.mem) ∧
    (∀ n, (s.queue n).cfg0.getLsbD 63 = true → (s.queue n).cfg1 ≠ 0 → ∃ t, Gives (.adapterPrefetch n) s t ∧ t.mem = s.mem ∧ t.slots = s.slots ∧
      (t.queue n).ahead = max (s.queue n).ahead (min 8 (s.queue n).ring.length))

namespace Sys2Proof.Claims

/-! ## Partitions, errors, bring-up -/

/-- A blob is at the head of the queue, well-formed, meant for this module and this boot, with an owner key where its TYPE needs one, and
its SEQ is new (spec/18 R382, Table 18.5). -/
def Pending (s : State) (b : Bytes) (rest : List Bytes) (type : Nat) : Prop :=
  s.mgmt.queue = b :: rest ∧ blobMalformed b = false ∧ (byteAt b 6).toNat = type ∧ (fieldW b 24 8 = 0 ∨ fieldW b 24 8 = s.mgmt.bootid) ∧
  (type ≠ 1 → s.mgmt.owner ≠ []) ∧ (vget s.mgmt.seqs type).toNat < (fieldW b 32 8).toNat
/-- A blob's signature verifies under the key that counts. -/
def signed (s : State) (b : Bytes) : Bool :=
  Config.verify (if s.mgmt.owner = [] then Config.ghekinKey else s.mgmt.owner) (b.take (64 + field b 8 4)) (b.drop (64 + field b 8 4))
/-- A blob has been handled: the queue is one shorter, and its status has been answered; when the status is 0 its SEQ is noted. -/
def Handled (s t : State) (b : Bytes) (rest : List Bytes) (type status : Nat) : Prop :=
  t.mgmt.queue = rest ∧ t.egress = s.egress ++ [.sprinell status []] ∧
  vget t.mgmt.seqs type = (if status = 0 then fieldW b 32 8 else vget s.mgmt.seqs type)

end Sys2Proof.Claims

/-- FRAME_START makes the lend states written in an earlier frame take effect, answers their FRAME.WRs, and takes the next clock step.
TIME_SLOT_START and ROTATION_TURN let what waited move on. DEADLOCK_SNAPSHOT keeps a die's last two snapshots; SNAPSHOT_EXCHANGE
tells the other modules of the partition, and reports a closed set once, on the module of its lowest member. PATROL_SCRUB changes no value. A corrected error is counted and logged; an uncorrectable one in a scratchpad also
poisons its granule. LINK_RETRAIN is logged. A lost die holds no slot and no record, and is lost for good (spec/17 R364, R365, R367 to R370,
R374, R375, R377). Choices of the model that it rests on: log 2, 34, 55, 57. -/
def Obligations.PartitionEvents : Prop :=
  ∀ (s : State),
    ((s.mgmt.frameReplies ≠ [] → s.cycle / 8192 ≠ s.mgmt.frames → ∃ t, Gives .frameStart s t ∧ t.mgmt.frameReplies = [] ∧ t.mgmt.nextLend = [] ∧
        t.mgmt.clkstep = s.mgmt.nextStep ∧ t.mem = s.mem ∧ t.agenda = s.agenda ++ s.mgmt.frameReplies.map (fun id => .replyArrival id 0 false) ∧
        ∀ i v, (∀ e ∈ s.mgmt.nextLend, e.1 = i → e.2 = v) → (i, v) ∈ s.mgmt.nextLend → Assoc.get 0 t.mgmt.lend i = v) ∧
      (s.mgmt.frameReplies = [] → ∃ t, Gives .frameStart s t ∧ t = { s with tiles := t.tiles, mgmt := { s.mgmt with clkstep := s.mgmt.nextStep } })) ∧
    (∀ a b, Gives (.timeSlotStart a b) s { s with agenda := s.agenda ++ s.deferred, deferred := [] } ∧
      Gives (.rotationTurn a b) s { s with agenda := s.agenda ++ s.deferred, deferred := [] }) ∧
    (∀ d, d < 4 → s.lostDie d = false → (s.die d).good = true →
      ∃ t, Gives (.deadlockSnapshot d) s t ∧ t = { s with dies := t.dies, agenda := t.agenda } ∧ (t.die d).previous = (s.die d).snapshot ∧
        (t.die d).snapshotAt = s.now ∧ (∀ w ∈ (t.die d).snapshot, s.waitingOf w.slot = some w ∧ w.slot / 4 / 64 % 4 = d) ∧
        (d ≠ s.lastDie → t.agenda = s.agenda)) ∧
    (∀ p, let set := (closedSet (s.standing p).length (s.standing p)).mergeSort (fun a b => decide (a.task.toNat ≤ b.task.toNat))
      (set = [] ∨ set.map (·.task) = (s.part p).reported → ∃ t, Gives (.snapshotExchange p) s t ∧ t.mem = s.mem ∧ t.slots = s.slots ∧ t.parts = s.parts ∧
        (Config.peerModules p = [] → t = s)) ∧
      (∀ w, w ∈ set → w.counts = true ∧ ∀ h ∈ w.on, ∃ v ∈ set, v.task = h) ∧
      (set ≠ [] → set.map (·.task) ≠ (s.part p).reported → ∃ t, Gives (.snapshotExchange p) s t ∧
        (t.part p).reported = set.map (·.task) ∧ (∀ h, (set.map (·.task)).head? = some h → h.toNat / 2 ^ 20 % 1024 ≠ s.mgmt.package → t.mem = s.mem))) ∧
    (∀ d n, Gives (.patrolScrub d n) s s) ∧
    (∀ e : ErrorReport, e.die < 4 → s.mgmt.errorLog = [] →
      (∃ t, Gives (.correctedError e) s t ∧ t.mem = s.mem ∧ t.slots = s.slots ∧ t.mgmt.errorLog.length = 1 ∧
        vget (t.die e.die).counters 10 = satInc (vget (s.die e.die).counters 10)) ∧
      (e.unit = 3 → ∃ t, Gives (.uncorrectableError e) s t ∧ t.mem = s.mem ∧ t.slots = s.slots ∧ t.mgmt.errorLog.length = 1 ∧
        vget (t.die e.die).counters 11 = satInc (vget (s.die e.die).counters 11) ∧
        (e.addr < 2 ^ 22 → e.gtile < 256 → t.poisoned (e.gtile * 2 ^ 30 + e.addr) 1 = true))) ∧
    (∀ d l, s.mgmt.errorLog.length < 8192 → ∃ t, Gives (.linkRetrain d l) s t ∧ t = { s with mgmt := t.mgmt, tiles := t.tiles } ∧
      t.mgmt.errorLog.length = s.mgmt.errorLog.length + 1) ∧
    (∀ d, d < 4 → s.lostDie d = false →
      ∃ t, Gives (.dieLost d) s t ∧ Gives (.thermalTrip d) s t ∧ t.lostDie d = true ∧ (t.die d).tun = [] ∧
        (∀ g, g / 4 / 64 % 4 = d → t.slot g = Slot.reset)) ∧
    (∀ d, s.lostDie d = true → Gives (.dieLost d) s s ∧ Gives (.thermalTrip d) s s)
/-- A reset of any kind leaves the state of reset with a new BOOTID, and keeps what has left the module. Each event of bring-up takes the
module from its reset state to the next while some die is good; DRAM holds zeros after DRAMINIT; identity takes the measurements and derives
the keys, the alias key from measurement 1; with its links up the module is READY. A configuration request is told to retry until then (spec/18 R379, R380, R381, R385, R386). Choices of the model that it rests on: log 8. -/
def Obligations.BringUp : Prop :=
  ∀ (s : State),
    (∃ t, Gives .coldReset s t ∧ Gives .warmReset s t ∧ Gives .resetCommand s t ∧ t.mgmt.state = .rails ∧ t.mem = [] ∧ t.slots = [] ∧ t.tiles = [] ∧
      t.requests = [] ∧ t.images = [] ∧ t.parts = State.reset.parts ∧ t.dies = State.reset.dies ∧ t.egress = s.egress ∧
      t.mgmt.bootid = Config.bootId (s.mgmt.resets + 1)) ∧
    (s.mgmt.state = .rails → Gives .railsDone s { s with mgmt := { s.mgmt with state := .selftest } }) ∧
    (∀ m : BitVec 4, m ≠ 0 → s.mgmt.state = .selftest → ∃ t, Gives (.selftestDone m) s t ∧ t.mgmt = { s.mgmt with state := .draminit } ∧
      ∀ d, d < 4 → (t.die d).good = m.getLsbD d) ∧
    (s.mgmt.state = .selftest → ∃ t, Gives (.selftestDone 0) s t ∧ t.mgmt.state = .failed) ∧
    (∀ (m : BitVec 4) (d : Nat), d < 4 → m.getLsbD d = true → (s.die d).good = true →
      (s.mgmt.state = .draminit → ∃ t, Gives (.draminitDone m) s t ∧ t.mgmt = { s.mgmt with state := .identity } ∧ t.mem = [] ∧ t.poison = [] ∧
        ∀ k, k < 4 → (t.die k).good = ((s.die k).good && m.getLsbD k)) ∧
      (s.mgmt.state = .links → ∃ t, Gives (.linksDone m) s t ∧ t.mgmt.state = .ready ∧ t.mem = s.mem ∧ (∀ p, p < 16 → (t.port p).trained = true) ∧
        ∀ k, k < 4 → (t.die k).good = ((s.die k).good && m.getLsbD k))) ∧
    (s.mgmt.state = .identity → ∃ t, Gives .identityDone s t ∧ t = { s with mgmt := t.mgmt } ∧ t.mgmt.state = .links ∧
      vget t.mgmt.measurements 1 = Config.sha512 Config.romImage ∧
      t.mgmt.identityKey = Config.deriveKey 0 Config.deviceSecret ∧ t.mgmt.agreementKey = Config.deriveKey 1 Config.deviceSecret ∧
      t.mgmt.aliasKey = Config.deriveKey 2 (t.mgmt.identityKey ++ vget t.mgmt.measurements 1) ∧
      t.mgmt.agreementCert = Config.certify t.mgmt.identityKey t.mgmt.agreementKey [] ∧
      t.mgmt.chain = Config.certificates ++ Config.certify t.mgmt.identityKey t.mgmt.aliasKey (vget t.mgmt.measurements 1)) ∧
    (∀ msg, Gives (.configurationRequest msg) s (s.emit (.configReply (s.mgmt.state != .ready))))
/-- BLOB queues a blob while the module is READY. A blob at the head of the queue that passes its checks is applied when its signature
verifies, and else answers 4: OWNER sets the owner key; MODULE the package number, the master flag and the frame table; PARTITION configures
a partition; MEMKEY a key, when its material unwraps; LINKKEY the port's next key, which KEY_SWITCH takes; POWER the limit. The first failing
check of Table 18.5 gives the status otherwise (spec/18 R382 to R384). Choices of the model that it rests on: log 2, 11, 59. -/
def Obligations.SignedBlobs : Prop :=
  ∀ (s : State) (b : Bytes) (rest : List Bytes),
    (∀ data, s.mgmt.state = .ready → Gives (.queueBlob data) s
      { s with mgmt := { s.mgmt with queue := s.mgmt.queue ++ [data] }, agenda := s.agenda ++ [blobEvent data] }) ∧
    (fieldW b 16 8 = 0 ∨ fieldW b 16 8 = Config.moduleSerial →
      let p := blobPayload b
      let ok := signed s b
      (Pending s b rest 1 → byteAt p 0 = 4 → ∃ t, Gives .ownerBlob s t ∧ Handled s t b rest 1 (if ok then 0 else 4) ∧
        t.mgmt.owner = if ok then p else s.mgmt.owner) ∧
      (Pending s b rest 2 → (∀ i, i < 16 → (s.part i).configured = false) → (∀ x ∈ p.drop 64, x.toNat ≤ 15 ∨ x.toNat = 255) →
        ∃ t, Gives .moduleBlob s t ∧ Handled s t b rest 2 (if ok then 0 else 4) ∧
          (ok = true → t.mgmt.package = field p 0 2 % 1024 ∧ t.mgmt.frame = p.drop 64 ∧ t.mgmt.isMaster = (byteAt p 2).getLsbD 0)) ∧
      (Pending s b rest 3 → s.partitionBad p = false → ∀ v, State.configure { s with mgmt := { s.mgmt with queue := rest } } p = some v →
        ∃ t, Gives .partitionBlob s t ∧ Handled s t b rest 3 (if ok then 0 else 4) ∧ t.parts = (if ok then v.parts else s.parts) ∧
          t.tiles = (if ok then v.tiles else s.tiles) ∧ t.mem = (if ok then v.mem else s.mem)) ∧
      (Pending s b rest 5 → (byteAt p 0).toNat < 16 → ∃ t, Gives .linkkeyBlob s t ∧ Handled s t b rest 5 (if ok then 0 else 4) ∧
        (vget t.ports (byteAt p 0).toNat).nextKey = if ok then some (p.drop 1) else (vget s.ports (byteAt p 0).toNat).nextKey) ∧
      (Pending s b rest 6 → 900 ≤ field p 0 2 → field p 0 2 ≤ 1800 → ∃ t, Gives .powerBlob s t ∧ Handled s t b rest 6 (if ok then 0 else 4) ∧
        t.mgmt.plmax = (if ok then field p 0 2 else s.mgmt.plmax) ∧
        t.mgmt.plwork = (if ok then min s.mgmt.plwork (field p 0 2) else s.mgmt.plwork))) ∧
    (let p := blobPayload b
     let part := (byteAt p 0).toNat
     let id := (byteAt p 1).toNat
     Pending s b rest 4 → fieldW b 16 8 = Config.moduleSerial → part < 16 → 1 ≤ id → id ≤ 63 →
      let key := Config.unwrapKey s.mgmt.agreementKey (b.take 64 ++ p)
      ∃ t, Gives .memkeyBlob s t ∧
        Handled s t b rest 4 (if Config.moduleSerial = 0 then 2 else if signed s b = false then 4 else if key = none then 6 else 0) ∧
        (Config.moduleSerial ≠ 0 → signed s b = true → ∀ k, key = some k → Assoc.find (t.part part).keys id = some k)) ∧
    (∀ ev, ev = blobEvent b → s.mgmt.queue = b :: rest →
      (blobMalformed b = true → Gives ev s (State.sprinell { s with mgmt := { s.mgmt with queue := rest } } 1 [])) ∧
      (blobMalformed b = false → fieldW b 24 8 ≠ 0 → fieldW b 24 8 ≠ s.mgmt.bootid →
        Gives ev s (State.sprinell { s with mgmt := { s.mgmt with queue := rest } } 2 []))) ∧
    (∀ n k, n < 16 → (s.port n).nextKey = some k → ∃ t, Gives (.keySwitch n) s t ∧ t = { s with ports := t.ports } ∧ (t.port n).key = k ∧
      (t.port n).nextKey = none)
/-- The Sprinell registers, limits, logs and counters; the SPDM requests, each answered and added to the transcript, with a new transcript at
GET_VERSION, a session from FINISH to END_SESSION, and keys taken by IDE_KM in a session only; and the governor and the thermal limits
(spec/18 R386 to R391, Tables 18.4, 18.8). What an SPDM response says is free (log 11). Choices of the model that it rests on: log 44, 53, 60, 61. -/
def Obligations.Management : Prop :=
  ∀ (s : State),
    (Gives (.regRd 1) s (s.sprinell 0 (toBytes 8 s.mgmt.bootid.toNat)) ∧ Gives (.regRd 2) s (s.sprinell 0 (toBytes 8 s.mgmt.dramrsv.toNat))) ∧
    (∀ w, 900 ≤ w → w ≤ s.mgmt.plmax → Gives (.plSet w) s (State.sprinell { s with mgmt := { s.mgmt with plwork := w } } 0 [])) ∧
    (∀ i n, s.mgmt.state = .ready → Gives (.logRd true i n) s (s.sprinell 0 ((s.mgmt.errorLog.drop i).take n).flatten) ∧
      Gives (.logRd false i n) s (s.sprinell 0 ((s.mgmt.guardLog.drop i).take n).flatten)) ∧
    (∀ d i, s.mgmt.state = .ready → d < 4 → i < 13 → Gives (.cntRd d i) s (s.sprinell 0 (toBytes 8 (vget (s.die d).counters i).toNat))) ∧
    (∀ msg, ∀ p ∈ [(Instr.getCapabilities msg, s.mgmt.session), (.negotiateAlgorithms msg, s.mgmt.session), (.getDigests msg, s.mgmt.session),
        (.getCertificate msg, s.mgmt.session), (.challenge msg, s.mgmt.session), (.getMeasurements msg, s.mgmt.session),
        (.keyExchange msg, s.mgmt.session), (.finish msg, true), (.endSession msg, false)],
      ∃ r, Gives p.1 s (State.emit { s with mgmt := { s.mgmt with transcript := s.mgmt.transcript ++ msg ++ r, session := p.2 } } (.spdm r))) ∧
    (∀ msg, ∃ r, Gives (.getVersion msg) s (State.emit { s with mgmt := { s.mgmt with transcript := msg ++ r, session := false } } (.spdm r))) ∧
    (∀ msg, ∃ r, Gives (.ideKm msg) s (State.emit { s with mgmt := { s.mgmt with ideKeys := if s.mgmt.session then msg else s.mgmt.ideKeys } } (.spdm r))) ∧
    (∀ w a, (s.mgmt.plwork < a → s.mgmt.nextStep < 8 →
        Gives (.governorSample w a) s { s with mgmt := { s.mgmt with below := 0, nextStep := s.mgmt.nextStep + 1 } }) ∧
      (a * 100 < s.mgmt.plwork * 97 → s.mgmt.below < 99 →
        Gives (.governorSample w a) s { s with mgmt := { s.mgmt with below := s.mgmt.below + 1, overAtLimit := 0 } }) ∧
      (a * 100 < s.mgmt.plwork * 97 → 99 ≤ s.mgmt.below → (∀ d, d < 4 → (s.die d).hot = false) →
        Gives (.governorSample w a) s { s with mgmt := { s.mgmt with below := 0, overAtLimit := 0, nextStep := s.mgmt.nextStep - 1 } }) ∧
      (a ≤ s.mgmt.plwork → s.mgmt.plwork * 97 ≤ a * 100 →
        Gives (.governorSample w a) s { s with mgmt := { s.mgmt with below := 0, overAtLimit := 0 } })) ∧
    (∀ w v, Gives (.telemetryRefresh w v) s { s with mgmt := { s.mgmt with watts := w, temp := v } }) ∧
    (∀ d (dram core : Int), d < 4 → s.lostDie d = false → dram < 105 → core < 115 →
      ∃ t, Gives (.thermalLimit d dram core) s t ∧ t.mem = s.mem ∧ t.slots = s.slots ∧ (t.die d).dramTemp = dram ∧ (t.die d).coreTemp = core ∧
        (85 < dram → (t.die d).refreshHalved = true) ∧ (dram < 83 → (t.die d).refreshHalved = false) ∧
        (95 < dram ∨ 105 < core → (t.die d).hot = true ∧ t.mgmt.nextStep = min 8 (s.mgmt.nextStep + 1)) ∧
        (dram ≤ 93 → core ≤ 103 → (t.die d).hot = false ∧ t.mgmt = s.mgmt)) ∧
    (∀ d (dram core : Int), d < 4 → s.lostDie d = false → 105 ≤ dram ∨ 115 ≤ core → ∃ t, Gives (.thermalLimit d dram core) s t ∧ t.lostDie d = true)

namespace Sys2Proof.Claims

/-! ## The common checks, a step, reset -/

/-- Instructions that only SUPER mode may execute, beside CSRRD and the CSR writes (spec/13 R267), and those that a handler may not execute (spec/02
R56), with their forms and the registers they name. -/
def checkRow (i : Instr) : Option (Form × List Reg) :=
  match i with
  | .idle => some ({ privileged := true }, [])
  | .tret => some ({ privileged := true }, [])
  | .tlbInv a b => some ({ privileged := true }, [a, b])
  | .guardWr d a b => some ({ privileged := true }, [a, b, d])
  | .frameWr d a b => some ({ privileged := true }, [a, b, d])
  | .slotSave d a => some ({ privileged := true }, [a, d])
  | .slotRestore d a b => some ({ privileged := true }, [a, b, d])
  | .yield => some ({ noHandler := true }, [])
  | .send d _ b => some ({ noHandler := true }, [b, d])
  | .sendRaw d _ b => some ({ noHandler := true }, [b, d])
  | .recv d _ => some ({ noHandler := true }, [d])
  | .alt d a => some ({ noHandler := true }, [a, d])
  | .waitlt _ _ => some ({ noHandler := true }, [])
  | .waitltX _ b => some ({ noHandler := true }, [b])
  | .barArrive d a => some ({ engine := true, noHandler := true }, [a, d])
  | .cancelWait d a => some ({ engine := true, noHandler := true }, [a, d])
  | .gangSync d => some ({ engine := true, noHandler := true }, [d])
  | .endTask a => some ({ engine := true, noHandler := true }, [a])
  | _ => none
/-- The form of an instruction and the registers it names, from the rows above. -/
def FormOf (i : Instr) (t : Slot) (f : Form) (rs : List Reg) : Prop :=
  checkRow i = some (f, rs) ∨
  (f = { engine := true, mtile := true } ∧ ∃ w, matRow i = some (rs, w)) ∨
  (f = { engine := true, stile := true } ∧ ∃ w, selRow i = some (rs, w)) ∨
  (f = { engine := true } ∧ ((∃ w, vecRow i = some (rs, w)) ∨ (∃ w, vecMemRow i = some (rs, w)) ∨
    ∃ d p k g n, engineRow i = some (d, p, k, g, n) ∧ rs = [p, d])) ∨
  (f = {} ∧ ((∃ w, aluRow i t = some (rs, w)) ∨ (∃ w, satRow i t = some (rs, w)) ∨ (∃ w, branchRow i t = some w ∧ rs = [w.1]) ∨
    ∃ w, loopRow i t = some (rs, w)))
/-- A slot is BLOCKED on a wait that is no issue while its condition is unmet (spec/02 R35). -/
def OnHold (t : State) (g : Nat) : Prop := (t.slot g).state = .blocked ∧ ∃ w, (t.slot g).wait = some w ∧ w.holdsIssue = true
/-- What a tile's turn does with the outcome of the instruction of slot `g`: a next state is the step's when the slot was ready; a wait whose
condition is met completes at once, and one whose condition is unmet, like an instruction that is not ready, ends the tile's turn without an
issue (no slot after it in the order is in the rotation); a fault or a refusal is the step's. -/
def Passed (s : State) (gt g : Nat) (issued : Option Nat) (post : List Nat) (o : Host.Outcome State Fault Refusal) : Prop :=
  (∀ t, o = .next t → t.stalled = false → ¬OnHold t g → step s = .next (t.afterTurn gt issued)) ∧
  (∀ t v, o = .next t → t.stalled = false → OnHold t g → exec (.waitComplete g) { t with agenda := t.agenda.erase (.waitComplete g), issuing := true } = .next v →
    ((v.slot g).state ≠ .blocked → step s = .next (State.afterTurn gt issued { v with issuing := false })) ∧
    ((v.slot g).state = .blocked → (∀ h ∈ post, (t.slot h).runs = false) → step s = .next (t.afterTurn gt none))) ∧
  (∀ t, o = .next t → t.stalled = true → (∀ h ∈ post, (t.slot h).runs = false) →
    step s = .next (State.afterTurn gt none { t with stalled := false })) ∧
  (∀ f, o = .fault f → step s = .fault f) ∧ (∀ r, o = .refused r → step s = .refused r)

end Sys2Proof.Claims

/-- The checks that every instruction passes first. While a register it names awaits a result it does not issue. In USER mode a privileged
instruction raises Privilege Fault; a matrix instruction on a tile that is no M-tile, a select instruction on a tile that is no S-tile, a
queued or task instruction in the trap bank, and a forbidden instruction inside a handler, raise Illegal Instruction. Nothing of the
instruction is done (spec/05 R110, spec/06 R127, spec/02 R56, spec/13 R267, R277). Choices of the model that it rests on: log 19, 39. -/
def Obligations.CommonChecks : Prop :=
  ∀ (s : State) (i : Instr) (f : Form) (rs : List Reg), FormOf i (me s) f rs →
    (s.anyBusy s.cur (me s) rs = true → Gives i s { s with stalled := true }) ∧
    (s.anyBusy s.cur (me s) rs = false →
      (f.privileged = true → (me s).status.super = false → Gives i s (s.takeTrap s.cur 2 (s.wordAt (me s)))) ∧
      (f.mtile = true → isMTile (s.cur / 4) = false → Gives i s (s.takeTrap s.cur 1 (s.wordAt (me s)))) ∧
      (f.stile = true → isSTile (s.cur / 4) = false → Gives i s (s.takeTrap s.cur 1 (s.wordAt (me s)))) ∧
      (f.engine = true → (me s).status.tbank = true → Gives i s (s.takeTrap s.cur 1 (s.wordAt (me s)))) ∧
      (f.noHandler = true → (me s).inHandler = true → (me s).status.tbank = false → Gives i s (s.takeTrap s.cur 1 (s.wordAt (me s)))))
/-- A step runs the decoded instruction. A cycle passes; with an event due, the oldest runs, or waits while its partition has no time slot on its way (spec/17 R364). Else the next tile in turn examines its slots,
in COMPACT mode beginning after the slot that issued last, in FIXED mode the slot of the phase: the first slot in the rotation is fetched
from, at its PC in its kernel's code, and the instruction its word decodes to is executed; a wait completes at once when its condition is met,
and is no issue while it is not; a word that decodes to none, and a PC without a
word, raise Illegal Instruction (spec/02 R35 to R37, spec/05 R106, R110; log 2). A word placed by `withFetchWord` is executed so. Choices of the model that it rests on: log 3, 34. -/
def Obligations.StepRunsDecoded : Prop :=
  (∀ (s : State) (i : Instr) (rest : List Instr), s.schedule = [] → s.tick.agenda = i :: rest →
    let u : State := { s.tick with agenda := rest }
    (u.heldUp i = false → step s = exec i u) ∧ (u.heldUp i = true → step s = .next { u with deferred := u.deferred ++ [i] })) ∧
  (∀ (s u : State) (gt g : Nat) (pre post : List Nat) (k : Kernel), s.schedule = [] → s.tick.agenda = [] → s.tick.nextTile = some gt →
    s.tick.lockstepOf gt = none →
    ((s.tick.tile gt).fixed = false → u = s.tick) →
    ((s.tick.tile gt).fixed = true → u = State.ticks (s.tick.phaseWait gt) s.tick) →
    pre ++ g :: post = (if (s.tick.tile gt).fixed then [gt * 4 + u.cycle % 4] else
      [gt * 4 + ((u.tile gt).last.val + 1) % 4, gt * 4 + ((u.tile gt).last.val + 2) % 4, gt * 4 + ((u.tile gt).last.val + 3) % 4,
        gt * 4 + (u.tile gt).last.val]) →
    (∀ h ∈ pre, (u.slot h).runs = false) → (u.slot g).runs = true → (u.slot g).killable = false → (u.slot g).freeze = none →
    (u.slot g).heldBy = none → (u.slot g).deferred = none → u.kernelOf (u.slot g) = some k →
    (∀ w i, (u.slot g).pc % 4 = 0 → k.code[(u.slot g).pc / 4]? = some w → decode w.toNat = .ok i →
      Passed s gt g (if (s.tick.tile gt).fixed then none else some g) post (exec i { u with cur := g })) ∧
    (∀ w e, (u.slot g).pc % 4 = 0 → k.code[(u.slot g).pc / 4]? = some w → decode w.toNat = .error e →
      Passed s gt g (if (s.tick.tile gt).fixed then none else some g) post (exec (.slotTrap g 1 (w.setWidth 64)) { u with cur := g })) ∧
    ((u.slot g).pc % 4 ≠ 0 ∨ k.code[(u.slot g).pc / 4]? = none →
      Passed s gt g (if (s.tick.tile gt).fixed then none else some g) post (exec (.slotTrap g 1 (wordN (u.slot g).pc)) { u with cur := g })))
/-- Memory keeps its canonical form: every step from a state whose memory lists its bytes in rising order, and no byte that is 0, leaves
such a memory (log 5). -/
def Obligations.MemoryCanonical : Prop := ∀ s t : State, Memory.wf s.mem → step s = .next t → Memory.wf t.mem
/-- The module right after reset: memory is canonical and every byte reads 0 without a poison mark (the model's choice, log 5); the
state is RAILS and no die is good; the power, limit and temperature registers hold the values of Table 18.4; no partition is
configured, and no slot, task, scope, image or key is left; the registers of an empty slot are 0 (the model's choice, log 4) (spec/18 R379, Tables 18.1, 18.4). -/
def Obligations.ResetValues : Prop :=
  let s := State.reset
  Memory.wf s.mem ∧ (∀ k n, s.readMem k n = List.replicate n 0 ∧ s.poisoned k n = false) ∧
  s.sprinellReg 0 = some 0 ∧ s.sprinellReg 3 = some (BitVec.ofNat 64 (1800 * 2 ^ 32 + 1800 * 2 ^ 16)) ∧ s.sprinellReg 4 = some 0 ∧
  (∀ d, d < 4 → (s.die d).good = false ∧ (s.die d).tun = []) ∧ (∀ p, p < 16 → (s.part p).configured = false ∧ (s.part p).keys = []) ∧
  (∀ g, s.slot g = Slot.reset) ∧ (∀ h k, s.taskOf h = none ∧ s.scope k = none) ∧ s.images = [] ∧ s.instances = [] ∧ s.commands = [] ∧
  (∀ b r, (Slot.reset.flowOf b).get r = 0)

namespace Sys2Proof.Claims

/-! ## Numbers, and the order of a walk -/

/-- A finite value in sixteenths. -/
def sixteenths : Machine.Num → Option Int
  | .fin neg q e _ => if -4 ≤ e then some ((if neg then -1 else 1) * q * 2 ^ (e + 4).toNat) else none
  | _ => none
/-- An entry that a walk for `va` takes from a bucket of size code `z`: present, well-formed, not poisoned, of that size, and covering `va`
(spec/15 R313, R316). `k` is where it stands. -/
def Takes (s : State) (part : Nat) (va : Word) (z k : Nat) (e : TlbEntry) : Prop :=
  e.w0.getLsbD 0 = true ∧ s.malformed part e = false ∧ s.poisoned k 32 = false ∧ e.w0.toNat / 4 % 4 = z ∧ e.covers va = true ∧
  e.meetsWindow (s.part part).ptwin = false
/-- The buckets that a walk reads for a size code, in order (spec/15 R315, R316). -/
def bucketsOf (s : State) (part : Nat) (va : Word) (z : Nat) : List Nat :=
  let nb := (s.part part).nb
  [(hashOf va z).toNat % 2 ^ nb, (hashOf va z).toNat / 2 ^ (64 - nb)]
/-- Entry `i` of bucket `b`, where `base` is the partition's shard. -/
def entryOf (s : State) (part home base b i : Nat) : TlbEntry :=
  let bs := s.readMem (base + b * 256 + i * 32) 32
  { part := part, home := home, w0 := wordN (ofBytes (bs.take 8)), w1 := wordN (ofBytes ((bs.drop 8).take 8))
    w2 := wordN (ofBytes ((bs.drop 16).take 8)) }

end Sys2Proof.Claims

/-- What operand codes mean, and rounding to a grid (spec/03 R61, R63, R65, R77): every code of FP4 and FP6 has the value of Tables 3.2 to 3.4;
an integer code its own; an E8M0 scale multiplies by 2^(X − 127), and 0xFF makes NaN; a CB4 code selects from the codebook. A magnitude between
two neighbours q and q + 1 of the grid is rounded as Table 3.13 says for each rounding code. -/
def Obligations.NumberFormats : Prop :=
  (∀ c, c < 16 → sixteenths (decodeNum 8 false [] c) =
    ([0, 8, 16, 24, 32, 48, 64, 96, 0, -8, -16, -24, -32, -48, -64, -96] : List Int)[c]?) ∧
  (∀ c, c < 32 → sixteenths (decodeNum 9 false [] c) =
    ([0, 2, 4, 6, 8, 10, 12, 14, 16, 18, 20, 22, 24, 26, 28, 30, 32, 36, 40, 44, 48, 52, 56, 60, 64, 72, 80, 88, 96, 104, 112, 120] : List Int)[c]? ∧
    sixteenths (decodeNum 9 false [] (32 + c)) = (sixteenths (decodeNum 9 false [] c)).map (fun v => -v)) ∧
  (∀ c, c < 32 → sixteenths (decodeNum 10 false [] c) =
    ([0, 1, 2, 3, 4, 5, 6, 7, 8, 10, 12, 14, 16, 20, 24, 28, 32, 40, 48, 56, 64, 80, 96, 112, 128, 160, 192, 224, 256, 320, 384, 448] : List Int)[c]? ∧
    sixteenths (decodeNum 10 false [] (32 + c)) = (sixteenths (decodeNum 10 false [] c)).map (fun v => -v)) ∧
  (∀ (signed : Bool) (c : BitVec 8), sixteenths (decodeNum 5 signed [] c.toNat) = some (16 * if signed then c.toInt else c.toNat)) ∧
  (∀ (x : Nat) (neg : Bool) (q : Nat) (e : Int), x < 255 → scaleE8M0 x false (.fin neg q e false) = .fin neg q (e + x - 127) false) ∧
  (∀ v, scaleE8M0 255 false v = .nan false) ∧
  (∀ (codebook : List Nat) (c : Nat), c < 16 → decodeNum 15 false codebook c = decodeNum 13 false [] (codebook.getD c 0)) ∧
  (∀ (u num sh : Nat) (exp : Int) (neg : Bool), 0 < sh →
    let g := exp + sh
    let q := num / 2 ^ sh
    let r := num % 2 ^ sh
    (r = 0 → ∀ rc, roundTo rc u neg num exp false g = (q, true)) ∧
    (r ≠ 0 →
      roundTo 1 u neg num exp false g = (q, false) ∧
      roundTo 2 u neg num exp false g = (if neg then q else q + 1, false) ∧
      roundTo 3 u neg num exp false g = (if neg then q + 1 else q, false) ∧
      (2 * r < 2 ^ sh → roundTo 0 u neg num exp false g = (q, false)) ∧
      (2 ^ sh < 2 * r → roundTo 0 u neg num exp false g = (q + 1, false)) ∧
      (2 * r = 2 ^ sh → (roundTo 0 u neg num exp false g).1 % 2 = 0 ∧ ((roundTo 0 u neg num exp false g).1 = q ∨ (roundTo 0 u neg num exp false g).1 = q + 1)) ∧
      roundTo 4 u false num exp false g = (if u < r * 2 ^ 32 / 2 ^ sh then q + 1 else q, false) ∧
      roundTo 4 u true num exp false g = (if u < (2 ^ sh - r) * 2 ^ 32 / 2 ^ sh then q else q + 1, false)))
/-- How a contribution enters an accumulator element (spec/03 R72): t is the floor of c × 2^(−EB), INX is set when that is not exact, and A + t
saturates to 128 bits with OVF; NaN and Inf set only their status bit. Merging a tile into another takes each source element as one contribution
and ORs its status bits. -/
def Obligations.ElementRules : Prop :=
  (∀ (x : AccElem) (eb : Int) (neg : Bool), x.add eb (.nan neg) = ({ x with st := x.st ||| 1 }, false) ∧
    x.add eb (.inf neg) = ({ x with st := x.st ||| (if neg then 4 else 2) }, false)) ∧
  (∀ (x : AccElem) (eb e : Int) (neg : Bool) (q : Nat), ∃ t : Int,
    let c : Int := if neg then -(q : Int) else q
    (eb ≤ e → t = c * 2 ^ (e - eb).toNat ∧ (x.add eb (.fin neg q e false)).2 = false) ∧
    (e < eb → t * 2 ^ (eb - e).toNat ≤ c ∧ c < (t + 1) * 2 ^ (eb - e).toNat ∧
      (x.add eb (.fin neg q e false)).2 = decide (t * 2 ^ (eb - e).toNat ≠ c)) ∧
    (x.a + t < -2 ^ 127 → (x.add eb (.fin neg q e false)).1 = { a := -2 ^ 127, st := x.st ||| 8 }) ∧
    (2 ^ 127 - 1 < x.a + t → (x.add eb (.fin neg q e false)).1 = { a := 2 ^ 127 - 1, st := x.st ||| 8 }) ∧
    (-2 ^ 127 ≤ x.a + t → x.a + t ≤ 2 ^ 127 - 1 → (x.add eb (.fin neg q e false)).1 = { x with a := x.a + t })) ∧
  (∀ (s : State) (gt n src k : Nat), Memory.wf s.mem → gt < 256 → n < 64 → src < 64 → k < 1024 →
    let y := s.accElem gt src k
    let z := (s.accElem gt n k).add (s.accEb gt n) (.fin (decide (y.a < 0)) y.a.natAbs (s.accEb gt src) false)
    (s.accAdd gt n src).accElem gt n k = { z.1 with st := z.1.st ||| y.st } ∧ (z.2 = true → (s.accAdd gt n src).accInx gt n = true))
/-- The order of a walk (spec/15 R316): the entry taken is the first that covers the address, by size code from 3 down to 0, then bucket B0
before B1, then entry index; with none anywhere in these buckets there is no entry. -/
def Obligations.WalkOrder : Prop :=
  ∀ (s : State) (part : Nat) (va : Word) (base : Nat), s.lostDie (shardOf va) = false → s.shardBase part (shardOf va) = some base →
    1 ≤ (s.part part).nb → (s.part part).nb ≤ 64 →
    let at_ := fun (z j i : Nat) => ((bucketsOf s part va z).getD j 0, entryOf s part (shardOf va) base ((bucketsOf s part va z).getD j 0) i)
    let takes := fun (z j i : Nat) => Takes s part va z (base + (at_ z j i).1 * 256 + i * 32) (at_ z j i).2
    (∀ e, (s.walk part va).1 = some e ↔
      ∃ z j i, z < 4 ∧ j < 2 ∧ i < 8 ∧ (at_ z j i).2 = e ∧ takes z j i ∧
        ∀ z' j' i', z' < 4 → j' < 2 → i' < 8 → (z < z' ∨ z' = z ∧ (j' < j ∨ j' = j ∧ i' < i)) → ¬takes z' j' i') ∧
    ((s.walk part va).1 = none ↔ ∀ z j i, z < 4 → j < 2 → i < 8 → ¬takes z j i)
/-- K.RD reads a counter; K.ADD adds to it, saturated to 0 to 65,535, and sets SAT when that changes the sum. Nothing else changes (spec/09 R222). -/
def Obligations.CounterInstructions : Prop :=
  ∀ (s : State) (d b : Reg) (k : Fin 16), (me s).grant.k.getLsbD k.val = true →
    let c := (s.counter (s.cur / 4) k.val).toNat
    let sum := (c : Int) + ((me s).x b).toInt
    (Ready s {} [d] → Gives (.kRd d k) s (answered s d (BitVec.ofNat 64 c))) ∧
    (Ready s {} [b] → ∃ t, Gives (.kAdd k b) s t ∧ t = { s with slots := t.slots, tiles := t.tiles } ∧
      (∀ m, m < 16 → ((t.counter (s.cur / 4) m).toNat : Int) = if m = k.val then max 0 (min 65535 sum) else (s.counter (s.cur / 4) m).toNat) ∧
      t.tile (s.cur / 4) = { s.tile (s.cur / 4) with k := (t.tile (s.cur / 4)).k } ∧
      t.slot s.cur = { me s with flags := if sum < 0 ∨ 65535 < sum then (me s).flags ||| 32 else (me s).flags }.advance ∧
      (∀ h, h ≠ s.cur → t.slot h = s.slot h) ∧ (∀ h, h ≠ s.cur / 4 → t.tile h = s.tile h))
end

