-- ==== Sys2Proof/Laws/State.lean ====
section
/-! SUPPORT. What each update of the state leaves alone, field by field, and what it sets. -/

namespace Sys2Proof.Machine

@[simp] theorem State.setSlot_mem (s : State) (g : Nat) (t : Slot) : (s.setSlot g t).mem = s.mem := rfl
@[simp] theorem State.setSlot_poison (s : State) (g : Nat) (t : Slot) : (s.setSlot g t).poison = s.poison := rfl
@[simp] theorem State.setSlot_keyTag (s : State) (g : Nat) (t : Slot) : (s.setSlot g t).keyTag = s.keyTag := rfl
@[simp] theorem State.setSlot_tiles (s : State) (g : Nat) (t : Slot) : (s.setSlot g t).tiles = s.tiles := rfl
@[simp] theorem State.setSlot_gangs (s : State) (g : Nat) (t : Slot) : (s.setSlot g t).gangs = s.gangs := rfl
@[simp] theorem State.setSlot_dies (s : State) (g : Nat) (t : Slot) : (s.setSlot g t).dies = s.dies := rfl
@[simp] theorem State.setSlot_scopes (s : State) (g : Nat) (t : Slot) : (s.setSlot g t).scopes = s.scopes := rfl
@[simp] theorem State.setSlot_scopeGens (s : State) (g : Nat) (t : Slot) : (s.setSlot g t).scopeGens = s.scopeGens := rfl
@[simp] theorem State.setSlot_owed (s : State) (g : Nat) (t : Slot) : (s.setSlot g t).owed = s.owed := rfl
@[simp] theorem State.setSlot_parts (s : State) (g : Nat) (t : Slot) : (s.setSlot g t).parts = s.parts := rfl
@[simp] theorem State.setSlot_images (s : State) (g : Nat) (t : Slot) : (s.setSlot g t).images = s.images := rfl
@[simp] theorem State.setSlot_instances (s : State) (g : Nat) (t : Slot) : (s.setSlot g t).instances = s.instances := rfl
@[simp] theorem State.setSlot_commands (s : State) (g : Nat) (t : Slot) : (s.setSlot g t).commands = s.commands := rfl
@[simp] theorem State.setSlot_mail (s : State) (g : Nat) (t : Slot) : (s.setSlot g t).mail = s.mail := rfl
@[simp] theorem State.setSlot_queues (s : State) (g : Nat) (t : Slot) : (s.setSlot g t).queues = s.queues := rfl
@[simp] theorem State.setSlot_requests (s : State) (g : Nat) (t : Slot) : (s.setSlot g t).requests = s.requests := rfl
@[simp] theorem State.setSlot_flows (s : State) (g : Nat) (t : Slot) : (s.setSlot g t).flows = s.flows := rfl
@[simp] theorem State.setSlot_ports (s : State) (g : Nat) (t : Slot) : (s.setSlot g t).ports = s.ports := rfl
@[simp] theorem State.setSlot_host (s : State) (g : Nat) (t : Slot) : (s.setSlot g t).host = s.host := rfl
@[simp] theorem State.setSlot_mgmt (s : State) (g : Nat) (t : Slot) : (s.setSlot g t).mgmt = s.mgmt := rfl
@[simp] theorem State.setSlot_cycle (s : State) (g : Nat) (t : Slot) : (s.setSlot g t).cycle = s.cycle := rfl
@[simp] theorem State.setSlot_now (s : State) (g : Nat) (t : Slot) : (s.setSlot g t).now = s.now := rfl
@[simp] theorem State.setSlot_locked (s : State) (g : Nat) (t : Slot) : (s.setSlot g t).locked = s.locked := rfl
@[simp] theorem State.setSlot_stepped (s : State) (g : Nat) (t : Slot) : (s.setSlot g t).stepped = s.stepped := rfl
@[simp] theorem State.setSlot_drift (s : State) (g : Nat) (t : Slot) : (s.setSlot g t).drift = s.drift := rfl
@[simp] theorem State.setSlot_egress (s : State) (g : Nat) (t : Slot) : (s.setSlot g t).egress = s.egress := rfl
@[simp] theorem State.setSlot_agenda (s : State) (g : Nat) (t : Slot) : (s.setSlot g t).agenda = s.agenda := rfl
@[simp] theorem State.setSlot_deferred (s : State) (g : Nat) (t : Slot) : (s.setSlot g t).deferred = s.deferred := rfl
@[simp] theorem State.setSlot_schedule (s : State) (g : Nat) (t : Slot) : (s.setSlot g t).schedule = s.schedule := rfl
@[simp] theorem State.setSlot_reached (s : State) (g : Nat) (t : Slot) : (s.setSlot g t).reached = s.reached := rfl
@[simp] theorem State.setSlot_reachedAt (s : State) (g : Nat) (t : Slot) : (s.setSlot g t).reachedAt = s.reachedAt := rfl
@[simp] theorem State.setSlot_cur (s : State) (g : Nat) (t : Slot) : (s.setSlot g t).cur = s.cur := rfl
@[simp] theorem State.setSlot_stalled (s : State) (g : Nat) (t : Slot) : (s.setSlot g t).stalled = s.stalled := rfl
@[simp] theorem State.setSlot_issuing (s : State) (g : Nat) (t : Slot) : (s.setSlot g t).issuing = s.issuing := rfl
@[simp] theorem State.setSlot_cursor (s : State) (g : Nat) (t : Slot) : (s.setSlot g t).cursor = s.cursor := rfl
@[simp] theorem State.setSlot_nextId (s : State) (g : Nat) (t : Slot) : (s.setSlot g t).nextId = s.nextId := rfl
@[simp] theorem State.setSlot_drawn (s : State) (g : Nat) (t : Slot) : (s.setSlot g t).drawn = s.drawn := rfl

@[simp] theorem State.onSlot_mem (s : State) (g : Nat) (f : Slot → Slot) : (s.onSlot g f).mem = s.mem := rfl
@[simp] theorem State.onSlot_poison (s : State) (g : Nat) (f : Slot → Slot) : (s.onSlot g f).poison = s.poison := rfl
@[simp] theorem State.onSlot_keyTag (s : State) (g : Nat) (f : Slot → Slot) : (s.onSlot g f).keyTag = s.keyTag := rfl
@[simp] theorem State.onSlot_tiles (s : State) (g : Nat) (f : Slot → Slot) : (s.onSlot g f).tiles = s.tiles := rfl
@[simp] theorem State.onSlot_gangs (s : State) (g : Nat) (f : Slot → Slot) : (s.onSlot g f).gangs = s.gangs := rfl
@[simp] theorem State.onSlot_dies (s : State) (g : Nat) (f : Slot → Slot) : (s.onSlot g f).dies = s.dies := rfl
@[simp] theorem State.onSlot_scopes (s : State) (g : Nat) (f : Slot → Slot) : (s.onSlot g f).scopes = s.scopes := rfl
@[simp] theorem State.onSlot_scopeGens (s : State) (g : Nat) (f : Slot → Slot) : (s.onSlot g f).scopeGens = s.scopeGens := rfl
@[simp] theorem State.onSlot_owed (s : State) (g : Nat) (f : Slot → Slot) : (s.onSlot g f).owed = s.owed := rfl
@[simp] theorem State.onSlot_parts (s : State) (g : Nat) (f : Slot → Slot) : (s.onSlot g f).parts = s.parts := rfl
@[simp] theorem State.onSlot_images (s : State) (g : Nat) (f : Slot → Slot) : (s.onSlot g f).images = s.images := rfl
@[simp] theorem State.onSlot_instances (s : State) (g : Nat) (f : Slot → Slot) : (s.onSlot g f).instances = s.instances := rfl
@[simp] theorem State.onSlot_commands (s : State) (g : Nat) (f : Slot → Slot) : (s.onSlot g f).commands = s.commands := rfl
@[simp] theorem State.onSlot_mail (s : State) (g : Nat) (f : Slot → Slot) : (s.onSlot g f).mail = s.mail := rfl
@[simp] theorem State.onSlot_queues (s : State) (g : Nat) (f : Slot → Slot) : (s.onSlot g f).queues = s.queues := rfl
@[simp] theorem State.onSlot_requests (s : State) (g : Nat) (f : Slot → Slot) : (s.onSlot g f).requests = s.requests := rfl
@[simp] theorem State.onSlot_flows (s : State) (g : Nat) (f : Slot → Slot) : (s.onSlot g f).flows = s.flows := rfl
@[simp] theorem State.onSlot_ports (s : State) (g : Nat) (f : Slot → Slot) : (s.onSlot g f).ports = s.ports := rfl
@[simp] theorem State.onSlot_host (s : State) (g : Nat) (f : Slot → Slot) : (s.onSlot g f).host = s.host := rfl
@[simp] theorem State.onSlot_mgmt (s : State) (g : Nat) (f : Slot → Slot) : (s.onSlot g f).mgmt = s.mgmt := rfl
@[simp] theorem State.onSlot_cycle (s : State) (g : Nat) (f : Slot → Slot) : (s.onSlot g f).cycle = s.cycle := rfl
@[simp] theorem State.onSlot_now (s : State) (g : Nat) (f : Slot → Slot) : (s.onSlot g f).now = s.now := rfl
@[simp] theorem State.onSlot_locked (s : State) (g : Nat) (f : Slot → Slot) : (s.onSlot g f).locked = s.locked := rfl
@[simp] theorem State.onSlot_stepped (s : State) (g : Nat) (f : Slot → Slot) : (s.onSlot g f).stepped = s.stepped := rfl
@[simp] theorem State.onSlot_drift (s : State) (g : Nat) (f : Slot → Slot) : (s.onSlot g f).drift = s.drift := rfl
@[simp] theorem State.onSlot_egress (s : State) (g : Nat) (f : Slot → Slot) : (s.onSlot g f).egress = s.egress := rfl
@[simp] theorem State.onSlot_agenda (s : State) (g : Nat) (f : Slot → Slot) : (s.onSlot g f).agenda = s.agenda := rfl
@[simp] theorem State.onSlot_deferred (s : State) (g : Nat) (f : Slot → Slot) : (s.onSlot g f).deferred = s.deferred := rfl
@[simp] theorem State.onSlot_schedule (s : State) (g : Nat) (f : Slot → Slot) : (s.onSlot g f).schedule = s.schedule := rfl
@[simp] theorem State.onSlot_reached (s : State) (g : Nat) (f : Slot → Slot) : (s.onSlot g f).reached = s.reached := rfl
@[simp] theorem State.onSlot_reachedAt (s : State) (g : Nat) (f : Slot → Slot) : (s.onSlot g f).reachedAt = s.reachedAt := rfl
@[simp] theorem State.onSlot_cur (s : State) (g : Nat) (f : Slot → Slot) : (s.onSlot g f).cur = s.cur := rfl
@[simp] theorem State.onSlot_stalled (s : State) (g : Nat) (f : Slot → Slot) : (s.onSlot g f).stalled = s.stalled := rfl
@[simp] theorem State.onSlot_issuing (s : State) (g : Nat) (f : Slot → Slot) : (s.onSlot g f).issuing = s.issuing := rfl
@[simp] theorem State.onSlot_cursor (s : State) (g : Nat) (f : Slot → Slot) : (s.onSlot g f).cursor = s.cursor := rfl
@[simp] theorem State.onSlot_nextId (s : State) (g : Nat) (f : Slot → Slot) : (s.onSlot g f).nextId = s.nextId := rfl
@[simp] theorem State.onSlot_drawn (s : State) (g : Nat) (f : Slot → Slot) : (s.onSlot g f).drawn = s.drawn := rfl

@[simp] theorem State.setTile_mem (s : State) (g : Nat) (t : Tile) : (s.setTile g t).mem = s.mem := rfl
@[simp] theorem State.setTile_poison (s : State) (g : Nat) (t : Tile) : (s.setTile g t).poison = s.poison := rfl
@[simp] theorem State.setTile_keyTag (s : State) (g : Nat) (t : Tile) : (s.setTile g t).keyTag = s.keyTag := rfl
@[simp] theorem State.setTile_slots (s : State) (g : Nat) (t : Tile) : (s.setTile g t).slots = s.slots := rfl
@[simp] theorem State.setTile_gangs (s : State) (g : Nat) (t : Tile) : (s.setTile g t).gangs = s.gangs := rfl
@[simp] theorem State.setTile_dies (s : State) (g : Nat) (t : Tile) : (s.setTile g t).dies = s.dies := rfl
@[simp] theorem State.setTile_scopes (s : State) (g : Nat) (t : Tile) : (s.setTile g t).scopes = s.scopes := rfl
@[simp] theorem State.setTile_scopeGens (s : State) (g : Nat) (t : Tile) : (s.setTile g t).scopeGens = s.scopeGens := rfl
@[simp] theorem State.setTile_owed (s : State) (g : Nat) (t : Tile) : (s.setTile g t).owed = s.owed := rfl
@[simp] theorem State.setTile_parts (s : State) (g : Nat) (t : Tile) : (s.setTile g t).parts = s.parts := rfl
@[simp] theorem State.setTile_images (s : State) (g : Nat) (t : Tile) : (s.setTile g t).images = s.images := rfl
@[simp] theorem State.setTile_instances (s : State) (g : Nat) (t : Tile) : (s.setTile g t).instances = s.instances := rfl
@[simp] theorem State.setTile_commands (s : State) (g : Nat) (t : Tile) : (s.setTile g t).commands = s.commands := rfl
@[simp] theorem State.setTile_mail (s : State) (g : Nat) (t : Tile) : (s.setTile g t).mail = s.mail := rfl
@[simp] theorem State.setTile_queues (s : State) (g : Nat) (t : Tile) : (s.setTile g t).queues = s.queues := rfl
@[simp] theorem State.setTile_requests (s : State) (g : Nat) (t : Tile) : (s.setTile g t).requests = s.requests := rfl
@[simp] theorem State.setTile_flows (s : State) (g : Nat) (t : Tile) : (s.setTile g t).flows = s.flows := rfl
@[simp] theorem State.setTile_ports (s : State) (g : Nat) (t : Tile) : (s.setTile g t).ports = s.ports := rfl
@[simp] theorem State.setTile_host (s : State) (g : Nat) (t : Tile) : (s.setTile g t).host = s.host := rfl
@[simp] theorem State.setTile_mgmt (s : State) (g : Nat) (t : Tile) : (s.setTile g t).mgmt = s.mgmt := rfl
@[simp] theorem State.setTile_cycle (s : State) (g : Nat) (t : Tile) : (s.setTile g t).cycle = s.cycle := rfl
@[simp] theorem State.setTile_now (s : State) (g : Nat) (t : Tile) : (s.setTile g t).now = s.now := rfl
@[simp] theorem State.setTile_locked (s : State) (g : Nat) (t : Tile) : (s.setTile g t).locked = s.locked := rfl
@[simp] theorem State.setTile_stepped (s : State) (g : Nat) (t : Tile) : (s.setTile g t).stepped = s.stepped := rfl
@[simp] theorem State.setTile_drift (s : State) (g : Nat) (t : Tile) : (s.setTile g t).drift = s.drift := rfl
@[simp] theorem State.setTile_egress (s : State) (g : Nat) (t : Tile) : (s.setTile g t).egress = s.egress := rfl
@[simp] theorem State.setTile_agenda (s : State) (g : Nat) (t : Tile) : (s.setTile g t).agenda = s.agenda := rfl
@[simp] theorem State.setTile_deferred (s : State) (g : Nat) (t : Tile) : (s.setTile g t).deferred = s.deferred := rfl
@[simp] theorem State.setTile_schedule (s : State) (g : Nat) (t : Tile) : (s.setTile g t).schedule = s.schedule := rfl
@[simp] theorem State.setTile_reached (s : State) (g : Nat) (t : Tile) : (s.setTile g t).reached = s.reached := rfl
@[simp] theorem State.setTile_reachedAt (s : State) (g : Nat) (t : Tile) : (s.setTile g t).reachedAt = s.reachedAt := rfl
@[simp] theorem State.setTile_cur (s : State) (g : Nat) (t : Tile) : (s.setTile g t).cur = s.cur := rfl
@[simp] theorem State.setTile_stalled (s : State) (g : Nat) (t : Tile) : (s.setTile g t).stalled = s.stalled := rfl
@[simp] theorem State.setTile_issuing (s : State) (g : Nat) (t : Tile) : (s.setTile g t).issuing = s.issuing := rfl
@[simp] theorem State.setTile_cursor (s : State) (g : Nat) (t : Tile) : (s.setTile g t).cursor = s.cursor := rfl
@[simp] theorem State.setTile_nextId (s : State) (g : Nat) (t : Tile) : (s.setTile g t).nextId = s.nextId := rfl
@[simp] theorem State.setTile_drawn (s : State) (g : Nat) (t : Tile) : (s.setTile g t).drawn = s.drawn := rfl

@[simp] theorem State.onTile_mem (s : State) (g : Nat) (f : Tile → Tile) : (s.onTile g f).mem = s.mem := rfl
@[simp] theorem State.onTile_poison (s : State) (g : Nat) (f : Tile → Tile) : (s.onTile g f).poison = s.poison := rfl
@[simp] theorem State.onTile_keyTag (s : State) (g : Nat) (f : Tile → Tile) : (s.onTile g f).keyTag = s.keyTag := rfl
@[simp] theorem State.onTile_slots (s : State) (g : Nat) (f : Tile → Tile) : (s.onTile g f).slots = s.slots := rfl
@[simp] theorem State.onTile_gangs (s : State) (g : Nat) (f : Tile → Tile) : (s.onTile g f).gangs = s.gangs := rfl
@[simp] theorem State.onTile_dies (s : State) (g : Nat) (f : Tile → Tile) : (s.onTile g f).dies = s.dies := rfl
@[simp] theorem State.onTile_scopes (s : State) (g : Nat) (f : Tile → Tile) : (s.onTile g f).scopes = s.scopes := rfl
@[simp] theorem State.onTile_scopeGens (s : State) (g : Nat) (f : Tile → Tile) : (s.onTile g f).scopeGens = s.scopeGens := rfl
@[simp] theorem State.onTile_owed (s : State) (g : Nat) (f : Tile → Tile) : (s.onTile g f).owed = s.owed := rfl
@[simp] theorem State.onTile_parts (s : State) (g : Nat) (f : Tile → Tile) : (s.onTile g f).parts = s.parts := rfl
@[simp] theorem State.onTile_images (s : State) (g : Nat) (f : Tile → Tile) : (s.onTile g f).images = s.images := rfl
@[simp] theorem State.onTile_instances (s : State) (g : Nat) (f : Tile → Tile) : (s.onTile g f).instances = s.instances := rfl
@[simp] theorem State.onTile_commands (s : State) (g : Nat) (f : Tile → Tile) : (s.onTile g f).commands = s.commands := rfl
@[simp] theorem State.onTile_mail (s : State) (g : Nat) (f : Tile → Tile) : (s.onTile g f).mail = s.mail := rfl
@[simp] theorem State.onTile_queues (s : State) (g : Nat) (f : Tile → Tile) : (s.onTile g f).queues = s.queues := rfl
@[simp] theorem State.onTile_requests (s : State) (g : Nat) (f : Tile → Tile) : (s.onTile g f).requests = s.requests := rfl
@[simp] theorem State.onTile_flows (s : State) (g : Nat) (f : Tile → Tile) : (s.onTile g f).flows = s.flows := rfl
@[simp] theorem State.onTile_ports (s : State) (g : Nat) (f : Tile → Tile) : (s.onTile g f).ports = s.ports := rfl
@[simp] theorem State.onTile_host (s : State) (g : Nat) (f : Tile → Tile) : (s.onTile g f).host = s.host := rfl
@[simp] theorem State.onTile_mgmt (s : State) (g : Nat) (f : Tile → Tile) : (s.onTile g f).mgmt = s.mgmt := rfl
@[simp] theorem State.onTile_cycle (s : State) (g : Nat) (f : Tile → Tile) : (s.onTile g f).cycle = s.cycle := rfl
@[simp] theorem State.onTile_now (s : State) (g : Nat) (f : Tile → Tile) : (s.onTile g f).now = s.now := rfl
@[simp] theorem State.onTile_locked (s : State) (g : Nat) (f : Tile → Tile) : (s.onTile g f).locked = s.locked := rfl
@[simp] theorem State.onTile_stepped (s : State) (g : Nat) (f : Tile → Tile) : (s.onTile g f).stepped = s.stepped := rfl
@[simp] theorem State.onTile_drift (s : State) (g : Nat) (f : Tile → Tile) : (s.onTile g f).drift = s.drift := rfl
@[simp] theorem State.onTile_egress (s : State) (g : Nat) (f : Tile → Tile) : (s.onTile g f).egress = s.egress := rfl
@[simp] theorem State.onTile_agenda (s : State) (g : Nat) (f : Tile → Tile) : (s.onTile g f).agenda = s.agenda := rfl
@[simp] theorem State.onTile_deferred (s : State) (g : Nat) (f : Tile → Tile) : (s.onTile g f).deferred = s.deferred := rfl
@[simp] theorem State.onTile_schedule (s : State) (g : Nat) (f : Tile → Tile) : (s.onTile g f).schedule = s.schedule := rfl
@[simp] theorem State.onTile_reached (s : State) (g : Nat) (f : Tile → Tile) : (s.onTile g f).reached = s.reached := rfl
@[simp] theorem State.onTile_reachedAt (s : State) (g : Nat) (f : Tile → Tile) : (s.onTile g f).reachedAt = s.reachedAt := rfl
@[simp] theorem State.onTile_cur (s : State) (g : Nat) (f : Tile → Tile) : (s.onTile g f).cur = s.cur := rfl
@[simp] theorem State.onTile_stalled (s : State) (g : Nat) (f : Tile → Tile) : (s.onTile g f).stalled = s.stalled := rfl
@[simp] theorem State.onTile_issuing (s : State) (g : Nat) (f : Tile → Tile) : (s.onTile g f).issuing = s.issuing := rfl
@[simp] theorem State.onTile_cursor (s : State) (g : Nat) (f : Tile → Tile) : (s.onTile g f).cursor = s.cursor := rfl
@[simp] theorem State.onTile_nextId (s : State) (g : Nat) (f : Tile → Tile) : (s.onTile g f).nextId = s.nextId := rfl
@[simp] theorem State.onTile_drawn (s : State) (g : Nat) (f : Tile → Tile) : (s.onTile g f).drawn = s.drawn := rfl

@[simp] theorem State.onDie_mem (s : State) (d : Nat) (f : Die → Die) : (s.onDie d f).mem = s.mem := rfl
@[simp] theorem State.onDie_poison (s : State) (d : Nat) (f : Die → Die) : (s.onDie d f).poison = s.poison := rfl
@[simp] theorem State.onDie_keyTag (s : State) (d : Nat) (f : Die → Die) : (s.onDie d f).keyTag = s.keyTag := rfl
@[simp] theorem State.onDie_slots (s : State) (d : Nat) (f : Die → Die) : (s.onDie d f).slots = s.slots := rfl
@[simp] theorem State.onDie_tiles (s : State) (d : Nat) (f : Die → Die) : (s.onDie d f).tiles = s.tiles := rfl
@[simp] theorem State.onDie_gangs (s : State) (d : Nat) (f : Die → Die) : (s.onDie d f).gangs = s.gangs := rfl
@[simp] theorem State.onDie_scopes (s : State) (d : Nat) (f : Die → Die) : (s.onDie d f).scopes = s.scopes := rfl
@[simp] theorem State.onDie_scopeGens (s : State) (d : Nat) (f : Die → Die) : (s.onDie d f).scopeGens = s.scopeGens := rfl
@[simp] theorem State.onDie_owed (s : State) (d : Nat) (f : Die → Die) : (s.onDie d f).owed = s.owed := rfl
@[simp] theorem State.onDie_parts (s : State) (d : Nat) (f : Die → Die) : (s.onDie d f).parts = s.parts := rfl
@[simp] theorem State.onDie_images (s : State) (d : Nat) (f : Die → Die) : (s.onDie d f).images = s.images := rfl
@[simp] theorem State.onDie_instances (s : State) (d : Nat) (f : Die → Die) : (s.onDie d f).instances = s.instances := rfl
@[simp] theorem State.onDie_commands (s : State) (d : Nat) (f : Die → Die) : (s.onDie d f).commands = s.commands := rfl
@[simp] theorem State.onDie_mail (s : State) (d : Nat) (f : Die → Die) : (s.onDie d f).mail = s.mail := rfl
@[simp] theorem State.onDie_queues (s : State) (d : Nat) (f : Die → Die) : (s.onDie d f).queues = s.queues := rfl
@[simp] theorem State.onDie_requests (s : State) (d : Nat) (f : Die → Die) : (s.onDie d f).requests = s.requests := rfl
@[simp] theorem State.onDie_flows (s : State) (d : Nat) (f : Die → Die) : (s.onDie d f).flows = s.flows := rfl
@[simp] theorem State.onDie_ports (s : State) (d : Nat) (f : Die → Die) : (s.onDie d f).ports = s.ports := rfl
@[simp] theorem State.onDie_host (s : State) (d : Nat) (f : Die → Die) : (s.onDie d f).host = s.host := rfl
@[simp] theorem State.onDie_mgmt (s : State) (d : Nat) (f : Die → Die) : (s.onDie d f).mgmt = s.mgmt := rfl
@[simp] theorem State.onDie_cycle (s : State) (d : Nat) (f : Die → Die) : (s.onDie d f).cycle = s.cycle := rfl
@[simp] theorem State.onDie_now (s : State) (d : Nat) (f : Die → Die) : (s.onDie d f).now = s.now := rfl
@[simp] theorem State.onDie_locked (s : State) (d : Nat) (f : Die → Die) : (s.onDie d f).locked = s.locked := rfl
@[simp] theorem State.onDie_stepped (s : State) (d : Nat) (f : Die → Die) : (s.onDie d f).stepped = s.stepped := rfl
@[simp] theorem State.onDie_drift (s : State) (d : Nat) (f : Die → Die) : (s.onDie d f).drift = s.drift := rfl
@[simp] theorem State.onDie_egress (s : State) (d : Nat) (f : Die → Die) : (s.onDie d f).egress = s.egress := rfl
@[simp] theorem State.onDie_agenda (s : State) (d : Nat) (f : Die → Die) : (s.onDie d f).agenda = s.agenda := rfl
@[simp] theorem State.onDie_deferred (s : State) (d : Nat) (f : Die → Die) : (s.onDie d f).deferred = s.deferred := rfl
@[simp] theorem State.onDie_schedule (s : State) (d : Nat) (f : Die → Die) : (s.onDie d f).schedule = s.schedule := rfl
@[simp] theorem State.onDie_reached (s : State) (d : Nat) (f : Die → Die) : (s.onDie d f).reached = s.reached := rfl
@[simp] theorem State.onDie_reachedAt (s : State) (d : Nat) (f : Die → Die) : (s.onDie d f).reachedAt = s.reachedAt := rfl
@[simp] theorem State.onDie_cur (s : State) (d : Nat) (f : Die → Die) : (s.onDie d f).cur = s.cur := rfl
@[simp] theorem State.onDie_stalled (s : State) (d : Nat) (f : Die → Die) : (s.onDie d f).stalled = s.stalled := rfl
@[simp] theorem State.onDie_issuing (s : State) (d : Nat) (f : Die → Die) : (s.onDie d f).issuing = s.issuing := rfl
@[simp] theorem State.onDie_cursor (s : State) (d : Nat) (f : Die → Die) : (s.onDie d f).cursor = s.cursor := rfl
@[simp] theorem State.onDie_nextId (s : State) (d : Nat) (f : Die → Die) : (s.onDie d f).nextId = s.nextId := rfl
@[simp] theorem State.onDie_drawn (s : State) (d : Nat) (f : Die → Die) : (s.onDie d f).drawn = s.drawn := rfl

@[simp] theorem State.onPart_mem (s : State) (p : Nat) (f : Partition → Partition) : (s.onPart p f).mem = s.mem := rfl
@[simp] theorem State.onPart_poison (s : State) (p : Nat) (f : Partition → Partition) : (s.onPart p f).poison = s.poison := rfl
@[simp] theorem State.onPart_keyTag (s : State) (p : Nat) (f : Partition → Partition) : (s.onPart p f).keyTag = s.keyTag := rfl
@[simp] theorem State.onPart_slots (s : State) (p : Nat) (f : Partition → Partition) : (s.onPart p f).slots = s.slots := rfl
@[simp] theorem State.onPart_tiles (s : State) (p : Nat) (f : Partition → Partition) : (s.onPart p f).tiles = s.tiles := rfl
@[simp] theorem State.onPart_gangs (s : State) (p : Nat) (f : Partition → Partition) : (s.onPart p f).gangs = s.gangs := rfl
@[simp] theorem State.onPart_dies (s : State) (p : Nat) (f : Partition → Partition) : (s.onPart p f).dies = s.dies := rfl
@[simp] theorem State.onPart_scopes (s : State) (p : Nat) (f : Partition → Partition) : (s.onPart p f).scopes = s.scopes := rfl
@[simp] theorem State.onPart_scopeGens (s : State) (p : Nat) (f : Partition → Partition) : (s.onPart p f).scopeGens = s.scopeGens := rfl
@[simp] theorem State.onPart_owed (s : State) (p : Nat) (f : Partition → Partition) : (s.onPart p f).owed = s.owed := rfl
@[simp] theorem State.onPart_images (s : State) (p : Nat) (f : Partition → Partition) : (s.onPart p f).images = s.images := rfl
@[simp] theorem State.onPart_instances (s : State) (p : Nat) (f : Partition → Partition) : (s.onPart p f).instances = s.instances := rfl
@[simp] theorem State.onPart_commands (s : State) (p : Nat) (f : Partition → Partition) : (s.onPart p f).commands = s.commands := rfl
@[simp] theorem State.onPart_mail (s : State) (p : Nat) (f : Partition → Partition) : (s.onPart p f).mail = s.mail := rfl
@[simp] theorem State.onPart_queues (s : State) (p : Nat) (f : Partition → Partition) : (s.onPart p f).queues = s.queues := rfl
@[simp] theorem State.onPart_requests (s : State) (p : Nat) (f : Partition → Partition) : (s.onPart p f).requests = s.requests := rfl
@[simp] theorem State.onPart_flows (s : State) (p : Nat) (f : Partition → Partition) : (s.onPart p f).flows = s.flows := rfl
@[simp] theorem State.onPart_ports (s : State) (p : Nat) (f : Partition → Partition) : (s.onPart p f).ports = s.ports := rfl
@[simp] theorem State.onPart_host (s : State) (p : Nat) (f : Partition → Partition) : (s.onPart p f).host = s.host := rfl
@[simp] theorem State.onPart_mgmt (s : State) (p : Nat) (f : Partition → Partition) : (s.onPart p f).mgmt = s.mgmt := rfl
@[simp] theorem State.onPart_cycle (s : State) (p : Nat) (f : Partition → Partition) : (s.onPart p f).cycle = s.cycle := rfl
@[simp] theorem State.onPart_now (s : State) (p : Nat) (f : Partition → Partition) : (s.onPart p f).now = s.now := rfl
@[simp] theorem State.onPart_locked (s : State) (p : Nat) (f : Partition → Partition) : (s.onPart p f).locked = s.locked := rfl
@[simp] theorem State.onPart_stepped (s : State) (p : Nat) (f : Partition → Partition) : (s.onPart p f).stepped = s.stepped := rfl
@[simp] theorem State.onPart_drift (s : State) (p : Nat) (f : Partition → Partition) : (s.onPart p f).drift = s.drift := rfl
@[simp] theorem State.onPart_egress (s : State) (p : Nat) (f : Partition → Partition) : (s.onPart p f).egress = s.egress := rfl
@[simp] theorem State.onPart_agenda (s : State) (p : Nat) (f : Partition → Partition) : (s.onPart p f).agenda = s.agenda := rfl
@[simp] theorem State.onPart_deferred (s : State) (p : Nat) (f : Partition → Partition) : (s.onPart p f).deferred = s.deferred := rfl
@[simp] theorem State.onPart_schedule (s : State) (p : Nat) (f : Partition → Partition) : (s.onPart p f).schedule = s.schedule := rfl
@[simp] theorem State.onPart_reached (s : State) (p : Nat) (f : Partition → Partition) : (s.onPart p f).reached = s.reached := rfl
@[simp] theorem State.onPart_reachedAt (s : State) (p : Nat) (f : Partition → Partition) : (s.onPart p f).reachedAt = s.reachedAt := rfl
@[simp] theorem State.onPart_cur (s : State) (p : Nat) (f : Partition → Partition) : (s.onPart p f).cur = s.cur := rfl
@[simp] theorem State.onPart_stalled (s : State) (p : Nat) (f : Partition → Partition) : (s.onPart p f).stalled = s.stalled := rfl
@[simp] theorem State.onPart_issuing (s : State) (p : Nat) (f : Partition → Partition) : (s.onPart p f).issuing = s.issuing := rfl
@[simp] theorem State.onPart_cursor (s : State) (p : Nat) (f : Partition → Partition) : (s.onPart p f).cursor = s.cursor := rfl
@[simp] theorem State.onPart_nextId (s : State) (p : Nat) (f : Partition → Partition) : (s.onPart p f).nextId = s.nextId := rfl
@[simp] theorem State.onPart_drawn (s : State) (p : Nat) (f : Partition → Partition) : (s.onPart p f).drawn = s.drawn := rfl

@[simp] theorem State.post_mem (s : State) (i : Instr) : (s.post i).mem = s.mem := rfl
@[simp] theorem State.post_poison (s : State) (i : Instr) : (s.post i).poison = s.poison := rfl
@[simp] theorem State.post_keyTag (s : State) (i : Instr) : (s.post i).keyTag = s.keyTag := rfl
@[simp] theorem State.post_slots (s : State) (i : Instr) : (s.post i).slots = s.slots := rfl
@[simp] theorem State.post_tiles (s : State) (i : Instr) : (s.post i).tiles = s.tiles := rfl
@[simp] theorem State.post_gangs (s : State) (i : Instr) : (s.post i).gangs = s.gangs := rfl
@[simp] theorem State.post_dies (s : State) (i : Instr) : (s.post i).dies = s.dies := rfl
@[simp] theorem State.post_scopes (s : State) (i : Instr) : (s.post i).scopes = s.scopes := rfl
@[simp] theorem State.post_scopeGens (s : State) (i : Instr) : (s.post i).scopeGens = s.scopeGens := rfl
@[simp] theorem State.post_owed (s : State) (i : Instr) : (s.post i).owed = s.owed := rfl
@[simp] theorem State.post_parts (s : State) (i : Instr) : (s.post i).parts = s.parts := rfl
@[simp] theorem State.post_images (s : State) (i : Instr) : (s.post i).images = s.images := rfl
@[simp] theorem State.post_instances (s : State) (i : Instr) : (s.post i).instances = s.instances := rfl
@[simp] theorem State.post_commands (s : State) (i : Instr) : (s.post i).commands = s.commands := rfl
@[simp] theorem State.post_mail (s : State) (i : Instr) : (s.post i).mail = s.mail := rfl
@[simp] theorem State.post_queues (s : State) (i : Instr) : (s.post i).queues = s.queues := rfl
@[simp] theorem State.post_requests (s : State) (i : Instr) : (s.post i).requests = s.requests := rfl
@[simp] theorem State.post_flows (s : State) (i : Instr) : (s.post i).flows = s.flows := rfl
@[simp] theorem State.post_ports (s : State) (i : Instr) : (s.post i).ports = s.ports := rfl
@[simp] theorem State.post_host (s : State) (i : Instr) : (s.post i).host = s.host := rfl
@[simp] theorem State.post_mgmt (s : State) (i : Instr) : (s.post i).mgmt = s.mgmt := rfl
@[simp] theorem State.post_cycle (s : State) (i : Instr) : (s.post i).cycle = s.cycle := rfl
@[simp] theorem State.post_now (s : State) (i : Instr) : (s.post i).now = s.now := rfl
@[simp] theorem State.post_locked (s : State) (i : Instr) : (s.post i).locked = s.locked := rfl
@[simp] theorem State.post_stepped (s : State) (i : Instr) : (s.post i).stepped = s.stepped := rfl
@[simp] theorem State.post_drift (s : State) (i : Instr) : (s.post i).drift = s.drift := rfl
@[simp] theorem State.post_egress (s : State) (i : Instr) : (s.post i).egress = s.egress := rfl
@[simp] theorem State.post_deferred (s : State) (i : Instr) : (s.post i).deferred = s.deferred := rfl
@[simp] theorem State.post_schedule (s : State) (i : Instr) : (s.post i).schedule = s.schedule := rfl
@[simp] theorem State.post_reached (s : State) (i : Instr) : (s.post i).reached = s.reached := rfl
@[simp] theorem State.post_reachedAt (s : State) (i : Instr) : (s.post i).reachedAt = s.reachedAt := rfl
@[simp] theorem State.post_cur (s : State) (i : Instr) : (s.post i).cur = s.cur := rfl
@[simp] theorem State.post_stalled (s : State) (i : Instr) : (s.post i).stalled = s.stalled := rfl
@[simp] theorem State.post_issuing (s : State) (i : Instr) : (s.post i).issuing = s.issuing := rfl
@[simp] theorem State.post_cursor (s : State) (i : Instr) : (s.post i).cursor = s.cursor := rfl
@[simp] theorem State.post_nextId (s : State) (i : Instr) : (s.post i).nextId = s.nextId := rfl
@[simp] theorem State.post_drawn (s : State) (i : Instr) : (s.post i).drawn = s.drawn := rfl

@[simp] theorem State.defer_mem (s : State) (i : Instr) : (s.defer i).mem = s.mem := rfl
@[simp] theorem State.defer_poison (s : State) (i : Instr) : (s.defer i).poison = s.poison := rfl
@[simp] theorem State.defer_keyTag (s : State) (i : Instr) : (s.defer i).keyTag = s.keyTag := rfl
@[simp] theorem State.defer_slots (s : State) (i : Instr) : (s.defer i).slots = s.slots := rfl
@[simp] theorem State.defer_tiles (s : State) (i : Instr) : (s.defer i).tiles = s.tiles := rfl
@[simp] theorem State.defer_gangs (s : State) (i : Instr) : (s.defer i).gangs = s.gangs := rfl
@[simp] theorem State.defer_dies (s : State) (i : Instr) : (s.defer i).dies = s.dies := rfl
@[simp] theorem State.defer_scopes (s : State) (i : Instr) : (s.defer i).scopes = s.scopes := rfl
@[simp] theorem State.defer_scopeGens (s : State) (i : Instr) : (s.defer i).scopeGens = s.scopeGens := rfl
@[simp] theorem State.defer_owed (s : State) (i : Instr) : (s.defer i).owed = s.owed := rfl
@[simp] theorem State.defer_parts (s : State) (i : Instr) : (s.defer i).parts = s.parts := rfl
@[simp] theorem State.defer_images (s : State) (i : Instr) : (s.defer i).images = s.images := rfl
@[simp] theorem State.defer_instances (s : State) (i : Instr) : (s.defer i).instances = s.instances := rfl
@[simp] theorem State.defer_commands (s : State) (i : Instr) : (s.defer i).commands = s.commands := rfl
@[simp] theorem State.defer_mail (s : State) (i : Instr) : (s.defer i).mail = s.mail := rfl
@[simp] theorem State.defer_queues (s : State) (i : Instr) : (s.defer i).queues = s.queues := rfl
@[simp] theorem State.defer_requests (s : State) (i : Instr) : (s.defer i).requests = s.requests := rfl
@[simp] theorem State.defer_flows (s : State) (i : Instr) : (s.defer i).flows = s.flows := rfl
@[simp] theorem State.defer_ports (s : State) (i : Instr) : (s.defer i).ports = s.ports := rfl
@[simp] theorem State.defer_host (s : State) (i : Instr) : (s.defer i).host = s.host := rfl
@[simp] theorem State.defer_mgmt (s : State) (i : Instr) : (s.defer i).mgmt = s.mgmt := rfl
@[simp] theorem State.defer_cycle (s : State) (i : Instr) : (s.defer i).cycle = s.cycle := rfl
@[simp] theorem State.defer_now (s : State) (i : Instr) : (s.defer i).now = s.now := rfl
@[simp] theorem State.defer_locked (s : State) (i : Instr) : (s.defer i).locked = s.locked := rfl
@[simp] theorem State.defer_stepped (s : State) (i : Instr) : (s.defer i).stepped = s.stepped := rfl
@[simp] theorem State.defer_drift (s : State) (i : Instr) : (s.defer i).drift = s.drift := rfl
@[simp] theorem State.defer_egress (s : State) (i : Instr) : (s.defer i).egress = s.egress := rfl
@[simp] theorem State.defer_agenda (s : State) (i : Instr) : (s.defer i).agenda = s.agenda := rfl
@[simp] theorem State.defer_schedule (s : State) (i : Instr) : (s.defer i).schedule = s.schedule := rfl
@[simp] theorem State.defer_reached (s : State) (i : Instr) : (s.defer i).reached = s.reached := rfl
@[simp] theorem State.defer_reachedAt (s : State) (i : Instr) : (s.defer i).reachedAt = s.reachedAt := rfl
@[simp] theorem State.defer_cur (s : State) (i : Instr) : (s.defer i).cur = s.cur := rfl
@[simp] theorem State.defer_stalled (s : State) (i : Instr) : (s.defer i).stalled = s.stalled := rfl
@[simp] theorem State.defer_issuing (s : State) (i : Instr) : (s.defer i).issuing = s.issuing := rfl
@[simp] theorem State.defer_cursor (s : State) (i : Instr) : (s.defer i).cursor = s.cursor := rfl
@[simp] theorem State.defer_nextId (s : State) (i : Instr) : (s.defer i).nextId = s.nextId := rfl
@[simp] theorem State.defer_drawn (s : State) (i : Instr) : (s.defer i).drawn = s.drawn := rfl

@[simp] theorem State.emit_mem (s : State) (e : Egress) : (s.emit e).mem = s.mem := rfl
@[simp] theorem State.emit_poison (s : State) (e : Egress) : (s.emit e).poison = s.poison := rfl
@[simp] theorem State.emit_keyTag (s : State) (e : Egress) : (s.emit e).keyTag = s.keyTag := rfl
@[simp] theorem State.emit_slots (s : State) (e : Egress) : (s.emit e).slots = s.slots := rfl
@[simp] theorem State.emit_tiles (s : State) (e : Egress) : (s.emit e).tiles = s.tiles := rfl
@[simp] theorem State.emit_gangs (s : State) (e : Egress) : (s.emit e).gangs = s.gangs := rfl
@[simp] theorem State.emit_dies (s : State) (e : Egress) : (s.emit e).dies = s.dies := rfl
@[simp] theorem State.emit_scopes (s : State) (e : Egress) : (s.emit e).scopes = s.scopes := rfl
@[simp] theorem State.emit_scopeGens (s : State) (e : Egress) : (s.emit e).scopeGens = s.scopeGens := rfl
@[simp] theorem State.emit_owed (s : State) (e : Egress) : (s.emit e).owed = s.owed := rfl
@[simp] theorem State.emit_parts (s : State) (e : Egress) : (s.emit e).parts = s.parts := rfl
@[simp] theorem State.emit_images (s : State) (e : Egress) : (s.emit e).images = s.images := rfl
@[simp] theorem State.emit_instances (s : State) (e : Egress) : (s.emit e).instances = s.instances := rfl
@[simp] theorem State.emit_commands (s : State) (e : Egress) : (s.emit e).commands = s.commands := rfl
@[simp] theorem State.emit_mail (s : State) (e : Egress) : (s.emit e).mail = s.mail := rfl
@[simp] theorem State.emit_queues (s : State) (e : Egress) : (s.emit e).queues = s.queues := rfl
@[simp] theorem State.emit_requests (s : State) (e : Egress) : (s.emit e).requests = s.requests := rfl
@[simp] theorem State.emit_flows (s : State) (e : Egress) : (s.emit e).flows = s.flows := rfl
@[simp] theorem State.emit_ports (s : State) (e : Egress) : (s.emit e).ports = s.ports := rfl
@[simp] theorem State.emit_host (s : State) (e : Egress) : (s.emit e).host = s.host := rfl
@[simp] theorem State.emit_mgmt (s : State) (e : Egress) : (s.emit e).mgmt = s.mgmt := rfl
@[simp] theorem State.emit_cycle (s : State) (e : Egress) : (s.emit e).cycle = s.cycle := rfl
@[simp] theorem State.emit_now (s : State) (e : Egress) : (s.emit e).now = s.now := rfl
@[simp] theorem State.emit_locked (s : State) (e : Egress) : (s.emit e).locked = s.locked := rfl
@[simp] theorem State.emit_stepped (s : State) (e : Egress) : (s.emit e).stepped = s.stepped := rfl
@[simp] theorem State.emit_drift (s : State) (e : Egress) : (s.emit e).drift = s.drift := rfl
@[simp] theorem State.emit_agenda (s : State) (e : Egress) : (s.emit e).agenda = s.agenda := rfl
@[simp] theorem State.emit_deferred (s : State) (e : Egress) : (s.emit e).deferred = s.deferred := rfl
@[simp] theorem State.emit_schedule (s : State) (e : Egress) : (s.emit e).schedule = s.schedule := rfl
@[simp] theorem State.emit_reached (s : State) (e : Egress) : (s.emit e).reached = s.reached := rfl
@[simp] theorem State.emit_reachedAt (s : State) (e : Egress) : (s.emit e).reachedAt = s.reachedAt := rfl
@[simp] theorem State.emit_cur (s : State) (e : Egress) : (s.emit e).cur = s.cur := rfl
@[simp] theorem State.emit_stalled (s : State) (e : Egress) : (s.emit e).stalled = s.stalled := rfl
@[simp] theorem State.emit_issuing (s : State) (e : Egress) : (s.emit e).issuing = s.issuing := rfl
@[simp] theorem State.emit_cursor (s : State) (e : Egress) : (s.emit e).cursor = s.cursor := rfl
@[simp] theorem State.emit_nextId (s : State) (e : Egress) : (s.emit e).nextId = s.nextId := rfl
@[simp] theorem State.emit_drawn (s : State) (e : Egress) : (s.emit e).drawn = s.drawn := rfl

@[simp] theorem State.writeMem_keyTag (s : State) (k : Nat) (bs : Bytes) : (s.writeMem k bs).keyTag = s.keyTag := rfl
@[simp] theorem State.writeMem_slots (s : State) (k : Nat) (bs : Bytes) : (s.writeMem k bs).slots = s.slots := rfl
@[simp] theorem State.writeMem_tiles (s : State) (k : Nat) (bs : Bytes) : (s.writeMem k bs).tiles = s.tiles := rfl
@[simp] theorem State.writeMem_gangs (s : State) (k : Nat) (bs : Bytes) : (s.writeMem k bs).gangs = s.gangs := rfl
@[simp] theorem State.writeMem_dies (s : State) (k : Nat) (bs : Bytes) : (s.writeMem k bs).dies = s.dies := rfl
@[simp] theorem State.writeMem_scopes (s : State) (k : Nat) (bs : Bytes) : (s.writeMem k bs).scopes = s.scopes := rfl
@[simp] theorem State.writeMem_scopeGens (s : State) (k : Nat) (bs : Bytes) : (s.writeMem k bs).scopeGens = s.scopeGens := rfl
@[simp] theorem State.writeMem_owed (s : State) (k : Nat) (bs : Bytes) : (s.writeMem k bs).owed = s.owed := rfl
@[simp] theorem State.writeMem_parts (s : State) (k : Nat) (bs : Bytes) : (s.writeMem k bs).parts = s.parts := rfl
@[simp] theorem State.writeMem_images (s : State) (k : Nat) (bs : Bytes) : (s.writeMem k bs).images = s.images := rfl
@[simp] theorem State.writeMem_instances (s : State) (k : Nat) (bs : Bytes) : (s.writeMem k bs).instances = s.instances := rfl
@[simp] theorem State.writeMem_commands (s : State) (k : Nat) (bs : Bytes) : (s.writeMem k bs).commands = s.commands := rfl
@[simp] theorem State.writeMem_mail (s : State) (k : Nat) (bs : Bytes) : (s.writeMem k bs).mail = s.mail := rfl
@[simp] theorem State.writeMem_queues (s : State) (k : Nat) (bs : Bytes) : (s.writeMem k bs).queues = s.queues := rfl
@[simp] theorem State.writeMem_requests (s : State) (k : Nat) (bs : Bytes) : (s.writeMem k bs).requests = s.requests := rfl
@[simp] theorem State.writeMem_flows (s : State) (k : Nat) (bs : Bytes) : (s.writeMem k bs).flows = s.flows := rfl
@[simp] theorem State.writeMem_ports (s : State) (k : Nat) (bs : Bytes) : (s.writeMem k bs).ports = s.ports := rfl
@[simp] theorem State.writeMem_host (s : State) (k : Nat) (bs : Bytes) : (s.writeMem k bs).host = s.host := rfl
@[simp] theorem State.writeMem_mgmt (s : State) (k : Nat) (bs : Bytes) : (s.writeMem k bs).mgmt = s.mgmt := rfl
@[simp] theorem State.writeMem_cycle (s : State) (k : Nat) (bs : Bytes) : (s.writeMem k bs).cycle = s.cycle := rfl
@[simp] theorem State.writeMem_now (s : State) (k : Nat) (bs : Bytes) : (s.writeMem k bs).now = s.now := rfl
@[simp] theorem State.writeMem_locked (s : State) (k : Nat) (bs : Bytes) : (s.writeMem k bs).locked = s.locked := rfl
@[simp] theorem State.writeMem_stepped (s : State) (k : Nat) (bs : Bytes) : (s.writeMem k bs).stepped = s.stepped := rfl
@[simp] theorem State.writeMem_drift (s : State) (k : Nat) (bs : Bytes) : (s.writeMem k bs).drift = s.drift := rfl
@[simp] theorem State.writeMem_egress (s : State) (k : Nat) (bs : Bytes) : (s.writeMem k bs).egress = s.egress := rfl
@[simp] theorem State.writeMem_agenda (s : State) (k : Nat) (bs : Bytes) : (s.writeMem k bs).agenda = s.agenda := rfl
@[simp] theorem State.writeMem_deferred (s : State) (k : Nat) (bs : Bytes) : (s.writeMem k bs).deferred = s.deferred := rfl
@[simp] theorem State.writeMem_schedule (s : State) (k : Nat) (bs : Bytes) : (s.writeMem k bs).schedule = s.schedule := rfl
@[simp] theorem State.writeMem_reached (s : State) (k : Nat) (bs : Bytes) : (s.writeMem k bs).reached = s.reached := rfl
@[simp] theorem State.writeMem_reachedAt (s : State) (k : Nat) (bs : Bytes) : (s.writeMem k bs).reachedAt = s.reachedAt := rfl
@[simp] theorem State.writeMem_cur (s : State) (k : Nat) (bs : Bytes) : (s.writeMem k bs).cur = s.cur := rfl
@[simp] theorem State.writeMem_stalled (s : State) (k : Nat) (bs : Bytes) : (s.writeMem k bs).stalled = s.stalled := rfl
@[simp] theorem State.writeMem_issuing (s : State) (k : Nat) (bs : Bytes) : (s.writeMem k bs).issuing = s.issuing := rfl
@[simp] theorem State.writeMem_cursor (s : State) (k : Nat) (bs : Bytes) : (s.writeMem k bs).cursor = s.cursor := rfl
@[simp] theorem State.writeMem_nextId (s : State) (k : Nat) (bs : Bytes) : (s.writeMem k bs).nextId = s.nextId := rfl
@[simp] theorem State.writeMem_drawn (s : State) (k : Nat) (bs : Bytes) : (s.writeMem k bs).drawn = s.drawn := rfl

@[simp] theorem State.clearMem_keyTag (s : State) (k n : Nat) : (s.clearMem k n).keyTag = s.keyTag := rfl
@[simp] theorem State.clearMem_slots (s : State) (k n : Nat) : (s.clearMem k n).slots = s.slots := rfl
@[simp] theorem State.clearMem_tiles (s : State) (k n : Nat) : (s.clearMem k n).tiles = s.tiles := rfl
@[simp] theorem State.clearMem_gangs (s : State) (k n : Nat) : (s.clearMem k n).gangs = s.gangs := rfl
@[simp] theorem State.clearMem_dies (s : State) (k n : Nat) : (s.clearMem k n).dies = s.dies := rfl
@[simp] theorem State.clearMem_scopes (s : State) (k n : Nat) : (s.clearMem k n).scopes = s.scopes := rfl
@[simp] theorem State.clearMem_scopeGens (s : State) (k n : Nat) : (s.clearMem k n).scopeGens = s.scopeGens := rfl
@[simp] theorem State.clearMem_owed (s : State) (k n : Nat) : (s.clearMem k n).owed = s.owed := rfl
@[simp] theorem State.clearMem_parts (s : State) (k n : Nat) : (s.clearMem k n).parts = s.parts := rfl
@[simp] theorem State.clearMem_images (s : State) (k n : Nat) : (s.clearMem k n).images = s.images := rfl
@[simp] theorem State.clearMem_instances (s : State) (k n : Nat) : (s.clearMem k n).instances = s.instances := rfl
@[simp] theorem State.clearMem_commands (s : State) (k n : Nat) : (s.clearMem k n).commands = s.commands := rfl
@[simp] theorem State.clearMem_mail (s : State) (k n : Nat) : (s.clearMem k n).mail = s.mail := rfl
@[simp] theorem State.clearMem_queues (s : State) (k n : Nat) : (s.clearMem k n).queues = s.queues := rfl
@[simp] theorem State.clearMem_requests (s : State) (k n : Nat) : (s.clearMem k n).requests = s.requests := rfl
@[simp] theorem State.clearMem_flows (s : State) (k n : Nat) : (s.clearMem k n).flows = s.flows := rfl
@[simp] theorem State.clearMem_ports (s : State) (k n : Nat) : (s.clearMem k n).ports = s.ports := rfl
@[simp] theorem State.clearMem_host (s : State) (k n : Nat) : (s.clearMem k n).host = s.host := rfl
@[simp] theorem State.clearMem_mgmt (s : State) (k n : Nat) : (s.clearMem k n).mgmt = s.mgmt := rfl
@[simp] theorem State.clearMem_cycle (s : State) (k n : Nat) : (s.clearMem k n).cycle = s.cycle := rfl
@[simp] theorem State.clearMem_now (s : State) (k n : Nat) : (s.clearMem k n).now = s.now := rfl
@[simp] theorem State.clearMem_locked (s : State) (k n : Nat) : (s.clearMem k n).locked = s.locked := rfl
@[simp] theorem State.clearMem_stepped (s : State) (k n : Nat) : (s.clearMem k n).stepped = s.stepped := rfl
@[simp] theorem State.clearMem_drift (s : State) (k n : Nat) : (s.clearMem k n).drift = s.drift := rfl
@[simp] theorem State.clearMem_egress (s : State) (k n : Nat) : (s.clearMem k n).egress = s.egress := rfl
@[simp] theorem State.clearMem_agenda (s : State) (k n : Nat) : (s.clearMem k n).agenda = s.agenda := rfl
@[simp] theorem State.clearMem_deferred (s : State) (k n : Nat) : (s.clearMem k n).deferred = s.deferred := rfl
@[simp] theorem State.clearMem_schedule (s : State) (k n : Nat) : (s.clearMem k n).schedule = s.schedule := rfl
@[simp] theorem State.clearMem_reached (s : State) (k n : Nat) : (s.clearMem k n).reached = s.reached := rfl
@[simp] theorem State.clearMem_reachedAt (s : State) (k n : Nat) : (s.clearMem k n).reachedAt = s.reachedAt := rfl
@[simp] theorem State.clearMem_cur (s : State) (k n : Nat) : (s.clearMem k n).cur = s.cur := rfl
@[simp] theorem State.clearMem_stalled (s : State) (k n : Nat) : (s.clearMem k n).stalled = s.stalled := rfl
@[simp] theorem State.clearMem_issuing (s : State) (k n : Nat) : (s.clearMem k n).issuing = s.issuing := rfl
@[simp] theorem State.clearMem_cursor (s : State) (k n : Nat) : (s.clearMem k n).cursor = s.cursor := rfl
@[simp] theorem State.clearMem_nextId (s : State) (k n : Nat) : (s.clearMem k n).nextId = s.nextId := rfl
@[simp] theorem State.clearMem_drawn (s : State) (k n : Nat) : (s.clearMem k n).drawn = s.drawn := rfl

@[simp] theorem State.markPoison_mem (s : State) (k n : Nat) : (s.markPoison k n).mem = s.mem := rfl
@[simp] theorem State.markPoison_keyTag (s : State) (k n : Nat) : (s.markPoison k n).keyTag = s.keyTag := rfl
@[simp] theorem State.markPoison_slots (s : State) (k n : Nat) : (s.markPoison k n).slots = s.slots := rfl
@[simp] theorem State.markPoison_tiles (s : State) (k n : Nat) : (s.markPoison k n).tiles = s.tiles := rfl
@[simp] theorem State.markPoison_gangs (s : State) (k n : Nat) : (s.markPoison k n).gangs = s.gangs := rfl
@[simp] theorem State.markPoison_dies (s : State) (k n : Nat) : (s.markPoison k n).dies = s.dies := rfl
@[simp] theorem State.markPoison_scopes (s : State) (k n : Nat) : (s.markPoison k n).scopes = s.scopes := rfl
@[simp] theorem State.markPoison_scopeGens (s : State) (k n : Nat) : (s.markPoison k n).scopeGens = s.scopeGens := rfl
@[simp] theorem State.markPoison_owed (s : State) (k n : Nat) : (s.markPoison k n).owed = s.owed := rfl
@[simp] theorem State.markPoison_parts (s : State) (k n : Nat) : (s.markPoison k n).parts = s.parts := rfl
@[simp] theorem State.markPoison_images (s : State) (k n : Nat) : (s.markPoison k n).images = s.images := rfl
@[simp] theorem State.markPoison_instances (s : State) (k n : Nat) : (s.markPoison k n).instances = s.instances := rfl
@[simp] theorem State.markPoison_commands (s : State) (k n : Nat) : (s.markPoison k n).commands = s.commands := rfl
@[simp] theorem State.markPoison_mail (s : State) (k n : Nat) : (s.markPoison k n).mail = s.mail := rfl
@[simp] theorem State.markPoison_queues (s : State) (k n : Nat) : (s.markPoison k n).queues = s.queues := rfl
@[simp] theorem State.markPoison_requests (s : State) (k n : Nat) : (s.markPoison k n).requests = s.requests := rfl
@[simp] theorem State.markPoison_flows (s : State) (k n : Nat) : (s.markPoison k n).flows = s.flows := rfl
@[simp] theorem State.markPoison_ports (s : State) (k n : Nat) : (s.markPoison k n).ports = s.ports := rfl
@[simp] theorem State.markPoison_host (s : State) (k n : Nat) : (s.markPoison k n).host = s.host := rfl
@[simp] theorem State.markPoison_mgmt (s : State) (k n : Nat) : (s.markPoison k n).mgmt = s.mgmt := rfl
@[simp] theorem State.markPoison_cycle (s : State) (k n : Nat) : (s.markPoison k n).cycle = s.cycle := rfl
@[simp] theorem State.markPoison_now (s : State) (k n : Nat) : (s.markPoison k n).now = s.now := rfl
@[simp] theorem State.markPoison_locked (s : State) (k n : Nat) : (s.markPoison k n).locked = s.locked := rfl
@[simp] theorem State.markPoison_stepped (s : State) (k n : Nat) : (s.markPoison k n).stepped = s.stepped := rfl
@[simp] theorem State.markPoison_drift (s : State) (k n : Nat) : (s.markPoison k n).drift = s.drift := rfl
@[simp] theorem State.markPoison_egress (s : State) (k n : Nat) : (s.markPoison k n).egress = s.egress := rfl
@[simp] theorem State.markPoison_agenda (s : State) (k n : Nat) : (s.markPoison k n).agenda = s.agenda := rfl
@[simp] theorem State.markPoison_deferred (s : State) (k n : Nat) : (s.markPoison k n).deferred = s.deferred := rfl
@[simp] theorem State.markPoison_schedule (s : State) (k n : Nat) : (s.markPoison k n).schedule = s.schedule := rfl
@[simp] theorem State.markPoison_reached (s : State) (k n : Nat) : (s.markPoison k n).reached = s.reached := rfl
@[simp] theorem State.markPoison_reachedAt (s : State) (k n : Nat) : (s.markPoison k n).reachedAt = s.reachedAt := rfl
@[simp] theorem State.markPoison_cur (s : State) (k n : Nat) : (s.markPoison k n).cur = s.cur := rfl
@[simp] theorem State.markPoison_stalled (s : State) (k n : Nat) : (s.markPoison k n).stalled = s.stalled := rfl
@[simp] theorem State.markPoison_issuing (s : State) (k n : Nat) : (s.markPoison k n).issuing = s.issuing := rfl
@[simp] theorem State.markPoison_cursor (s : State) (k n : Nat) : (s.markPoison k n).cursor = s.cursor := rfl
@[simp] theorem State.markPoison_nextId (s : State) (k n : Nat) : (s.markPoison k n).nextId = s.nextId := rfl
@[simp] theorem State.markPoison_drawn (s : State) (k n : Nat) : (s.markPoison k n).drawn = s.drawn := rfl

@[simp] theorem State.retire_mem (s : State) (g : Nat) (f : Slot → Slot) : (s.retire g f).mem = s.mem := rfl
@[simp] theorem State.retire_poison (s : State) (g : Nat) (f : Slot → Slot) : (s.retire g f).poison = s.poison := rfl
@[simp] theorem State.retire_keyTag (s : State) (g : Nat) (f : Slot → Slot) : (s.retire g f).keyTag = s.keyTag := rfl
@[simp] theorem State.retire_tiles (s : State) (g : Nat) (f : Slot → Slot) : (s.retire g f).tiles = s.tiles := rfl
@[simp] theorem State.retire_gangs (s : State) (g : Nat) (f : Slot → Slot) : (s.retire g f).gangs = s.gangs := rfl
@[simp] theorem State.retire_dies (s : State) (g : Nat) (f : Slot → Slot) : (s.retire g f).dies = s.dies := rfl
@[simp] theorem State.retire_scopes (s : State) (g : Nat) (f : Slot → Slot) : (s.retire g f).scopes = s.scopes := rfl
@[simp] theorem State.retire_scopeGens (s : State) (g : Nat) (f : Slot → Slot) : (s.retire g f).scopeGens = s.scopeGens := rfl
@[simp] theorem State.retire_owed (s : State) (g : Nat) (f : Slot → Slot) : (s.retire g f).owed = s.owed := rfl
@[simp] theorem State.retire_parts (s : State) (g : Nat) (f : Slot → Slot) : (s.retire g f).parts = s.parts := rfl
@[simp] theorem State.retire_images (s : State) (g : Nat) (f : Slot → Slot) : (s.retire g f).images = s.images := rfl
@[simp] theorem State.retire_instances (s : State) (g : Nat) (f : Slot → Slot) : (s.retire g f).instances = s.instances := rfl
@[simp] theorem State.retire_commands (s : State) (g : Nat) (f : Slot → Slot) : (s.retire g f).commands = s.commands := rfl
@[simp] theorem State.retire_mail (s : State) (g : Nat) (f : Slot → Slot) : (s.retire g f).mail = s.mail := rfl
@[simp] theorem State.retire_queues (s : State) (g : Nat) (f : Slot → Slot) : (s.retire g f).queues = s.queues := rfl
@[simp] theorem State.retire_requests (s : State) (g : Nat) (f : Slot → Slot) : (s.retire g f).requests = s.requests := rfl
@[simp] theorem State.retire_flows (s : State) (g : Nat) (f : Slot → Slot) : (s.retire g f).flows = s.flows := rfl
@[simp] theorem State.retire_ports (s : State) (g : Nat) (f : Slot → Slot) : (s.retire g f).ports = s.ports := rfl
@[simp] theorem State.retire_host (s : State) (g : Nat) (f : Slot → Slot) : (s.retire g f).host = s.host := rfl
@[simp] theorem State.retire_mgmt (s : State) (g : Nat) (f : Slot → Slot) : (s.retire g f).mgmt = s.mgmt := rfl
@[simp] theorem State.retire_cycle (s : State) (g : Nat) (f : Slot → Slot) : (s.retire g f).cycle = s.cycle := rfl
@[simp] theorem State.retire_now (s : State) (g : Nat) (f : Slot → Slot) : (s.retire g f).now = s.now := rfl
@[simp] theorem State.retire_locked (s : State) (g : Nat) (f : Slot → Slot) : (s.retire g f).locked = s.locked := rfl
@[simp] theorem State.retire_stepped (s : State) (g : Nat) (f : Slot → Slot) : (s.retire g f).stepped = s.stepped := rfl
@[simp] theorem State.retire_drift (s : State) (g : Nat) (f : Slot → Slot) : (s.retire g f).drift = s.drift := rfl
@[simp] theorem State.retire_egress (s : State) (g : Nat) (f : Slot → Slot) : (s.retire g f).egress = s.egress := rfl
@[simp] theorem State.retire_agenda (s : State) (g : Nat) (f : Slot → Slot) : (s.retire g f).agenda = s.agenda := rfl
@[simp] theorem State.retire_deferred (s : State) (g : Nat) (f : Slot → Slot) : (s.retire g f).deferred = s.deferred := rfl
@[simp] theorem State.retire_schedule (s : State) (g : Nat) (f : Slot → Slot) : (s.retire g f).schedule = s.schedule := rfl
@[simp] theorem State.retire_reached (s : State) (g : Nat) (f : Slot → Slot) : (s.retire g f).reached = s.reached := rfl
@[simp] theorem State.retire_reachedAt (s : State) (g : Nat) (f : Slot → Slot) : (s.retire g f).reachedAt = s.reachedAt := rfl
@[simp] theorem State.retire_cur (s : State) (g : Nat) (f : Slot → Slot) : (s.retire g f).cur = s.cur := rfl
@[simp] theorem State.retire_stalled (s : State) (g : Nat) (f : Slot → Slot) : (s.retire g f).stalled = s.stalled := rfl
@[simp] theorem State.retire_issuing (s : State) (g : Nat) (f : Slot → Slot) : (s.retire g f).issuing = s.issuing := rfl
@[simp] theorem State.retire_cursor (s : State) (g : Nat) (f : Slot → Slot) : (s.retire g f).cursor = s.cursor := rfl
@[simp] theorem State.retire_nextId (s : State) (g : Nat) (f : Slot → Slot) : (s.retire g f).nextId = s.nextId := rfl
@[simp] theorem State.retire_drawn (s : State) (g : Nat) (f : Slot → Slot) : (s.retire g f).drawn = s.drawn := rfl

@[simp] theorem State.countTile_mem (s : State) (g i n : Nat) : (s.countTile g i n).mem = s.mem := rfl
@[simp] theorem State.countTile_poison (s : State) (g i n : Nat) : (s.countTile g i n).poison = s.poison := rfl
@[simp] theorem State.countTile_keyTag (s : State) (g i n : Nat) : (s.countTile g i n).keyTag = s.keyTag := rfl
@[simp] theorem State.countTile_slots (s : State) (g i n : Nat) : (s.countTile g i n).slots = s.slots := rfl
@[simp] theorem State.countTile_gangs (s : State) (g i n : Nat) : (s.countTile g i n).gangs = s.gangs := rfl
@[simp] theorem State.countTile_dies (s : State) (g i n : Nat) : (s.countTile g i n).dies = s.dies := rfl
@[simp] theorem State.countTile_scopes (s : State) (g i n : Nat) : (s.countTile g i n).scopes = s.scopes := rfl
@[simp] theorem State.countTile_scopeGens (s : State) (g i n : Nat) : (s.countTile g i n).scopeGens = s.scopeGens := rfl
@[simp] theorem State.countTile_owed (s : State) (g i n : Nat) : (s.countTile g i n).owed = s.owed := rfl
@[simp] theorem State.countTile_parts (s : State) (g i n : Nat) : (s.countTile g i n).parts = s.parts := rfl
@[simp] theorem State.countTile_images (s : State) (g i n : Nat) : (s.countTile g i n).images = s.images := rfl
@[simp] theorem State.countTile_instances (s : State) (g i n : Nat) : (s.countTile g i n).instances = s.instances := rfl
@[simp] theorem State.countTile_commands (s : State) (g i n : Nat) : (s.countTile g i n).commands = s.commands := rfl
@[simp] theorem State.countTile_mail (s : State) (g i n : Nat) : (s.countTile g i n).mail = s.mail := rfl
@[simp] theorem State.countTile_queues (s : State) (g i n : Nat) : (s.countTile g i n).queues = s.queues := rfl
@[simp] theorem State.countTile_requests (s : State) (g i n : Nat) : (s.countTile g i n).requests = s.requests := rfl
@[simp] theorem State.countTile_flows (s : State) (g i n : Nat) : (s.countTile g i n).flows = s.flows := rfl
@[simp] theorem State.countTile_ports (s : State) (g i n : Nat) : (s.countTile g i n).ports = s.ports := rfl
@[simp] theorem State.countTile_host (s : State) (g i n : Nat) : (s.countTile g i n).host = s.host := rfl
@[simp] theorem State.countTile_mgmt (s : State) (g i n : Nat) : (s.countTile g i n).mgmt = s.mgmt := rfl
@[simp] theorem State.countTile_cycle (s : State) (g i n : Nat) : (s.countTile g i n).cycle = s.cycle := rfl
@[simp] theorem State.countTile_now (s : State) (g i n : Nat) : (s.countTile g i n).now = s.now := rfl
@[simp] theorem State.countTile_locked (s : State) (g i n : Nat) : (s.countTile g i n).locked = s.locked := rfl
@[simp] theorem State.countTile_stepped (s : State) (g i n : Nat) : (s.countTile g i n).stepped = s.stepped := rfl
@[simp] theorem State.countTile_drift (s : State) (g i n : Nat) : (s.countTile g i n).drift = s.drift := rfl
@[simp] theorem State.countTile_egress (s : State) (g i n : Nat) : (s.countTile g i n).egress = s.egress := rfl
@[simp] theorem State.countTile_agenda (s : State) (g i n : Nat) : (s.countTile g i n).agenda = s.agenda := rfl
@[simp] theorem State.countTile_deferred (s : State) (g i n : Nat) : (s.countTile g i n).deferred = s.deferred := rfl
@[simp] theorem State.countTile_schedule (s : State) (g i n : Nat) : (s.countTile g i n).schedule = s.schedule := rfl
@[simp] theorem State.countTile_reached (s : State) (g i n : Nat) : (s.countTile g i n).reached = s.reached := rfl
@[simp] theorem State.countTile_reachedAt (s : State) (g i n : Nat) : (s.countTile g i n).reachedAt = s.reachedAt := rfl
@[simp] theorem State.countTile_cur (s : State) (g i n : Nat) : (s.countTile g i n).cur = s.cur := rfl
@[simp] theorem State.countTile_stalled (s : State) (g i n : Nat) : (s.countTile g i n).stalled = s.stalled := rfl
@[simp] theorem State.countTile_issuing (s : State) (g i n : Nat) : (s.countTile g i n).issuing = s.issuing := rfl
@[simp] theorem State.countTile_cursor (s : State) (g i n : Nat) : (s.countTile g i n).cursor = s.cursor := rfl
@[simp] theorem State.countTile_nextId (s : State) (g i n : Nat) : (s.countTile g i n).nextId = s.nextId := rfl
@[simp] theorem State.countTile_drawn (s : State) (g i n : Nat) : (s.countTile g i n).drawn = s.drawn := rfl

@[simp] theorem State.countDie_mem (s : State) (d i n : Nat) : (s.countDie d i n).mem = s.mem := rfl
@[simp] theorem State.countDie_poison (s : State) (d i n : Nat) : (s.countDie d i n).poison = s.poison := rfl
@[simp] theorem State.countDie_keyTag (s : State) (d i n : Nat) : (s.countDie d i n).keyTag = s.keyTag := rfl
@[simp] theorem State.countDie_slots (s : State) (d i n : Nat) : (s.countDie d i n).slots = s.slots := rfl
@[simp] theorem State.countDie_tiles (s : State) (d i n : Nat) : (s.countDie d i n).tiles = s.tiles := rfl
@[simp] theorem State.countDie_gangs (s : State) (d i n : Nat) : (s.countDie d i n).gangs = s.gangs := rfl
@[simp] theorem State.countDie_scopes (s : State) (d i n : Nat) : (s.countDie d i n).scopes = s.scopes := rfl
@[simp] theorem State.countDie_scopeGens (s : State) (d i n : Nat) : (s.countDie d i n).scopeGens = s.scopeGens := rfl
@[simp] theorem State.countDie_owed (s : State) (d i n : Nat) : (s.countDie d i n).owed = s.owed := rfl
@[simp] theorem State.countDie_parts (s : State) (d i n : Nat) : (s.countDie d i n).parts = s.parts := rfl
@[simp] theorem State.countDie_images (s : State) (d i n : Nat) : (s.countDie d i n).images = s.images := rfl
@[simp] theorem State.countDie_instances (s : State) (d i n : Nat) : (s.countDie d i n).instances = s.instances := rfl
@[simp] theorem State.countDie_commands (s : State) (d i n : Nat) : (s.countDie d i n).commands = s.commands := rfl
@[simp] theorem State.countDie_mail (s : State) (d i n : Nat) : (s.countDie d i n).mail = s.mail := rfl
@[simp] theorem State.countDie_queues (s : State) (d i n : Nat) : (s.countDie d i n).queues = s.queues := rfl
@[simp] theorem State.countDie_requests (s : State) (d i n : Nat) : (s.countDie d i n).requests = s.requests := rfl
@[simp] theorem State.countDie_flows (s : State) (d i n : Nat) : (s.countDie d i n).flows = s.flows := rfl
@[simp] theorem State.countDie_ports (s : State) (d i n : Nat) : (s.countDie d i n).ports = s.ports := rfl
@[simp] theorem State.countDie_host (s : State) (d i n : Nat) : (s.countDie d i n).host = s.host := rfl
@[simp] theorem State.countDie_mgmt (s : State) (d i n : Nat) : (s.countDie d i n).mgmt = s.mgmt := rfl
@[simp] theorem State.countDie_cycle (s : State) (d i n : Nat) : (s.countDie d i n).cycle = s.cycle := rfl
@[simp] theorem State.countDie_now (s : State) (d i n : Nat) : (s.countDie d i n).now = s.now := rfl
@[simp] theorem State.countDie_locked (s : State) (d i n : Nat) : (s.countDie d i n).locked = s.locked := rfl
@[simp] theorem State.countDie_stepped (s : State) (d i n : Nat) : (s.countDie d i n).stepped = s.stepped := rfl
@[simp] theorem State.countDie_drift (s : State) (d i n : Nat) : (s.countDie d i n).drift = s.drift := rfl
@[simp] theorem State.countDie_egress (s : State) (d i n : Nat) : (s.countDie d i n).egress = s.egress := rfl
@[simp] theorem State.countDie_agenda (s : State) (d i n : Nat) : (s.countDie d i n).agenda = s.agenda := rfl
@[simp] theorem State.countDie_deferred (s : State) (d i n : Nat) : (s.countDie d i n).deferred = s.deferred := rfl
@[simp] theorem State.countDie_schedule (s : State) (d i n : Nat) : (s.countDie d i n).schedule = s.schedule := rfl
@[simp] theorem State.countDie_reached (s : State) (d i n : Nat) : (s.countDie d i n).reached = s.reached := rfl
@[simp] theorem State.countDie_reachedAt (s : State) (d i n : Nat) : (s.countDie d i n).reachedAt = s.reachedAt := rfl
@[simp] theorem State.countDie_cur (s : State) (d i n : Nat) : (s.countDie d i n).cur = s.cur := rfl
@[simp] theorem State.countDie_stalled (s : State) (d i n : Nat) : (s.countDie d i n).stalled = s.stalled := rfl
@[simp] theorem State.countDie_issuing (s : State) (d i n : Nat) : (s.countDie d i n).issuing = s.issuing := rfl
@[simp] theorem State.countDie_cursor (s : State) (d i n : Nat) : (s.countDie d i n).cursor = s.cursor := rfl
@[simp] theorem State.countDie_nextId (s : State) (d i n : Nat) : (s.countDie d i n).nextId = s.nextId := rfl
@[simp] theorem State.countDie_drawn (s : State) (d i n : Nat) : (s.countDie d i n).drawn = s.drawn := rfl

@[simp] theorem State.setCounter_mem (s : State) (g k : Nat) (v : BitVec 16) : (s.setCounter g k v).mem = s.mem := rfl
@[simp] theorem State.setCounter_poison (s : State) (g k : Nat) (v : BitVec 16) : (s.setCounter g k v).poison = s.poison := rfl
@[simp] theorem State.setCounter_keyTag (s : State) (g k : Nat) (v : BitVec 16) : (s.setCounter g k v).keyTag = s.keyTag := rfl
@[simp] theorem State.setCounter_slots (s : State) (g k : Nat) (v : BitVec 16) : (s.setCounter g k v).slots = s.slots := rfl
@[simp] theorem State.setCounter_gangs (s : State) (g k : Nat) (v : BitVec 16) : (s.setCounter g k v).gangs = s.gangs := rfl
@[simp] theorem State.setCounter_dies (s : State) (g k : Nat) (v : BitVec 16) : (s.setCounter g k v).dies = s.dies := rfl
@[simp] theorem State.setCounter_scopes (s : State) (g k : Nat) (v : BitVec 16) : (s.setCounter g k v).scopes = s.scopes := rfl
@[simp] theorem State.setCounter_scopeGens (s : State) (g k : Nat) (v : BitVec 16) : (s.setCounter g k v).scopeGens = s.scopeGens := rfl
@[simp] theorem State.setCounter_owed (s : State) (g k : Nat) (v : BitVec 16) : (s.setCounter g k v).owed = s.owed := rfl
@[simp] theorem State.setCounter_parts (s : State) (g k : Nat) (v : BitVec 16) : (s.setCounter g k v).parts = s.parts := rfl
@[simp] theorem State.setCounter_images (s : State) (g k : Nat) (v : BitVec 16) : (s.setCounter g k v).images = s.images := rfl
@[simp] theorem State.setCounter_instances (s : State) (g k : Nat) (v : BitVec 16) : (s.setCounter g k v).instances = s.instances := rfl
@[simp] theorem State.setCounter_commands (s : State) (g k : Nat) (v : BitVec 16) : (s.setCounter g k v).commands = s.commands := rfl
@[simp] theorem State.setCounter_mail (s : State) (g k : Nat) (v : BitVec 16) : (s.setCounter g k v).mail = s.mail := rfl
@[simp] theorem State.setCounter_queues (s : State) (g k : Nat) (v : BitVec 16) : (s.setCounter g k v).queues = s.queues := rfl
@[simp] theorem State.setCounter_requests (s : State) (g k : Nat) (v : BitVec 16) : (s.setCounter g k v).requests = s.requests := rfl
@[simp] theorem State.setCounter_flows (s : State) (g k : Nat) (v : BitVec 16) : (s.setCounter g k v).flows = s.flows := rfl
@[simp] theorem State.setCounter_ports (s : State) (g k : Nat) (v : BitVec 16) : (s.setCounter g k v).ports = s.ports := rfl
@[simp] theorem State.setCounter_host (s : State) (g k : Nat) (v : BitVec 16) : (s.setCounter g k v).host = s.host := rfl
@[simp] theorem State.setCounter_mgmt (s : State) (g k : Nat) (v : BitVec 16) : (s.setCounter g k v).mgmt = s.mgmt := rfl
@[simp] theorem State.setCounter_cycle (s : State) (g k : Nat) (v : BitVec 16) : (s.setCounter g k v).cycle = s.cycle := rfl
@[simp] theorem State.setCounter_now (s : State) (g k : Nat) (v : BitVec 16) : (s.setCounter g k v).now = s.now := rfl
@[simp] theorem State.setCounter_locked (s : State) (g k : Nat) (v : BitVec 16) : (s.setCounter g k v).locked = s.locked := rfl
@[simp] theorem State.setCounter_stepped (s : State) (g k : Nat) (v : BitVec 16) : (s.setCounter g k v).stepped = s.stepped := rfl
@[simp] theorem State.setCounter_drift (s : State) (g k : Nat) (v : BitVec 16) : (s.setCounter g k v).drift = s.drift := rfl
@[simp] theorem State.setCounter_egress (s : State) (g k : Nat) (v : BitVec 16) : (s.setCounter g k v).egress = s.egress := rfl
@[simp] theorem State.setCounter_agenda (s : State) (g k : Nat) (v : BitVec 16) : (s.setCounter g k v).agenda = s.agenda := rfl
@[simp] theorem State.setCounter_deferred (s : State) (g k : Nat) (v : BitVec 16) : (s.setCounter g k v).deferred = s.deferred := rfl
@[simp] theorem State.setCounter_schedule (s : State) (g k : Nat) (v : BitVec 16) : (s.setCounter g k v).schedule = s.schedule := rfl
@[simp] theorem State.setCounter_reached (s : State) (g k : Nat) (v : BitVec 16) : (s.setCounter g k v).reached = s.reached := rfl
@[simp] theorem State.setCounter_reachedAt (s : State) (g k : Nat) (v : BitVec 16) : (s.setCounter g k v).reachedAt = s.reachedAt := rfl
@[simp] theorem State.setCounter_cur (s : State) (g k : Nat) (v : BitVec 16) : (s.setCounter g k v).cur = s.cur := rfl
@[simp] theorem State.setCounter_stalled (s : State) (g k : Nat) (v : BitVec 16) : (s.setCounter g k v).stalled = s.stalled := rfl
@[simp] theorem State.setCounter_issuing (s : State) (g k : Nat) (v : BitVec 16) : (s.setCounter g k v).issuing = s.issuing := rfl
@[simp] theorem State.setCounter_cursor (s : State) (g k : Nat) (v : BitVec 16) : (s.setCounter g k v).cursor = s.cursor := rfl
@[simp] theorem State.setCounter_nextId (s : State) (g k : Nat) (v : BitVec 16) : (s.setCounter g k v).nextId = s.nextId := rfl
@[simp] theorem State.setCounter_drawn (s : State) (g k : Nat) (v : BitVec 16) : (s.setCounter g k v).drawn = s.drawn := rfl

@[simp] theorem State.setSlot_slots (s : State) (g : Nat) (t : Slot) : (s.setSlot g t).slots = Assoc.set s.slots g t := rfl
@[simp] theorem State.post_agenda (s : State) (i : Instr) : (s.post i).agenda = s.agenda ++ [i] := rfl
@[simp] theorem State.emit_egress (s : State) (e : Egress) : (s.emit e).egress = s.egress ++ [e] := rfl
@[simp] theorem State.writeMem_mem (s : State) (k : Nat) (bs : Bytes) : (s.writeMem k bs).mem = Memory.write s.mem k bs := rfl
@[simp] theorem State.clearMem_mem (s : State) (k n : Nat) : (s.clearMem k n).mem = Memory.clear s.mem k n := rfl

@[simp] theorem Slot.setFlow_state (t : Slot) (b : Bank) (q : Flow) : (t.setFlow b q).state = t.state := by cases b <;> rfl
@[simp] theorem Slot.setX_state (t : Slot) (r : Reg) (v : Word) : (t.setX r v).state = t.state := by simp [Slot.setX, Slot.writeX]
@[simp] theorem Slot.advance_state (t : Slot) : t.advance.state = t.state := by simp [Slot.advance]
@[simp] theorem Slot.orFlags_state (t : Slot) (x : BitVec 7) : (t.orFlags x).state = t.state := rfl
@[simp] theorem Slot.setFlow_v (t : Slot) (b : Bank) (q : Flow) : (t.setFlow b q).v = t.v := by cases b <;> rfl
@[simp] theorem Slot.setX_v (t : Slot) (r : Reg) (v : Word) : (t.setX r v).v = t.v := by simp [Slot.setX, Slot.writeX]
@[simp] theorem Slot.advance_v (t : Slot) : t.advance.v = t.v := by simp [Slot.advance]
@[simp] theorem Slot.orFlags_v (t : Slot) (x : BitVec 7) : (t.orFlags x).v = t.v := rfl
@[simp] theorem Slot.setFlow_hv (t : Slot) (b : Bank) (q : Flow) : (t.setFlow b q).hv = t.hv := by cases b <;> rfl
@[simp] theorem Slot.setX_hv (t : Slot) (r : Reg) (v : Word) : (t.setX r v).hv = t.hv := by simp [Slot.setX, Slot.writeX]
@[simp] theorem Slot.advance_hv (t : Slot) : t.advance.hv = t.hv := by simp [Slot.advance]
@[simp] theorem Slot.orFlags_hv (t : Slot) (x : BitVec 7) : (t.orFlags x).hv = t.hv := rfl
@[simp] theorem Slot.setFlow_prec (t : Slot) (b : Bank) (q : Flow) : (t.setFlow b q).prec = t.prec := by cases b <;> rfl
@[simp] theorem Slot.setX_prec (t : Slot) (r : Reg) (v : Word) : (t.setX r v).prec = t.prec := by simp [Slot.setX, Slot.writeX]
@[simp] theorem Slot.advance_prec (t : Slot) : t.advance.prec = t.prec := by simp [Slot.advance]
@[simp] theorem Slot.orFlags_prec (t : Slot) (x : BitVec 7) : (t.orFlags x).prec = t.prec := rfl
@[simp] theorem Slot.setFlow_rm (t : Slot) (b : Bank) (q : Flow) : (t.setFlow b q).rm = t.rm := by cases b <;> rfl
@[simp] theorem Slot.setX_rm (t : Slot) (r : Reg) (v : Word) : (t.setX r v).rm = t.rm := by simp [Slot.setX, Slot.writeX]
@[simp] theorem Slot.advance_rm (t : Slot) : t.advance.rm = t.rm := by simp [Slot.advance]
@[simp] theorem Slot.orFlags_rm (t : Slot) (x : BitVec 7) : (t.orFlags x).rm = t.rm := rfl
@[simp] theorem Slot.setFlow_flags (t : Slot) (b : Bank) (q : Flow) : (t.setFlow b q).flags = t.flags := by cases b <;> rfl
@[simp] theorem Slot.setX_flags (t : Slot) (r : Reg) (v : Word) : (t.setX r v).flags = t.flags := by simp [Slot.setX, Slot.writeX]
@[simp] theorem Slot.advance_flags (t : Slot) : t.advance.flags = t.flags := by simp [Slot.advance]
@[simp] theorem Slot.setFlow_seed (t : Slot) (b : Bank) (q : Flow) : (t.setFlow b q).seed = t.seed := by cases b <;> rfl
@[simp] theorem Slot.setX_seed (t : Slot) (r : Reg) (v : Word) : (t.setX r v).seed = t.seed := by simp [Slot.setX, Slot.writeX]
@[simp] theorem Slot.advance_seed (t : Slot) : t.advance.seed = t.seed := by simp [Slot.advance]
@[simp] theorem Slot.orFlags_seed (t : Slot) (x : BitVec 7) : (t.orFlags x).seed = t.seed := rfl
@[simp] theorem Slot.setFlow_srseq (t : Slot) (b : Bank) (q : Flow) : (t.setFlow b q).srseq = t.srseq := by cases b <;> rfl
@[simp] theorem Slot.setX_srseq (t : Slot) (r : Reg) (v : Word) : (t.setX r v).srseq = t.srseq := by simp [Slot.setX, Slot.writeX]
@[simp] theorem Slot.advance_srseq (t : Slot) : t.advance.srseq = t.srseq := by simp [Slot.advance]
@[simp] theorem Slot.orFlags_srseq (t : Slot) (x : BitVec 7) : (t.orFlags x).srseq = t.srseq := rfl
@[simp] theorem Slot.setFlow_instance_ (t : Slot) (b : Bank) (q : Flow) : (t.setFlow b q).instance_ = t.instance_ := by cases b <;> rfl
@[simp] theorem Slot.setX_instance_ (t : Slot) (r : Reg) (v : Word) : (t.setX r v).instance_ = t.instance_ := by simp [Slot.setX, Slot.writeX]
@[simp] theorem Slot.advance_instance_ (t : Slot) : t.advance.instance_ = t.instance_ := by simp [Slot.advance]
@[simp] theorem Slot.orFlags_instance_ (t : Slot) (x : BitVec 7) : (t.orFlags x).instance_ = t.instance_ := rfl
@[simp] theorem Slot.setFlow_taskid (t : Slot) (b : Bank) (q : Flow) : (t.setFlow b q).taskid = t.taskid := by cases b <;> rfl
@[simp] theorem Slot.setX_taskid (t : Slot) (r : Reg) (v : Word) : (t.setX r v).taskid = t.taskid := by simp [Slot.setX, Slot.writeX]
@[simp] theorem Slot.advance_taskid (t : Slot) : t.advance.taskid = t.taskid := by simp [Slot.advance]
@[simp] theorem Slot.orFlags_taskid (t : Slot) (x : BitVec 7) : (t.orFlags x).taskid = t.taskid := rfl
@[simp] theorem Slot.setFlow_grant (t : Slot) (b : Bank) (q : Flow) : (t.setFlow b q).grant = t.grant := by cases b <;> rfl
@[simp] theorem Slot.setX_grant (t : Slot) (r : Reg) (v : Word) : (t.setX r v).grant = t.grant := by simp [Slot.setX, Slot.writeX]
@[simp] theorem Slot.advance_grant (t : Slot) : t.advance.grant = t.grant := by simp [Slot.advance]
@[simp] theorem Slot.orFlags_grant (t : Slot) (x : BitVec 7) : (t.orFlags x).grant = t.grant := rfl
@[simp] theorem Slot.setFlow_levels (t : Slot) (b : Bank) (q : Flow) : (t.setFlow b q).levels = t.levels := by cases b <;> rfl
@[simp] theorem Slot.setX_levels (t : Slot) (r : Reg) (v : Word) : (t.setX r v).levels = t.levels := by simp [Slot.setX, Slot.writeX]
@[simp] theorem Slot.advance_levels (t : Slot) : t.advance.levels = t.levels := by simp [Slot.advance]
@[simp] theorem Slot.orFlags_levels (t : Slot) (x : BitVec 7) : (t.orFlags x).levels = t.levels := rfl
@[simp] theorem Slot.setFlow_clevel (t : Slot) (b : Bank) (q : Flow) : (t.setFlow b q).clevel = t.clevel := by cases b <;> rfl
@[simp] theorem Slot.setX_clevel (t : Slot) (r : Reg) (v : Word) : (t.setX r v).clevel = t.clevel := by simp [Slot.setX, Slot.writeX]
@[simp] theorem Slot.advance_clevel (t : Slot) : t.advance.clevel = t.clevel := by simp [Slot.advance]
@[simp] theorem Slot.orFlags_clevel (t : Slot) (x : BitVec 7) : (t.orFlags x).clevel = t.clevel := rfl
@[simp] theorem Slot.setFlow_part (t : Slot) (b : Bank) (q : Flow) : (t.setFlow b q).part = t.part := by cases b <;> rfl
@[simp] theorem Slot.setX_part (t : Slot) (r : Reg) (v : Word) : (t.setX r v).part = t.part := by simp [Slot.setX, Slot.writeX]
@[simp] theorem Slot.advance_part (t : Slot) : t.advance.part = t.part := by simp [Slot.advance]
@[simp] theorem Slot.orFlags_part (t : Slot) (x : BitVec 7) : (t.orFlags x).part = t.part := rfl
@[simp] theorem Slot.setFlow_image (t : Slot) (b : Bank) (q : Flow) : (t.setFlow b q).image = t.image := by cases b <;> rfl
@[simp] theorem Slot.setX_image (t : Slot) (r : Reg) (v : Word) : (t.setX r v).image = t.image := by simp [Slot.setX, Slot.writeX]
@[simp] theorem Slot.advance_image (t : Slot) : t.advance.image = t.image := by simp [Slot.advance]
@[simp] theorem Slot.orFlags_image (t : Slot) (x : BitVec 7) : (t.orFlags x).image = t.image := rfl
@[simp] theorem Slot.setFlow_kernel (t : Slot) (b : Bank) (q : Flow) : (t.setFlow b q).kernel = t.kernel := by cases b <;> rfl
@[simp] theorem Slot.setX_kernel (t : Slot) (r : Reg) (v : Word) : (t.setX r v).kernel = t.kernel := by simp [Slot.setX, Slot.writeX]
@[simp] theorem Slot.advance_kernel (t : Slot) : t.advance.kernel = t.kernel := by simp [Slot.advance]
@[simp] theorem Slot.orFlags_kernel (t : Slot) (x : BitVec 7) : (t.orFlags x).kernel = t.kernel := rfl
@[simp] theorem Slot.setFlow_task (t : Slot) (b : Bank) (q : Flow) : (t.setFlow b q).task = t.task := by cases b <;> rfl
@[simp] theorem Slot.setX_task (t : Slot) (r : Reg) (v : Word) : (t.setX r v).task = t.task := by simp [Slot.setX, Slot.writeX]
@[simp] theorem Slot.advance_task (t : Slot) : t.advance.task = t.task := by simp [Slot.advance]
@[simp] theorem Slot.orFlags_task (t : Slot) (x : BitVec 7) : (t.orFlags x).task = t.task := rfl
@[simp] theorem Slot.setFlow_status (t : Slot) (b : Bank) (q : Flow) : (t.setFlow b q).status = t.status := by cases b <;> rfl
@[simp] theorem Slot.setX_status (t : Slot) (r : Reg) (v : Word) : (t.setX r v).status = t.status := by simp [Slot.setX, Slot.writeX]
@[simp] theorem Slot.advance_status (t : Slot) : t.advance.status = t.status := by simp [Slot.advance]
@[simp] theorem Slot.orFlags_status (t : Slot) (x : BitVec 7) : (t.orFlags x).status = t.status := rfl
@[simp] theorem Slot.setFlow_epc (t : Slot) (b : Bank) (q : Flow) : (t.setFlow b q).epc = t.epc := by cases b <;> rfl
@[simp] theorem Slot.setX_epc (t : Slot) (r : Reg) (v : Word) : (t.setX r v).epc = t.epc := by simp [Slot.setX, Slot.writeX]
@[simp] theorem Slot.advance_epc (t : Slot) : t.advance.epc = t.epc := by simp [Slot.advance]
@[simp] theorem Slot.orFlags_epc (t : Slot) (x : BitVec 7) : (t.orFlags x).epc = t.epc := rfl
@[simp] theorem Slot.setFlow_ecause (t : Slot) (b : Bank) (q : Flow) : (t.setFlow b q).ecause = t.ecause := by cases b <;> rfl
@[simp] theorem Slot.setX_ecause (t : Slot) (r : Reg) (v : Word) : (t.setX r v).ecause = t.ecause := by simp [Slot.setX, Slot.writeX]
@[simp] theorem Slot.advance_ecause (t : Slot) : t.advance.ecause = t.ecause := by simp [Slot.advance]
@[simp] theorem Slot.orFlags_ecause (t : Slot) (x : BitVec 7) : (t.orFlags x).ecause = t.ecause := rfl
@[simp] theorem Slot.setFlow_etval (t : Slot) (b : Bank) (q : Flow) : (t.setFlow b q).etval = t.etval := by cases b <;> rfl
@[simp] theorem Slot.setX_etval (t : Slot) (r : Reg) (v : Word) : (t.setX r v).etval = t.etval := by simp [Slot.setX, Slot.writeX]
@[simp] theorem Slot.advance_etval (t : Slot) : t.advance.etval = t.etval := by simp [Slot.advance]
@[simp] theorem Slot.orFlags_etval (t : Slot) (x : BitVec 7) : (t.orFlags x).etval = t.etval := rfl
@[simp] theorem Slot.setFlow_tscratch (t : Slot) (b : Bank) (q : Flow) : (t.setFlow b q).tscratch = t.tscratch := by cases b <;> rfl
@[simp] theorem Slot.setX_tscratch (t : Slot) (r : Reg) (v : Word) : (t.setX r v).tscratch = t.tscratch := by simp [Slot.setX, Slot.writeX]
@[simp] theorem Slot.advance_tscratch (t : Slot) : t.advance.tscratch = t.tscratch := by simp [Slot.advance]
@[simp] theorem Slot.orFlags_tscratch (t : Slot) (x : BitVec 7) : (t.orFlags x).tscratch = t.tscratch := rfl
@[simp] theorem Slot.setFlow_umat (t : Slot) (b : Bank) (q : Flow) : (t.setFlow b q).umat = t.umat := by cases b <;> rfl
@[simp] theorem Slot.setX_umat (t : Slot) (r : Reg) (v : Word) : (t.setX r v).umat = t.umat := by simp [Slot.setX, Slot.writeX]
@[simp] theorem Slot.advance_umat (t : Slot) : t.advance.umat = t.umat := by simp [Slot.advance]
@[simp] theorem Slot.orFlags_umat (t : Slot) (x : BitVec 7) : (t.orFlags x).umat = t.umat := rfl
@[simp] theorem Slot.setFlow_uvec (t : Slot) (b : Bank) (q : Flow) : (t.setFlow b q).uvec = t.uvec := by cases b <;> rfl
@[simp] theorem Slot.setX_uvec (t : Slot) (r : Reg) (v : Word) : (t.setX r v).uvec = t.uvec := by simp [Slot.setX, Slot.writeX]
@[simp] theorem Slot.advance_uvec (t : Slot) : t.advance.uvec = t.uvec := by simp [Slot.advance]
@[simp] theorem Slot.orFlags_uvec (t : Slot) (x : BitVec 7) : (t.orFlags x).uvec = t.uvec := rfl
@[simp] theorem Slot.setFlow_usel (t : Slot) (b : Bank) (q : Flow) : (t.setFlow b q).usel = t.usel := by cases b <;> rfl
@[simp] theorem Slot.setX_usel (t : Slot) (r : Reg) (v : Word) : (t.setX r v).usel = t.usel := by simp [Slot.setX, Slot.writeX]
@[simp] theorem Slot.advance_usel (t : Slot) : t.advance.usel = t.usel := by simp [Slot.advance]
@[simp] theorem Slot.orFlags_usel (t : Slot) (x : BitVec 7) : (t.orFlags x).usel = t.usel := rfl
@[simp] theorem Slot.setFlow_inHandler (t : Slot) (b : Bank) (q : Flow) : (t.setFlow b q).inHandler = t.inHandler := by cases b <;> rfl
@[simp] theorem Slot.setX_inHandler (t : Slot) (r : Reg) (v : Word) : (t.setX r v).inHandler = t.inHandler := by simp [Slot.setX, Slot.writeX]
@[simp] theorem Slot.advance_inHandler (t : Slot) : t.advance.inHandler = t.inHandler := by simp [Slot.advance]
@[simp] theorem Slot.orFlags_inHandler (t : Slot) (x : BitVec 7) : (t.orFlags x).inHandler = t.inHandler := rfl
@[simp] theorem Slot.setFlow_resume (t : Slot) (b : Bank) (q : Flow) : (t.setFlow b q).resume = t.resume := by cases b <;> rfl
@[simp] theorem Slot.setX_resume (t : Slot) (r : Reg) (v : Word) : (t.setX r v).resume = t.resume := by simp [Slot.setX, Slot.writeX]
@[simp] theorem Slot.advance_resume (t : Slot) : t.advance.resume = t.resume := by simp [Slot.advance]
@[simp] theorem Slot.orFlags_resume (t : Slot) (x : BitVec 7) : (t.orFlags x).resume = t.resume := rfl
@[simp] theorem Slot.setFlow_wait (t : Slot) (b : Bank) (q : Flow) : (t.setFlow b q).wait = t.wait := by cases b <;> rfl
@[simp] theorem Slot.setX_wait (t : Slot) (r : Reg) (v : Word) : (t.setX r v).wait = t.wait := by simp [Slot.setX, Slot.writeX]
@[simp] theorem Slot.advance_wait (t : Slot) : t.advance.wait = t.wait := by simp [Slot.advance]
@[simp] theorem Slot.orFlags_wait (t : Slot) (x : BitVec 7) : (t.orFlags x).wait = t.wait := rfl
@[simp] theorem Slot.setFlow_waitSerial (t : Slot) (b : Bank) (q : Flow) : (t.setFlow b q).waitSerial = t.waitSerial := by cases b <;> rfl
@[simp] theorem Slot.setX_waitSerial (t : Slot) (r : Reg) (v : Word) : (t.setX r v).waitSerial = t.waitSerial := by simp [Slot.setX, Slot.writeX]
@[simp] theorem Slot.advance_waitSerial (t : Slot) : t.advance.waitSerial = t.waitSerial := by simp [Slot.advance]
@[simp] theorem Slot.orFlags_waitSerial (t : Slot) (x : BitVec 7) : (t.orFlags x).waitSerial = t.waitSerial := rfl
@[simp] theorem Slot.setFlow_hold (t : Slot) (b : Bank) (q : Flow) : (t.setFlow b q).hold = t.hold := by cases b <;> rfl
@[simp] theorem Slot.setX_hold (t : Slot) (r : Reg) (v : Word) : (t.setX r v).hold = t.hold := by simp [Slot.setX, Slot.writeX]
@[simp] theorem Slot.advance_hold (t : Slot) : t.advance.hold = t.hold := by simp [Slot.advance]
@[simp] theorem Slot.orFlags_hold (t : Slot) (x : BitVec 7) : (t.orFlags x).hold = t.hold := rfl
@[simp] theorem Slot.setFlow_expired (t : Slot) (b : Bank) (q : Flow) : (t.setFlow b q).expired = t.expired := by cases b <;> rfl
@[simp] theorem Slot.setX_expired (t : Slot) (r : Reg) (v : Word) : (t.setX r v).expired = t.expired := by simp [Slot.setX, Slot.writeX]
@[simp] theorem Slot.advance_expired (t : Slot) : t.advance.expired = t.expired := by simp [Slot.advance]
@[simp] theorem Slot.orFlags_expired (t : Slot) (x : BitVec 7) : (t.orFlags x).expired = t.expired := rfl
@[simp] theorem Slot.setFlow_killNotice (t : Slot) (b : Bank) (q : Flow) : (t.setFlow b q).killNotice = t.killNotice := by cases b <;> rfl
@[simp] theorem Slot.setX_killNotice (t : Slot) (r : Reg) (v : Word) : (t.setX r v).killNotice = t.killNotice := by simp [Slot.setX, Slot.writeX]
@[simp] theorem Slot.advance_killNotice (t : Slot) : t.advance.killNotice = t.killNotice := by simp [Slot.advance]
@[simp] theorem Slot.orFlags_killNotice (t : Slot) (x : BitVec 7) : (t.orFlags x).killNotice = t.killNotice := rfl
@[simp] theorem Slot.setFlow_forced (t : Slot) (b : Bank) (q : Flow) : (t.setFlow b q).forced = t.forced := by cases b <;> rfl
@[simp] theorem Slot.setX_forced (t : Slot) (r : Reg) (v : Word) : (t.setX r v).forced = t.forced := by simp [Slot.setX, Slot.writeX]
@[simp] theorem Slot.advance_forced (t : Slot) : t.advance.forced = t.forced := by simp [Slot.advance]
@[simp] theorem Slot.orFlags_forced (t : Slot) (x : BitVec 7) : (t.orFlags x).forced = t.forced := rfl
@[simp] theorem Slot.setFlow_memberships (t : Slot) (b : Bank) (q : Flow) : (t.setFlow b q).memberships = t.memberships := by cases b <;> rfl
@[simp] theorem Slot.setX_memberships (t : Slot) (r : Reg) (v : Word) : (t.setX r v).memberships = t.memberships := by simp [Slot.setX, Slot.writeX]
@[simp] theorem Slot.advance_memberships (t : Slot) : t.advance.memberships = t.memberships := by simp [Slot.advance]
@[simp] theorem Slot.orFlags_memberships (t : Slot) (x : BitVec 7) : (t.orFlags x).memberships = t.memberships := rfl
@[simp] theorem Slot.setFlow_gangSyncs (t : Slot) (b : Bank) (q : Flow) : (t.setFlow b q).gangSyncs = t.gangSyncs := by cases b <;> rfl
@[simp] theorem Slot.setX_gangSyncs (t : Slot) (r : Reg) (v : Word) : (t.setX r v).gangSyncs = t.gangSyncs := by simp [Slot.setX, Slot.writeX]
@[simp] theorem Slot.advance_gangSyncs (t : Slot) : t.advance.gangSyncs = t.gangSyncs := by simp [Slot.advance]
@[simp] theorem Slot.orFlags_gangSyncs (t : Slot) (x : BitVec 7) : (t.orFlags x).gangSyncs = t.gangSyncs := rfl
@[simp] theorem Slot.setFlow_gang (t : Slot) (b : Bank) (q : Flow) : (t.setFlow b q).gang = t.gang := by cases b <;> rfl
@[simp] theorem Slot.setX_gang (t : Slot) (r : Reg) (v : Word) : (t.setX r v).gang = t.gang := by simp [Slot.setX, Slot.writeX]
@[simp] theorem Slot.advance_gang (t : Slot) : t.advance.gang = t.gang := by simp [Slot.advance]
@[simp] theorem Slot.orFlags_gang (t : Slot) (x : BitVec 7) : (t.orFlags x).gang = t.gang := rfl
@[simp] theorem Slot.setFlow_dx (t : Slot) (b : Bank) (q : Flow) : (t.setFlow b q).dx = t.dx := by cases b <;> rfl
@[simp] theorem Slot.setX_dx (t : Slot) (r : Reg) (v : Word) : (t.setX r v).dx = t.dx := by simp [Slot.setX, Slot.writeX]
@[simp] theorem Slot.advance_dx (t : Slot) : t.advance.dx = t.dx := by simp [Slot.advance]
@[simp] theorem Slot.orFlags_dx (t : Slot) (x : BitVec 7) : (t.orFlags x).dx = t.dx := rfl
@[simp] theorem Slot.setFlow_dy (t : Slot) (b : Bank) (q : Flow) : (t.setFlow b q).dy = t.dy := by cases b <;> rfl
@[simp] theorem Slot.setX_dy (t : Slot) (r : Reg) (v : Word) : (t.setX r v).dy = t.dy := by simp [Slot.setX, Slot.writeX]
@[simp] theorem Slot.advance_dy (t : Slot) : t.advance.dy = t.dy := by simp [Slot.advance]
@[simp] theorem Slot.orFlags_dy (t : Slot) (x : BitVec 7) : (t.orFlags x).dy = t.dy := rfl
@[simp] theorem Slot.setFlow_results (t : Slot) (b : Bank) (q : Flow) : (t.setFlow b q).results = t.results := by cases b <;> rfl
@[simp] theorem Slot.setX_results (t : Slot) (r : Reg) (v : Word) : (t.setX r v).results = t.results := by simp [Slot.setX, Slot.writeX]
@[simp] theorem Slot.advance_results (t : Slot) : t.advance.results = t.results := by simp [Slot.advance]
@[simp] theorem Slot.orFlags_results (t : Slot) (x : BitVec 7) : (t.orFlags x).results = t.results := rfl
@[simp] theorem Slot.setFlow_vq (t : Slot) (b : Bank) (q : Flow) : (t.setFlow b q).vq = t.vq := by cases b <;> rfl
@[simp] theorem Slot.setX_vq (t : Slot) (r : Reg) (v : Word) : (t.setX r v).vq = t.vq := by simp [Slot.setX, Slot.writeX]
@[simp] theorem Slot.advance_vq (t : Slot) : t.advance.vq = t.vq := by simp [Slot.advance]
@[simp] theorem Slot.orFlags_vq (t : Slot) (x : BitVec 7) : (t.orFlags x).vq = t.vq := rfl
@[simp] theorem Slot.setFlow_vbound (t : Slot) (b : Bank) (q : Flow) : (t.setFlow b q).vbound = t.vbound := by cases b <;> rfl
@[simp] theorem Slot.setX_vbound (t : Slot) (r : Reg) (v : Word) : (t.setX r v).vbound = t.vbound := by simp [Slot.setX, Slot.writeX]
@[simp] theorem Slot.advance_vbound (t : Slot) : t.advance.vbound = t.vbound := by simp [Slot.advance]
@[simp] theorem Slot.orFlags_vbound (t : Slot) (x : BitVec 7) : (t.orFlags x).vbound = t.vbound := rfl
@[simp] theorem Slot.setFlow_mq (t : Slot) (b : Bank) (q : Flow) : (t.setFlow b q).mq = t.mq := by cases b <;> rfl
@[simp] theorem Slot.setX_mq (t : Slot) (r : Reg) (v : Word) : (t.setX r v).mq = t.mq := by simp [Slot.setX, Slot.writeX]
@[simp] theorem Slot.advance_mq (t : Slot) : t.advance.mq = t.mq := by simp [Slot.advance]
@[simp] theorem Slot.orFlags_mq (t : Slot) (x : BitVec 7) : (t.orFlags x).mq = t.mq := rfl
@[simp] theorem Slot.setFlow_mbound (t : Slot) (b : Bank) (q : Flow) : (t.setFlow b q).mbound = t.mbound := by cases b <;> rfl
@[simp] theorem Slot.setX_mbound (t : Slot) (r : Reg) (v : Word) : (t.setX r v).mbound = t.mbound := by simp [Slot.setX, Slot.writeX]
@[simp] theorem Slot.advance_mbound (t : Slot) : t.advance.mbound = t.mbound := by simp [Slot.advance]
@[simp] theorem Slot.orFlags_mbound (t : Slot) (x : BitVec 7) : (t.orFlags x).mbound = t.mbound := rfl
@[simp] theorem Slot.setFlow_sq (t : Slot) (b : Bank) (q : Flow) : (t.setFlow b q).sq = t.sq := by cases b <;> rfl
@[simp] theorem Slot.setX_sq (t : Slot) (r : Reg) (v : Word) : (t.setX r v).sq = t.sq := by simp [Slot.setX, Slot.writeX]
@[simp] theorem Slot.advance_sq (t : Slot) : t.advance.sq = t.sq := by simp [Slot.advance]
@[simp] theorem Slot.orFlags_sq (t : Slot) (x : BitVec 7) : (t.orFlags x).sq = t.sq := rfl
@[simp] theorem Slot.setFlow_sbound (t : Slot) (b : Bank) (q : Flow) : (t.setFlow b q).sbound = t.sbound := by cases b <;> rfl
@[simp] theorem Slot.setX_sbound (t : Slot) (r : Reg) (v : Word) : (t.setX r v).sbound = t.sbound := by simp [Slot.setX, Slot.writeX]
@[simp] theorem Slot.advance_sbound (t : Slot) : t.advance.sbound = t.sbound := by simp [Slot.advance]
@[simp] theorem Slot.orFlags_sbound (t : Slot) (x : BitVec 7) : (t.orFlags x).sbound = t.sbound := rfl
@[simp] theorem Slot.setFlow_entrySerial (t : Slot) (b : Bank) (q : Flow) : (t.setFlow b q).entrySerial = t.entrySerial := by cases b <;> rfl
@[simp] theorem Slot.setX_entrySerial (t : Slot) (r : Reg) (v : Word) : (t.setX r v).entrySerial = t.entrySerial := by simp [Slot.setX, Slot.writeX]
@[simp] theorem Slot.advance_entrySerial (t : Slot) : t.advance.entrySerial = t.entrySerial := by simp [Slot.advance]
@[simp] theorem Slot.orFlags_entrySerial (t : Slot) (x : BitVec 7) : (t.orFlags x).entrySerial = t.entrySerial := rfl
@[simp] theorem Slot.setFlow_heldBy (t : Slot) (b : Bank) (q : Flow) : (t.setFlow b q).heldBy = t.heldBy := by cases b <;> rfl
@[simp] theorem Slot.setX_heldBy (t : Slot) (r : Reg) (v : Word) : (t.setX r v).heldBy = t.heldBy := by simp [Slot.setX, Slot.writeX]
@[simp] theorem Slot.advance_heldBy (t : Slot) : t.advance.heldBy = t.heldBy := by simp [Slot.advance]
@[simp] theorem Slot.orFlags_heldBy (t : Slot) (x : BitVec 7) : (t.orFlags x).heldBy = t.heldBy := rfl
@[simp] theorem Slot.setFlow_sel (t : Slot) (b : Bank) (q : Flow) : (t.setFlow b q).sel = t.sel := by cases b <;> rfl
@[simp] theorem Slot.setX_sel (t : Slot) (r : Reg) (v : Word) : (t.setX r v).sel = t.sel := by simp [Slot.setX, Slot.writeX]
@[simp] theorem Slot.advance_sel (t : Slot) : t.advance.sel = t.sel := by simp [Slot.advance]
@[simp] theorem Slot.orFlags_sel (t : Slot) (x : BitVec 7) : (t.orFlags x).sel = t.sel := rfl
@[simp] theorem Slot.setFlow_deferred (t : Slot) (b : Bank) (q : Flow) : (t.setFlow b q).deferred = t.deferred := by cases b <;> rfl
@[simp] theorem Slot.setX_deferred (t : Slot) (r : Reg) (v : Word) : (t.setX r v).deferred = t.deferred := by simp [Slot.setX, Slot.writeX]
@[simp] theorem Slot.advance_deferred (t : Slot) : t.advance.deferred = t.deferred := by simp [Slot.advance]
@[simp] theorem Slot.orFlags_deferred (t : Slot) (x : BitVec 7) : (t.orFlags x).deferred = t.deferred := rfl
@[simp] theorem Slot.setFlow_freeze (t : Slot) (b : Bank) (q : Flow) : (t.setFlow b q).freeze = t.freeze := by cases b <;> rfl
@[simp] theorem Slot.setX_freeze (t : Slot) (r : Reg) (v : Word) : (t.setX r v).freeze = t.freeze := by simp [Slot.setX, Slot.writeX]
@[simp] theorem Slot.advance_freeze (t : Slot) : t.advance.freeze = t.freeze := by simp [Slot.advance]
@[simp] theorem Slot.orFlags_freeze (t : Slot) (x : BitVec 7) : (t.orFlags x).freeze = t.freeze := rfl
@[simp] theorem Slot.setFlow_settling (t : Slot) (b : Bank) (q : Flow) : (t.setFlow b q).settling = t.settling := by cases b <;> rfl
@[simp] theorem Slot.setX_settling (t : Slot) (r : Reg) (v : Word) : (t.setX r v).settling = t.settling := by simp [Slot.setX, Slot.writeX]
@[simp] theorem Slot.advance_settling (t : Slot) : t.advance.settling = t.settling := by simp [Slot.advance]
@[simp] theorem Slot.orFlags_settling (t : Slot) (x : BitVec 7) : (t.orFlags x).settling = t.settling := rfl

@[simp] theorem Slot.setFlow_flowOf (t : Slot) (b : Bank) (q : Flow) : (t.setFlow b q).flowOf b = q := by cases b <;> rfl
theorem Slot.setFlow_flowOf_ne (t : Slot) (b c : Bank) (q : Flow) (h : b ≠ c) : (t.setFlow b q).flowOf c = t.flowOf c := by
  cases b <;> cases c <;> first | rfl | exact absurd rfl h
@[simp] theorem Slot.setFlow_bank (t : Slot) (b : Bank) (q : Flow) : (t.setFlow b q).bank = t.bank := by cases b <;> rfl
@[simp] theorem Slot.setX_bank (t : Slot) (r : Reg) (v : Word) : (t.setX r v).bank = t.bank := by simp [Slot.setX, Slot.writeX]
@[simp] theorem Slot.advance_bank (t : Slot) : t.advance.bank = t.bank := by simp [Slot.advance]
@[simp] theorem Slot.orFlags_bank (t : Slot) (x : BitVec 7) : (t.orFlags x).bank = t.bank := rfl
@[simp] theorem Slot.setX_flow (t : Slot) (r : Reg) (v : Word) : (t.setX r v).flow = t.flow.set r v := by
  simp [Slot.flow, Slot.setX, Slot.writeX]
@[simp] theorem Slot.advance_flow (t : Slot) : t.advance.flow = t.flow.advance := by simp [Slot.flow, Slot.advance]

end Sys2Proof.Machine
end

