-- ==== Sys2Proof/Laws/Access.lean ====
section
/-! SUPPORT. Maps by key, vectors by number, and memory: a read after a write, what a write leaves alone, and the canonical form. -/

namespace Sys2Proof.Machine

theorem find_filter_keep {α : Type} (m : List (Nat × α)) (p : Nat → Bool) (k : Nat) (h : p k = true) :
    (m.filter (fun e => p e.1)).find? (fun e => e.1 == k) = m.find? (fun e => e.1 == k) := by
  induction m with
  | nil => rfl
  | cons a l ih =>
    by_cases ha : a.1 = k
    · subst ha; simp [h]
    · by_cases hp : p a.1 <;> simp [hp, ha, ih]

theorem find_filter_drop {α : Type} (m : List (Nat × α)) (p : Nat → Bool) (k : Nat) (h : p k = false) :
    (m.filter (fun e => p e.1)).find? (fun e => e.1 == k) = none := by
  induction m with
  | nil => rfl
  | cons a l ih =>
    by_cases hp : p a.1
    · have : a.1 ≠ k := fun e => by simp [e, h] at hp
      simp [hp, this, ih]
    · simp [hp, ih]

theorem Assoc.find?_set {α : Type} (m : List (Nat × α)) (k j : Nat) (v : α) :
    (Assoc.set m k v).find? (fun e => e.1 == j) = if j = k then some (k, v) else m.find? (fun e => e.1 == j) := by
  unfold Assoc.set
  rw [List.find?_append, List.find?_cons]
  rcases Nat.lt_trichotomy j k with h | h | h
  · rw [find_filter_keep m (fun e => decide (e < k)) j (by simpa using h),
      find_filter_drop m (fun e => decide (k < e)) j (by simpa using Nat.le_of_lt h)]
    have : (k == j) = false := by simp; omega
    have : ¬j = k := by omega
    cases m.find? (fun e => e.1 == j) <;> simp [*]
  · subst h
    rw [find_filter_drop m (fun e => decide (e < j)) j (by simp)]
    simp
  · rw [find_filter_drop m (fun e => decide (e < k)) j (by simpa using Nat.le_of_lt h),
      find_filter_keep m (fun e => decide (k < e)) j (by simpa using h)]
    have : (k == j) = false := by simp; omega
    have : ¬j = k := by omega
    simp [*]

theorem Assoc.get_set {α : Type} (d : α) (m : List (Nat × α)) (k j : Nat) (v : α) :
    Assoc.get d (Assoc.set m k v) j = if j = k then v else Assoc.get d m j := by
  unfold Assoc.get
  rw [Assoc.find?_set]
  by_cases h : j = k <;> simp [h]
theorem Assoc.find_set {α : Type} (m : List (Nat × α)) (k j : Nat) (v : α) :
    Assoc.find (Assoc.set m k v) j = if j = k then some v else Assoc.find m j := by
  unfold Assoc.find
  rw [Assoc.find?_set]
  by_cases h : j = k <;> simp [h]
@[simp] theorem Assoc.get_set_same {α : Type} (d : α) (m : List (Nat × α)) (k : Nat) (v : α) :
    Assoc.get d (Assoc.set m k v) k = v := by simp [Assoc.get_set]

@[simp] theorem State.slot_setSlot (s : State) (g : Nat) (t : Slot) : (s.setSlot g t).slot g = t := by
  simp [State.slot]
theorem State.slot_setSlot_ne (s : State) (g h : Nat) (t : Slot) (n : h ≠ g) : (s.setSlot g t).slot h = s.slot h := by
  simp [State.slot, Assoc.get_set, n]
@[simp] theorem State.slot_onSlot (s : State) (g : Nat) (f : Slot → Slot) : (s.onSlot g f).slot g = f (s.slot g) := by
  simp [State.onSlot]
theorem State.slot_onSlot_ne (s : State) (g h : Nat) (f : Slot → Slot) (n : h ≠ g) : (s.onSlot g f).slot h = s.slot h := by
  simp [State.onSlot, State.slot_setSlot_ne, n]
@[simp] theorem State.slot_post (s : State) (i : Instr) (g : Nat) : (s.post i).slot g = s.slot g := rfl
@[simp] theorem State.slot_emit (s : State) (e : Egress) (g : Nat) : (s.emit e).slot g = s.slot g := rfl
@[simp] theorem State.slot_setTile (s : State) (k : Nat) (t : Tile) (g : Nat) : (s.setTile k t).slot g = s.slot g := rfl
@[simp] theorem State.slot_onTile (s : State) (k : Nat) (f : Tile → Tile) (g : Nat) : (s.onTile k f).slot g = s.slot g := rfl
@[simp] theorem State.slot_writeMem (s : State) (k : Nat) (bs : Bytes) (g : Nat) : (s.writeMem k bs).slot g = s.slot g := rfl
@[simp] theorem State.tile_setTile (s : State) (k : Nat) (t : Tile) : (s.setTile k t).tile k = t := by simp [State.tile, State.setTile]
theorem State.tile_setTile_ne (s : State) (k j : Nat) (t : Tile) (n : j ≠ k) : (s.setTile k t).tile j = s.tile j := by
  simp [State.tile, State.setTile, Assoc.get_set, n]
@[simp] theorem State.tile_onTile (s : State) (k : Nat) (f : Tile → Tile) : (s.onTile k f).tile k = f (s.tile k) := by
  simp [State.onTile]
@[simp] theorem State.tile_setSlot (s : State) (g : Nat) (t : Slot) (k : Nat) : (s.setSlot g t).tile k = s.tile k := rfl
@[simp] theorem State.tile_onSlot (s : State) (g : Nat) (f : Slot → Slot) (k : Nat) : (s.onSlot g f).tile k = s.tile k := rfl
@[simp] theorem State.tile_post (s : State) (i : Instr) (k : Nat) : (s.post i).tile k = s.tile k := rfl

@[simp] theorem vget_vset {α : Type} {n : Nat} [NeZero n] (v : Vector α n) (i : Nat) (x : α) : vget (vset v i x) i = x := by
  simp [vget, vset, Vector.get_eq_getElem]
theorem vget_vset_ne {α : Type} {n : Nat} [NeZero n] (v : Vector α n) (i j : Nat) (x : α) (h : i % n ≠ j % n) :
    vget (vset v i x) j = vget v j := by
  simp only [vget, vset, Vector.get_eq_getElem, Fin.ofNat]
  exact Vector.getElem_set_ne _ _ h

theorem Flow.get_set (f : Flow) (r q : Reg) (v : Word) :
    (f.set r v).get q = if q = 0 then 0 else if q = r then v else f.get q := by
  unfold Flow.get Flow.set
  by_cases hq : q = 0
  · simp [hq]
  · by_cases hr : r = 0
    · have : q ≠ r := fun e => hq (e.trans hr)
      simp [hq, hr]
    · by_cases he : q = r
      · subst he; simp [hq, Vector.get_eq_getElem]
      · have : r.val ≠ q.val := fun e => he (Fin.ext e.symm)
        simp [hq, hr, he, Vector.get_eq_getElem, Vector.getElem_set_ne, this]

theorem Memory.cells_find (k : Nat) (bs : Bytes) (a : Nat) :
    Assoc.get 0 (Memory.cells k bs) a = if k ≤ a ∧ a < k + bs.length then bs.getD (a - k) 0 else 0 := by
  induction bs generalizing k with
  | nil => simp [Memory.cells, Assoc.get]
  | cons b l ih =>
    have hi := ih (k + 1)
    unfold Memory.cells
    by_cases ha : a = k
    · subst ha
      by_cases hb : b = 0
      · rw [if_pos hb, hi, if_neg (by omega)]; simp [hb]
      · rw [if_neg hb, if_pos (by simp)]; simp [Assoc.get]
    · have hne : ¬k = a := fun e => ha e.symm
      have hget : Assoc.get 0 ((k, b) :: Memory.cells (k + 1) l) a = Assoc.get 0 (Memory.cells (k + 1) l) a := by
        simp [Assoc.get, hne]
      have : Assoc.get 0 (if b = 0 then Memory.cells (k + 1) l else (k, b) :: Memory.cells (k + 1) l) a =
          Assoc.get 0 (Memory.cells (k + 1) l) a := by
        split
        · rfl
        · exact hget
      rw [this, hi]
      by_cases hk : k ≤ a ∧ a < k + (b :: l).length
      · have h1 : k + 1 ≤ a ∧ a < k + 1 + l.length := by simp at hk; omega
        obtain ⟨c, hc⟩ : ∃ c, a - k = c + 1 := ⟨a - k - 1, by omega⟩
        have hc' : a - (k + 1) = c := by omega
        rw [if_pos hk, if_pos h1, hc, hc']; rfl
      · have h1 : ¬(k + 1 ≤ a ∧ a < k + 1 + l.length) := by simp at hk; omega
        rw [if_neg hk, if_neg h1]

theorem Memory.cells_range (k : Nat) (bs : Bytes) (c : Host.Cell) (h : c ∈ Memory.cells k bs) :
    k ≤ c.1 ∧ c.1 < k + bs.length ∧ c.2 ≠ 0 := by
  induction bs generalizing k with
  | nil => simp [Memory.cells] at h
  | cons b l ih =>
    unfold Memory.cells at h
    split at h
    · obtain ⟨h1, h2, h3⟩ := ih _ h; exact ⟨by omega, by rw [List.length_cons]; omega, h3⟩
    · rcases List.mem_cons.mp h with rfl | h'
      · exact ⟨Nat.le_refl _, by rw [List.length_cons]; simp, by assumption⟩
      · obtain ⟨h1, h2, h3⟩ := ih _ h'; exact ⟨by omega, by rw [List.length_cons]; omega, h3⟩

theorem Memory.cells_pairwise (k : Nat) (bs : Bytes) : (Memory.cells k bs).Pairwise (fun a b => a.1 < b.1) := by
  induction bs generalizing k with
  | nil => exact List.Pairwise.nil
  | cons b l ih =>
    unfold Memory.cells
    split
    · exact ih _
    · exact List.Pairwise.cons (fun c hc => by have := Memory.cells_range _ _ _ hc; simp; omega) (ih _)

/-- A write keeps the canonical form. -/
theorem Memory.wf_write (m : List Host.Cell) (k : Nat) (bs : Bytes) (h : Memory.wf m) : Memory.wf (Memory.write m k bs) := by
  obtain ⟨h1, h2⟩ := h
  unfold Memory.write
  refine ⟨?_, ?_⟩
  · rw [List.pairwise_append, List.pairwise_append]
    refine ⟨⟨h1.filter _, Memory.cells_pairwise _ _, ?_⟩, h1.filter _, ?_⟩
    · intro a ha b hb
      have ha := (List.mem_filter.mp ha).2
      have hb := Memory.cells_range _ _ _ hb
      simp at ha; omega
    · intro a ha b hb
      have hb := (List.mem_filter.mp hb).2
      rcases List.mem_append.mp ha with ha | ha
      · have ha := (List.mem_filter.mp ha).2
        simp at ha hb; omega
      · have ha := Memory.cells_range _ _ _ ha
        simp at hb; omega
  · intro c hc
    rcases List.mem_append.mp hc with hc | hc
    · rcases List.mem_append.mp hc with hc | hc
      · exact h2 c (List.mem_filter.mp hc).1
      · exact (Memory.cells_range _ _ _ hc).2.2
    · exact h2 c (List.mem_filter.mp hc).1
/-- Clearing a range keeps the canonical form. -/
theorem Memory.wf_clear (m : List Host.Cell) (k n : Nat) (h : Memory.wf m) : Memory.wf (Memory.clear m k n) :=
  ⟨h.1.filter _, fun c hc => h.2 c (List.mem_filter.mp hc).1⟩
theorem Memory.wf_place (m : List Host.Cell) (k n : Nat) (cs : List Host.Cell) (h : Memory.wf m) :
    Memory.wf (Memory.place m k n cs) := Memory.wf_write _ _ _ h
theorem Memory.wf_nil : Memory.wf [] := ⟨List.Pairwise.nil, fun _ h => absurd h List.not_mem_nil⟩

/-- A byte after a write: the byte written, or the byte before. -/
theorem Memory.at_write (m : List Host.Cell) (k : Nat) (bs : Bytes) (a : Nat) :
    Memory.at_ (Memory.write m k bs) a = if k ≤ a ∧ a < k + bs.length then bs.getD (a - k) 0 else Memory.at_ m a := by
  unfold Memory.at_ Memory.write
  have key : ∀ x y z : List Host.Cell, Assoc.get 0 (x ++ y ++ z) a =
      match x.find? (fun e => e.1 == a) with
      | some e => e.2
      | none => match y.find? (fun e => e.1 == a) with
        | some e => e.2
        | none => Assoc.get 0 z a := by
    intro x y z
    unfold Assoc.get
    rw [List.find?_append, List.find?_append]
    cases x.find? (fun e => e.1 == a) <;> cases y.find? (fun e => e.1 == a) <;> simp
  rw [key]
  have hc := Memory.cells_find k bs a
  by_cases h1 : a < k
  · rw [find_filter_keep m (fun e => decide (e < k)) a (by simpa using h1)]
    have hy : (Memory.cells k bs).find? (fun e => e.1 == a) = none := by
      rw [List.find?_eq_none]; intro c hc'; have := Memory.cells_range _ _ _ hc'; simp; omega
    have hz : (m.filter (fun c => decide (k + bs.length ≤ c.1))).find? (fun e => e.1 == a) = none :=
      find_filter_drop m (fun e => decide (k + bs.length ≤ e)) a (by simp; omega)
    rw [hy, if_neg (by omega)]
    unfold Assoc.get
    rw [hz]
    cases m.find? (fun e => e.1 == a) <;> rfl
  · rw [find_filter_drop m (fun e => decide (e < k)) a (by simpa using h1)]
    by_cases h2 : a < k + bs.length
    · have hz : (m.filter (fun c => decide (k + bs.length ≤ c.1))).find? (fun e => e.1 == a) = none :=
        find_filter_drop m (fun e => decide (k + bs.length ≤ e)) a (by simp; omega)
      rw [if_pos ⟨by omega, h2⟩] at hc ⊢
      rw [← hc]
      unfold Assoc.get
      rw [hz]
      cases (Memory.cells k bs).find? (fun e => e.1 == a) <;> rfl
    · have hy : (Memory.cells k bs).find? (fun e => e.1 == a) = none := by
        rw [List.find?_eq_none]; intro c hc'; have := Memory.cells_range _ _ _ hc'; simp; omega
      rw [hy, if_neg (by omega)]
      unfold Assoc.get
      rw [find_filter_keep m (fun e => decide (k + bs.length ≤ e)) a (by simp; omega)]

theorem Memory.read_length (m : List Host.Cell) (k n : Nat) : (Memory.read m k n).length = n := by simp [Memory.read]
/-- Reading back what was written. -/
theorem Memory.read_write (m : List Host.Cell) (k : Nat) (bs : Bytes) : Memory.read (Memory.write m k bs) k bs.length = bs := by
  apply List.ext_getElem (by simp [Memory.read])
  intro i h1 h2
  have hi : i < bs.length := h2
  simp [Memory.read, Memory.at_write, hi]
/-- A write leaves every run apart from it as it was. -/
theorem Memory.read_write_apart (m : List Host.Cell) (k : Nat) (bs : Bytes) (a n : Nat) (h : a + n ≤ k ∨ k + bs.length ≤ a) :
    Memory.read (Memory.write m k bs) a n = Memory.read m a n := by
  unfold Memory.read
  apply List.map_congr_left
  intro i hi
  have := List.mem_range.mp hi
  rw [Memory.at_write, if_neg (by omega)]

theorem State.writeMem_wf (s : State) (k : Nat) (bs : Bytes) (h : Memory.wf s.mem) : Memory.wf (s.writeMem k bs).mem :=
  Memory.wf_write _ _ _ h
theorem State.clearMem_wf (s : State) (k n : Nat) (h : Memory.wf s.mem) : Memory.wf (s.clearMem k n).mem := Memory.wf_clear _ _ _ h
theorem State.writeMark_wf (s : State) (k : Nat) (bs : Bytes) (b : Bool) (h : Memory.wf s.mem) :
    Memory.wf (s.writeMark k bs b).mem := by
  unfold State.writeMark; split <;> exact Memory.wf_write _ _ _ h
theorem State.retag_wf (s : State) (k n key : Nat) (h : Memory.wf s.mem) : Memory.wf (s.retag k n key).mem := by
  unfold State.retag
  generalize List.range ((k + n + 15) / 16 - k / 16) = l
  induction l generalizing s with
  | nil => exact h
  | cons a l ih =>
    rw [List.foldl_cons]
    apply ih
    dsimp only
    split
    · exact h
    · exact Memory.wf_write _ _ _ h
/-- A write under a memory key keeps the canonical form. -/
theorem State.writeKeyed_wf (s : State) (k : Nat) (bs : Bytes) (page : Nat) (b : Bool) (h : Memory.wf s.mem) :
    Memory.wf (s.writeKeyed k bs page b).mem := by
  unfold State.writeKeyed
  dsimp only
  apply State.writeMark_wf
  split
  · exact h
  · exact State.retag_wf _ _ _ _ h
theorem State.reset_wf : Memory.wf State.reset.mem := Memory.wf_nil

end Sys2Proof.Machine
end

