-- ==== Sys2Proof/Laws/CodeWords.lean ====
section
/-! SUPPORT. The loader's reading of a word agrees with the decoder. -/

namespace Sys2Proof.Machine

theorem any_guard (c : Bool) (i : Instr) : (if c = true then some i else none).any Instr.wf = (c && i.wf) := by
  cases c <;> rfl

theorem code2C_eq (w : Nat) : code2C w = (decode2C w).any Instr.wf := by
  unfold code2C decode2C
  generalize w / 64 % 8 = n
  split
  · first | rfl | (simp only [any_guard]; first | rfl | exact (Bool.and_true _).symm)
  · generalize fb w = k
    split
    iterate 15 (first | rfl | (simp only [any_guard]; first | rfl | exact (Bool.and_true _).symm))
    first | rfl | (simp only []; rfl)
  · rfl
  · first | rfl | (split <;> first | rfl | contradiction)

theorem code40_eq (w : Nat) : code40 w = (decode40 w).any Instr.wf := by
  unfold code40 decode40
  generalize w % 32 = n
  split
  iterate 14 (first | rfl | (simp only [any_guard]; first | rfl | exact (Bool.and_true _).symm))
  first | rfl | (split <;> first | rfl | contradiction)

theorem code41_eq (w : Nat) : code41 w = (decode41 w).any Instr.wf := by
  unfold code41 decode41
  generalize w % 32 = n
  split
  iterate 9 (first | rfl | (simp only [any_guard]; first | rfl | exact (Bool.and_true _).symm))
  first | rfl | (split <;> first | rfl | contradiction)

theorem code42_eq (w : Nat) : code42 w = (decode42 w).any Instr.wf := by
  unfold code42 decode42
  generalize w % 32 = n
  split
  iterate 30 (first | rfl | (simp only [any_guard]; first | rfl | exact (Bool.and_true _).symm))
  first | rfl | (split <;> first | rfl | contradiction)

theorem code43_eq (w : Nat) : code43 w = (decode43 w).any Instr.wf := by
  unfold code43 decode43
  generalize w % 32 = n
  split
  iterate 13 (first | rfl | (simp only [any_guard]; first | rfl | exact (Bool.and_true _).symm))
  first | rfl | (split <;> first | rfl | contradiction)

theorem code44_eq (w : Nat) : code44 w = (decode44 w).any Instr.wf := by
  unfold code44 decode44
  generalize w % 32 = n
  split
  iterate 10 (first | rfl | (simp only [any_guard]; first | rfl | exact (Bool.and_true _).symm))
  first | rfl | (split <;> first | rfl | contradiction)

theorem code45_eq (w : Nat) : code45 w = (decode45 w).any Instr.wf := by
  unfold code45 decode45
  generalize w % 32 = n
  split
  iterate 13 (first | rfl | (simp only [any_guard]; first | rfl | exact (Bool.and_true _).symm))
  first | rfl | (split <;> first | rfl | contradiction)

theorem code46_eq (w : Nat) : code46 w = (decode46 w).any Instr.wf := by
  unfold code46 decode46
  generalize w % 32 = n
  split
  iterate 12 (first | rfl | (simp only [any_guard]; first | rfl | exact (Bool.and_true _).symm))
  first | rfl | (split <;> first | rfl | contradiction)

theorem code47_eq (w : Nat) : code47 w = (decode47 w).any Instr.wf := by
  unfold code47 decode47
  rw [any_guard]; first | rfl | exact (Bool.and_true _).symm

theorem code48_eq (w : Nat) : code48 w = (decode48 w).any Instr.wf := by
  unfold code48 decode48
  generalize w % 8 = n
  split
  iterate 1 (first | rfl | (simp only [any_guard]; first | rfl | exact (Bool.and_true _).symm))
  first | rfl | (split <;> first | rfl | contradiction)

theorem code49_eq (w : Nat) : code49 w = (decode49 w).any Instr.wf := by
  unfold code49 decode49
  generalize w / 8 % 4 = n
  split
  iterate 4 (first | rfl | (simp only [any_guard]; first | rfl | exact (Bool.and_true _).symm))
  first | rfl | (split <;> first | rfl | contradiction)

theorem code4A_eq (w : Nat) : code4A w = (decode4A w).any Instr.wf := by
  unfold code4A decode4A
  rw [any_guard]; first | rfl | exact (Bool.and_true _).symm

theorem code4B_eq (w : Nat) : code4B w = (decode4B w).any Instr.wf := by
  unfold code4B decode4B
  rw [any_guard]; first | rfl | exact (Bool.and_true _).symm

theorem code4C_eq (w : Nat) : code4C w = (decode4C w).any Instr.wf := by
  unfold code4C decode4C
  generalize w % 32 = n
  split
  iterate 2 (first | rfl | (simp only [any_guard]; first | rfl | exact (Bool.and_true _).symm))
  first | rfl | (split <;> first | rfl | contradiction)

theorem code4D_eq (w : Nat) : code4D w = (decode4D w).any Instr.wf := by
  unfold code4D decode4D
  generalize w % 8 = n
  split
  iterate 2 (first | rfl | (simp only [any_guard]; first | rfl | exact (Bool.and_true _).symm))
  first | rfl | (split <;> first | rfl | contradiction)

theorem code4E_eq (w : Nat) : code4E w = (decode4E w).any Instr.wf := by
  unfold code4E decode4E
  generalize w / 4 % 8 = n
  split
  iterate 6 (first | rfl | (simp only [any_guard]; first | rfl | exact (Bool.and_true _).symm))
  first | rfl | (split <;> first | rfl | contradiction)

theorem code60_eq (w : Nat) : code60 w = (decode60 w).any Instr.wf := by
  unfold code60 decode60
  generalize w % 128 = n
  split
  iterate 4 (first | rfl | (simp only [any_guard]; first | rfl | exact (Bool.and_true _).symm))
  first | rfl | (split <;> first | rfl | contradiction)

theorem code61_eq (w : Nat) : code61 w = (decode61 w).any Instr.wf := by
  unfold code61 decode61
  generalize w % 128 = n
  split
  iterate 4 (first | rfl | (simp only [any_guard]; first | rfl | exact (Bool.and_true _).symm))
  first | rfl | (split <;> first | rfl | contradiction)

theorem code62_eq (w : Nat) : code62 w = (decode62 w).any Instr.wf := by
  unfold code62 decode62
  generalize w % 128 = n
  split
  iterate 5 (first | rfl | (simp only [any_guard]; first | rfl | exact (Bool.and_true _).symm))
  first | rfl | (split <;> first | rfl | contradiction)

theorem code63_eq (w : Nat) : code63 w = (decode63 w).any Instr.wf := by
  unfold code63 decode63
  generalize w / 8 % 16 = n
  split
  iterate 4 (first | rfl | (simp only [any_guard]; first | rfl | exact (Bool.and_true _).symm))
  first | rfl | (split <;> first | rfl | contradiction)

theorem code70_eq (w : Nat) : code70 w = (decode70 w).any Instr.wf := by
  unfold code70 decode70
  generalize w % 32 = n
  split
  iterate 3 (first | rfl | (simp only [any_guard]; first | rfl | exact (Bool.and_true _).symm))
  first | rfl | (split <;> first | rfl | contradiction)

theorem code71_eq (w : Nat) : code71 w = (decode71 w).any Instr.wf := by
  unfold code71 decode71
  generalize w % 32 = n
  split
  iterate 3 (first | rfl | (simp only [any_guard]; first | rfl | exact (Bool.and_true _).symm))
  first | rfl | (split <;> first | rfl | contradiction)

theorem code72_eq (w : Nat) : code72 w = (decode72 w).any Instr.wf := by
  unfold code72 decode72
  generalize w % 32 = n
  split
  iterate 2 (first | rfl | (simp only [any_guard]; first | rfl | exact (Bool.and_true _).symm))
  first | rfl | (split <;> first | rfl | contradiction)

theorem code74_eq (w : Nat) : code74 w = (decode74 w).any Instr.wf := by
  unfold code74 decode74
  generalize w % 512 = n
  split
  iterate 7 (first | rfl | (simp only [any_guard]; first | rfl | exact (Bool.and_true _).symm))
  first | rfl | (split <;> first | rfl | contradiction)

theorem code75_eq (w : Nat) : code75 w = (decode75 w).any Instr.wf := by
  unfold code75 decode75
  generalize w % 512 = n
  split
  iterate 6 (first | rfl | (simp only [any_guard]; first | rfl | exact (Bool.and_true _).symm))
  first | rfl | (split <;> first | rfl | contradiction)

theorem code80_eq (w : Nat) : code80 w = (decode80 w).any Instr.wf := by
  unfold code80 decode80
  generalize w % 512 = n
  split
  iterate 4 (first | rfl | (simp only [any_guard]; first | rfl | exact (Bool.and_true _).symm))
  first | rfl | (split <;> first | rfl | contradiction)

theorem code81_eq (w : Nat) : code81 w = (decode81 w).any Instr.wf := by
  unfold code81 decode81
  generalize w % 16 = n
  split
  iterate 6 (first | rfl | (simp only [any_guard]; first | rfl | exact (Bool.and_true _).symm))
  first | rfl | (split <;> first | rfl | contradiction)

theorem code82_eq (w : Nat) : code82 w = (decode82 w).any Instr.wf := by
  unfold code82 decode82
  generalize w % 512 = n
  split
  iterate 5 (first | rfl | (simp only [any_guard]; first | rfl | exact (Bool.and_true _).symm))
  first | rfl | (split <;> first | rfl | contradiction)

theorem code83_eq (w : Nat) : code83 w = (decode83 w).any Instr.wf := by
  unfold code83 decode83
  generalize w % 512 = n
  split
  iterate 1 (first | rfl | (simp only [any_guard]; first | rfl | exact (Bool.and_true _).symm))
  first | rfl | (split <;> first | rfl | contradiction)

theorem code84_eq (w : Nat) : code84 w = (decode84 w).any Instr.wf := by
  unfold code84 decode84
  generalize w % 16 = n
  split
  iterate 7 (first | rfl | (simp only [any_guard]; first | rfl | exact (Bool.and_true _).symm))
  first | rfl | (split <;> first | rfl | contradiction)

theorem codeF0_eq (w : Nat) : codeF0 w = (decodeF0 w).any Instr.wf := by
  unfold codeF0 decodeF0
  generalize w / 128 % 4 = n
  split
  iterate 4 (first | rfl | (simp only [any_guard]; first | rfl | exact (Bool.and_true _).symm))
  first | rfl | (split <;> first | rfl | contradiction)

theorem codeF1_eq (w : Nat) : codeF1 w = (decodeF1 w).any Instr.wf := by
  unfold codeF1 decodeF1
  generalize w % 512 = n
  split
  iterate 5 (first | rfl | (simp only [any_guard]; first | rfl | exact (Bool.and_true _).symm))
  first | rfl | (split <;> first | rfl | contradiction)

theorem codeF2_eq (w : Nat) : codeF2 w = (decodeF2 w).any Instr.wf := by
  unfold codeF2 decodeF2
  generalize w % 512 = n
  split
  iterate 2 (first | rfl | (simp only [any_guard]; first | rfl | exact (Bool.and_true _).symm))
  first | rfl | (split <;> first | rfl | contradiction)

theorem any_toBool (o : Option Instr) : o.any Instr.wf = (match o.elim (Except.error Reject.unassigned) Except.ok with
    | .error r => (Except.error r : Except Reject Instr)
    | .ok i => if i.wf then .ok i else .error .illFormed).toBool := by
  cases o with
  | none => rfl
  | some i => by_cases h : i.wf <;> simp [h, Except.toBool]

/-- The loader accepts a word just when the decoder gives an instruction. -/
theorem wordLegal_eq (w : Nat) : wordLegal w = (decode w).toBool := by
  unfold wordLegal decode decodeFields
  generalize w / 16777216 = n
  split
  iterate 25 exact any_toBool _
  · rw [code2C_eq]; exact any_toBool _
  · rw [code40_eq]; exact any_toBool _
  · rw [code41_eq]; exact any_toBool _
  · rw [code42_eq]; exact any_toBool _
  · rw [code43_eq]; exact any_toBool _
  · rw [code44_eq]; exact any_toBool _
  · rw [code45_eq]; exact any_toBool _
  · rw [code46_eq]; exact any_toBool _
  · rw [code47_eq]; exact any_toBool _
  · rw [code48_eq]; exact any_toBool _
  · rw [code49_eq]; exact any_toBool _
  · rw [code4A_eq]; exact any_toBool _
  · rw [code4B_eq]; exact any_toBool _
  · rw [code4C_eq]; exact any_toBool _
  · rw [code4D_eq]; exact any_toBool _
  · rw [code4E_eq]; exact any_toBool _
  · rw [code60_eq]; exact any_toBool _
  · rw [code61_eq]; exact any_toBool _
  · rw [code62_eq]; exact any_toBool _
  · rw [code63_eq]; exact any_toBool _
  · rw [code70_eq]; exact any_toBool _
  · rw [code71_eq]; exact any_toBool _
  · rw [code72_eq]; exact any_toBool _
  · rw [code74_eq]; exact any_toBool _
  · rw [code75_eq]; exact any_toBool _
  · rw [code80_eq]; exact any_toBool _
  · rw [code81_eq]; exact any_toBool _
  · rw [code82_eq]; exact any_toBool _
  · rw [code83_eq]; exact any_toBool _
  · rw [code84_eq]; exact any_toBool _
  · rw [codeF0_eq]; exact any_toBool _
  · rw [codeF1_eq]; exact any_toBool _
  · rw [codeF2_eq]; exact any_toBool _
  · simp [Except.toBool]

end Sys2Proof.Machine
end

