-- ==== Sys2Proof/Laws/PerInstr.lean ====
section
/-! SUPPORT. The word of an encoded instruction has 32 bits, and its major is not 0: one lemma for each constructor. -/

namespace Sys2Proof.Laws

theorem vmaskBits_lt (m : VMask) : vmaskBits m < 512 := by cases m <;> simp only [vmaskBits] <;> omega
theorem ktagBits_lt (k : KTag) : ktagBits k < 16384 := by cases k <;> simp only [ktagBits] <;> omega
theorem ctagBits_lt (k : CTag) : ctagBits k < 512 := by cases k <;> simp only [ctagBits] <;> omega
theorem rcCode_lt (r : Rc) : r.code < 8 := by cases r <;> decide
theorem orderCode_lt (o : AmoOrder) : o.code < 4 := by cases o <;> decide
theorem bit_lt (b : Bool) : bit b < 2 := by cases b <;> decide

/-- The word of an instruction has 32 bits, and the major of none is 0. -/
def Fits.Statement (i : Instr) : Prop := ∀ w, encode i = some w → 2 ^ 24 ≤ w ∧ w < 2 ^ 32

/-- The way every lemma below is shown. -/
theorem fits_of {i : Instr} {n : Nat} (h : encode i = some n) (lo : 16777216 ≤ n) (hi : n < 4294967296) : Fits.Statement i := by
  intro w hw; rw [h] at hw; cases hw; exact ⟨lo, hi⟩

theorem fits_event {i : Instr} (h : encode i = none) : Fits.Statement i := by intro w hw; rw [h] at hw; cases hw

theorem Fits.tlogheadRead x0 : Fits.Statement (.tlogheadRead x0) := fits_event rfl
theorem Fits.atomfnHighWrite x0 x1 x2 : Fits.Statement (.atomfnHighWrite x0 x1 x2) := fits_event rfl
theorem Fits.atomfnLowWrite x0 x1 x2 : Fits.Statement (.atomfnLowWrite x0 x1 x2) := fits_event rfl
theorem Fits.scalarResult x0 : Fits.Statement (.scalarResult x0) := fits_event rfl
theorem Fits.waitComplete x0 : Fits.Statement (.waitComplete x0) := fits_event rfl
theorem Fits.replyArrival x0 x1 x2 : Fits.Statement (.replyArrival x0 x1 x2) := fits_event rfl
theorem Fits.loadPerform x0 : Fits.Statement (.loadPerform x0) := fits_event rfl
theorem Fits.storePerform x0 : Fits.Statement (.storePerform x0) := fits_event rfl
theorem Fits.atomicExecute x0 : Fits.Statement (.atomicExecute x0) := fits_event rfl
theorem Fits.barrierRequest x0 : Fits.Statement (.barrierRequest x0) := fits_event rfl
theorem Fits.spawnRequest x0 : Fits.Statement (.spawnRequest x0) := fits_event rfl
theorem Fits.scopeRequest x0 : Fits.Statement (.scopeRequest x0) := fits_event rfl
theorem Fits.cancelRequest x0 : Fits.Statement (.cancelRequest x0) := fits_event rfl
theorem Fits.cancelBroadcast x0 x1 : Fits.Statement (.cancelBroadcast x0 x1) := fits_event rfl
theorem Fits.kill x0 : Fits.Statement (.kill x0) := fits_event rfl
theorem Fits.killHoldExpiry x0 : Fits.Statement (.killHoldExpiry x0) := fits_event rfl
theorem Fits.endCommit x0 : Fits.Statement (.endCommit x0) := fits_event rfl
theorem Fits.decrementMessage x0 : Fits.Statement (.decrementMessage x0) := fits_event rfl
theorem Fits.succFailureNotice x0 : Fits.Statement (.succFailureNotice x0) := fits_event rfl
theorem Fits.scopeClose x0 : Fits.Statement (.scopeClose x0) := fits_event rfl
theorem Fits.ackDelivery x0 : Fits.Statement (.ackDelivery x0) := fits_event rfl
theorem Fits.completionRecord x0 : Fits.Statement (.completionRecord x0) := fits_event rfl
theorem Fits.commandStore x0 x1 x2 : Fits.Statement (.commandStore x0 x1 x2) := fits_event rfl
theorem Fits.qcfgWrite x0 x1 x2 : Fits.Statement (.qcfgWrite x0 x1 x2) := fits_event rfl
theorem Fits.registerWrite x0 x1 x2 : Fits.Statement (.registerWrite x0 x1 x2) := fits_event rfl
theorem Fits.nopCommand x0 : Fits.Statement (.nopCommand x0) := fits_event rfl
theorem Fits.loadImage x0 x1 x2 : Fits.Statement (.loadImage x0 x1 x2) := fits_event rfl
theorem Fits.unloadImage x0 : Fits.Statement (.unloadImage x0) := fits_event rfl
theorem Fits.runGraph x0 x1 x2 : Fits.Statement (.runGraph x0 x1 x2) := fits_event rfl
theorem Fits.cancelCommand x0 : Fits.Statement (.cancelCommand x0) := fits_event rfl
theorem Fits.adapterPrefetch x0 : Fits.Statement (.adapterPrefetch x0) := fits_event rfl
theorem Fits.dispatchSelect x0 x1 : Fits.Statement (.dispatchSelect x0 x1) := fits_event rfl
theorem Fits.place x0 x1 : Fits.Statement (.place x0 x1) := fits_event rfl
theorem Fits.prefetchReadIssue x0 x1 x2 : Fits.Statement (.prefetchReadIssue x0 x1 x2) := fits_event rfl
theorem Fits.taskRunnable x0 x1 : Fits.Statement (.taskRunnable x0 x1) := fits_event rfl
theorem Fits.taskStart x0 x1 : Fits.Statement (.taskStart x0 x1) := fits_event rfl
theorem Fits.spawnTreeDelivery x0 : Fits.Statement (.spawnTreeDelivery x0) := fits_event rfl
theorem Fits.preemptTrigger x0 x1 : Fits.Statement (.preemptTrigger x0 x1) := fits_event rfl
theorem Fits.saveBegin x0 : Fits.Statement (.saveBegin x0) := fits_event rfl
theorem Fits.saveComplete x0 : Fits.Statement (.saveComplete x0) := fits_event rfl
theorem Fits.preemptAbandon x0 : Fits.Statement (.preemptAbandon x0) := fits_event rfl
theorem Fits.resume x0 x1 : Fits.Statement (.resume x0 x1) := fits_event rfl
theorem Fits.slotTrap x0 x1 x2 : Fits.Statement (.slotTrap x0 x1 x2) := fits_event rfl
theorem Fits.deferredTrap x0 : Fits.Statement (.deferredTrap x0) := fits_event rfl
theorem Fits.handlerEntry x0 : Fits.Statement (.handlerEntry x0) := fits_event rfl
theorem Fits.messageArrival x0 x1 x2 : Fits.Statement (.messageArrival x0 x1 x2) := fits_event rfl
theorem Fits.tokenArrival x0 x1 x2 : Fits.Statement (.tokenArrival x0 x1 x2) := fits_event rfl
theorem Fits.allowanceReturn x0 x1 x2 : Fits.Statement (.allowanceReturn x0 x1 x2) := fits_event rfl
theorem Fits.channelBrokenNotice x0 x1 : Fits.Statement (.channelBrokenNotice x0 x1) := fits_event rfl
theorem Fits.laneGroupWithdraw x0 x1 : Fits.Statement (.laneGroupWithdraw x0 x1) := fits_event rfl
theorem Fits.residencyRecord x0 x1 x2 x3 x4 : Fits.Statement (.residencyRecord x0 x1 x2 x3 x4) := fits_event rfl
theorem Fits.engineSegment x0 x1 x2 x3 : Fits.Statement (.engineSegment x0 x1 x2 x3) := fits_event rfl
theorem Fits.engineComplete x0 x1 : Fits.Statement (.engineComplete x0 x1) := fits_event rfl
theorem Fits.agPortRequest x0 x1 : Fits.Statement (.agPortRequest x0 x1) := fits_event rfl
theorem Fits.vectorEntryBegin x0 : Fits.Statement (.vectorEntryBegin x0) := fits_event rfl
theorem Fits.vectorEntryComplete x0 : Fits.Statement (.vectorEntryComplete x0) := fits_event rfl
theorem Fits.vectorLoadData x0 x1 x2 : Fits.Statement (.vectorLoadData x0 x1 x2) := fits_event rfl
theorem Fits.matrixEntryBind x0 : Fits.Statement (.matrixEntryBind x0) := fits_event rfl
theorem Fits.matrixEntryComplete x0 : Fits.Statement (.matrixEntryComplete x0) := fits_event rfl
theorem Fits.selectEntryBind x0 : Fits.Statement (.selectEntryBind x0) := fits_event rfl
theorem Fits.selectEntryComplete x0 : Fits.Statement (.selectEntryComplete x0) := fits_event rfl
theorem Fits.gangCycleResume x0 : Fits.Statement (.gangCycleResume x0) := fits_event rfl
theorem Fits.ualinkIngress x0 x1 : Fits.Statement (.ualinkIngress x0 x1) := fits_event rfl
theorem Fits.parkedRetry x0 x1 : Fits.Statement (.parkedRetry x0 x1) := fits_event rfl
theorem Fits.acceptNotice x0 x1 x2 x3 : Fits.Statement (.acceptNotice x0 x1 x2 x3) := fits_event rfl
theorem Fits.routerTrim x0 x1 x2 : Fits.Statement (.routerTrim x0 x1 x2) := fits_event rfl
theorem Fits.trimmedHeadArrival x0 x1 x2 : Fits.Statement (.trimmedHeadArrival x0 x1 x2) := fits_event rfl
theorem Fits.resendRequest x0 x1 x2 : Fits.Statement (.resendRequest x0 x1 x2) := fits_event rfl
theorem Fits.walkComplete x0 : Fits.Statement (.walkComplete x0) := fits_event rfl
theorem Fits.tlbFill x0 x1 : Fits.Statement (.tlbFill x0 x1) := fits_event rfl
theorem Fits.tlbInvalidation x0 x1 : Fits.Statement (.tlbInvalidation x0 x1) := fits_event rfl
theorem Fits.frameStart : Fits.Statement (.frameStart) := fits_event rfl
theorem Fits.deadlockSnapshot x0 : Fits.Statement (.deadlockSnapshot x0) := fits_event rfl
theorem Fits.snapshotExchange x0 : Fits.Statement (.snapshotExchange x0) := fits_event rfl
theorem Fits.timestampSync x0 x1 : Fits.Statement (.timestampSync x0 x1) := fits_event rfl
theorem Fits.linkDelayEcho x0 x1 : Fits.Statement (.linkDelayEcho x0 x1) := fits_event rfl
theorem Fits.patrolScrub x0 x1 : Fits.Statement (.patrolScrub x0 x1) := fits_event rfl
theorem Fits.correctedError x0 : Fits.Statement (.correctedError x0) := fits_event rfl
theorem Fits.uncorrectableError x0 : Fits.Statement (.uncorrectableError x0) := fits_event rfl
theorem Fits.linkRetrain x0 x1 : Fits.Statement (.linkRetrain x0 x1) := fits_event rfl
theorem Fits.dieLost x0 : Fits.Statement (.dieLost x0) := fits_event rfl
theorem Fits.hostMemRead x0 x1 : Fits.Statement (.hostMemRead x0 x1) := fits_event rfl
theorem Fits.hostMemWrite x0 x1 : Fits.Statement (.hostMemWrite x0 x1) := fits_event rfl
theorem Fits.backInvalidateResponse x0 x1 x2 : Fits.Statement (.backInvalidateResponse x0 x1 x2) := fits_event rfl
theorem Fits.hostErrorCompletion x0 : Fits.Statement (.hostErrorCompletion x0) := fits_event rfl
theorem Fits.hostCompletionTimeout x0 : Fits.Statement (.hostCompletionTimeout x0) := fits_event rfl
theorem Fits.foreignUalinkRequest x0 : Fits.Statement (.foreignUalinkRequest x0) := fits_event rfl
theorem Fits.coldReset : Fits.Statement (.coldReset) := fits_event rfl
theorem Fits.warmReset : Fits.Statement (.warmReset) := fits_event rfl
theorem Fits.railsDone : Fits.Statement (.railsDone) := fits_event rfl
theorem Fits.selftestDone x0 : Fits.Statement (.selftestDone x0) := fits_event rfl
theorem Fits.draminitDone x0 : Fits.Statement (.draminitDone x0) := fits_event rfl
theorem Fits.identityDone : Fits.Statement (.identityDone) := fits_event rfl
theorem Fits.linksDone x0 : Fits.Statement (.linksDone x0) := fits_event rfl
theorem Fits.governorSample x0 x1 : Fits.Statement (.governorSample x0 x1) := fits_event rfl
theorem Fits.telemetryRefresh x0 x1 : Fits.Statement (.telemetryRefresh x0 x1) := fits_event rfl
theorem Fits.thermalLimit x0 x1 x2 : Fits.Statement (.thermalLimit x0 x1 x2) := fits_event rfl
theorem Fits.thermalTrip x0 : Fits.Statement (.thermalTrip x0) := fits_event rfl
theorem Fits.queueBlob x0 : Fits.Statement (.queueBlob x0) := fits_event rfl
theorem Fits.regRd x0 : Fits.Statement (.regRd x0) := fits_event rfl
theorem Fits.plSet x0 : Fits.Statement (.plSet x0) := fits_event rfl
theorem Fits.logRd x0 x1 x2 : Fits.Statement (.logRd x0 x1 x2) := fits_event rfl
theorem Fits.cntRd x0 x1 : Fits.Statement (.cntRd x0 x1) := fits_event rfl
theorem Fits.resetCommand : Fits.Statement (.resetCommand) := fits_event rfl
theorem Fits.ownerBlob : Fits.Statement (.ownerBlob) := fits_event rfl
theorem Fits.moduleBlob : Fits.Statement (.moduleBlob) := fits_event rfl
theorem Fits.partitionBlob : Fits.Statement (.partitionBlob) := fits_event rfl
theorem Fits.memkeyBlob : Fits.Statement (.memkeyBlob) := fits_event rfl
theorem Fits.linkkeyBlob : Fits.Statement (.linkkeyBlob) := fits_event rfl
theorem Fits.keySwitch x0 : Fits.Statement (.keySwitch x0) := fits_event rfl
theorem Fits.powerBlob : Fits.Statement (.powerBlob) := fits_event rfl
theorem Fits.getVersion x0 : Fits.Statement (.getVersion x0) := fits_event rfl
theorem Fits.getCapabilities x0 : Fits.Statement (.getCapabilities x0) := fits_event rfl
theorem Fits.negotiateAlgorithms x0 : Fits.Statement (.negotiateAlgorithms x0) := fits_event rfl
theorem Fits.getDigests x0 : Fits.Statement (.getDigests x0) := fits_event rfl
theorem Fits.getCertificate x0 : Fits.Statement (.getCertificate x0) := fits_event rfl
theorem Fits.challenge x0 : Fits.Statement (.challenge x0) := fits_event rfl
theorem Fits.getMeasurements x0 : Fits.Statement (.getMeasurements x0) := fits_event rfl
theorem Fits.keyExchange x0 : Fits.Statement (.keyExchange x0) := fits_event rfl
theorem Fits.finish x0 : Fits.Statement (.finish x0) := fits_event rfl
theorem Fits.endSession x0 : Fits.Statement (.endSession x0) := fits_event rfl
theorem Fits.ideKm x0 : Fits.Statement (.ideKm x0) := fits_event rfl
theorem Fits.timeSlotStart x0 x1 : Fits.Statement (.timeSlotStart x0 x1) := fits_event rfl
theorem Fits.rotationTurn x0 x1 : Fits.Statement (.rotationTurn x0 x1) := fits_event rfl
theorem Fits.configurationRequest x0 : Fits.Statement (.configurationRequest x0) := fits_event rfl
theorem Fits.add d a b : Fits.Statement (.add d a b) :=
  fits_of rfl (by omega) (by omega)
theorem Fits.sub d a b : Fits.Statement (.sub d a b) :=
  fits_of rfl (by omega) (by omega)
theorem Fits.and d a b : Fits.Statement (.and d a b) :=
  fits_of rfl (by omega) (by omega)
theorem Fits.or d a b : Fits.Statement (.or d a b) :=
  fits_of rfl (by omega) (by omega)
theorem Fits.xor d a b : Fits.Statement (.xor d a b) :=
  fits_of rfl (by omega) (by omega)
theorem Fits.andn d a b : Fits.Statement (.andn d a b) :=
  fits_of rfl (by omega) (by omega)
theorem Fits.addw d a b : Fits.Statement (.addw d a b) :=
  fits_of rfl (by omega) (by omega)
theorem Fits.subw d a b : Fits.Statement (.subw d a b) :=
  fits_of rfl (by omega) (by omega)
theorem Fits.adds d a b : Fits.Statement (.adds d a b) :=
  fits_of rfl (by omega) (by omega)
theorem Fits.subs d a b : Fits.Statement (.subs d a b) :=
  fits_of rfl (by omega) (by omega)
theorem Fits.min d a b : Fits.Statement (.min d a b) :=
  fits_of rfl (by omega) (by omega)
theorem Fits.max d a b : Fits.Statement (.max d a b) :=
  fits_of rfl (by omega) (by omega)
theorem Fits.minu d a b : Fits.Statement (.minu d a b) :=
  fits_of rfl (by omega) (by omega)
theorem Fits.maxu d a b : Fits.Statement (.maxu d a b) :=
  fits_of rfl (by omega) (by omega)
theorem Fits.abs d a : Fits.Statement (.abs d a) :=
  fits_of rfl (by omega) (by omega)
theorem Fits.mul d a b : Fits.Statement (.mul d a b) :=
  fits_of rfl (by omega) (by omega)
theorem Fits.mulh d a b : Fits.Statement (.mulh d a b) :=
  fits_of rfl (by omega) (by omega)
theorem Fits.mulhu d a b : Fits.Statement (.mulhu d a b) :=
  fits_of rfl (by omega) (by omega)
theorem Fits.mulhsu d a b : Fits.Statement (.mulhsu d a b) :=
  fits_of rfl (by omega) (by omega)
theorem Fits.mulw d a b : Fits.Statement (.mulw d a b) :=
  fits_of rfl (by omega) (by omega)
theorem Fits.div d a b : Fits.Statement (.div d a b) :=
  fits_of rfl (by omega) (by omega)
theorem Fits.divu d a b : Fits.Statement (.divu d a b) :=
  fits_of rfl (by omega) (by omega)
theorem Fits.rem d a b : Fits.Statement (.rem d a b) :=
  fits_of rfl (by omega) (by omega)
theorem Fits.remu d a b : Fits.Statement (.remu d a b) :=
  fits_of rfl (by omega) (by omega)
theorem Fits.sll d a b : Fits.Statement (.sll d a b) :=
  fits_of rfl (by omega) (by omega)
theorem Fits.srl d a b : Fits.Statement (.srl d a b) :=
  fits_of rfl (by omega) (by omega)
theorem Fits.sra d a b : Fits.Statement (.sra d a b) :=
  fits_of rfl (by omega) (by omega)
theorem Fits.rol d a b : Fits.Statement (.rol d a b) :=
  fits_of rfl (by omega) (by omega)
theorem Fits.ror d a b : Fits.Statement (.ror d a b) :=
  fits_of rfl (by omega) (by omega)
theorem Fits.clz d a : Fits.Statement (.clz d a) :=
  fits_of rfl (by omega) (by omega)
theorem Fits.ctz d a : Fits.Statement (.ctz d a) :=
  fits_of rfl (by omega) (by omega)
theorem Fits.popc d a : Fits.Statement (.popc d a) :=
  fits_of rfl (by omega) (by omega)
theorem Fits.bswap d a : Fits.Statement (.bswap d a) :=
  fits_of rfl (by omega) (by omega)
theorem Fits.brev d a : Fits.Statement (.brev d a) :=
  fits_of rfl (by omega) (by omega)
theorem Fits.extu d a b : Fits.Statement (.extu d a b) :=
  fits_of rfl (by omega) (by omega)
theorem Fits.exts d a b : Fits.Statement (.exts d a b) :=
  fits_of rfl (by omega) (by omega)
theorem Fits.ins d a b : Fits.Statement (.ins d a b) :=
  fits_of rfl (by omega) (by omega)
theorem Fits.seq d a b : Fits.Statement (.seq d a b) :=
  fits_of rfl (by omega) (by omega)
theorem Fits.sne d a b : Fits.Statement (.sne d a b) :=
  fits_of rfl (by omega) (by omega)
theorem Fits.slt d a b : Fits.Statement (.slt d a b) :=
  fits_of rfl (by omega) (by omega)
theorem Fits.sltu d a b : Fits.Statement (.sltu d a b) :=
  fits_of rfl (by omega) (by omega)
theorem Fits.sge d a b : Fits.Statement (.sge d a b) :=
  fits_of rfl (by omega) (by omega)
theorem Fits.sgeu d a b : Fits.Statement (.sgeu d a b) :=
  fits_of rfl (by omega) (by omega)
theorem Fits.cmovz d a b : Fits.Statement (.cmovz d a b) :=
  fits_of rfl (by omega) (by omega)
theorem Fits.cmovnz d a b : Fits.Statement (.cmovnz d a b) :=
  fits_of rfl (by omega) (by omega)
theorem Fits.fadd d a b : Fits.Statement (.fadd d a b) :=
  fits_of rfl (by omega) (by omega)
theorem Fits.fsub d a b : Fits.Statement (.fsub d a b) :=
  fits_of rfl (by omega) (by omega)
theorem Fits.fmul d a b : Fits.Statement (.fmul d a b) :=
  fits_of rfl (by omega) (by omega)
theorem Fits.fdiv d a b : Fits.Statement (.fdiv d a b) :=
  fits_of rfl (by omega) (by omega)
theorem Fits.fsqrt d a : Fits.Statement (.fsqrt d a) :=
  fits_of rfl (by omega) (by omega)
theorem Fits.fmadd d a b : Fits.Statement (.fmadd d a b) :=
  fits_of rfl (by omega) (by omega)
theorem Fits.fmin d a b : Fits.Statement (.fmin d a b) :=
  fits_of rfl (by omega) (by omega)
theorem Fits.fmax d a b : Fits.Statement (.fmax d a b) :=
  fits_of rfl (by omega) (by omega)
theorem Fits.fabs d a : Fits.Statement (.fabs d a) :=
  fits_of rfl (by omega) (by omega)
theorem Fits.fneg d a : Fits.Statement (.fneg d a) :=
  fits_of rfl (by omega) (by omega)
theorem Fits.feq d a b : Fits.Statement (.feq d a b) :=
  fits_of rfl (by omega) (by omega)
theorem Fits.flt d a b : Fits.Statement (.flt d a b) :=
  fits_of rfl (by omega) (by omega)
theorem Fits.fle d a b : Fits.Statement (.fle d a b) :=
  fits_of rfl (by omega) (by omega)
theorem Fits.fclass d a : Fits.Statement (.fclass d a) :=
  fits_of rfl (by omega) (by omega)
theorem Fits.ftoi d a : Fits.Statement (.ftoi d a) :=
  fits_of rfl (by omega) (by omega)
theorem Fits.ftou d a : Fits.Statement (.ftou d a) :=
  fits_of rfl (by omega) (by omega)
theorem Fits.itof d a : Fits.Statement (.itof d a) :=
  fits_of rfl (by omega) (by omega)
theorem Fits.utof d a : Fits.Statement (.utof d a) :=
  fits_of rfl (by omega) (by omega)
theorem Fits.addi d a i : Fits.Statement (.addi d a i) :=
  fits_of rfl (by omega) (by omega)
theorem Fits.andi d a i : Fits.Statement (.andi d a i) :=
  fits_of rfl (by omega) (by omega)
theorem Fits.ori d a i : Fits.Statement (.ori d a i) :=
  fits_of rfl (by omega) (by omega)
theorem Fits.xori d a i : Fits.Statement (.xori d a i) :=
  fits_of rfl (by omega) (by omega)
theorem Fits.slli d a i : Fits.Statement (.slli d a i) :=
  fits_of rfl (by omega) (by omega)
theorem Fits.srli d a i : Fits.Statement (.srli d a i) :=
  fits_of rfl (by omega) (by omega)
theorem Fits.srai d a i : Fits.Statement (.srai d a i) :=
  fits_of rfl (by omega) (by omega)
theorem Fits.rori d a i : Fits.Statement (.rori d a i) :=
  fits_of rfl (by omega) (by omega)
theorem Fits.seqi d a i : Fits.Statement (.seqi d a i) :=
  fits_of rfl (by omega) (by omega)
theorem Fits.snei d a i : Fits.Statement (.snei d a i) :=
  fits_of rfl (by omega) (by omega)
theorem Fits.slti d a i : Fits.Statement (.slti d a i) :=
  fits_of rfl (by omega) (by omega)
theorem Fits.sltui d a i : Fits.Statement (.sltui d a i) :=
  fits_of rfl (by omega) (by omega)
theorem Fits.addiw d a i : Fits.Statement (.addiw d a i) :=
  fits_of rfl (by omega) (by omega)
theorem Fits.li d i : Fits.Statement (.li d i) :=
  fits_of rfl (by omega) (by omega)
theorem Fits.shori d a i : Fits.Statement (.shori d a i) :=
  fits_of rfl (by omega) (by omega)
theorem Fits.rdsr d sr : Fits.Statement (.rdsr d sr) :=
  fits_of rfl (by omega) (by omega)
theorem Fits.wrsr a sr : Fits.Statement (.wrsr a sr) :=
  fits_of rfl (by omega) (by omega)
theorem Fits.setsr a sr : Fits.Statement (.setsr a sr) :=
  fits_of rfl (by omega) (by omega)
theorem Fits.clrsr a sr : Fits.Statement (.clrsr a sr) :=
  fits_of rfl (by omega) (by omega)
theorem Fits.lit d idx : Fits.Statement (.lit d idx) :=
  fits_of rfl (by omega) (by omega)
theorem Fits.litW d idx : Fits.Statement (.litW d idx) :=
  fits_of rfl (by omega) (by omega)
theorem Fits.beqz c off : Fits.Statement (.beqz c off) :=
  fits_of rfl (by omega) (by omega)
theorem Fits.bnez c off : Fits.Statement (.bnez c off) :=
  fits_of rfl (by omega) (by omega)
theorem Fits.bltz c off : Fits.Statement (.bltz c off) :=
  fits_of rfl (by omega) (by omega)
theorem Fits.bgez c off : Fits.Statement (.bgez c off) :=
  fits_of rfl (by omega) (by omega)
theorem Fits.bgtz c off : Fits.Statement (.bgtz c off) :=
  fits_of rfl (by omega) (by omega)
theorem Fits.blez c off : Fits.Statement (.blez c off) :=
  fits_of rfl (by omega) (by omega)
theorem Fits.call c off : Fits.Statement (.call c off) :=
  fits_of rfl (by omega) (by omega)
theorem Fits.jmp off : Fits.Statement (.jmp off) :=
  fits_of rfl (by omega) (by omega)
theorem Fits.jr a : Fits.Statement (.jr a) :=
  fits_of rfl (by omega) (by omega)
theorem Fits.jalr d a : Fits.Statement (.jalr d a) :=
  fits_of rfl (by omega) (by omega)
theorem Fits.yield : Fits.Statement (.yield) :=
  fits_of rfl (by omega) (by omega)
theorem Fits.trap n : Fits.Statement (.trap n) :=
  fits_of rfl (by omega) (by omega)
theorem Fits.ecall n : Fits.Statement (.ecall n) :=
  fits_of rfl (by omega) (by omega)
theorem Fits.tsRead d : Fits.Statement (.tsRead d) :=
  fits_of rfl (by omega) (by omega)
theorem Fits.loop a i : Fits.Statement (.loop a i) :=
  fits_of rfl (by omega) (by omega)
theorem Fits.loopI n i : Fits.Statement (.loopI n i) :=
  fits_of rfl (by omega) (by omega)
theorem Fits.ldB d a off : Fits.Statement (.ldB d a off) :=
  fits_of rfl (by omega) (by omega)
theorem Fits.ldBu d a off : Fits.Statement (.ldBu d a off) :=
  fits_of rfl (by omega) (by omega)
theorem Fits.ldH d a off : Fits.Statement (.ldH d a off) :=
  fits_of rfl (by omega) (by omega)
theorem Fits.ldHu d a off : Fits.Statement (.ldHu d a off) :=
  fits_of rfl (by omega) (by omega)
theorem Fits.ldW d a off : Fits.Statement (.ldW d a off) :=
  fits_of rfl (by omega) (by omega)
theorem Fits.ldWu d a off : Fits.Statement (.ldWu d a off) :=
  fits_of rfl (by omega) (by omega)
theorem Fits.ld d a off : Fits.Statement (.ld d a off) :=
  fits_of rfl (by omega) (by omega)
theorem Fits.stB d a off : Fits.Statement (.stB d a off) :=
  fits_of rfl (by omega) (by omega)
theorem Fits.stH d a off : Fits.Statement (.stH d a off) :=
  fits_of rfl (by omega) (by omega)
theorem Fits.stW d a off : Fits.Statement (.stW d a off) :=
  fits_of rfl (by omega) (by omega)
theorem Fits.st d a off : Fits.Statement (.st d a off) :=
  fits_of rfl (by omega) (by omega)
theorem Fits.ldAcq d a lvl sz : Fits.Statement (.ldAcq d a lvl sz) :=
  fits_of rfl (by omega) (by omega)
theorem Fits.stRel d a lvl sz : Fits.Statement (.stRel d a lvl sz) :=
  fits_of rfl (by omega) (by omega)
theorem Fits.fence lvl : Fits.Statement (.fence lvl) :=
  fits_of rfl (by omega) (by omega)
theorem Fits.amoAdd d a w64 ord lvl : Fits.Statement (.amoAdd d a w64 ord lvl) :=
  fits_of rfl (by omega) (by have := orderCode_lt ord; have := bit_lt w64; omega)
theorem Fits.amoAnd d a w64 ord lvl : Fits.Statement (.amoAnd d a w64 ord lvl) :=
  fits_of rfl (by omega) (by have := orderCode_lt ord; have := bit_lt w64; omega)
theorem Fits.amoOr d a w64 ord lvl : Fits.Statement (.amoOr d a w64 ord lvl) :=
  fits_of rfl (by omega) (by have := orderCode_lt ord; have := bit_lt w64; omega)
theorem Fits.amoXor d a w64 ord lvl : Fits.Statement (.amoXor d a w64 ord lvl) :=
  fits_of rfl (by omega) (by have := orderCode_lt ord; have := bit_lt w64; omega)
theorem Fits.amoSwap d a w64 ord lvl : Fits.Statement (.amoSwap d a w64 ord lvl) :=
  fits_of rfl (by omega) (by have := orderCode_lt ord; have := bit_lt w64; omega)
theorem Fits.amoCas d a w64 ord lvl : Fits.Statement (.amoCas d a w64 ord lvl) :=
  fits_of rfl (by omega) (by have := orderCode_lt ord; have := bit_lt w64; omega)
theorem Fits.amoMins d a w64 ord lvl : Fits.Statement (.amoMins d a w64 ord lvl) :=
  fits_of rfl (by omega) (by have := orderCode_lt ord; have := bit_lt w64; omega)
theorem Fits.amoMinu d a w64 ord lvl : Fits.Statement (.amoMinu d a w64 ord lvl) :=
  fits_of rfl (by omega) (by have := orderCode_lt ord; have := bit_lt w64; omega)
theorem Fits.amoMaxs d a w64 ord lvl : Fits.Statement (.amoMaxs d a w64 ord lvl) :=
  fits_of rfl (by omega) (by have := orderCode_lt ord; have := bit_lt w64; omega)
theorem Fits.amoMaxu d a w64 ord lvl : Fits.Statement (.amoMaxu d a w64 ord lvl) :=
  fits_of rfl (by omega) (by have := orderCode_lt ord; have := bit_lt w64; omega)
theorem Fits.amoFadd32 d a ord lvl : Fits.Statement (.amoFadd32 d a ord lvl) :=
  fits_of rfl (by omega) (by have := orderCode_lt ord; omega)
theorem Fits.amoHist d a ord lvl : Fits.Statement (.amoHist d a ord lvl) :=
  fits_of rfl (by omega) (by have := orderCode_lt ord; omega)
theorem Fits.amoDecz d a w64 ord lvl : Fits.Statement (.amoDecz d a w64 ord lvl) :=
  fits_of rfl (by omega) (by have := orderCode_lt ord; have := bit_lt w64; omega)
theorem Fits.amoTake d a ord lvl : Fits.Statement (.amoTake d a ord lvl) :=
  fits_of rfl (by omega) (by have := orderCode_lt ord; omega)
theorem Fits.amoReturn d a ord lvl : Fits.Statement (.amoReturn d a ord lvl) :=
  fits_of rfl (by omega) (by have := orderCode_lt ord; omega)
theorem Fits.atomInv d a id ord lvl : Fits.Statement (.atomInv d a id ord lvl) :=
  fits_of rfl (by omega) (by have := orderCode_lt ord; omega)
theorem Fits.vfadd d a b m : Fits.Statement (.vfadd d a b m) :=
  fits_of rfl (by omega) (by have := vmaskBits_lt m; omega)
theorem Fits.vfsub d a b m : Fits.Statement (.vfsub d a b m) :=
  fits_of rfl (by omega) (by have := vmaskBits_lt m; omega)
theorem Fits.vfmul d a b m : Fits.Statement (.vfmul d a b m) :=
  fits_of rfl (by omega) (by have := vmaskBits_lt m; omega)
theorem Fits.vfdiv d a b m : Fits.Statement (.vfdiv d a b m) :=
  fits_of rfl (by omega) (by have := vmaskBits_lt m; omega)
theorem Fits.vfsqrt d a m : Fits.Statement (.vfsqrt d a m) :=
  fits_of rfl (by omega) (by have := vmaskBits_lt m; omega)
theorem Fits.vfma d a b m : Fits.Statement (.vfma d a b m) :=
  fits_of rfl (by omega) (by have := vmaskBits_lt m; omega)
theorem Fits.vfnma d a b m : Fits.Statement (.vfnma d a b m) :=
  fits_of rfl (by omega) (by have := vmaskBits_lt m; omega)
theorem Fits.vfmin d a b m : Fits.Statement (.vfmin d a b m) :=
  fits_of rfl (by omega) (by have := vmaskBits_lt m; omega)
theorem Fits.vfmax d a b m : Fits.Statement (.vfmax d a b m) :=
  fits_of rfl (by omega) (by have := vmaskBits_lt m; omega)
theorem Fits.vfabs d a m : Fits.Statement (.vfabs d a m) :=
  fits_of rfl (by omega) (by have := vmaskBits_lt m; omega)
theorem Fits.vfneg d a m : Fits.Statement (.vfneg d a m) :=
  fits_of rfl (by omega) (by have := vmaskBits_lt m; omega)
theorem Fits.vfscaleb d a b m : Fits.Statement (.vfscaleb d a b m) :=
  fits_of rfl (by omega) (by have := vmaskBits_lt m; omega)
theorem Fits.vfmuls d a b m : Fits.Statement (.vfmuls d a b m) :=
  fits_of rfl (by omega) (by have := vmaskBits_lt m; omega)
theorem Fits.vfmas d a b m : Fits.Statement (.vfmas d a b m) :=
  fits_of rfl (by omega) (by have := vmaskBits_lt m; omega)
theorem Fits.vfrcp d a m : Fits.Statement (.vfrcp d a m) :=
  fits_of rfl (by omega) (by have := vmaskBits_lt m; omega)
theorem Fits.vfrsq d a m : Fits.Statement (.vfrsq d a m) :=
  fits_of rfl (by omega) (by have := vmaskBits_lt m; omega)
theorem Fits.vfexp2 d a m : Fits.Statement (.vfexp2 d a m) :=
  fits_of rfl (by omega) (by have := vmaskBits_lt m; omega)
theorem Fits.vfexp d a m : Fits.Statement (.vfexp d a m) :=
  fits_of rfl (by omega) (by have := vmaskBits_lt m; omega)
theorem Fits.vflog2 d a m : Fits.Statement (.vflog2 d a m) :=
  fits_of rfl (by omega) (by have := vmaskBits_lt m; omega)
theorem Fits.vftanh d a m : Fits.Statement (.vftanh d a m) :=
  fits_of rfl (by omega) (by have := vmaskBits_lt m; omega)
theorem Fits.vfsigm d a m : Fits.Statement (.vfsigm d a m) :=
  fits_of rfl (by omega) (by have := vmaskBits_lt m; omega)
theorem Fits.vfsin d a m : Fits.Statement (.vfsin d a m) :=
  fits_of rfl (by omega) (by have := vmaskBits_lt m; omega)
theorem Fits.vfcos d a m : Fits.Statement (.vfcos d a m) :=
  fits_of rfl (by omega) (by have := vmaskBits_lt m; omega)
theorem Fits.vadd d a b m : Fits.Statement (.vadd d a b m) :=
  fits_of rfl (by omega) (by have := vmaskBits_lt m; omega)
theorem Fits.vsub d a b m : Fits.Statement (.vsub d a b m) :=
  fits_of rfl (by omega) (by have := vmaskBits_lt m; omega)
theorem Fits.vmul d a b m : Fits.Statement (.vmul d a b m) :=
  fits_of rfl (by omega) (by have := vmaskBits_lt m; omega)
theorem Fits.vmulh d a b m : Fits.Statement (.vmulh d a b m) :=
  fits_of rfl (by omega) (by have := vmaskBits_lt m; omega)
theorem Fits.vmulhu d a b m : Fits.Statement (.vmulhu d a b m) :=
  fits_of rfl (by omega) (by have := vmaskBits_lt m; omega)
theorem Fits.vadds d a b m : Fits.Statement (.vadds d a b m) :=
  fits_of rfl (by omega) (by have := vmaskBits_lt m; omega)
theorem Fits.vsubs d a b m : Fits.Statement (.vsubs d a b m) :=
  fits_of rfl (by omega) (by have := vmaskBits_lt m; omega)
theorem Fits.vaddus d a b m : Fits.Statement (.vaddus d a b m) :=
  fits_of rfl (by omega) (by have := vmaskBits_lt m; omega)
theorem Fits.vsubus d a b m : Fits.Statement (.vsubus d a b m) :=
  fits_of rfl (by omega) (by have := vmaskBits_lt m; omega)
theorem Fits.vmin d a b m : Fits.Statement (.vmin d a b m) :=
  fits_of rfl (by omega) (by have := vmaskBits_lt m; omega)
theorem Fits.vmax d a b m : Fits.Statement (.vmax d a b m) :=
  fits_of rfl (by omega) (by have := vmaskBits_lt m; omega)
theorem Fits.vminu d a b m : Fits.Statement (.vminu d a b m) :=
  fits_of rfl (by omega) (by have := vmaskBits_lt m; omega)
theorem Fits.vmaxu d a b m : Fits.Statement (.vmaxu d a b m) :=
  fits_of rfl (by omega) (by have := vmaskBits_lt m; omega)
theorem Fits.vabs d a m : Fits.Statement (.vabs d a m) :=
  fits_of rfl (by omega) (by have := vmaskBits_lt m; omega)
theorem Fits.vand d a b m : Fits.Statement (.vand d a b m) :=
  fits_of rfl (by omega) (by have := vmaskBits_lt m; omega)
theorem Fits.vor d a b m : Fits.Statement (.vor d a b m) :=
  fits_of rfl (by omega) (by have := vmaskBits_lt m; omega)
theorem Fits.vxor d a b m : Fits.Statement (.vxor d a b m) :=
  fits_of rfl (by omega) (by have := vmaskBits_lt m; omega)
theorem Fits.vandn d a b m : Fits.Statement (.vandn d a b m) :=
  fits_of rfl (by omega) (by have := vmaskBits_lt m; omega)
theorem Fits.vnot d a m : Fits.Statement (.vnot d a m) :=
  fits_of rfl (by omega) (by have := vmaskBits_lt m; omega)
theorem Fits.vsll d a b m : Fits.Statement (.vsll d a b m) :=
  fits_of rfl (by omega) (by have := vmaskBits_lt m; omega)
theorem Fits.vsrl d a b m : Fits.Statement (.vsrl d a b m) :=
  fits_of rfl (by omega) (by have := vmaskBits_lt m; omega)
theorem Fits.vsra d a b m : Fits.Statement (.vsra d a b m) :=
  fits_of rfl (by omega) (by have := vmaskBits_lt m; omega)
theorem Fits.vpopc d a m : Fits.Statement (.vpopc d a m) :=
  fits_of rfl (by omega) (by have := vmaskBits_lt m; omega)
theorem Fits.vclz d a m : Fits.Statement (.vclz d a m) :=
  fits_of rfl (by omega) (by have := vmaskBits_lt m; omega)
theorem Fits.vqmul d a b m : Fits.Statement (.vqmul d a b m) :=
  fits_of rfl (by omega) (by have := vmaskBits_lt m; omega)
theorem Fits.vsrar d a b m : Fits.Statement (.vsrar d a b m) :=
  fits_of rfl (by omega) (by have := vmaskBits_lt m; omega)
theorem Fits.vaddx d a b m : Fits.Statement (.vaddx d a b m) :=
  fits_of rfl (by omega) (by have := vmaskBits_lt m; omega)
theorem Fits.vmulx d a b m : Fits.Statement (.vmulx d a b m) :=
  fits_of rfl (by omega) (by have := vmaskBits_lt m; omega)
theorem Fits.vmacx d a b m : Fits.Statement (.vmacx d a b m) :=
  fits_of rfl (by omega) (by have := vmaskBits_lt m; omega)
theorem Fits.vsrax d a b m : Fits.Statement (.vsrax d a b m) :=
  fits_of rfl (by omega) (by have := vmaskBits_lt m; omega)
theorem Fits.vfeq d a b m : Fits.Statement (.vfeq d a b m) :=
  fits_of rfl (by omega) (by have := vmaskBits_lt m; omega)
theorem Fits.vflt d a b m : Fits.Statement (.vflt d a b m) :=
  fits_of rfl (by omega) (by have := vmaskBits_lt m; omega)
theorem Fits.vfle d a b m : Fits.Statement (.vfle d a b m) :=
  fits_of rfl (by omega) (by have := vmaskBits_lt m; omega)
theorem Fits.vfun d a b m : Fits.Statement (.vfun d a b m) :=
  fits_of rfl (by omega) (by have := vmaskBits_lt m; omega)
theorem Fits.veq d a b m : Fits.Statement (.veq d a b m) :=
  fits_of rfl (by omega) (by have := vmaskBits_lt m; omega)
theorem Fits.vne d a b m : Fits.Statement (.vne d a b m) :=
  fits_of rfl (by omega) (by have := vmaskBits_lt m; omega)
theorem Fits.vlt d a b m : Fits.Statement (.vlt d a b m) :=
  fits_of rfl (by omega) (by have := vmaskBits_lt m; omega)
theorem Fits.vle d a b m : Fits.Statement (.vle d a b m) :=
  fits_of rfl (by omega) (by have := vmaskBits_lt m; omega)
theorem Fits.vltu d a b m : Fits.Statement (.vltu d a b m) :=
  fits_of rfl (by omega) (by have := vmaskBits_lt m; omega)
theorem Fits.vleu d a b m : Fits.Statement (.vleu d a b m) :=
  fits_of rfl (by omega) (by have := vmaskBits_lt m; omega)
theorem Fits.veqx d a b m : Fits.Statement (.veqx d a b m) :=
  fits_of rfl (by omega) (by have := vmaskBits_lt m; omega)
theorem Fits.vltx d a b m : Fits.Statement (.vltx d a b m) :=
  fits_of rfl (by omega) (by have := vmaskBits_lt m; omega)
theorem Fits.vgtx d a b m : Fits.Statement (.vgtx d a b m) :=
  fits_of rfl (by omega) (by have := vmaskBits_lt m; omega)
theorem Fits.vsel d a b m : Fits.Statement (.vsel d a b m) :=
  fits_of rfl (by omega) (by omega)
theorem Fits.mand d a b : Fits.Statement (.mand d a b) :=
  fits_of rfl (by omega) (by omega)
theorem Fits.mor d a b : Fits.Statement (.mor d a b) :=
  fits_of rfl (by omega) (by omega)
theorem Fits.mxor d a b : Fits.Statement (.mxor d a b) :=
  fits_of rfl (by omega) (by omega)
theorem Fits.mandn d a b : Fits.Statement (.mandn d a b) :=
  fits_of rfl (by omega) (by omega)
theorem Fits.mnot d a : Fits.Statement (.mnot d a) :=
  fits_of rfl (by omega) (by omega)
theorem Fits.mpopc d a : Fits.Statement (.mpopc d a) :=
  fits_of rfl (by omega) (by omega)
theorem Fits.mfirst d a : Fits.Statement (.mfirst d a) :=
  fits_of rfl (by omega) (by omega)
theorem Fits.mmov d a : Fits.Statement (.mmov d a) :=
  fits_of rfl (by omega) (by omega)
theorem Fits.mrd d a : Fits.Statement (.mrd d a) :=
  fits_of rfl (by omega) (by omega)
theorem Fits.vbcast d a m : Fits.Statement (.vbcast d a m) :=
  fits_of rfl (by omega) (by have := vmaskBits_lt m; omega)
theorem Fits.vsplat d a b m : Fits.Statement (.vsplat d a b m) :=
  fits_of rfl (by omega) (by have := vmaskBits_lt m; omega)
theorem Fits.vperm d a b m : Fits.Statement (.vperm d a b m) :=
  fits_of rfl (by omega) (by have := vmaskBits_lt m; omega)
theorem Fits.vperm2 d a b m : Fits.Statement (.vperm2 d a b m) :=
  fits_of rfl (by omega) (by have := vmaskBits_lt m; omega)
theorem Fits.vrot d a b m : Fits.Statement (.vrot d a b m) :=
  fits_of rfl (by omega) (by have := vmaskBits_lt m; omega)
theorem Fits.vslideup d a b m : Fits.Statement (.vslideup d a b m) :=
  fits_of rfl (by omega) (by have := vmaskBits_lt m; omega)
theorem Fits.vslidedn d a b m : Fits.Statement (.vslidedn d a b m) :=
  fits_of rfl (by omega) (by have := vmaskBits_lt m; omega)
theorem Fits.vzip d a b m : Fits.Statement (.vzip d a b m) :=
  fits_of rfl (by omega) (by have := vmaskBits_lt m; omega)
theorem Fits.vunzip d a b m : Fits.Statement (.vunzip d a b m) :=
  fits_of rfl (by omega) (by have := vmaskBits_lt m; omega)
theorem Fits.vcompress d a m : Fits.Statement (.vcompress d a m) :=
  fits_of rfl (by omega) (by omega)
theorem Fits.vlane d m : Fits.Statement (.vlane d m) :=
  fits_of rfl (by omega) (by have := vmaskBits_lt m; omega)
theorem Fits.vmvx d a b : Fits.Statement (.vmvx d a b) :=
  fits_of rfl (by omega) (by omega)
theorem Fits.vins d a b : Fits.Statement (.vins d a b) :=
  fits_of rfl (by omega) (by omega)
theorem Fits.vredadd d a m : Fits.Statement (.vredadd d a m) :=
  fits_of rfl (by omega) (by have := vmaskBits_lt m; omega)
theorem Fits.vredaddu d a m : Fits.Statement (.vredaddu d a m) :=
  fits_of rfl (by omega) (by have := vmaskBits_lt m; omega)
theorem Fits.vredmin d a m : Fits.Statement (.vredmin d a m) :=
  fits_of rfl (by omega) (by have := vmaskBits_lt m; omega)
theorem Fits.vredmax d a m : Fits.Statement (.vredmax d a m) :=
  fits_of rfl (by omega) (by have := vmaskBits_lt m; omega)
theorem Fits.vredminu d a m : Fits.Statement (.vredminu d a m) :=
  fits_of rfl (by omega) (by have := vmaskBits_lt m; omega)
theorem Fits.vredmaxu d a m : Fits.Statement (.vredmaxu d a m) :=
  fits_of rfl (by omega) (by have := vmaskBits_lt m; omega)
theorem Fits.vredfadd d a m : Fits.Statement (.vredfadd d a m) :=
  fits_of rfl (by omega) (by have := vmaskBits_lt m; omega)
theorem Fits.vredfmin d a m : Fits.Statement (.vredfmin d a m) :=
  fits_of rfl (by omega) (by have := vmaskBits_lt m; omega)
theorem Fits.vredfmax d a m : Fits.Statement (.vredfmax d a m) :=
  fits_of rfl (by omega) (by have := vmaskBits_lt m; omega)
theorem Fits.vscanadd d a m : Fits.Statement (.vscanadd d a m) :=
  fits_of rfl (by omega) (by have := vmaskBits_lt m; omega)
theorem Fits.vscanfadd d a m : Fits.Statement (.vscanfadd d a m) :=
  fits_of rfl (by omega) (by have := vmaskBits_lt m; omega)
theorem Fits.vredfaddx d a m : Fits.Statement (.vredfaddx d a m) :=
  fits_of rfl (by omega) (by have := vmaskBits_lt m; omega)
theorem Fits.vcvt d a fmt m p rc : Fits.Statement (.vcvt d a fmt m p rc) :=
  fits_of rfl (by omega) (by have := vmaskBits_lt m; have := rcCode_lt rc; omega)
theorem Fits.vcvtF32 d a fmt m p : Fits.Statement (.vcvtF32 d a fmt m p) :=
  fits_of rfl (by omega) (by have := vmaskBits_lt m; omega)
theorem Fits.vftoi d a m rc : Fits.Statement (.vftoi d a m rc) :=
  fits_of rfl (by omega) (by have := vmaskBits_lt m; have := rcCode_lt rc; omega)
theorem Fits.vftou d a m rc : Fits.Statement (.vftou d a m rc) :=
  fits_of rfl (by omega) (by have := vmaskBits_lt m; have := rcCode_lt rc; omega)
theorem Fits.vitof d a m rc : Fits.Statement (.vitof d a m rc) :=
  fits_of rfl (by omega) (by have := vmaskBits_lt m; have := rcCode_lt rc; omega)
theorem Fits.vutof d a m rc : Fits.Statement (.vutof d a m rc) :=
  fits_of rfl (by omega) (by have := vmaskBits_lt m; have := rcCode_lt rc; omega)
theorem Fits.vcvtMx d a b m p rc : Fits.Statement (.vcvtMx d a b m p rc) :=
  fits_of rfl (by omega) (by have := vmaskBits_lt m; have := rcCode_lt rc; omega)
theorem Fits.vcvtF32Mx d a b m p rc : Fits.Statement (.vcvtF32Mx d a b m p rc) :=
  fits_of rfl (by omega) (by have := vmaskBits_lt m; have := rcCode_lt rc; omega)
theorem Fits.vmxsc d a fmt m : Fits.Statement (.vmxsc d a fmt m) :=
  fits_of rfl (by omega) (by have := vmaskBits_lt m; omega)
theorem Fits.vrand d m : Fits.Statement (.vrand d m) :=
  fits_of rfl (by omega) (by have := vmaskBits_lt m; omega)
theorem Fits.vnarrow d a fmt m p : Fits.Statement (.vnarrow d a fmt m p) :=
  fits_of rfl (by omega) (by have := vmaskBits_lt m; omega)
theorem Fits.vwiden d a fmt m p : Fits.Statement (.vwiden d a fmt m p) :=
  fits_of rfl (by omega) (by have := vmaskBits_lt m; omega)
theorem Fits.vld d a m es : Fits.Statement (.vld d a m es) :=
  fits_of rfl (by omega) (by have := vmaskBits_lt m; omega)
theorem Fits.vst d a m es : Fits.Statement (.vst d a m es) :=
  fits_of rfl (by omega) (by have := vmaskBits_lt m; omega)
theorem Fits.vlds d a b m es : Fits.Statement (.vlds d a b m es) :=
  fits_of rfl (by omega) (by have := vmaskBits_lt m; omega)
theorem Fits.vsts d a b m es : Fits.Statement (.vsts d a b m es) :=
  fits_of rfl (by omega) (by have := vmaskBits_lt m; omega)
theorem Fits.vgather d a b m es : Fits.Statement (.vgather d a b m es) :=
  fits_of rfl (by omega) (by have := vmaskBits_lt m; omega)
theorem Fits.vscatter d a b m es : Fits.Statement (.vscatter d a b m es) :=
  fits_of rfl (by omega) (by have := vmaskBits_lt m; omega)
theorem Fits.mma acc qa bl : Fits.Statement (.mma acc qa bl) :=
  fits_of rfl (by omega) (by omega)
theorem Fits.mmaKeep acc qa bl : Fits.Statement (.mmaKeep acc qa bl) :=
  fits_of rfl (by omega) (by omega)
theorem Fits.mmaSeg acc qa b : Fits.Statement (.mmaSeg acc qa b) :=
  fits_of rfl (by omega) (by omega)
theorem Fits.mmaSegKeep acc qa b : Fits.Statement (.mmaSegKeep acc qa b) :=
  fits_of rfl (by omega) (by omega)
theorem Fits.qaLd qa a : Fits.Statement (.qaLd qa a) :=
  fits_of rfl (by omega) (by omega)
theorem Fits.blLd bl a : Fits.Statement (.blLd bl a) :=
  fits_of rfl (by omega) (by omega)
theorem Fits.qaPop qa : Fits.Statement (.qaPop qa) :=
  fits_of rfl (by omega) (by omega)
theorem Fits.mxWait : Fits.Statement (.mxWait) :=
  fits_of rfl (by omega) (by omega)
theorem Fits.accClr acc a : Fits.Statement (.accClr acc a) :=
  fits_of rfl (by omega) (by omega)
theorem Fits.accRebase acc a : Fits.Statement (.accRebase acc a) :=
  fits_of rfl (by omega) (by omega)
theorem Fits.accAdd acc src : Fits.Statement (.accAdd acc src) :=
  fits_of rfl (by omega) (by omega)
theorem Fits.accLd acc a : Fits.Statement (.accLd acc a) :=
  fits_of rfl (by omega) (by omega)
theorem Fits.accSt acc a : Fits.Statement (.accSt acc a) :=
  fits_of rfl (by omega) (by omega)
theorem Fits.accCvt acc a b rc : Fits.Statement (.accCvt acc a b rc) :=
  fits_of rfl (by omega) (by have := rcCode_lt rc; omega)
theorem Fits.accCvtQ acc qa b rc : Fits.Statement (.accCvtQ acc qa b rc) :=
  fits_of rfl (by omega) (by have := rcCode_lt rc; omega)
theorem Fits.precI d a b : Fits.Statement (.precI d a b) :=
  fits_of rfl (by omega) (by omega)
theorem Fits.precX d a : Fits.Statement (.precX d a) :=
  fits_of rfl (by omega) (by omega)
theorem Fits.cp d p k g : Fits.Statement (.cp d p k g) :=
  fits_of rfl (by omega) (by have := ktagBits_lt k; omega)
theorem Fits.cp2d d p k g : Fits.Statement (.cp2d d p k g) :=
  fits_of rfl (by omega) (by have := ktagBits_lt k; omega)
theorem Fits.cpFill d p k g : Fits.Statement (.cpFill d p k g) :=
  fits_of rfl (by omega) (by have := ktagBits_lt k; omega)
theorem Fits.cpGather d p k g : Fits.Statement (.cpGather d p k g) :=
  fits_of rfl (by omega) (by have := ktagBits_lt k; omega)
theorem Fits.cpScatter d p k g : Fits.Statement (.cpScatter d p k g) :=
  fits_of rfl (by omega) (by have := ktagBits_lt k; omega)
theorem Fits.cpDecomp d p k g : Fits.Statement (.cpDecomp d p k g) :=
  fits_of rfl (by omega) (by have := ktagBits_lt k; omega)
theorem Fits.fifoFeed d p k g : Fits.Statement (.fifoFeed d p k g) :=
  fits_of rfl (by omega) (by have := ktagBits_lt k; omega)
theorem Fits.agPort d p k g : Fits.Statement (.agPort d p k g) :=
  fits_of rfl (by omega) (by have := ktagBits_lt k; omega)
theorem Fits.send d ch b : Fits.Statement (.send d ch b) :=
  fits_of rfl (by omega) (by omega)
theorem Fits.sendRaw d ch b : Fits.Statement (.sendRaw d ch b) :=
  fits_of rfl (by omega) (by omega)
theorem Fits.recv d ch : Fits.Statement (.recv d ch) :=
  fits_of rfl (by omega) (by omega)
theorem Fits.tryrecv d ch : Fits.Statement (.tryrecv d ch) :=
  fits_of rfl (by omega) (by omega)
theorem Fits.alt d a : Fits.Statement (.alt d a) :=
  fits_of rfl (by omega) (by omega)
theorem Fits.chGrant d ch b : Fits.Statement (.chGrant d ch b) :=
  fits_of rfl (by omega) (by omega)
theorem Fits.chClose ch : Fits.Statement (.chClose ch) :=
  fits_of rfl (by omega) (by omega)
theorem Fits.waitlt k n : Fits.Statement (.waitlt k n) :=
  fits_of rfl (by omega) (by omega)
theorem Fits.waitltX k b : Fits.Statement (.waitltX k b) :=
  fits_of rfl (by omega) (by omega)
theorem Fits.kRd d k : Fits.Statement (.kRd d k) :=
  fits_of rfl (by omega) (by omega)
theorem Fits.kAdd k b : Fits.Statement (.kAdd k b) :=
  fits_of rfl (by omega) (by omega)
theorem Fits.msgSend d a b : Fits.Statement (.msgSend d a b) :=
  fits_of rfl (by omega) (by omega)
theorem Fits.msgEnd : Fits.Statement (.msgEnd) :=
  fits_of rfl (by omega) (by omega)
theorem Fits.spawn d a : Fits.Statement (.spawn d a) :=
  fits_of rfl (by omega) (by omega)
theorem Fits.spawnTree d a b : Fits.Statement (.spawnTree d a b) :=
  fits_of rfl (by omega) (by omega)
theorem Fits.dec d a : Fits.Statement (.dec d a) :=
  fits_of rfl (by omega) (by omega)
theorem Fits.taskIns d : Fits.Statement (.taskIns d) :=
  fits_of rfl (by omega) (by omega)
theorem Fits.scopeOpen d a : Fits.Statement (.scopeOpen d a) :=
  fits_of rfl (by omega) (by omega)
theorem Fits.scopeId d a : Fits.Statement (.scopeId d a) :=
  fits_of rfl (by omega) (by omega)
theorem Fits.cancel d a b k : Fits.Statement (.cancel d a b k) :=
  fits_of rfl (by omega) (by have := ctagBits_lt k; omega)
theorem Fits.cancelWait d a : Fits.Statement (.cancelWait d a) :=
  fits_of rfl (by omega) (by omega)
theorem Fits.killHold : Fits.Statement (.killHold) :=
  fits_of rfl (by omega) (by omega)
theorem Fits.killOpen d : Fits.Statement (.killOpen d) :=
  fits_of rfl (by omega) (by omega)
theorem Fits.barJoin d a : Fits.Statement (.barJoin d a) :=
  fits_of rfl (by omega) (by omega)
theorem Fits.barArrive d a : Fits.Statement (.barArrive d a) :=
  fits_of rfl (by omega) (by omega)
theorem Fits.barWait d a b : Fits.Statement (.barWait d a b) :=
  fits_of rfl (by omega) (by omega)
theorem Fits.barLeave d a : Fits.Statement (.barLeave d a) :=
  fits_of rfl (by omega) (by omega)
theorem Fits.gangSync d : Fits.Statement (.gangSync d) :=
  fits_of rfl (by omega) (by omega)
theorem Fits.endTask a : Fits.Statement (.endTask a) :=
  fits_of rfl (by omega) (by omega)
theorem Fits.selCfg a : Fits.Statement (.selCfg a) :=
  fits_of rfl (by omega) (by omega)
theorem Fits.selMask a : Fits.Statement (.selMask a) :=
  fits_of rfl (by omega) (by omega)
theorem Fits.selDead a b : Fits.Statement (.selDead a b) :=
  fits_of rfl (by omega) (by omega)
theorem Fits.topk d a b k : Fits.Statement (.topk d a b k) :=
  fits_of rfl (by omega) (by omega)
theorem Fits.topkMore d a b k : Fits.Statement (.topkMore d a b k) :=
  fits_of rfl (by omega) (by omega)
theorem Fits.selRes d a : Fits.Statement (.selRes d a) :=
  fits_of rfl (by omega) (by omega)
theorem Fits.selWait : Fits.Statement (.selWait) :=
  fits_of rfl (by omega) (by omega)
theorem Fits.csrrd d csr : Fits.Statement (.csrrd d csr) :=
  fits_of rfl (by omega) (by omega)
theorem Fits.csrrw d a csr : Fits.Statement (.csrrw d a csr) :=
  fits_of rfl (by omega) (by omega)
theorem Fits.csrrs d a csr : Fits.Statement (.csrrs d a csr) :=
  fits_of rfl (by omega) (by omega)
theorem Fits.csrrc d a csr : Fits.Statement (.csrrc d a csr) :=
  fits_of rfl (by omega) (by omega)
theorem Fits.tret : Fits.Statement (.tret) :=
  fits_of rfl (by omega) (by omega)
theorem Fits.idle : Fits.Statement (.idle) :=
  fits_of rfl (by omega) (by omega)
theorem Fits.tlbInv a b : Fits.Statement (.tlbInv a b) :=
  fits_of rfl (by omega) (by omega)
theorem Fits.guardWr d a b : Fits.Statement (.guardWr d a b) :=
  fits_of rfl (by omega) (by omega)
theorem Fits.frameWr d a b : Fits.Statement (.frameWr d a b) :=
  fits_of rfl (by omega) (by omega)
theorem Fits.slotSave d a : Fits.Statement (.slotSave d a) :=
  fits_of rfl (by omega) (by omega)
theorem Fits.slotRestore d a b : Fits.Statement (.slotRestore d a b) :=
  fits_of rfl (by omega) (by omega)

end Sys2Proof.Laws
end

