-- ==== Sys2Proof/Safety.lean ====
section
/-! DEFINITION. What counts as a safe run. -/

namespace Sys2Proof.Machine

/-- The memory keeps its canonical form (State.mem). -/
def State.Canonical (s : State) : Prop := Memory.wf s.mem

end Sys2Proof.Machine
end

