-- ==== Sys2Proof/Tests/Slice0.lean ====
section
/-! SUPPORT. Tests: ill-formed terms, words of the spec's encodings, small steps with results from the spec's own examples, and for each
statement with hypotheses a state and operands that meet them. -/

namespace Sys2Proof.Tests

open Sys2Proof.Machine Sys2Proof.Claims

/-! ## Well-formedness: a term that each check refuses, and one that it takes -/

theorem test_wf_special_register : (Instr.rdsr 5 0x006).wf = false ∧ (Instr.wrsr 5 0x016).wf = false ∧ (Instr.rdsr 5 0x015).wf = true := by
  decide
theorem test_wf_loop : (Instr.loop 7 0).wf = false ∧ (Instr.loopI 7 0).wf = false ∧ (Instr.loop 7 5).wf = true := by decide
theorem test_wf_load_size : (Instr.ldAcq 7 8 3 7).wf = false ∧ (Instr.ldAcq 7 8 3 6).wf = true := by decide
theorem test_wf_store_size : (Instr.stRel 7 8 3 5).wf = false ∧ (Instr.stRel 7 8 3 7).wf = false ∧ (Instr.stRel 7 8 3 6).wf = true := by
  decide
theorem test_wf_level : (Instr.amoAdd 5 6 true .none 3).wf = false ∧ (Instr.amoAdd 5 6 true .rel 3).wf = true := by decide
theorem test_wf_operand_pair : (Instr.amoCas 31 6 true .rel 3).wf = false ∧ (Instr.amoHist 31 6 .rel 3).wf = false ∧
    (Instr.atomInv 31 6 20 .rel 3).wf = false ∧ (Instr.amoCas 30 6 true .rel 3).wf = true := by decide
theorem test_wf_atom_number : (Instr.atomInv 5 6 15 .rel 3).wf = false ∧ (Instr.atomInv 5 6 16 .rel 3).wf = true := by decide
theorem test_wf_perm2 : (Instr.vperm2 1 31 2 none).wf = false ∧ (Instr.vperm2 1 30 2 none).wf = true := by decide
theorem test_wf_part : (Instr.vcvt 6 4 13 none 2 .rne).wf = false ∧ (Instr.vcvt 6 4 13 none 1 .rne).wf = true ∧
    (Instr.vnarrow 6 4 6 none 2).wf = false := by decide
theorem test_wf_vector_store : (Instr.vst 0 9 none 2).wf = false ∧ (Instr.vsts 0 9 1 none 2).wf = false ∧
    (Instr.vscatter 0 9 1 none 2).wf = false ∧ (Instr.vst 0 9 none 3).wf = true := by decide
theorem test_wf_threshold : (Instr.waitlt 2 0).wf = false ∧ (Instr.waitlt 2 1).wf = true := by decide

/-! ## Decoding: words written out from the spec's encodings -/

/-- A word decodes to an instruction. -/
abbrev Decodes (w : Nat) (i : Instr) : Prop := decode w = .ok i

theorem test_decode_scalar : Decodes 0x01319000 (.add 6 6 8) ∧ Decodes 0x08380040 (.addi 7 0 16) ∧ Decodes 0x0829_4020 (.addi 5 5 8) :=
  ⟨by decide, by decide, by decide⟩
theorem test_decode_control : Decodes 0x19400002 (.bnez 8 2) ∧ Decodes 0x2101C014 (.loop 7 5) ∧ Decodes 0x20000002 .yield :=
  ⟨by decide, by decide, by decide⟩
theorem test_decode_special : Decodes 0x0F00_0011 (.wrsr 0 4) ∧ Decodes 0x0F28004C (.rdsr 5 0x13) ∧ Decodes 0x0F01C00B (.clrsr 7 2) :=
  ⟨by decide, by decide, by decide⟩
theorem test_decode_memory : Decodes 0x28284006 (.ld 5 1 0) ∧ Decodes 0x29304046 (.st 6 1 8) ∧ Decodes 0x2C298073 (.amoAdd 5 6 true .rel 3) ∧
    Decodes 0x2C000001 (.fence 1) := ⟨by decide, by decide, by decide, by decide⟩
theorem test_decode_vector : Decodes 0x46510006 (.vredfadd 10 4 none) ∧ Decodes 0x47311750 (.vcvt 6 4 11 (some 2) 2 .rne) ∧
    Decodes 0x4E024004 (.vst 0 9 none 0) := ⟨by decide, by decide, by decide⟩
theorem test_decode_matrix : Decodes 0x60284200 (.mma 5 1 1) ∧ Decodes 0x622A4000 (.accClr 5 9) ∧ Decodes 0x632A9600 (.accCvt 5 10 11 .rne) ∧
    Decodes 0x63AD4010 (.precI 21 21 0) := ⟨by decide, by decide, by decide, by decide⟩
theorem test_decode_streams : Decodes 0x71298880 (.cpGather 5 6 (some 2) 1) ∧ Decodes 0x75008200 (.waitlt 2 1) ∧ Decodes 0x74980E01 (.sendRaw 19 0 7) :=
  ⟨by decide, by decide, by decide⟩
theorem test_decode_tasks : Decodes 0x81298E72 (.cancel 5 6 7 (some 3)) ∧ Decodes 0x82BE6E02 (.barWait 23 25 23) ∧ Decodes 0x80D00003 (.taskIns 26) :=
  ⟨by decide, by decide, by decide⟩
theorem test_decode_select : Decodes 0x842AD833 (.topk 5 11 12 3) ∧ Decodes 0x84025402 (.selDead 9 10) := ⟨by decide, by decide⟩
theorem test_decode_system : Decodes 0xF0080401 (.csrrd 1 0x101) ∧ Decodes 0xF0004481 (.csrrw 0 1 0x101) ∧ Decodes 0xF1014C02 (.tlbInv 5 6) :=
  ⟨by decide, by decide, by decide⟩
theorem test_decode_reserved : decode 0x0600_0000 = .error .reservedMajor ∧ decode 0x0100_000F = .error .unassigned ∧
    decode 0x0100_0010 = .error .unassigned := ⟨by decide, by decide, by decide⟩

/-! ## Witnesses: for each statement with hypotheses a state and operands that meet them -/

/-- A task in slot 0 of tile 0, in USER mode, every resource granted, no register awaited. -/
def base : State := State.reset.placeWord 0x01319000
/-- The same in SUPER mode. -/
def baseSuper : State := State.reset.placeWord 0xF1000000
/-- A task in slot 0 of the S-tile 52. -/
def baseSel : State := { State.reset.placeWord 0x84000000 with cur := 208 }
/-- A slot of such a state changed. -/
def withMe (s : State) (f : Slot → Slot) : State := s.onSlot s.cur f
/-- Nothing of the slot awaits a result, and the common checks pass. -/
theorem ready {s : State} {f : Form} {rs : List Reg} (h : s.anyBusy s.cur (me s) rs = false ∧ (me s).formCause (tileOfSlot s.cur) f = none) :
    Ready s f rs := h

theorem witness_DecodeEncode : (Instr.add 6 6 8).wf = true ∧ encode (.add 6 6 8) = some 0x01319000 := by decide
theorem witness_AluResult : aluRow (.add 6 6 8) (me base) = some ([6, 8, 6], 6, 0) ∧ Ready base {} [6, 8, 6] := ⟨by decide, ready (by decide)⟩
theorem witness_AluResult_saturating : satRow (.adds 6 6 8) (me (withMe base (fun t => (t.setX 6 0x7FFFFFFFFFFFFFFF).setX 8 1))) = some ([6, 8, 6], 6, 2 ^ 63) ∧
    Ready (withMe base (fun t => (t.setX 6 0x7FFFFFFFFFFFFFFF).setX 8 1)) {} [6, 8, 6] := ⟨by decide, ready (by decide)⟩
theorem witness_BitFields : (63 : Nat) < 64 := by decide
theorem witness_LateResult : mulRow (.mul 6 6 8) (me base) = some (0, [6, 8, 6], 6, 0, 0) ∧ Ready base {} [6, 8, 6] ∧
    (floatRow (.fadd 6 6 8) (me base) 0).map (·.2.2.1) = some 6 := ⟨by decide, ready (by decide), by decide⟩
/-- A slot whose divider is occupied. -/
def dividing : State := withMe base (fun t => { t with results := [{ bank := .main, reg := 9, value := 7, flags := 8, unit := 1 }] })
theorem witness_LateResult_occupied : (mulRow (.div 6 6 8) (me dividing)).map (·.1) = some 1 ∧ Ready dividing {} [6, 8, 6] ∧
    (me dividing).results.any (fun e => e.unit == 1) = true := ⟨by decide, ready (by decide), by decide⟩
theorem witness_ScalarResultWrites : (dividing.slot 0).results = { bank := .main, reg := 9, value := 7, flags := 8, unit := 1 } :: [] := by decide
theorem witness_SpecialRegisters : srValue base 0x013 = some 0 ∧ Ready base {} [5] ∧ FlagsReady (me base) ∧
    srForm (.wrsr 6 0) (me (withMe base (fun t => t.setX 6 0x1315))) 0 = some (0, 6, 0x1315) ∧ (0x1315 : Word) &&& ~~~0x33F3F = 0 :=
  ⟨by decide, ready (by decide), ⟨by decide, by decide, by decide, by decide, by decide, by decide, by decide⟩, by decide, by decide⟩
theorem witness_SpecialRegisters_reserved : srForm (.wrsr 6 0) (me (withMe base (fun t => t.setX 6 0x41315))) 0 = some (0, 6, 0x41315) ∧
    (0x41315 : Word) &&& ~~~0x33F3F ≠ 0 ∧ srForm (.wrsr 6 1) (me (withMe base (fun t => t.setX 6 5))) 0 = some (1, 6, 5) := by decide
theorem witness_SpecialRegisters_flags_wait : ¬FlagsReady (me dividing) ∧ Ready dividing {} [7] ∧ dividing.engineStuck (me dividing) = false :=
  ⟨fun h => by have := h.2.2.2.2.2.2; revert this; decide, ready (by decide), by decide⟩
theorem witness_Literals : base.kernelOf (me base) = some (wordKernel 0x01319000) ∧ (wordKernel 0x01319000).literals.length ≤ (0 : BitVec 14).toNat ∧
    Ready base {} [5] := ⟨by decide, by decide, ready (by decide)⟩
theorem witness_Transfers : branchRow (.beqz 8 2) (me base) = some (8, 2, true) ∧ Ready base {} [8] ∧ (me base).flow.atEnd = false :=
  ⟨by decide, ready (by decide), by decide⟩
/-- A slot at the last instruction of a loop body. -/
def atLoopEnd : State := withMe base (fun t => { t with main := { t.main with loops := [{ first := 0, last := 0 }] } })
theorem witness_Transfers_at_end : (me atLoopEnd).flow.atEnd = true ∧ Ready atLoopEnd {} [8] := ⟨by decide, ready (by decide)⟩
theorem witness_LoopPush : loopRow (.loop 7 5) (me base) = some ([7], 0, 5) ∧ Ready base {} [7] ∧ (me base).flow.loops.length < 2 ∧
    loopRow (.loopI 31 4095) (me base) = some ([], 31, 4095) := ⟨by decide, ready (by decide), by decide, by decide⟩
theorem witness_LoopStack : (me atLoopEnd).flow.loops = [{ first := 0, last := 0 }] ∧ (me atLoopEnd).flow.pc = 0 ∧ (me atLoopEnd).flow.lc0 = 0 := by
  decide
theorem witness_SoftwareTraps : Ready base {} [] ∧ Ready base { noHandler := true } [] ∧ base.messageWaits base.cur = false :=
  ⟨ready (by decide), ready (by decide), by decide⟩
/-- A BLOCKED slot, owner of an inbox with a message. -/
def messaged : State := (withMe base (fun t => { t with state := .blocked, wait := some (.idle 0) })).onTile 0 (fun t =>
  { t with inbox := { t.inbox with owner := some 0, arrived := 1 } })
theorem witness_HandlerEntryState : messaged.messageWaits 0 = true ∧ messaged.kernel (messaged.slot 0).part (messaged.slot 0).image (messaged.slot 0).kernel =
    some (wordKernel 0x01319000) ∧ (messaged.slot 0).state = .blocked ∧ (messaged.slot 0).killable = false ∧ (messaged.slot 0).freeze = none := by decide
/-- A partition with a trap kernel. -/
def trapping : State := base.onPart 0 (fun p => { p with partinfo := 0x10000, trapImage := 1 })
theorem witness_SuperTrapEntry : (trapping.slot 0).status.super = false ∧ trapping.inLockstep (trapping.slot 0) = false ∧
    (trapping.part 0).trapdel.toNat / 2 ^ (2 * 13) % 4 = 0 ∧ (trapping.part 0).partinfo.getLsbD 16 = true ∧
    trapping.kernel 0 1 (bits (trapping.part 0).partinfo 15 0) = some (wordKernel 0x01319000) ∧ (trapping.part 0).trapImage = 1 ∧
    trapping.delivery 0 13 = .super := by decide
/-- A slot in the trap bank. -/
def inTrap : State := withMe baseSuper (fun t => { t with status := { t.status with tbank := true }, epc := 8 })
theorem witness_TrapReturn : Ready inTrap { privileged := true } [] ∧ (me inTrap).status.tbank = true ∧ inTrap.inLockstep (me inTrap) = false ∧
    Ready baseSuper { privileged := true } [] ∧ (me baseSuper).status.tbank = false := ⟨ready (by decide), by decide, by decide, ready (by decide), by decide⟩

/-- The window address of an offset in the scratchpad of a tile of package 0. -/
def win (gt off : Nat) : Word := BitVec.ofNat 64 (0xFFFE * 2 ^ 48 + gt * 2 ^ 30 + off)
/-- `base` with X[1] at offset 64 of its own scratchpad. -/
def pointing : State := withMe base (fun t => t.setX 1 (win 0 64))
theorem portFree {s : State} {rel : Bool} (h : ((s.outstanding s.cur).filter (fun r => r.kind.counted)).length < 16 ∧
    (∀ r ∈ s.outstanding s.cur, r.acq = false) ∧ s.replyRoom (tileOfSlot s.cur) = true ∧ s.retryRoom (s.slotSource s.cur) = true ∧
    (rel = true → s.accessesPerformed s.cur = true)) : PortFree s rel := h
theorem declared {t : Slot} {l : Option Level} (h : ∀ k, l = some k → (t.levels.get k).getLsbD 7 = true) : Declared t l := h

theorem witness_AccessAccepted : (Instr.ld 5 1 0).wf = true ∧ (memRow (.ld 5 1 0) (me pointing)).map (·.addr) = some (win 0 64) ∧
    Ready pointing {} [1, 5] ∧ PortFree pointing false ∧ Declared (me pointing) none ∧
    pointing.checkAccess 0 .read 8 (win 0 64) = .ok (.tile 0 64) :=
  ⟨by decide, by decide, ready (by decide), portFree (by decide), declared (by decide), by decide⟩
theorem witness_AccessAccepted_release : (memRow (.stRel 5 1 3 6) (me pointing)).map (fun q => (q.addr, q.rel, q.level)) = some (win 0 64, true, some 3) ∧
    PortFree pointing true ∧ Declared (me pointing) (some 3) ∧ pointing.checkAccess 0 .write 8 (win 0 64) = .ok (.tile 0 64) :=
  ⟨by decide, portFree (by decide), declared (by decide), by decide⟩
theorem witness_AccessAccepted_hist : Ready pointing {} [5, 1, 6] ∧ (atomRowB (me pointing) 5 1 11 4 .none 0).addr = win 0 64 ∧
    PortFree pointing false ∧ pointing.checkAccess 0 (.atomic 11) 4 (win 0 64) = .ok (.tile 0 64) ∧
    win 0 64 + 4 * BitVec.ofNat 64 (((me pointing).x 5).toNat % 65536) = win 0 64 :=
  ⟨ready (by decide), by decide, portFree (by decide), by decide, by decide⟩
/-- A partition with one valid custom atomic function. -/
def customAtom : State := pointing.onPart 0 (fun p => { p with atomfn := vset p.atomfn 4 3 })
theorem witness_AccessAccepted_atomInv : ((customAtom.part 0).atomfn[20 - 16]?.getD 0).getLsbD 0 = true ∧
    ((customAtom.part 0).atomfn[21 - 16]?.getD 0).getLsbD 0 = false ∧ customAtom.checkAccess 0 (.atomic 20) 8 (win 0 64) = .ok (.tile 0 64) := by decide
theorem witness_AccessTraps : ¬Declared (me (withMe pointing (fun t => { t with levels := Vector.replicate 8 0 }))) (some 3) ∧
    pointing.checkAccess 0 .read 8 (win 0 65) = .trap 5 := ⟨fun h => absurd (h 3 rfl) (by decide), by decide⟩
theorem witness_AccessChecks : (win 0 64).toNat / 2 ^ 48 = 0xFFFE ∧ (win 0 64).toNat % 8 = 0 ∧ (pointing.tile 0).part = some (pointing.slot 0).part ∧
    (win 255 0).toNat / 2 ^ 30 % 256 = 255 ∧ (win 1 0).toNat / 2 ^ 30 % 256 % 64 < 48 ∧ (pointing.tile 1).part ≠ some 0 ∧
    (win 0 0x010FFFF8).toNat % 2 ^ 30 < 0x01100000 := by decide
/-- A translation of the page 0 of partition 0 to offset 0x1000 of die 0, readable. -/
def mapped : State := (pointing.onPart 0 (fun p => { p with ptwin := 0x10000000000 })).onTile 0 (fun t => { t with tlb := { t.tlb with entries :=
  [{ part := 0, home := 0, w0 := 1, w1 := 0x200, w2 := 0x1000 }] } })
theorem witness_AccessChecks_translated : (mapped.tile 0).tlb.lookup 0 8 = some { part := 0, home := 0, w0 := 1, w1 := 0x200, w2 := 0x1000 } ∧
    mapped.window 0 false 8 = none ∧ (8 : Word).toNat / 2 ^ 48 < 256 ∧ mapped.checkAccess 0 .read 8 8 = .ok (.dram 0 0x1008 0) := by decide
theorem witness_Fence : Ready base {} [] ∧ (me base).declares 3 = true ∧ base.accessesPerformed base.cur = true ∧ base.acquirePending base.cur = false ∧
    base.engineStuck (me base) = false := ⟨ready (by decide), by decide, by decide, by decide, by decide⟩
/-- A state from a step's outcome. -/
def after (o : Host.Outcome State Fault Refusal) : State :=
  match o with
  | .next s => s
  | _ => State.reset
/-- A load, a store and an atomic of the slot, accepted. -/
def loading : State := after (execLd 5 1 0 pointing)
/-- See `loading`. -/
def storing : State := after (execSt 1 1 0 pointing)
/-- See `loading`. -/
def adding : State := after (execAmoAdd 5 1 true .rel 3 pointing)
theorem witness_Fence_waits : storing.accessesPerformed storing.cur = false ∧ Ready storing {} [] ∧ (me storing).declares 3 = true :=
  ⟨by decide, ready (by decide), by decide⟩
theorem witness_LoadPerformed : ∃ r, loading.request 1 = some r ∧ r.id = 1 ∧ r.kind = .load 8 6 ∧ AtScratchpad loading r 8 0 64 :=
  ⟨_, rfl, rfl, rfl, rfl, rfl, rfl, by decide, by decide, by decide, by decide⟩
theorem witness_StorePerformed : ∃ r, storing.request 1 = some r ∧ r.id = 1 ∧ r.kind = .store (toBytes 8 (win 0 64).toNat) ∧
    AtScratchpad storing r 8 0 64 ∧ Memory.wf storing.mem = true := ⟨_, rfl, rfl, rfl, ⟨rfl, rfl, rfl, by decide, by decide, by decide, by decide⟩, by decide⟩
theorem witness_AtomicExecuted : ∃ r, adding.request 1 = some r ∧ r.id = 1 ∧ r.kind = .atomic 0 8 0 0 ∧ AtScratchpad adding r 8 0 64 ∧
    adding.poisoned 64 8 = false ∧ Memory.wf adding.mem = true := ⟨_, rfl, rfl, rfl, ⟨rfl, rfl, rfl, by decide, by decide, by decide, by decide⟩, by decide, by decide⟩
theorem witness_ReplyWrites : ∃ r, loading.request 1 = some r ∧ r.foreign = none ∧ r.orphan = false ∧ r.image = none ∧ r.dest = some 5 ∧
    r.kind = .load 8 6 := ⟨_, rfl, rfl, rfl, rfl, rfl, rfl⟩

/-- An entry of the vector queue of `base`. -/
def addEntry : VecEntry := VecWord.entry { op := .add, d := 6, a := 4, b := 5 } (me base) []
/-- A slot whose vector queue is full. -/
def vectorFull : State := withMe base (fun t => { t with vq := List.replicate 8 addEntry })
theorem witness_VectorIssue : (vecRow (.vadd 6 4 5 none)).map (·.1) = some [] ∧ Ready base { engine := true } [] ∧ vecFine (.vadd 6 4 5 none) (me base) ∧
    (me base).vq.length < 8 := ⟨by decide, ready (by decide), trivial, by decide⟩
theorem witness_VectorIssue_full : 8 ≤ (me vectorFull).vq.length ∧ Ready vectorFull { engine := true } [] := ⟨by decide, ready (by decide)⟩
theorem witness_VectorIssue_format : vecFine (.vcvt 6 4 14 none 1 .rne) (me base) ∧ ¬vecFine (.vcvt 6 4 15 none 0 .rne) (me base) ∧
    ¬vecFine (.vperm2 6 31 5 none) (me base) :=
  ⟨⟨by decide, by decide, by decide, 128, by decide, by decide⟩, fun h => absurd h.2.1 (by decide), fun h => h rfl⟩
/-- X[9] at the start of the slot's scratchpad. -/
def pointing9 : State := withMe base (fun t => t.setX 9 (win 0 0))
theorem witness_VectorMemoryIssue : (vecMemRow (.vst 0 9 none 0)).map (·.1) = some [9] ∧ Ready pointing9 { engine := true } [9] ∧
    (me pointing9).vq.length < 8 ∧ pointing9.acquirePending pointing9.cur = false ∧
    pointing9.checkLane 0 false true 4 none (win 0 0) = .ok (.tile 0 0) ∧ pointing9.checkLane 0 false true 4 none (win 0 252) = .ok (.tile 0 252) ∧
    pointing9.checkLane 0 false true 4 none (win 0 1) = .trap 5 := ⟨by decide, ready (by decide), by decide, by decide, by decide, by decide, by decide⟩
/-- A vector entry at the head of its slot's queue. -/
def vectorHead : State := withMe base (fun t => { t with vq := [addEntry] })
theorem witness_VectorBegin : (vectorHead.slot 0).vq = addEntry :: [] ∧ addEntry.op.isMemory = false ∧ (vectorHead.tile 0).vec.busy = none ∧
    vectorHead.enginesHold 0 = false ∧ (vectorHead.slot 0).vecHeadReady 0 addEntry = true ∧ (vectorHead.slot 3).vq = [] := by decide
/-- The unit occupied by an entry. -/
def vectorBusy : State := after (execVectorEntryBegin 0 vectorHead)
theorem witness_VectorComplete : (vectorBusy.tile 0).vec.busy = some (0, 0) ∧ vectorBusy.enginesHold 0 = false ∧
    (vectorBusy.slot 0).vbound.find? (fun p => p.serial == 0) = some addEntry ∧ addEntry.op.isLoad = false := by decide
theorem witness_VectorLanes : (laneRow .add 0 0 1 2 3 0).isSome = true ∧ permRow .lane ((me base).vecIn 0 addEntry) 0 0 63 = some 63 ∧
    relRow .ceq 1 1 0 = some true ∧ (63 : Nat) < 64 := by decide
/-- A vector load of lane 63 alone, bound. -/
def vectorLoading : State := withMe base (fun t => { t with
  vbound := [{ VecWord.entry { op := .ld, d := 6, a := 9 } (me base) [.tile 0 128] with xb := 0x8000000000000000 }] })
theorem witness_VectorLoadWrites : ∃ e, (vectorLoading.slot 0).vbound.find? (fun p => p.op.isLoad) = some e ∧
    e.targets = [128].map (fun o => .tile (0 / 4) o) ∧ e.targets.length = (setBits 64 e.xb.toNat).length ∧ vectorLoading.lostDie (dieOf 0) = false ∧
    vectorLoading.poisoned 128 4 = false := ⟨_, rfl, rfl, by decide, by decide, by decide⟩
/-- Operands of a matrix instruction in the slot's own scratchpad. -/
def matrixReady : State := withMe base (fun t => (t.setX 9 (win 0 0)).setX 11 0xE)
theorem witness_MatrixIssue : (matRow (.mma 5 0 1)).map (·.1) = some [] ∧ Ready matrixReady { engine := true, mtile := true } [] ∧
    MatGranted { op := .mma, acc := 5, qa := 0, bl := 1 } (me matrixReady) ∧ MatOperand matrixReady { op := .mma, acc := 5, qa := 0, bl := 1 } ∧
    (me matrixReady).mq.length < 4 ∧ matrixReady.acquirePending matrixReady.cur = false :=
  ⟨by decide, ready (by decide), ⟨by decide, by decide, by decide, by decide, by decide⟩, fun h => absurd h (by decide), by decide, by decide⟩
theorem witness_MatrixIssue_operand : MatOperand matrixReady { op := .accCvt, acc := 5, a := 9, b := 11 } ∧ convCause ((me matrixReady).x 11) false = none ∧
    MatGranted { op := .accCvt, acc := 5, a := 9, b := 11 } (me matrixReady) :=
  ⟨fun _ => ⟨0, 0, by decide, by decide, by decide, by decide, by decide, by decide, by decide, by decide⟩, by decide,
    ⟨by decide, by decide, by decide, by decide, by decide⟩⟩
theorem witness_MatrixIssue_fill : MatOperand matrixReady { op := .qaLd, qa := 3, a := 9 } ∧ (vget (matrixReady.tile 0).fifos 3).length < 4 :=
  ⟨fun _ => ⟨0, 0, by decide, by decide, by decide, by decide, by decide, by decide, by decide, by decide⟩, by decide⟩
theorem witness_MatrixIssue_grant : ¬MatGranted { op := .mma, acc := 5, qa := 0, bl := 1 } (me (withMe matrixReady (fun t => { t with grant := Grant.none }))) :=
  fun h => absurd (h.1 (by decide)) (by decide)
theorem witness_PrecisionAndWait : Ready base { engine := true, mtile := true } [] ∧ (me base).mq = [] ∧ (me base).mbound = [] ∧
    (me (withMe base (fun t => t.setX 6 0x40000))).x 6 &&& ~~~0x33F3F ≠ 0 := ⟨ready (by decide), by decide, by decide, by decide⟩
/-- An accumulator clear at the head of the matrix queue. -/
def clearEntry : MatEntry := MatWord.entry { op := .accClr, acc := 5, a := 9 } (me matrixReady) 0 0
/-- See `clearEntry`. -/
def matrixHead : State := withMe matrixReady (fun t => { t with mq := [clearEntry] })
theorem witness_MatrixBind : (matrixHead.slot 0).mq = clearEntry :: [] ∧ (matrixHead.tile 0).mat.busy = none ∧ matrixHead.enginesHold 0 = false ∧
    matrixHead.matHeadTrap 0 (matrixHead.slot 0) = none ∧ matrixHead.matHeadReady 0 (matrixHead.slot 0) clearEntry = true ∧
    matrixHead.matPoisoned 0 (matrixHead.slot 0) clearEntry = false ∧ (matrixHead.slot 3).mq = [] ∧ matrixHead.matCost 0 (matrixHead.slot 0) clearEntry ≤ 256 ∧
    matrixHead.matTarget clearEntry = .tile 0 0 ∧ matrixHead.lostDie (dieOf 0) = false := by decide
/-- The array occupied by an entry. -/
def matrixBusy (e : MatEntry) : State := (withMe matrixReady (fun t => { t with mbound := [e] })).onTile 0 (fun t =>
  { t with mat := { t.mat with busy := some (0, e.serial) } })
theorem witness_MatrixComplete : Occupies (matrixBusy clearEntry) 0 0 clearEntry ∧ Memory.wf (matrixBusy clearEntry).mem = true ∧ clearEntry.acc < 64 :=
  ⟨⟨by decide, by decide, by decide, by decide⟩, by decide, by decide⟩
/-- A fill from the slot's scratchpad. -/
def fillEntry : MatEntry := MatWord.entry { op := .blLd, bl := 3, a := 9 } (me matrixReady) 0 0
theorem witness_MatrixComplete_fill : Occupies (matrixBusy fillEntry) 0 0 fillEntry ∧ (matrixBusy fillEntry).matTarget fillEntry = .tile 0 0 ∧
    (matrixBusy fillEntry).lostDie (dieOf 0) = false := ⟨⟨by decide, by decide, by decide, by decide⟩, by decide, by decide⟩
/-- An operand image of one BIN element: VER, ROWS and COLS are 1. -/
def unitImage : List Host.Cell := [(1, 1), (2, 1), (4, 1)]
/-- A product of two such images. -/
def productEntry : MatEntry := MatWord.entry { op := .mma, acc := 63, qa := 3, bl := 3 } (me matrixReady) 0 0
/-- See `productEntry`. -/
def multiplying : State := (matrixBusy productEntry).onTile 0 (fun t => { t with
  fifos := vset t.fifos 3 [{ fill := 1, full := true, image := unitImage, poison := false }]
  latches := vset t.latches 3 { image := unitImage, poison := false } })
theorem witness_MatrixComplete_product : Occupies multiplying 0 0 productEntry ∧ (∃ p, multiplying.planProduct 0 (multiplying.slot 0) productEntry = .ok p ∧
    p.ad.rows ≤ 32 ∧ (p.latch 0).2.rows ≤ 32) ∧ ∀ i, productEntry.latch i = productEntry.latch 0 :=
  ⟨⟨by decide, by decide, by decide, by decide⟩, ⟨_, rfl, by decide, by decide⟩, fun _ => rfl⟩

/-- The bytes of a stream parameter block. -/
def blockBytes (kind flags len : Nat) (src dst res : Word) (n : Nat) (sstr : Word) : Bytes :=
  toBytes 4 (kind + 256 * flags) ++ toBytes 4 len ++ toBytes 8 src.toNat ++ toBytes 8 dst.toNat ++ toBytes 8 res.toNat ++ toBytes 8 n ++
  toBytes 8 sstr.toNat ++ List.replicate 16 0
/-- `pointing` with bytes at X[1], offset 64 of the scratchpad. -/
def holding (bs : Bytes) : State := { pointing with mem := Memory.write pointing.mem 64 bs }
/-- A CP.FILL of 16 bytes at offset 248. -/
def fillBlock : Bytes := blockBytes 3 0 16 0 (win 0 248) 0 0 0x0807060504030201
/-- See `fillBlock`. -/
def filling : State := holding fillBlock
theorem witness_EngineAccepted : engineRow (.cpFill 5 1 (some 3) 2) = some (5, 1, some 3, 2, 3) ∧ Ready filling { engine := true } [1, 5] ∧
    OwnBlock filling 1 64 ∧ (me filling).grant.ag.getLsbD 2 = true ∧ (me filling).grant.k.getLsbD 3 = true ∧ (vget (filling.tile 0).gens 2).queue = [] ∧
    filling.counter 0 3 ≠ 65535 ∧ filling.storePending 0 (win 0 64).toNat 64 = false ∧ filling.acquirePending 0 = false ∧
    filling.poisoned 64 64 = false ∧ filling.blockCause (me filling) 0 3 (Block.ofBytes (filling.readMem 64 64)) = none :=
  ⟨rfl, ready (by decide), ⟨by decide, by decide, by decide, by decide, by decide⟩, by decide, by decide, by decide, by decide, by decide, by decide,
    by decide, by decide⟩
/-- A FIFO.FEED of 64 bytes into FIFO 3. -/
def feeding : State := holding (blockBytes 7 0 0 (win 0 0x1000) 3 0 1 64)
theorem witness_EngineAccepted_feed : feeding.blockCause (me feeding) 0 7 (Block.ofBytes (feeding.readMem 64 64)) = none ∧
    (vget (feeding.tile 0).fifos 3).length < 4 := by decide
theorem witness_EngineAccepted_grant : (me (withMe filling (fun t => { t with grant := Grant.none }))).grant.ag.getLsbD 2 = false ∧
    Ready (withMe filling (fun t => { t with grant := Grant.none })) { engine := true } [1, 5] := ⟨by decide, ready (by decide)⟩
/-- The command at the head of generator 2. -/
def filled : State := after (execCpFill 5 1 (some 3) 2 filling)
theorem witness_EngineSegments : ∃ c, Runs filled 0 2 c [] ∧ c.kind = 3 ∧ c.progress = 0 ∧ (Block.ofBytes c.block).dst = spad filled 0 248 ∧
    (Block.ofBytes c.block).len = 16 ∧ (filled.tile 0).part = some c.part ∧ filled.lostDie (dieOf 0) = false ∧ 256 * c.progress - 248 % 256 < 16 :=
  ⟨_, ⟨by decide, rfl, by decide, by decide, by decide, by decide⟩, by decide, by decide, by decide, by decide, by decide, by decide, by decide⟩
/-- A CP of 16 bytes. -/
def copying : State := after (execCp 5 1 none 2 (holding (blockBytes 1 0 16 (win 0 64) (win 0 248) 0 0 0)))
theorem witness_EngineSegments_copy : ∃ c, Runs copying 0 2 c [] ∧ c.kind = 1 ∧ (Block.ofBytes c.block).src = spad copying 0 64 ∧
    (Block.ofBytes c.block).dst = spad copying 0 248 ∧ ¬(64 < 248 ∧ 248 < 64 + (Block.ofBytes c.block).len) ∧ copying.poisoned 64 8 = false :=
  ⟨_, ⟨by decide, rfl, by decide, by decide, by decide, by decide⟩, by decide, by decide, by decide, by decide, by decide⟩
/-- The copy once both segments are done. -/
def copied : State := after (execEngineSegment 0 2 [] false (after (execEngineSegment 0 2 [] false copying)))
theorem witness_EngineSegments_done : ∃ c, Runs copied 0 2 c [] ∧ c.kind = 1 ∧ (Block.ofBytes c.block).len ≤ 256 * c.progress - 248 % 256 :=
  ⟨_, ⟨by decide, rfl, by decide, by decide, by decide, by decide⟩, by decide, by decide⟩
/-- A fill with a record and a message. -/
def recording : State := withGen (after (execCpFill 5 1 (some 3) 2 (holding (blockBytes 3 3 16 0 (win 0 248) (win 0 512) 0 1)))) 
where withGen (s : State) : State := s.onGen 0 2 (fun q => { q with queue := q.queue.map (fun c => { c with code := some 0 }) })
theorem witness_EngineCompletes : ∃ c, (vget (recording.tile 0).gens 2).queue = [c] ∧ recording.genSaving 0 2 = false ∧ c.code = some 0 ∧
    recording.engineWrites 0 2 c = false ∧ c.recorded = false ∧ (Block.ofBytes c.block).rec_ = true ∧ (Block.ofBytes c.block).res = spad recording 0 512 :=
  ⟨_, rfl, by decide, by decide, by decide, by decide, by decide, by decide⟩
/-- The same once its record is written. -/
def recorded : State := after (execEngineComplete 0 2 recording)
theorem witness_EngineCompletes_recorded : ∃ c, (vget (recorded.tile 0).gens 2).queue = [c] ∧ recorded.genSaving 0 2 = false ∧ c.code = some 0 ∧
    recorded.engineWrites 0 2 c = false ∧ c.recorded = true ∧ c.inner = false ∧ c.channel = none :=
  ⟨_, rfl, by decide, by decide, by decide, by decide, by decide, by decide⟩
/-- A receiver endpoint, channel 4 of tile 0, with the tokens given. -/
def receiving (manual : Bool) (tokens : List QueuedToken) : State := pointing.onTile 0 (fun t => { t with
  chans := vset t.chans 4 { vget t.chans 4 with side := .receiver, state := .opened, manual := manual, depth := 1, entryBeats := 2, qoff := 0x2000
                                                peer := some (0, 1, 5), tokens := tokens } })
/-- A complete token. -/
def token (kind : TokenKind) : QueuedToken := { seq := 0, kind := kind, beats := 1, tail := true, time := 0 }
/-- An AG.PORT command on channel 4. -/
def porting (tokens : List QueuedToken) : State := (receiving true tokens).onTile 0 (fun t => { t with
  chans := vset t.chans 4 { vget t.chans 4 with heldBy := some 2 }
  gens := vset t.gens 2 { ticket := 1, queue := [{ (default_ : EngineCmd) with kind := 8, block := blockBytes 8 0 0 4 0 0 0 0 }] } })
where default_ : EngineCmd := { kind := 8, block := [], ticket := 1, k := none, super := false, slot := 0, task := (me pointing).task, part := 0
                                started := true, progress := 0, done := 0, discarded := 0, pois := false, stop := none, code := none, fill := none
                                ctx := none, row := 0, index := none, seg := 0, inner := false, recorded := false }
theorem witness_EngineCompletes_port : (∃ c, (vget ((porting []).tile 0).gens 2).queue = [c] ∧ c.kind = 8 ∧ c.code = none ∧
    bits (fieldW c.block 8 8) 3 0 = 4 ∧ (porting []).portRequest c ((porting []).readMem 0x2000 64) = false) ∧ ((porting []).chan 0 4).tokens = [] ∧
    ((porting [token .endTok]).chan 0 4).tokens = [token .endTok] ∧ ((porting [token .message]).chan 0 4).manual = true ∧
    (porting [token .message]).genSaving 0 2 = false ∧ (porting [token .message]).poisoned 0x2000 64 = false :=
  ⟨⟨_, rfl, by decide, by decide, by decide, by decide⟩, by decide, by decide, by decide, by decide, by decide⟩
theorem witness_Receives : Ready (receiving true [token .data]) { noHandler := true } [5] ∧ Ready (receiving true [token .data]) {} [5] ∧
    Holds (receiving true [token .data]) 4 .receiver ∧ ((receiving true [token .data]).chan 0 4).held = none ∧
    ((receiving true [token .data]).chan 0 4).ended = none ∧ ((receiving true [token .data]).chan 0 4).tokens = token .data :: [] ∧
    ((receiving true [token .endTok]).chan 0 4).tokens = token .endTok :: [] ∧ ((receiving true []).chan 0 4).headReady = false :=
  ⟨ready (by decide), ready (by decide), ⟨by decide, by decide, by decide⟩, by decide, by decide, by decide, by decide, by decide⟩
/-- The mask of channel 4 in X[6]. -/
def alternating (tokens : List QueuedToken) : State := withMe (receiving true tokens) (fun t => t.setX 6 16)
theorem witness_Receives_alt : Ready (alternating [token .data]) { noHandler := true } [6, 5] ∧ (me (alternating [token .data])).x 6 = BitVec.ofNat 64 (2 ^ 4) ∧
    Holds (alternating [token .data]) 4 .receiver ∧ ((alternating [token .data]).chan 0 4).headReady = true ∧
    ((alternating []).chan 0 4).headReady = false := ⟨ready (by decide), by decide, ⟨by decide, by decide, by decide⟩, by decide, by decide⟩
/-- A sender endpoint in a state, and a token's first 64 bytes at X[1]. -/
def sending (st : EndState) (bs : Bytes) : State := (holding bs).onTile 0 (fun t => { t with
  chans := vset t.chans 4 { vget t.chans 4 with side := .sender, state := st, depth := 1, entryBeats := 2, peer := some (0, 1, 5), allowance := 2 } })
theorem witness_Sends : Ready (sending .opened []) { noHandler := true } [1, 5] ∧ Holds (sending .opened []) 4 .sender ∧ OwnBlock (sending .opened []) 1 64 ∧
    (sending .opened []).checkAccess 0 .read 64 (win 0 64) = .ok (.tile 0 64) ∧ (sending .opened []).acquirePending 0 = false ∧
    (sending .opened []).requests = [] ∧ ((sending .closed []).chan 0 4).state = .closed ∧ ((sending .broken []).chan 0 4).state = .broken :=
  ⟨ready (by decide), ⟨by decide, by decide, by decide⟩, ⟨by decide, by decide, by decide, by decide, by decide⟩, by decide, by decide, by decide, by decide,
    by decide⟩
/-- The header of a data tile of r rows and 32 columns of BIN elements. -/
def tileHeader (r : Nat) : Bytes := [0, 1] ++ toBytes 2 r ++ toBytes 2 32 ++ List.replicate 58 0
theorem witness_Sends_headers : (Header.ofBytes (List.replicate 64 (255 : Byte))).invalid = true ∧ (Header.ofBytes (tileHeader 16)).invalid = false ∧
    (Header.ofBytes (tileHeader 16)).beats = 2 ∧ 2 ≤ ((sending .opened (tileHeader 16)).chan 0 4).entryBeats ∧
    (Header.ofBytes (tileHeader 32)).invalid = false ∧ ((sending .opened []).chan 0 4).entryBeats < (Header.ofBytes (tileHeader 32)).beats ∧
    (sending .opened (tileHeader 16)).checkAccess 0 .read 64 (win 0 64 + 64) = .ok (.tile 0 (64 + 64)) := by decide
theorem witness_Sends_units : Ready (withMe (receiving true []) (fun t => t.setX 1 0)) {} [1, 5] ∧ Holds (receiving true []) 4 .receiver ∧
    ((receiving true []).chan 0 4).returned + 0 + 0 ≤ ((receiving true []).chan 0 4).taken ∧ ((receiving true []).chan 0 4).state ≠ .broken ∧
    ((receiving true []).chan 0 4).taken < ((receiving true []).chan 0 4).returned + 1 ∧ ((receiving false []).chan 0 4).manual = false :=
  ⟨ready (by decide), ⟨by decide, by decide, by decide⟩, by decide, by decide, by decide, by decide⟩
/-- Both ends of one channel. -/
def connected : State := (sending .opened []).onTile 1 (fun t => { t with
  chans := vset t.chans 5 { vget t.chans 5 with side := .receiver, state := .opened, depth := 1, entryBeats := 1, peer := some (0, 0, 4) } })
theorem witness_Sends_close : Ready connected {} [] ∧ Holds connected 4 .sender ∧ (connected.chan 0 4).peer = some (connected.mgmt.package, 1, 5) ∧
    connected.sameChannel (connected.chan 0 4) 1 5 = true ∧ connected.accessesPerformed 0 = true :=
  ⟨ready (by decide), ⟨by decide, by decide, by decide⟩, by decide, by decide, by decide⟩
theorem witness_CountersAndMessages : (me base).grant.k.getLsbD 15 = true ∧ Ready base { noHandler := true } [] ∧ Ready base { noHandler := true } [6] ∧
    (base.counter 0 15).toNat < 1 ∧ (me base).x 6 = 0 ∧
    ((base.onTile 0 (fun t => { t with k := vset t.k 15 31 })).counter 0 15).toNat = 31 :=
  ⟨by decide, ready (by decide), ready (by decide), by decide, by decide, by decide⟩
/-- The owner of the inbox in its handler, and the next word of it in hand. -/
def handling : State := (withMe base (fun t => { t with state := .handler, inHandler := true })).onTile 0 (fun t =>
  { t with inbox := { t.inbox with owner := some 0, arrived := 1 } })
theorem witness_CountersAndMessages_end : (me handling).inHandler = true ∧ (me handling).status.tbank = false ∧ (me handling).resume = none ∧
    (handling.tile 0).inbox.arrived ≤ (handling.tile 0).inbox.taken + 1 ∧ Ready handling {} [] ∧ (me base).inHandler = false :=
  ⟨by decide, by decide, by decide, by decide, ready (by decide), by decide⟩
theorem witness_CountersAndMessages_send : Ready pointing {} [6, 1, 5] ∧ OwnBlock pointing 1 64 ∧ pointing.checkAccess 0 .read 64 (win 0 64) = .ok (.tile 0 64) ∧
    pointing.messageTarget (me pointing).part ((me pointing).x 6) = true ∧ ((me pointing).x 6).toNat % 2 ^ 18 = pointing.mgmt.package * 256 + 0 ∧
    PortFree pointing true ∧ pointing.requests = [] :=
  ⟨ready (by decide), ⟨by decide, by decide, by decide, by decide, by decide⟩, by decide, by decide, by decide, portFree (by decide), by decide⟩

theorem witness_TaskRequests_spawn : Ready pointing { engine := true } [1, 5] ∧ OwnBlock pointing 1 64 ∧ PortFree pointing true ∧
    pointing.poisoned 64 64 = false ∧ spawnReserved (pointing.readMem 64 64) = false ∧ fieldW (pointing.readMem 64 64) 24 8 = 0 ∧
    spawnReserved ((holding [0, 0, 2]).readMem 64 64) = true :=
  ⟨ready (by decide), ⟨by decide, by decide, by decide, by decide, by decide⟩, portFree (by decide), by decide, by decide, by decide, by decide⟩
/-- A spawn block with an argument image at offset 512. -/
def spawning : State := holding (List.replicate 24 0 ++ toBytes 8 (win 0 512).toNat)
theorem witness_TaskRequests_arguments : spawnReserved (spawning.readMem 64 64) = false ∧
    (fieldW (spawning.readMem 64 64) 24 8).toNat = 0xFFFE * 2 ^ 48 + spawning.mgmt.package * 2 ^ 38 + 0 * 2 ^ 30 + 512 ∧ 512 % 64 = 0 ∧
    spawning.poisoned 512 256 = false := by decide
/-- A gang of the slot alone. -/
def gang0 : Gang := { part := 0, image := 1, tmpl := 0, gidx := 0, col0 := 0, row0 := 0, leader := (me base).task, lockstep := false, fixed := false, slots := [0]
                      granted := [], ended := 0, generations := 0, clock := 7, left := [], stalled := false, resumeAt := none }
/-- `base` in a gang. -/
def ganged : State := { (withMe base (fun t => { t with gang := some 0 })) with gangs := [(0, gang0)] }
theorem witness_TaskRequests_tree : Ready ganged { engine := true } [6, 7, 5] ∧ PortFree ganged true ∧ ganged.gangOf (me ganged) = some gang0 ∧
    ganged.slotKernel 0 = some (wordKernel 0x01319000) ∧ ((me ganged).x 6).toNat % 4 = 0 ∧ ((me ganged).x 6).toNat < 4 * (wordKernel 0x01319000).code.length ∧
    base.gangOf (me base) = none := ⟨ready (by decide), portFree (by decide), by decide, by decide, by decide, by decide, by decide⟩
theorem witness_TaskRequests_scopes : Ready base { engine := true } [6, 5] ∧ PortFree base true ∧ PortFree base false ∧
    ((me base).x 6).toNat / 2 ^ 20 % 1024 = base.mgmt.package ∧ Ready base { engine := true } [6, 7, 5] ∧ (me base).x 7 = 0 ∧
    (me base).grant.k.getLsbD 15 = true ∧ base.counter 0 15 ≠ 65535 :=
  ⟨ready (by decide), portFree (by decide), portFree (by decide), by decide, ready (by decide), by decide, by decide, by decide⟩
theorem witness_TaskRequests_barriers : BarrierAt pointing 1 0 64 ∧ Ready pointing { engine := true, noHandler := true } [1, 6, 5] ∧
    pointing.acquirePending 0 = false :=
  ⟨⟨by decide, by decide, by decide, by decide, by decide, by decide, by decide⟩, ready (by decide), by decide⟩
/-- The slot's region of KILL.HOLD open, to cycle 9. -/
def held : State := withMe base (fun t => { t with hold := some 9 })
theorem witness_TaskLocal : (∃ r, myTask base = some r ∧ base.scopeOf 0 (2 ^ 20) = some r.scope) ∧ Ready base { engine := true } [5] ∧
    base.inLockstep (me base) = false ∧ (me base).hold = none ∧ (me base).expired = false ∧ (me held).hold ≠ none ∧ Ready held { engine := true } [5] ∧
    (me (withMe base (fun t => { t with expired := true }))).expired = true :=
  ⟨⟨_, rfl, by decide⟩, ready (by decide), by decide, by decide, by decide, by decide, ready (by decide), by decide⟩
/-- A scope record of partition 0. -/
def scopeRec (st : ScopeState) (parent : Option Nat) (owner : Nat) : ScopeRec := { state := st, gen := 1, part := 0, serial := 1, die := 0, parent := parent
                                                                                   depth := 2, sealed_ := true, opener := 0, cause := 1, owner := owner
                                                                                   tcancel := 0, counts := AckCounts.zero, acks := [] }
/-- Scopes 1, a child of the task's own, and 2, no descendant, beside it; X[6], X[7], X[8] their handles. -/
def nested : State := { (withMe base (fun t => ((t.setX 6 (2 ^ 20)).setX 7 (2 ^ 20 + 1)).setX 8 (2 ^ 20 + 2))) with
  scopes := base.scopes ++ [(1, scopeRec .active (some 0) 1), (2, scopeRec .active none 2)] }
theorem witness_TaskLocal_scopes : Ready nested { engine := true, noHandler := true } [7, 5] ∧ nested.scopeOf 0 ((me nested).x 6) = some 0 ∧
    nested.scopeOf 0 ((me nested).x 7) = some 1 ∧ nested.descends 1 0 = true ∧ nested.scopeOf 0 ((me nested).x 8) = some 2 ∧ nested.descends 2 0 = false ∧
    (myTask nested).map (·.scope) = some 0 ∧ (me nested).status.super = false :=
  ⟨ready (by decide), by decide, by decide, by decide, by decide, by decide, by decide, by decide⟩
theorem witness_TaskLocal_gang : Ready base { engine := true, noHandler := true } [5] ∧ base.accessesPerformed 0 = true ∧ (me base).gang = none ∧
    Ready ganged { engine := true, noHandler := true } [5] ∧ ganged.accessesPerformed 0 = true ∧ ganged.acquirePending 0 = false ∧ (me ganged).gang = some 0 :=
  ⟨ready (by decide), by decide, by decide, ready (by decide), by decide, by decide, by decide⟩
/-- `base` BLOCKED in a wait. -/
def waiting (w : Wait) : State := withMe base (fun t => { t with state := .blocked, wait := some w })
theorem witness_WaitsEnd : ((waiting (.counter 3 1)).slot 0).state = .blocked ∧ ((waiting (.counter 3 1)).slot 0).wait = some (.counter 3 1) ∧
    ((waiting (.counter 3 1)).slot 0).freeze = none ∧ ((waiting (.counter 3 1)).slot 0).killNotice = false ∧
    ((waiting (.counter 3 1)).counter 0 3).toNat < 1 ∧ 0 ≤ ((waiting (.counter 3 0)).counter 0 3).toNat ∧ (waiting (.counter 3 0)).messageWaits 0 = false ∧
    0 < ((waiting (.idle 0)).onTile 0 (fun t => { t with inbox := { t.inbox with msgEnds := 1 } }) |>.tile 0).inbox.msgEnds := by decide
/-- `waiting` with a barrier word at offset 64. -/
def barred (expect phase : Nat) : State := let s := waiting (.barrier 5 (win 0 64) 7)
  { s with mem := Memory.write s.mem 64 ({ expect := expect, arrived := 0, depart := 0, killed := 0, phase := phase, lastKilled := 0, lvl := 0, reserved := 0 } : BarrierWord).bytes }
theorem witness_WaitsEnd_barrier : (barred 1 8).barrierKey (win 0 64) = some 64 ∧ (barred 1 8).poisoned 64 16 = false ∧
    (BarrierWord.ofBytes ((barred 1 8).readMem 64 16)).valid ((barred 1 8).slot 0).levels = true ∧
    BitVec.ofNat 16 (BarrierWord.ofBytes ((barred 1 8).readMem 64 16)).phase ≠ 7 ∧
    BitVec.ofNat 16 (BarrierWord.ofBytes ((barred 1 7).readMem 64 16)).phase = 7 ∧ (barred 1 7).messageWaits 0 = false ∧
    (BarrierWord.ofBytes ((barred 0 7).readMem 64 16)).valid ((barred 0 7).slot 0).levels = false := by decide
theorem witness_WaitsEnd_scope : (({ waiting (.scope 5 1) with scopes := [(1, scopeRec .closed none 1)] } : State).scope 1).map (·.state) = some .closed ∧
    (({ waiting (.scope 5 1) with scopes := [(1, scopeRec .cancelled none 1)] } : State).scope 1).map (·.state) = some .cancelled := by decide
/-- `sending` BLOCKED in SEND.RAW. -/
def blockedSend : State := withMe (sending .opened []) (fun t => { t with
  state := .blocked, wait := some (.send 5 4 { kind := .message, bytes := List.replicate 64 1, tail := true }) })
theorem witness_WaitsEnd_send : (blockedSend.slot 0).state = .blocked ∧ (blockedSend.chan 0 4).state = .opened ∧ (blockedSend.chan 0 4).frozen = false ∧
    0 < (blockedSend.chan 0 4).allowance ∧ blockedSend.accessesPerformed 0 = true ∧ (blockedSend.chan 0 4).peer ≠ none ∧
    blockedSend.tokenRoom 0 (blockedSend.chan 0 4) = true := by decide
/-- The example of spec/10: 3 members of phase 7, two arrived; the slot's own membership as given; its request in flight. -/
def barrierReq (kind : ReqKind) (ms : List Membership) (arrived : Nat) : State :=
  let s := withMe pointing (fun t => { t with memberships := ms })
  let w : BarrierWord := { expect := 3, arrived := arrived, depart := 1, killed := 1, phase := 7, lastKilled := 0, lvl := 0, reserved := 0 }
  let r := s.accept 0 kind (win 0 64) none (some 5) false true 0
  { r.2 with mem := Memory.write r.2.mem 64 w.bytes, agenda := [] }
theorem witness_BarrierWords : ∃ q, (barrierReq .barArrive [{ addr := win 0 64, arrived := none }] 2).request 1 = some q ∧ q.id = 1 ∧ q.kind = .barArrive ∧
    (barrierReq .barArrive [{ addr := win 0 64, arrived := none }] 2).barrierKey q.addr = some 64 ∧ q.slot = 0 ∧
    Memory.wf (barrierReq .barArrive [{ addr := win 0 64, arrived := none }] 2).mem = true ∧
    (barrierReq .barArrive [{ addr := win 0 64, arrived := none }] 2).poisoned 64 16 = false ∧
    (BarrierWord.ofBytes ((barrierReq .barArrive [{ addr := win 0 64, arrived := none }] 2).readMem 64 16)).valid (me base).levels = true ∧
    (BarrierWord.ofBytes ((barrierReq .barArrive [{ addr := win 0 64, arrived := none }] 2).readMem 64 16)).arrived = 2 ∧
    ((barrierReq .barArrive [{ addr := win 0 64, arrived := none }] 2).slot 0).memberships.find? (fun m => m.addr == q.addr) = some { addr := win 0 64, arrived := none } :=
  ⟨_, rfl, rfl, rfl, by decide, rfl, by decide, by decide, by decide, by decide, by decide⟩
theorem witness_BarrierWords_others : ((barrierReq .barJoin [] 2).request 1).map (·.kind) = some .barJoin ∧
    ((barrierReq .barLeave [{ addr := win 0 64, arrived := some 7 }] 2).request 1).map (·.kind) = some .barLeave ∧
    ((barrierReq .barJoin [] 2).slot 0).memberships.length < 4 := by decide
/-- The record of the task. -/
def task0 : TaskRec := base.record 0 0
theorem witness_TaskRecords_decrement : base.taskOf (me base).task = some task0 ∧ handleDie (me base).task < 4 ∧ task0.state ≠ .ended ∧
    ((base.onRecord 0 0 (fun r => { r with count := 1, state := .waiting })).record 0 0).count ≠ 0 ∧
    (base.onRecord 0 0 (fun r => { r with state := .dead })).taskOf (me base).task = some { task0 with state := .dead } := by decide
/-- The task in END. -/
def ending : State := waiting (.ending 0)
theorem witness_TaskRecords_end : (ending.slot 0).state = .blocked ∧ (ending.slot 0).wait = some (.ending 0) ∧ ending.taskOf (ending.slot 0).task = some task0 ∧
    ending.scopeState task0.scope = .active ∧ ending.workDone 0 = true ∧ (ending.slot 0).gang = none ∧ task0.state = .running ∧
    (ending.slot 0).freeze = none := by decide
/-- The task with news of its scope's cancellation. -/
def noticed : State := withMe base (fun t => { t with killNotice := true })
theorem witness_TaskRecords_kill : (noticed.slot 0).task ≠ 0 ∧ noticed.taskOf (noticed.slot 0).task = some task0 ∧ (noticed.slot 0).killNotice = true ∧
    (noticed.slot 0).hold = none ∧ (noticed.slot 0).state ≠ .saving := by decide
/-- A request of the task in flight, in an image whose node is SPAWNONLY or not. -/
def asking (kind : ReqKind) (only : Bool) : State :=
  let s := (base.accept 0 kind 0 none (some 5) false true 0).2
  { s with agenda := [], images := s.images.map (fun m => { m with templates := m.templates.map (fun t => { t with nodes := t.nodes.map (fun n => { n with spawnOnly := only }) }) }) }
/-- The block of a SPAWN of node 0. -/
def spawnBlock : Bytes := List.replicate 64 0
theorem witness_TaskRecords_spawn : ∃ q, (asking (.spawn spawnBlock none) true).request 1 = some q ∧ q.id = 1 ∧ q.kind = .spawn spawnBlock none ∧
    (asking (.spawn spawnBlock none) true).taskOf q.task = some task0 ∧
    (((asking (.spawn spawnBlock none) true).recordTemplate task0).bind (fun t => t.nodes[field spawnBlock 0 2]?)).map (·.spawnOnly) = some true ∧
    (((asking (.spawn spawnBlock none) false).recordTemplate task0).bind (fun t => t.nodes[field spawnBlock 0 2]?)).map (·.spawnOnly) = some false ∧
    (asking (.spawn spawnBlock none) true).scopeState task0.scope = .active ∧
    q.src % 4096 / 16 / 64 = 0 := ⟨_, rfl, rfl, rfl, by decide, by decide, by decide, by decide, by decide⟩
/-- A task enters a die's Tun while the partition's share and the Tun have room. -/
theorem addTask_isSome {s : State} {die : Nat} {r : TaskRec} (h : s.tunNeed r.part die 1 0 ≤ vget (s.part r.part).tunq die)
    (h' : firstFree 0 ((s.die die).tun.filter (fun e => e.2.state != .free)) < Config.tunEntries) : (s.addTask die r).isSome = true := by
  have low : (s.freeNumber Config.tunEntries ((s.die die).tun.filter (fun e => e.2.state != .free))).1 < Config.tunEntries := by
    unfold State.freeNumber
    dsimp only
    split <;> assumption
  have same : (s.freeNumber Config.tunEntries ((s.die die).tun.filter (fun e => e.2.state != .free))).2 = s.draw.2 := rfl
  unfold State.addTask
  dsimp only
  rw [if_pos ⟨by rw [same]; exact h, low⟩]
  rfl
theorem witness_TaskRecords_room (n : Node) : ((asking (.spawn spawnBlock none) true).addTask 0
    ((asking (.spawn spawnBlock none) true).spawnedRecord task0 n spawnBlock task0.scope)).isSome = true :=
  addTask_isSome (by show (asking (.spawn spawnBlock none) true).tunNeed task0.part 0 1 0 ≤ vget ((asking (.spawn spawnBlock none) true).part task0.part).tunq 0; decide) (by decide)
theorem witness_TaskRecords_tree : ((asking (.spawnTree 0 0 1 0 0 []) false).request 1).map (·.kind) = some (.spawnTree 0 0 1 0 0 []) ∧
    (ganged.onRecord 0 0 (fun r => { r with gang := some 0 })).taskOf (me base).task = some { task0 with gang := some 0 } ∧
    ((ganged.onRecord 0 0 (fun r => { r with gang := some 0 })).kernelRec { task0 with gang := some 0 }).isSome = true ∧
    (ganged.nodeOf { task0 with gang := some 0 }).isSome = true ∧ Assoc.find ganged.gangs 0 = some gang0 ∧ (ganged.slot 0).task ≠ 0 := by decide
/-- A CANCEL of scope 1 in flight. -/
def cancelling (h : Word) : State := let s := (nested.accept 0 (.cancel h 0 none) 0 none (some 5) false false 0).2
  { s with agenda := [] }
theorem witness_Scopes_cancel : ∃ q r, (cancelling (2 ^ 20 + 1)).request 1 = some q ∧ q.id = 1 ∧ q.kind = .cancel (2 ^ 20 + 1) 0 none ∧
    (cancelling (2 ^ 20 + 1)).scopeOf q.part (2 ^ 20 + 1) = some 1 ∧ (cancelling (2 ^ 20 + 1)).descends 1 q.scope = true ∧
    (cancelling (2 ^ 20 + 1)).scope 1 = some r ∧ r.state = .active := ⟨_, _, rfl, rfl, rfl, by decide, by decide, rfl, rfl⟩
/-- The task's scope CANCELLING. -/
def stopping : State := { base with scopes := [(0, scopeRec .cancelling none 0)] }
theorem witness_Scopes_broadcast : stopping.taskOf (stopping.handleOf 0 0) = some task0 ∧ stopping.scopeState task0.scope = .cancelling ∧
    task0.state = .running ∧ task0.loc = some 0 := by decide
theorem witness_Scopes_hold : (held.slot 0).hold = some 9 ∧ held.inLockstep (held.slot 0) = false ∧ held.cycle < 9 ∧ 9 ≤ ({ held with cycle := 9 } : State).cycle ∧
    (held.slot 0).killNotice = false := by decide
theorem witness_Scopes_close : nested.scope 1 = some (scopeRec .active (some 0) 1) ∧ (scopeRec .active (some 0) 1).sealed_ = true ∧
    nested.settledScope 1 = true ∧ nested.settledScope 0 = false ∧ nested.requests = [] := by decide
/-- A CANCELLING scope with no task. -/
def draining : State := { base with scopes := base.scopes ++ [(3, scopeRec .cancelling none 3)] }
theorem witness_Scopes_acknowledge : draining.scope 3 = some (scopeRec .cancelling none 3) ∧ draining.drained 3 = true ∧ stopping.drained 0 = false ∧
    stopping.deferred = [] ∧ ∀ e ∈ draining.scopes, e.2.owner = 3 → e.1 = 3 := by decide
theorem witness_Scopes_request : ∃ q, (asking (.scopeId 0) false).request 1 = some q ∧ q.id = 1 ∧ q.kind = .scopeId 0 ∧
    ((asking (.scopeId 0) false).scope q.scope).map (·.state) = some .active :=
  ⟨_, rfl, rfl, rfl, by decide⟩
theorem witness_Scopes_open : ∃ q, (asking (.scopeOpen 0) false).request 1 = some q ∧ q.kind = .scopeOpen 0 ∧ q.scope = 0 ∧
    (({ asking (.scopeOpen 0) false with scopes := [(0, scopeRec .closed none 0)] } : State).scope 0).map (·.state) = some .closed ∧
    (({ asking (.scopeOpen 0) false with scopes := [(0, { scopeRec .active none 0 with depth := 32 })] } : State).scope 0).map (·.depth) = some 32 :=
  ⟨_, rfl, rfl, rfl, by decide, by decide⟩

/-- The slot of the S-tile with a configuration of 8 experts issued and X[1], X[2] in its scratchpad. -/
def selecting : State := withMe baseSel (fun t =>
  { ((t.setX 1 (win 52 0)).setX 2 (win 52 0x200)).setX 3 8 with sel := { t.sel with issued := 8, cfg := 8 } })
theorem witness_SelectIssue : selRow (.topk 5 1 2 3) = some ([1, 2, 5], .topk, 5, 1, 2, 4) ∧ Ready selecting { engine := true, stile := true } [1, 2, 5] ∧
    SelWord (me selecting) .topk 1 ∧ SelMem selecting .topk 1 2 4 ∧ (me selecting).sq.length < 4 :=
  ⟨rfl, ready (by decide), show (me selecting).sel.issued.toNat % 2048 ≠ 0 by decide,
    ⟨⟨0, by decide, by decide, by decide, by decide, by decide⟩, ⟨0x200, by decide, by decide, by decide, by decide, by decide⟩, by decide⟩, by decide⟩
theorem witness_SelectIssue_registers : SelWord (me selecting) .cfg 3 ∧ SelWord (me selecting) .res 3 ∧ SelWord (me selecting) .dead 3 ∧
    ¬SelWord (me selecting) .cfg 1 ∧ ¬SelWord (me baseSel) .topk 1 :=
  ⟨⟨by decide, by decide, by decide, by decide⟩, show _ = _ by decide, show _ < _ by decide, fun h => absurd h.1 (by decide),
    fun h => absurd h (show ¬((me baseSel).sel.issued.toNat % 2048 ≠ 0) by decide)⟩
/-- A residency entry's read, as an entry. -/
def resEntry : SelEntry := { op := .res, bank := .main, d := 5, xa := 0x20007, xb := 0, k := 0, data := [], serial := 0 }
/-- A ranking of the 8 experts of the configuration. -/
def rankEntry : SelEntry := { resEntry with op := .topk, xa := win 52 0, xb := win 52 0x200, k := 8 }
/-- An entry at the head of the slot's queue. -/
def selectHead (e : SelEntry) : State := withMe selecting (fun t => { t with sq := [e] })
theorem witness_SelectEntries_bind : ((selectHead rankEntry).slot 208).sq = rankEntry :: [] ∧ ((selectHead rankEntry).tile 52).sel.busy = none ∧
    (selectHead rankEntry).enginesHold 208 = false ∧ ((selectHead rankEntry).slot 208).heldBy = none ∧ rankEntry.cost ≤ 256 ∧
    ((selectHead rankEntry).slot 211).sq = [] ∧ (selectHead rankEntry).lostDie (dieOf 52) = false ∧ (selectHead rankEntry).poisoned (52 * 2 ^ 30) 32 = false := by
  decide
/-- The unit occupied by an entry. -/
def selectBusy (e : SelEntry) : State := (withMe selecting (fun t => { t with sbound := [e] })).onTile 52 (fun t =>
  { t with sel := { t.sel with busy := some (208, 0) } })
theorem witness_SelectEntries_complete : SelOccupies (selectBusy rankEntry) 52 208 rankEntry ∧ SelOccupies (selectBusy resEntry) 52 208 resEntry ∧
    (selectBusy resEntry).lostDie (dieOf 52) = false :=
  ⟨⟨by decide, by decide, by decide, by decide⟩, ⟨by decide, by decide, by decide, by decide⟩, by decide⟩
/-- The scores of the example of spec/10 R253. -/
def scores : Bytes := [0x3F000000, 0xBF800000, 0x40400000, 0x3F000000, 0x40000000, 0x7FC00000, 0x3F800000, 0xC0000000].flatMap (fun v => toBytes 4 v)
theorem witness_RankingStep : (({ win := 0, grp := 0, out := [] } : Ranking).best 0x01020008 4 scores) = some 4 ∧
    (({ win := -1, grp := 0, out := [] } : Ranking).best 8 0 scores) = none := by decide +kernel
/-- R253's example: three of four results, group limit 1. -/
theorem test_topk_example : (Ranking.run 0x01020008 4 scores 4 { win := 0, grp := 0, out := [] }).out =
    [0x4000000000000004, 0x3F80000000000006, 0xC000000000000007] := by decide +kernel
theorem witness_SystemRegisters : csrValue baseSuper 0x183 = some 64 ∧ Ready baseSuper { privileged := true } [5] ∧ csrValue baseSuper 0x400 = none ∧
    csrValue baseSuper 0x260 = none ∧ csrValue baseSuper 0x25F = some 0 ∧
    csrForm (.csrrw 5 6 0x189) (me (withMe baseSuper (fun t => t.setX 6 1024))) 1024 = some (0x189, 5, 6, 1024) ∧ CsrFine 0x189 1024 ∧ CsrFine 0x189 (2 ^ 20) ∧
    ¬CsrFine 0x189 1023 ∧ csrValue baseSuper 0x189 = some 65536 ∧ ¬CsrFine 0x100 0 :=
  ⟨by decide, ready (by decide), by decide, by decide, by decide, by decide, show _ ∧ _ by decide, show _ ∧ _ by decide, show ¬(_ ∧ _) by decide, by decide, id⟩
theorem witness_SystemRegisters_special : csrForm (.csrrs 5 6 1) (me baseSuper) 0 = some (1, 5, 6, 0) ∧ (srWrite (me baseSuper) 1 0).isSome = true ∧
    (0 : Word) &&& ~~~((srWrite (me baseSuper) 1 0).map (·.2)).getD 0 = 0 ∧ csrForm (.csrrc 5 6 0x25F) (me baseSuper) 0 = some (0x25F, 5, 6, 0) ∧
    (me base).status.super = false ∧ base.anyBusy base.cur (me base) [5, 6] = false := by decide
theorem witness_DescriptorWrites : (15 : Nat) < 16 ∧ (0xD818C89806080401 : Word).getLsbD 0 = true ∧
    descriptorBad ((0xE100 : Word) ++ (0xD818C89806080401 : Word)) = false ∧ descriptorBad ((-1 : Word) ++ (-1 : Word)) = true := by decide
/-- A slot with a deferred trap. -/
def deferring : State := withMe base (fun t => { t with deferred := some (6, 9, 4) })
theorem witness_SystemInstructions : baseSuper.slotKernel 0 = some (wordKernel 0xF1000000) ∧ Ready baseSuper { privileged := true } [6, 7] ∧
    (me baseSuper).x 7 &&& ~~~0xF3 = 0 ∧ ((me baseSuper).x 6).toNat < 2 ^ 56 ∧ baseSuper.accessesPerformed 0 = true ∧ baseSuper.acquirePending 0 = false ∧
    (baseSuper.slot 0).task ≠ 0 ∧ (baseSuper.slot 1).task = 0 ∧ (deferring.slot 0).deferred = some (6, 9, 4) ∧ deferring.enginesHold 0 = false ∧
    (deferring.slot 0).killNotice = false ∧ (deferring.slot 0).vbound = [] ∧ (deferring.slot 0).mbound = [] :=
  ⟨by decide, ready (by decide), by decide, by decide, by decide, by decide, by decide, by decide, by decide, by decide, by decide, by decide, by decide⟩
theorem witness_SystemInstructions_reserved : (3 : Word).toNat % 4 = 3 ∧ (3 : Word) &&& ~~~0xF3 = 0 ∧ (12 : Word) &&& ~~~0xF3 ≠ 0 ∧ (0x12 : Word).getLsbD 4 = true ∧
    (2 : Word).toNat % 4 = 2 := by decide
/-- X[6] a permit's number, or a time slot; X[7] its value. -/
def guarding (n : Nat) (v : Word) : State := withMe baseSuper (fun t => (t.setX 6 (BitVec.ofNat 64 n)).setX 7 v)
theorem witness_GuardAndFrame : Ready (guarding 63 0x100000000) { privileged := true } [6, 7, 5] ∧ PortFree (guarding 63 0x100000000) false ∧
    ((me (guarding 63 0x100000000)).x 6).toNat < 64 ∧ (me (guarding 63 0x100000000)).x 7 &&& 0x7FFFFFF0E0C00000 = 0 ∧
    (guarding 63 0x100000000).ownsTile 0 0 0 = true ∧ (0x100000000 : Word).toNat / 2 ^ 32 % 16 ≠ 0 ∧ (0x8000000118000003 : Word).toNat / 2 ^ 24 % 32 = 24 ∧
    64 ≤ ((me (guarding 64 0)).x 6).toNat :=
  ⟨ready (by decide), portFree (by decide), by decide, by decide, by decide, by decide, by decide, by decide⟩
theorem witness_GuardAndFrame_slots : (me (guarding 0x7F 0x1F1)).x 6 &&& ~~~0xFFFF7F = 0 ∧ (0x7F : Word).toNat / 256 % 16 ≤ 3 ∧
    (me (guarding 0x7F 0x1F1)).x 7 &&& ~~~0x1F1 = 0 ∧ (frameUnit 0 0).isSome = true ∧ ((baseSuper.mgmt.frame.getD 127 0xFF)).toNat = 0 ∧ frameUnit 0 4095 = none ∧
    (0x80 : Word) &&& ~~~0xFFFF7F ≠ 0 := by decide

/-- A second task, in slot 1 of the tile; X[6] of the issuer its handle. -/
def saving : State := let h := taskHandle 0 0 1 1
  ((withMe baseSuper (fun t => t.setX 6 h)).onRecord 0 1 (fun _ => { task0 with loc := some 1 })).onSlot 1 (fun _ => { me baseSuper with task := h })
/-- Its record, with room for its image where the partition saves. -/
def savable : State := saving.onPart 0 (fun p => { p with savebase := 0x10000, savesize := 0x100000, ptwin := 0x10000000000 })
theorem witness_SaveAndRestore : Ready savable { privileged := true } [6, 5] ∧ PortFree savable false ∧
    RunsAt savable ((me savable).x 6) { task0 with loc := some 1 } 1 ∧ savable.scopeState task0.scope ≠ .cancelling ∧ (savable.slot 1).freeze = none ∧
    savable.gangOf (savable.slot 1) = none ∧ (savable.saveRoom 0 (savable.imageSize 1)).isSome = true :=
  ⟨ready (by decide), portFree (by decide), ⟨by decide, by decide, by decide, by decide +kernel, rfl, rfl⟩, by decide, by decide, by decide, by decide +kernel⟩
theorem witness_SaveAndRestore_stale : savable.taskOf 0 = none ∧ bits (0 : Word) 29 20 = savable.mgmt.package ∧
    savable.taskOf (me savable).task = some task0 ∧ bits (0x3FF00000 : Word) 29 20 ≠ savable.mgmt.package ∧
    Ready savable { privileged := true } [6, 7, 5] ∧ (me savable).x 7 = 0 ∧ (2 ^ 63 + 5 : Word).toNat / 2 ^ 18 = 2 ^ 45 ∧ (5 : Word).toNat / 2 ^ 18 ≠ 2 ^ 45 :=
  ⟨by decide, by decide, by decide, by decide, ready (by decide), by decide, by decide +kernel, by decide +kernel⟩
/-- Queue 7 of partition 0, enabled, with the commands given; the module READY. -/
def queued (cs : List Bytes) : State := { base with
  locked := true, queues := [(7, { base.queue 7 with cfg0 := 0x8010042000000000, cfg1 := 4096, ring := cs, posted := BitVec.ofNat 16 cs.length })] }
/-- A command of 64 bytes. -/
def command (op : Nat) (f : Bytes) : Bytes := [BitVec.ofNat 8 op] ++ List.replicate 23 0 ++ f ++ List.replicate (40 - f.length) 0
theorem witness_QueueEvents : (command 1 []).length = 64 ∧ ((queued []).queue 7).cfg0.getLsbD 63 = true ∧
    (((queued []).queue 7).posted - ((queued []).queue 7).taken).toNat < 2 ^ (((queued []).queue 7).cfg0.toNat / 2 ^ 36 % 16) ∧
    QcfgFine ((queued []).queue 7) 0x8010042000000000 ∧ ¬QcfgFine ((queued []).queue 7) 0x8010041000000000 ∧ ¬QcfgFine ((queued []).queue 7) 0x8010043000000000 ∧
    ((queued []).queue 7).cfg1 ≠ 0 ∧ (2 ^ 56 - 1 : Word).toNat < 2 ^ 56 :=
  ⟨by decide, by decide, by decide, ⟨by decide, by decide, by decide, by decide, by decide, fun _ => ⟨by decide, by decide⟩⟩,
    fun h => absurd h.2.2.2.1 (by decide), fun h => absurd (h.2.2.2.2.2 (by decide)).2 (by decide), by decide, by decide⟩
theorem witness_QueueEvents_take : ((queued [command 1 []]).queue 7).ring = command 1 [] :: [] ∧ (queued [command 1 []]).mgmt.state = .ready ∧
    (queued [command 1 []]).hasTurn ((queued [command 1 []]).coreDie ((queued [command 1 []]).queue 7).part) 256 ((queued [command 1 []]).queue 7).part = true ∧
    1 ≤ ((queued [command 1 []]).queue 7).weight ∧ (queued [command 1 []]).queues = [(7, (queued [command 1 []]).queue 7)] ∧
    (byteAt (command 1 []) 1).getLsbD 0 = false := by decide
/-- The command at the head of `queued`, and the state in which it has been taken. -/
theorem witness_Commands : ∃ c u, Admits (queued [command 1 []]) 7 1 c u ∧ commandBad c.bytes [] = false :=
  ⟨_, _, ⟨rfl, by decide⟩, by decide⟩
theorem witness_Commands_unload : ∃ c u, Admits (queued [command 3 [1]]) 7 3 c u ∧ commandBad c.bytes [24, 25] = false ∧
    (u.image c.part (field c.bytes 24 2)).isSome = true ∧ (∃ i ∈ u.instances, i.part = c.part ∧ i.image = field c.bytes 24 2) ∧ u.image c.part 2 = none :=
  ⟨_, _, ⟨rfl, by decide⟩, by decide, by decide, by decide, by decide⟩
theorem witness_Commands_cancel : ∃ c u, Admits (queued [command 5 [1]]) 7 5 c u ∧ commandBad c.bytes [24, 25, 26, 27] = false ∧
    (u.instanceOf c.part (field c.bytes 24 4)).isSome = true ∧ u.scopeOf c.part (2 ^ 20) = some 0 ∧ u.scopeState 0 = .active ∧ u.instanceOf c.part 2 = none :=
  ⟨_, _, ⟨rfl, by decide⟩, by decide, by decide, by decide, by decide, by decide⟩
/-- A LOAD of 32 bytes, whose page is mapped and holds no image. -/
def loadable : State := let s := queued [command 2 (toBytes 8 0 ++ toBytes 8 4096)]
  (s.onPart 0 (fun p => { p with ptwin := 0x10000000000 })).onDie 0 (fun d => { d with homeTlb := { d.homeTlb with entries :=
    [{ part := 0, home := 0, w0 := 1, w1 := 0x200, w2 := 0x1000 }] } })
theorem witness_Commands_load : ∃ c u, Admits loadable 7 2 c u ∧ commandBad c.bytes (List.range 17 |>.map (· + 24) |>.append [42, 43]) = false ∧
    byteAt c.bytes 40 = 0 :=
  ⟨_, _, ⟨rfl, by decide⟩, by decide, by decide⟩
theorem witness_Commands_run : ∃ c u, Admits (queued [command 4 ([1] ++ List.replicate 23 0 ++ List.replicate 4 255)]) 7 4 c u ∧
    commandBad c.bytes ((List.range 5 |>.map (· + 24)) ++ (List.range 20 |>.map (· + 32))) = false ∧ (byteAt c.bytes 28).toNat ≤ 64 ∧
    (fieldW c.bytes 32 8).toNat % 16 = 0 ∧ (u.image c.part (field c.bytes 24 2)).isSome = true ∧
    (let table := u.coreBytes (u.coreIssuer c.part c.queue) (fieldW c.bytes 32 8) 0 [] false
     table.fails = false ∧ table.need = [] ∧ table.lines = []) ∧
    (let entry := u.adapterRead c.part c.queue c.bytes
     entry.fails = false ∧ entry.need = [] ∧ entry.lines = []) ∧ u.locked = true ∧ c.queue = 7 :=
  ⟨_, _, ⟨rfl, by decide⟩, by decide, by decide, by decide, by decide, by decide, by decide, by decide, by decide⟩
/-- A decided command without a completion address. -/
def completing : State := { base with commands := [{ id := 3, queue := 7, part := 0, bytes := command 1 [], taccept := 0, outcome := some (0, 0, 5), record := none }] }
theorem witness_CompletionRecords : ∃ c, completing.commands.find? (fun x => x.id == 3) = some c ∧ c.id = 3 ∧ c.record = none ∧ c.outcome = some (0, 0, 5) ∧
    completing.instances.find? (fun i => i.cmd == c.id) = none ∧ fieldW c.bytes 16 8 = 0 ∧ c.bytes.length = 64 :=
  ⟨_, rfl, by decide, by decide, by decide, by decide, by decide, by decide⟩

/-- The task's record and slot changed. -/
def tasking (f : TaskRec → TaskRec) (u : Slot → Slot) : State := withMe (base.onRecord 0 0 f) u
/-- The task in a ready list of die 0, its tile empty. -/
def listed (st : ReadyState) : State := (tasking (fun r => { r with state := .ready, ready := st, loc := none }) (fun _ => Slot.reset)).onTile 0 (fun t =>
  { t with inbox := { t.inbox with owner := none } })
/-- The task QUEUED. -/
def ready0 : State := listed .queued
/-- The task CHOSEN. -/
def chosen0 : State := listed .chosen
theorem witness_Dispatch_select : chosen0.chosen 0 0 ≠ none ∧ (∃ r, ready0.chosen 0 0 = none ∧ ready0.queued 0 0 = [(0, r)] ∧ ready0.hasTurn 0 64 0 = true ∧
    1 ≤ (ready0.queue r.queue).weight ∧ ready0.placeCost (ready0.handleOf 0 0) r ≤ 64) :=
  ⟨by decide, _, by decide, rfl, by decide, by decide, by decide⟩
theorem witness_Dispatch_place : ∃ r kern g, chosen0.chosen 0 0 = some (0, r) ∧ chosen0.hasTurn 0 64 0 = true ∧ (∀ e ∈ (chosen0.die 0).tun, e.2.spawned = false) ∧
    chosen0.taskOf (chosen0.handleOf 0 0) = some r ∧ handleDie (chosen0.handleOf 0 0) < 4 ∧ r.saved = 0 ∧ r.gidx = none ∧ r.gang = none ∧
    chosen0.kernelRec r = some (0, kern) ∧ (chosen0.recordTemplate r).isSome = true ∧ chosen0.findSingle 0 r = some g :=
  ⟨_, wordKernel 0x01319000, 0, rfl, by decide, by decide, by decide, by decide, by decide, by decide, by decide, by decide, by decide, by decide +kernel⟩
/-- A prefetch of 64 bytes at address 0, asked in cycle 0. -/
def prefetch0 : Prefetch := { word := 3, src := 0, len := 64, doff := 0x1000, since := 0, outcome := none }
/-- The task PLACING with that prefetch to come. -/
def fetching (c : Nat) (o : Option Bool) : State := { (tasking (fun r =>
  { r with state := .placing, ready := .prefetch, prefetches := [{ prefetch0 with outcome := o }] }) (fun t => { t with state := .reserved })) with cycle := c }
theorem witness_Dispatch_prefetch : ∃ h r p g, (fetching 255 none).pendingPrefetches 0 = [(h, r, p)] ∧ (fetching 255 none).taskOf h = some r ∧
    handleDie h < 4 ∧ r.loc = some g ∧ p = prefetch0 ∧ (fetching 255 none).cycle < p.since + 256 ∧ p.since + 256 ≤ (fetching 256 none).cycle :=
  ⟨_, _, _, _, rfl, by decide, by decide, rfl, by decide, by decide, by decide⟩
/-- The home TLB of die 0 maps every address below 2^29 for partition 0. -/
def mappedHome (s : State) : State := (s.onPart 0 (fun p => { p with ptwin := 0x10000000000 })).onDie 0 (fun d => { d with homeTlb := { d.homeTlb with entries :=
    [{ part := 0, home := 0, w0 := 13, w1 := 0x600, w2 := 0 }] } })
/-- The prefetch begun, of an address that is mapped or of one that no address can be. -/
def prefetching (src : Word) : State := mappedHome (tasking (fun r =>
  { r with state := .placing, ready := .prefetch, prefetches := [{ prefetch0 with src := src, issued := some 1 }] }) (fun t => { t with state := .reserved }))
theorem witness_Dispatch_read : ∃ h r p g, (prefetching 0).pendingPrefetches 0 = [(h, r, p)] ∧ (prefetching 0).taskOf h = some r ∧ handleDie h < 4 ∧
    r.loc = some g ∧ p.issued = some 1 ∧ p.src + wordN p.done = 0 ∧ min (p.len - p.done) 256 = 64 ∧
    (let read := (prefetching 0).coreBytes { Issuer.device r.part ((prefetching 0).sourceNo (g / 4) 6) 1 with super := r.sys } 0 64 [] false
     read.fault = false ∧ read.need = [] ∧ read.lines = []) ∧
    ((prefetching (-1)).coreBytes { Issuer.device r.part ((prefetching (-1)).sourceNo (g / 4) 6) 1 with super := r.sys } (-1) 1 [] false).fault = true :=
  ⟨_, _, _, _, rfl, by decide, by decide, rfl, by decide, by decide, by decide, by decide +kernel, by decide +kernel⟩
theorem witness_Dispatch_runnable : ((fetching 300 (some true)).record 0 0).state = .placing ∧ ((fetching 300 (some true)).record 0 0).ready = .prefetch ∧
    (∀ p ∈ ((fetching 300 (some true)).record 0 0).prefetches, p.outcome ≠ none) ∧ ∃ p ∈ ((fetching 300 none).record 0 0).prefetches, p.outcome = none := by
  decide
/-- The task RUNNABLE. -/
def startable : State := tasking (fun r => { r with state := .placing, ready := .runnable }) (fun t => { t with state := .reserved })
theorem witness_Dispatch_start : ∃ r, startable.taskOf (startable.handleOf 0 0) = some r ∧ handleDie (startable.handleOf 0 0) < 4 ∧ startable.record 0 0 = r ∧
    r.state = .placing ∧ r.ready = .runnable ∧ r.saved = 0 ∧ r.gang = none ∧ r.spawned = false ∧ r.start = none ∧ r.loc = some 0 ∧
    startable.lostDie (dieOf 0) = false := ⟨startable.record 0 0, by decide⟩
theorem witness_Dispatch_gang : Assoc.find ({ ganged with gangs := [(0, { gang0 with stalled := true, resumeAt := some 9 })] } : State).gangs 0 =
    some { gang0 with stalled := true, resumeAt := some 9 } ∧ ganged.cycle < 9 := by decide
theorem witness_Preemption_trigger : (∃ k q, chosen0.chosen 0 0 = some (k, q) ∧ chosen0.cycle < q.chosenAt + 4096) ∧ chosen0.deferred = [] :=
  ⟨⟨_, _, rfl, by decide⟩, by decide⟩
/-- A pre-emption that began in cycle 0. -/
def freeze0 : Freeze := { since := 0, held := true, record := none, image := 0x10000 }
/-- The slot under pre-emption. -/
def frozen (st : SlotState) : State := tasking (fun r => { r with cls := 1 }) (fun t => { t with state := st, freeze := some freeze0 })
theorem witness_Preemption_save : ∃ r, Alone (frozen .issue) 0 r freeze0 ∧ ((frozen .issue).slot 0).state ≠ .saving ∧ ((frozen .issue).slot 0).wait = none ∧
    (frozen .issue).quiescent 0 = true ∧ ((frozen .issue).slot 0).killNotice = false ∧
    (withMe (frozen .issue) (fun t => { t with vq := [addEntry] })).quiescent 0 = false ∧ ((frozen .issue).slot 0).status.tbank = false ∧
    (frozen .issue).cycle < freeze0.since + ((frozen .issue).part 0).pqlimit.toNat ∧ 65536 ≤ freeze0.since + ((frozen .issue).part 0).pqlimit.toNat :=
  ⟨_, ⟨by decide, rfl, rfl, rfl⟩, by decide, by decide, by decide, by decide, by decide, by decide, by decide, by decide⟩
/-- The slot SAVING, with its image area mapped. -/
def savingNow : State := mappedHome (frozen .saving)
/-- The length of a padded run. -/
theorem padTo_length (n : Nat) (bs : Bytes) : (padTo n bs).length = n := by simp [padTo, zeros]
/-- The length of a number's bytes. -/
theorem toBytes_length (n v : Nat) : (toBytes n v).length = n := by
  induction n generalizing v with
  | zero => rfl
  | succ n ih => simp [toBytes, bytesOfWord] at ih ⊢; exact ih _
/-- A run of parts of at most n bytes. -/
theorem flat_le {α : Type} (l : List α) (f : α → Bytes) (n : Nat) (h : ∀ x ∈ l, (f x).length ≤ n) : (l.flatMap f).length ≤ l.length * n := by
  induction l with
  | nil => simp
  | cons a t ih =>
    have h1 := h a (by simp)
    have h2 := ih (fun x hx => h x (by simp [hx]))
    simp only [List.flatMap_cons, List.length_append, List.length_cons, Nat.add_mul, Nat.one_mul]
    omega
/-- The fixed area is short. -/
theorem fixed_le (s : State) (g : Nat) (h : (s.controlBlock g).length ≤ 1000) : (s.fixedArea g none).length ≤ 100000 := by
  have h1 := flat_le (s.slot g).main.x.toList (fun v => toBytes 8 v.toNat) 8 (by simp [toBytes_length])
  have h2 := flat_le (s.slot g).handler.x.toList (fun v => toBytes 8 v.toNat) 8 (by simp [toBytes_length])
  have h3 := flat_le (s.slot g).main.m.toList (fun v => toBytes 8 v.toNat) 8 (by simp [toBytes_length])
  have h4 := flat_le (s.slot g).handler.m.toList (fun v => toBytes 8 v.toNat) 8 (by simp [toBytes_length])
  have h5 := flat_le (s.slot g).v.toList (fun r => toBytes 256 r.toNat) 256 (by simp [toBytes_length])
  have h6 := flat_le (s.slot g).hv.toList (fun r => toBytes 256 r.toNat) 256 (by simp [toBytes_length])
  simp only [Vector.length_toList] at h1 h2 h3 h4 h5 h6
  simp only [State.fixedArea, List.length_append, padTo_length, Flow.xBytes, Flow.mBytes, zeros, List.length_replicate]
  split
  · omega
  · rw [List.length_replicate]; omega
/-- Sealing adds at most the CRC's bytes. -/
theorem seal_le (img : Bytes) : (sealImage img).length ≤ img.length + 40 := by
  simp only [sealImage, List.length_append, List.length_take, List.length_drop, toBytes_length]
  omega
/-- A short image: nothing declared to be saved. -/
theorem image_le (s : State) (g : Nat) (h : (s.controlBlock g).length ≤ 1000) (hm : s.saveMask [g] g = { Grant.none with ag := -1 })
    (hg : ((setBits 8 (-1 : BitVec 8).toNat).flatMap (fun a => (vget (s.tile (tileOfSlot g)).gens a).image a)).length ≤ 1000)
    (hr : (toBytes 8 (s.savedRanges g).length ++ (s.savedRanges g).flatMap (fun r => toBytes 4 r.1 ++ toBytes 4 r.2 ++ s.readMem (sramKey (tileOfSlot g) r.1) r.2)).length ≤ 10000)
    (held : Bool) : (s.saveImage [g] g held none).length ≤ 200000 := by
  have hf := fixed_le s g h
  have hc : (setBits 16 (Grant.none.ch &&& (s.slot g).grant.ch).toNat) = [] := by
    rw [show Grant.none.ch &&& (s.slot g).grant.ch = 0 by simp [Grant.none]]
    decide
  have ha : setBits 64 Grant.none.acc.toNat = [] := by decide
  have hq : setBits 4 Grant.none.qa.toNat = [] := by decide
  have hb : setBits 4 Grant.none.bl.toNat = [] := by decide
  unfold State.saveImage
  refine (seal_le _).trans ?_
  dsimp only
  rw [hm, hc, ha, hq, hb]
  simp only [List.flatMap_nil, List.length_append, toBytes_length, zeros, List.length_replicate, List.length_cons, List.length_nil, List.flatMap_cons] at hr ⊢
  omega
/-- The home TLB of die 0 maps every address below 2^29. -/
theorem write_some (s : State) (va : Word) (bs : Bytes) (hd : s.dies = savingNow.dies) (hp : s.parts = savingNow.parts) (hb : va.toNat < 2 ^ 29) :
    ∃ t, s.deviceWrite 0 784 va bs = some (s.writeTarget (.dram 0 t 0) bs false) := by
  have z (hi lo : Nat) (h : 29 ≤ lo) : bits va hi lo = 0 := by
    have : va.toNat / 2 ^ lo = 0 := Nat.div_eq_of_lt (lt_of_lt_of_le hb (Nat.pow_le_pow_right (by decide) h))
    simp [bits, bitsN, this]
  have c : classify va = .virtual := by
    unfold classify
    rw [if_neg (by rw [z _ _ (by decide)]; decide), if_pos (z _ _ (by decide))]
  have sh : shardOf va = 0 := by unfold shardOf; rw [z _ _ (by decide)]; decide
  have tl : s.tlb (320 + 0) = savingNow.tlb 320 := by simp [State.tlb, State.die, hd]
  have lk : (savingNow.tlb 320).lookup 0 va = some { part := 0, home := 0, w0 := 13, w1 := 0x600, w2 := 0 } := by
    have cv : TlbEntry.covers { part := 0, home := 0, w0 := 13, w1 := 0x600, w2 := 0 } va = true := by
      unfold TlbEntry.covers
      show (_ && (_ == bits va 55 30)) = true
      rw [z _ _ (by decide)]
      decide
    show List.find? _ [_] = _
    rw [List.find?_cons_of_pos (by rw [cv]; decide)]
  have wn : s.window 0 true va = none := by
    have p1 : s.part 0 = savingNow.part 0 := by simp [State.part, hp]
    have p2 : (savingNow.part 0).ptwin.toNat = 0x10000000000 := by decide
    unfold State.window
    rw [p1]
    dsimp only
    rw [if_neg]
    rw [p2]
    simp
    intro _ h
    omega
  have ck : TlbEntry.check { part := 0, home := 0, w0 := 13, w1 := 0x600, w2 := 0 } 0 true .write va = .ok (.dram 0 (bits va 29 0) 0) := by
    simp [TlbEntry.check, TlbEntry.target, testW, testN, bits, bitsN, pageShift]
  have wk : s.walked 0 va = s := by
    unfold State.walked
    rw [sh]
    dsimp only
    rw [tl, lk]
    simp
  refine ⟨bits va 29 0, ?_⟩
  unfold State.deviceWrite State.deviceTarget
  rw [c]
  dsimp only
  unfold State.translateNow
  rw [wn, sh]
  dsimp only
  rw [tl, lk]
  dsimp only
  rw [ck]
  dsimp only [Option.map]
  rw [wk]
  rfl
/-- A device's write of a run below 2^29 completes when the home TLB of die 0 maps it, and sends nothing away. -/
theorem run_isSome : ∀ (f : Nat) (s : State) (va : Word) (bs : Bytes), s.dies = savingNow.dies → s.parts = savingNow.parts → s.keyTag = [] →
    va.toNat + bs.length < 2 ^ 29 → ∃ t, s.deviceWriteRun 0 784 f va bs = some t ∧ t.requests = s.requests
  | 0, s, _, _, _, _, _, _ => ⟨s, rfl, rfl⟩
  | f + 1, s, va, bs, hd, hp, hk, hb => by
    unfold State.deviceWriteRun
    split
    · exact ⟨s, rfl, rfl⟩
    · dsimp only
      generalize hm : min bs.length (256 - va.toNat % 256) = m
      have hm' : m ≤ bs.length := hm ▸ Nat.min_le_left _ _
      obtain ⟨t, ht⟩ := write_some s va (bs.take m) hd hp (by omega)
      rw [ht]
      have same : (s.writeTarget (.dram 0 t 0) (bs.take m) false).dies = s.dies ∧ (s.writeTarget (.dram 0 t 0) (bs.take m) false).parts = s.parts ∧
          (s.writeTarget (.dram 0 t 0) (bs.take m) false).keyTag = s.keyTag ∧ (s.writeTarget (.dram 0 t 0) (bs.take m) false).requests = s.requests := by
        unfold State.writeTarget State.writeKeyed State.writeMark State.writeMem
        simp only [hk, State.keyNumber]
        split <;> exact ⟨rfl, rfl, by simp [hk], rfl⟩
      obtain ⟨u, hu, hr⟩ := run_isSome f (s.writeTarget (.dram 0 t 0) (bs.take m) false) (va + wordN m) (bs.drop m) (same.1.trans hd) (same.2.1.trans hp)
        (same.2.2.1.trans hk) (by
          have : (va + wordN m).toNat ≤ va.toNat + m := by
            simp only [wordN, BitVec.toNat_add, BitVec.toNat_ofNat]
            omega
          rw [List.length_drop]
          omega)
      exact ⟨u, hu, hr.trans same.2.2.2⟩
theorem witness_Preemption_saved : (∃ r, Alone savingNow 0 r freeze0) ∧ (savingNow.slot 0).state = .saving ∧ (savingNow.slot 0).killNotice = false ∧
    handleDie (savingNow.slot 0).task < 4 ∧ freeze0.written = false ∧
    ∃ u, savingNow.deviceBlock (savingNow.slot 0).part (savingNow.sourceNo (handleDie (savingNow.slot 0).task * 64 + 49) 0) (wordN freeze0.image)
        (savingNow.saveImage [0] 0 freeze0.held none) = some u ∧ ∀ q ∈ u.requests, ∀ bs, q.kind ≠ .block bs := by
  refine ⟨⟨_, by decide, rfl, rfl, rfl⟩, by decide, by decide, by decide, by decide, ?_⟩
  have h := image_le savingNow 0 (by decide +kernel) (by decide) (by decide +kernel) (by decide +kernel) freeze0.held
  have n : savingNow.sourceNo (handleDie (savingNow.slot 0).task * 64 + 49) 0 = 784 := by decide
  have b : (wordN freeze0.image).toNat = 0x10000 := by decide
  have p : (savingNow.slot 0).part = 0 := by decide
  rw [n, p]
  obtain ⟨u, hu, hr⟩ := run_isSome ((savingNow.saveImage [0] 0 freeze0.held none).length / 256 + 2) savingNow (wordN freeze0.image)
    (savingNow.saveImage [0] 0 freeze0.held none) rfl rfl rfl (by rw [b]; omega)
  refine ⟨u, hu, ?_⟩
  rw [hr]
  intro q hq
  exact absurd hq (by simp [show savingNow.requests = [] by rfl])
/-- The task placed again, in a machine whose image area is mapped and reads zeros. -/
def resuming : State := savingNow.onRecord 0 0 (fun r => { r with state := .placing, saved := 0x10000 }) |>.onSlot 0 (fun t => { t with state := .reserved, freeze := none })
theorem witness_Preemption_resume : (resuming.record 0 0).saved ≠ 0 ∧ (resuming.record 0 0).gang = none ∧ (resuming.record 0 0).loc = some 0 ∧
    (let read := resuming.imageRead (resuming.record 0 0).part (resuming.handleOf 0 0) (resuming.record 0 0).saved
     read.fails = false ∧ read.need = [] ∧ read.lines = [] ∧ read.bytes = []) ∧ (∀ i, i < 16 → byteAt [] (0x600 + 16 * i + 9) ≠ 2) ∧
    resuming.storesPerformed (resuming.handleOf 0 0) = true ∧ (resuming.slot 0).task = resuming.handleOf 0 0 ∧ (resuming.slotKernel 0).isSome = true ∧
    resuming.gangOf (resuming.slot 0) = none ∧ resuming.taskOf (resuming.handleOf 0 0) = some (resuming.record 0 0) :=
  ⟨by decide, by decide, by decide, by decide +kernel, fun _ _ => by simp [byteAt], by decide, by decide, by decide, by decide, by decide⟩
/-- A message's request in flight, number 1. -/
def messaging : State := after (execMsgSend 5 6 1 pointing)
theorem witness_ChannelEvents_message : (messaging.tile 0).inbox.owner = some 0 ∧ messaging.lostDie (dieOf 0) = false ∧ messaging.messageBefore 1 = false ∧
    messaging.messageBad 1 = false ∧ (messaging.tile 0).inbox.arrived - (messaging.tile 0).inbox.taken < inboxRoom 0 ∧ (messaging.tile 1).inbox.owner = none ∧
    inboxRoom 0 ≤ ((messaging.onTile 0 (fun t => { t with inbox := { t.inbox with arrived := 64 } })).tile 0).inbox.arrived - 0 := by decide +kernel
theorem witness_ChannelEvents_token : ((receiving true []).chan 0 4).side = .receiver ∧ ((receiving true []).chan 0 4).state = .opened ∧
    (∀ x ∈ ((receiving true []).chan 0 4).tokens, x.tail = true) ∧ (List.replicate 128 (7 : Byte)).length ≤ ((receiving true []).chan 0 4).entryBeats * 64 ∧
    ((sending .opened []).chan 0 4).side = .sender ∧ ((sending .opened []).chan 0 4).state = .opened ∧ ((sending .opened []).chan 0 4).lane = false ∧
    ((connected.onChan 0 4 (fun e => { e with lane := true })).chan 0 4).lane = true := by decide +kernel

/-- A walk of the address 0x5000 for the TLB of tile 0, begun under a GEN. -/
def walking (gen : Nat) : State := base.onDie 0 (fun d => { d with walks := [{ id := 1, home := 0, part := 0, va := 0x5000, tlb := 0, gen := gen, by_ := 0, ctx := 0 }] })
theorem witness_TranslationEvents_walk : ∃ w v, walkAt (walking 0) 1 = some w ∧ w.home < 4 ∧ (walking 0).hasTurn w.home 64 w.part = true ∧
    w.gen = (walking 0).gen w.home w.part ∧ walkAt (walking 9) 1 = some v ∧ v.gen ≠ (walking 9).gen v.home v.part :=
  ⟨_, _, rfl, by decide, by decide, by decide, rfl, by decide⟩
theorem witness_TranslationEvents_fill : Assoc.find (base.tlb 323).gens (0 * 16 + 0) = none ∧
    Assoc.find ((base.onTlb 319 (fun t => { t with gens := [(0, 5)] })).tlb 319).gens 0 = some 5 ∧ (4 : Nat) < 5 ∧ (5 : Nat) < 2 ^ 31 := by decide
/-- An invalidation on its way to the TLB of tile 0, awaited by the slot. -/
def invalidation : Invalidation := { slot := 0, part := 0, home := 0, gen := some 7, va := 0, how := 0x10, serial := 3 }
/-- See `invalidation`. -/
def invalidating : State := withMe mapped (fun t => { t with state := .blocked, wait := some (.tlb [0]), waitSerial := 3 })
theorem witness_TranslationEvents_invalidate : invalidation.waits = none ∧ invalidating.pendingWith 0 ((invalidating.tlb 0).dropped invalidation) = [] ∧
    (invalidating.slot 0).wait = some (.tlb [0]) ∧ (invalidating.slot 0).waitSerial = invalidation.serial ∧ (invalidating.slot 0).resume = none ∧
    (∃ e ∈ (invalidating.tlb 0).entries, Concerns e invalidation) :=
  ⟨by decide, by decide, by decide, by decide, by decide, _, List.mem_singleton_self _, by decide, fun _ => by decide, Or.inl (by decide)⟩
/-- A store of 8 bytes from package 1 to offset 0x100 of a tile. -/
def incoming (gt : Nat) : Packet := { kind := 2, cls := 3, trim := false, pois := false, rel := false, perf := false, src := 4096, part := 0, dest := gt * 16
                                      seq := 0, eport := 3, iport := 0xFF, addr := win gt 0x100, aux := 0, reserved := 0, data := [1, 2, 3, 4, 5, 6, 7, 8] }
theorem witness_PacketEvents_store : InTurn base 0 (incoming 0) ∧ InTurn base 0 (incoming 1) ∧ (base.tile 0).part = some (incoming 0).part ∧
    (base.tile 1).part ≠ some (incoming 1).part ∧ base.lostDie (dieOf 0) = false ∧ base.mgmt.guardLog.length < 4096 ∧
    ({ incoming 0 with kind := 0xB } : Packet).malformed = true ∧
    (incoming 1).addr.toNat = 0xFFFE * 2 ^ 48 + base.mgmt.package * 2 ^ 38 + 1 * 2 ^ 30 + 0x100 :=
  ⟨⟨by decide, by decide, by decide, by decide, by decide, by decide, by decide, by decide, by decide, by decide, by decide⟩,
    ⟨by decide, by decide, by decide, by decide, by decide, by decide, by decide, by decide, by decide, by decide, by decide⟩,
    by decide, by decide, by decide, by decide, by decide, by decide⟩
/-- A store of the slot to package 1, sent with SEQ 5. -/
def outgoing (kind : ReqKind) : State := let s := (base.accept 0 kind (win 0 0) (some (.remoteTile 1 0 0)) none false false 0).2
  { s with agenda := [], requests := s.requests.map (fun r => { r with remote := true, phase := .left, seq := 5 })
           flows := [{ src := s.slotSource 0, dest := 4096, next := 6, retry := [{ incoming 0 with src := s.slotSource 0, dest := 4096, seq := 5 }]
                       accepted := 0, goBack := none }] }
theorem witness_PacketEvents_notice : ((outgoing (.store [1])).requestOf 0 4096 5).map (fun r => r.kind.isStore) = some true := by decide +kernel
theorem witness_PacketEvents_flows : ((outgoing (.store [1])).flow 0 4096).isSome = true ∧
    ((({ base with flows := [{ src := 4096, dest := base.here, next := 0, retry := [], accepted := 9, goBack := none }] } : State).flow 4096 base.here).map
      (fun f => (decide (f.accepted = BitVec.ofNat 16 9), decide (2 ^ 15 ≤ (f.accepted - BitVec.ofNat 16 10).toNat)))) = some (true, true) := by decide +kernel
theorem witness_PacketEvents_trim : .packet 3 (incoming 0) ∈ (base.emit (.packet 3 (incoming 0))).egress ∧ (incoming 0).cls = 3 ∧
    flowDest (incoming 0).dest = flowDest 0 := by decide
/-- A store parked at port 0, in a module whose partition 0 has every time slot of die 0's mesh. -/
def parking : State :=
  { State.reset with
    mgmt := { State.reset.mgmt with frame := List.replicate 128 0 }
    ports := vset State.reset.ports 0 { State.reset.port 0 with parked := [{ entry := 0, packet := incoming 0, fid := 1, step := 1 }] } }
theorem witness_PacketEvents_parked : (parking.port 0).parked = [{ entry := 0, packet := incoming 0, fid := 1, step := 1 }] ∧
    (∀ m, m < 16 → m ≠ 0 → (parking.port m).parked = []) ∧ (∀ g a c, parking.headCmd g a = some c → c.stop = none) ∧
    parking.landing (incoming 0) = .ok (.tile 0 0x100) ∧ parking.lostDie (dieOf 0) = false := by
  refine ⟨by decide, by decide, ?_, rfl, by decide⟩
  intro g a c h
  have e : vget (parking.tile g).gens a = { queue := [], ticket := 0 } := by
    show vget (Vector.replicate 8 _) a = _
    simp [vget]
  unfold State.headCmd at h
  rw [e] at h
  exact absurd h (by simp)
theorem witness_HostAndTime : base.host.maps 0 = none ∧ (({ base with host := { base.host with hdmBase := 4096, hdmSize := 2 ^ 40 } } : State).host.maps 4160 = some (0, 64)) ∧
    base.mgmt.state = .ready ∧ base.lostDie 0 = false ∧ (base.die 0).good = true ∧ 64 + 64 ≤ (base.die 0).rsvLo ∧ (base.die 0).directory.length + 64 ≤ 1048576 ∧
    3 ∈ ((base.onDie 0 (fun d => { d with snooped := [3] })).die 0).snooped ∧ base.mgmt.isMaster = false := by decide
theorem witness_HostAndTime_load : ∃ r, (outgoing (.load 8 6)).requests.find? (fun r => r.id == 1 && r.remote && r.phase != .performed) = some r ∧
    r.kind.isStore = false := ⟨_, rfl, rfl⟩
theorem witness_PartitionEvents : ({ base with mgmt := { base.mgmt with frameReplies := [1], frames := 5 } } : State).mgmt.frameReplies ≠ [] ∧
    base.cycle / 8192 ≠ 5 ∧ base.mgmt.frameReplies = [] ∧ base.lostDie 0 = false ∧ (base.die 0).good = true ∧ base.mgmt.errorLog = [] ∧ (0 : Nat) ≠ (base.onDie 3 (fun d => { d with good := true })).lastDie ∧
    (base.onDie 2 (fun d => { d with lostAt := some 0 })).lostDie 2 = true := by decide
/-- A wait of one task on itself in two snapshots. -/
def deadlocked : State := base.onDie 0 (fun d => { d with snapshot := [w], previous := [w] })
where w : Waiting := { slot := 0, task := (me base).task, kind := 1, index := 0, serial := 1, on := [(me base).task], counts := true }
theorem witness_PartitionEvents_deadlock : closedSet (base.standing 0).length (base.standing 0) = [] ∧
    (closedSet (deadlocked.standing 0).length (deadlocked.standing 0)).map (·.task) ≠ (deadlocked.part 0).reported := by decide
/-- A snapshot told to another module is read there as it was taken. -/
theorem test_snapshot_codec : (let w : Waiting := { slot := noSlot, task := 5, kind := 4, index := 1, serial := 3, on := [6, 7], counts := true
                                                    far := [{ serial := 1, chan := 2, sender := true, count := 9 }], bar := some (win 0 64, 7, none) }
    let rows := packRows (w.rows ++ [[1, 1, 2, 0, 4], [2, 5, 64, 8]])
    PeerSnapshot.read { pkg := 1, waits := [], before := [], ends := [], members := [] } 9 (unpackRows rows.length rows) =
      { pkg := 1, waits := [w], before := [], ends := [{ serial := 1, chan := 2, sender := false, count := 4 }], members := [(5, { addr := 64, arrived := some 7 })] }) := by
  decide
/-- Two tasks of two modules that wait to receive from each other (spec/17 R368). -/
def crossed : State := (base.onDie 0 (fun d => { d with snapshot := [mine], previous := [mine] })).onPart 0 (fun p => { p with peers := [peer] })
where
  mine : Waiting := { slot := 0, task := (me base).task, kind := 1, index := 0, serial := 1, on := [2 ^ 20], counts := true
                      far := [{ serial := 1, chan := 0, sender := true, count := 2 }] }
  theirs : Waiting := { slot := noSlot, task := 2 ^ 20, kind := 1, index := 0, serial := 4, on := [(me base).task], counts := true }
  peer : PeerSnapshot := { pkg := 1, waits := [theirs], before := [theirs], ends := [{ serial := 1, chan := 0, sender := true, count := 2 }], members := [] }
theorem test_closed_set_of_modules : (closedSet 2 (crossed.standing 0)).map (·.task) = [(me base).task, 2 ^ 20] := by decide
/-- The module in a state of bring-up, with dies that are good. -/
def bringing (st : ModuleState) : State := { base with mgmt := { base.mgmt with state := st } }
theorem witness_BringUp : (bringing .rails).mgmt.state = .rails ∧ (8 : BitVec 4) ≠ 0 ∧ (bringing .selftest).mgmt.state = .selftest ∧
    (1 : BitVec 4).getLsbD 0 = true ∧ ((bringing .draminit).die 0).good = true ∧ (bringing .links).mgmt.state = .links ∧
    (bringing .identity).mgmt.state = .identity := by decide
/-- A blob of a TYPE for any module and any boot, SEQ 1. -/
def blob (type : Nat) (p : Bytes) : Bytes :=
  toBytes 4 0x01424C42 ++ toBytes 2 1 ++ [BitVec.ofNat 8 type, 0] ++ toBytes 8 p.length ++ toBytes 8 0 ++ toBytes 8 0 ++ toBytes 8 1 ++
    List.replicate 24 0 ++ p ++ List.replicate 132 0
/-- The module with an owner and a blob at the head of its queue. -/
def blobbed (b : Bytes) : State := { base with mgmt := { base.mgmt with owner := [4], queue := [b] } }
/-- A partition blob of partition 3, NB 8, with no tile. -/
def partitionPayload : Bytes := [3, 0, 8] ++ List.replicate 125 0
theorem witness_SignedBlobs_owner : Pending (blobbed (blob 1 (4 :: List.replicate 132 0))) (blob 1 (4 :: List.replicate 132 0)) [] 1 ∧
    fieldW (blob 1 (4 :: List.replicate 132 0)) 16 8 = 0 ∧ byteAt (blobPayload (blob 1 (4 :: List.replicate 132 0))) 0 = 4 :=
  ⟨⟨rfl, by decide +kernel, by decide +kernel, by decide +kernel, by decide, by decide +kernel⟩, by decide +kernel, by decide +kernel⟩
theorem witness_SignedBlobs_partition : Pending (blobbed (blob 3 partitionPayload)) (blob 3 partitionPayload) [] 3 ∧
    (blobbed (blob 3 partitionPayload)).partitionBad (blobPayload (blob 3 partitionPayload)) = false ∧
    (({ base with mgmt := { base.mgmt with owner := [4], queue := [] } } : State).configure (blobPayload (blob 3 partitionPayload))).isSome = true :=
  ⟨⟨rfl, by decide +kernel, by decide +kernel, by decide +kernel, by decide, by decide +kernel⟩, by decide +kernel, by decide +kernel⟩
theorem witness_SignedBlobs_small : Pending (blobbed (blob 5 [15, 1])) (blob 5 [15, 1]) [] 5 ∧ (byteAt (blobPayload (blob 5 [15, 1])) 0).toNat < 16 ∧
    Pending (blobbed (blob 6 (toBytes 2 1800))) (blob 6 (toBytes 2 1800)) [] 6 ∧ field (blobPayload (blob 6 (toBytes 2 1800))) 0 2 = 1800 ∧
    blobMalformed (blob 7 [1]) = true ∧ blobMalformed (blob 1 [1]) = true :=
  ⟨⟨rfl, by decide +kernel, by decide +kernel, by decide +kernel, by decide, by decide +kernel⟩, by decide +kernel,
    ⟨rfl, by decide +kernel, by decide +kernel, by decide +kernel, by decide, by decide +kernel⟩, by decide +kernel, by decide +kernel, by decide +kernel⟩
theorem witness_SignedBlobs_switch : (({ base with ports := vset base.ports 15 { base.port 15 with nextKey := some [9] } } : State).port 15).nextKey = some [9] := by
  decide
theorem witness_Management : (1800 : Nat) ≤ base.mgmt.plmax ∧ base.mgmt.state = .ready ∧ base.mgmt.plwork < 1801 ∧ base.mgmt.nextStep < 8 ∧
    1745 * 100 < base.mgmt.plwork * 97 ∧ base.mgmt.below < 99 ∧ base.mgmt.plwork * 97 ≤ 1746 * 100 ∧ (∀ d, d < 4 → (base.die d).hot = false) ∧
    base.lostDie 3 = false := by decide
theorem witness_CommonChecks : FormOf .yield (me handling) { noHandler := true } [] ∧ (me handling).inHandler = true ∧ (me handling).status.tbank = false ∧
    handling.anyBusy 0 (me handling) [] = false ∧ FormOf .tret (me base) { privileged := true } [] ∧ (me base).status.super = false ∧
    FormOf (.mma 5 0 1) (me baseSel) { engine := true, mtile := true } [] ∧ isMTile (208 / 4) = false ∧
    FormOf (.selCfg 6) (me base) { engine := true, stile := true } [6] ∧ isSTile (0 / 4) = false ∧ (me inTrap).status.tbank = true ∧
    dividing.anyBusy 0 (me dividing) [9, 1, 2] = true ∧ FormOf (.add 9 1 2) (me dividing) {} [1, 2, 9] :=
  ⟨Or.inl rfl, by decide, by decide, by decide, Or.inl rfl, by decide, Or.inr (Or.inl ⟨rfl, _, rfl⟩), by decide, Or.inr (Or.inr (Or.inl ⟨rfl, _, rfl⟩)), by decide,
    by decide, by decide, Or.inr (Or.inr (Or.inr (Or.inr ⟨rfl, Or.inl ⟨_, rfl⟩⟩)))⟩
theorem witness_StepRunsDecoded : base.schedule = [] ∧ base.tick.agenda = [] ∧ base.tick.nextTile = some 0 ∧ base.tick.lockstepOf 0 = none ∧
    (base.tick.tile 0).fixed = false ∧ [] ++ 0 :: [1, 2, 3] = [0 * 4 + ((base.tick.tile 0).last.val + 1) % 4, 0 * 4 + ((base.tick.tile 0).last.val + 2) % 4,
      0 * 4 + ((base.tick.tile 0).last.val + 3) % 4, 0 * 4 + (base.tick.tile 0).last.val] ∧
    (∀ h ∈ [1, 2, 3], (base.tick.slot h).runs = false) ∧ (base.tick.slot 0).runs = true ∧ (base.tick.slot 0).killable = false ∧
    (base.tick.slot 0).freeze = none ∧ (base.tick.slot 0).heldBy = none ∧ (base.tick.slot 0).deferred = none ∧
    base.tick.kernelOf (base.tick.slot 0) = some (wordKernel 0x01319000) ∧ (wordKernel 0x01319000).code[(base.tick.slot 0).pc / 4]? = some 0x01319000 ∧
    decode (0x01319000 : BitVec 32).toNat = .ok (.add 6 6 8) := by
  refine ⟨by decide, by decide, by decide, by decide, by decide, by decide, by decide, by decide, by decide, by decide, by decide, by decide, by decide,
    by decide, by decide⟩
theorem witness_StepRunsDecoded_event : (base.post (.waitComplete 0)).tick.agenda = .waitComplete 0 :: [] ∧ (base.post (.waitComplete 0)).schedule = [] := by
  decide
theorem witness_MemoryCanonical : Memory.wf storing.mem ∧ ∃ t, step base = .next t := ⟨by decide, _, rfl⟩
theorem witness_NumberFormats : (254 : Nat) < 255 ∧ (3 : Nat) % 2 ^ 1 ≠ 0 ∧ 2 * (1 % 2 ^ 1) = 2 ^ 1 ∧ 2 ^ 2 < 2 * (3 % 2 ^ 2) ∧ 2 * (1 % 2 ^ 2) < 2 ^ 2 := by decide
theorem witness_ElementRules : Memory.wf base.mem ∧ (63 : Nat) < 64 ∧ (1023 : Nat) < 1024 ∧ (255 : Nat) < 256 := by decide
/-- A partition with shards of 256 buckets, die 0's at offset 0x100000. -/
def walkable : State := (base.onPart 0 (fun p => { p with nb := 8 })).onDie 0 (fun d => { d with shards := [(0, 0x100000, 0x10000)] })
theorem witness_WalkOrder : walkable.lostDie (shardOf 0x5000) = false ∧ (walkable.shardBase 0 (shardOf 0x5000)).isSome = true ∧ 1 ≤ (walkable.part 0).nb ∧
    (walkable.part 0).nb ≤ 64 := by decide
theorem witness_CounterInstructions : (me base).grant.k.getLsbD 0 = true ∧ Ready base {} [5] ∧ Ready base {} [6] := ⟨by decide, ready (by decide), ready (by decide)⟩

/-- The first 64 bytes of a blob of a TYPE with LEN n for the module with a SERIAL. -/
def blobHead (type n : Nat) (serial : Word) : Bytes :=
  toBytes 4 0x01424C42 ++ toBytes 2 1 ++ [BitVec.ofNat 8 type, 0] ++ toBytes 8 n ++ toBytes 8 serial.toNat ++ toBytes 8 0 ++ toBytes 8 1 ++ List.replicate 24 0
/-- A module blob: package 0, no master, every entry of the frame table 0. -/
def moduleBytes : Bytes := blobHead 2 20032 0 ++ (List.replicate 20032 0 ++ List.replicate 132 0)
/-- The payload of a blob with such a head. -/
theorem blob_payload (h p r : Bytes) (hl : h.length = 64) (hn : field (h ++ (p ++ r)) 8 4 = p.length) : blobPayload (h ++ (p ++ r)) = p := by
  rw [blobPayload, hn, ← hl, List.drop_left, List.take_left]
/-- The module with that blob at the head of its queue, no partition configured. -/
def unconfigured : State := { blobbed moduleBytes with parts := State.reset.parts }
theorem witness_SignedBlobs_module : Pending unconfigured moduleBytes [] 2 ∧ (∀ x ∈ (blobPayload moduleBytes).drop 64, x.toNat ≤ 15 ∨ x.toNat = 255) ∧
    (∀ i, i < 16 → (unconfigured.part i).configured = false) := by
  have hn : field moduleBytes 8 4 = 20032 := by decide +kernel
  have hp : blobPayload moduleBytes = List.replicate 20032 0 :=
    blob_payload _ _ _ (by decide +kernel) (by rw [List.length_replicate]; exact hn)
  refine ⟨⟨rfl, ?_, by decide +kernel, by decide +kernel, by decide, by decide +kernel⟩, ?_, by decide⟩
  · have hl : (decide (moduleBytes.length ≠ 64 + 20032 + 132)) = false := by
      have : (blobHead 2 20032 0).length = 64 := by decide +kernel
      rw [decide_eq_false_iff_not, not_not, moduleBytes, List.length_append, List.length_append, List.length_replicate, List.length_replicate, this]
    have h1 : field moduleBytes 0 4 = 0x01424C42 := by decide +kernel
    have h2 : field moduleBytes 4 2 = 1 := by decide +kernel
    have h3 : (byteAt moduleBytes 6).toNat = 2 := by decide +kernel
    have h4 : byteAt moduleBytes 7 = 0 := by decide +kernel
    have h5 : field moduleBytes 12 4 = 0 := by decide +kernel
    have h6 : allZero ((moduleBytes.drop 40).take 24) = true := by decide +kernel
    have h7 : payloadBad 2 (List.replicate 20032 0) = false := by
      have a : bitsN (field (List.replicate 20032 0) 0 2) 15 10 = 0 := by decide +kernel
      have b : bitsN (field (List.replicate 20032 0) 2 1) 7 1 = 0 := by decide +kernel
      have c : allZero (((List.replicate 20032 0).drop 3).take 61) = true := by decide +kernel
      simp only [payloadBad, a, b, c, List.length_replicate]
      rfl
    unfold blobMalformed
    rw [hn, hp, hl, h1, h2, h3, h4, h5, h6]
    dsimp only
    rw [h7]
    decide
  · rw [hp]
    intro x hx
    rw [List.eq_of_mem_replicate (List.mem_of_mem_drop hx)]
    exact Or.inl (by decide)
/-- The number that a number's bytes hold. -/
theorem ofBytes_toBytes (n v : Nat) (h : v < 256 ^ n) : ofBytes (toBytes n v) = v := by
  induction n generalizing v with
  | zero => simp at h; subst h; rfl
  | succ n ih =>
    have := ih (v / 256) (by rw [Nat.pow_succ] at h; omega)
    simp only [toBytes, bytesOfWord, ofBytes, wordOfBytes, List.foldr_cons] at this ⊢
    rw [this]
    simp only [BitVec.toNat_ofNat]
    omega
/-- A key blob of partition 15 and KEYID 63 for this module. -/
def keyBytes : Bytes := blobHead 4 208 Config.moduleSerial ++ ([15, 63] ++ List.replicate 206 0 ++ List.replicate 132 0)
theorem witness_SignedBlobs_memkey : Pending (blobbed keyBytes) keyBytes [] 4 ∧ fieldW keyBytes 16 8 = Config.moduleSerial ∧
    (byteAt (blobPayload keyBytes) 0).toNat < 16 ∧ 1 ≤ (byteAt (blobPayload keyBytes) 1).toNat ∧ (byteAt (blobPayload keyBytes) 1).toNat ≤ 63 := by
  refine ⟨⟨rfl, by decide +kernel, by decide +kernel, by decide +kernel, by decide, by decide +kernel⟩, ?_, by decide +kernel, by decide +kernel, by decide +kernel⟩
  have : ((keyBytes.drop 16).take 8) = toBytes 8 Config.moduleSerial.toNat := by rfl
  unfold fieldW field
  rw [this]
  rw [ofBytes_toBytes _ _ (by have := Config.moduleSerial.isLt; omega)]
  simp [wordN]

/-- The task's record WAITING for two decrements, in cycle 1. -/
def counting : State := { base.onRecord 0 0 (fun r => { r with count := 2, state := .waiting }) with cycle := 1 }
theorem witness_TaskRequests_decrement : counting.taskOf (me base).task = some { task0 with count := 2, state := .waiting } ∧
    handleDie (me base).task < 4 ∧ counting.reachedAt ≠ counting.cycle ∧ counting.unstarted (me base).task = false := by decide
/-- A DEC of the task's own record on its way, and a SPAWN whose issuer is gone. -/
def decreasing : State := asking (.dec (me base).task) false
/-- See `decreasing`. -/
def abandoned : State := (asking (.spawn spawnBlock none) true).onRecord 0 0 (fun _ => TaskRec.free)
theorem witness_TaskRecords_dec : (∃ q, decreasing.request 1 = some q) ∧ decreasing.taskOf (me base).task = some task0 ∧ decreasing.reached = [] ∧
    decreasing.unstarted (me base).task = false ∧ (asking (.spawn spawnBlock none) true).reported task0.scope = false :=
  ⟨⟨_, rfl⟩, by decide, by decide, by decide, by decide⟩
theorem witness_TaskRequests_stale : ∃ q, abandoned.request 1 = some q ∧ q.id = 1 ∧ q.kind = .spawn spawnBlock none ∧ abandoned.taskOf q.task = none :=
  ⟨_, rfl, rfl, rfl, by decide⟩
/-- The slot in the wait given, alone in a lockstep gang. -/
def late (w : Wait) : State := { (withMe (waiting w) (fun t => { t with gang := some 0 })) with gangs := [(0, { gang0 with lockstep := true })] }
theorem witness_WaitsEnd_lockstep : ((late (.counter 3 1)).slot 0).state = .blocked ∧ ((late (.counter 3 1)).slot 0).wait = some (.counter 3 1) ∧
    (late (.counter 3 1)).inLockstep ((late (.counter 3 1)).slot 0) = true ∧ (late (.counter 3 1)).issuing = false ∧
    ((late (.counter 3 1)).counter 0 3).toNat < 1 ∧ (Wait.idle 0).holdsIssue = false ∧ OnHold (late (.counter 3 1)) 0 :=
  ⟨by decide, by decide, by decide, by decide, by decide, by decide, by decide, _, rfl, by decide⟩
theorem witness_WaitsEnd_settled : ((waiting (.settled 5 1)).slot 0).wait = some (.settled 5 1) ∧ ((waiting (.tlb [])).slot 0).wait = some (.tlb []) ∧
    (waiting (.settled 5 1)).inLockstep ((waiting (.settled 5 1)).slot 0) = false := by decide
/-- The slot of a dead task, with a store to a tile on its way or not. -/
def settlingSlot (s : State) : State := withMe s (fun t => { t with settling := true, task := 0 })
theorem witness_TaskRecords_settled : noticed.requests = [] ∧ (noticed.slot 0).vq = [] ∧ (∀ n, n < 8 → (vget (noticed.tile (0 / 4)).gens n).queue = []) ∧
    (noticed.slot 0).gang = none ∧ ((settlingSlot base).slot 0).settling = true ∧ (settlingSlot base).effectsSettled 0 = true ∧
    ((settlingSlot storing).slot 0).settling = true ∧ (settlingSlot storing).effectsSettled 0 = false ∧ (∀ q ∈ (settlingSlot storing).requests, q.toHost = false) := by
  decide
theorem witness_Scopes_module : (scopeRec .active (some 0) 1).home = none ∧ (scopeRec .active (some 0) 1).awaits = [] ∧
    (scopeRec .cancelling none 3).home = none ∧ ({ scopeRec .active none 0 with depth := 32 } : ScopeRec).told = false ∧
    draining.owed = [] ∧ (scopeRec .cancelling none 3).acks = [] ∧ (scopeRec .cancelling none 3).cause = 1 := by decide
theorem witness_Scopes_again : ∃ q r, ({ cancelling (2 ^ 20 + 1) with scopes := base.scopes ++ [(1, scopeRec .cancelling (some 0) 1)] } : State).request 1 = some q ∧
    q.id = 1 ∧ ({ cancelling (2 ^ 20 + 1) with scopes := base.scopes ++ [(1, scopeRec .cancelling (some 0) 1)] } : State).scope 1 = some r ∧
    r.state = .cancelling ∧ r.home = none := ⟨_, _, rfl, rfl, rfl, rfl, rfl⟩
theorem witness_Commands_start : (∀ i ∈ (queued [command 4 ([1] ++ List.replicate 23 0 ++ List.replicate 4 255)]).instances, i.starting = false) ∧
    (queued [command 4 ([1] ++ List.replicate 23 0 ++ List.replicate 4 255)]).commands = [] ∧
    (queued []).diesOf 0 ≠ [] ∧ (queued []).mgmt.package < 1024 ∧
    ({ queued [] with parts := vset base.parts 0 { base.part 0 with tiles := Vector.replicate 4 0 } } : State).diesOf 0 = [] := by decide
theorem witness_SelectIssue_bind : ((selectHead resEntry).slot 208).sq = resEntry :: [] ∧ ((selectHead resEntry).tile (208 / 4)).sel.busy = none ∧
    (selectHead resEntry).enginesHold 208 = false ∧ ((selectHead resEntry).slot 208).heldBy = none ∧
    (∀ k, k < 4 → k ≠ 208 % 4 → ((selectHead resEntry).slot (208 / 4 * 4 + k)).sq = []) ∧ isSTile 52 = true := by decide
theorem witness_SystemInstructions_fill : (base.tlb 0).stale { home := 0, part := 0, gen := 0, w0 := 1, w1 := 0, w2 := 0 } = false := by decide
/-- A deferred trap behind an entry of the slot that is bound. -/
def deferringBound : State := withMe deferring (fun t => { t with vbound := [addEntry] })
theorem witness_SystemInstructions_bound : (deferringBound.slot 0).deferred = some (6, 9, 4) ∧ (deferringBound.slot 0).vbound ≠ [] ∧
    deferringBound.enginesHold 0 = false ∧ (deferringBound.slot 0).killNotice = false := by decide
theorem witness_SystemInstructions_walk : ∃ w, walkAt (walking 0) 1 = some w ∧ (walking 0).hasTurn w.home 64 w.part = true ∧ w.gen = (walking 0).gen w.home w.part ∧
    (∃ inv : Invalidation, inv.waits = none ∧ (base.tlb 0).dropped inv = [] ∧ base.pendingWith 0 ((base.tlb 0).dropped inv) = [] ∧ inv.slot < noSlot) :=
  ⟨_, rfl, by decide, by decide, invalidation, by decide⟩
theorem witness_ChannelEvents_strange : (some (9, 9) : Option (Nat × Nat)) ≠ some (((receiving true []).chan 0 4).serial, ((receiving true []).chan 0 4).chan) ∧
    ∃ x, (some x : Option (Nat × Nat)) = some (((receiving true []).chan 0 4).serial, ((receiving true []).chan 0 4).chan) := ⟨by decide, _, rfl⟩
/-- The module that keeps the time, with its ports in use. -/
def keeping : State := { base with mgmt := { base.mgmt with isMaster := true }, ports := vset base.ports 15 { base.port 15 with trained := true } }
theorem witness_HostAndTime_master : keeping.mgmt.isMaster = true ∧ (keeping.port 15).trained = true ∧ base.mgmt.isMaster = false := by decide
theorem witness_PacketEvents_retry : parking.invalidating 0 (shardOf (incoming 0).addr) = false ∧ parking.heldBack (incoming 0) = false ∧
    (incoming 0).enable = [] := by decide
/-- A command whose record has gone out, performed or not. -/
def recordSent (rs : List Request) : State := { completing with requests := rs, commands := completing.commands.map (fun c => { c with record := some 1 }) }
theorem witness_CompletionRecords_sent : (recordSent []).request 1 = none ∧ (recordSent storing.requests).request 1 ≠ none ∧
    ((recordSent []).commands.map (·.record)) = [some 1] ∧ (recordSent []).instances.find? (fun i => i.cmd == 3) = none := by decide
/-- Partition 0 with the home TLB of die 0 holding one entry for every address below 2^29. -/
def translating (w1 : Word) (s : State) : State := (s.onPart 0 (fun p => { p with ptwin := 0x10000000000 })).onDie 0 (fun d => { d with homeTlb :=
  { d.homeTlb with entries := [{ part := 0, home := 0, w0 := 13, w1 := w1, w2 := 0 }] } })
/-- A decided command whose record goes to address 64: DRAM of this module, or a page of package 1. -/
def reporting (w1 : Word) : State := translating w1 { completing with
  commands := completing.commands.map (fun c => { c with bytes := 1 :: List.replicate 15 0 ++ toBytes 8 64 ++ List.replicate 40 0 }) }
theorem witness_CompletionRecords_written : (reporting 0x600).translateNow 0 true .write 64 = .ok (.dram 0 64 0) ∧ (Target.dram 0 64 0).remote = false ∧
    (reporting 0x600).heldLines (.dram 0 64 0) 64 = [] ∧ (reporting 0x44600).translateNow 0 true .write 64 = .ok (.peer 1) ∧ (Target.peer 1).remote = true ∧
    ((reporting 0x600).commands.map (fun c => fieldW c.bytes 16 8)) = [64] := by decide +kernel
/-- A RUN with adapter 0 in the ring, its entry mapped, in a line that the host holds. -/
def adapting : State := (translating 0x600 (queued [command 4 ([1] ++ List.replicate 27 0)])).onDie 0 (fun d => { d with directory := [64] })
theorem witness_QueueEvents_adapter : (∀ b ∈ (queued [command 1 []]).queue 7 |>.ring, byteAt b 0 ≠ 4 ∨ field b 48 4 = 0xFFFFFFFF) ∧
    (∃ b, (adapting.queue 7).ring = b :: [] ∧ (adapting.queue 7).ahead = 0 ∧ byteAt b 0 = 4 ∧
      (let entry := adapting.adapterRead (adapting.queue 7).part 7 b
       entry.fault = false ∧ entry.lines = [(0, 64)]) ∧ (adapting.die 0).snooped.contains 64 = false) :=
  ⟨by decide, _, rfl, by decide, by decide, by decide +kernel, by decide⟩
/-- A zero-length read of the host on its way. -/
def confirming : State := { base with requests := storing.requests.map (fun r => { r with kind := .confirm, target := some (.host 64), remote := true }) }
theorem witness_HostAndTime_confirm : ∃ r, confirming.request 1 = some r ∧ r.toHost = true ∧ r.kind = .confirm := ⟨_, rfl, by decide, by decide⟩
/-- A saved task whose image lies where no address can. -/
def unreadable : State := resuming.onRecord 0 0 (fun r => { r with saved := -1 })
theorem witness_Preemption_unreadable : (unreadable.imageRead (unreadable.record 0 0).part (unreadable.handleOf 0 0) (unreadable.record 0 0).saved).fails = true ∧
    unreadable.storesPerformed (unreadable.handleOf 0 0) = true ∧ (unreadable.slot 0).task = unreadable.handleOf 0 0 ∧
    unreadable.taskOf (unreadable.handleOf 0 0) = some (unreadable.record 0 0) := by decide +kernel
theorem witness_SaveAndRestore_mapped : (mappedHome savable).saveRoom 0 ((mappedHome savable).imageSize 1) = some 0x10000 ∧
    (mappedHome savable).saveMapped 0 0x10000 ((mappedHome savable).imageSize 1) = none ∧ ((mappedHome savable).slot 1).status.tbank = false ∧
    RunsAt (mappedHome savable) ((me savable).x 6) { task0 with loc := some 1 } 1 :=
  ⟨by decide +kernel, by decide +kernel, by decide, ⟨by decide, by decide, by decide, by decide +kernel, rfl, rfl⟩⟩
/-- A task CHOSEN 4,096 cycles ago, for which the one of the tile, of a lower class, has to leave. -/
def contending : State := (mappedHome { ((tasking (fun r => { r with cls := 1 }) id).onRecord 0 1 (fun _ =>
    { task0 with state := .ready, ready := .chosen, loc := none })) with cycle := 4096 }).onPart 0 (fun p => { p with savebase := 0x10000, savesize := 0x100000 })
theorem witness_Preemption_displace : ∃ q, contending.chosen 0 0 = some (1, q) ∧ q.chosenAt + 4096 ≤ contending.cycle ∧ contending.displacing 0 = false ∧
    contending.pickVictims 0 (contending.handleOf 0 1) q = [[0]] ∧ (contending.preempt 0 false none).1 = true ∧ (frozen .issue).displacing 0 = false ∧
    (withMe (frozen .issue) (fun t => { t with freeze := some { freeze0 with held := false } })).displacing 0 = true :=
  ⟨_, rfl, by decide, by decide, by decide +kernel, by decide +kernel, by decide, by decide⟩
/-- The header of an image of 0x4800 bytes without resources. -/
def plainHeader (crc : Nat) : Bytes := toBytes 4 0x5A710001 ++ toBytes 4 1 ++ (List.replicate 7 (toBytes 4 0x4800)).flatten ++ toBytes 4 crc
/-- The second task PREEMPTED and held, with that image at 0x10000, of which all but the header reads 0. -/
def restorable : State := { ((mappedHome savable).onRecord 0 1 (fun r => { r with state := .preempted, held := true, loc := none, saved := 0x10000 })) with
  mem := Memory.write [] (2 ^ 40 + 0x10000) (plainHeader 0xFE0219C7) }
theorem witness_SaveAndRestore_held : (∃ r, restorable.taskOf ((me savable).x 6) = some r ∧ r.part = (me restorable).part ∧ r.state = .preempted ∧ r.held = true ∧
    r.gang = none ∧ r.saved = 0x10000 ∧ restorable.restorePlace r 0 = true) ∧
    Ready restorable { privileged := true } [6, 7, 5] ∧ PortFree restorable false :=
  ⟨⟨_, rfl, by decide, by decide, by decide, by decide, by decide, by decide⟩, ready (by decide), portFree (by decide)⟩

/-! ## Small steps, with results from the spec's examples -/

/-- One instruction of a state's slot carried out: what a function of its slot then shows. -/
def seen {α : Type} (o : Host.Outcome State Fault Refusal) (f : Slot → α) : Option α :=
  match o with
  | .next t => some (f (t.slot 0))
  | _ => none
/-- `base` with two registers set. -/
def operands (x y : Word) : State := withMe base (fun t => (t.setX 6 x).setX 8 y)
/-- R6 and spec/06 R129: addition wraps; ADDS saturates and sets SAT. -/
theorem test_add_wraps : seen (execAdd 5 6 8 (operands 0x7FFFFFFFFFFFFFFF 1)) (fun t => t.x 5) = some 0x8000000000000000 ∧
    seen (execAdds 5 6 8 (operands 0x7FFFFFFFFFFFFFFF 1)) (fun t => (t.x 5, t.flags)) = some (0x7FFFFFFFFFFFFFFF, 32) := by decide
theorem test_zero_register : seen (execAdd 0 6 8 (operands 5 7)) (fun t => (t.x 0, t.pc)) = some (0, 4) := by decide
/-- The sum of spec/06: LOOP with x7 = 16 leaves LC0 15 and 16 iterations, ending at `keep`. -/
theorem test_loop_example : seen (execLoop 7 5 (withMe base (fun t => t.setX 7 16))) (fun t => (t.main.lc0, t.main.loops.length, t.pc)) = some (15, 1, 4) := by
  decide
/-- spec/05's example: TILEID of tile 0x93 of package 5 is 0x593. -/
theorem test_tileid_example : srValue ({ (base.setSlot (0x93 * 4) (me base)) with cur := 0x93 * 4, mgmt := { base.mgmt with package := 5 } } : State) 0x013 =
    some 0x593 := by decide
/-- spec/01's example of a window address. -/
theorem test_window_example : ({ base with mgmt := { base.mgmt with package := 5 } } : State).windowAddr 147 0x12340 = 0xFFFE0164C0012340 := by decide
/-- spec/03's example: FP4 products under EB 0 and EB −2. -/
theorem test_contribution_example : ((({ a := 0, st := 0 } : AccElem).add 0 (.fin true 3 (-1) false)).1.add 0 (.fin false 1 (-1) false)).1.a = -2 ∧
    (({ a := 0, st := 0 } : AccElem).add 0 (.fin true 3 (-1) false)).2 = true ∧
    ((({ a := 0, st := 0 } : AccElem).add (-2) (.fin true 3 (-1) false)).1.add (-2) (.fin false 1 (-1) false)).1.a = -4 := by decide
/-- spec/03's example: 100 × (−3), then 3 × 2^−3, under EB −4. -/
theorem test_precision_change_example : ((({ a := 0, st := 0 } : AccElem).add (-4) (.fin true 300 0 false)).1.add (-4) (.fin false 3 (-3) false)) =
    ({ a := -4794, st := 0 }, false) := by decide
/-- spec/03's example: −299.625 into FP16 by RNE, and into E4M3 by SR on either side of U = 0xA3000000. -/
theorem test_epilogue_example : encodeNum 14 false 0 0 (.fin true 4794 (-4) false) = (0xDCAE, 1) ∧
    encodeNum 11 false 4 0xA2FFFFFF (.fin true 4794 (-4) false) = (0xF9, 1) ∧ encodeNum 11 false 4 0xA3000000 (.fin true 4794 (-4) false) = (0xFA, 1) := by decide
/-- spec/03's example: E4M3 code 0x5B under the scale 0x7A. -/
theorem test_scale_example : decodeNum 11 false [] 0x5B = .fin false 11 1 false ∧ scaleE8M0 0x7A false (.fin false 11 1 false) = .fin false 11 (-4) false := by
  decide
/-- spec/04's capped increment: 95 + 7 stays 95 below a cap of 100, 90 + 7 is 97. -/
theorem test_capped_increment_example : atomRegistered 0x000000000000E100D818C89806080401 4 95 7 100 = (95, 95) ∧
    atomRegistered 0x000000000000E100D818C89806080401 4 90 7 100 = (97, 90) := by decide
/-- spec/07's three sums: lane 0 holds 2^24, lanes 1 to 63 hold 1.0. -/
def sums : Slot := let r : VReg := BitVec.ofNat 2048 (ofBytes (toBytes 4 0x4B800000 ++ (List.replicate 63 (toBytes 4 0x3F800000)).flatten))
  { me base with v := vset (me base).v 4 r }
/-- The result in a general register of an operation on that vector. -/
def sumOf (op : VecOp) : Option (Word × BitVec 7) := let e := { addEntry with op := op, a := 4 }
  let o := vecCompute e (sums.vecIn 0 e)
  o.x.map (fun v => (v, o.flags))
theorem test_redfadd_example : sumOf .redfadd = some (0x4B80001F, 1) := by decide +kernel
theorem test_redfaddx_example : sumOf .redfaddx = some (0x4B800020, 1) := by decide +kernel
/-- spec/15 R315 by hand: Mix(256) begins with the bits 11 (the example's "1" differs from the rule, log 65). -/
theorem test_shard : shardOf 0x4000003000 = 3 := by decide
/-- spec/09's channel: depth 2, entries of 4 beats, QOFF 0x8000, a token of two beats in hand. -/
def example9 : State := pointing.onTile 0 (fun t => { t with
  chans := vset t.chans 9 { vget t.chans 9 with side := .receiver, state := .opened, depth := 2, entryBeats := 4, qoff := 0x8000, peer := some (0, 1, 4)
                                                tokens := [{ seq := 0, kind := .data, beats := 2, tail := true, time := 0 }] } })
theorem test_recv_example : seen (execRecv 5 9 example9) (fun t => t.x 5) = some 0x0000008000002900 := by decide
theorem test_recv_end_example : seen (execRecv 5 9 (example9.onChan 0 9 (fun e => { e with ended := some .endTok }))) (fun t => t.x 5) = some 0x901 := by decide
/-- spec/10's barrier: with the last arrival PHASE becomes 8, EXPECT 2, LASTKILLED 1, and the reply is the phase arrived in. -/
theorem test_barrier_example : (match execBarrierRequest 1 (barrierReq .barArrive [{ addr := win 0 64, arrived := none }] 2) with
    | .next t => some (BarrierWord.ofBytes (t.readMem 64 16), t.agenda)
    | _ => none) =
    some ({ expect := 2, arrived := 0, depart := 0, killed := 0, phase := 8, lastKilled := 1, lvl := 0, reserved := 0 }, [.replyArrival 1 7 false]) := by decide
/-- spec/13 R274: ECALL 3 with DISP10 SUPER saves its PC and cause, and enters the trap bank at the trap kernel's ENTRY. -/
theorem test_ecall : seen (execEcall 3 trapping) (fun t => (t.epc, t.ecause, t.etval, t.status.super, t.status.tbank, t.pc)) =
    some (0, 10, 3, true, true, 0) := by decide
/-- spec/13 R276: TRET resumes at EPC in USER mode. -/
theorem test_tret : seen (execTret inTrap) (fun t => (t.status.tbank, t.pc)) = some (false, 8) := by decide
/-- spec/05's ADD x6, x6, x8, fetched and stepped. -/
theorem test_decode_then_step : seen (step base) (fun t => (t.pc, t.x 6)) = some (4, 0) := by decide

/-- A request of tile 0 on its way to tile 1, which is in no partition. -/
def stray (s : State) : State := s.onRequest 1 (fun r => { r with target := some (.tile 1 64) })
theorem witness_GuardDrops : ((stray storing).request 1).map (fun r => (r.id, r.phase, r.target, r.src % 4096 / 16)) = some (1, .inTile, some (.tile 1 64), 0) ∧
    ((stray storing).tile 1).part = none ∧ (stray storing).served 0 0 (.tile 1 64) = true ∧
    (((stray storing).request 1).map (fun r => (stray storing).overlapBefore r 8)) = some false ∧
    ((stray storing).request 1).map (·.kind) = some (.store (toBytes 8 (win 0 64).toNat)) ∧ ((stray loading).request 1).map (·.kind) = some (.load 8 6) ∧
    ((stray adding).request 1).map (·.kind) = some (.atomic 0 8 0 0) ∧ (stray storing).mgmt.guardLog.length < 4096 := by decide
/-- spec/17 Table 17.4: KIND 2, REASON 1, GPOS 1, SRC tile 0 unit 0, DEST tile 1 in no partition, TS 0, ADDR. -/
theorem test_guard_drop : (match execStorePerform 1 (stray storing) with
    | .next t => some (t.mgmt.guardLog, t.requests, t.mem)
    | _ => none) = some ([[2, 1, 1, 0, 0, 0, 0, 0, 0x10, 0, 0xC0, 3, 0, 0, 0, 0, 0, 0, 0, 0, 0, 0, 0, 0] ++ toBytes 8 (win 0 64).toNat], [], []) := by decide
theorem witness_ReplyWrites_way : (loading.request 1).map (fun r => loading.returns r) = some true := by decide
theorem witness_BarrierWords_way : (barrierReq .barArrive [] 2).served 0 0 (.tile (64 / 2 ^ 30) (64 % 2 ^ 30)) = true ∧
    (barrierReq .barArrive [] 2).barred 0 0 (.tile (64 / 2 ^ 30) (64 % 2 ^ 30)) = false := by decide
theorem witness_ChannelEvents_way : messaging.messageServed 0 (some 1) = true ∧ messaging.messageBarred 0 (some 1) = none ∧
    messaging.messageServed 1 (some 1) = true ∧ ((messaging.request 1).map (fun r => (r.src % 4096 / 16, r.part))) = some (0, 0) ∧ (base.tile 1).part = none := by
  decide
theorem witness_ChannelEvents_passes : (receiving true []).deferred.any (Instr.tokenFor 0 4) = false ∧ ((receiving true []).tile 0).part = some 0 ∧
    base.deferred.any (Instr.tokenFor 1 4) = false ∧ base.served 0 0 (.tile 1 0) = true := by decide
theorem witness_PacketEvents_way : base.carries 0 0 (.tile 0 0x100) = true ∧ parking.carries 0 0 (.tile 0 0x100) = true := by decide +kernel
/-- A fill on its way in a module whose partitions have no time slot, and one in a module where partition 0 has them all. -/
def onTheWay (frame : Bytes) : State := { base with mgmt := { base.mgmt with frame := frame }, agenda := [.tlbFill 0 { home := 0, part := 0, gen := 0, w0 := 0, w1 := 0, w2 := 0 }] }
theorem witness_StepRunsDecoded_way : (onTheWay []).schedule = [] ∧ (onTheWay []).tick.agenda = (onTheWay []).agenda ∧
    (onTheWay []).agenda.all (onTheWay []).heldUp = true ∧ (onTheWay (List.replicate 128 0)).agenda.all (onTheWay (List.replicate 128 0)).heldUp = false := by decide

end Sys2Proof.Tests
end

namespace Sys2Proof.Machine

/-! ## Contributions to an accumulator element (spec/03 R72) -/

theorem floorShift_of_nonneg {v k : Int} (h : 0 ≤ k) : floorShift v k = (v * 2 ^ k.toNat, true) := by
  simp [floorShift, h]

theorem floorShift_of_neg {v k : Int} (h : k < 0) :
    floorShift v k = (v / 2 ^ (-k).toNat, decide (v % 2 ^ (-k).toNat = 0)) := by
  simp [floorShift, Int.not_le.mpr h]

/-- A contribution below the base: t is its floor, and inexact unless t gives it back. -/
theorem floorShift_floor {v e eb : Int} (h : e < eb) :
    (floorShift v (e - eb)).1 * 2 ^ (eb - e).toNat ≤ v ∧ v < ((floorShift v (e - eb)).1 + 1) * 2 ^ (eb - e).toNat ∧
      (!(floorShift v (e - eb)).2) = decide ((floorShift v (e - eb)).1 * 2 ^ (eb - e).toNat ≠ v) := by
  have hpos : (0 : Int) < 2 ^ (eb - e).toNat := by positivity
  have hexact : v / 2 ^ (eb - e).toNat * 2 ^ (eb - e).toNat = v ↔ v % 2 ^ (eb - e).toNat = 0 :=
    ⟨fun hv => Int.emod_eq_zero_of_dvd (Dvd.intro_left _ hv), Int.ediv_mul_cancel_of_emod_eq_zero⟩
  rw [floorShift_of_neg (Int.sub_neg_of_lt h), Int.neg_sub]
  exact ⟨Int.ediv_mul_le _ hpos.ne', Int.lt_ediv_add_one_mul_self _ hpos, by simp only [ne_eq, hexact, decide_not]⟩

theorem AccElem.clamp_below {st : Nat} {v : Int} (h : v < -2 ^ 127) : AccElem.clamp st v = { a := -2 ^ 127, st := st ||| 8 } := by
  have hs : sat v (-(2 ^ 127)) (2 ^ 127 - 1) = -2 ^ 127 := by unfold sat; omega
  simp only [AccElem.clamp, hs, if_neg (Int.ne_of_gt h)]

theorem AccElem.clamp_above {st : Nat} {v : Int} (h : 2 ^ 127 - 1 < v) : AccElem.clamp st v = { a := 2 ^ 127 - 1, st := st ||| 8 } := by
  have hs : sat v (-(2 ^ 127)) (2 ^ 127 - 1) = 2 ^ 127 - 1 := by unfold sat; omega
  simp only [AccElem.clamp, hs, if_neg (Int.ne_of_lt h)]

theorem AccElem.clamp_within {st : Nat} {v : Int} (hl : -2 ^ 127 ≤ v) (hu : v ≤ 2 ^ 127 - 1) : AccElem.clamp st v = { a := v, st := st } := by
  have hs : sat v (-(2 ^ 127)) (2 ^ 127 - 1) = v := by unfold sat; omega
  simp only [AccElem.clamp, hs, if_pos]

/-- A finite contribution adds the floor of c × 2^(−EB) with saturation; INX is set when the floor is not exact. -/
theorem AccElem.add_fin (x : AccElem) (eb e : Int) (neg sticky : Bool) (q : Nat) :
    x.add eb (.fin neg q e sticky) =
      (AccElem.clamp x.st (x.a + (floorShift (if neg then -(q : Int) else q) (e - eb)).1),
        !(floorShift (if neg then -(q : Int) else q) (e - eb)).2) := rfl

/-- An element that its 16 bytes and its 4 status bits can hold (spec/03 R71). -/
structure AccElem.Fits (x : AccElem) : Prop where
  lower : -2 ^ 127 ≤ x.a
  upper : x.a ≤ 2 ^ 127 - 1
  status : x.st < 2 ^ 4

theorem AccElem.Fits.orStatus {x : AccElem} (h : x.Fits) {st : Nat} (hst : st < 2 ^ 4) :
    AccElem.Fits { x with st := x.st ||| st } :=
  ⟨h.lower, h.upper, Nat.or_lt_two_pow h.status hst⟩

theorem AccElem.clamp_fits {st : Nat} (v : Int) (h : st < 2 ^ 4) : (AccElem.clamp st v).Fits := by
  refine ⟨le_max_left _ _, max_le (by decide) (min_le_right _ _), ?_⟩
  simp only [AccElem.clamp]
  split
  · exact h
  · exact Nat.or_lt_two_pow h (by decide)

theorem AccElem.add_fits {x : AccElem} (h : x.Fits) (eb : Int) (c : Num) : (x.add eb c).1.Fits := by
  cases c with
  | nan _ => exact h.orStatus (by decide)
  | inf neg => exact h.orStatus (by cases neg <;> decide)
  | fin neg q e sticky => rw [AccElem.add_fin]; exact AccElem.clamp_fits _ h.status

/-! ## Elements and fields of an accumulator tile in memory (spec/04 R84) -/

theorem sextN_range (v : Nat) : -2 ^ 127 ≤ sextN v 128 ∧ sextN v 128 ≤ 2 ^ 127 - 1 := by
  simp only [sextN, testN, beq_iff_eq]
  split <;> omega

theorem sextN_emod {a : Int} (hl : -2 ^ 127 ≤ a) (hu : a ≤ 2 ^ 127 - 1) : sextN (a % (2 ^ 128 : Nat)).toNat 128 = a := by
  simp only [sextN, testN, beq_iff_eq]
  split <;> omega

theorem State.at_writeMem (s : State) (k : Nat) (bs : Bytes) (a : Nat) :
    Memory.at_ (s.writeMem k bs).mem a = if k ≤ a ∧ a < k + bs.length then bs.getD (a - k) 0 else Memory.at_ s.mem a :=
  Memory.at_write _ _ _ _

theorem State.readMem_writeMem_apart (s : State) {k : Nat} {bs : Bytes} {a n : Nat} (h : a + n ≤ k ∨ k + bs.length ≤ a) :
    (s.writeMem k bs).readMem a n = s.readMem a n :=
  Memory.read_write_apart _ _ _ _ _ h

theorem State.ofBytes_readMem_writeMem (s : State) (k : Nat) {n v : Nat} (h : v < 256 ^ n) :
    ofBytes ((s.writeMem k (toBytes n v)).readMem k n) = v := by
  have hread := Memory.read_write s.mem k (toBytes n v)
  rw [Tests.toBytes_length] at hread
  rw [State.readMem, State.writeMem, hread, Tests.ofBytes_toBytes n v h]

theorem State.accElem_fits (s : State) (gt n k : Nat) : (s.accElem gt n k).Fits := by
  obtain ⟨hl, hu⟩ := sextN_range (ofBytes (s.readMem (accKey gt n + 16 * k) 16))
  exact ⟨hl, hu, Nat.mod_lt _ (by decide)⟩

/-- An element depends on its 16 bytes and its status byte alone. -/
theorem State.accElem_writeMem_apart (s : State) {gt n e k : Nat} {bs : Bytes}
    (ha : accKey gt n + 16 * e + 16 ≤ k ∨ k + bs.length ≤ accKey gt n + 16 * e)
    (hst : statusKey gt n + e / 2 < k ∨ k + bs.length ≤ statusKey gt n + e / 2) :
    (s.writeMem k bs).accElem gt n e = s.accElem gt n e := by
  rw [State.accElem, State.readMem_writeMem_apart s ha, State.at_writeMem, if_neg (by omega)]
  rfl

/-- The status byte of a pair of elements, with the nibble of element e replaced. -/
def statusWith (old e st : Nat) : Nat := if e % 2 = 0 then old / 16 * 16 + st else old % 16 + st * 16

theorem State.setAccElem_eq (s : State) (gt n e : Nat) (x : AccElem) :
    s.setAccElem gt n e x = (s.writeMem (accKey gt n + 16 * e) (toBytes 16 (x.a % (2 ^ 128 : Nat)).toNat)).writeMem
      (statusKey gt n + e / 2) [BitVec.ofNat 8 (statusWith (Memory.at_ s.mem (statusKey gt n + e / 2)).toNat e x.st)] := rfl

theorem statusWith_same (old : Nat) {e st : Nat} (hst : st < 2 ^ 4) :
    (BitVec.ofNat 8 (statusWith old e st)).toNat / 16 ^ (e % 2) % 16 = st := by
  rw [BitVec.toNat_ofNat]
  rcases Nat.mod_two_eq_zero_or_one e with he | he <;> simp only [statusWith, he, reduceIte, one_ne_zero] <;> omega

theorem statusWith_other (old : Nat) {e k st : Nat} (hst : st < 2 ^ 4) (hk : k % 2 ≠ e % 2) :
    (BitVec.ofNat 8 (statusWith old e st)).toNat / 16 ^ (k % 2) % 16 = old / 16 ^ (k % 2) % 16 := by
  rw [BitVec.toNat_ofNat]
  rcases Nat.mod_two_eq_zero_or_one e with he | he
  · have hk1 : k % 2 = 1 := by omega
    simp only [statusWith, he, hk1, reduceIte]; omega
  · have hk0 : k % 2 = 0 := by omega
    simp only [statusWith, he, hk0, one_ne_zero, reduceIte]; omega

section
variable {gt n e k : Nat} (hn : n < 64) (he : e < 1024)
include hn he

theorem accKey_elem_le_statusKey (m : Nat) : accKey gt n + 16 * e + 16 ≤ statusKey gt m := by
  unfold accKey statusKey sramKey; omega

theorem status_lt_fieldKey (m : Nat) : statusKey gt n + e / 2 < fieldKey gt m := by
  unfold statusKey fieldKey sramKey; omega

theorem State.accElem_setAccElem_same (s : State) {x : AccElem} (hx : x.Fits) :
    (s.setAccElem gt n e x).accElem gt n e = x := by
  have hapart := accKey_elem_le_statusKey (gt := gt) hn he n
  have ha : (x.a % (2 ^ 128 : Nat)).toNat < 256 ^ 16 := by omega
  rw [State.setAccElem_eq, State.accElem, State.readMem_writeMem_apart _ (.inl (by omega)), State.ofBytes_readMem_writeMem _ _ ha,
    sextN_emod hx.lower hx.upper, State.at_writeMem, if_pos (by simp), Nat.sub_self, List.getD_cons_zero,
    statusWith_same _ hx.status]

theorem State.accElem_setAccElem_ne (s : State) {x : AccElem} (hx : x.Fits) (hk : k < 1024) (hne : k ≠ e) :
    (s.setAccElem gt n e x).accElem gt n k = s.accElem gt n k := by
  have heS := accKey_elem_le_statusKey (gt := gt) hn he n
  have hkS := accKey_elem_le_statusKey (gt := gt) hn hk n
  have hlen := Tests.toBytes_length 16 (x.a % (2 ^ 128 : Nat)).toNat
  have hvalue : (s.writeMem (accKey gt n + 16 * e) (toBytes 16 (x.a % (2 ^ 128 : Nat)).toNat)).accElem gt n k = s.accElem gt n k :=
    State.accElem_writeMem_apart s (by omega) (by omega)
  rw [State.setAccElem_eq]
  by_cases hbyte : k / 2 = e / 2
  · have hnibble : k % 2 ≠ e % 2 := by omega
    rw [State.accElem, State.readMem_writeMem_apart _ (.inl (by omega)), State.readMem_writeMem_apart _ (by omega),
      State.at_writeMem, hbyte, if_pos (by simp), Nat.sub_self, List.getD_cons_zero,
      statusWith_other _ hx.status hnibble, ← hbyte]
    rfl
  · rw [State.accElem_writeMem_apart _ (.inl (by omega)) (by simp only [List.length_singleton]; omega), hvalue]

theorem State.accElem_setAccFields (s : State) (eb : Int) (inx : Bool) :
    (s.setAccFields gt n eb inx).accElem gt n e = s.accElem gt n e := by
  have hS := accKey_elem_le_statusKey (gt := gt) hn he n
  have hF := status_lt_fieldKey (gt := gt) hn he n
  exact State.accElem_writeMem_apart s (.inl (by omega)) (.inl hF)

end

@[simp] theorem State.accInx_setAccFields (s : State) (gt n : Nat) (eb : Int) (inx : Bool) :
    (s.setAccFields gt n eb inx).accInx gt n = inx := by
  have hbit : bit inx = inx.toNat := by cases inx <;> rfl
  have hle := Bool.toNat_le inx
  have hv : (eb % (2 ^ 16 : Nat)).toNat + 2 ^ 16 * inx.toNat < 256 ^ 8 := by omega
  have hdiv : ((eb % (2 ^ 16 : Nat)).toNat + 2 ^ 16 * inx.toNat) / 2 ^ 16 % 2 = inx.toNat := by omega
  rw [State.setAccFields, State.accInx, hbit, State.ofBytes_readMem_writeMem _ _ hv, testN, hdiv]
  cases inx <;> rfl

/-! ## Elements changed one by one, and the merge of two tiles -/

/-- `mapAcc` writes an element where it changes. -/
theorem State.mapAcc_concat (s : State) (gt n : Nat) (es : List Nat) (e : Nat) (f : Nat → AccElem → AccElem × Bool) :
    s.mapAcc gt n (es ++ [e]) f =
      let t := (s.mapAcc gt n es f).1
      let r := f e (t.accElem gt n e)
      (if r.1 = t.accElem gt n e then t else t.setAccElem gt n e r.1, (s.mapAcc gt n es f).2 || r.2) := by
  rw [State.mapAcc, List.foldl_append]; rfl

section
variable {gt n k : Nat} {f : Nat → AccElem → AccElem × Bool} {es : List Nat} (s : State) (hn : n < 64) (hk : k < 1024)
include hn hk

theorem State.accElem_ite_setAccElem {e : Nat} {x : AccElem} (he : e < 1024) (hx : x.Fits) :
    (if x = s.accElem gt n e then s else s.setAccElem gt n e x).accElem gt n k = if k = e then x else s.accElem gt n k := by
  split <;> rename_i hsame
  · split
    · next h => rw [h, hsame]
    · rfl
  · split
    · next h => rw [h, State.accElem_setAccElem_same hn he s hx]
    · next h => rw [State.accElem_setAccElem_ne hn he s hx hk h]

theorem State.accElem_mapAcc (hf : ∀ e x, x.Fits → (f e x).1.Fits) (hes : ∀ e ∈ es, e < 1024) (hnd : es.Nodup) :
    (s.mapAcc gt n es f).1.accElem gt n k = if k ∈ es then (f k (s.accElem gt n k)).1 else s.accElem gt n k := by
  induction es using List.reverseRecOn with
  | nil => rfl
  | append_singleton es e ih =>
    rw [← List.concat_eq_append, List.nodup_concat] at hnd
    obtain ⟨hnew, hnd⟩ := hnd
    have ih := ih (fun i hi => hes i (List.mem_append_left _ hi)) hnd
    rw [State.mapAcc_concat, State.accElem_ite_setAccElem _ hn hk (hes e (by simp)) (hf _ _ (State.accElem_fits _ _ _ _)), ih]
    by_cases hke : k = e
    · subst hke; simp [hnew, ih]
    · simp [hke]

theorem State.mapAcc_flag (hf : ∀ e x, x.Fits → (f e x).1.Fits) (hes : ∀ e ∈ es, e < 1024) (hnd : es.Nodup) (hmem : k ∈ es)
    (hset : (f k (s.accElem gt n k)).2 = true) : (s.mapAcc gt n es f).2 = true := by
  induction es using List.reverseRecOn with
  | nil => cases hmem
  | append_singleton es e ih =>
    rw [← List.concat_eq_append, List.nodup_concat] at hnd
    obtain ⟨hnew, hnd⟩ := hnd
    have hes' : ∀ i ∈ es, i < 1024 := fun i hi => hes i (List.mem_append_left _ hi)
    rw [State.mapAcc_concat, Bool.or_eq_true]
    rcases List.mem_append.mp hmem with hold | hlast
    · exact .inl (ih hes' hnd hold)
    · obtain rfl := List.mem_singleton.mp hlast
      have hkept := State.accElem_mapAcc (gt := gt) s hn hk hf hes' hnd
      rw [if_neg hnew] at hkept
      exact .inr (by rw [hkept, hset])

end

/-- The merge of the source's element e into the destination's: one contribution, and the status bits ORed in (spec/03 R72). -/
def State.mergeElem (s : State) (gt n src e : Nat) (x : AccElem) : AccElem × Bool :=
  let y := s.accElem gt src e
  let z := x.add (s.accEb gt n) (.fin (decide (y.a < 0)) y.a.natAbs (s.accEb gt src) false)
  ({ z.1 with st := z.1.st ||| y.st }, z.2)

theorem State.accAdd_eq (s : State) (gt n src : Nat) :
    s.accAdd gt n src =
      (s.mapAcc gt n (List.range 1024) (s.mergeElem gt n src)).1.setAccFields gt n (s.accEb gt n)
        (s.accInx gt n || s.accInx gt src || (s.mapAcc gt n (List.range 1024) (s.mergeElem gt n src)).2) := rfl

theorem State.mergeElem_fits (s : State) (gt n src e : Nat) (x : AccElem) (h : x.Fits) : (s.mergeElem gt n src e x).1.Fits :=
  (AccElem.add_fits h _ _).orStatus (s.accElem_fits gt src e).status

section
variable {gt n src k : Nat} (s : State) (hn : n < 64) (hk : k < 1024)
include hn hk

theorem State.accElem_accAdd : (s.accAdd gt n src).accElem gt n k = (s.mergeElem gt n src k (s.accElem gt n k)).1 := by
  rw [State.accAdd_eq, State.accElem_setAccFields hn hk,
    State.accElem_mapAcc s hn hk (s.mergeElem_fits gt n src) (fun _ => List.mem_range.mp) List.nodup_range,
    if_pos (List.mem_range.mpr hk)]

theorem State.accInx_accAdd (h : (s.mergeElem gt n src k (s.accElem gt n k)).2 = true) : (s.accAdd gt n src).accInx gt n = true := by
  have hflag := State.mapAcc_flag s hn hk (s.mergeElem_fits gt n src) (fun _ => List.mem_range.mp) List.nodup_range
    (List.mem_range.mpr hk) h
  rw [State.accAdd_eq, State.accInx_setAccFields, hflag, Bool.or_true]

end

/-- Settles O58: A + t is clamped in each of its three ranges, and the merge is `mapAcc` over all elements of the tile. -/
theorem elementRules : Obligations.ElementRules := by
  unfold Obligations.ElementRules
  refine ⟨fun _ _ _ => ⟨rfl, rfl⟩, fun x eb e neg q => ⟨(floorShift (if neg then -(q : Int) else q) (e - eb)).1, ?_⟩,
    fun s gt n src k _ _ hn _ hk => ⟨s.accElem_accAdd hn hk, s.accInx_accAdd hn hk⟩⟩
  extract_lets c
  rw [AccElem.add_fin]
  refine ⟨fun h => ?_, fun h => ?_, fun h => AccElem.clamp_below h, fun h => AccElem.clamp_above h, AccElem.clamp_within⟩
  · rw [floorShift_of_nonneg (Int.sub_nonneg.mpr h)]
    exact ⟨rfl, rfl⟩
  · exact floorShift_floor h

end Sys2Proof.Machine

namespace Sys2Proof.Machine

open Sys2Proof.Claims

/-! ## Literal loads (spec/06 R134; spec/05 R121) -/

/-- An instruction that may issue gives what its own part, run on the slot, concludes (spec/05 R110). -/
theorem State.issue_of_ready {s : State} {f : Form} {rs : List Reg} (h : Ready s f rs) (body : Slot → Issue) :
    s.issue f rs body = s.conclude (body (me s)) := by
  obtain ⟨hbusy, hform⟩ := h
  simp only [State.issue, hbusy, hform, Bool.false_eq_true, if_false]

theorem State.retire_eq_retired (s : State) (f : Slot → Slot) : s.retire s.cur f = retired s f := rfl

theorem State.literal_of_kernelOf {s : State} {t : Slot} {k : Kernel} (hk : s.kernelOf t = some k) (idx : Nat) :
    s.literal t idx = k.literals[idx]? := by
  rw [State.literal, hk]

/-- A literal load, `f` the reading of the table's 64-bit entry: LIT takes it whole, LIT.W its low half. -/
def State.loadLiteral (s : State) (d : Reg) (idx : BitVec 14) (f : Word → Word) : Host.Outcome State Fault Refusal :=
  s.issue {} [d] (fun t => match s.literal t idx.toNat with
    | some v => .done (s.retire s.cur (fun t => t.setX d (f v)))
    | none => s.trapWord t 1)

theorem exec_lit (d : Reg) (idx : BitVec 14) (s : State) : exec (.lit d idx) s = s.loadLiteral d idx id := rfl

theorem exec_litW (d : Reg) (idx : BitVec 14) (s : State) : exec (.litW d idx) s = s.loadLiteral d idx sextW := rfl

section
variable {s : State} {d : Reg} {idx : BitVec 14} {k : Kernel} (f : Word → Word)
  (hk : s.kernelOf (me s) = some k) (hr : Ready s {} [d])
include hk hr

theorem State.loadLiteral_of_literal {v : Word} (hv : k.literals[idx.toNat]? = some v) :
    s.loadLiteral d idx f = .next (retired s (fun t => t.setX d (f v))) := by
  simp only [State.loadLiteral, State.issue_of_ready hr, State.literal_of_kernelOf hk, hv, State.conclude, State.retire_eq_retired]

theorem State.loadLiteral_of_length_le (hle : k.literals.length ≤ idx.toNat) :
    s.loadLiteral d idx f = .next (s.takeTrap s.cur 1 (s.wordAt (me s))) := by
  have hnone : k.literals[idx.toNat]? = none := List.getElem?_eq_none hle
  simp only [State.loadLiteral, State.issue_of_ready hr, State.literal_of_kernelOf hk, hnone, State.trapWord, State.conclude]

end

/-- Settles O7: both instructions are `loadLiteral`, which either finds the entry or, at or above NLIT, traps. -/
theorem literals : Obligations.Literals := by
  unfold Obligations.Literals
  intro s d idx k hk hr
  refine ⟨fun v hv => ⟨?_, ?_⟩, fun hle => ⟨?_, ?_⟩⟩
  · exact (exec_lit d idx s).trans (State.loadLiteral_of_literal id hk hr hv)
  · exact (exec_litW d idx s).trans (State.loadLiteral_of_literal sextW hk hr hv)
  · exact (exec_lit d idx s).trans (State.loadLiteral_of_length_le id hk hr hle)
  · exact (exec_litW d idx s).trans (State.loadLiteral_of_length_le sextW hk hr hle)

end Sys2Proof.Machine

namespace Sys2Proof.Machine

open Sys2Proof.Claims

/-! ## Completion counters (spec/09 R222) -/

theorem testN_toNat {w : Nat} (v : BitVec w) (n : Nat) : testN v.toNat n = v.getLsbD n := by
  simp only [testN, BitVec.getLsbD, Nat.testBit_eq_decide_div_mod_eq, beq_eq_decide]

theorem Slot.hasK_eq (t : Slot) (k : Fin 16) : t.hasK k = t.grant.k.getLsbD k.val := testN_toNat _ _

theorem State.tile_setCounter (s : State) (g k : Nat) (v : BitVec 16) :
    (s.setCounter g k v).tile g = { s.tile g with k := vset (s.tile g).k k v } := State.tile_onTile ..

theorem State.tile_setCounter_frame (s : State) (g k : Nat) (v : BitVec 16) :
    (s.setCounter g k v).tile g = { s.tile g with k := ((s.setCounter g k v).tile g).k } := by
  rw [State.tile_setCounter]

theorem State.tile_setCounter_ne (s : State) {g h : Nat} (k : Nat) (v : BitVec 16) (hne : h ≠ g) :
    (s.setCounter g k v).tile h = s.tile h := State.tile_setTile_ne _ _ _ _ hne

theorem State.counter_setCounter (s : State) (g : Nat) {k m : Nat} (v : BitVec 16) (hk : k < 16) (hm : m < 16) :
    (s.setCounter g k v).counter g m = if m = k then v else s.counter g m := by
  simp only [State.counter, State.tile_setCounter]
  split
  · next h => rw [h, vget_vset]
  · next h => exact vget_vset_ne _ _ _ _ (by omega)

theorem sat_eq_self_iff {v lo hi : Int} (h : lo ≤ hi) : sat v lo hi = v ↔ ¬(v < lo ∨ hi < v) := by
  unfold sat; omega

/-- A sum saturated to 0 to 65,535 is held by the 16 bits of COUNT. -/
theorem toNat_ofInt_sat (v : Int) : ((BitVec.ofInt 16 (sat v 0 65535)).toNat : Int) = sat v 0 65535 := by
  have hrange : 0 ≤ sat v 0 65535 ∧ sat v 0 65535 ≤ 65535 := by unfold sat; omega
  rw [BitVec.toNat_ofInt]
  omega

theorem Slot.orFlags_ite (t : Slot) (p : Prop) [Decidable p] (x : BitVec 7) :
    t.orFlags (if p then x else 0) = { t with flags := if p then t.flags ||| x.setWidth 64 else t.flags } := by
  split <;> simp [Slot.orFlags]

theorem exec_kRd (d : Reg) (k : Fin 16) (s : State) : exec (.kRd d k) s = execKRd d k s := rfl

theorem exec_kAdd (k : Fin 16) (b : Reg) (s : State) : exec (.kAdd k b) s = execKAdd k b s := rfl

/-- COUNT + Sext(X[b], 64), the sum of K.ADD before it is saturated. -/
def State.counterSum (s : State) (k : Fin 16) (b : Reg) : Int := (s.counter (s.cur / 4) k.val).toNat + ((me s).x b).toInt

/-- The state after K.ADD. -/
def State.counterAdded (s : State) (k : Fin 16) (b : Reg) : State :=
  (s.setCounter (s.cur / 4) k.val (BitVec.ofInt 16 (sat (s.counterSum k b) 0 65535))).retire s.cur
    (fun t => t.orFlags (if sat (s.counterSum k b) 0 65535 = s.counterSum k b then 0 else flagSat))

section
variable {s : State} {k : Fin 16} (hk : (me s).grant.k.getLsbD k.val = true)
include hk

theorem gives_kRd {d : Reg} (hr : Ready s {} [d]) :
    Gives (.kRd d k) s (Claims.answered s d ((s.counter (s.cur / 4) k.val).setWidth 64)) := by
  rw [Gives, exec_kRd, execKRd, State.issue_of_ready hr, Slot.hasK_eq, hk]
  rfl

theorem gives_kAdd {b : Reg} (hr : Ready s {} [b]) : Gives (.kAdd k b) s (s.counterAdded k b) := by
  rw [Gives, exec_kAdd, execKAdd, State.issue_of_ready hr, Slot.hasK_eq, hk]
  rfl

end

section
variable (s : State) (k : Fin 16) (b : Reg)

theorem State.slot_counterAdded :
    (s.counterAdded k b).slot s.cur =
      { me s with flags := if s.counterSum k b < 0 ∨ 65535 < s.counterSum k b then (me s).flags ||| 32 else (me s).flags }.advance := by
  have hsat := sat_eq_self_iff (v := s.counterSum k b) (show (0 : Int) ≤ 65535 by decide)
  simp only [State.counterAdded, State.retire, State.slot_onSlot, hsat, ite_not, Slot.orFlags_ite]
  rfl

theorem State.slot_counterAdded_ne {h : Nat} (hne : h ≠ s.cur) : (s.counterAdded k b).slot h = s.slot h :=
  State.slot_onSlot_ne _ _ _ _ hne

theorem State.counter_counterAdded {m : Nat} (hm : m < 16) :
    (((s.counterAdded k b).counter (s.cur / 4) m).toNat : Int) =
      if m = k.val then max 0 (min 65535 (s.counterSum k b)) else (s.counter (s.cur / 4) m).toNat := by
  have hset : (s.counterAdded k b).counter (s.cur / 4) m = _ := State.counter_setCounter s (s.cur / 4) _ k.isLt hm
  rw [hset]
  split
  · rw [toNat_ofInt_sat, sat, min_comm]
  · rfl

end

/-- Settles O60: K.RD retires with the count, and K.ADD with the counter set to the saturated sum, which the 16 bits of COUNT hold. -/
theorem counterInstructions : Obligations.CounterInstructions := by
  unfold Obligations.CounterInstructions
  intro s d b k hk
  refine ⟨fun hr => ?_, fun hr => ⟨s.counterAdded k b, gives_kAdd hk hr, rfl, ?_, ?_, ?_, ?_, ?_⟩⟩
  · rw [BitVec.ofNat_toNat]
    exact gives_kRd hk hr
  · exact fun m hm => s.counter_counterAdded k b hm
  · exact s.tile_setCounter_frame _ _ _
  · exact s.slot_counterAdded k b
  · exact fun h hne => s.slot_counterAdded_ne k b hne
  · exact fun h hne => s.tile_setCounter_ne _ _ hne

end Sys2Proof.Machine

namespace Sys2Proof.Machine

open Sys2Proof.Claims

/-! ## The order of a walk (spec/15 R316) -/

theorem findSome?_flatMap {α β γ : Type} (l : List α) (f : α → List β) (g : β → Option γ) :
    (l.flatMap f).findSome? g = l.findSome? (fun x => (f x).findSome? g) := by
  induction l with
  | nil => rfl
  | cons x l ih => rw [List.flatMap_cons, List.findSome?_append, ih, List.findSome?_cons]; cases (f x).findSome? g <;> rfl

/-- A fold that keeps the first result it finds. -/
theorem foldl_fst_eq_findSome? {α β γ : Type} {f : Option α × β → γ → Option α × β} {g : γ → Option α}
    (hf : ∀ acc x, (f acc x).1 = acc.1.or (g x)) (l : List γ) (acc : Option α × β) : (l.foldl f acc).1 = acc.1.or (l.findSome? g) := by
  induction l generalizing acc with
  | nil => exact (Option.or_none).symm
  | cons x l ih => rw [List.foldl_cons, ih, hf, Option.or_assoc, List.findSome?_cons]; cases g x <;> rfl

/-- In a list in rising order the first result is the one that no lesser element gives. -/
theorem findSome?_eq_some_iff_of_pairwise {α β : Type} {R : α → α → Prop} (hasymm : ∀ p q, R p q → ¬R q p) {l : List α} (hl : l.Pairwise R)
    (f : α → Option β) (b : β) : l.findSome? f = some b ↔ ∃ p ∈ l, f p = some b ∧ ∀ q ∈ l, R q p → f q = none := by
  rw [List.findSome?_eq_some_iff]
  constructor
  · rintro ⟨before, p, after, rfl, hp, hnone⟩
    obtain ⟨-, hafter, -⟩ := List.pairwise_append.mp hl
    refine ⟨p, by simp, hp, fun q hq hqp => ?_⟩
    rcases List.mem_append.mp hq with hq | hq
    · exact hnone q hq
    · rcases List.mem_cons.mp hq with rfl | hq
      · exact absurd hqp (hasymm _ _ hqp)
      · exact absurd hqp (hasymm _ _ (List.rel_of_pairwise_cons hafter hq))
  · rintro ⟨p, hmem, hp, hnone⟩
    obtain ⟨before, after, rfl⟩ := List.append_of_mem hmem
    obtain ⟨-, -, hbefore⟩ := List.pairwise_append.mp hl
    exact ⟨before, p, after, rfl, hp, fun q hq => hnone q (by simp [hq]) (hbefore q hq p (by simp))⟩

/-- Place q is read before place p: a place is a size code, a bucket (0 for B0, 1 for B1) and an index. -/
abbrev ReadBefore (q p : Nat × Nat × Nat) : Prop := p.1 < q.1 ∨ q.1 = p.1 ∧ (q.2.1 < p.2.1 ∨ q.2.1 = p.2.1 ∧ q.2.2 < p.2.2)

/-- The 64 places of a walk, in the order of R316. -/
def walkPlaces : List (Nat × Nat × Nat) :=
  [3, 2, 1, 0].flatMap (fun z => [0, 1].flatMap (fun j => (List.range 8).map (fun i => (z, j, i))))

theorem ReadBefore.asymm (q p : Nat × Nat × Nat) (h : ReadBefore q p) : ¬ReadBefore p q := by omega

theorem walkPlaces_pairwise : walkPlaces.Pairwise ReadBefore := by decide

theorem mem_walkPlaces {z j i : Nat} : (z, j, i) ∈ walkPlaces ↔ z < 4 ∧ j < 2 ∧ i < 8 := by
  simp only [walkPlaces, List.mem_flatMap, List.mem_map, List.mem_range, Prod.mk.injEq, List.mem_cons, List.not_mem_nil, or_false]
  constructor
  · rintro ⟨z, hz, j, hj, i, hi, rfl, rfl, rfl⟩
    omega
  · rintro ⟨hz, hj, hi⟩
    exact ⟨z, by omega, j, by omega, i, hi, rfl, rfl, rfl⟩

/-- Two buckets read as one when they are the same hold the same first result. -/
theorem findSome?_buckets {α : Type} (b0 b1 : Nat) (f : Nat → Option α) :
    (if b0 = b1 then [b0] else [b0, b1]).findSome? f = [0, 1].findSome? (fun j => f ([b0, b1].getD j 0)) := by
  split
  · next h => subst h; cases hf : f b0 <;> simp [hf]
  · rfl

/-- The buckets as the walk computes them from the hash (spec/15 R315). -/
theorem bucketsOf_eq_bits {s : State} {part : Nat} (va : Word) (z : Nat) (hpos : 1 ≤ (s.part part).nb) (hle : (s.part part).nb ≤ 64) :
    bucketsOf s part va z = [bits (hashOf va z) ((s.part part).nb - 1) 0, bits (hashOf va z) 63 (64 - (s.part part).nb)] := by
  have hlow : (s.part part).nb - 1 + 1 - 0 = (s.part part).nb := by omega
  have hhigh : 63 + 1 - (64 - (s.part part).nb) = (s.part part).nb := by omega
  have hpow : 2 ^ (64 - (s.part part).nb) * 2 ^ (s.part part).nb = 2 ^ 64 := by rw [← pow_add, Nat.sub_add_cancel hle]
  have hlt : (hashOf va z).toNat / 2 ^ (64 - (s.part part).nb) < 2 ^ (s.part part).nb :=
    Nat.div_lt_of_lt_mul (hpow ▸ (hashOf va z).isLt)
  simp only [bucketsOf, bits, bitsN, hlow, hhigh, pow_zero, Nat.div_one, Nat.mod_eq_of_lt hlt]

/-- A walk that has no entry yet reads one: not present, malformed or poisoned (and counted), taken, or not for this address. -/
theorem fst_of_entryRead {α : Type} (present bad fits : Bool) (e : α) (n : Nat) :
    (if !present then (none, n) else if bad then (none, n + 1) else if fits then (some e, n) else (none, n)).1 =
      if present && !bad && fits then some e else none := by
  cases present <;> cases bad <;> cases fits <;> rfl

/-- The walk at size code z takes entry i of bucket b: `Takes` as the walk evaluates it. -/
def State.takes (s : State) (part : Nat) (va : Word) (base z b i : Nat) : Bool :=
  let e := s.tableEntry part (shardOf va) base b i
  testW e.w0 0 && !(s.malformed part e || s.poisoned (base + b * 256 + i * 32) 32) &&
    (bits e.w0 3 2 == z && e.covers va && !e.meetsWindow (s.part part).ptwin)

/-- What the walk at size code z finds in entry i of bucket b. -/
def State.takenAt (s : State) (part : Nat) (va : Word) (base z b i : Nat) : Option TlbEntry :=
  if s.takes part va base z b i then some (s.tableEntry part (shardOf va) base b i) else none

section
variable (s : State) (part : Nat) (va : Word) (base : Nat)

theorem State.takes_iff (z b i : Nat) : s.takes part va base z b i = true ↔
    Takes s part va z (base + b * 256 + i * 32) (entryOf s part (shardOf va) base b i) := by
  have hbit (v : Word) : testW v 0 = v.getLsbD 0 := testN_toNat v 0
  have hsize (v : Word) : bits v 3 2 = v.toNat / 4 % 4 := rfl
  have hentry : s.tableEntry part (shardOf va) base b i = entryOf s part (shardOf va) base b i := rfl
  simp only [State.takes, Takes, hentry, hbit, hsize, Bool.and_eq_true, Bool.not_eq_true', Bool.or_eq_false_iff, beq_iff_eq, and_assoc]

theorem State.takenAt_eq_some_iff (z b i : Nat) (e : TlbEntry) : s.takenAt part va base z b i = some e ↔
    entryOf s part (shardOf va) base b i = e ∧ Takes s part va z (base + b * 256 + i * 32) (entryOf s part (shardOf va) base b i) := by
  rw [State.takenAt, Option.ite_none_right_eq_some, Option.some.injEq, State.takes_iff, and_comm]
  rfl

theorem State.takenAt_eq_none_iff (z b i : Nat) : s.takenAt part va base z b i = none ↔
    ¬Takes s part va z (base + b * 256 + i * 32) (entryOf s part (shardOf va) base b i) := by
  rw [State.takenAt, ite_eq_right_iff, State.takes_iff]
  simp only [reduceCtorEq, imp_false]

/-- What a walk finds at a place of `walkPlaces`. -/
def State.takenInOrder (p : Nat × Nat × Nat) : Option TlbEntry :=
  s.takenAt part va base p.1 ((bucketsOf s part va p.1).getD p.2.1 0) p.2.2

variable {s part va base} (hlost : s.lostDie (shardOf va) = false) (hbase : s.shardBase part (shardOf va) = some base)
  (hpos : 1 ≤ (s.part part).nb) (hle : (s.part part).nb ≤ 64)
include hlost hbase hpos hle

theorem State.walk_eq_findSome? : (s.walk part va).1 = walkPlaces.findSome? (s.takenInOrder part va base) := by
  simp only [State.walk, hlost, hbase, Bool.false_eq_true, if_false]
  rw [foldl_fst_eq_findSome? (g := fun p => s.takenAt part va base p.1 p.2.1 p.2.2)]
  case hf =>
    rintro ⟨_ | e, n⟩ ⟨z, b, i⟩
    · rw [Option.none_or, State.takenAt, State.takes]
      exact fst_of_entryRead ..
    · rfl
  simp only [Option.none_or, walkPlaces, findSome?_flatMap, List.findSome?_map, findSome?_buckets, Function.comp_def, State.takenInOrder,
    bucketsOf_eq_bits va _ hpos hle]

end

/-- Settles O59: a walk gives the first entry that it takes along `walkPlaces`, which lists the places in the stated order. -/
theorem walkOrder : Obligations.WalkOrder := by
  unfold Obligations.WalkOrder
  intro s part va base hlost hbase hpos hle
  have hwalk := State.walk_eq_findSome? hlost hbase hpos hle
  refine ⟨fun e => ?_, ?_⟩
  · rw [hwalk, findSome?_eq_some_iff_of_pairwise ReadBefore.asymm walkPlaces_pairwise]
    simp only [Prod.exists, Prod.forall, mem_walkPlaces, State.takenInOrder, State.takenAt_eq_some_iff, State.takenAt_eq_none_iff, and_assoc, and_imp]
  · rw [hwalk, List.findSome?_eq_none_iff]
    simp only [Prod.forall, mem_walkPlaces, State.takenInOrder, State.takenAt_eq_none_iff, and_imp]

end Sys2Proof.Machine

namespace Sys2Proof.Machine

open Sys2Proof.Claims

set_option Elab.async false

/-- What a table says of an instruction has the property `P`; nothing is asked where it does not list the instruction. -/
def OfRow {α : Type} (P : α → Prop) : Option α → Prop
  | none => True
  | some a => P a

theorem OfRow.apply {α : Type} {P : α → Prop} {o : Option α} {a : α} (h : OfRow P o) (ho : o = some a) : P a := by
  subst ho
  exact h

/-- A row of a table that does not list the instruction. -/
theorem of_none_eq_some {α : Type} {x : α} {P : Prop} (h : none = some x) : P := nomatch h

/-! ## Integer instructions of one cycle (spec/06 R127 to R133) -/

theorem bits_low (v : Word) (n : Nat) : bits v n 0 = v.toNat % 2 ^ (n + 1) := by simp [bits, bitsN]

theorem wrap_toInt (v : Word) : wrap v.toInt = v := BitVec.ofInt_toInt
theorem wordN_toNat (v : Word) : wordN v.toNat = v := by simp [wordN]

theorem wrap_min (u v : Word) : wrap (min (sgn u) (sgn v)) = if u.toInt ≤ v.toInt then u else v := by
  simp only [sgn, min_def]; split <;> exact wrap_toInt _
theorem wrap_max (u v : Word) : wrap (max (sgn u) (sgn v)) = if u.toInt ≤ v.toInt then v else u := by
  simp only [sgn, max_def]; split <;> exact wrap_toInt _
theorem wordN_min (u v : Word) : wordN (min u.toNat v.toNat) = if u.toNat ≤ v.toNat then u else v := by
  simp only [min_def]; split <;> exact wordN_toNat _
theorem wordN_max (u v : Word) : wordN (max u.toNat v.toNat) = if u.toNat ≤ v.toNat then v else u := by
  simp only [max_def]; split <;> exact wordN_toNat _

theorem clzN_word (u : Word) : clzN 64 u.toNat = if u = 0 then 64 else 63 - u.toNat.log2 := by
  have h : u.toNat = 0 ↔ u = 0 := by rw [← BitVec.toNat_inj]; rfl
  simp only [clzN, h]

theorem boolW_beq (u v : Word) : boolW (u == v) = if u = v then 1 else 0 := by
  by_cases h : u = v <;> simp [boolW, h]
theorem boolW_bne (u v : Word) : boolW (u != v) = if u = v then 0 else 1 := by
  by_cases h : u = v <;> simp [boolW, h]
theorem boolW_decide (p : Prop) [Decidable p] : boolW (decide p) = if p then 1 else 0 := by
  by_cases h : p <;> simp [boolW, h]
theorem boolW_not_lt {α : Type} [LinearOrder α] (a b : α) : boolW (decide (b ≤ a)) = if a < b then 0 else 1 := by
  by_cases h : a < b
  · simp [boolW, h]
  · simp [boolW, h, not_lt.mp h]

theorem sgn_imm12 (i : BitVec 12) : sgn (imm12 i) = i.toInt := BitVec.toInt_signExtend_of_le (by decide)

theorem and_low_word (u : Word) (c : BitVec 32) : (u.setWidth 32 &&& c).setWidth 64 = u &&& c.setWidth 64 := by
  apply BitVec.eq_of_getLsbD_eq
  intro k hk
  by_cases h : k < 32
  · simp [h, hk]
  · simp [h, BitVec.getLsbD_of_ge c k (by omega)]

theorem fabs32_low (u : Word) : (fabs32 (u.setWidth 32)).setWidth 64 = u &&& 0x7FFFFFFF := and_low_word u _

theorem fneg32_low (u : Word) : (fneg32 (u.setWidth 32)).setWidth 64 = (u &&& 0xFFFFFFFF) ^^^ 0x80000000 := by
  have hlow : u.setWidth 32 = u.setWidth 32 &&& BitVec.allOnes 32 := BitVec.and_allOnes.symm
  rw [fneg32, BitVec.setWidth_xor, hlow, and_low_word]; rfl

theorem testN_eq_testBit (v n : Nat) : testN v n = v.testBit n := by rw [Nat.testBit_eq_decide_div_mod_eq]; rfl

theorem sextN_mod (v n : Nat) (hn : 0 < n) : sextN (v % 2 ^ n) n = sextN v n := by
  have hbit : testN (v % 2 ^ n) (n - 1) = testN v (n - 1) := by
    simp only [testN_eq_testBit, Nat.testBit_mod_two_pow, Nat.sub_lt hn Nat.one_pos, decide_true, Bool.true_and]
  rw [sextN, sextN, hbit, Nat.mod_mod]

theorem fieldBits_pos (v : Word) : 0 < fieldBits v ∧ fieldBits v ≤ 64 := by
  have h : bits v 5 0 < 64 := by rw [bits_low]; exact Nat.mod_lt _ (by decide)
  simp only [fieldBits]; split <;> omega

theorem extractU_toNat (u v : Word) : (extractU u v).toNat = u.toNat / 2 ^ fieldPos v % 2 ^ fieldBits v := by
  have hlt : u.toNat / 2 ^ fieldPos v < 2 ^ 64 := Nat.lt_of_le_of_lt (Nat.div_le_self _ _) u.isLt
  rw [extractU, wordN, BitVec.toNat_ofNat, Nat.mod_eq_of_lt (Nat.lt_of_le_of_lt (Nat.mod_le _ _) hlt)]

theorem extractS_eq (u v : Word) : extractS u v = wrap (sextN (u.toNat / 2 ^ fieldPos v) (fieldBits v)) := by
  rw [extractS, extractU_toNat, sextN_mod _ _ (fieldBits_pos v).1]

theorem saturate_eq (v : Int) : saturate v =
    (if v < -2 ^ 63 then BitVec.ofInt 64 (-2 ^ 63) else if 2 ^ 63 ≤ v then BitVec.ofInt 64 (2 ^ 63 - 1) else BitVec.ofInt 64 v,
      if v < -2 ^ 63 ∨ 2 ^ 63 ≤ v then flagSat else 0) := by
  have hsat : sat v (-(2 ^ 63)) (2 ^ 63 - 1) = if v < -2 ^ 63 then -2 ^ 63 else if 2 ^ 63 ≤ v then 2 ^ 63 - 1 else v := by
    unfold sat; split
    · omega
    · split <;> omega
  have hsame : (sat v (-(2 ^ 63)) (2 ^ 63 - 1) = v) ↔ ¬(v < -2 ^ 63 ∨ 2 ^ 63 ≤ v) := sat_eq_self_iff (by decide) |>.trans (by omega)
  simp only [saturate, hsame, ite_not]
  simp only [hsat, wrap, apply_ite (BitVec.ofInt 64)]

section
variable {s : State} {rs : List Reg} {d : Reg} (hr : Ready s {} rs)
include hr

theorem State.alu_of_ready {f : Slot → Word} {v : Word} (hv : f (me s) = v) : s.alu rs d f = .next (retired s (fun t => t.setX d v)) := by
  subst hv
  rw [State.alu, State.issue_of_ready hr]; rfl

theorem State.aluFlags_of_ready (f : Slot → Word × BitVec 7) :
    s.aluFlags rs d f = .next (retired s (fun t => (t.setX d (f (me s)).1).orFlags (f (me s)).2)) := by
  rw [State.aluFlags, State.issue_of_ready hr]; rfl

/-- An instruction that saturates its exact result `v`. -/
theorem State.aluFlags_saturate {f : Slot → Word × BitVec 7} {v : Int} (hf : f (me s) = saturate v) :
    s.aluFlags rs d f = .next (retired s (fun t =>
      { t.setX d (if v < -2 ^ 63 then BitVec.ofInt 64 (-2 ^ 63) else if 2 ^ 63 ≤ v then BitVec.ofInt 64 (2 ^ 63 - 1) else BitVec.ofInt 64 v) with
        flags := if v < -2 ^ 63 ∨ 2 ^ 63 ≤ v then t.flags ||| 0x20 else t.flags })) := by
  rw [State.aluFlags_of_ready hr, hf, saturate_eq]
  simp only [Slot.orFlags_ite, Slot.setX_flags]
  rfl

end

/-- An instruction of one cycle computes the value of its row. -/
theorem exec_of_aluRow {s : State} {i : Instr} : OfRow (fun ⟨rs, d, v⟩ => ∃ f, exec i s = s.alu rs d f ∧ f (me s) = v) (aluRow i (me s)) := by
  rcases i
  any_goals exact trivial
  -- MIN to MAXU
  case min => exact ⟨_, rfl, wrap_min _ _⟩
  case max => exact ⟨_, rfl, wrap_max _ _⟩
  case minu => exact ⟨_, rfl, wordN_min _ _⟩
  case maxu => exact ⟨_, rfl, wordN_max _ _⟩
  -- shifts and rotates by a register
  case sll | srl | sra | rol | ror => exact ⟨_, rfl, by rw [bits_low]; rfl⟩
  case clz => exact ⟨_, rfl, by rw [clzN_word]⟩
  case exts => exact ⟨_, rfl, extractS_eq _ _⟩
  -- comparisons
  case seq => exact ⟨_, rfl, boolW_beq _ _⟩
  case sne => exact ⟨_, rfl, boolW_bne _ _⟩
  case slt | sltu => exact ⟨_, rfl, boolW_decide _⟩
  case sge => exact ⟨_, rfl, boolW_not_lt (BitVec.toInt _) (BitVec.toInt _)⟩
  case sgeu => exact ⟨_, rfl, boolW_not_lt (BitVec.toNat _) (BitVec.toNat _)⟩
  case cmovnz => exact ⟨_, rfl, ite_not ..⟩
  -- comparisons with an immediate
  case seqi => exact ⟨_, rfl, boolW_beq _ _⟩
  case snei => exact ⟨_, rfl, boolW_bne _ _⟩
  case slti => exact ⟨_, rfl, by rw [sgn_imm12]; exact boolW_decide _⟩
  case sltui => exact ⟨_, rfl, boolW_decide _⟩
  case fabs => exact ⟨_, rfl, fabs32_low _⟩
  case fneg => exact ⟨_, rfl, fneg32_low _⟩
  all_goals exact ⟨_, rfl, rfl⟩

/-- ADDS, SUBS and ABS saturate the value of their row. -/
theorem exec_of_satRow {s : State} {i : Instr} :
    OfRow (fun ⟨rs, d, v⟩ => ∃ f, exec i s = s.aluFlags rs d f ∧ f (me s) = saturate v) (satRow i (me s)) := by
  rcases i
  any_goals exact trivial
  all_goals exact ⟨_, rfl, rfl⟩

theorem aluResult : Claims.AluResult := by
  intro s i rs d
  refine ⟨fun v h hr => ?_, fun v h hr => ?_⟩
  · obtain ⟨f, hexec, hf⟩ := exec_of_aluRow.apply h
    exact hexec.trans (State.alu_of_ready hr hf)
  · obtain ⟨f, hexec, hf⟩ := exec_of_satRow.apply h
    exact hexec.trans (State.aluFlags_saturate hr hf)

/-! The bit fields of EXTU, EXTS and INS (spec/06 R131). -/

theorem fieldPos_eq (v : Word) : fieldPos v = v.toNat % 64 := bits_low v 5

theorem fieldBits_eq (v : Word) :
    fieldBits v = min (if v.toNat / 256 % 64 = 0 then 64 else v.toNat / 256 % 64) (64 - fieldPos v) := rfl

theorem getLsbD_extractU (u v : Word) (k : Nat) : (extractU u v).getLsbD k = (decide (k < fieldBits v) && u.getLsbD (fieldPos v + k)) := by
  rw [← BitVec.testBit_toNat, extractU_toNat, Nat.testBit_mod_two_pow, Nat.testBit_div_two_pow, BitVec.testBit_toNat, Nat.add_comm]

theorem sextN_eq_toInt {n : Nat} (v : Nat) (hn : 0 < n) : sextN v n = (BitVec.ofNat n v).toInt := by
  have hmsb : (BitVec.ofNat n v).msb = testN v (n - 1) := by
    rw [BitVec.msb_eq_getLsbD_last, BitVec.getLsbD_ofNat, testN_eq_testBit, decide_eq_true (Nat.sub_lt hn Nat.one_pos), Bool.true_and]
  rw [sextN, BitVec.toInt_eq_msb_cond, hmsb, BitVec.toNat_ofNat]

theorem getLsbD_wrap_sextN {v n k : Nat} (hn : 0 < n) (hk : k < 64) : (wrap (sextN v n)).getLsbD k = v.testBit (min k (n - 1)) := by
  have hse : wrap (sextN v n) = (BitVec.ofNat n v).signExtend 64 := by rw [sextN_eq_toInt v hn]; rfl
  rw [hse, BitVec.getLsbD_signExtend, BitVec.msb_eq_getLsbD_last]
  by_cases h : k < n
  · rw [Nat.min_eq_left (by omega), if_pos h, BitVec.getLsbD_ofNat]; simp [h, hk]
  · rw [Nat.min_eq_right (by omega), if_neg h, BitVec.getLsbD_ofNat]; simp [hk, hn]

theorem getLsbD_insertField (w u v : Word) {k : Nat} (hk : k < 64) : (insertField w u v).getLsbD k =
    if fieldPos v ≤ k ∧ k < fieldPos v + fieldBits v then u.getLsbD (k - fieldPos v) else w.getLsbD k := by
  have hmask : (wordN ((2 ^ fieldBits v - 1) * 2 ^ fieldPos v)).getLsbD k = decide (fieldPos v ≤ k ∧ k < fieldPos v + fieldBits v) := by
    rw [wordN, BitVec.getLsbD_ofNat, Nat.testBit_mul_two_pow, Nat.testBit_two_pow_sub_one]
    simp only [hk, decide_true, Bool.true_and]
    by_cases hp : fieldPos v ≤ k
    · simp [hp]; omega
    · simp [hp]
  simp only [insertField, BitVec.getLsbD_or, BitVec.getLsbD_and, BitVec.getLsbD_not, BitVec.getLsbD_shiftLeft, hmask, hk, decide_true, Bool.true_and]
  by_cases h : fieldPos v ≤ k ∧ k < fieldPos v + fieldBits v
  · simp [h]
  · simp [h]

theorem bitFields : Claims.BitFields := by
  intro u v w k hk
  simp only [← fieldPos_eq, ← fieldBits_eq]
  have hpos := (fieldBits_pos v).1
  refine ⟨getLsbD_extractU u v k, ?_, getLsbD_insertField w u v hk⟩
  rw [extractS_eq, getLsbD_wrap_sextN hpos hk, Nat.testBit_div_two_pow, BitVec.testBit_toNat, Nat.add_comm]

/-- Settles O4: by the rows of the tables, and the fields bit by bit. -/
theorem integerResults : Obligations.IntegerResults := ⟨aluResult, bitFields⟩

end Sys2Proof.Machine

namespace Sys2Proof.Machine

open Sys2Proof.Claims

set_option Elab.async false

/-! ## Results that are written later (spec/06 R127, R128, R130, R135) -/

/-- The unit that an instruction needs is free: it needs none, or no result of the slot is on its way from it. -/
def Slot.unitFree (t : Slot) (unit : Nat) : Prop := unit = 0 ∨ t.results.any (fun e => e.unit == unit) = false

theorem Slot.pend_takeSr (t : Slot) (d : Reg) (r : Word × BitVec 7) (unit : Nat) (rounds : Bool) :
    (t.pend d r unit).takeSr (if rounds then t.rc else 0) = { t with
      results := t.results ++ [{ bank := t.bank, reg := d, value := r.1, flags := r.2, unit := unit }]
      srseq := if rounds && t.rc == 4 then t.srseq + 1 else t.srseq } := by
  cases rounds
  · rfl
  · by_cases h : t.rc = 4 <;> simp [Slot.pend, Slot.takeSr, h]

section
variable {s : State} {rs : List Reg} {d : Reg} {unit : Nat} {rounds : Bool} (hr : Ready s {} rs)
include hr

theorem State.slow_of_unitFree (hu : (me s).unitFree unit) (f : Slot → Nat → Word × BitVec 7) {r : Word × BitVec 7}
    (hf : f (me s) (if rounds && (me s).rc == 4 then (me s).srU 2 0 (me s).srseq else 0) = r) :
    s.slow unit rs d rounds f = .next (pending s unit d r.1 r.2 (rounds && (me s).rc == 4)) := by
  have hfree : ¬(unit != 0 && (me s).results.any (fun e => e.unit == unit)) = true := by
    rcases hu with h | h <;> simp [h]
  subst hf
  rw [State.slow, State.issue_of_ready hr, if_neg hfree, pending]
  exact congrArg (fun t => Host.Outcome.next ((s.setSlot s.cur (Slot.advance t)).post (.scalarResult s.cur))) ((me s).pend_takeSr d _ unit rounds)

theorem State.slow_of_unitBusy (h0 : unit ≠ 0) (hb : (me s).results.any (fun e => e.unit == unit) = true) (f : Slot → Nat → Word × BitVec 7) :
    s.slow unit rs d rounds f = .next { s with stalled := true } := by
  have hbusy : (unit != 0 && (me s).results.any (fun e => e.unit == unit)) = true := by simp [h0, hb]
  rw [State.slow, State.issue_of_ready hr, if_pos hbusy]; rfl

end

/-- What an instruction whose result is written later does: it issues, or waits for its unit. -/
def IssuesLate (s : State) (o : Host.Outcome State Fault Refusal) (unit : Nat) (d : Reg) (rounds : Bool) (v : Word) (f : BitVec 7) : Prop :=
  ((me s).unitFree unit → o = .next (pending s unit d v f (rounds && (me s).rc == 4))) ∧
    (unit ≠ 0 → (me s).results.any (fun e => e.unit == unit) = true → o = .next { s with stalled := true })

theorem State.slow_issuesLate {s : State} {rs : List Reg} {unit : Nat} {d : Reg} {rounds : Bool} {f : Slot → Nat → Word × BitVec 7}
    {v : Word} {fl : BitVec 7} (hf : f (me s) (if rounds && (me s).rc == 4 then (me s).srU 2 0 (me s).srseq else 0) = (v, fl))
    (hr : Ready s {} rs) : IssuesLate s (s.slow unit rs d rounds f) unit d rounds v fl :=
  ⟨fun hu => State.slow_of_unitFree hr hu f hf, fun h0 hb => State.slow_of_unitBusy hr h0 hb f⟩

/-! What the multiplier and the divider compute. -/

theorem wrap_mul_sgn (u v : Word) : wrap (sgn u * sgn v) = u * v := by
  rw [wrap, BitVec.ofInt_mul, sgn, sgn, BitVec.ofInt_toInt, BitVec.ofInt_toInt]

theorem toInt_eq_zero_iff (v : Word) : v.toInt = 0 ↔ v = 0 := by rw [← BitVec.toInt_inj]; rfl

theorem wordN_div (u v : Word) : wordN (u.toNat / v.toNat) = u / v := by rw [wordN, ← BitVec.toNat_udiv, BitVec.ofNat_toNat, BitVec.setWidth_eq]
theorem wordN_mod (u v : Word) : wordN (u.toNat % v.toNat) = u % v := by rw [wordN, ← BitVec.toNat_umod, BitVec.ofNat_toNat, BitVec.setWidth_eq]

/-- A value and its flags, chosen together. -/
theorem ite_pair {α β : Type} (p : Prop) [Decidable p] (a c : α) (b e : β) : (if p then (a, b) else (c, e)) = (if p then a else c, if p then b else e) := by
  split <;> rfl

theorem divide_sgn (u v : Word) : divide (sgn u) (sgn v) =
    (if v = 0 then -1 else if u.toInt = -2 ^ 63 ∧ v.toInt = -1 then u else wrap (Int.tdiv u.toInt v.toInt),
      if v = 0 then 8 else if u.toInt = -2 ^ 63 ∧ v.toInt = -1 then 4 else 0) := by
  simp only [divide, sgn, toInt_eq_zero_iff, ite_pair, wrap_toInt]
  rfl

/-- A multiply or a divide issues the value of its row. -/
theorem mulRow_issuesLate {s : State} {i : Instr} :
    OfRow (fun ⟨unit, rs, d, v, f⟩ => Ready s {} rs → IssuesLate s (exec i s) unit d false v f) (mulRow i (me s)) := by
  rcases i
  any_goals exact trivial
  all_goals
    intro hr
    unfold exec
    refine State.slow_issuesLate ?_ hr
  case mul => exact congrArg (·, (0 : BitVec 7)) (wrap_mul_sgn _ _)
  case div => exact divide_sgn _ _
  case divu => rw [← wordN_div]; exact ite_pair ..
  case rem => exact ite_pair ..
  case remu => rw [← wordN_mod]; exact ite_pair ..
  all_goals rfl

/-- The stochastic word of a rounding instruction. -/
theorem scalarU_eq (t : Slot) : scalarU t = if true && t.rc == 4 then t.srU 2 0 t.srseq else 0 := by
  simp [scalarU, Slot.srU]

theorem fcmp_eq (r : Bool × BitVec 7) : fcmp r = (if r.1 then 1 else 0, r.2) := rfl

/-- A scalar FP32 instruction issues the value of its row. -/
theorem floatRow_issuesLate {s : State} {i : Instr} :
    OfRow (fun ⟨unit, rs, d, rounds, v, f⟩ => Ready s {} rs → IssuesLate s (exec i s) unit d rounds v f) (floatRow i (me s) (scalarU (me s))) := by
  rw [scalarU_eq]
  rcases i
  any_goals exact trivial
  all_goals
    intro hr
    unfold exec
    exact State.slow_issuesLate rfl hr

theorem lateResult : Claims.LateResult := by
  rintro s i unit rs d rounds v f (⟨h, rfl⟩ | h) hr
  · exact mulRow_issuesLate.apply h hr
  · exact floatRow_issuesLate.apply h hr

/-! SCALAR_RESULT (spec/06 R127, R128). -/

theorem State.sameBut_setSlot (s : State) (g : Nat) (t : Slot) : SameBut s (s.setSlot g t) := rfl
theorem State.sameBut_onSlot (s : State) (g : Nat) (f : Slot → Slot) : SameBut s (s.onSlot g f) := rfl

@[simp] theorem Slot.flowOf_setFlow (t : Slot) (b c : Bank) (f : Flow) : (t.setFlow b f).flowOf c = if c = b then f else t.flowOf c := by
  cases b <;> cases c <;> rfl
@[simp] theorem Slot.flowOf_orFlags (t : Slot) (x : BitVec 7) (b : Bank) : (t.orFlags x).flowOf b = t.flowOf b := by cases b <;> rfl

theorem Slot.flowOf_writeX (t : Slot) (b c : Bank) (r : Reg) (v : Word) :
    (t.writeX b r v).flowOf c = if c = b then (t.flowOf b).set r v else t.flowOf c := t.flowOf_setFlow b c _

theorem Slot.get_flowOf_writeX_same (t : Slot) (b : Bank) (r : Reg) (v : Word) :
    ((t.writeX b r v).flowOf b).get r = if r = 0 then 0 else v := by
  rw [Slot.flowOf_writeX, if_pos rfl, Flow.get_set, if_pos rfl]

theorem Slot.get_flowOf_writeX_ne (t : Slot) {b c : Bank} {r q : Reg} (v : Word) (h : (c, q) ≠ (b, r)) :
    ((t.writeX b r v).flowOf c).get q = (t.flowOf c).get q := by
  rw [Slot.flowOf_writeX]
  by_cases hc : c = b
  · subst hc
    have hq : q ≠ r := fun hq => h (by rw [hq])
    rw [if_pos rfl, Flow.get_set, if_neg hq, ite_eq_right_iff.mpr (fun h0 => (by rw [h0]; rfl))]
  · rw [if_neg hc]

theorem Slot.flowOf_results (t : Slot) (l : List Result) (b : Bank) : ({ t with results := l } : Slot).flowOf b = t.flowOf b := by cases b <;> rfl

theorem Slot.results_writeX (t : Slot) (b : Bank) (r : Reg) (v : Word) : (t.writeX b r v).results = t.results := by cases b <;> rfl
theorem Slot.flags_writeX (t : Slot) (b : Bank) (r : Reg) (v : Word) : (t.writeX b r v).flags = t.flags := by cases b <;> rfl

/-- The slot once its oldest result `r` has been written. -/
def Slot.taken (t : Slot) (r : Result) (rest : List Result) : Slot := ({ t with results := rest }.writeX r.bank r.reg r.value).orFlags r.flags

theorem exec_scalarResult {s : State} {g : Nat} {r : Result} {rest : List Result} (h : (s.slot g).results = r :: rest) :
    exec (.scalarResult g) s = .next (s.setSlot g ((s.slot g).taken r rest)) := by
  change Host.Outcome.next (s.onSlot g _) = _
  simp only [State.onSlot, h]; rfl

theorem scalarResultWrites : Claims.ScalarResultWrites := by
  intro s g r rest h
  refine ⟨_, exec_scalarResult h, s.sameBut_setSlot g _, fun k hk => s.slot_setSlot_ne g k _ hk, ?_⟩
  rw [State.slot_setSlot]
  refine ⟨Slot.results_writeX _ _ _ _, ?_, fun b q hne => ?_, ?_⟩
  · rw [Slot.taken, Slot.flowOf_orFlags]; exact Slot.get_flowOf_writeX_same _ _ _ _
  · rw [Slot.taken, Slot.flowOf_orFlags, Slot.get_flowOf_writeX_ne _ _ hne, Slot.flowOf_results]
  · rw [Slot.taken, Slot.orFlags, Slot.flags_writeX]

/-- Settles O5: by the rows of multiply, divide and scalar FP32, and the oldest result written. -/
theorem lateResults : Obligations.LateResults := ⟨lateResult, scalarResultWrites⟩

end Sys2Proof.Machine

namespace Sys2Proof.Machine

open Sys2Proof.Claims

set_option Elab.async false

/-! ## Outcomes of an issue -/

section
variable {s : State} {i : Instr} {f : Form} {rs : List Reg} {body : Slot → Issue} (hi : exec i s = s.issue f rs body) (hr : Ready s f rs)
include hi hr

theorem gives_of_done {t : State} (hb : body (me s) = .done t) : Gives i s t := by
  rw [Gives, hi, State.issue_of_ready hr, hb]; rfl
theorem gives_of_trap {c : Nat} {v : Word} (hb : body (me s) = .trap c v) : Gives i s (s.takeTrap s.cur c v) := by
  rw [Gives, hi, State.issue_of_ready hr, hb]; rfl
theorem gives_of_wait {t : State} (hb : body (me s) = .wait t) : Gives i s { t with stalled := true } := by
  rw [Gives, hi, State.issue_of_ready hr, hb]; rfl

end

/-! ## Special registers (spec/05 R112, R113) -/

theorem assigned_of_srValue {s : State} {sr : BitVec 12} {v : Word} (h : srValue s sr.toNat = some v) : SpecialReg.assigned sr = true := by
  unfold srValue at h
  split at h
  case h_13 => cases h
  all_goals rename_i hn; simp [SpecialReg.assigned, hn]

theorem specialGet_of_srValue {s : State} {n : Nat} {v : Word} (h : srValue s n = some v) : s.specialGet s.cur (me s) n = v := by
  unfold srValue at h
  split at h
  case h_13 => cases h
  all_goals cases h; rfl

theorem srWrite_eq (t : Slot) (n : Nat) (v : Word) : srWrite t n v = (specialMask n).map (fun m => (t.specialSet n v, m)) := by
  rcases n with _ | _ | _ | _ | _ | _ | n <;> rfl

theorem flagsReady_iff (t : Slot) : t.flagsReady = true ↔ FlagsReady t := by
  simp [Slot.flagsReady, Slot.queuesDone, FlagsReady, and_assoc]

/-- An access of a special register does not wait. -/
theorem flagsBusy_false {t : Slot} {n : Nat} (h : n = 2 → FlagsReady t) : (n = 2 && !t.flagsReady : Bool) = false := by
  by_cases hn : n = 2
  · simp [(flagsReady_iff t).2 (h hn)]
  · simp [hn]

theorem specialBad_eq_false {n : Nat} {v m : Word} (hm : specialMask n = some m) (hv : v &&& ~~~m = 0) (hrm : n = 1 → v.toNat ≤ 4) :
    specialBad n v = false := by
  have hcode : (n == 1 && decide (4 < bits v 2 0)) = false := by
    by_cases hn : n = 1
    · have hle : bits v 2 0 ≤ 4 := by rw [bits_low]; exact (Nat.mod_le _ _).trans (hrm hn)
      simp [hle]
    · simp [hn]
  simp [specialBad, hm, hv, hcode]

theorem specialBad_eq_true {n : Nat} {v : Word} (h : ∀ m, specialMask n = some m → v &&& ~~~m ≠ 0 ∨ (n = 1 ∧ 4 < v.toNat)) :
    specialBad n v = true := by
  cases hm : specialMask n with
  | none => simp [specialBad, hm]
  | some m =>
    by_cases hv : v &&& ~~~m = 0
    · obtain ⟨rfl, hlt⟩ := (h m hm).resolve_left (not_not.2 hv)
      cases hm
      have hsmall : bits v 2 0 = v.toNat := by
        have hand : v = v &&& 7 := by
          have hv7 : v = (v &&& 7) ||| (v &&& ~~~7) := by rw [← BitVec.and_or_distrib_left, BitVec.or_not_self, BitVec.and_allOnes]
          rw [hv] at hv7; exact hv7.trans (BitVec.or_zero ..)
        have hnat : v.toNat = v.toNat &&& (2 ^ 3 - 1) := congrArg BitVec.toNat hand
        rw [bits_low, ← Nat.and_two_pow_sub_one_eq_mod, ← hnat]
      simp [specialBad, specialMask, hsmall, hlt]
    · rw [specialBad, hm]; simp only [bne_iff_ne.2 hv, Bool.true_or]

/-- WRSR, SETSR and CLRSR write the word of their form. -/
theorem exec_of_srForm {s : State} {i : Instr} {old : Word} :
    OfRow (fun ⟨n, a, v⟩ => ∃ f : Slot → Word → Word, exec i s = s.issue {} [a] (fun t => s.writeSpecial n (f t) t) ∧ f (me s) old = v)
      (srForm i (me s) old) := by
  rcases i
  any_goals exact trivial
  case wrsr a sr => exact ⟨fun t _ => t.x a, rfl, rfl⟩
  case setsr a sr => exact ⟨fun t w => w ||| t.x a, rfl, rfl⟩
  case clrsr a sr => exact ⟨fun t w => w &&& ~~~(t.x a), rfl, rfl⟩

/-- Settles O6: by the one form that WRSR, SETSR and CLRSR share. -/
theorem specialRegisters : Obligations.SpecialRegisters := by
  intro s i n d a sr old v
  refine ⟨fun hv hr hf => ?_, fun hold hform hr hf => ?_, fun hform hr hf hs => ?_⟩
  · have hn : sr.toNat = 2 → FlagsReady (me s) := fun h2 => hf (BitVec.eq_of_toNat_eq h2)
    refine gives_of_done (body := fun t => if SpecialReg.assigned sr then s.readSpecial d sr.toNat t else s.trapWord t 1) rfl hr ?_
    simp only [assigned_of_srValue hv, if_true, State.readSpecial, flagsBusy_false hn, Bool.false_eq_true, if_false]
    rw [State.retire_eq_retired, retired, specialGet_of_srValue hv]; rfl
  · obtain ⟨f, hexec, hval⟩ := exec_of_srForm.apply hform
    have hbody : s.writeSpecial n (f (me s)) (me s) =
        if specialBad n v then s.trapWord (me s) 1 else .done (s.retire s.cur (fun t => t.specialSet n v)) := by
      simp only [State.writeSpecial, flagsBusy_false hf, Bool.false_eq_true, if_false, specialGet_of_srValue hold, hval]
    simp only [srWrite_eq, Option.map_eq_some_iff, Prod.mk.injEq]
    constructor
    · rintro t m ⟨_, hm, rfl, rfl⟩ hv hrm
      exact gives_of_done hexec hr (hbody.trans (by rw [specialBad_eq_false hm hv hrm]; rfl))
    · intro h
      have hbad := specialBad_eq_true fun m hm => h _ m ⟨m, hm, rfl, rfl⟩
      exact gives_of_trap hexec hr (hbody.trans (if_pos hbad))
  · obtain ⟨f, hexec, -⟩ := exec_of_srForm.apply hform
    have hbusy : (me s).flagsReady = false := by rw [← Bool.not_eq_true, flagsReady_iff]; exact hf
    exact gives_of_wait hexec hr (by simp [State.writeSpecial, hbusy, State.flagsWait, hs])

/-! ## Branches, jumps, calls and loops (spec/06 R136, R137, R141, R142) -/

theorem exec_of_branchRow {s : State} {i : Instr} :
    OfRow (fun ⟨c, off, taken⟩ => ∃ p : Word → Bool, exec i s = s.branch c off p ∧ p ((me s).x c) = taken) (branchRow i (me s)) := by
  rcases i
  any_goals exact trivial
  case beqz => exact ⟨fun v => v == 0, rfl, rfl⟩
  case bnez => exact ⟨fun v => v != 0, rfl, Bool.eq_iff_iff.2 (by simp)⟩
  case bltz => exact ⟨fun v => decide (sgn v < 0), rfl, rfl⟩
  case bgez => exact ⟨fun v => decide (0 ≤ sgn v), rfl, rfl⟩
  case bgtz => exact ⟨fun v => decide (0 < sgn v), rfl, rfl⟩
  case blez => exact ⟨fun v => decide (sgn v ≤ 0), rfl, rfl⟩

theorem State.branch_of_ready {s : State} {c : Reg} (hr : Ready s {} [c]) (off : BitVec 19) (p : Word → Bool) :
    s.branch c off p = .next (if p ((me s).x c) then jumped s (target (me s) off) else retired s id) := by
  rw [State.branch, State.issue_of_ready hr]
  split <;> rfl

/-- CALL and JALR: a transfer with a link, which the end of a loop body refuses. -/
def linkTo (s : State) (d : Reg) (dst : Slot → Nat) (t : Slot) : Issue :=
  if t.flow.atEnd then s.trapWord t 1
  else .done (s.onSlot s.cur (fun t => (t.setX d (wordN (t.pc + 4))).setPc (dst t)))

theorem linkTo_of_atEnd {s : State} {t : Slot} (h : t.flow.atEnd = true) (d : Reg) (dst : Slot → Nat) :
    linkTo s d dst t = .trap 1 (s.wordAt t) := if_pos h
theorem linkTo_of_not_atEnd {s : State} (h : (me s).flow.atEnd = false) (d : Reg) (dst : Slot → Nat) :
    linkTo s d dst (me s) = .done (s.setSlot s.cur (((me s).setX d (wordN ((me s).pc + 4))).setPc (dst (me s)))) :=
  if_neg (by rw [h]; exact Bool.false_ne_true)

/-- Settles O8: a branch by its condition, CALL and JALR by the test at the end of a loop body. -/
theorem transfers : Obligations.Transfers := by
  intro s i d a off taken
  refine ⟨fun h hr => ?_, fun hr => ?_, fun hr => ?_, fun hr he => ?_, fun hr he => ?_, fun hr he => ?_, fun hr he => ?_⟩
  · obtain ⟨p, hexec, rfl⟩ := exec_of_branchRow.apply h
    exact hexec.trans (State.branch_of_ready hr off p)
  · exact gives_of_done (body := fun _ => .done _) rfl hr rfl
  · exact gives_of_done (body := fun _ => .done _) rfl hr rfl
  · exact gives_of_done (body := linkTo s d (target · off)) rfl hr (linkTo_of_not_atEnd he _ _)
  · exact gives_of_done (body := linkTo s d (fun t => (t.x a).toNat)) rfl hr (linkTo_of_not_atEnd he _ _)
  · exact gives_of_trap (body := linkTo s d (target · off)) rfl hr (linkTo_of_atEnd he _ _)
  · exact gives_of_trap (body := linkTo s d (fun t => (t.x a).toNat)) rfl hr (linkTo_of_atEnd he _ _)

theorem Flow.push_eq (f : Flow) (count n : Nat) :
    f.push count n = if count = 0 then { f with pc := f.pc + 4 * n + 4 } else pushed f count n := by
  by_cases hc : count = 0
  · simp [Flow.push, hc]
  · cases hl : f.loops <;> simp [Flow.push, pushed, hc, hl]

theorem exec_of_loopRow {s : State} {i : Instr} :
    OfRow (fun ⟨rs, count, im⟩ => ∃ c : Slot → Nat, exec i s = s.pushLoop rs c im ∧ c (me s) = count) (loopRow i (me s)) := by
  rcases i
  any_goals exact trivial
  case loop => exact ⟨_, rfl, bits_low _ _⟩
  case loopI => exact ⟨_, rfl, rfl⟩

theorem loopPush : Claims.LoopPush := by
  intro s i rs count im h hr
  obtain ⟨c, hexec, rfl⟩ := exec_of_loopRow.apply h
  rw [State.pushLoop] at hexec
  refine ⟨fun him hl => gives_of_done hexec hr ?_, fun hbad => gives_of_trap hexec hr ?_⟩
  · rw [if_neg him, if_neg (Nat.not_le.2 hl), State.onSlot, Flow.push_eq]; rfl
  · rcases hbad with him | hl
    · exact if_pos him
    · rw [if_pos hl, ite_self]; rfl

section
variable (f : Flow) (l o : LoopLevel) (own n : Nat)

theorem Flow.endTest_of_loops_nil (h : f.loops = []) : Flow.endTest own (n + 1) f = f := by simp [Flow.endTest, h]

theorem Flow.endTest_of_last_ne (hl : f.loops.getLast? = some l) (hne : l.last ≠ own) : Flow.endTest own (n + 1) f = f := by
  simp [Flow.endTest, hl, hne]

theorem Flow.endTest_one_again (hl : f.loops = [l]) (he : l.last = own) (hc : f.lc0 ≠ 0) :
    Flow.endTest own (n + 1) f = { f with lc0 := f.lc0 - 1, pc := l.first } := by
  have hcount : (f.lc0 = 0#32) = False := eq_false hc
  simp [Flow.endTest, hl, he, hcount]

theorem Flow.endTest_one_pop (hl : f.loops = [l]) (he : l.last = own) (hc : f.lc0 = 0) :
    Flow.endTest own (n + 1) f = Flow.endTest own n { f with loops := [] } := by
  simp [Flow.endTest, hl, he, hc]

theorem Flow.endTest_two_again (hl : f.loops = [o, l]) (he : l.last = own) (hc : f.lc1 ≠ 0) :
    Flow.endTest own (n + 1) f = { f with lc1 := f.lc1 - 1, pc := l.first } := by
  have hcount : (f.lc1 = 0#32) = False := eq_false hc
  simp [Flow.endTest, hl, he, hcount]

theorem Flow.endTest_two_pop (hl : f.loops = [o, l]) (he : l.last = own) (hc : f.lc1 = 0) :
    Flow.endTest own (n + 1) f = Flow.endTest own n { f with loops := [o] } := by
  simp [Flow.endTest, hl, he, hc]

end

/-- A transfer from `own` to `dst` leaves the body of a level. -/
def Leaves (k : LoopLevel) (own dst : Nat) : Prop := (k.first ≤ own ∧ own ≤ k.last) ∧ ¬(k.first ≤ dst ∧ dst ≤ k.last)

section
variable (f : Flow) (l : LoopLevel) (own dst n : Nat)

theorem Flow.leave_frame (f : Flow) : Flow.leave own dst n f = { f with loops := (Flow.leave own dst n f).loops } := by
  induction n generalizing f with
  | zero => rfl
  | succ n ih =>
    rw [Flow.leave]
    split
    · rfl
    · split
      · rw [ih]
      · rfl

theorem Flow.leave_of_loops_nil (h : f.loops = []) : Flow.leave own dst (n + 1) f = f := by simp [Flow.leave, h]

theorem Flow.leave_of_not_leaves (hl : f.loops.getLast? = some l) (h : ¬Leaves l own dst) : Flow.leave own dst (n + 1) f = f := by
  have hif : (decide (l.first ≤ own ∧ own ≤ l.last) && !decide (l.first ≤ dst ∧ dst ≤ l.last)) = false := by
    rw [← Bool.not_eq_true]; simpa [Leaves] using h
  simp only [Flow.leave, hl, hif, Bool.false_eq_true, if_false]

theorem Flow.leave_of_leaves (hl : f.loops.getLast? = some l) (h : Leaves l own dst) :
    Flow.leave own dst (n + 1) f = Flow.leave own dst n { f with loops := f.loops.dropLast } := by
  have hif : (decide (l.first ≤ own ∧ own ≤ l.last) && !decide (l.first ≤ dst ∧ dst ≤ l.last)) = true := by
    simp only [h.1, h.2, decide_true, decide_false, Bool.not_false, Bool.and_self, and_self]
  simp only [Flow.leave, hl, hif, if_true]

end

theorem Flow.jump_frame (f : Flow) (dst : Nat) : f.jump dst = { f with loops := (Flow.leave f.pc dst 2 f).loops, pc := dst } := by
  rw [Flow.jump, Flow.leave_frame]

theorem loopStack : Claims.LoopStack := by
  intro f l o dst inside
  rw [Flow.jump_frame]
  refine ⟨fun h => ?_, fun hl hne => ?_, fun hl he hc => ?_, fun hl he hc => ?_, fun hl he hc => ?_, fun hl he hc ho => ?_,
    fun hl he hc ho hc0 => ?_, fun hl he hc ho hc0 => ?_, rfl, rfl, rfl, rfl, fun h => ?_, fun hl hn => ?_, fun hl hi ho => ?_,
    fun hl hi hd ho => ?_, fun hl hi hd hoi hod => ?_⟩
  · exact Flow.endTest_of_loops_nil _ _ _ h
  · exact Flow.endTest_of_last_ne _ l _ _ hl hne
  · exact Flow.endTest_one_again { f with pc := f.pc + 4 } l _ _ hl he hc
  · exact (Flow.endTest_one_pop { f with pc := f.pc + 4 } l _ _ hl he hc).trans (Flow.endTest_of_loops_nil _ _ _ rfl)
  · exact Flow.endTest_two_again { f with pc := f.pc + 4 } l o _ _ hl he hc
  · exact (Flow.endTest_two_pop { f with pc := f.pc + 4 } l o _ _ hl he hc).trans (Flow.endTest_of_last_ne _ o _ _ rfl ho)
  · exact (Flow.endTest_two_pop { f with pc := f.pc + 4 } l o _ _ hl he hc).trans
      (Flow.endTest_one_again { f with pc := f.pc + 4, loops := [o] } o _ _ rfl ho hc0)
  · exact (Flow.endTest_two_pop { f with pc := f.pc + 4 } l o _ _ hl he hc).trans
      (Flow.endTest_one_pop { f with pc := f.pc + 4, loops := [o] } o _ _ rfl ho hc0)
  · rw [Flow.leave_of_loops_nil _ _ _ _ h, h]
  · rw [Flow.leave_of_not_leaves _ l _ _ _ hl hn]
  · rw [Flow.leave_of_leaves _ l _ _ _ (by rw [hl]; rfl) ⟨hi, ho⟩, hl]
    exact congrArg Flow.loops (Flow.leave_of_loops_nil _ _ _ _ rfl)
  · rw [Flow.leave_of_leaves _ l _ _ _ (by rw [hl]; rfl) ⟨hi, hd⟩, hl]
    exact congrArg Flow.loops (Flow.leave_of_not_leaves _ o _ _ _ rfl ho)
  · rw [Flow.leave_of_leaves _ l _ _ _ (by rw [hl]; rfl) ⟨hi, hd⟩, hl]
    exact congrArg Flow.loops (Flow.leave_of_leaves _ o _ _ _ rfl ⟨hoi, hod⟩)

/-- Settles O9: a level pushed, and the loop stack at the end of a body and at a taken transfer. -/
theorem loops : Obligations.Loops := ⟨loopPush, loopStack⟩

/-! ## TRAP, ECALL, TS.READ, YIELD and handlers (spec/06 R137 to R139; spec/02 R55) -/

theorem softwareTraps : Claims.SoftwareTraps := by
  intro s n hr
  refine ⟨?_, fun he => ?_, fun he => ?_⟩
  · exact gives_of_trap (body := fun _ => .trap 9 (wordN n.val)) rfl hr rfl
  · exact gives_of_trap (body := fun t => if t.flow.atEnd then s.trapWord t 1 else .trap 10 (wordN n.val)) rfl hr (by simp only [he]; rfl)
  · exact gives_of_trap (body := fun t => if t.flow.atEnd then s.trapWord t 1 else .trap 10 (wordN n.val)) rfl hr (if_pos he)

theorem timestampAndYield : Claims.TimestampAndYield := by
  intro s d
  refine ⟨fun hr => ?_, fun hr hm => ?_, fun hr hm => ?_⟩
  · exact gives_of_done (body := fun _ => .done _) rfl hr rfl
  · exact gives_of_done (body := fun _ => .done (if s.messageWaits s.cur then _ else _)) rfl hr (by rw [hm]; rfl)
  · exact gives_of_done (body := fun _ => .done (if s.messageWaits s.cur then _ else _)) rfl hr (by rw [hm]; rfl)

theorem State.handlerFlow_of_kernel {s : State} {g : Nat} {k : Kernel}
    (hk : s.kernel (s.slot g).part (s.slot g).image (s.slot g).kernel = some k) :
    let off := inboxBase (g / 4) + 64 * ((s.tile (g / 4)).inbox.taken % inboxRoom (g / 4))
    s.handlerFlow g = { ((s.slot g).handler.set 1 (s.windowAddr (g / 4) off)).set 2 (wordN (ofBytes (s.readMem (sramKey (g / 4) off) 8))) with
      pc := k.hentry, loops := [] } := by
  simp only [State.handlerFlow, hk]; rfl

theorem handlerEntryState : Claims.HandlerEntryState := by
  intro s g k hm hk hb hkill hfr
  have hgives : Gives (.handlerEntry g) s (s.enterHandler g (s.slot g).wait) := by
    change Host.Outcome.next (if _ then _ else _) = _
    simp [hb, hm, hkill, hfr]
  refine ⟨_, hgives, rfl, fun h hh => s.slot_onSlot_ne g h _ hh, ?_⟩
  simp only [State.enterHandler, State.slot_onSlot, State.handlerFlow_of_kernel hk, true_and]
  exact ⟨(Flow.get_set ..).trans (Flow.get_set ..), (Flow.get_set ..).trans rfl⟩

/-- Settles O10. -/
theorem trapsAndHandlers : Obligations.TrapsAndHandlers := ⟨softwareTraps, timestampAndYield, handlerEntryState⟩

end Sys2Proof.Machine

namespace Sys2Proof.Machine

open Sys2Proof.Claims

set_option Elab.async false

/-! ## What asking a TLB leaves alone (spec/15 R320) -/

/-- Two states differ in their tiles and dies at most. -/
def SameButTilesDies (s t : State) : Prop := t = { s with tiles := t.tiles, dies := t.dies }

theorem SameButTilesDies.refl (s : State) : SameButTilesDies s s := rfl

theorem SameButTilesDies.trans {s t u : State} (hst : SameButTilesDies s t) (htu : SameButTilesDies t u) : SameButTilesDies s u := by
  rw [SameButTilesDies] at hst htu ⊢
  rw [htu, hst]

theorem State.onTile_sameButTilesDies (s : State) (k : Nat) (f : Tile → Tile) : SameButTilesDies s (s.onTile k f) := rfl
theorem State.onDie_sameButTilesDies (s : State) (d : Nat) (f : Die → Die) : SameButTilesDies s (s.onDie d f) := rfl

theorem State.onTlb_sameButTilesDies (s : State) (n : Nat) (f : Tlb → Tlb) : SameButTilesDies s (s.onTlb n f) := by
  unfold State.onTlb
  split
  · exact s.onTile_sameButTilesDies n _
  · split <;> exact s.onDie_sameButTilesDies _ _

theorem foldl_sameButTilesDies {α : Type} {f : State → α → State} (hf : ∀ s a, SameButTilesDies s (f s a)) (l : List α) (s : State) :
    SameButTilesDies s (l.foldl f s) := by
  induction l generalizing s with
  | nil => exact .refl s
  | cons a l ih => exact (hf s a).trans (ih (f s a))

theorem State.unask_sameButTilesDies (s : State) (asker tlb : Nat) (which : Word → Bool) : SameButTilesDies s (s.unask asker tlb which) := by
  refine (s.onTlb_sameButTilesDies tlb _).trans (foldl_sameButTilesDies (fun s d => ?_) _ _)
  split
  · exact .refl s
  · exact s.onDie_sameButTilesDies d _

/-- What a trap leaves before its delivery: the slot's own reads are dropped, and its answers from the TLB. -/
def State.beforeTrap (s : State) (g : Nat) : State := (s.dropIssueReads g).clearAnswers g

theorem State.beforeTrap_frame (s : State) (g : Nat) : s.beforeTrap g =
    { s with tiles := (s.beforeTrap g).tiles, dies := (s.beforeTrap g).dies, requests := (s.dropIssueReads g).requests } :=
  (s.dropIssueReads g).unask_sameButTilesDies (slotAsker g) (tileOfSlot g) (fun _ => true)

@[simp] theorem State.beforeTrap_slots (s : State) (g : Nat) : (s.beforeTrap g).slots = s.slots := by rw [State.beforeTrap_frame]
@[simp] theorem State.beforeTrap_mem (s : State) (g : Nat) : (s.beforeTrap g).mem = s.mem := by rw [State.beforeTrap_frame]
@[simp] theorem State.beforeTrap_parts (s : State) (g : Nat) : (s.beforeTrap g).parts = s.parts := by rw [State.beforeTrap_frame]
@[simp] theorem State.beforeTrap_gangs (s : State) (g : Nat) : (s.beforeTrap g).gangs = s.gangs := by rw [State.beforeTrap_frame]
@[simp] theorem State.beforeTrap_images (s : State) (g : Nat) : (s.beforeTrap g).images = s.images := by rw [State.beforeTrap_frame]
@[simp] theorem State.beforeTrap_slot (s : State) (g h : Nat) : (s.beforeTrap g).slot h = s.slot h := by simp only [State.slot, State.beforeTrap_slots]
@[simp] theorem State.beforeTrap_part (s : State) (g p : Nat) : (s.beforeTrap g).part p = s.part p := by simp only [State.part, State.beforeTrap_parts]
@[simp] theorem State.beforeTrap_inLockstep (s : State) (g : Nat) (t : Slot) : (s.beforeTrap g).inLockstep t = s.inLockstep t := by
  simp only [State.inLockstep, State.gangOf, State.beforeTrap_gangs]
@[simp] theorem State.beforeTrap_kernel (s : State) (g p h i : Nat) : (s.beforeTrap g).kernel p h i = s.kernel p h i := by
  simp only [State.kernel, State.image, State.beforeTrap_images]

/-! ## Delivery of a trap (spec/13 R274) -/

/-- The code that TRAPDEL holds for a cause. -/
def State.trapCode (s : State) (g cause : Nat) : Nat := (s.part (s.slot g).part).trapdel.toNat / 2 ^ (2 * cause) % 4

theorem bits_pair (v : Word) (k : Nat) : bits v (k + 1) k = v.toNat / 2 ^ k % 4 := by
  have h : k + 1 + 1 - k = 2 := by omega
  rw [bits, bitsN, h]; rfl

theorem testW_eq (v : Word) (n : Nat) : testW v n = v.getLsbD n := testN_toNat v n

section
variable {s : State} {g cause : Nat}

theorem State.delivery_of_super (h : (s.slot g).status.super = true) : s.delivery g cause = .cancel := by
  simp only [State.delivery, h, if_true]

section
variable (h : (s.slot g).status.super = false)
include h

theorem State.delivery_of_code_cancel (hc : s.trapCode g cause = 2) : s.delivery g cause = .cancel := by
  rw [State.trapCode] at hc
  simp only [State.delivery, h, Bool.false_eq_true, if_false, bits_pair, hc]

theorem State.delivery_of_code_super (hc : s.trapCode g cause = 0) :
    s.delivery g cause = if (s.part (s.slot g).part).partinfo.getLsbD 16 then .super else .cancel := by
  rw [State.trapCode] at hc
  simp only [State.delivery, h, Bool.false_eq_true, if_false, bits_pair, hc, testW_eq]

theorem State.delivery_of_lockstep (hc : s.trapCode g cause = 1) (hl : s.inLockstep (s.slot g) = true) :
    s.delivery g cause = if (s.part (s.slot g).part).partinfo.getLsbD 16 then .super else .cancel := by
  rw [State.trapCode] at hc
  simp only [State.delivery, h, Bool.false_eq_true, if_false, bits_pair, hc, hl, if_true, testW_eq]

theorem State.delivery_of_handler (hc : s.trapCode g cause = 1) (hl : s.inLockstep (s.slot g) = false)
    (hh : (s.slot g).inHandler = true) : s.delivery g cause = .cancel := by
  rw [State.trapCode] at hc
  simp only [State.delivery, h, Bool.false_eq_true, if_false, bits_pair, hc, hl, hh, Bool.true_or, if_true]

end

theorem trapDelivery : Claims.TrapDelivery := fun _ _ _ =>
  ⟨State.delivery_of_super, State.delivery_of_code_cancel, State.delivery_of_code_super, State.delivery_of_lockstep, State.delivery_of_handler⟩

/-- A trap that goes to the trap kernel outside a lockstep gang had its TRAPDEL code say so. -/
theorem State.delivery_eq_super (hl : s.inLockstep (s.slot g) = false) (h : s.delivery g cause = .super) :
    (s.slot g).status.super = false ∧ s.trapCode g cause = 0 ∧ (s.part (s.slot g).part).partinfo.getLsbD 16 = true := by
  simp only [State.delivery, bits_pair, hl, Bool.false_eq_true, if_false, testW_eq] at h
  split at h
  · cases h
  · rename_i hs
    split at h
    · rename_i hc
      split at h
      · exact ⟨eq_false_of_ne_true hs, hc, ‹_›⟩
      · cases h
    · have hne : ∀ b : Bool, (if b then Delivery.cancel else .task) ≠ .super := by decide
      exact absurd h (hne _)
    · cases h

/-- The slot in its trap bank, at the entry of the trap kernel. -/
def Slot.trapped (t : Slot) (cause : Nat) (v : Word) (entry : Nat) : Slot :=
  { t with
    epc := wordN (t.pc % 65536), ecause := BitVec.ofNat 8 cause, etval := v
    status := { super := true, tbank := true, khold := t.hold.isSome, inh := t.inHandler, lock := false }
    trap := { t.trap with pc := entry } }

/-- The entry of the trap kernel of a slot's partition. -/
def State.trapEntry (s : State) (g : Nat) : Nat :=
  match s.kernel (s.slot g).part (s.part (s.slot g).part).trapImage (bits (s.part (s.slot g).part).partinfo 15 0) with
  | some k => k.entry
  | none => 0

theorem State.enterTrap_of_not_lockstep (hl : s.inLockstep (s.slot g) = false) (v : Word) :
    s.enterTrap g cause v = s.setSlot g ((s.slot g).trapped cause v (s.trapEntry g)) := by
  simp only [State.enterTrap, hl, Bool.false_eq_true, if_false]
  split <;> rfl

theorem State.takeTrap_of_delivery_super (hl : s.inLockstep (s.slot g) = false) (hd : s.delivery g cause = .super) (v : Word) :
    s.takeTrap g cause v = (s.beforeTrap g).setSlot g ((s.slot g).trapped cause v (s.trapEntry g)) := by
  obtain ⟨hs, hc, hi⟩ := State.delivery_eq_super hl hd
  have hd' : (s.beforeTrap g).delivery g cause = .super := by
    rw [State.delivery_of_code_super (by rwa [State.beforeTrap_slot])
      (by rw [State.trapCode, State.beforeTrap_slot, State.beforeTrap_part]; exact hc), State.beforeTrap_slot, State.beforeTrap_part, hi]
    rfl
  have hl' : (s.beforeTrap g).inLockstep ((s.beforeTrap g).slot g) = false := by rwa [State.beforeTrap_inLockstep, State.beforeTrap_slot]
  have hentry : (s.beforeTrap g).trapEntry g = s.trapEntry g := by
    simp only [State.trapEntry, State.beforeTrap_slot, State.beforeTrap_part, State.beforeTrap_kernel]
  change (match (s.beforeTrap g).delivery g cause with
    | .super => (s.beforeTrap g).enterTrap g cause v
    | .cancel => _
    | .task => _) = _
  rw [hd', State.enterTrap_of_not_lockstep hl', hentry, State.beforeTrap_slot]

end

theorem superTrapEntry : Claims.SuperTrapEntry := by
  intro s g cause v k hs hl _ hc hi hk
  have hd : s.delivery g cause = .super := by rw [State.delivery_of_code_super hs hc, hi]; rfl
  have hentry : s.trapEntry g = k.entry := by rw [State.trapEntry, hk]
  rw [State.takeTrap_of_delivery_super hl hd, hentry]
  refine ⟨?_, fun h hh => ?_, State.slot_setSlot _ _ _⟩
  · rw [State.setSlot_mem, State.beforeTrap_mem]
  · rw [State.slot_setSlot_ne _ g h _ hh, State.beforeTrap_slot]

/-! ## TRET (spec/13 R276) -/

/-- The bank of the flow that trapped. -/
def Slot.userBank (t : Slot) : Bank := if t.inHandler then .handler else .main

/-- The slot once it has returned from its trap. -/
def Slot.returned (t : Slot) : Slot :=
  { t.setFlow t.userBank { t.flowOf t.userBank with pc := bits t.epc 15 0 } with
    status := { super := false, tbank := false, khold := false, inh := false, lock := false } }

theorem State.returnTrap_of_not_lockstep {s : State} {g : Nat} (hl : s.inLockstep (s.slot g) = false) :
    s.returnTrap g = s.setSlot g (s.slot g).returned := by
  have hl' : (s.setSlot g (s.slot g).returned).inLockstep (s.slot g) = false := hl
  change (match (s.slot g).gang with
    | some k => if (s.setSlot g (s.slot g).returned).inLockstep (s.slot g) then _ else s.setSlot g (s.slot g).returned
    | none => s.setSlot g (s.slot g).returned) = _
  rw [hl']
  split <;> rfl

theorem Slot.returned_flow (t : Slot) : t.returned.flow = { t.flowOf t.userBank with pc := bits t.epc 15 0 } := by
  cases h : t.inHandler <;> simp [Slot.returned, Slot.userBank, Slot.flow, Slot.bank, Slot.flowOf, Slot.setFlow, h]

theorem Slot.returned_trap (t : Slot) : t.returned.trap = t.trap := by
  cases h : t.inHandler <;> simp [Slot.returned, Slot.userBank, Slot.setFlow, h]

theorem tret_of_ready {s : State} (hr : Ready s { privileged := true } []) (ht : (me s).status.tbank = true) (hl : s.inLockstep (me s) = false) :
    Gives .tret s (s.setSlot s.cur (me s).returned) :=
  gives_of_done (body := fun t => if t.status.tbank then .done (s.returnTrap s.cur) else s.trapWord t 1) rfl hr
    ((if_pos ht).trans (congrArg Issue.done (State.returnTrap_of_not_lockstep hl)))

/-- Entering a trap and returning from it changes the trap's own registers alone. -/
theorem Slot.returned_trapped (t : Slot) (cause : Nat) (v : Word) (entry : Nat)
    (hst : t.status = { super := false, tbank := false, khold := false, inh := false, lock := false }) (hpc : t.pc < 65536) :
    (t.trapped cause v entry).returned = { t with
      epc := wordN t.pc, ecause := BitVec.ofNat 8 cause, etval := v, trap := { t.trap with pc := entry } } := by
  have hbits : bits (wordN (t.pc % 65536)) 15 0 = t.pc := by
    rw [bits_low, wordN, BitVec.toNat_ofNat, Nat.mod_eq_of_lt hpc, Nat.mod_eq_of_lt (hpc.trans (by decide))]; exact Nat.mod_eq_of_lt hpc
  have hret : (t.trapped cause v entry).returned =
      { (t.trapped cause v entry).setFlow t.userBank { (t.trapped cause v entry).flowOf t.userBank with pc := t.pc } with status := t.status } := by
    rw [Slot.returned, hst]; exact hbits ▸ rfl
  rw [hret, Slot.trapped, Nat.mod_eq_of_lt hpc]
  cases hh : t.inHandler <;> simp [Slot.userBank, hh, Slot.setFlow, Slot.flowOf, Slot.pc, Slot.flow, Slot.bank, hst]

theorem State.inLockstep_setSlot (s : State) (g : Nat) (u t : Slot) : (s.setSlot g u).inLockstep t = s.inLockstep t := rfl

theorem State.inLockstep_trapped {s : State} {g cause entry : Nat} {v : Word} (hl : s.inLockstep (s.slot g) = false) :
    ((s.beforeTrap g).setSlot g ((s.slot g).trapped cause v entry)).inLockstep
      (((s.beforeTrap g).setSlot g ((s.slot g).trapped cause v entry)).slot g) = false := by
  rw [State.slot_setSlot, State.inLockstep_setSlot, State.beforeTrap_inLockstep]; exact hl

theorem trapReturn : Claims.TrapReturn := by
  intro s
  refine ⟨fun hr ht hl => ?_, fun hr ht => ?_, fun g cause v hst hl hpc hd => ?_⟩
  · refine ⟨_, tret_of_ready hr ht hl, rfl, fun h hh => s.slot_setSlot_ne _ h _ hh, ?_⟩
    rw [State.slot_setSlot]
    refine ⟨rfl, congrArg Flow.pc (Slot.returned_flow _), Slot.returned_trap _, (congrArg Flow.x (Slot.returned_flow _)).trans ?_⟩
    cases h : (me s).inHandler <;> simp [Slot.userBank, h, Slot.flowOf]
  · exact gives_of_trap (body := fun t => if t.status.tbank then .done (s.returnTrap s.cur) else s.trapWord t 1) rfl hr
      (if_neg (by rw [ht]; exact Bool.false_ne_true))
  · rw [State.takeTrap_of_delivery_super hl hd, State.returnTrap_of_not_lockstep (State.inLockstep_trapped hl), State.slot_setSlot,
      State.slot_setSlot, Slot.returned_trapped _ _ _ _ hst hpc]
    exact ⟨rfl, rfl, rfl, rfl, rfl, rfl⟩

/-- Settles O11: the delivery, the entry into the trap bank and the return from it. -/
theorem trapEntryAndReturn : Obligations.TrapEntryAndReturn := ⟨superTrapEntry, trapReturn, trapDelivery⟩

end Sys2Proof.Machine

namespace Sys2Proof.Machine

open Sys2Proof.Claims

set_option Elab.async false

/-! ## Scalar loads, stores and atomics at issue (spec/06 R143 to R146, R148, R149) -/

/-- The access that a row describes. -/
def accessOf (q : MemRow) : Access :=
  { kind := q.kind, acc := q.acc, addr := q.addr, size := q.size, dest := q.dest, level := q.level, acq := q.acq, rel := q.rel }

theorem portReady_of_portFree {s : State} {rel : Bool} (h : PortFree s rel) : s.portReady s.cur rel = true := by
  obtain ⟨hcount, hacq, hreply, hretry, hrel⟩ := h
  have hlen : ((s.outstanding s.cur).filter (fun r => r.kind.counted && r.src == s.slotSource s.cur)).length < 16 := by
    refine lt_of_le_of_lt (List.Sublist.length_le ?_) hcount
    exact List.monotone_filter_right _ fun r hr => (Bool.and_eq_true_iff.1 hr).1
  have hpending : s.acquirePending s.cur = false := by simpa [State.acquirePending] using hacq
  have horder : (!rel || s.accessesPerformed s.cur) = true := by
    cases rel
    · rfl
    · exact hrel rfl
  simp only [State.portReady, hlen, decide_true, hpending, hreply, hretry, horder, Bool.not_false, Bool.and_self]

/-- The level of an access is not declared. -/
def undeclared (t : Slot) (l : Option Level) : Bool :=
  match l with
  | some l => !t.declares l
  | none => false

theorem undeclared_eq_false_iff (t : Slot) (l : Option Level) : undeclared t l = false ↔ Declared t l := by
  cases l with
  | none => simp [undeclared, Declared]
  | some l => simp [undeclared, Declared, Slot.declares, testN_toNat]

theorem State.access_eq {s : State} {q : MemRow} (hp : PortFree s q.rel) : s.access (me s) (accessOf q) =
    if undeclared (me s) q.level then s.trapWord (me s) 1
    else match s.checkAccess s.cur q.acc q.size q.addr with
      | .trap c => .trap c q.addr
      | .wait => .wait (s.askHome (tileOfSlot s.cur) (me s).part q.addr (slotAsker s.cur))
      | .ok target =>
        let r := s.accept s.cur q.kind q.addr (some target) q.dest q.acq q.rel (match q.level with
          | some l => l.val
          | none => 0)
        .done ((r.2.retire s.cur id).post (q.kind.perform r.1)) := by
  have h : s.portReady s.cur (accessOf q).rel = true := portReady_of_portFree hp
  rw [State.access, h, Bool.not_true, if_neg Bool.false_ne_true]; rfl

/-- What an instruction that makes the access of a row does. -/
def MakesAccess (i : Instr) (s : State) (q : MemRow) : Prop :=
  ∃ body : Slot → Issue, exec i s = s.issue {} q.regs body ∧ body (me s) = s.access (me s) (accessOf q)

section
variable {s : State} {i : Instr} {q : MemRow} (hi : MakesAccess i s q) (hr : Ready s {} q.regs) (hp : PortFree s q.rel)
include hi hr hp

theorem accepts_of_makesAccess {t : Target} (hd : Declared (me s) q.level) (hc : s.checkAccess s.cur q.acc q.size q.addr = .ok t) :
    Accepts i s q q.kind q.addr t := by
  obtain ⟨body, hexec, hbody⟩ := hi
  rw [State.access_eq hp, (undeclared_eq_false_iff _ _).2 hd, hc, if_neg Bool.false_ne_true] at hbody
  refine ⟨_, gives_of_done hexec hr hbody, ⟨rfl, rfl, rfl, rfl, rfl, rfl, rfl, rfl, rfl, rfl, rfl, rfl, rfl, rfl, rfl, rfl⟩, rfl, rfl, ?_⟩
  cases q.level <;> rfl

end

theorem State.loadAs_eq (s : State) (d a : Reg) (sz : Nat) (addr : Word) (l : Option Level) (t : Slot) :
    s.loadAs d sz addr l t = s.access t (accessOf (loadRow d a sz (sizeBytes sz) addr l)) := rfl
theorem State.storeAs_eq (s : State) (d a : Reg) (sz : Nat) (addr : Word) (l : Option Level) (t : Slot) :
    s.storeAs d sz addr l t = s.access t (accessOf (storeRow t d a (sizeBytes sz) addr l)) := rfl

/-- The row of an atomic, with operand b or without. -/
def atomicRow (t : Slot) (d a : Reg) (id n : Nat) (b : Bool) (o : AmoOrder) (l : Level) : MemRow :=
  if b then atomRowB t d a id n o l else atomRow t d a id n o l

theorem State.atomicAs_eq (s : State) {d : Reg} (a : Reg) {id : Nat} (w : Nat) {b : Bool} {o : AmoOrder} {l : Level} (t : Slot)
    (hb : b = true → d ≠ 31) (hl : o = .none → l = 0) (hid : id ≠ 11) :
    s.atomicAs d a id w b o l t = s.access t (accessOf (atomicRow t d a id w b o l)) := by
  have hb' : (b && d == 31) = false := by
    cases b
    · rfl
    · simpa using hb rfl
  have hl' : (o == .none && l != 0) = false := by
    by_cases ho : o = .none
    · simp [hl ho]
    · simp [ho]
  have hid' : (id == 11) = false := by simpa using hid
  simp only [State.atomicAs, hb', hl', hid', Bool.false_eq_true, if_false]
  cases b <;> cases o <;> rfl

theorem levelUsed_iff (o : AmoOrder) (l : Level) : levelUsed o l = true ↔ (o = .none → l = 0) := by
  cases o <;> simp [levelUsed]

theorem sizeBytes_of_isLoad {sz : SizeCode} (h : sz ≠ 7) : sizeBytes sz.val = 2 ^ (sz.val / 2) := by
  revert h; revert sz; decide
theorem sizeBytes_of_even {sz : SizeCode} (h : ¬sz.val % 2 = 1) : ¬(sz = 1 ∨ sz = 3 ∨ sz = 5 ∨ sz = 7) ∧ sizeBytes sz.val = 2 ^ (sz.val / 2) := by
  revert h; revert sz; decide

theorem makesAccess_load {s : State} {i : Instr} {d a : Reg} {sz n : Nat} {off : BitVec 11}
    (h : exec i s = s.issue {} [a, d] (fun t => s.loadAs d sz (effAddr (t.x a) off) none t)) (hn : sizeBytes sz = n) :
    MakesAccess i s (loadRow d a sz n (ea (me s) a off) none) := by subst hn; exact ⟨_, h, rfl⟩

theorem makesAccess_store {s : State} {i : Instr} {d a : Reg} (sz : Nat) {n : Nat} {off : BitVec 11}
    (h : exec i s = s.issue {} [a, d] (fun t => s.storeAs d sz (effAddr (t.x a) off) none t)) (hn : sizeBytes sz = n) :
    MakesAccess i s (storeRow (me s) d a n (ea (me s) a off) none) := by subst hn; exact ⟨_, h, rfl⟩

theorem makesAccess_atomic {s : State} {i : Instr} {d a : Reg} {id w : Nat} {o : AmoOrder} {l : Level}
    (h : exec i s = s.issue {} (atomRegs d a false) (s.atomicAs d a id w false o l)) (hl : levelUsed o l = true) (hid : id ≠ 11) :
    MakesAccess i s (atomRow (me s) d a id w o l) :=
  ⟨_, h, s.atomicAs_eq a w (me s) (fun hb => absurd hb Bool.false_ne_true) ((levelUsed_iff o l).1 hl) hid⟩

/-- A load, store or atomic makes the access of its row. -/
theorem makesAccess_of_memRow {s : State} {i : Instr} : OfRow (fun q => i.wf = true → MakesAccess i s q) (memRow i (me s)) := by
  rcases i
  any_goals exact trivial
  case ldB | ldBu | ldH | ldHu | ldW | ldWu | ld => exact fun _ => makesAccess_load rfl rfl
  -- stores
  case stB => exact fun _ => makesAccess_store 0 rfl rfl
  case stH => exact fun _ => makesAccess_store 2 rfl rfl
  case stW => exact fun _ => makesAccess_store 4 rfl rfl
  case st => exact fun _ => makesAccess_store 6 rfl rfl
  -- LD.ACQ, ST.REL
  case ldAcq d a l sz =>
    change OfRow _ (if sz = 7 then none else _)
    split
    · exact trivial
    · rename_i hsz
      rw [← sizeBytes_of_isLoad hsz]
      exact fun _ => ⟨fun t => if sz = 7 then s.trapWord t 1 else s.loadAs d sz.val (t.x a) (some l) t, rfl, if_neg hsz⟩
  case stRel d a l sz =>
    change OfRow _ (if sz.val % 2 = 1 then none else _)
    split
    · exact trivial
    · rename_i hsz
      obtain ⟨hok, hsize⟩ := sizeBytes_of_even hsz
      rw [← hsize]
      exact fun _ => ⟨fun t => if sz = 1 ∨ sz = 3 ∨ sz = 5 ∨ sz = 7 then s.trapWord t 1 else s.storeAs d sz.val (t.x a) (some l) t, rfl, if_neg hok⟩
  -- AMO.CAS
  case amoCas d a w o l =>
    change OfRow _ (if d = 31 then none else _)
    split
    · exact trivial
    · rename_i hd
      intro hwf
      have hlevel : levelUsed o l = true := (Bool.and_eq_true_iff.1 hwf).1
      exact ⟨_, rfl, s.atomicAs_eq a (wsize w) (me s) (fun _ => hd) ((levelUsed_iff o l).1 hlevel) (by decide)⟩
  -- the other atomics
  all_goals exact fun hwf => makesAccess_atomic rfl hwf (by decide)

/-! ATOM.INV and AMO.HIST (spec/06 R148). -/

/-- The descriptor that ATOM.INV names (spec/04 R105). -/
def State.atomDescriptor (s : State) (id : Fin 64) : BitVec 128 := (s.part (me s).part).atomfn[id.val - 16]?.getD 0

theorem vget_eq_getD {α : Type} {n : Nat} [NeZero n] (v : Vector α n) {i : Nat} (h : i < n) (x : α) : vget v i = v[i]?.getD x := by
  simp [vget, Vector.get, Fin.ofNat, Nat.mod_eq_of_lt h, h]

theorem vget_atomDescriptor (s : State) {id : Fin 64} : vget (s.part (me s).part).atomfn (id.val - 16) = s.atomDescriptor id :=
  vget_eq_getD _ (by omega) 0

/-- ATOM.INV once its registers are ready. -/
def State.atomInvBody (s : State) (d a : Reg) (id : Fin 64) (o : AmoOrder) (l : Level) (t : Slot) : Issue :=
  let f := vget (s.part t.part).atomfn (id.val - 16)
  if id.val < 16 then s.trapWord t 1
  else if !descriptorValid f then s.trapWord t 1
  else s.atomicAs d a id.val (if descriptorWide f then 8 else 4) true o l t

theorem exec_atomInv (s : State) (d a : Reg) (id : Fin 64) (o : AmoOrder) (l : Level) :
    exec (.atomInv d a id o l) s = s.issue {} [d, a, d + 1] (s.atomInvBody d a id o l) := rfl

section
variable {s : State} {d a : Reg} {o : AmoOrder} {l : Level} {id : Fin 64} (hd : d ≠ 31) (hl : o = .none → l = 0)

theorem atomInvBody_of_invalid (h : id.val < 16 ∨ (s.atomDescriptor id).getLsbD 0 = false) :
    s.atomInvBody d a id o l (me s) = s.trapWord (me s) 1 := by
  simp only [State.atomInvBody, vget_atomDescriptor, descriptorValid, testN_toNat]
  rcases h with h | h
  · exact if_pos h
  · simp only [h, Bool.not_false, if_true, ite_self]

include hd hl

theorem makesAccess_atomInv (hid : 16 ≤ id.val) (hv : (s.atomDescriptor id).getLsbD 0 = true) :
    MakesAccess (.atomInv d a id o l) s (atomRowB (me s) d a id.val (wsize ((s.atomDescriptor id).getLsbD 1)) o l) := by
  refine ⟨_, exec_atomInv s d a id o l, ?_⟩
  simp only [State.atomInvBody, vget_atomDescriptor, descriptorValid, descriptorWide, testN_toNat, hv, Bool.not_true, Bool.false_eq_true,
    if_false, if_neg (Nat.not_lt.2 hid)]
  exact s.atomicAs_eq a _ (me s) (fun _ => hd) hl (by omega)

/-- AMO.HIST checks the array's base, and then makes the access of the counter. -/
theorem makesAccess_amoHist {u : Target} (hp : PortFree s (atomRowB (me s) d a 11 4 o l).rel)
    (hdecl : Declared (me s) (atomRowB (me s) d a 11 4 o l).level) (hu : s.checkAccess s.cur (.atomic 11) 4 ((me s).x a) = .ok u) :
    MakesAccess (.amoHist d a o l) s
      { atomRowB (me s) d a 11 4 o l with addr := (me s).x a + 4 * BitVec.ofNat 64 (((me s).x d).toNat % 65536) } := by
  refine ⟨fun t => s.atomicAs d a 11 4 true o l t, rfl, ?_⟩
  have hl' : (o == .none && l != 0) = false := by
    by_cases ho : o = .none
    · simp [hl ho]
    · simp [ho]
  have hd' : (d == 31) = false := by simpa using hd
  have hrel : s.portReady s.cur (o == .rel || o == .ar) = true := by
    have h := portReady_of_portFree hp
    cases o <;> exact h
  have hund : undeclared (me s) (if (o == AmoOrder.none) = true then none else some l) = false := by
    have h := (undeclared_eq_false_iff _ _).2 hdecl
    cases o <;> exact h
  have hbits : bits ((me s).x d) 15 0 = ((me s).x d).toNat % 65536 := bits_low _ 15
  change s.atomicAs d a 11 4 true o l (me s) = _
  simp only [State.atomicAs, hl', hd', hrel, Bool.and_false, Bool.false_eq_true, if_false, if_true, beq_self_eq_true, Bool.not_true]
  change (if undeclared (me s) (if (o == AmoOrder.none) = true then none else some l) = true then _ else _) = _
  rw [hund, if_neg Bool.false_ne_true, hu, hbits]
  cases o <;> rfl

end

/-- Settles O12: each row's access is accepted once its checks pass. -/
theorem accessAccepted : Obligations.AccessAccepted := by
  refine ⟨fun s i q t hwf hrow hr hp hd hc => accepts_of_makesAccess (makesAccess_of_memRow.apply hrow hwf) hr hp hd hc,
    fun s d a o l id t u hd hl hr => ⟨fun hp hdecl hu hc => ?_, fun hid hv hp hdecl hc => ?_, fun hbad => ?_⟩⟩
  · exact accepts_of_makesAccess (makesAccess_amoHist hd hl hp hdecl hu) hr hp hdecl hc
  · exact accepts_of_makesAccess (makesAccess_atomInv hd hl hid hv) hr hp hdecl hc
  · exact gives_of_trap (exec_atomInv s d a id o l) hr (atomInvBody_of_invalid hbad)

/-! The checks of a translated access (spec/06 R144). Slots are numbered 0 to 1,023; the statement speaks of every number, and the number of
tile 256, which does not exist, is that of a Fathom engine's TLB. -/

/-- A translation of address 0 for partition 0 that allows reads. -/
def readableZero : TlbEntry := { part := 0, home := 0, w0 := 1, w1 := 0x200, w2 := 0 }

/-- The state after reset, but for tile 256, whose TLB holds a translation of address 0. -/
def strayTile : State := State.reset.setTile 256 { Tile.reset with tlb := { entries := [readableZero], gens := [], answers := [] } }

theorem checkAccess_strayTile : strayTile.checkAccess 1024 .read 1 0 = .wait := by decide

/-- Refutes O13: slot 1,024 would be on tile 256, and the TLB numbered 256 is that of a Fathom engine. -/
theorem not_accessFaults : ¬Obligations.AccessFaults := by
  intro h
  obtain ⟨-, hchecks⟩ := h
  obtain ⟨-, -, -, hvirtual⟩ := hchecks strayTile 1024 .read 1 0 (by decide)
  obtain ⟨-, -, hread⟩ := hvirtual (by decide) (by decide) (by decide) readableZero (by decide)
  obtain ⟨-, hok⟩ := hread (by decide) (by decide) rfl
  have hgot := hok (by decide) (by decide)
  rw [checkAccess_strayTile] at hgot
  cases hgot

/-- Settles O14: an undeclared level traps, what is outstanding makes the slot wait. -/
theorem fence : Obligations.Fence := by
  intro s l hr
  have hexec : exec (.fence l) s = s.issue {} [] (fun t =>
    if !t.declares l then s.trapWord t 1
    else if !s.accessesPerformed s.cur || s.acquirePending s.cur then (if s.engineStuck t then s.trapWord t 1 else s.waitPerformed true)
    else .done (s.retire s.cur id)) := rfl
  refine ⟨fun hd hdone hacq => gives_of_done hexec hr ?_, fun hd hstuck hwait => gives_of_wait hexec hr ?_, fun hd => gives_of_trap hexec hr ?_⟩
  · simp only [hd, hdone, hacq, Bool.not_true, Bool.or_self, Bool.false_eq_true, if_false]; rfl
  · have hpending : (!s.accessesPerformed s.cur || s.acquirePending s.cur) = true := by
      rcases hwait with h | h <;> simp [h]
    simp only [hd, hpending, hstuck, Bool.not_true, Bool.false_eq_true, if_false, if_true]; rfl
  · simp only [hd, Bool.not_false, if_true]; rfl

end Sys2Proof.Machine

namespace Sys2Proof.Machine

open Sys2Proof.Claims

set_option Elab.async false

/-! ## Accesses performed and answered (spec/04 R86, R102; spec/16 R345, R355)

Two statements fail on a state of a few requests; the events that an outcome leaves due show it. -/

/-- The events that the next state has due, none where there is no next state. -/
def dueAfter : Host.Outcome State Fault Refusal → List Instr
  | .next t => t.agenda
  | _ => []

/-- A request of slot 0 of partition 0 after reset. -/
def plainRequest (id : Nat) (kind : ReqKind) (phase : ReqPhase) (target : Target) : Request :=
  { id := id, kind := kind, phase := phase, slot := 0, task := 0, scope := 0, part := 0, src := 0, super := false, addr := 0
    target := some target, bank := .main, dest := some 1, acq := false, rel := false, level := 0, orphan := false, image := none
    remote := decide (phase = .left), seq := 0, result := none }

/-- The state after reset with byte 8 of tile 0 set and requests in flight. -/
def inFlight (rs : List Request) : State := { State.reset with mem := [(8, 1)], requests := rs }

/-- A load of 9 bytes, as a unit other than the scalar port may make. -/
def longLoad : Request := plainRequest 0 (.load 9 7) .inTile (.tile 0 0)

theorem atScratchpad_longLoad : AtScratchpad (inFlight [longLoad]) longLoad 9 0 0 :=
  ⟨rfl, rfl, rfl, by decide, by decide, by decide, by decide, by decide, fun _ q hq => absurd hq List.not_mem_nil⟩

theorem dueAfter_longLoad : dueAfter (exec (.loadPerform 0) (inFlight [longLoad])) = [.replyArrival 0 (2 ^ 64) false] := by decide

/-- Refutes O15: the reply of a load of more than 8 bytes carries all of them, and the statement's only their low 64 bits. -/
theorem not_accessPerformed : ¬Obligations.AccessPerformed := by
  rintro ⟨hload, -, -⟩
  have h : exec (.loadPerform 0) (inFlight [longLoad]) = _ := hload _ longLoad 9 7 0 0 atScratchpad_longLoad rfl
  have hdue := dueAfter_longLoad
  rw [h] at hdue
  revert hdue
  decide

/-- A store to the host, and a later load of it. -/
def hostStore : Request := plainRequest 0 (.store [1]) .left (.host 0)
/-- See `hostStore`. -/
def hostLoad : Request := plainRequest 1 (.load 8 6) .left (.host 0)

theorem dueAfter_hostLoad : dueAfter (exec (.replyArrival 1 0 false) (inFlight [hostStore, hostLoad])) = [.replyArrival 0 0 false] := by decide

/-- Refutes O17: the reply of a load of the host also says that the earlier store of its source has been performed (spec/16 R355). -/
theorem not_replyWrites : ¬Obligations.ReplyWrites := by
  intro h
  obtain ⟨hload, -, -⟩ := h (inFlight [hostStore, hostLoad]) hostLoad 1 0 rfl rfl rfl rfl (by decide) rfl
  obtain ⟨t, hgives, ht, -⟩ := hload 8 6 rfl (by decide) rfl
  have hdue : dueAfter (exec (.replyArrival 1 0 false) (inFlight [hostStore, hostLoad])) = t.agenda := congrArg dueAfter hgives
  rw [dueAfter_hostLoad, ht] at hdue
  cases hdue

/-! ATOMIC_EXECUTE (spec/04 R102, R103). -/

theorem ofBytes_toBytes_mod (n v : Nat) : ofBytes (toBytes n v) = v % 256 ^ n := by
  induction n generalizing v with
  | zero => rw [pow_zero, Nat.mod_one]; rfl
  | succ n ih =>
    have hcons : ofBytes (toBytes (n + 1) v) = (BitVec.ofNat 8 v).toNat + 256 * ofBytes (toBytes n (v / 256)) := rfl
    have hbyte : (BitVec.ofNat 8 v).toNat = v % 256 := BitVec.toNat_ofNat ..
    rw [hcons, ih, hbyte, pow_succ', Nat.mod_mul]

section
variable {s : State} {r : Request} {n gt off : Nat} (h : AtScratchpad s r n gt off)
include h

theorem turnAt_of_atScratchpad : s.turnAt (.tile gt off) n r.src = true := by
  obtain ⟨-, -, -, -, -, -, -, -, horder⟩ := h
  simp only [State.turnAt, Target.key, State.inTurn, Bool.or_eq_true, bne_iff_ne, List.all_eq_true, Bool.not_eq_true', decide_eq_false_iff_not]
  by_cases hc : s.reachedAt = s.cycle
  · right
    rintro q hq ⟨hlo, hhi, hlt⟩
    exact absurd (horder hc q hq hlo hhi) (Nat.not_le.2 hlt)
  · exact .inl hc

theorem readTarget_of_atScratchpad (m : Nat) :
    (s.enterAt (.tile gt off) m r.src).readTarget (.tile gt off) n = (s.readMem (gt * 2 ^ 30 + off) n, s.poisoned (gt * 2 ^ 30 + off) n) := by
  obtain ⟨-, -, -, -, hdie, -⟩ := h
  exact if_neg (by rw [Bool.not_eq_true]; exact hdie)

theorem performAtomic_of_atScratchpad {fn : Nat} (a b : Word) (hfn : fn < 16) :
    s.performAtomic r fn n a b (.tile gt off) =
      let f := atomFixed fn n (ofBytes (s.readMem (gt * 2 ^ 30 + off) n)) (a.toNat % 2 ^ (8 * n)) (b.toNat % 2 ^ (8 * n))
      let bad := s.poisoned (gt * 2 ^ 30 + off) n
      performed ((ordered s (gt * 2 ^ 30 + off) n r.src).writeMark (gt * 2 ^ 30 + off) (toBytes n f.1) bad) r (wordN f.2) bad := by
  have hturn := turnAt_of_atScratchpad h
  have hread := readTarget_of_atScratchpad h n
  obtain ⟨-, -, -, -, hdie, hoverlap, hserved, hbarred, -⟩ := h
  have hfixed : (s.enterAt (.tile gt off) n r.src).atomicAt r.part fn n a b (s.readMem (gt * 2 ^ 30 + off) n) =
      let f := atomFixed fn n (ofBytes (s.readMem (gt * 2 ^ 30 + off) n)) (a.toNat % 2 ^ (8 * n)) (b.toNat % 2 ^ (8 * n))
      (toBytes n f.1, wordN f.2, false) := by
    simp only [State.atomicAt, State.atomFunction, hfn, if_true]
  have hwrite : ∀ bs bad, (s.enterAt (.tile gt off) n r.src).writeTarget (.tile gt off) bs bad =
      (ordered s (gt * 2 ^ 30 + off) n r.src).writeMark (gt * 2 ^ 30 + off) bs bad :=
    fun bs bad => if_neg (by rw [Bool.not_eq_true]; exact hdie)
  have hsnoop : s.snoop (s.heldLines (.tile gt off) n) true = none := rfl
  simp only [State.performAtomic, hoverlap, hserved, hbarred, hturn, hread, hfixed, hwrite, hsnoop, Target.remote, Bool.not_true, Bool.or_self,
    Bool.false_eq_true, if_false]
  cases s.poisoned (gt * 2 ^ 30 + off) n <;> rfl

end

theorem State.readMem_writeMem (s : State) (k : Nat) (bs : Bytes) : (s.writeMem k bs).readMem k bs.length = bs := Memory.read_write _ _ _

theorem atomicExecuted : Claims.AtomicExecuted := by
  intro s r fn w a b gt off _ h hk hfn _ hclean o f
  have hreq := h.1
  have hphase := h.2.1
  have htarget := h.2.2.1
  have hexec : exec (.atomicExecute r.id) s = .next (s.performAtomic r fn w a b (.tile gt off)) := by
    change Host.Outcome.next (match s.request r.id with
      | some r => match r.kind, r.target, r.phase with
        | .atomic fn w a b, some t, .inTile => s.performAtomic r fn w a b t
        | _, _, _ => s
      | none => s) = _
    simp only [hreq, hk, htarget, hphase]
  have hlen : (toBytes w f.1).length = w := Tests.toBytes_length w f.1
  rw [performAtomic_of_atScratchpad h a b (by omega), hclean] at hexec
  refine ⟨_, hexec, rfl, ?_, fun k hout => ?_⟩
  · have hread := (ordered s (gt * 2 ^ 30 + off) w r.src).readMem_writeMem (gt * 2 ^ 30 + off) (toBytes w f.1)
    rw [hlen] at hread
    exact (congrArg ofBytes hread).trans (by rw [ofBytes_toBytes_mod, pow_mul]; rfl)
  · refine (State.at_writeMem (ordered s (gt * 2 ^ 30 + off) w r.src) (gt * 2 ^ 30 + off) (toBytes w f.1) k).trans (if_neg ?_)
    rw [hlen]
    rintro ⟨hlo, hhi⟩
    rcases hout with h | h
    · exact Nat.not_lt.2 hlo h
    · exact Nat.not_lt.2 h hhi

/-- A word of `w` bytes as a signed number, by its upper half. -/
theorem sextN_word {w v : Nat} (hw : w = 4 ∨ w = 8) (hv : v < 2 ^ (8 * w)) :
    sextN v (8 * w) = if v < 2 ^ (8 * w) / 2 then (v : Int) else (v : Int) - 2 ^ (8 * w) := by
  rcases hw with rfl | rfl
  all_goals
    simp only [sextN, testN, beq_iff_eq]
    norm_num at hv ⊢
    split <;> split <;> omega

theorem atomicFunctions : Claims.AtomicFunctions := by
  intro w old a b hw ho ha hb m sg
  have hsg : ∀ v, v < 2 ^ (8 * w) → sextN v (8 * w) = sg v := fun v hv => (sextN_word hw hv).trans (by simp only [sg, m]; push_cast; rfl)
  have hpick : ∀ (p : Prop) [Decidable p] (x y : Nat), x < m → y < m → (if p then x else y) % m = if p then x else y :=
    fun p _ x y hx hy => Nat.mod_eq_of_lt (by split <;> assumption)
  refine ⟨rfl, ?_, ?_, ?_, ?_, ?_, ?_, ?_, ?_, ?_, ?_, rfl, ?_, ?_, ?_⟩
  · exact congrArg (·, old) (Nat.mod_eq_of_lt (Nat.and_lt_two_pow _ ha))
  · exact congrArg (·, old) (Nat.mod_eq_of_lt (Nat.or_lt_two_pow ho ha))
  · exact congrArg (·, old) (Nat.mod_eq_of_lt (Nat.xor_lt_two_pow ho ha))
  · exact congrArg (·, old) (Nat.mod_eq_of_lt ha)
  · exact congrArg (·, old) (hpick _ _ _ hb ho)
  · refine congrArg (·, old) ((hpick (sextN a (8 * w) < sextN old (8 * w)) _ _ ha ho).trans ?_)
    rw [hsg a ha, hsg old ho]
  · exact congrArg (·, old) (Nat.mod_eq_of_lt (lt_of_le_of_lt (min_le_left _ _) ho))
  · refine congrArg (·, old) ((hpick (sextN old (8 * w) < sextN a (8 * w)) _ _ ha ho).trans ?_)
    rw [hsg a ha, hsg old ho]
  · exact congrArg (·, old) (Nat.mod_eq_of_lt (max_lt ho ha))
  · exact congrArg (·, old) (Nat.mod_eq_of_lt (BitVec.isLt _))
  · refine congrArg (·, old) ((Nat.mod_eq_of_lt (lt_of_le_of_lt (Nat.sub_le _ _) ho)).trans ?_)
    split <;> omega
  · refine congrArg (·, old) ?_
    simp only [bitsN]
    norm_num
    omega
  · simp only [atomFixed, atomTake, bitsN]
    norm_num

/-- Settles O16: one step at the atomic unit, and the table of its functions. -/
theorem atomics : Obligations.Atomics := ⟨atomicExecuted, atomicFunctions⟩

end Sys2Proof.Machine

namespace Sys2Proof.Machine

open Sys2Proof.Claims

set_option Elab.async false

/-! ## Vector instructions at issue (spec/07 R156, R158, R173) -/

theorem resolve_eq (rc : Rc) (t : Slot) : Rc.resolve rc t.rc = (match rc with
    | .rne => 0
    | .rtz => 1
    | .rup => 2
    | .rdn => 3
    | .sr => 4
    | .fromRM => t.rm.toNat % 8) := by
  cases rc
  case fromRM => exact bits_low t.rm 2
  all_goals rfl

theorem isEntry_entry (t : Slot) (w : VecWord) (l : List Target) : IsEntry t w (w.entry t l) :=
  ⟨rfl, rfl, rfl, rfl, rfl, rfl, rfl, rfl, rfl, rfl, rfl, rfl, rfl, rfl, rfl, rfl, resolve_eq w.rc t⟩

theorem pushVec_eq_queued (t : Slot) (e : VecEntry) : t.pushVec e = queued t e := by
  simp only [Slot.pushVec, queued]
  split <;> rfl

/-- An instruction that goes into the vector queue unless its own check `bad` gives a cause. -/
def VectorForm (i : Instr) (s : State) (rs : List Reg) (w : VecWord) : Prop :=
  ∃ bad : Slot → Option Nat, exec i s = s.vector rs w bad ∧ (bad (me s) = none ↔ vecFine i (me s)) ∧ ∀ c, bad (me s) = some c → c = 1 ∨ c = 6

theorem mxEmax_isNone_iff (f : Nat) : (mxEmax f).isNone = true ↔ f ∉ mxFormats := by
  unfold mxEmax
  split
  case h_7 => simp_all [mxFormats]
  all_goals decide

theorem testN_four_fin (f : Fin 32) : testN f.val 4 = decide (16 ≤ f.val) := by revert f; decide

/-- The check of a packed form accepts the formats that the spec lists. -/
theorem fmtCause_eq_none_iff (f : Fin 32) (p lo hi : Nat) : fmtCause f.val p lo hi = none ↔ formatFine f.val p lo hi := by
  have hcode : bitsN f.val 3 0 = f.val % 16 := by simp [bitsN]
  simp only [fmtCause, formatFine, hcode, testN_four_fin]
  cases h : runLength (f.val % 16) with
  | none => simp
  | some l =>
    by_cases hlen : 256 < (p + 1) * l
    · simp [hlen]
    · by_cases hs : 16 ≤ f.val <;> by_cases h1 : 1 ≤ f.val % 16 ∧ f.val % 16 ≤ 7 <;> by_cases hr : lo ≤ f.val % 16 ∧ f.val % 16 ≤ hi <;>
        simp [hlen, hs, h1, hr] <;> omega

theorem perm2Cause_eq_none_iff (a : Reg) (t : Slot) : perm2Cause a t = none ↔ a ≠ 31 := by
  by_cases ha : a = 31 <;> simp [perm2Cause, ha]

/-- The check of VMXSC accepts the formats that have a scale. -/
theorem scaleFormatCause_eq_none_iff (f : Nat) : (if (mxEmax f).isNone then some 6 else none : Option Nat) = none ↔ f ∈ mxFormats := by
  rw [← not_iff_not, ← mxEmax_isNone_iff]
  cases (mxEmax f).isNone <;> simp

theorem fmtCause_eq_some (f p lo hi c : Nat) (h : fmtCause f p lo hi = some c) : c = 1 ∨ c = 6 := by
  simp only [fmtCause] at h
  split at h
  · split at h
    · exact .inl (Option.some.inj h).symm
    · split at h
      · exact .inr (Option.some.inj h).symm
      · cases h
  · exact .inr (Option.some.inj h).symm

theorem scaleCause_eq_some {x : Word} {packing : Bool} {c : Nat} (h : scaleCause x packing = some c) : c = 1 ∨ c = 6 := by
  unfold scaleCause at h
  split at h
  · exact .inr (Option.some.inj h).symm
  · split at h
    · exact .inr (Option.some.inj h).symm
    · cases h

/-- A scale descriptor's format, with its reserved bits 0 (spec/07 R170). -/
theorem scaleFormat_iff (x : Word) :
    ¬(bits x 63 24 ≠ 0 ∨ bits x 7 5 ≠ 0 ∨ (mxEmax (bits x 4 0)).isNone) ↔ x.toNat < 2 ^ 24 ∧ x.toNat % 256 ∈ mxFormats := by
  have hhigh : bits x 63 24 = 0 ↔ x.toNat < 2 ^ 24 := by
    have hlt : x.toNat < 2 ^ 64 := x.isLt
    simp only [bits, bitsN]; omega
  have hmid : bits x 7 5 = x.toNat % 256 / 32 := by simp only [bits, bitsN]; omega
  have hlow : bits x 4 0 = x.toNat % 256 % 32 := by simp only [bits, bitsN]; omega
  have hfmt : (x.toNat % 256 / 32 = 0 ∧ x.toNat % 256 % 32 ∈ mxFormats) ↔ x.toNat % 256 ∈ mxFormats := by
    constructor
    · rintro ⟨h0, hm⟩
      rwa [Nat.mod_eq_of_lt (by omega : x.toNat % 256 < 32)] at hm
    · intro hm
      have hlt : x.toNat % 256 < 32 := by
        have hle : ∀ f ∈ mxFormats, f < 32 := by decide
        exact hle _ hm
      exact ⟨Nat.div_eq_of_lt hlt, by rwa [Nat.mod_eq_of_lt hlt]⟩
  simp only [not_or, not_not, hhigh, hmid, hlow, mxEmax_isNone_iff]
  exact and_congr_right fun _ => hfmt

theorem scaleCause_pack_eq_none_iff (x : Word) : scaleCause x true = none ↔
    x.toNat < 2 ^ 24 ∧ x.toNat % 256 ∈ mxFormats ∧ x.toNat / 256 % 256 ≠ 255 ∧ x.toNat / 65536 ≠ 255 := by
  have h1 : bits x 15 8 = x.toNat / 256 % 256 := rfl
  have h2 : x.toNat < 2 ^ 24 → bits x 23 16 = x.toNat / 65536 := fun h => by simp only [bits, bitsN]; omega
  have hf := scaleFormat_iff x
  unfold scaleCause
  split
  · rename_i hbad
    have hno := mt hf.2 (not_not.2 hbad)
    simp only [reduceCtorEq, false_iff]
    tauto
  · rename_i hok
    obtain ⟨hlt, hmem⟩ := hf.1 hok
    simp only [h1, h2 hlt, hlt, hmem, true_and, ite_eq_right_iff, reduceCtorEq, imp_false, not_or]

theorem scaleCause_unpack_eq_none_iff (x : Word) : scaleCause x false = none ↔ x.toNat < 2 ^ 24 ∧ x.toNat % 256 ∈ mxFormats := by
  rw [← scaleFormat_iff]
  simp only [scaleCause, Bool.false_eq_true, false_and, if_false, ite_eq_right_iff, reduceCtorEq, imp_false]

section
variable {s : State} {i : Instr} {rs : List Reg} {w : VecWord}

theorem vectorForm_of_ok (h : exec i s = s.vector rs w vecOk) (hf : vecFine i (me s) = True) : VectorForm i s rs w :=
  ⟨vecOk, h, by simp [vecOk, hf], fun c hc => by cases hc⟩

theorem vectorForm_of_format {f : Fin 32} {p lo hi : Nat} (h : exec i s = s.vector rs w (fun _ => fmtCause f.val p lo hi))
    (hf : vecFine i (me s) = formatFine f.val p lo hi) : VectorForm i s rs w :=
  ⟨_, h, by rw [hf]; exact fmtCause_eq_none_iff f p lo hi, fmtCause_eq_some f.val p lo hi⟩

end

/-- A vector instruction asks for its word, with the check of its form. -/
theorem vectorForm_of_vecRow {s : State} {i : Instr} : OfRow (fun ⟨rs, w⟩ => VectorForm i s rs w) (vecRow i) := by
  rcases i
  any_goals exact trivial
  -- packed forms
  case vcvt => exact vectorForm_of_format (lo := 0) (hi := 14) rfl rfl
  case vcvtF32 => exact vectorForm_of_format (lo := 0) (hi := 14) rfl rfl
  case vnarrow => exact vectorForm_of_format (lo := 1) (hi := 7) rfl rfl
  case vwiden => exact vectorForm_of_format (lo := 1) (hi := 7) rfl rfl
  -- VPERM2, and the forms with a scale
  case vperm2 d a b m =>
    refine ⟨perm2Cause a, rfl, perm2Cause_eq_none_iff a _, fun c hc => ?_⟩
    rw [perm2Cause] at hc
    split at hc
    · exact .inl (Option.some.inj hc).symm
    · cases hc
  case vcvtMx d a b m p rc => exact ⟨fun t => scaleCause (t.x b) true, rfl, scaleCause_pack_eq_none_iff _, fun _ => scaleCause_eq_some⟩
  case vcvtF32Mx d a b m p rc => exact ⟨fun t => scaleCause (t.x b) false, rfl, scaleCause_unpack_eq_none_iff _, fun _ => scaleCause_eq_some⟩
  case vmxsc d a f m =>
    refine ⟨fun _ => if (mxEmax f.val).isNone then some 6 else none, rfl, scaleFormatCause_eq_none_iff f.val, fun c hc => ?_⟩
    split at hc
    · exact .inr (Option.some.inj hc).symm
    · cases hc
  all_goals exact vectorForm_of_ok rfl rfl

theorem vectorIssue : Claims.VectorIssue := by
  intro s i rs w hrow hr
  obtain ⟨bad, hexec, hfine, hcause⟩ := (vectorForm_of_vecRow (s := s)).apply hrow
  have hbody : exec i s = s.issue { engine := true } rs (fun t =>
    match bad t with
    | some c => s.trapWord t c
    | none =>
      if 8 ≤ t.vq.length then .wait s
      else .done ((s.retire s.cur (fun t => t.pushVec (w.entry t []))).post (.vectorEntryBegin s.cur))) := hexec
  refine ⟨fun hok hlen => ?_, fun hok hlen => ?_, fun hbad => ?_⟩
  · refine ⟨w.entry (me s) [], isEntry_entry _ _ _, gives_of_done hbody hr ?_⟩
    rw [hfine.2 hok]
    simp only [if_neg (Nat.not_le.2 hlen), State.retire_eq_retired, retired, pushVec_eq_queued]
  · refine gives_of_wait hbody hr ?_
    rw [hfine.2 hok]
    exact if_pos hlen
  · cases hc : bad (me s) with
    | none => exact absurd (hfine.1 hc) hbad
    | some c => exact ⟨c, hcause c hc, gives_of_trap hbody hr (by simp only [hc]; rfl)⟩

/-! VLD to VSCATTER (spec/07 R172, R173). -/

theorem esBytes_eq (es : Nat) : esBytes es = if es = 0 then 4 else if es = 3 then 1 else 2 := by
  unfold esBytes
  split
  · rfl
  · rfl
  · rename_i h0 h3
    rw [if_neg h0, if_neg h3]

section
variable {s : State} {g : Nat} {super write : Bool} {e : Nat} {base : Option Word}

theorem State.checkLanes_ok {vas : List Word} {targets : List Target} (hlen : targets.length = vas.length)
    (h : ∀ j (hj : j < targets.length), s.checkLane g super write e base (vas[j]'(hlen ▸ hj)) = .ok targets[j]) :
    s.checkLanes g super write e base vas = .ok targets := by
  induction vas generalizing targets with
  | nil => rw [List.length_eq_zero_iff.1 hlen]; rfl
  | cons va vas ih =>
    cases targets with
    | nil => cases hlen
    | cons q targets =>
      have hrest := ih (Nat.succ.inj hlen) fun j hj => h (j + 1) (Nat.succ_lt_succ hj)
      have hhead : s.checkLane g super write e base va = .ok q := h 0 (Nat.succ_pos _)
      simp only [State.checkLanes, hhead, hrest]

theorem State.checkLanes_trap {vas : List Word} {j c : Nat} (hj : j < vas.length)
    (hbefore : ∀ k (hk : k < j), ∃ t, s.checkLane g super write e base (vas[k]'(hk.trans hj)) = .ok t)
    (h : s.checkLane g super write e base vas[j] = .trap c) : s.checkLanes g super write e base vas = .error (.trap c, vas[j]) := by
  induction vas generalizing j with
  | nil => cases hj
  | cons va vas ih =>
    cases j with
    | zero => rw [List.getElem_cons_zero] at h ⊢; simp only [State.checkLanes, h]
    | succ j =>
      obtain ⟨t, ht⟩ := hbefore 0 (Nat.succ_pos _)
      rw [List.getElem_cons_zero] at ht
      have hrest := ih (Nat.lt_of_succ_lt_succ hj) (fun k hk => hbefore (k + 1) (Nat.succ_lt_succ hk)) h
      simp only [State.checkLanes, ht, hrest, List.getElem_cons_succ]

end

/-- An instruction of the vector port: its checks at issue, or later for a gather or scatter. -/
def VectorPortForm (i : Instr) (s : State) (rs : List Reg) (w : VecWord) : Prop :=
  let write := decide (w.op = .st ∨ w.op = .sts)
  (w.op ≠ .gather → w.op ≠ .scatter → exec i s = s.vectorMem rs w write ∧ ∀ j, laneAddr w.op w.es ((me s).x w.a) ((me s).x w.b) 0 j = laneAt w (me s) j) ∧
    (w.op = .gather ∨ w.op = .scatter → exec i s = s.vectorIndexed rs w (decide (w.op = .scatter)))

theorem vectorPortForm_of_vecMemRow {s : State} {i : Instr} : OfRow (fun ⟨rs, w⟩ => VectorPortForm i s rs w) (vecMemRow i) := by
  rcases i
  any_goals exact trivial
  case vgather | vscatter => exact ⟨fun hne hne' => by simp at hne hne', fun _ => rfl⟩
  case vld | vst =>
    refine ⟨fun _ _ => ⟨rfl, fun j => ?_⟩, fun hop => by simp at hop⟩
    simp only [laneAddr, laneAt, esBytes_eq, true_or, or_true, if_true]; rfl
  all_goals exact ⟨fun _ _ => ⟨rfl, fun j => rfl⟩, fun hop => by simp at hop⟩

theorem vectorMemoryIssue : Claims.VectorMemoryIssue := by
  intro s i rs w _ hrow hr hlen hacq write n check
  obtain ⟨hdirect, hindexed⟩ := (vectorPortForm_of_vecMemRow (s := s)).apply hrow
  have hroom : (decide (8 ≤ (me s).vq.length) || s.acquirePending s.cur) = false := by simp [hlen, hacq]
  refine ⟨fun hg hs hes => ?_, fun hop hes => ?_⟩
  · obtain ⟨hexec, haddr⟩ := hdirect hg hs
    have hes' : (write && w.es == 2) = false := by
      cases hw : write
      · rfl
      · simpa using hes hw
    have hlanes : (List.range 64).map (laneAddr w.op w.es ((me s).x w.a) ((me s).x w.b) 0) = (List.range 64).map (laneAt w (me s)) :=
      List.map_congr_left fun j _ => haddr j
    have hbody : exec i s = s.issue { engine := true } rs (fun t =>
      if write && w.es == 2 then s.trapWord t 1
      else if 8 ≤ t.vq.length || s.acquirePending s.cur then .wait s
      else
        let addrs := (List.range 64).map (laneAddr w.op w.es (t.x w.a) (t.x w.b) 0)
        match s.checkLanes s.cur t.status.super write (esBytes w.es) none addrs with
        | .ok l => .done ((s.retire s.cur (fun t => t.pushVec (w.entry t l))).post (.vectorEntryBegin s.cur))
        | .error (.trap c, va) => .trap c va
        | .error (_, va) => .wait (s.askHome (tileOfSlot s.cur) t.part va (slotAsker s.cur))) := hexec
    refine ⟨fun targets htl hok => ?_, fun j c hj hbefore hc => ?_⟩
    · refine ⟨w.entry (me s) targets, isEntry_entry _ _ _, rfl, gives_of_done hbody hr ?_⟩
      have hcheck := State.checkLanes_ok (s := s) (g := s.cur) (super := (me s).status.super) (write := write) (e := n) (base := none)
        (vas := (List.range 64).map (laneAt w (me s))) (targets := targets) (by simpa using htl) (fun j hj => by simpa using hok j hj)
      simp only [hes', hroom, Bool.false_eq_true, if_false, hlanes, esBytes_eq]
      simp only [n] at hcheck
      rw [hcheck]
      simp only [State.retire_eq_retired, retired, pushVec_eq_queued]
    · refine gives_of_trap hbody hr ?_
      have hcheck := State.checkLanes_trap (s := s) (g := s.cur) (super := (me s).status.super) (write := write) (e := n) (base := none)
        (vas := (List.range 64).map (laneAt w (me s))) (j := j) (c := c) (by simpa using hj) (fun k hk => by simpa using hbefore k hk)
        (by simpa using hc)
      simp only [hes', hroom, Bool.false_eq_true, if_false, hlanes, esBytes_eq]
      simp only [n] at hcheck
      rw [hcheck]
      simp
  · have hes' : (decide (w.op = .scatter) && w.es == 2) = false := by
      by_cases hw : w.op = .scatter
      · simpa [hw] using hes hw
      · simp [hw]
    refine ⟨w.entry (me s) [], isEntry_entry _ _ _, rfl, gives_of_done (hindexed hop) hr ?_⟩
    simp only [hes', hroom, Bool.false_eq_true, if_false, State.onSlot, pushVec_eq_queued]

/-- Settles O18: by the check that each form makes, and by the lanes in order. -/
theorem vectorIssues : Obligations.VectorIssues := ⟨vectorIssue, vectorMemoryIssue⟩

end Sys2Proof.Machine

namespace Sys2Proof.Machine

open Sys2Proof.Claims

set_option Elab.async false

/-! ## The arbiter with one head (spec/02 R40) -/

/-- One slot alone has a head; it is ready, and its cost is within its quantum. -/
structure LoneHead (heads : Vector (Option Head) 4) (quanta : Vector Nat 4) (i : Fin 4) (h : Head) : Prop where
  head : heads.get i = some h
  ready : h.ready = true
  others : ∀ j, j ≠ i → heads.get j = none
  cost : h.cost ≤ quanta.get i

section
variable {heads : Vector (Option Head) 4} {quanta : Vector Nat 4} {i : Fin 4} {h : Head} (hl : LoneHead heads quanta i h)
include hl

theorem Arbiter.choose_at_head (n : Nat) {a : Arbiter} (hat : a.at_ = i) (hcost : h.cost ≤ a.deficit.get i + if a.credited then 0 else quanta.get i) :
    ∃ arb, Arbiter.choose heads quanta (n + 1) a = some (i, arb) := by
  simp only [Arbiter.choose, hat, hl.head, hl.ready, Bool.not_true, Bool.false_eq_true, if_false, hcost, if_true]
  exact ⟨_, rfl⟩

/-- The arbiter comes to the one head within as many steps as it is away. -/
theorem Arbiter.choose_of_distance (k : Nat) {fuel : Nat} {a : Arbiter} (hk : (a.at_.val + k) % 4 = i.val) (hf : k < fuel)
    (hc : a.at_ = i → a.credited = false) : ∃ arb, Arbiter.choose heads quanta fuel a = some (i, arb) := by
  obtain ⟨fuel, rfl⟩ := Nat.exists_eq_add_of_lt (Nat.zero_lt_of_lt hf)
  rw [Nat.zero_add] at *
  have hhere : a.at_ = i → ∃ arb, Arbiter.choose heads quanta (fuel + 1) a = some (i, arb) := fun hat =>
    Arbiter.choose_at_head hl fuel hat (by rw [hc hat]; exact hl.cost.trans (Nat.le_add_left _ _))
  induction k generalizing a fuel with
  | zero => exact hhere (Fin.ext (by have := a.at_.isLt; omega))
  | succ k ih =>
    by_cases hat : a.at_ = i
    · exact hhere hat
    · obtain ⟨fuel, rfl⟩ := Nat.exists_eq_add_of_lt (Nat.lt_of_succ_lt_succ hf |> Nat.zero_lt_of_lt)
      rw [Nat.zero_add] at *
      have hnext : ((nextSlot a.at_).val + k) % 4 = i.val := by
        have hval : (nextSlot a.at_).val = (a.at_.val + 1) % 4 := rfl
        omega
      rw [Arbiter.choose, hl.others _ hat]
      exact ih hnext (fun _ => rfl) fuel (by omega)
        (fun hat' => Arbiter.choose_at_head hl fuel hat' (hl.cost.trans (Nat.le_add_left _ _)))

theorem Arbiter.pick_of_loneHead (a : Arbiter) : ∃ arb, a.pick heads quanta = some (i, arb) := by
  have hany : heads.toList.any (fun h => match h with
      | some h => h.ready
      | none => false) = true := by
    refine List.any_eq_true.2 ⟨some h, ?_, hl.ready⟩
    rw [← hl.head]
    exact Vector.mem_toList_iff.2 (Vector.getElem_mem i.isLt)
  have hpick : a.pick heads quanta = Arbiter.choose heads quanta 32 a := if_pos hany
  have haway : a.at_ ≠ i ∨ a.credited = false → ∃ arb, Arbiter.choose heads quanta 32 a = some (i, arb) := fun hc =>
    Arbiter.choose_of_distance hl ((i.val + 4 - a.at_.val) % 4) (by omega) (by omega) (fun hat => hc.resolve_left (not_not.2 hat))
  rw [hpick]
  by_cases hat : a.at_ = i
  · by_cases hcost : h.cost ≤ a.deficit.get i + if a.credited then 0 else quanta.get i
    · exact Arbiter.choose_at_head hl 31 hat hcost
    · -- the slot that bound last has used its credit: the arbiter comes round to it again
      rw [Arbiter.choose]
      simp only [hat, hl.head, hl.ready, Bool.not_true, Bool.false_eq_true, if_false, hcost]
      refine Arbiter.choose_of_distance hl 3 ?_ (by decide) (fun _ => rfl)
      have hval : (nextSlot i).val = (i.val + 1) % 4 := rfl
      show ((nextSlot i).val + 3) % 4 = i.val
      omega
  · exact haway (.inl hat)

end

/-! ## Vector entries begin and complete (spec/07 R156) -/

theorem VecOp.cost_le (op : VecOp) : op.cost ≤ 64 := by cases op <;> decide

theorem State.le_quanta (s : State) (gt : Nat) (matrix : Bool) (i : Fin 4) : 64 ≤ (s.quanta gt matrix).get i := by
  have hw : 1 ≤ s.weight (gt * 4 + i.val) matrix := by
    unfold State.weight
    split
    · exact le_max_left _ _
    · exact le_rfl
  simp only [State.quanta, Vector.get_ofFn]
  omega

/-- The slot of a tile that a slot number names. -/
theorem slot_of_tile (g : Nat) : g / 4 * 4 + g % 4 = g := by omega

section
variable {s : State} {g : Nat} {e : VecEntry} {rest : List VecEntry}

theorem loneHead_vecHeads (hq : (s.slot g).vq = e :: rest) (hm : e.op.isMemory = false) (hready : (s.slot g).vecHeadReady (g / 4) e = true)
    (hothers : ∀ k, k < 4 → k ≠ g % 4 → (s.slot (g / 4 * 4 + k)).vq = []) :
    LoneHead (s.vecHeads (g / 4)) (s.quanta (g / 4) false) (Fin.ofNat 4 g) { cost := e.op.cost, ready := true } where
  head := by
    have hroom : s.vecRoom (g / 4) e = true := by simp [State.vecRoom, hm]
    have hslot : g / 4 * 4 + (Fin.ofNat 4 g).val = g := slot_of_tile g
    simp only [State.vecHeads, Vector.get_ofFn, hslot, hq, hready, hroom, Bool.and_self]
  ready := rfl
  others j hj := by
    have hne : j.val ≠ g % 4 := fun h => hj (Fin.ext h)
    simp only [State.vecHeads, Vector.get_ofFn, hothers j.val j.isLt hne]
  cost := (VecOp.cost_le e.op).trans (s.le_quanta _ _ _)

end

theorem vectorBegin : Claims.VectorBegin := by
  intro s g e rest hq hm hbusy hhold hready hothers
  obtain ⟨arb, hpick⟩ := Arbiter.pick_of_loneHead (loneHead_vecHeads hq hm hready hothers) (s.tile (g / 4)).vec
  have hgives : Gives (.vectorEntryBegin g) s (s.bindVec g e arb) := by
    change Host.Outcome.next (match (s.slot g).vq with
      | [] => s
      | e :: _ =>
        if (s.tile (g / 4)).vec.busy.isSome || s.enginesHold g then s.defer (.vectorEntryBegin g)
        else match (s.tile (g / 4)).vec.pick (s.vecHeads (g / 4)) (s.quanta (g / 4) false) with
          | none => s.defer (.vectorEntryBegin g)
          | some (i, arb) =>
            if i.val ≠ g % 4 then s.defer (.vectorEntryBegin g)
            else if e.op.isMemory then s.beginMem g e arb (s.defer (.vectorEntryBegin g))
            else s.bindVec g e arb) = _
    have hval : (Fin.ofNat 4 g).val = g % 4 := rfl
    simp only [hq, hbusy, hhold, hpick, hval, hm, Option.isSome_none, Bool.or_self, Bool.false_eq_true, if_false, ne_eq, not_true_eq_false]
  refine ⟨_, hgives, rfl, ?_, ?_, fun h hh => ?_, fun h hh => ?_⟩
  · simp only [State.bindVec, State.slot_post, State.slot_onTile, State.slot_onSlot, hq, List.drop_succ_cons, List.drop_zero]
  · simp only [State.bindVec, State.tile_post, tileOfSlot, State.tile_onTile]
  · simp only [State.bindVec, State.slot_post, State.slot_onTile]
    exact State.slot_onSlot_ne _ _ _ _ hh
  · simp only [State.bindVec, State.tile_post]
    exact State.tile_setTile_ne _ _ _ _ hh

/-! What an entry writes. -/

theorem vector_get_set {α : Type} {n : Nat} (v : Vector α n) (r q : Fin n) (x : α) :
    (v.set r.val x r.isLt).get q = if q = r then x else v.get q := by
  change (v.set r.val x r.isLt)[q.val] = _
  rw [Vector.getElem_set]
  by_cases h : q = r
  · rw [if_pos (by rw [h]), if_pos h]
  · rw [if_neg (fun hv => h (Fin.ext hv.symm)), if_neg h]; rfl

theorem Slot.getV_setV (t : Slot) (gt : Nat) (b : Bank) (r q : Reg) (v : VReg) :
    (t.setV gt b r v).getV gt b q = if q = r then v else t.getV gt b q := by
  have huses : (t.setV gt b r v).usesHandlerV gt b = t.usesHandlerV gt b := by
    unfold Slot.setV
    split <;> rfl
  rw [Slot.getV, huses, Slot.setV, Slot.getV]
  split
  · exact vector_get_set _ _ _ _
  · exact vector_get_set _ _ _ _

/-- A slot with one of its mask registers written, if there is something to write. -/
def Slot.putM (t : Slot) (b : Bank) (r : MReg) (m : Option Word) : Slot :=
  match m with
  | some m => t.setM b r m
  | none => t
/-- As `Slot.putM`, for a vector register. -/
def Slot.putV (t : Slot) (gt : Nat) (b : Bank) (r : Reg) (v : Option VReg) : Slot :=
  match v with
  | some v => t.setV gt b r v
  | none => t
/-- As `Slot.putM`, for a scalar register. -/
def Slot.putX (t : Slot) (b : Bank) (r : Reg) (x : Option Word) : Slot :=
  match x with
  | some x => t.writeX b r x
  | none => t

theorem Slot.writeVec_eq (t : Slot) (gt : Nat) (e : VecEntry) (o : VecOut) : t.writeVec gt e o =
    (((t.putV gt e.bank e.d o.v).putM e.bank (Fin.ofNat 8 e.d.val) o.m).putX e.bank e.d o.x).orFlags o.flags := rfl

section
variable (t : Slot) (gt : Nat) (b c : Bank) (r q : Reg)

theorem Slot.setV_frame (v : VReg) : t.setV gt b r v = { t with v := (t.setV gt b r v).v, hv := (t.setV gt b r v).hv } := by
  unfold Slot.setV
  split <;> rfl

theorem Slot.putV_frame (v : Option VReg) : t.putV gt b r v = { t with v := (t.putV gt b r v).v, hv := (t.putV gt b r v).hv } := by
  cases v with
  | none => rfl
  | some v => exact t.setV_frame gt b r v

theorem Slot.setFlow_frame (f : Flow) : t.setFlow b f =
    { t with main := (t.setFlow b f).main, handler := (t.setFlow b f).handler, trap := (t.setFlow b f).trap } := by
  cases b <;> rfl

theorem Slot.putM_frame (n : MReg) (m : Option Word) : t.putM b n m =
    { t with main := (t.putM b n m).main, handler := (t.putM b n m).handler, trap := (t.putM b n m).trap } := by
  cases m with
  | none => rfl
  | some m => exact t.setFlow_frame b _

theorem Slot.putX_frame (x : Option Word) : t.putX b r x =
    { t with main := (t.putX b r x).main, handler := (t.putX b r x).handler, trap := (t.putX b r x).trap } := by
  cases x with
  | none => rfl
  | some x => exact t.setFlow_frame b _

theorem Slot.getV_putV (v : Option VReg) : (t.putV gt b r v).getV gt b q = if q = r then v.getD (t.getV gt b q) else t.getV gt b q := by
  cases v with
  | none => exact (ite_self _).symm
  | some v => exact t.getV_setV gt b r q v

theorem Slot.flowOf_setV (v : VReg) : (t.setV gt b r v).flowOf c = t.flowOf c := by rw [Slot.setV_frame]; cases c <;> rfl
theorem Slot.flowOf_putV (v : Option VReg) : (t.putV gt b r v).flowOf c = t.flowOf c := by rw [Slot.putV_frame]; cases c <;> rfl

/-- The flow of the bank after a mask write. -/
theorem Slot.flowOf_putM (n : MReg) (m : Option Word) : (t.putM b n m).flowOf c =
    if c = b then { t.flowOf b with m := m.elim (t.flowOf b).m (fun m => (t.flowOf b).m.set n.val m n.isLt) } else t.flowOf c := by
  cases m with
  | none => by_cases h : c = b <;> simp [Slot.putM, h]
  | some m => exact t.flowOf_setFlow b c _

theorem Slot.flowOf_putX (x : Option Word) : (t.putX b r x).flowOf c =
    if c = b then x.elim (t.flowOf b) (fun x => (t.flowOf b).set r x) else t.flowOf c := by
  cases x with
  | none => by_cases h : c = b <;> simp [Slot.putX, h]
  | some x => exact t.flowOf_setFlow b c _

end

/-- The flow of an entry's bank once its outputs have been written. -/
def VecEntry.flowAfter (e : VecEntry) (f : Flow) (o : VecOut) : Flow :=
  let f := { f with m := o.m.elim f.m (fun m => f.m.set (e.d.val % 8) m (Nat.mod_lt _ (by decide))) }
  o.x.elim f (fun x => f.set e.d x)

theorem Flow.set_frame (f : Flow) (r : Reg) (v : Word) : f.set r v = { f with x := (f.set r v).x } := by
  unfold Flow.set
  split <;> rfl

section
variable (t : Slot) (gt : Nat) (e : VecEntry) (o : VecOut)

theorem Slot.flowOf_writeVec (c : Bank) :
    (t.writeVec gt e o).flowOf c = if c = e.bank then e.flowAfter (t.flowOf e.bank) o else t.flowOf c := by
  rw [Slot.writeVec_eq, Slot.flowOf_orFlags, Slot.flowOf_putX, Slot.flowOf_putM, Slot.flowOf_putM, Slot.flowOf_putV, Slot.flowOf_putV]
  by_cases h : c = e.bank
  · simp only [h, if_true]; rfl
  · simp only [h, if_false]

theorem VecEntry.flowAfter_pc (f : Flow) : (e.flowAfter f o).pc = f.pc := by
  unfold VecEntry.flowAfter
  cases o.x with
  | none => rfl
  | some x => simp only [Option.elim_some]; rw [Flow.set_frame]

theorem VecEntry.flowAfter_m (f : Flow) (r : MReg) :
    (e.flowAfter f o).m.get r = if r.val = e.d.val % 8 then o.m.getD (f.m.get r) else f.m.get r := by
  have hm : (e.flowAfter f o).m = o.m.elim f.m (fun m => f.m.set (e.d.val % 8) m (Nat.mod_lt _ (by decide))) := by
    unfold VecEntry.flowAfter
    cases o.x with
    | none => rfl
    | some x => simp only [Option.elim_some]; rw [Flow.set_frame]
  rw [hm]
  cases o.m with
  | none => exact (ite_self _).symm
  | some m =>
    have hset := vector_get_set f.m ⟨e.d.val % 8, Nat.mod_lt _ (by decide)⟩ r m
    simpa only [Option.elim_some, Option.getD_some, Fin.ext_iff] using hset

theorem VecEntry.flowAfter_get (f : Flow) (r : Reg) :
    (e.flowAfter f o).get r = if r = e.d ∧ r ≠ 0 then o.x.getD (f.get r) else f.get r := by
  unfold VecEntry.flowAfter
  cases o.x with
  | none => exact (ite_self _).symm
  | some x =>
    simp only [Option.elim_some, Option.getD_some]
    rw [Flow.get_set]
    by_cases hr : r = e.d
    · by_cases h0 : r = 0
      · simp [← hr, h0, Flow.get]
      · simp [← hr, h0]
    · by_cases h0 : r = 0 <;> simp [hr, h0, Flow.get]

theorem Slot.getV_writeVec (r : Reg) :
    (t.writeVec gt e o).getV gt e.bank r = if r = e.d then o.v.getD (t.getV gt e.bank r) else t.getV gt e.bank r := by
  rw [← Slot.getV_putV, Slot.writeVec_eq, Slot.putX_frame, Slot.putM_frame]; rfl

theorem Slot.writeVec_frame : t.writeVec gt e o = { t with
    v := (t.writeVec gt e o).v, hv := (t.writeVec gt e o).hv, main := (t.writeVec gt e o).main, handler := (t.writeVec gt e o).handler
    trap := (t.writeVec gt e o).trap, flags := t.flags ||| o.flags.setWidth 64 } := by
  rw [Slot.writeVec_eq, Slot.putX_frame, Slot.putM_frame, Slot.putV_frame]; rfl

end

/-- The slot once its vector entry `e` has completed with the outputs `o`. -/
def Slot.completed (t : Slot) (gt n : Nat) (e : VecEntry) (o : VecOut) : Slot :=
  { t.writeVec gt e o with vbound := t.vbound.filter (fun p => p.serial != n) }

theorem Slot.flowOf_completed (t : Slot) (gt n : Nat) (e : VecEntry) (o : VecOut) (c : Bank) :
    (t.completed gt n e o).flowOf c = (t.writeVec gt e o).flowOf c := by cases c <;> rfl

theorem vectorComplete : Claims.VectorComplete := by
  intro s gt g n e hbusy hhold hfind hload o
  have hgives : Gives (.vectorEntryComplete gt) s
      ((s.onTile gt (fun u => { u with vec := u.vec.free })).setSlot g ((s.slot g).completed gt n e o)) := by
    change Host.Outcome.next (match (s.tile gt).vec.busy with
      | none => s
      | some (g, serial) =>
        if s.enginesHold g then s.defer (.vectorEntryComplete gt)
        else
          match (s.slot g).vbound.find? (fun p : VecEntry => p.serial == serial) with
          | none => s.onTile gt (fun u => { u with vec := u.vec.free })
          | some e =>
            if e.op.isLoad then s.onTile gt (fun u => { u with vec := u.vec.free })
            else (s.onTile gt (fun u => { u with vec := u.vec.free })).setSlot g ((s.slot g).completed gt serial e (vecCompute e ((s.slot g).vecIn gt e)))) = _
    simp only [hbusy, hhold, hfind, hload, Bool.false_eq_true, if_false]
    rfl
  refine ⟨_, hgives, rfl, fun h hh => State.slot_setSlot_ne _ _ _ _ hh, fun h hh => ?_, ?_, ?_⟩
  · rw [State.tile_setSlot]
    exact State.tile_setTile_ne _ _ _ _ hh
  · rw [State.tile_setSlot, State.tile_onTile]; rfl
  rw [State.slot_setSlot]
  refine ⟨?_, fun b hb => ?_, ?_, rfl, ?_, fun r => ?_, fun r => ?_, fun r => ?_⟩
  · rw [Slot.completed, Slot.writeVec_frame]
  · rw [Slot.flowOf_completed, Slot.flowOf_writeVec, if_neg hb]
  · rw [Slot.flowOf_completed, Slot.flowOf_writeVec, if_pos rfl, VecEntry.flowAfter_pc]
  · rw [Slot.completed, Slot.writeVec_frame]
  · exact Slot.getV_writeVec _ _ _ _ _
  · rw [Slot.getM, Slot.getM, Slot.flowOf_completed, Slot.flowOf_writeVec, if_pos rfl, VecEntry.flowAfter_m]
  · rw [Slot.flowOf_completed, Slot.flowOf_writeVec, if_pos rfl, VecEntry.flowAfter_get]

/-- Settles O19: the lone head is bound, and the entry that occupies the unit writes what it computes. -/
theorem vectorRuns : Obligations.VectorRuns := ⟨vectorBegin, vectorComplete⟩

end Sys2Proof.Machine

namespace Sys2Proof.Machine

open Sys2Proof.Claims

set_option Elab.async false

/-! ## Runs of equal fields in a number (spec/07 R154) -/

/-- Numbers below 2^k, the first in the lowest k bits. -/
def packNat (k : Nat) (l : List Nat) : Nat := l.foldr (fun x acc => x + 2 ^ k * acc) 0

section
variable {k : Nat} {l : List Nat} (hl : ∀ x ∈ l, x < 2 ^ k)
include hl

theorem packNat_lt : packNat k l < 2 ^ (k * l.length) := by
  induction l with
  | nil => exact Nat.one_pos
  | cons x l ih =>
    have hx : x < 2 ^ k := hl x List.mem_cons_self
    have hrest := ih fun y hy => hl y (List.mem_cons_of_mem _ hy)
    have hmul : 2 ^ k * (packNat k l + 1) ≤ 2 ^ k * 2 ^ (k * l.length) := Nat.mul_le_mul_left _ hrest
    have hcons : packNat k (x :: l) = x + 2 ^ k * packNat k l := rfl
    rw [List.length_cons, Nat.mul_succ, Nat.add_comm, pow_add, hcons]
    rw [Nat.mul_succ] at hmul
    omega

theorem packNat_field (i : Nat) : packNat k l / 2 ^ (k * i) % 2 ^ k = l.getD i 0 := by
  induction l generalizing i with
  | nil => simp [packNat]
  | cons x l ih =>
    have hx : x < 2 ^ k := hl x List.mem_cons_self
    have hcons : packNat k (x :: l) = x + 2 ^ k * packNat k l := rfl
    cases i with
    | zero => rw [hcons, Nat.mul_zero, pow_zero, Nat.div_one, Nat.add_mul_mod_self_left, Nat.mod_eq_of_lt hx]; rfl
    | succ i =>
      rw [hcons, Nat.mul_succ, Nat.add_comm (k * i), pow_add, ← Nat.div_div_eq_div_mul, Nat.add_mul_div_left _ _ (Nat.two_pow_pos k),
        Nat.div_eq_of_lt hx, Nat.zero_add, ih fun y hy => hl y (List.mem_cons_of_mem _ hy)]
      rfl

end

theorem packLanes_eq (l : List LaneOut) : packLanes l = BitVec.ofNat 2048 (packNat 32 (l.map (fun p => p.1.toNat))) := by
  rw [packNat, List.foldr_map]; rfl

theorem lane_toNat (v : VReg) (i : Nat) : (lane v i).toNat = v.toNat / 2 ^ (32 * i) % 2 ^ 32 := by
  rw [lane, BitVec.extractLsb'_toNat, Nat.shiftRight_eq_div_pow]

theorem lane_packLanes {l : List LaneOut} (hlen : l.length = 64) {i : Nat} (hi : i < l.length) : lane (packLanes l) i = l[i].1 := by
  have hlt : ∀ x ∈ l.map (fun p => p.1.toNat), x < 2 ^ 32 := by
    intro x hx
    obtain ⟨p, -, rfl⟩ := List.mem_map.1 hx
    exact p.1.isLt
  have hbound := packNat_lt hlt
  rw [List.length_map, hlen] at hbound
  apply BitVec.eq_of_toNat_eq
  rw [lane_toNat, packLanes_eq, BitVec.toNat_ofNat, Nat.mod_eq_of_lt hbound, packNat_field hlt]
  simp [List.getD_eq_getElem?_getD, hi]

theorem lane_ofLanes (f : Nat → BitVec 32) {i : Nat} (hi : i < 64) : lane (ofLanes f) i = f i := by
  have hof : ofLanes f = packLanes ((List.range 64).map (fun i => ((f i, 0) : LaneOut))) := by
    rw [packLanes, List.foldr_map]; rfl
  have hlane := lane_packLanes (l := (List.range 64).map (fun i => ((f i, 0) : LaneOut))) (by simp) (i := i) (by simpa using hi)
  rw [hof, hlane]
  simp

/-! ## Operations lane by lane (spec/07 R155, R159, R161 to R165) -/

theorem and_or_of_and_eq {x g : BitVec 7} (y : BitVec 7) (h : x &&& g = x) : x &&& (g ||| y) = x := by
  have habsorb : g &&& (g ||| y) = g := by
    ext j hj
    simp only [BitVec.getElem_and, BitVec.getElem_or]
    cases g[j] <;> rfl
  rw [← h, BitVec.and_assoc, habsorb]

theorem foldl_or_sub {α : Type} (f : α → BitVec 7) (l : List α) (g : BitVec 7) :
    (∀ x, x &&& g = x → x &&& l.foldl (fun g p => g ||| f p) g = x) ∧ ∀ p ∈ l, f p &&& l.foldl (fun g p => g ||| f p) g = f p := by
  induction l generalizing g with
  | nil => exact ⟨fun x hx => hx, fun p hp => absurd hp List.not_mem_nil⟩
  | cons p l ih =>
    obtain ⟨hkeep, hmem⟩ := ih (g ||| f p)
    refine ⟨fun x hx => hkeep x (and_or_of_and_eq _ hx), fun q hq => ?_⟩
    · rcases List.mem_cons.1 hq with rfl | hq
      · exact hkeep _ (by rw [BitVec.or_comm]; exact and_or_of_and_eq _ BitVec.and_self)
      · exact hmem q hq

/-- The lanes of an operation under a mask. -/
def maskedLanes (m : Word) (d : VReg) (f : Nat → LaneOut) : List LaneOut :=
  (List.range 64).map (fun i => if testW m i then f i else (lane d i, 0))

section
variable (m : Word) (d : VReg) (f : Nat → LaneOut)

theorem mapLanes_v : (mapLanes m d f).v = some (packLanes (maskedLanes m d f)) := by rw [mapLanes, maskedLanes]
theorem mapLanes_flags_eq : (mapLanes m d f).flags = laneFlags (maskedLanes m d f) := by rw [mapLanes, maskedLanes]
theorem maskedLanes_length : (maskedLanes m d f).length = 64 := by rw [maskedLanes, List.length_map, List.length_range]

variable {i : Nat} (hi : i < 64)
include hi

theorem maskedLanes_get : (maskedLanes m d f)[i]'(by rwa [maskedLanes_length]) = if m.getLsbD i then f i else (lane d i, 0) := by
  simp only [maskedLanes, List.getElem_map, List.getElem_range, testW_eq]

theorem mapLanes_lane : (mapLanes m d f).v.map (fun y => lane y i) = some (if m.getLsbD i then (f i).1 else lane d i) := by
  rw [mapLanes_v, Option.map_some, lane_packLanes (maskedLanes_length m d f) (by rwa [maskedLanes_length]), maskedLanes_get m d f hi]
  split <;> rfl

theorem mapLanes_flags (hm : m.getLsbD i = true) : (f i).2 &&& (mapLanes m d f).flags = (f i).2 := by
  have hmem : f i ∈ maskedLanes m d f := by
    have hget := List.getElem_mem (l := maskedLanes m d f) (n := i) (by rwa [maskedLanes_length])
    rwa [maskedLanes_get m d f hi, if_pos hm] at hget
  rw [mapLanes_flags_eq]
  exact (foldl_or_sub Prod.snd _ 0).2 (f i) hmem

end

/-! The values of the rows. -/

theorem satLane_eq {v lo hi : Int} (h : lo ≤ hi) : satLane v lo hi =
    (BitVec.ofInt 32 (if v < lo then lo else if hi < v then hi else v), if v < lo ∨ hi < v then (32 : BitVec 7) else 0) := by
  have hsat : sat v lo hi = if v < lo then lo else if hi < v then hi else v := by
    unfold sat
    split
    · omega
    · split <;> omega
  have hflag : (if sat v lo hi = v then (0 : BitVec 7) else flagSat) = if v < lo ∨ hi < v then 32 else 0 := by
    by_cases hout : v < lo ∨ hi < v
    · rw [if_pos hout, if_neg fun hin => (sat_eq_self_iff h).1 hin hout]; rfl
    · rw [if_neg hout, if_pos ((sat_eq_self_iff h).2 hout)]
  rw [satLane, hflag, hsat]

theorem mulh_eq (a b : BitVec 32) : BitVec.ofInt 32 (a.toInt * b.toInt / (2 ^ 32 : Nat)) = ((a.signExtend 64 * b.signExtend 64) >>> 32).setWidth 32 := by
  have hprod : a.signExtend 64 * b.signExtend 64 = BitVec.ofInt 64 (a.toInt * b.toInt) := by
    rw [BitVec.ofInt_mul]; rfl
  apply BitVec.eq_of_toNat_eq
  rw [hprod, BitVec.toNat_ofInt, BitVec.toNat_setWidth, BitVec.toNat_ushiftRight, BitVec.toNat_ofInt, Nat.shiftRight_eq_div_pow]
  generalize a.toInt * b.toInt = p
  omega

theorem mulhu_eq (a b : BitVec 32) : BitVec.ofNat 32 (a.toNat * b.toNat / 2 ^ 32) = ((a.setWidth 64 * b.setWidth 64) >>> 32).setWidth 32 := by
  have hlt : a.toNat * b.toNat < 2 ^ 64 := Nat.mul_lt_mul'' (c := 2 ^ 32) (d := 2 ^ 32) a.isLt b.isLt
  apply BitVec.eq_of_toNat_eq
  rw [BitVec.toNat_ofNat, BitVec.toNat_setWidth, BitVec.toNat_ushiftRight, BitVec.toNat_mul, BitVec.toNat_setWidth, BitVec.toNat_setWidth,
    Nat.mod_eq_of_lt (a.isLt.trans (by decide)), Nat.mod_eq_of_lt (b.isLt.trans (by decide)), Nat.mod_eq_of_lt hlt, Nat.shiftRight_eq_div_pow]

theorem bitsN_low (v n : Nat) : bitsN v n 0 = v % 2 ^ (n + 1) := by simp [bitsN]

/-- The lane value that an operation of floating-point or integer lanes computes. -/
def laneValue (e : VecEntry) (v : VecIn) (i : Nat) : LaneOut :=
  let x := e.xb.setWidth 32
  match e.op with
  | .fadd | .fsub | .fmul | .fdiv | .fsqrt | .fma | .fnma | .fmuls | .fmas | .fabs | .fneg =>
    fpLane e.op e.rc (if e.rc = 4 then v.u e 1 i else 0) (lane v.a i) (lane v.b i) (lane v.d i) x
  | _ => intLane e.op (lane v.a i) (lane v.b i) (lane v.d i) x

/-- The operations of `laneRow` compute lane by lane under the mask. -/
theorem vecCompute_of_laneRow {e : VecEntry} {v : VecIn} {rc u : Nat} {a b d x : BitVec 32} :
    OfRow (fun _ => vecCompute e v = mapLanes v.m v.d (laneValue e v)) (laneRow e.op rc u a b d x) := by
  obtain ⟨op, bank, pc, rd, ra, rb, mask, fmt, part, es, xa, xb, erc, seed, seq, super, targets, serial⟩ := e
  rcases op
  any_goals exact trivial
  all_goals rfl

theorem ite_le_eq_ite_lt {α β : Type} [LinearOrder α] (p q : α) (a b : β) : (if p ≤ q then a else b) = if q < p then b else a := by
  simp only [← not_lt, ite_not]

theorem ite_le_eq_ite_lt_of_injective {α β : Type} [LinearOrder α] {f : β → α} (hf : Function.Injective f) (a b : β) :
    (if f a ≤ f b then b else a) = if f a < f b then b else a := by
  rcases lt_trichotomy (f a) (f b) with hlt | heq | hgt
  · rw [if_pos hlt.le, if_pos hlt]
  · rw [if_pos heq.le, if_neg heq.not_lt, hf heq]
  · rw [if_neg hgt.not_ge, if_neg hgt.not_gt]

theorem laneValue_of_laneRow {e : VecEntry} {v : VecIn} {i : Nat} : OfRow (laneValue e v i = ·)
    (laneRow e.op e.rc (if e.rc = 4 then v.u e 1 i else 0) (lane v.a i) (lane v.b i) (lane v.d i) (e.xb.setWidth 32)) := by
  unfold laneValue
  generalize (if e.rc = 4 then v.u e 1 i else 0) = u
  generalize lane v.a i = a, lane v.b i = b, lane v.d i = d, e.xb.setWidth 32 = x, e.op = op
  rcases op
  any_goals exact trivial
  case mulh => exact congrArg (·, 0) (mulh_eq a b)
  case mulhu => exact congrArg (·, 0) (mulhu_eq a b)
  case adds => change satLane _ _ _ = _; exact satLane_eq (by decide)
  case subs => change satLane _ _ _ = _; exact satLane_eq (by decide)
  case addus => change satLane _ _ _ = _; exact satLane_eq (by decide)
  case subus => change satLane _ _ _ = _; exact satLane_eq (by decide)
  case min => exact congrArg (·, 0) (ite_le_eq_ite_lt a.toInt b.toInt a b)
  case max => exact congrArg (·, 0) (ite_le_eq_ite_lt_of_injective (fun _ _ => BitVec.eq_of_toInt_eq) a b)
  case minu => exact congrArg (·, 0) (ite_le_eq_ite_lt a.toNat b.toNat a b)
  case maxu => exact congrArg (·, 0) (ite_le_eq_ite_lt_of_injective (fun _ _ => BitVec.eq_of_toNat_eq) a b)
  case abs => change satLane _ _ _ = _; exact satLane_eq (by decide)
  case sll => exact congrArg (fun n => (a <<< n, 0)) (bitsN_low b.toNat 4)
  case srl => exact congrArg (fun n => (a >>> n, 0)) (bitsN_low b.toNat 4)
  case sra => exact congrArg (fun n => (a.sshiftRight n, 0)) (bitsN_low b.toNat 4)
  case qmul => change satLane _ _ _ = _; exact satLane_eq (by decide)
  case srax => exact congrArg (fun n => (a.sshiftRight n, 0)) (bitsN_low x.toNat 4)
  all_goals rfl

theorem lanes_of_laneRow {e : VecEntry} {v : VecIn} {i : Nat} (hi : i < 64) {r : BitVec 32} {f : BitVec 7}
    (h : laneRow e.op e.rc (if e.rc = 4 then v.u e 1 i else 0) (lane v.a i) (lane v.b i) (lane v.d i) (e.xb.setWidth 32) = some (r, f)) :
    (vecCompute e v).v.map (fun y => lane y i) = some (if v.m.getLsbD i then r else lane v.d i) ∧
    (v.m.getLsbD i = true → f &&& (vecCompute e v).flags = f) ∧ (vecCompute e v).x = none ∧ (vecCompute e v).m = none := by
  have hvalue := laneValue_of_laneRow.apply h
  have hflags := mapLanes_flags v.m v.d (laneValue e v) hi
  rw [vecCompute_of_laneRow.apply h, mapLanes_lane v.m v.d _ hi]
  rw [hvalue] at hflags ⊢
  exact ⟨rfl, hflags, rfl, rfl⟩

/-! Permutes and moves (spec/07 R163, R164). -/

/-- The value of lane `i` of a permute. -/
def permValue (e : VecEntry) (v : VecIn) (i : Nat) : BitVec 32 :=
  permLane e.op v (bits e.xb 5 0) (min e.xb.toNat 64) (e.xa.setWidth 32) i

theorem vecCompute_of_permRow {e : VecEntry} {v : VecIn} {i : Nat} :
    OfRow (fun _ => vecCompute e v = mapLanes v.m v.d (fun i => (permValue e v i, 0))) (permRow e.op v e.xa e.xb i) := by
  obtain ⟨op, bank, pc, rd, ra, rb, mask, fmt, part, es, xa, xb, erc, seed, seq, super, targets, serial⟩ := e
  rcases op
  any_goals exact trivial
  all_goals rfl

theorem permValue_of_permRow {e : VecEntry} {v : VecIn} {i : Nat} : OfRow (permValue e v i = ·) (permRow e.op v e.xa e.xb i) := by
  unfold permValue
  rw [bits_low e.xb 5]
  generalize e.op = op
  rcases op
  any_goals exact trivial
  all_goals change permLane _ v _ _ _ i = _
  case perm => exact congrArg (lane v.a) (bitsN_low _ 5)
  case perm2 =>
    have hj : bitsN (lane v.b i).toNat 6 0 = (lane v.b i).toNat % 128 := bitsN_low _ 6
    simp only [permLane, hj]
    split
    case isTrue hlow => congr 1; omega
    case isFalse hhigh => congr 1; omega
  case rot =>
    simp only [permLane]
    congr 1; omega
  case slideup =>
    simp only [permLane]
    simp only [← not_lt, ite_not]
  case unzip =>
    simp only [permLane]
    rw [Nat.mul_sub]
  all_goals rfl

theorem laneFlags_zero {l : List LaneOut} (h : ∀ p ∈ l, p.2 = 0) : laneFlags l = 0 := by
  unfold laneFlags
  induction l with
  | nil => rfl
  | cons p l ih =>
    rw [List.foldl_cons, h p List.mem_cons_self]
    exact ih fun q hq => h q (List.mem_cons_of_mem _ hq)

theorem lanes_of_permRow {e : VecEntry} {v : VecIn} {i : Nat} (hi : i < 64) {r : BitVec 32} (h : permRow e.op v e.xa e.xb i = some r) :
    (vecCompute e v).v.map (fun y => lane y i) = some (if v.m.getLsbD i then r else lane v.d i) ∧ (vecCompute e v).flags = 0 ∧
    (vecCompute e v).x = none ∧ (vecCompute e v).m = none := by
  rw [vecCompute_of_permRow.apply h, mapLanes_lane v.m v.d _ hi, permValue_of_permRow.apply h, mapLanes_flags_eq]
  refine ⟨rfl, laneFlags_zero fun p hp => ?_, rfl, rfl⟩
  obtain ⟨j, -, rfl⟩ := List.mem_map.1 hp
  split <;> rfl

/-! Compares and mask operations (spec/07 R162). -/

theorem foldr_bit_eq {α : Type} (f : α → Bool) (l : List α) :
    l.foldr (fun p acc => bit (f p) + 2 * acc) 0 = packNat 1 (l.map (fun p => bit (f p))) := by
  rw [packNat, List.foldr_map]; rfl

/-- The bits of a compare under a mask. -/
def maskedBits (m d : Word) (f : Nat → Bool × BitVec 7) : List (Bool × BitVec 7) :=
  (List.range 64).map (fun i => if testW m i then f i else (testW d i, 0))

theorem mapBits_m (m d : Word) (f : Nat → Bool × BitVec 7) :
    (mapBits m d f).m = some (wordN (packNat 1 ((maskedBits m d f).map (fun p => bit p.1)))) := by
  rw [← foldr_bit_eq, mapBits, maskedBits]

theorem mapBits_bit (m d : Word) (f : Nat → Bool × BitVec 7) {i : Nat} (hi : i < 64) :
    (mapBits m d f).m.map (fun y => y.getLsbD i) = some (if m.getLsbD i then (f i).1 else d.getLsbD i) := by
  have hlt : ∀ x ∈ (maskedBits m d f).map (fun p => bit p.1), x < 2 ^ 1 := by
    intro x hx
    obtain ⟨p, -, rfl⟩ := List.mem_map.1 hx
    cases p.1 <;> decide
  have hbound := packNat_lt hlt
  have hfield := packNat_field hlt i
  have hget : (maskedBits m d f)[i]? = some (if m.getLsbD i then f i else (d.getLsbD i, 0)) := by
    simp only [maskedBits, List.getElem?_map, List.getElem?_range hi, testW_eq, Option.map_some]
  rw [List.getD_eq_getElem?_getD, List.getElem?_map, hget] at hfield
  rw [List.length_map, maskedBits, List.length_map, List.length_range, ← maskedBits] at hbound
  rw [mapBits_m, Option.map_some, ← testW_eq, testW, wordN, BitVec.toNat_ofNat, Nat.mod_eq_of_lt hbound, testN]
  rw [one_mul, pow_one] at hfield
  rw [hfield]
  have hbit : ∀ b : Bool, (bit b == 1) = b := by decide
  split
  · exact congrArg some (hbit (f i).1)
  · exact congrArg some (hbit (d.getLsbD i))

theorem cmpLane_of_relRow {op : VecOp} {a b x : BitVec 32} : OfRow ((cmpLane op a b x).1 = ·) (relRow op a b x) := by
  rcases op
  any_goals exact trivial
  case ceq => exact beq_eq_decide a b
  case cne => exact (congrArg (!·) (beq_eq_decide a b)).trans decide_not.symm
  case ceqx => exact beq_eq_decide a x
  all_goals rfl

theorem vecCompute_of_relRow {e : VecEntry} {v : VecIn} {a b x : BitVec 32} : OfRow (fun _ => vecCompute e v =
    mapBits v.m v.md (fun i => cmpLane e.op (lane v.a i) (lane v.b i) (e.xb.setWidth 32))) (relRow e.op a b x) := by
  obtain ⟨op, bank, pc, rd, ra, rb, mask, fmt, part, es, xa, xb, erc, seed, seq, super, targets, serial⟩ := e
  rcases op
  any_goals exact trivial
  all_goals rfl

theorem bits_of_relRow {e : VecEntry} {v : VecIn} {i : Nat} (hi : i < 64) {r : Bool}
    (h : relRow e.op (lane v.a i) (lane v.b i) (e.xb.setWidth 32) = some r) :
    (vecCompute e v).m.map (fun y => y.getLsbD i) = some (if v.m.getLsbD i then r else v.md.getLsbD i) ∧
    (vecCompute e v).v = none ∧ (vecCompute e v).x = none := by
  rw [vecCompute_of_relRow.apply h, mapBits_bit v.m v.md _ hi, cmpLane_of_relRow.apply h]
  exact ⟨rfl, rfl, rfl⟩

/-! Counts and reductions (spec/07 R162, R165). -/

theorem popN_eq (w v : Nat) : popN w v = ((List.range w).filter (fun i => testN v i)).length := by
  induction w generalizing v with
  | zero => rfl
  | succ w ih =>
    have hshift : ∀ i, testN (v / 2) i = testN v (i + 1) := by
      intro i
      rw [testN, testN, Nat.pow_succ', Nat.div_div_eq_div_mul]
    simp only [popN, ih, List.range_succ_eq_map, List.filter_cons, List.filter_map, hshift, Function.comp_def]
    have hbit : testN v 0 = decide (v % 2 = 1) := by rw [testN, pow_zero, Nat.div_one, beq_eq_decide]
    rw [hbit]
    rcases Nat.mod_two_eq_zero_or_one v with h0 | h1
    · simp [h0]
    · simp [h1, Nat.add_comm]

theorem setBits_eq (v : Word) : setBits 64 v.toNat = (List.range 64).filter (fun i => v.getLsbD i) := by
  unfold setBits
  congr 1
  funext i
  exact testN_toNat v i

/-- Settles O20: operation by operation, through the lanes that `mapLanes` packs and the bits that `mapBits` packs. -/
theorem vectorLanes : Obligations.VectorLanes := by
  intro e v
  have hlow : bits e.xb 5 0 = e.xb.toNat % 64 := bits_low e.xb 5
  have hactive := setBits_eq v.m
  have hcount : popN 64 v.ma.toNat = ((List.range 64).filter (fun i => v.ma.getLsbD i)).length := by
    rw [popN_eq, ← setBits_eq v.ma, setBits]
  refine ⟨fun i hi => ?_, fun i hi r h => lanes_of_permRow hi h, fun i r hi h => bits_of_relRow hi h, ?_⟩
  · intro u r f h
    exact lanes_of_laneRow hi h
  refine ⟨fun h => ?_, fun h => ?_, fun h => ?_, fun h => ?_, fun h => ?_, fun h => ?_, fun h => ?_, fun h => ?_, fun h => ?_, fun h => ?_,
    fun h => ?_, fun h i hi => ?_, fun h i hi => ?_⟩
  iterate 7 · simp only [vecCompute, h]
  · simp only [vecCompute, h, hcount, wordN]
  · simp only [vecCompute, h, hlow]
  · simp only [vecCompute, h, hactive, reduceInt, wrap, List.map_map, Function.comp_def]
  · simp only [vecCompute, h, hactive, reduceInt, wordN, List.map_map, Function.comp_def]
  · simp only [vecCompute, h, Option.map_some, lane_ofLanes _ hi, testW_eq]
  · simp only [vecCompute, h, Option.map_some, lane_ofLanes _ hi, hlow]

end Sys2Proof.Machine

namespace Sys2Proof.Machine

open Sys2Proof.Claims

set_option Elab.async false

/-! ## The data of a vector load (spec/07 R156, R172, R174, R176) -/

theorem find?_of_nodup_fst {α : Type} {l : List (Nat × α)} (hnd : (l.map (fun q => q.1)).Nodup) {p : Nat × α} (hp : p ∈ l) :
    l.find? (fun q => q.1 == p.1) = some p := by
  induction l with
  | nil => cases hp
  | cons q l ih =>
    rw [List.map_cons, List.nodup_cons] at hnd
    rcases List.mem_cons.1 hp with rfl | hp
    · exact List.find?_cons_of_pos (beq_self_eq_true p.1)
    · have hne : q.1 ≠ p.1 := fun h => hnd.1 (h ▸ List.mem_map_of_mem hp)
      rw [List.find?_cons_of_neg (by simpa using hne)]
      exact ih hnd.2 hp

theorem loadLane_eq (es v : Nat) : loadLane es v =
    if es = 0 then BitVec.ofNat 32 v else if es = 1 then ((BitVec.ofNat 32 v).setWidth 16).signExtend 32
    else if es = 2 then ((BitVec.ofNat 32 v).setWidth 16).setWidth 32 else ((BitVec.ofNat 32 v).setWidth 8).signExtend 32 := by
  have hlow : ∀ n ≤ 32, (BitVec.ofNat 32 v).setWidth n = BitVec.ofNat n v := fun n hn => BitVec.setWidth_ofNat_of_le hn v
  unfold loadLane
  split
  · rfl
  · rw [hlow 16 (by decide), sextN_eq_toInt v (by decide)]; rfl
  · rw [hlow 16 (by decide)]
    apply BitVec.eq_of_toNat_eq
    simp
  · rename_i h0 h1 h2
    rw [if_neg h0, if_neg h1, if_neg h2, hlow 8 (by decide), sextN_eq_toInt v (by decide)]; rfl

/-- The places of a load's active lanes all lie in the scratchpad of one tile. -/
def LocalLanes (gt : Nat) (l : List (Nat × Target × Word)) : Prop := ∀ p ∈ l, ∃ o, p.2.1 = .tile gt o

/-- What a lane reads: its number, the value and the poison mark. -/
def State.laneRead (s : State) (n : Nat) (p : Nat × Target × Word) : Nat × Nat × Bool :=
  (p.1, ofBytes (s.readTarget p.2.1 n).1, (s.readTarget p.2.1 n).2)

section
variable {s : State} {gt n : Nat} {l : List (Nat × Target × Word)} (hl : LocalLanes gt l)
include hl

theorem LocalLanes.barred_eq_false (part : Nat) {p : Nat × Target × Word} (hp : p ∈ l) : s.barred part gt p.2.1 = false := by
  obtain ⟨o, ho⟩ := hl p hp
  rw [ho, State.barred, bne_self_eq_false, Bool.false_and]

theorem LocalLanes.gatherData (part : Nat) (rs : List Request) (bs : Bytes) : s.gatherData part gt rs n l bs = some (l.map (s.laneRead n)) := by
  induction l generalizing bs with
  | nil => rfl
  | cons p l ih =>
    have hrest := ih (fun q hq => hl q (List.mem_cons_of_mem _ hq))
    have hbar := hl.barred_eq_false part (s := s) List.mem_cons_self
    obtain ⟨i, q, va⟩ := p
    obtain ⟨o, ho⟩ := hl _ List.mem_cons_self
    obtain rfl : q = .tile gt o := ho
    simp only [State.gatherData, hbar, hrest, List.map_cons]
    rfl

theorem LocalLanes.snoopLanes (write : Bool) : s.snoopLanes (l.map (fun p => (p.1, p.2.1))) n write = none := by
  have hnone : (l.map (fun p => (p.1, p.2.1))).flatMap (fun p => s.heldLines p.2 n) = [] := by
    simp only [List.flatMap_eq_nil_iff, List.mem_map]
    rintro _ ⟨p, hp, rfl⟩
    obtain ⟨o, ho⟩ := hl p hp
    rw [ho]; rfl
  rw [State.snoopLanes, hnone]; rfl

theorem LocalLanes.dropAccess (part src : Nat) (t : State) :
    l.foldl (fun s p => if s.barred part gt p.2.1 then s.dropAccess 1 part src p.2.1 p.2.2 else s) t = t := by
  induction l with
  | nil => rfl
  | cons p l ih =>
    rw [List.foldl_cons, hl.barred_eq_false part List.mem_cons_self]
    exact ih (fun q hq => hl q (List.mem_cons_of_mem _ hq))

end

/-- Two states differ at most in the order of accesses of the cycle (spec/04 R102). -/
def SameButOrder (s t : State) : Prop := t = { s with reached := t.reached, reachedAt := t.reachedAt }

theorem foldl_enterAt_sameButOrder (n src : Nat) (l : List (Nat × Target)) (s : State) :
    SameButOrder s (l.foldl (fun s p => s.enterAt p.2 n src) s) := by
  induction l generalizing s with
  | nil => rfl
  | cons p l ih =>
    have hstep : SameButOrder s (s.enterAt p.2 n src) := by
      unfold State.enterAt
      split <;> rfl
    have hrest := ih (s.enterAt p.2 n src)
    rw [SameButOrder] at hrest hstep ⊢
    rw [List.foldl_cons, hrest, hstep]

/-- A load of active lanes in its tile's scratchpad whose turn has come: the hypotheses of `Obligations.VectorLoadWrites`. -/
structure LoadDue (s : State) (g : Nat) (e : VecEntry) : Prop where
  first : (s.slot g).vbound.find? (fun p => p.op.isLoad) = some e
  lanes : LocalLanes (tileOfSlot g) e.active
  stored : ∀ r ∈ s.requests, r.slot = g → r.src = s.sourceNo (g / 4) 4 → (∃ bs, r.kind = .store bs) → r.phase = .performed
  turn : s.reachedAt = s.cycle → ∀ q ∈ s.reached, q.2.2 ≤ s.sourceNo (g / 4) 4

/-- The state in which a load's data are used: the requests that carried them are gone, its accesses have entered their order. -/
def State.loadEntered (s : State) (g : Nat) (e : VecEntry) : State :=
  (e.active.map (fun p => (p.1, p.2.1))).foldl (fun acc p => acc.enterAt p.2 (esBytes e.es) (s.sourceNo (tileOfSlot g) 4))
    (s.dropReads (s.reads (s.issuer g 4 e.super e.serial)))

/-- A slot with the data of a load in their destination, the entry gone. -/
def Slot.takeLoad (t : Slot) (gt : Nat) (e : VecEntry) (v : VReg) : Slot :=
  { t.setV gt e.bank e.d v with vbound := t.vbound.filter (fun p => p.serial != e.serial) }

theorem Slot.getV_takeLoad (t : Slot) (gt : Nat) (e : VecEntry) (v : VReg) (r : Reg) :
    (t.takeLoad gt e v).getV gt e.bank r = if r = e.d then v else t.getV gt e.bank r := t.getV_setV gt e.bank e.d r v

/-- What a lane of the destination takes: the value that was read for it, or what it held. -/
def State.loadedLane (s : State) (g : Nat) (e : VecEntry) (i : Nat) : BitVec 32 :=
  ((e.active.map (s.laneRead (esBytes e.es))).find? (fun p => p.1 == i)).elim (lane ((s.slot g).getV (tileOfSlot g) e.bank e.d) i)
    (fun p => loadLane e.es p.2.1)

section
variable {s : State} {g : Nat} {e : VecEntry} (hd : LoadDue s g e)
include hd

theorem LoadDue.findSome : (s.slot g).vbound.findSome? (fun e => if e.op.isLoad then (s.loadValues g [] e).map (fun v => (e, v)) else none) =
    some (e, e.active.map (s.laneRead (esBytes e.es))) := by
  have hvals : s.loadValues g [] e = some (e.active.map (s.laneRead (esBytes e.es))) := hd.lanes.gatherData _ _ _
  obtain ⟨hload, before, after, hbound, hbefore⟩ := List.find?_eq_some_iff_append.1 hd.first
  rw [hbound, List.findSome?_append, List.findSome?_eq_none_iff.2, Option.none_or, List.findSome?_cons, if_pos hload, hvals]
  · rfl
  · intro p hp
    exact if_neg (by simpa using hbefore p hp)

theorem LoadDue.notBefore (l : List (Nat × Target)) (serial n : Nat) : s.vecStoreBefore g serial l n = false := by
  rw [State.vecStoreBefore, List.any_eq_false]
  intro r hr hall
  simp only [Bool.and_eq_true, beq_iff_eq, bne_iff_ne, decide_eq_true_eq] at hall
  obtain ⟨⟨⟨⟨⟨hslot, -⟩, hsrc⟩, hphase⟩, -⟩, hkind⟩ := hall
  split at hkind
  · rename_i bs t hstore _
    exact hphase (hd.stored r hr hslot hsrc ⟨bs, hstore⟩)
  · cases hkind

theorem LoadDue.turnAt (t : Target) (n : Nat) : s.turnAt t n (s.sourceNo (g / 4) 4) = true := by
  unfold State.turnAt
  split
  · rw [State.inTurn, Bool.or_eq_true, bne_iff_ne, List.all_eq_true]
    by_cases hc : s.reachedAt = s.cycle
    · right
      intro q hq
      have hle := hd.turn hc q hq
      simp only [Bool.not_eq_true', decide_eq_false_iff_not]
      omega
    · exact .inl hc
  · rfl

theorem LoadDue.exec_eq (poison : Bool) : ∃ v, (∀ i, i < 64 → lane v i = s.loadedLane g e i) ∧ exec (.vectorLoadData g [] poison) s = .next (
    if poison || (e.active.map (s.laneRead (esBytes e.es))).any (fun p => p.2.2) then
      ((s.loadEntered g e).onSlot g (fun t => { t with heldBy := some e.serial })).consumePoison g
    else (s.loadEntered g e).onSlot g (fun t => t.takeLoad (tileOfSlot g) e v)) := by
  have hturn : (e.active.map (fun p => (p.1, p.2.1))).all (fun p => s.turnAt p.2 (esBytes e.es) (s.sourceNo (tileOfSlot g) 4)) = true :=
    List.all_eq_true.2 fun p _ => hd.turnAt p.2 _
  refine ⟨?vector, ?lanes, ?load⟩
  case load =>
    change Host.Outcome.next _ = _
    rw [hd.findSome]
    dsimp only
    rw [hd.notBefore, hturn, if_neg (by decide), hd.lanes.snoopLanes]
    dsimp only
    rw [hd.lanes.dropAccess]
    unfold State.loadEntered Slot.takeLoad
    rfl
  case lanes =>
    intro i hi
    rw [lane_ofLanes _ hi, State.loadedLane]
    split <;> rename_i hfound <;> rw [hfound] <;> rfl

end

theorem State.loadEntered_sameButOrder (s : State) (g : Nat) (e : VecEntry) :
    SameButOrder (s.dropReads (s.reads (s.issuer g 4 e.super e.serial))) (s.loadEntered g e) := by
  unfold State.loadEntered
  exact foldl_enterAt_sameButOrder (esBytes e.es) (s.sourceNo (tileOfSlot g) 4) (e.active.map (fun p => (p.1, p.2.1))) _

theorem State.loadEntered_mem (s : State) (g : Nat) (e : VecEntry) : (s.loadEntered g e).mem = s.mem := by
  have hframe := s.loadEntered_sameButOrder g e
  rw [SameButOrder] at hframe
  rw [hframe, State.dropReads]

theorem State.loadEntered_slots (s : State) (g : Nat) (e : VecEntry) : (s.loadEntered g e).slots = s.slots := by
  have hframe := s.loadEntered_sameButOrder g e
  rw [SameButOrder] at hframe
  rw [hframe, State.dropReads]

/-! What a load that met poison leaves alone. -/

/-- Two states have the same memory and the same vector registers. -/
def SameData (s t : State) : Prop := t.mem = s.mem ∧ ∀ h, (t.slot h).v = (s.slot h).v ∧ (t.slot h).hv = (s.slot h).hv

theorem SameData.of_slots {s t : State} (hm : t.mem = s.mem) (hs : t.slots = s.slots) : SameData s t :=
  ⟨hm, fun h => by simp only [State.slot, hs, and_self]⟩

theorem SameData.trans {s t u : State} (hst : SameData s t) (htu : SameData t u) : SameData s u :=
  ⟨htu.1.trans hst.1, fun h => ⟨(htu.2 h).1.trans (hst.2 h).1, (htu.2 h).2.trans (hst.2 h).2⟩⟩

theorem State.onSlot_sameData (s : State) (g : Nat) {f : Slot → Slot} (hf : ∀ t, (f t).v = t.v ∧ (f t).hv = t.hv) : SameData s (s.onSlot g f) := by
  refine ⟨rfl, fun h => ?_⟩
  by_cases hg : h = g
  · rw [hg, State.slot_onSlot]; exact hf _
  · rw [State.slot_onSlot_ne _ _ _ _ hg]; exact ⟨rfl, rfl⟩

/-- Two states differ at most in what a cancellation writes: scopes, the agenda, packet flows and what leaves the module. -/
def SameButNews (s t : State) : Prop :=
  t = { s with scopes := t.scopes, agenda := t.agenda, flows := t.flows, egress := t.egress, nextId := t.nextId }

theorem SameButNews.refl (s : State) : SameButNews s s := rfl

theorem SameButNews.trans {s t u : State} (hst : SameButNews s t) (htu : SameButNews t u) : SameButNews s u := by
  rw [SameButNews] at hst htu ⊢
  rw [htu, hst]

theorem SameButNews.mem {s t : State} (h : SameButNews s t) : t.mem = s.mem := by
  rw [SameButNews] at h
  rw [h]

theorem SameButNews.slots {s t : State} (h : SameButNews s t) : t.slots = s.slots := by
  rw [SameButNews] at h
  rw [h]

theorem foldl_sameButNews {α : Type} {f : State → α → State} (hf : ∀ s a, SameButNews s (f s a)) (l : List α) (s : State) :
    SameButNews s (l.foldl f s) := by
  induction l generalizing s with
  | nil => exact .refl s
  | cons a l ih => exact (hf s a).trans (ih (f s a))

theorem State.onScope_sameButNews (s : State) (key : Nat) (f : ScopeRec → ScopeRec) : SameButNews s (s.onScope key f) := by
  unfold State.onScope
  split <;> exact .refl _

theorem State.sendPacket_sameButNews (s : State) (p : Packet) : SameButNews s (s.sendPacket p) := by
  unfold State.sendPacket
  split <;> exact .refl _

theorem State.post_sameButNews (s : State) (i : Instr) : SameButNews s (s.post i) := .refl _

theorem State.tell_sameButNews (s : State) (part : Nat) (pkgs : List Nat) (m : PodMsg) (ws : List Nat) (tail : Bytes) :
    SameButNews s (s.tell part pkgs m ws tail) :=
  foldl_sameButNews (fun s _ => SameButNews.trans (t := s.fresh.2) rfl (foldl_sameButNews (fun s _ => s.sendPacket_sameButNews _) _ _)) _ _

theorem State.cancelHere_sameButNews (s : State) (key cause : Nat) : SameButNews s (s.cancelHere key cause) := by
  unfold State.cancelHere
  split
  · exact .refl s
  · split
    · exact .refl s
    · dsimp only
      refine .trans ?_ (State.post_sameButNews _ _)
      refine .trans ?_ (foldl_sameButNews (fun s (e : Nat × Nat) => s.post_sameButNews (.cancelBroadcast e.1 e.2)) _ _)
      exact foldl_sameButNews (fun s _ => s.onScope_sameButNews _ _) _ s

theorem State.cancelScope_sameButNews (s : State) (key cause : Nat) : SameButNews s (s.cancelScope key cause) := by
  unfold State.cancelScope
  split
  · exact .refl s
  · split
    · exact .refl s
    · split <;> exact (s.cancelHere_sameButNews key cause).trans (State.tell_sameButNews ..)

theorem State.consumePoison_sameData (s : State) (g : Nat) : SameData s (s.consumePoison g) := by
  unfold State.consumePoison
  dsimp only
  split
  · rename_i r _
    have hnews := (s.countTile (tileOfSlot g) 7).cancelScope_sameButNews r.scope 2
    have hcancel : SameData s ((s.countTile (tileOfSlot g) 7).poisonScope r.scope) :=
      .of_slots hnews.mem hnews.slots
    exact hcancel.trans (State.onSlot_sameData _ g fun t => ⟨rfl, rfl⟩)
  · exact .of_slots rfl rfl

/-! The lanes of the destination. -/

theorem VecEntry.map_fst_active (e : VecEntry) (hlen : e.targets.length = (setBits 64 e.xb.toNat).length) (haddr : e.addrs.length = e.targets.length) :
    e.active.map (fun q => q.1) = setBits 64 e.xb.toNat := by
  rw [VecEntry.active]
  exact List.map_fst_zip (by simp [hlen, haddr])

section
variable {s : State} {g : Nat} {e : VecEntry} {offs : List Nat} (htargets : e.targets = offs.map (fun o => .tile (g / 4) o))
  (hlen : e.targets.length = (setBits 64 e.xb.toNat).length) (haddr : e.addrs.length = e.targets.length)
include htargets

theorem VecEntry.localLanes : LocalLanes (tileOfSlot g) e.active := by
  rintro ⟨i, q, va⟩ hp
  have hmem := (List.of_mem_zip (List.of_mem_zip hp).2).1
  rw [htargets, List.mem_map] at hmem
  obtain ⟨o, -, rfl⟩ := hmem
  exact ⟨o, rfl⟩

include hlen haddr

/-- Lane `k` of a load is the `k`-th active one, at the `k`-th place. -/
theorem VecEntry.getElem_active {k : Nat} (h : k < offs.length) {i : Nat} (hi : (setBits 64 e.xb.toNat)[k]? = some i) :
    ∃ va, (i, .tile (g / 4) offs[k], va) ∈ e.active := by
  have hk : k < e.targets.length := by rw [htargets, List.length_map]; exact h
  have hactive : k < e.active.length := by
    rw [VecEntry.active, List.length_zip, List.length_zip]
    omega
  refine ⟨e.addrs[k], ?_⟩
  have hget := List.getElem_mem hactive
  obtain ⟨hk', hi⟩ := List.getElem?_eq_some_iff.1 hi
  simp only [VecEntry.active, List.getElem_zip, hi] at hget
  simp only [htargets, List.getElem_map] at hget
  rw [VecEntry.active, htargets]
  exact hget

theorem State.loadedLane_active {k : Nat} (h : k < offs.length) {i : Nat} (hi : (setBits 64 e.xb.toNat)[k]? = some i) :
    s.loadedLane g e i = loadLane e.es (ofBytes (s.readTarget (.tile (g / 4) offs[k]) (esBytes e.es)).1) := by
  obtain ⟨va, hmem⟩ := VecEntry.getElem_active htargets hlen haddr h hi
  have hnd : ((e.active.map (s.laneRead (esBytes e.es))).map (fun q => q.1)).Nodup := by
    rw [List.map_map]
    exact e.map_fst_active hlen haddr ▸ List.nodup_range.filter _
  have hfind := find?_of_nodup_fst hnd (List.mem_map_of_mem hmem)
  rw [State.loadedLane, show i = (s.laneRead (esBytes e.es) (i, .tile (g / 4) offs[k], va)).1 from rfl, hfind]
  rfl

omit htargets in
theorem State.loadedLane_inactive {i : Nat} (hi : e.xb.getLsbD i = false) :
    s.loadedLane g e i = lane ((s.slot g).getV (tileOfSlot g) e.bank e.d) i := by
  have hnone : (e.active.map (s.laneRead (esBytes e.es))).find? (fun p => p.1 == i) = none := by
    rw [List.find?_eq_none]
    intro p hp heq
    obtain ⟨q, hq, rfl⟩ := List.mem_map.1 hp
    have hset : q.1 ∈ setBits 64 e.xb.toNat := e.map_fst_active hlen haddr ▸ List.mem_map_of_mem (f := fun q => q.1) hq
    have hbit := (List.mem_filter.1 hset).2
    have hqi : q.1 = i := by simpa [State.laneRead] using heq
    rw [hqi, testN_toNat, hi] at hbit
    cases hbit
  rw [State.loadedLane, hnone]
  rfl

end

/-- Settles O21: the event finds the load, reads its lanes in the tile and writes them; with poison it only cancels. -/
theorem vectorLoadWrites : Obligations.VectorLoadWrites := by
  intro s g e offs hfirst htargets hlen haddr hdie hstored hturn s' n val ext
  have hd : LoadDue s g e := ⟨hfirst, VecEntry.localLanes htargets, hstored, hturn⟩
  have hread : ∀ o, s.readTarget (.tile (g / 4) o) (esBytes e.es) = (s.readMem (g / 4 * 2 ^ 30 + o) n, s.poisoned (g / 4 * 2 ^ 30 + o) n) := by
    intro o
    rw [esBytes_eq]
    exact if_neg (by rw [hdie]; decide)
  refine ⟨fun hclean => ?_, ?_⟩
  · obtain ⟨v, hlanes, hexec⟩ := hd.exec_eq false
    have hgood : (e.active.map (s.laneRead (esBytes e.es))).any (fun p => p.2.2) = false := by
      rw [List.any_eq_false]
      intro p hp
      obtain ⟨q, hq, rfl⟩ := List.mem_map.1 hp
      have hmem := (List.of_mem_zip (List.of_mem_zip hq).2).1
      rw [htargets, List.mem_map] at hmem
      obtain ⟨o, ho, hq⟩ := hmem
      rw [State.laneRead, ← hq, hread o, hclean o ho]
      exact Bool.false_ne_true
    rw [hgood, Bool.or_self, if_neg Bool.false_ne_true] at hexec
    have hslot : ((s.loadEntered g e).onSlot g (fun t => t.takeLoad (tileOfSlot g) e v)).slot g = (s.slot g).takeLoad (tileOfSlot g) e v := by
      rw [State.slot_onSlot, State.slot, State.loadEntered_slots]; rfl
    have hgetV : ∀ r, ((s.slot g).takeLoad (tileOfSlot g) e v).getV (g / 4) e.bank r = if r = e.d then v else (s.slot g).getV (g / 4) e.bank r :=
      Slot.getV_takeLoad _ _ e v
    refine ⟨_, hexec, ?_, fun h hg => ?_, fun r hr => ?_, fun k h i hi => ?_, fun i hi hinactive => ?_⟩
    · have hframe := s.loadEntered_sameButOrder g e
      rw [SameButOrder] at hframe
      rw [State.onSlot, State.setSlot, hframe]
    · rw [State.slot_onSlot_ne _ _ _ _ hg, State.slot, State.loadEntered_slots]; rfl
    · rw [hslot, hgetV, if_neg hr]
    · have hlane : i < 64 := List.mem_range.1 (List.mem_filter.1 (List.mem_of_getElem? hi)).1
      rw [hslot, hgetV, if_pos rfl, hlanes i hlane, State.loadedLane_active htargets hlen haddr h hi, hread, loadLane_eq]
    · rw [hslot, hgetV, if_pos rfl, hlanes i hi, State.loadedLane_inactive hlen haddr hinactive]; rfl
  · obtain ⟨v, -, hexec⟩ := hd.exec_eq true
    refine ⟨_, hexec, ?_⟩
    have hentered : SameData s (s.loadEntered g e) := .of_slots (s.loadEntered_mem g e) (s.loadEntered_slots g e)
    obtain ⟨hmem, hregs⟩ := (hentered.trans (State.onSlot_sameData _ g (f := fun t => { t with heldBy := some e.serial }) fun t => ⟨rfl, rfl⟩)).trans (State.consumePoison_sameData _ g)
    rw [Bool.true_or, if_pos rfl]
    refine ⟨hmem, fun h r => ?_⟩
    rw [(hregs h).1, (hregs h).2]
    exact ⟨rfl, rfl⟩

end Sys2Proof.Machine

namespace Sys2Proof.Machine

open Sys2Proof.Claims

set_option Elab.async false

/-! ## Words and reset (spec/05 Table 5.3; spec/18 R379) -/

theorem exampleWords_decode : ∀ p ∈ exampleWords, decode p.1 = .ok p.2 :=
  List.forall_iff_forall_mem.mp
    ⟨rfl, rfl, rfl, rfl, rfl, rfl, rfl, rfl, rfl, rfl, rfl, rfl, rfl, rfl, rfl, rfl, rfl, rfl⟩

/-- The decoder compares the major with those of Table 5.3 one after another. -/
theorem decode_unassigned (w : Nat) (h : w / 2 ^ 24 ∉ assignedMajors) : decode w = .error .reservedMajor := by
  have hm : ∀ m ∈ assignedMajors, ¬w / 16777216 = m := fun m hm e => h (e ▸ hm)
  have hf : decodeFields w = .error .reservedMajor := by
    unfold decodeFields decodeFields.match_1
    simp (disch := decide) only [dif_neg, hm]
  rw [decode, hf]

/-- Settles O1: each example is a computation; a word of another major reaches the decoder's last row. -/
theorem wordsDecode : Obligations.WordsDecode := ⟨exampleWords_decode, decode_unassigned⟩

theorem State.readMem_reset (k n : Nat) : State.reset.readMem k n = List.replicate n 0 :=
  List.map_const' ..|>.trans (congrArg (List.replicate · 0) List.length_range)

theorem vget_replicate {α : Type} {n : Nat} [NeZero n] (x : α) (i : Nat) : vget (Vector.replicate n x) i = x := by simp [vget]

theorem State.taskOf_reset (h : Word) : State.reset.taskOf h = none := by
  have hr : State.reset.record (handleDie h) (handleEntry h) = TaskRec.free := by
    rw [State.record, State.die, State.reset, vget_replicate]; rfl
  simp only [State.taskOf, hr, TaskRec.free, bne_self_eq_false, Bool.and_false, Bool.false_and, Bool.false_eq_true, if_false]

theorem Slot.flowOf_reset_get (b : Bank) (r : Reg) : (Slot.reset.flowOf b).get r = 0 := by
  cases b <;> simp [Slot.flowOf, Slot.reset, Flow.get, Flow.zero]

/-- Settles O56: every field of the state after reset is empty or a constant. -/
theorem resetValues : Obligations.ResetValues := by
  refine ⟨State.reset_wf, fun k n => ⟨State.readMem_reset k n, rfl⟩, rfl, rfl, rfl, ?dies, ?parts, fun _ => rfl,
    fun h _ => ⟨State.taskOf_reset h, rfl⟩, rfl, rfl, rfl, Slot.flowOf_reset_get⟩
  case dies => decide
  case parts => decide

end Sys2Proof.Machine

namespace Sys2Proof.Machine

open Sys2Proof.Claims

set_option Elab.async false

/-! ## Receipts (spec/09 R216, R217) -/

theorem State.chan_onChan (s : State) (gt c : Nat) (f : Endpoint → Endpoint) : (s.onChan gt c f).chan gt c = f (s.chan gt c) := by
  rw [State.chan, State.onChan, State.tile_onTile]; exact vget_vset ..

theorem Slot.hasCh_eq (t : Slot) (c : Fin 16) : t.hasCh c.val = t.grant.ch.getLsbD c.val := testN_toNat _ _

theorem chanCause_of_holds {s : State} {ch : Fin 16} {side : Side} (h : Holds s ch side) (held : Bool) :
    s.chanCause (me s) ch.val side held = none := by
  obtain ⟨hg, hside, hb⟩ := h
  have hside' : (s.chan (tileOfSlot s.cur) ch.val).side = side := hside
  have hb' : (s.chan (tileOfSlot s.cur) ch.val).heldBy = none := hb
  simp [State.chanCause, Slot.hasCh_eq, hg, hside', hb']

theorem chanCause_of_no_grant {s : State} {ch : Fin 16} (h : (me s).grant.ch.getLsbD ch.val = false) (side : Side) (held : Bool) :
    s.chanCause (me s) ch.val side held = some 3 := by
  simp only [State.chanCause, Slot.hasCh_eq, h, Bool.not_false, if_true]

theorem freeEntry_of_none {s : State} {gt c : Nat} (h : (s.chan gt c).held = none) : s.freeEntry gt c = s := by
  simp [State.freeEntry, h]

/-- What RECV and TRYRECV share: they differ in what they do where no head is complete. -/
def recvBody (s : State) (d : Reg) (c : Nat) (empty : State → Issue) (t : Slot) : Issue :=
  match s.chanCause t c .receiver true with
  | some k => s.trapWord t k
  | none =>
    let u := s.freeEntry (tileOfSlot s.cur) c
    if (u.chan (tileOfSlot u.cur) c).headReady then (u.takeHead (tileOfSlot u.cur) c).2.finish d (u.takeHead (tileOfSlot u.cur) c).1 else empty u

theorem exec_recv (s : State) (d : Reg) (ch : Fin 16) :
    exec (.recv d ch) s = s.issue { noHandler := true } [d] (recvBody s d ch.val (fun u => .done (u.block u.cur (.recv d ch.val)))) := rfl
theorem exec_tryrecv (s : State) (d : Reg) (ch : Fin 16) :
    exec (.tryrecv d ch) s = s.issue {} [d] (recvBody s d ch.val (fun u => u.finish d (chanStatus 3 ch.val 0 0))) := rfl

section
variable {s : State} {ch : Fin 16} {d : Reg} (hr : Ready s { noHandler := true } [d]) (ht : Ready s {} [d]) (hh : Holds s ch .receiver)
  (hheld : (s.chan (s.cur / 4) ch.val).held = none)
include hr ht hh hheld

/-- RECV and TRYRECV of an endpoint whose head is complete differ in nothing. -/
theorem receives_of_headReady (hrdy : (s.chan (s.cur / 4) ch.val).headReady = true) :
    let r := s.takeHead (s.cur / 4) ch.val
    Gives (.recv d ch) s (r.2.retire r.2.cur (fun t => t.setX d r.1)) ∧ Gives (.tryrecv d ch) s (r.2.retire r.2.cur (fun t => t.setX d r.1)) := by
  have hf : s.freeEntry (tileOfSlot s.cur) ch.val = s := freeEntry_of_none hheld
  have hy : (s.chan (tileOfSlot s.cur) ch.val).headReady = true := hrdy
  constructor
  · exact gives_of_done (exec_recv s d ch) hr (by simp only [recvBody, chanCause_of_holds hh, hf, hy, if_true]; rfl)
  · exact gives_of_done (exec_tryrecv s d ch) ht (by simp only [recvBody, chanCause_of_holds hh, hf, hy, if_true]; rfl)

theorem receives_of_not_headReady (hrdy : (s.chan (s.cur / 4) ch.val).headReady = false) :
    Gives (.recv d ch) s (blockedIn s (.recv d ch.val)) ∧ Gives (.tryrecv d ch) s (Claims.answered s d (status 3 ch.val 0 0)) := by
  have hf : s.freeEntry (tileOfSlot s.cur) ch.val = s := freeEntry_of_none hheld
  have hy : ¬(s.chan (tileOfSlot s.cur) ch.val).headReady = true := Bool.eq_false_iff.mp hrdy
  constructor
  · exact gives_of_done (exec_recv s d ch) hr (by simp only [recvBody, chanCause_of_holds hh, hf, if_neg hy]; rfl)
  · exact gives_of_done (exec_tryrecv s d ch) ht (by simp only [recvBody, chanCause_of_holds hh, hf, if_neg hy]; rfl)

end

/-- The endpoint once the token at its head is in the receiver's hand. -/
def Endpoint.handed (q : QueuedToken) (more : List QueuedToken) (cycle : Nat) (e : Endpoint) : Endpoint :=
  { e with tokens := more, held := some q.seq, taken := e.taken + 1, lastTaken := cycle }
/-- The endpoint once the END at its head has been taken. -/
def Endpoint.endTaken (q : QueuedToken) (more : List QueuedToken) (e : Endpoint) : Endpoint :=
  { e with tokens := more, ended := some .endTok, lastTaken := max q.time e.lastTaken }

section
variable {s : State} {gt c : Nat} {q : QueuedToken} {more : List QueuedToken} (he : (s.chan gt c).ended = none) (hq : (s.chan gt c).tokens = q :: more)
include he hq

theorem headReady_of_tail (ht : q.tail = true) : (s.chan gt c).headReady = true := by simp [Endpoint.headReady, he, hq, ht]

theorem takeHead_of_data (hk : q.kind = .data ∨ q.kind = .message) : s.takeHead gt c =
    (chanStatus 0 c q.beats ((s.chan gt c).entry q.seq),
     s.onChan gt c (Endpoint.handed q more s.cycle)) := by
  rcases hk with hk | hk <;> simp only [State.takeHead, he, hq, hk] <;> rfl

theorem takeHead_of_end (hk : q.kind = .endTok) : s.takeHead gt c =
    (chanStatus 1 c 0 0,
     s.onChan gt c (Endpoint.endTaken q more)) := by
  simp only [State.takeHead, he, hq, hk]; rfl

end

/-- A mask of one endpoint. -/
theorem setBits_single (ch : Fin 16) : setBits 16 (BitVec.ofNat 16 (2 ^ ch.val)).toNat = [ch.val] := by revert ch; decide

theorem setWidth_single (ch : Fin 16) : (BitVec.ofNat 64 (2 ^ ch.val)).setWidth 16 = BitVec.ofNat 16 (2 ^ ch.val) :=
  BitVec.setWidth_ofNat_of_le (by decide) _

theorem alt_of_single {s : State} {d a : Reg} {ch : Fin 16} (hx : (me s).x a = BitVec.ofNat 64 (2 ^ ch.val)) (hh : Holds s ch .receiver) :
    ∃ body, exec (.alt d a) s = s.issue { noHandler := true } [a, d] body ∧ body (me s) =
      if (s.chan (s.cur / 4) ch.val).headReady then (s.takeAlt (s.cur / 4) ch.val).2.finish d (s.takeAlt (s.cur / 4) ch.val).1
      else .done (s.block s.cur (.alt d (BitVec.ofNat 16 (2 ^ ch.val)))) := by
  obtain ⟨hg, hside, hb⟩ := hh
  have hside' : (s.chan (tileOfSlot s.cur) ch.val).side = .receiver := hside
  have hb' : (s.chan (tileOfSlot s.cur) ch.val).heldBy = none := hb
  refine ⟨_, execAlt.eq_1 d a s, ?_⟩
  simp only [hx, setWidth_single, setBits_single, State.earliest, List.isEmpty_cons, List.length_singleton, List.any_cons, List.any_nil,
    Slot.hasCh_eq, hg, hside', hb', List.foldl_cons, List.foldl_nil, Bool.not_true, Bool.or_false, Bool.false_or, bne_self_eq_false,
    Option.isSome_none, Bool.false_eq_true]
  by_cases hy : (s.chan (s.cur / 4) ch.val).headReady = true
  · have hy' : (s.chan (tileOfSlot s.cur) ch.val).headReady = true := hy
    simp only [hy', Bool.not_true, Bool.false_eq_true, if_false, hy, if_true]; rfl
  · have hy' : (s.chan (tileOfSlot s.cur) ch.val).headReady = false := Bool.eq_false_iff.mpr hy
    simp only [hy', Bool.not_false, if_true, hy, if_false]; rfl

/-- Settles O27: RECV, TRYRECV and ALT by what stands at the head of the endpoint. -/
theorem receives : Obligations.Receives := by
  intro s d a ch e
  refine ⟨fun hr ht hh hheld => ⟨fun q more he hq htail hk => ?_, fun q more he hq htail hk => ?_, fun hrdy => ?_⟩, fun hr hx hh => ⟨fun hrdy => ?_, fun hrdy => ?_⟩,
    fun hr hg => ?_⟩
  · obtain ⟨h1, h2⟩ := receives_of_headReady hr ht hh hheld (headReady_of_tail he hq htail)
    rw [takeHead_of_data he hq hk] at h1 h2
    refine ⟨_, h1, h2, rfl, State.slot_onSlot .., fun h hne => State.slot_onSlot_ne _ _ _ _ hne, fun h hne => State.tile_setTile_ne _ _ _ _ hne, ?_⟩
    exact State.chan_onChan s (s.cur / 4) ch.val (Endpoint.handed q more s.cycle)
  · obtain ⟨h1, h2⟩ := receives_of_headReady hr ht hh hheld (headReady_of_tail he hq htail)
    rw [takeHead_of_end he hq hk] at h1 h2
    refine ⟨_, h1, h2, State.slot_onSlot .., ?_⟩
    exact congrArg Endpoint.ended (State.chan_onChan s (s.cur / 4) ch.val (Endpoint.endTaken q more))
  · exact receives_of_not_headReady hr ht hh hheld hrdy
  · obtain ⟨body, hexec, hb⟩ := alt_of_single hx hh
    exact gives_of_done hexec hr (by rw [hb, if_pos hrdy]; rfl)
  · obtain ⟨body, hexec, hb⟩ := alt_of_single hx hh
    exact gives_of_done hexec hr (by rw [hb, if_neg (Bool.eq_false_iff.mp hrdy)]; rfl)
  · exact gives_of_trap (exec_tryrecv s d ch) hr (by rw [recvBody, chanCause_of_no_grant hg]; rfl)

end Sys2Proof.Machine

namespace Sys2Proof.Machine

open Sys2Proof.Claims

set_option Elab.async false

/-! ## Sends, counters and messages (spec/09 R215, R218, R221, R224, R225) -/

section
variable {s : State} (hnone : ∀ r ∈ s.requests, r.src ≠ s.sourceNo (s.cur / 4) 7)
include hnone

/-- The channel port of the slot has no access and no read on its way. -/
theorem dropBeats_of_portIdle : s.dropBeats s.cur 7 = s := by
  have hreads : s.reads (s.issuer s.cur 7 (s.slot s.cur).status.super 0) = [] :=
    List.filter_eq_nil_iff.mpr fun r hr => by
      rw [beq_eq_false_iff_ne.mpr (show r.src ≠ (s.issuer s.cur 7 (s.slot s.cur).status.super 0).src from hnone r hr)]
      exact Bool.false_ne_true
  rw [State.dropBeats, hreads, State.dropReads]
  exact congrArg (fun l => { s with requests := l }) (List.filter_eq_self.mpr fun _ _ => rfl)

theorem gatherBeat_of_portIdle {va : Word} {off : Nat} (hc : s.checkAccess s.cur .read 64 va = .ok (.tile (s.cur / 4) off))
    (hl : s.lostDie (dieOf (s.cur / 4)) = false) :
    s.gatherBeat s.cur 7 va = .data (s.readMem (s.cur / 4 * 2 ^ 30 + off) 64) (s.poisoned (s.cur / 4 * 2 ^ 30 + off) 64) := by
  have hbusy : s.portBusyAt (s.issuer s.cur 7 (s.slot s.cur).status.super 0) (.tile (s.cur / 4) off) 64 = false :=
    List.any_eq_false.mpr fun r hr => by
      have hsrc : (r.src == (s.issuer s.cur 7 (s.slot s.cur).status.super 0).src) = false := beq_eq_false_iff_ne.mpr (hnone r hr)
      simp only [hsrc, Bool.and_false, Bool.false_and, Bool.false_eq_true, not_false_eq_true]
  have hserved : s.served (s.slot s.cur).part (tileOfSlot s.cur) (.tile (s.cur / 4) off) = true := by
    rw [State.served, routeUnits, if_pos (show s.cur / 4 = tileOfSlot s.cur from rfl)]; rfl
  have hread : s.readTarget (.tile (s.cur / 4) off) 64 =
      (s.readMem (s.cur / 4 * 2 ^ 30 + off) 64, s.poisoned (s.cur / 4 * 2 ^ 30 + off) 64) := if_neg (Bool.eq_false_iff.mp hl)
  simp only [State.gatherBeat, hc, hbusy, hserved, hread, Target.remote, Bool.not_true, Bool.or_self, Bool.false_eq_true, if_false]
  rfl

/-- Blocks one after another in the slot's own scratchpad. -/
theorem gather_of_portIdle (hl : s.lostDie (dieOf (s.cur / 4)) = false) (n : Nat) : ∀ (va : Word) (off : Nat),
    (∀ i, i < n → s.checkAccess s.cur .read 64 (va + BitVec.ofNat 64 (64 * i)) = .ok (.tile (s.cur / 4) (off + 64 * i))) →
    s.gather s.cur 7 n va = .data ((List.range n).flatMap (fun i => s.readMem (s.cur / 4 * 2 ^ 30 + off + 64 * i) 64))
      ((List.range n).any (fun i => s.poisoned (s.cur / 4 * 2 ^ 30 + off + 64 * i) 64)) := by
  induction n with
  | zero => intro va off _; rfl
  | succ n ih =>
    intro va off hc
    have h0 := gatherBeat_of_portIdle hnone (va := va) (off := off) (by simpa using hc 0 (Nat.succ_pos n)) hl
    have hrest := ih (va + 64) (off + 64) fun i hi => by
      have h := hc (i + 1) (Nat.succ_lt_succ hi)
      have hva : va + 64 + BitVec.ofNat 64 (64 * i) = va + BitVec.ofNat 64 (64 * (i + 1)) := by
        rw [BitVec.add_assoc, Nat.mul_add, Nat.add_comm, BitVec.ofNat_add]; rfl
      rw [hva, h, Nat.mul_add, Nat.add_assoc, Nat.add_comm 64]
    have hkey : ∀ i, s.cur / 4 * 2 ^ 30 + (off + 64) + 64 * i = s.cur / 4 * 2 ^ 30 + off + 64 * (i + 1) := fun i => by omega
    simp only [hkey] at hrest
    simp only [State.gather, h0, hrest, List.range_succ_eq_map, List.flatMap_cons, List.flatMap_map, List.any_cons, List.any_map,
      Function.comp_def, Nat.mul_zero, Nat.add_zero]

end

section
variable {s : State} {d b : Reg} {ch : Fin 16} {raw : Bool} (hh : Holds s ch .sender)
include hh

theorem sendAs_of_closed (he : (s.chan (s.cur / 4) ch.val).state = .closed) :
    s.sendAs d ch.val b raw (me s) = .done (Claims.answered s d (status 6 ch.val 0 0)) := by
  have he' : (s.chan (tileOfSlot s.cur) ch.val).state = .closed := he
  simp only [State.sendAs, chanCause_of_holds hh, he', beq_self_eq_true, if_true]; rfl

theorem sendAs_of_broken (he : (s.chan (s.cur / 4) ch.val).state = .broken) :
    s.sendAs d ch.val b raw (me s) = .done (Claims.answered s d (status 4 ch.val 0 0)) := by
  have he' : (s.chan (tileOfSlot s.cur) ch.val).state = .broken := he
  simp only [State.sendAs, chanCause_of_holds hh, he']; rfl

end

/-- A token in the slot's own scratchpad that SEND or SEND.RAW of an OPEN channel may read now. -/
structure MaySend (s : State) (b : Reg) (ch : Fin 16) (off : Nat) : Prop where
  holds : Holds s ch .sender
  opened : (s.chan (s.cur / 4) ch.val).state = .opened
  check : s.checkAccess s.cur .read 64 ((me s).x b) = .ok (.tile (s.cur / 4) off)
  acquired : s.acquirePending s.cur = false
  performed : s.accessesPerformed s.cur = true
  good : s.lostDie (dieOf (s.cur / 4)) = false
  idle : ∀ r ∈ s.requests, r.src ≠ s.sourceNo (s.cur / 4) 7

theorem MaySend.sendAs {s : State} {b : Reg} {ch : Fin 16} {off : Nat} (h : MaySend s b ch off) (d : Reg) {raw : Bool}
    {n : Nat} {bs : Bytes} {bad : Bool} (hn : n = if raw then 1 else (Header.ofBytes (s.readMem (s.cur / 4 * 2 ^ 30 + off) 64)).beats)
    (hb : (raw = false → (Header.ofBytes (s.readMem (s.cur / 4 * 2 ^ 30 + off) 64)).invalid = false) → n ≤ (s.chan (s.cur / 4) ch.val).entryBeats → s.gather s.cur 7 n ((me s).x b) = .data bs bad) :
    let head := Header.ofBytes (s.readMem (s.cur / 4 * 2 ^ 30 + off) 64)
    s.sendAs d ch.val b raw (me s) =
      if (!raw && head.invalid) = true then s.trapWord (me s) 6
      else if (s.chan (s.cur / 4) ch.val).entryBeats < n then .done (Claims.answered s d (status 5 ch.val 0 0))
      else .done (blockedIn s (.send d ch.val { kind := if raw then .message else .data, bytes := bs, tail := true, bad := bad })) := by
  intro head
  have hst : (s.chan (tileOfSlot s.cur) ch.val).state = .opened := h.opened
  have hhead : s.gather s.cur 7 1 ((me s).x b) =
      .data (s.readMem (s.cur / 4 * 2 ^ 30 + off) 64) (s.poisoned (s.cur / 4 * 2 ^ 30 + off) 64) := by
    simp only [State.gather, gatherBeat_of_portIdle h.idle h.check h.good, List.append_nil, Bool.or_false]
  have hclosed : (EndState.opened == EndState.closed) = false := rfl
  have hbroken : (EndState.opened == EndState.broken) = false := rfl
  simp only [State.sendAs, chanCause_of_holds h.holds, hst, hclosed, hbroken, h.acquired, h.performed, hhead, Bool.not_true, Bool.or_self, Bool.false_eq_true, if_false,
    dropBeats_of_portIdle h.idle, ← hn]
  by_cases hbad : (!raw && (Header.ofBytes (s.readMem (s.cur / 4 * 2 ^ 30 + off) 64)).invalid) = true
  · exact (if_pos hbad).trans (if_pos hbad).symm
  refine (if_neg hbad).trans (Eq.trans ?_ (if_neg hbad).symm)
  have hfine : raw = false → (Header.ofBytes (s.readMem (s.cur / 4 * 2 ^ 30 + off) 64)).invalid = false := by
    rintro rfl; exact Bool.eq_false_iff.mpr hbad
  by_cases hle : (s.chan (s.cur / 4) ch.val).entryBeats < n
  · exact (if_pos hle).trans (if_pos hle).symm
  · refine (if_neg hle).trans (Eq.trans ?_ (if_neg hle).symm)
    simp only [hb hfine (not_lt.mp hle)]; rfl

/-- The sending endpoint once END has been handed to the channel. -/
def Endpoint.endSent (e : Endpoint) : Endpoint := { e with state := .closed, count := e.count + 1 }

theorem sameChannel_onChan (s : State) (gt c : Nat) (f : Endpoint → Endpoint)
    (hf : ∀ e, (f e).side = e.side ∧ (f e).serial = e.serial ∧ (f e).chan = e.chan) (e : Endpoint) (g r : Nat) :
    (s.onChan gt c f).sameChannel e g r = s.sameChannel e g r := by
  have h : ((s.onChan gt c f).chan g r).side = (s.chan g r).side ∧ ((s.onChan gt c f).chan g r).serial = (s.chan g r).serial ∧
      ((s.onChan gt c f).chan g r).chan = (s.chan g r).chan := by
    simp only [State.chan, State.onChan]
    by_cases hg : g = gt
    · subst hg
      rw [State.tile_onTile]
      by_cases hc : c % 16 = r % 16
      · have hget : ∀ v : Vector Endpoint 16, vget v c = vget v r := fun v => congrArg v.get (Fin.ext hc)
        rw [← hget, vget_vset, ← hget]; exact hf _
      · rw [vget_vset_ne _ _ _ _ hc]; exact ⟨rfl, rfl, rfl⟩
    · rw [State.onTile, State.tile_setTile_ne _ _ _ _ hg]; exact ⟨rfl, rfl, rfl⟩
  obtain ⟨hside, hserial, hchan⟩ := h
  rw [State.sameChannel, State.sameChannel, hside, hserial, hchan]

/-- A control token leaves no beat counted. -/
theorem countBeats_tail (s : State) (gt c : Nat) {tok : Token} (ht : tok.tail = true) :
    s.countBeats gt c tok = s ∨ s.countBeats gt c tok = s.onChan gt c (fun e => { e with sent := 0 }) := by
  by_cases h0 : (s.chan gt c).sent = 0
  · exact .inl (if_pos (by simp [ht, h0]))
  · refine .inr ((if_neg (by simp [h0])).trans ?_)
    rw [ht]; rfl

/-- What CH.CLOSE sends to the other end of a channel of this module. -/
def endArrival (s : State) (gt part g r : Nat) (e : Endpoint) : Instr :=
  .tokenArrival g r
    { kind := .endTok, bytes := [], tail := true, chan := some (e.serial, e.chan)
      origin := some (s.sourceNo gt 7, part, BitVec.ofNat 64 (0xFFFE * 2 ^ 48 + s.mgmt.package * 2 ^ 38 + g * 2 ^ 30 + e.qoff +
        64 * (e.entryBeats * (e.count % (e.depth + 1)) + e.sent)))
      place := if e.lane then none else some (e.count % (e.depth + 1), e.sent) }

section
variable {s : State} {gt c part g r : Nat} (hside : (s.chan gt c).side = .sender) (hst : (s.chan gt c).state = .opened)
  (hpeer : (s.chan gt c).peer = some (s.mgmt.package, g, r)) (hsame : s.sameChannel (s.chan gt c) g r = true)
include hside hst hpeer hsame

theorem closeSender_of_local : ∃ u : State, s.closeSender part gt c .endTok = u.post (endArrival s gt part g r (s.chan gt c)) ∧
    u = { s with tiles := u.tiles } ∧ (u.chan gt c).state = .closed := by
  have he : (s.onChan gt c Endpoint.endSent).chan gt c = (s.chan gt c).endSent := State.chan_onChan ..
  have hpeer' : (s.chan gt c).endSent.peer = some (s.mgmt.package, g, r) := hpeer
  have hclose : s.closeSender part gt c .endTok = (s.onChan gt c Endpoint.endSent).sendToken part gt c { kind := .endTok, bytes := [], tail := true } := by
    simp only [State.closeSender, hside, hst, hpeer, beq_self_eq_true, Bool.and_self, Option.isSome_some, if_true]; rfl
  have hsame' : ∀ u, u = s.onChan gt c Endpoint.endSent ∨ u = (s.onChan gt c Endpoint.endSent).onChan gt c (fun e => { e with sent := 0 }) →
      u.sameChannel (s.chan gt c).endSent g r = true ∧ (u.chan gt c).state = .closed ∧ u = { s with tiles := u.tiles } := by
    have hone : (s.onChan gt c Endpoint.endSent).sameChannel (s.chan gt c).endSent g r = true :=
      (sameChannel_onChan s gt c Endpoint.endSent (fun _ => ⟨rfl, rfl, rfl⟩) _ g r).trans hsame
    rintro u (rfl | rfl)
    · exact ⟨hone, congrArg Endpoint.state he, rfl⟩
    · exact ⟨(sameChannel_onChan _ gt c _ (by exact fun _ => ⟨rfl, rfl, rfl⟩) _ g r).trans hone,
        (congrArg Endpoint.state (State.chan_onChan _ gt c _)).trans (congrArg Endpoint.state he), rfl⟩
  have hsend : ∀ u, (u = s.onChan gt c Endpoint.endSent ∨ u = (s.onChan gt c Endpoint.endSent).onChan gt c (fun e => { e with sent := 0 })) →
      (s.onChan gt c Endpoint.endSent).countBeats gt c
        (if (s.chan gt c).endSent.lane then { kind := .endTok, bytes := [], tail := true }
          else { kind := .endTok, bytes := [], tail := true, place := some ((s.chan gt c).endSent.lastEntry, (s.chan gt c).endSent.sent) }) = u →
      (s.onChan gt c Endpoint.endSent).sendToken part gt c { kind := .endTok, bytes := [], tail := true } =
        u.post (endArrival s gt part g r (s.chan gt c)) := by
    intro u hu hcount
    obtain ⟨hs, -, -⟩ := hsame' u hu
    have hpkg : s.mgmt.package = u.mgmt.package := by rcases hu with rfl | rfl <;> rfl
    simp only [State.sendToken, he, hcount, hpeer', if_pos hpkg, if_pos hs]
    rcases hu with rfl | rfl
    all_goals
      cases hl : (s.chan gt c).endSent.lane <;> simp only [endArrival, show (s.chan gt c).lane = _ from hl] <;> rfl
  have htail : (if (s.chan gt c).endSent.lane then { kind := .endTok, bytes := [], tail := true }
          else { kind := .endTok, bytes := [], tail := true, place := some ((s.chan gt c).endSent.lastEntry, (s.chan gt c).endSent.sent) } : Token).tail = true := by
    split <;> rfl
  have hu := countBeats_tail (s.onChan gt c Endpoint.endSent) gt c htail
  obtain ⟨-, hclosed, hframe⟩ := hsame' _ hu
  exact ⟨_, hclose.trans (hsend _ hu rfl), hframe, hclosed⟩

end

/-- Two states differ in neither memory, slots nor tiles, and execute the same slot. -/
def SameTiles (s t : State) : Prop := t.mem = s.mem ∧ t.slots = s.slots ∧ t.tiles = s.tiles ∧ t.cur = s.cur

theorem SameTiles.slot_answered {s t : State} (h : SameTiles s t) (d : Reg) (v : Word) :
    (Claims.answered t d v).slot s.cur = ((me s).setX d v).advance := by
  obtain ⟨-, hslots, -, hcur⟩ := h
  have hme : me t = me s := by rw [me, me, State.slot, hslots, hcur]; rfl
  rw [Claims.answered, hme, hcur, State.slot_setSlot]

theorem bit_eq (b : Bool) : bit b = if b = true then 1 else 0 := by cases b <;> rfl

theorem State.sendPacket_sameTiles (s : State) (p : Packet) : SameTiles s (s.sendPacket p) := by
  rw [State.sendPacket]; split <;> exact ⟨rfl, rfl, rfl, rfl⟩

theorem State.onParked_sameTiles (s : State) (part serial chan : Nat) (side : Side) (f : Endpoint → Endpoint) :
    SameTiles s (s.onParked part serial chan side f) := ⟨rfl, rfl, rfl, rfl⟩

theorem State.returnUnits_sameTiles (s : State) (part gt c n : Nat) : SameTiles s (s.returnUnits part gt c n) := by
  rw [State.returnUnits]
  split
  · split
    · exact ⟨rfl, rfl, rfl, rfl⟩
    · split
      · split
        · exact ⟨rfl, rfl, rfl, rfl⟩
        · exact State.onParked_sameTiles ..
      · exact State.sendPacket_sameTiles ..
  · exact ⟨rfl, rfl, rfl, rfl⟩

/-- An endpoint that has returned `n` more units. -/
def Endpoint.granted (n : Nat) (e : Endpoint) : Endpoint := { e with returned := e.returned + n }

section
variable {s : State} {d b : Reg} {ch : Fin 16} (hr : Ready s {} [b, d]) (hh : Holds s ch .receiver)
include hr hh

theorem chGrant_of_auto (hm : (s.chan (s.cur / 4) ch.val).manual = false) :
    Gives (.chGrant d ch b) s (Claims.answered s d (status 8 ch.val 0 0)) := by
  have hm' : (s.chan (tileOfSlot s.cur) ch.val).manual = false := hm
  refine gives_of_done (i := .chGrant d ch b) (execChGrant.eq_1 d ch b s) hr ?_
  simp only [chanCause_of_holds hh, hm', Bool.not_false, if_true]; rfl

/-- CH.GRANT of a MANUAL channel whose end has not been told: the units fit the entries taken, or they do not. -/
theorem chGrant_of_manual (hm : (s.chan (s.cur / 4) ch.val).manual = true) (hb : (s.chan (s.cur / 4) ch.val).state ≠ .broken) :
    let e := s.chan (s.cur / 4) ch.val
    let n := ((me s).x b).toNat
    if e.taken < e.returned + n + bit e.held.isSome then Gives (.chGrant d ch b) s (Claims.answered s d (status 7 ch.val 0 0))
    else Gives (.chGrant d ch b) s (Claims.answered
      ((s.onChan (s.cur / 4) ch.val (Endpoint.granted n)).returnUnits (me s).part (s.cur / 4) ch.val n) d
      (status 0 ch.val 0 0)) := by
  intro e n
  have hm' : (s.chan (tileOfSlot s.cur) ch.val).manual = true := hm
  have hb' : ((s.chan (tileOfSlot s.cur) ch.val).state == .broken) = false := beq_eq_false_iff_ne.mpr hb
  split
  next hlt =>
    have hlt' : (s.chan (tileOfSlot s.cur) ch.val).taken < (s.chan (tileOfSlot s.cur) ch.val).returned + n + bit (s.chan (tileOfSlot s.cur) ch.val).held.isSome := hlt
    refine gives_of_done (i := .chGrant d ch b) (execChGrant.eq_1 d ch b s) hr ?_
    simp only [chanCause_of_holds hh, hm', hb', Bool.not_true, Bool.false_eq_true, if_false]
    exact if_pos hlt'
  next hge =>
    refine gives_of_done (i := .chGrant d ch b) (execChGrant.eq_1 d ch b s) hr ?_
    simp only [chanCause_of_holds hh, hm', hb', Bool.not_true, Bool.false_eq_true, if_false]
    exact if_neg hge

end

/-- Settles O28: SEND by what the head of its block says, CH.GRANT by its count, CH.CLOSE by the other end of the channel. -/
theorem sends : Obligations.Sends := by
  intro s d b ch off e key h
  refine ⟨fun hr hh => ⟨fun he => ?_, fun he => ?_, fun he hown hc hacq hacc hl hreq => ?_⟩, fun hr hh => ⟨fun hm => ?_, fun hm hb hn => ?_, fun hm hb hn => ?_⟩,
    fun hr hh => ⟨fun he => ?_, fun he hacc g r hpeer hsame hne => ?_⟩⟩
  · exact ⟨gives_of_done rfl hr (sendAs_of_closed hh he), gives_of_done rfl hr (sendAs_of_closed hh he)⟩
  · exact ⟨gives_of_done rfl hr (sendAs_of_broken hh he), gives_of_done rfl hr (sendAs_of_broken hh he)⟩
  · have hmay : MaySend s b ch off := ⟨hh, he, hc, hacq, hacc, hl, hreq⟩
    have hone : s.gather s.cur 7 1 ((me s).x b) = .data (s.readMem key 64) (s.poisoned key 64) := by
      simp only [State.gather, gatherBeat_of_portIdle hreq hc hl, List.append_nil, Bool.or_false]; rfl
    refine ⟨fun hn => ?_, fun hbad => ?_, fun hgood hn => ?_, fun hgood hn hchecks => ?_⟩
    · exact gives_of_done rfl hr ((hmay.sendAs (raw := true) d rfl fun _ _ => hone).trans (if_neg (not_lt.mpr hn)))
    · exact gives_of_trap rfl hr ((hmay.sendAs (raw := false) (bs := []) (bad := false) d rfl fun hf _ =>
        absurd hbad (Bool.eq_false_iff.mp (hf rfl))).trans (if_pos hbad))
    · exact gives_of_done rfl hr ((hmay.sendAs (raw := false) (bs := []) (bad := false) d rfl fun _ hle => absurd hn (not_lt.mpr hle)).trans
        ((if_neg (Bool.eq_false_iff.mp hgood)).trans (if_pos hn)))
    · exact gives_of_done rfl hr ((hmay.sendAs (raw := false) d rfl fun _ _ => gather_of_portIdle hreq hl h.beats _ off hchecks).trans
        ((if_neg (Bool.eq_false_iff.mp hgood)).trans (if_neg (not_lt.mpr hn))))
  · exact chGrant_of_auto hr hh hm
  · have h := chGrant_of_manual hr hh hm hb
    have hge : ¬e.taken < e.returned + ((me s).x b).toNat + bit e.held.isSome := by rw [bit_eq]; exact not_lt.mpr hn
    rw [if_neg hge] at h
    have hsame := State.returnUnits_sameTiles
      (s.onChan (s.cur / 4) ch.val (Endpoint.granted ((me s).x b).toNat)) (me s).part (s.cur / 4) ch.val ((me s).x b).toNat
    obtain ⟨hmem, -, htiles, -⟩ := id hsame
    refine ⟨_, h, hmem, hsame.slot_answered d _, ?_⟩
    have hchan := State.chan_onChan s (s.cur / 4) ch.val (Endpoint.granted ((me s).x b).toNat)
    exact (congrArg (fun l => (vget (Assoc.get Tile.reset l (s.cur / 4)).chans ch.val).returned) htiles).trans (congrArg Endpoint.returned hchan)
  · have h := chGrant_of_manual hr hh hm hb
    have hlt : e.taken < e.returned + ((me s).x b).toNat + bit e.held.isSome := by rw [bit_eq]; exact hn
    rwa [if_pos hlt] at h
  · have he' : ((s.chan (tileOfSlot s.cur) ch.val).state != .opened) = true := bne_iff_ne.mpr he
    refine gives_of_done (i := .chClose ch) (execChClose.eq_1 ch s) hr ?_
    simp only [chanCause_of_holds hh, he', if_true]; rfl
  · obtain ⟨u, hu, hframe, hclosed⟩ := closeSender_of_local (part := (me s).part) hh.2.1 he hpeer hsame
    have he' : ((s.chan (tileOfSlot s.cur) ch.val).state != .opened) = false := bne_eq_false_iff_eq.mpr he
    have hu' : s.closeSender (me s).part (tileOfSlot s.cur) ch.val .endTok = _ := hu
    have hslot : ∀ g, u.slot g = s.slot g := fun g => by rw [hframe]; rfl
    refine ⟨(u.post (endArrival s (s.cur / 4) (me s).part g r e)).retire s.cur id, gives_of_done (i := .chClose ch) (execChClose.eq_1 ch s) hr ?_, ?_, hclosed, ?_, ?_⟩
    · simp only [chanCause_of_holds hh, he', hacc, hu', Bool.not_true, Bool.false_eq_true, if_false]; rfl
    · exact show u.mem = s.mem by rw [hframe]
    · exact (State.slot_onSlot ..).trans (congrArg Slot.advance (hslot s.cur))
    · exact congrArg (· ++ [endArrival s (s.cur / 4) (me s).part g r e]) (show u.agenda = s.agenda by rw [hframe])

end Sys2Proof.Machine

namespace Sys2Proof.Machine

open Sys2Proof.Claims

set_option Elab.async false

/-! ## Waits on counters, and messages (spec/09 R221, R222, R224, R225) -/

section
variable {s : State} {k : Fin 16} (hk : (me s).grant.k.getLsbD k.val = true)
include hk

theorem waitBelow_of_grant (n : Nat) : s.waitBelow k n (me s) =
    if n = 0 then s.trapWord (me s) 1
    else if (s.counter (s.cur / 4) k.val).toNat < n then .done (retired s id) else .done (blockedIn s (.counter k.val n)) := by
  rw [State.waitBelow, Slot.hasK_eq, hk]; rfl

theorem waits_of_grant {i : Instr} {rs : List Reg} {n : Nat} {body : Slot → Issue} (hi : exec i s = s.issue { noHandler := true } rs body)
    (hr : Ready s { noHandler := true } rs) (hbody : body (me s) = s.waitBelow k n (me s)) :
    (n = 0 → Gives i s (s.takeTrap s.cur 1 (s.wordAt (me s)))) ∧
    (n ≠ 0 → ((s.counter (s.cur / 4) k.val).toNat < n → Gives i s (retired s id)) ∧
      (n ≤ (s.counter (s.cur / 4) k.val).toNat → Gives i s (blockedIn s (.counter k.val n)))) := by
  rw [waitBelow_of_grant hk] at hbody
  refine ⟨fun h0 => gives_of_trap hi hr (hbody.trans (if_pos h0)), fun h0 => ⟨fun hlt => ?_, fun hle => ?_⟩⟩
  · exact gives_of_done hi hr (hbody.trans ((if_neg h0).trans (if_pos hlt)))
  · exact gives_of_done hi hr (hbody.trans ((if_neg h0).trans (if_neg (not_lt.mpr hle))))

end

/-- The message in hand leaves the inbox. -/
def Tile.messageEnded (t : Tile) : Tile := { t with inbox := { t.inbox with taken := t.inbox.taken + 1, msgEnds := t.inbox.msgEnds + 1 } }

theorem msgEnd_of_last {s : State} (hr : Ready s {} []) (hh : (me s).inHandler = true) (hb : (me s).status.tbank = false) (hres : (me s).resume = none)
    (hlast : (s.tile (s.cur / 4)).inbox.arrived ≤ (s.tile (s.cur / 4)).inbox.taken + 1) :
    Gives .msgEnd s ((s.onTile (s.cur / 4) Tile.messageEnded).setSlot s.cur { me s with inHandler := false, resume := none, state := .issue }) := by
  have hib : (s.onTile (s.cur / 4) Tile.messageEnded).tile (s.cur / 4) = (s.tile (s.cur / 4)).messageEnded := State.tile_onTile ..
  have hmore : decide (((s.onTile (s.cur / 4) Tile.messageEnded).tile (s.cur / 4)).inbox.taken <
      ((s.onTile (s.cur / 4) Tile.messageEnded).tile (s.cur / 4)).inbox.arrived) = false := by
    rw [hib]; exact decide_eq_false (not_lt.mpr hlast)
  refine gives_of_done (i := .msgEnd) (execMsgEnd.eq_1 s) hr ?_
  refine (if_neg (by rw [hh, hb]; exact Bool.false_ne_true)).trans ((if_neg ?_).trans ?_)
  · intro h
    exact Bool.false_ne_true (hmore.symm.trans (Bool.and_eq_true_iff.mp h).2)
  · rw [hres]; rfl

theorem msgEnd_of_main {s : State} (hr : Ready s {} []) (hh : (me s).inHandler = false) :
    Gives .msgEnd s (s.takeTrap s.cur 1 (s.wordAt (me s))) :=
  gives_of_trap (i := .msgEnd) (execMsgEnd.eq_1 s) hr (if_pos (by rw [hh]; rfl))

theorem msgSend_of_ready {s : State} {d a b : Reg} {gt off : Nat} (hr : Ready s {} [a, b, d])
    (hc : s.checkAccess s.cur .read 64 ((me s).x b) = .ok (.tile (s.cur / 4) off)) (ht : s.messageTarget (me s).part ((me s).x a) = true)
    (hx : ((me s).x a).toNat % 2 ^ 18 = s.mgmt.package * 256 + gt) (hgt : gt < 256) (hport : PortFree s true)
    (hl : s.lostDie (dieOf (s.cur / 4)) = false) (hreq : ∀ r ∈ s.requests, r.src ≠ s.sourceNo (s.cur / 4) 7) :
    let key := s.cur / 4 * 2 ^ 30 + off
    let u := (s.accept s.cur (.message (s.mgmt.package * 256 + gt) (s.readMem key 64) (s.poisoned key 64)) 0 none (some d) false true 0)
    Gives (.msgSend d a b) s ((u.2.retire s.cur id).post (.messageArrival gt (s.readMem key 64) (some u.1))) := by
  have hport' : s.portReady s.cur true = true := portReady_of_portFree hport
  have hlow : bits ((me s).x a) 17 0 = s.mgmt.package * 256 + gt := (bits_low _ _).trans hx
  have hfields : bits ((me s).x a) 17 8 = s.mgmt.package ∧ bits ((me s).x a) 7 0 = gt := by
    simp only [bits, bitsN]
    omega
  have hone : s.gather s.cur 7 1 ((me s).x b) =
      .data (s.readMem (s.cur / 4 * 2 ^ 30 + off) 64) (s.poisoned (s.cur / 4 * 2 ^ 30 + off) 64) := by
    simp only [State.gather, gatherBeat_of_portIdle hreq hc hl, List.append_nil, Bool.or_false]
  refine gives_of_done (i := .msgSend d a b) (execMsgSend.eq_1 d a b s) hr ?_
  simp only [ht, hport', hlow, hfields, hone, dropBeats_of_portIdle hreq, Bool.not_true, Bool.false_eq_true, if_false]
  exact congrArg Issue.done (if_pos rfl)

/-- Settles O29: the waits by their threshold, MSG.END by the inbox, MSG.SEND by the block that it reads. -/
theorem countersAndMessages : Obligations.CountersAndMessages := by
  intro s d a b k n c
  refine ⟨fun hk => ⟨fun hr h0 => ?_, fun hr h0 => ?_, fun hr => ⟨fun hlt => ?_, fun h0 hle => ?_, fun h0 => ?_⟩⟩, fun hk hr => ?_,
    fun hr => ⟨fun hh hb hres hlast => ?_, fun hh => msgEnd_of_main hr hh⟩, fun gt off hr hown hc ht hx hgt hport hl hreq => ?_⟩
  · exact (waits_of_grant hk (i := .waitlt k n) rfl hr rfl).1 (congrArg Fin.val h0)
  · exact (waits_of_grant hk (i := .waitlt k n) rfl hr rfl).2 (fun h => h0 (Fin.ext h))
  · exact ((waits_of_grant hk (i := .waitltX k b) (n := ((me s).x b).toNat) rfl hr rfl).2 (by omega)).1 hlt
  · exact ((waits_of_grant hk (i := .waitltX k b) (n := ((me s).x b).toNat) rfl hr rfl).2 (by omega)).2 hle
  · exact (waits_of_grant hk (i := .waitltX k b) (n := ((me s).x b).toNat) rfl hr rfl).1 (by rw [h0]; rfl)
  · exact gives_of_trap (i := .kRd d k) (execKRd.eq_1 d k s) hr (if_pos (by rw [Slot.hasK_eq, hk]; rfl))
  · have hib : (s.onTile (s.cur / 4) Tile.messageEnded).tile (s.cur / 4) = (s.tile (s.cur / 4)).messageEnded := State.tile_onTile ..
    refine ⟨_, msgEnd_of_last hr hh hb hres hlast, rfl, congrArg (fun t => t.inbox.taken) hib, (State.slot_setSlot ..).trans ?_⟩
    rw [← hres]
  · exact ⟨_, msgSend_of_ready hr hc ht hx hgt hport hl hreq, rfl, rfl, rfl, rfl⟩

end Sys2Proof.Machine

namespace Sys2Proof.Machine

open Sys2Proof.Claims

set_option Elab.async false

/-! ## Task instructions in the issuing slot (spec/10 R235, R236, R239, R240, R249) -/

/-- The state of a map written twice at a key is that of its last write. -/
theorem Assoc.set_set {α : Type} (m : List (Nat × α)) (k : Nat) (v w : α) : Assoc.set (Assoc.set m k v) k w = Assoc.set m k w := by
  have hlow : (Assoc.set m k v).filter (fun e => decide (e.1 < k)) = m.filter (fun e => decide (e.1 < k)) := by
    rw [Assoc.set, List.filter_append, List.filter_cons_of_neg (by simp), List.filter_filter, List.filter_filter]
    simp only [Bool.and_self, List.append_right_eq_self, List.filter_eq_nil_iff, Bool.and_eq_true, decide_eq_true_eq, not_and]
    exact fun e _ => Nat.lt_asymm
  have hhigh : (Assoc.set m k v).filter (fun e => decide (k < e.1)) = m.filter (fun e => decide (k < e.1)) := by
    rw [Assoc.set, List.filter_append, List.filter_cons_of_neg (by simp), List.filter_filter, List.filter_filter]
    simp only [Bool.and_self, List.append_left_eq_self, List.filter_eq_nil_iff, Bool.and_eq_true, decide_eq_true_eq, not_and]
    exact fun e _ => Nat.lt_asymm
  rw [Assoc.set, hlow, hhigh, Assoc.set]

theorem State.setSlot_setSlot (s : State) (g : Nat) (t u : Slot) : (s.setSlot g t).setSlot g u = s.setSlot g u :=
  congrArg (fun l => { s with slots := l }) (Assoc.set_set ..)

theorem State.onSlot_onSlot (s : State) (g : Nat) (f h : Slot → Slot) : (s.onSlot g f).onSlot g h = s.onSlot g (fun t => h (f t)) := by
  rw [State.onSlot, State.slot_onSlot]; exact State.setSlot_setSlot ..

theorem taskIns_of_task {s : State} {d : Reg} {r : TaskRec} (ht : myTask s = some r) (hr : Ready s { engine := true } [d]) :
    Gives (.taskIns d) s (Claims.answered s d r.instat) := by
  refine gives_of_done (i := .taskIns d) (execTaskIns.eq_1 d s) hr ?_
  have ht' : s.taskOf (me s).task = some r := ht
  rw [ht']; rfl

theorem killHold_of_ready {s : State} (hr : Ready s { engine := true } []) (hl : s.inLockstep (me s) = false) :
    ((me s).hold = none → Gives .killHold s ((s.setSlot s.cur { me s with hold := some (s.cycle + 4096), expired := false }.advance).post
      (.killHoldExpiry s.cur))) ∧
    ((me s).hold ≠ none → Gives .killHold s (s.takeTrap s.cur 1 (s.wordAt (me s)))) := by
  refine ⟨fun h => gives_of_done (i := .killHold) (execKillHold.eq_1 s) hr ?_, fun h => gives_of_trap (i := .killHold) (execKillHold.eq_1 s) hr ?_⟩
  · refine (if_neg (by rw [h]; exact Bool.false_ne_true)).trans ?_
    rw [hl]; rfl
  · exact if_pos (Option.isSome_iff_ne_none.mpr h)

theorem killOpen_of_ready {s : State} {d : Reg} (hr : Ready s { engine := true } [d]) :
    ((me s).hold ≠ none → Gives (.killOpen d) s (s.setSlot s.cur ({ me s with hold := none }.setX d 0).advance)) ∧
    ((me s).hold = none → (me s).expired = true → Gives (.killOpen d) s (s.setSlot s.cur ({ me s with expired := false }.setX d 1).advance)) ∧
    ((me s).hold = none → (me s).expired = false → Gives (.killOpen d) s (s.takeTrap s.cur 1 (s.wordAt (me s)))) := by
  have hno : (me s).hold = none → ¬(me s).hold.isSome = true := fun h => by rw [h]; exact Bool.false_ne_true
  refine ⟨fun h => gives_of_done (i := .killOpen d) (execKillOpen.eq_1 d s) hr ?_, fun h he => gives_of_done (i := .killOpen d) (execKillOpen.eq_1 d s) hr ?_,
    fun h he => gives_of_trap (i := .killOpen d) (execKillOpen.eq_1 d s) hr ?_⟩
  · exact if_pos (Option.isSome_iff_ne_none.mpr h)
  · exact (if_neg (hno h)).trans (if_pos he)
  · exact (if_neg (hno h)).trans (if_neg (Bool.eq_false_iff.mp he))

theorem below_refl (s : State) (n key : Nat) : s.below key n key = true := by
  cases n with
  | zero => exact beq_self_eq_true key
  | succ n => rw [State.below, beq_self_eq_true, Bool.true_or]

/-- What CANCEL.WAIT does when it has not waited yet. -/
def cancelWaitBody (s : State) (d : Reg) (r : TaskRec) (o : Except Nat Nat) : Issue :=
  match o with
  | .error c => .done (s.retire s.cur (fun t => t.setX d (failure c)))
  | .ok k => if k = r.scope then .done (s.retire s.cur (fun t => t.setX d (failure 3))) else .done (s.block s.cur (.scope d k))

theorem cancelWait_of_scope {s : State} {d a : Reg} {r : TaskRec} {k : Nat} (hw : ∀ e v, (me s).wait ≠ some (.settled e v))
    (ht : myTask s = some r) (ha : (me s).x a ≠ 0) (hk : s.scopeOf (me s).part ((me s).x a) = some k) :
    ∃ body, exec (.cancelWait d a) s = s.issue { engine := true, noHandler := true } [a, d] body ∧
      body (me s) = cancelWaitBody s d r (if (me s).status.super || s.descends k r.scope then .ok k else .error 2) := by
  refine ⟨_, execCancelWait.eq_1 d a s, ?_⟩
  have ht' : s.taskOf (me s).task = some r := ht
  have hreach : s.reachScope (me s).part r.scope (me s).status.super ((me s).x a) =
      if (me s).status.super || s.descends k r.scope then .ok k else .error 2 := by
    rw [State.reachScope, State.namedScope, if_neg ha, hk]
  rw [ht']
  split
  next h => exact absurd h (hw _ _)
  next h _ => cases h
  next h _ =>
    cases h
    rw [if_neg ha, hreach]; rfl

theorem gangAdvance_slots (s : State) (k : Nat) : (s.gangAdvance k).slots = s.slots ∧ (s.gangAdvance k).mem = s.mem := by
  rw [State.gangAdvance]
  split
  · exact ⟨rfl, rfl⟩
  · rw [State.onGang]; split <;> exact ⟨rfl, rfl⟩

/-- A slot that begins to wait. -/
def Slot.blocked (w : Wait) (t : Slot) : Slot := { t with state := .blocked, wait := some w, waitSerial := t.waitSerial + 1 }
/-- A slot that has reached one more GANG.SYNC. -/
def Slot.synced (t : Slot) : Slot := { t with gangSyncs := t.gangSyncs + 1 }

/-- Settles O31: each instruction by the slot's own state, CANCEL.WAIT by the scope that it names. -/
theorem taskLocal : Obligations.TaskLocal := by
  intro s d a
  refine ⟨fun r ht hr => taskIns_of_task ht hr, fun hr hl => killHold_of_ready hr hl, fun hr => killOpen_of_ready hr,
    fun r k hr hw ht ha hk => ?_, fun hr hacc hacq hg => ?_, fun k hr hacc hacq hg => ?_, fun hr => ?_⟩
  · obtain ⟨body, hexec, hbody⟩ := cancelWait_of_scope (d := d) hw ht ha hk
    refine ⟨fun hself => ?_, fun hne hd => ?_, fun hd hsuper => ?_⟩
    · have hd : s.descends k r.scope = true := by rw [hself]; exact below_refl ..
      exact gives_of_done hexec hr (by rw [hbody, hd, Bool.or_true]; exact if_pos hself)
    · exact gives_of_done hexec hr (by rw [hbody, hd, Bool.or_true]; exact if_neg hne)
    · exact gives_of_done hexec hr (by rw [hbody, hd, hsuper]; rfl)
  · refine gives_of_done (i := .gangSync d) (execGangSync.eq_1 d s) hr ?_
    simp only [hacc, hacq, hg, Bool.not_true, Bool.or_self, Bool.false_eq_true, if_false]; rfl
  · refine ⟨((s.block s.cur (.gang d ((me s).gangSyncs + 1))).onSlot s.cur Slot.synced).gangAdvance k,
      gives_of_done (i := .gangSync d) (execGangSync.eq_1 d s) hr ?_, ?_⟩
    · simp only [hacc, hacq, hg, Bool.not_true, Bool.or_self, Bool.false_eq_true, if_false]; rfl
    · obtain ⟨hslots, hmem⟩ := gangAdvance_slots ((s.block s.cur (.gang d ((me s).gangSyncs + 1))).onSlot s.cur Slot.synced) k
      have hslot : ((s.block s.cur (.gang d ((me s).gangSyncs + 1))).onSlot s.cur Slot.synced).slot s.cur =
          (Slot.blocked (.gang d ((me s).gangSyncs + 1)) (me s)).synced :=
        (State.slot_onSlot ..).trans (congrArg Slot.synced (State.slot_onSlot s s.cur (Slot.blocked (.gang d ((me s).gangSyncs + 1)))))
      rw [State.slot, hslots, ← State.slot, hslot]
      exact ⟨hmem, rfl, rfl, rfl, rfl⟩
  · refine gives_of_done (i := .endTask a) (execEndTask.eq_1 a s) hr ?_
    exact congrArg (fun u => Issue.done (State.post u (.waitComplete s.cur)))
      (State.onSlot_onSlot s s.cur (fun t => { t with hold := none, expired := false }) (Slot.blocked (.ending (((me s).x a).setWidth 8))))

end Sys2Proof.Machine

namespace Sys2Proof.Machine

open Sys2Proof.Claims

set_option Elab.async false

/-! ## Walks, fills and invalidations (spec/15 R320 to R322) -/

theorem State.die_onDie (s : State) (d : Nat) (f : Die → Die) : (s.onDie d f).die d = f (s.die d) := vget_vset ..

/-- From one state to another memory, slots and agenda stay, and so do the walks at a home. -/
structure KeepsWalks (home : Nat) (s u : State) : Prop where
  mem : u.mem = s.mem
  slots : u.slots = s.slots
  agenda : u.agenda = s.agenda
  walks : (u.die home).walks = (s.die home).walks

theorem KeepsWalks.refl (home : Nat) (s : State) : KeepsWalks home s s := ⟨rfl, rfl, rfl, rfl⟩

theorem State.onDie_keepsWalks (s : State) (home : Nat) {f : Die → Die} (hf : ∀ d, (f d).walks = d.walks) : KeepsWalks home s (s.onDie home f) :=
  ⟨rfl, rfl, rfl, by rw [State.die_onDie, hf]⟩

theorem State.onHomeTlb_eq (s : State) (home : Nat) (f : Tlb → Tlb) :
    s.onTlb (320 + home) f = s.onDie home (fun d => { d with homeTlb := f d.homeTlb }) := by
  rw [State.onTlb, if_neg (by omega), if_neg (by omega), Nat.add_sub_cancel_left]

theorem KeepsWalks.trans {home : Nat} {s t u : State} (h : KeepsWalks home s t) (k : KeepsWalks home t u) : KeepsWalks home s u :=
  ⟨k.mem.trans h.mem, k.slots.trans h.slots, k.agenda.trans h.agenda, k.walks.trans h.walks⟩

/-- The state in which a walk has left its home. -/
def State.walkTaken (s : State) (home id : Nat) : State := s.onDie home (fun d => { d with walks := d.walks.filter (fun x => x.id != id) })

/-- The malformed entries that a walk met are counted at its home. -/
def State.walkCounted (s : State) (home n : Nat) : State := if n = 0 then s else s.countDie home 0 n

/-- The fill that a walk of the current GEN ends with. -/
def walkFill (w : Walk) (e : TlbEntry) : Fill :=
  { home := w.home, part := w.part, gen := w.gen, w0 := e.w0, w1 := e.w1, w2 := e.w2, by_ := w.by_, ctx := w.ctx }
/-- The entry that stands for `no entry` in a fill. -/
def noEntry (w : Walk) : TlbEntry := { part := w.part, home := w.home, w0 := 0, w1 := w.va, w2 := 0, ctx := w.ctx }

section
variable {s : State} {id : Nat} {w : Walk} (hw : walkAt s id = some w) (ht : s.hasTurn w.home 64 w.part = true)
include hw ht

theorem walkComplete_of_current (hg : w.gen = s.gen w.home w.part) :
    ∃ u, KeepsWalks w.home (s.walkTaken w.home id) u ∧
      exec (.walkComplete id) s = .next (u.post (.tlbFill w.tlb (walkFill w ((s.walk w.part w.va).1.getD (noEntry w))))) := by
  have hw' : ([0, 1, 2, 3].flatMap (fun d => (s.die d).walks)).find? (fun w => w.id == id) = some w := hw
  have hcount : KeepsWalks w.home (s.walkTaken w.home id) ((s.walkTaken w.home id).walkCounted w.home (s.walk w.part w.va).2) := by
    rw [State.walkCounted]
    split
    · exact .refl ..
    · exact State.onDie_keepsWalks _ _ fun _ => rfl
  have hturn : ¬(!s.hasTurn w.home 64 w.part) = true := by rw [ht]; exact Bool.false_ne_true
  have hexec : ∀ u, (match (s.walk w.part w.va).1 with
      | some e => (((s.walkTaken w.home id).walkCounted w.home (s.walk w.part w.va).2).onTlb (320 + w.home)
          (fun t => t.install (tlbRoom (320 + w.home)) { e with home := w.home })).post (.tlbFill w.tlb (walkFill w e))
      | none => ((s.walkTaken w.home id).walkCounted w.home (s.walk w.part w.va).2).post (.tlbFill w.tlb (walkFill w (noEntry w)))) = u →
      exec (.walkComplete id) s = .next u := by
    rintro u rfl
    have hexec : exec (.walkComplete id) s = execWalkComplete id s := rfl
    rw [hexec, execWalkComplete, hw']
    refine congrArg Host.Outcome.next ((if_neg hturn).trans ((if_neg (not_not.mpr hg)).trans ?_))
    generalize s.walk w.part w.va = r
    obtain ⟨_ | e, n⟩ := r <;> rfl
  cases hr : (s.walk w.part w.va).1 with
  | none => exact ⟨_, hcount, hexec _ (by rw [hr]; rfl)⟩
  | some e =>
    refine ⟨((s.walkTaken w.home id).walkCounted w.home (s.walk w.part w.va).2).onTlb (320 + w.home)
      (fun t => t.install (tlbRoom (320 + w.home)) { e with home := w.home }), hcount.trans ?_, hexec _ (by rw [hr]; rfl)⟩
    rw [State.onHomeTlb_eq]; exact State.onDie_keepsWalks _ _ fun _ => rfl

theorem walkComplete_of_stale (hg : w.gen ≠ s.gen w.home w.part) :
    exec (.walkComplete id) s = .next ((s.onDie w.home (fun d => { d with walks := d.walks.map (fun x =>
      if x.id == id then { x with gen := s.gen w.home w.part } else x) })).post (.walkComplete id)) := by
  have hw' : ([0, 1, 2, 3].flatMap (fun d => (s.die d).walks)).find? (fun w => w.id == id) = some w := hw
  have hexec : exec (.walkComplete id) s = execWalkComplete id s := rfl
  have hturn : ¬(!s.hasTurn w.home 64 w.part) = true := by rw [ht]; exact Bool.false_ne_true
  rw [hexec, execWalkComplete, hw']
  exact congrArg Host.Outcome.next ((if_neg hturn).trans (if_pos hg))

end

/-! ### Fills -/

theorem State.tlb_onTlb (s : State) (n : Nat) (f : Tlb → Tlb) : (s.onTlb n f).tlb n = f (s.tlb n) := by
  rw [State.onTlb, State.tlb, State.tlb]
  split
  · rw [State.tile_onTile]
  · split
    · rw [State.die_onDie, vget_vset]
    · rw [State.die_onDie]

theorem stale_of_lt {t : Tlb} {f : Fill} {g : Nat} (hg : Assoc.find t.gens (f.home * 16 + f.part) = some g) (hf : f.gen < 2 ^ 31) (hg' : g < 2 ^ 31)
    (hlt : f.gen < g) : t.stale f = true := by
  have h : t.latest f.home f.part = some g := hg
  rw [Tlb.stale, h]
  exact decide_eq_true (by omega)

theorem not_stale_of_none {t : Tlb} {f : Fill} (hg : Assoc.find t.gens (f.home * 16 + f.part) = none) : t.stale f = false := by
  have h : t.latest f.home f.part = none := hg
  rw [Tlb.stale, h]

/-- A change of a die that keeps a part of every die keeps it of each. -/
theorem State.die_onDie_keep {α : Type} (s : State) (d : Nat) {f : Die → Die} {p : Die → α} (hf : ∀ x, p (f x) = p x) (k : Nat) :
    p ((s.onDie d f).die k) = p (s.die k) := by
  by_cases h : d % 4 = k % 4
  · have hget : ∀ v : Vector Die 4, vget v k = vget v d := fun v => congrArg v.get (Fin.ext h.symm)
    rw [State.die, hget, ← State.die, State.die_onDie, hf, State.die, State.die, hget]
  · exact congrArg p (vget_vset_ne _ _ _ _ h)

theorem State.tlb_onDie (s : State) (d n : Nat) {f : Die → Die} (hf : ∀ x, (f x).fathom = x.fathom ∧ (f x).homeTlb = x.homeTlb) :
    (s.onDie d f).tlb n = s.tlb n := by
  rw [State.tlb, State.tlb, State.die_onDie_keep s d (p := Die.fathom) (fun x => (hf x).1), State.die_onDie_keep s d (p := Die.homeTlb) (fun x => (hf x).2)]
  rfl

/-- What an asker's waiting no longer changes of a TLB: its answers alone. -/
theorem State.tlb_unask (s : State) (asker n : Nat) (which : Word → Bool) :
    ((s.unask asker n which).tlb n).entries = (s.tlb n).entries ∧ ((s.unask asker n which).tlb n).gens = (s.tlb n).gens := by
  have hstep : ∀ (l : List Nat) (u : State),
      (l.foldl (fun s d => if (s.die d).walks.isEmpty then s else s.onDie d (fun x => { x with walks := x.walks.map (fun w =>
        if w.by_ == asker && w.tlb == n && which w.va then { w with by_ := 0 } else w) })) u).tlb n = u.tlb n := by
    intro l
    induction l with
    | nil => exact fun _ => rfl
    | cons d l ih =>
      intro u
      rw [List.foldl_cons, ih]
      split
      · rfl
      · exact State.tlb_onDie _ _ _ fun _ => ⟨rfl, rfl⟩
  rw [State.unask, hstep, State.tlb_onTlb]
  exact ⟨rfl, rfl⟩

theorem Tlb.length_install (t : Tlb) (room : Nat) (e : TlbEntry) :
    ((t.install room e).entries.filter (fun x => x.part = e.part ∧ x.ctx = e.ctx)).length ≤ room := by
  have hnone : (t.entries.filter (fun x => !(x.part == e.part && x.ctx == e.ctx))).filter (fun x => x.part = e.part ∧ x.ctx = e.ctx) = [] :=
    List.filter_eq_nil_iff.mpr fun x hx => by
      have h := (List.mem_filter.mp hx).2
      simp only [Bool.not_eq_true', Bool.and_eq_false_iff, beq_eq_false_iff_ne] at h
      simp only [decide_eq_true_eq, not_and_or]
      exact h
  rw [Tlb.install, List.filter_append, hnone, List.append_nil]
  exact (List.length_filter_le ..).trans (List.length_take_le ..)

theorem Tlb.head_install (t : Tlb) {room : Nat} (hroom : 0 < room) (e : TlbEntry) : (t.install room e).entries.head? = some e := by
  obtain ⟨n, rfl⟩ := Nat.exists_eq_succ_of_ne_zero (Nat.pos_iff_ne_zero.mp hroom)
  rfl

theorem Tlb.mem_install_of_part_ne {t : Tlb} (room : Nat) {e x : TlbEntry} (hx : x ∈ t.entries) (hne : x.part ≠ e.part) :
    x ∈ (t.install room e).entries := by
  refine List.mem_append_right _ (List.mem_filter.mpr ⟨hx, ?_⟩)
  simp only [beq_eq_false_iff_ne.mpr hne, Bool.false_and, Bool.not_false]

theorem tlbRoom_pos (n : Nat) : 0 < tlbRoom n := by
  rw [tlbRoom]; split
  · decide
  · split <;> decide

theorem tlbFill_of_none {s : State} {n : Nat} {f : Fill} (hg : Assoc.find (s.tlb n).gens (f.home * 16 + f.part) = none) (h0 : f.w0 ≠ 0) :
    exec (.tlbFill n f) s = .next ((s.onTlb n (fun t => t.install (tlbRoom n) (fillEntry f))).unask f.by_ n (fillEntry f).covers) :=
  congrArg Host.Outcome.next ((if_neg (Bool.eq_false_iff.mp (not_stale_of_none hg))).trans (if_neg h0))

theorem tlbFill_of_noEntry {s : State} {n : Nat} {f : Fill} (hg : Assoc.find (s.tlb n).gens (f.home * 16 + f.part) = none) (h0 : f.w0 = 0) :
    exec (.tlbFill n f) s =
      .next (if f.by_ = 0 then s else s.onTlb n (fun t => { t with answers := t.answers ++ [(f.part, f.w1, f.by_)] })) :=
  congrArg Host.Outcome.next ((if_neg (Bool.eq_false_iff.mp (not_stale_of_none hg))).trans (if_pos h0))

/-! ### Invalidations -/

theorem matches_iff (e : TlbEntry) (inv : Invalidation) :
    (e.matches inv.part inv.va inv.how && (inv.gen.isNone || e.home == inv.home)) = true ↔ Concerns e inv := by
  have hsize : (bits e.w0 3 2 == bits inv.how 7 6) = decide (e.w0.toNat / 4 % 4 = inv.how.toNat / 64 % 4) := by
    rw [bits_pair e.w0 2, bits_pair inv.how 6]; rfl
  have hhome : (inv.gen.isNone || e.home == inv.home) = true ↔ (inv.gen ≠ none → e.home = inv.home) := by
    cases inv.gen <;> simp
  rw [Bool.and_eq_true, hhome, TlbEntry.matches, hsize, testW_eq, testW_eq, Concerns]
  simp only [Bool.and_eq_true, Bool.or_eq_true, beq_iff_eq, decide_eq_true_eq, and_assoc]
  tauto

theorem mem_invalidated (t : Tlb) (inv : Invalidation) (e : TlbEntry) :
    e ∈ (t.invalidated inv).entries ↔ e ∈ t.entries ∧ ¬Concerns e inv := by
  have hmem : e ∈ t.entries → (e ∈ t.dropped inv ↔ Concerns e inv) := fun he => by
    rw [Tlb.dropped, List.mem_filter, matches_iff]; exact and_iff_right he
  rw [Tlb.invalidated, List.mem_filter, Bool.not_eq_true', ← Bool.not_eq_true, List.contains_iff_mem]
  exact and_congr_right fun he => not_congr (hmem he)

section
variable {s : State} {n : Nat} {inv : Invalidation} (hwaits : inv.waits = none) (hpend : s.pendingWith n ((s.tlb n).dropped inv) = [])
  (hslot : inv.slot < noSlot)
include hwaits hpend hslot

theorem tlbInvalidation_of_idle :
    exec (.tlbInvalidation n inv) s = .next ((s.onTlb n (fun t => t.invalidated inv)).strike inv.slot inv.serial (n + 1024 * inv.home)) := by
  have hleft : (inv.waits.getD (s.pendingWith n ((s.tlb n).dropped inv))).filter s.stillPending = [] := by rw [hwaits, hpend]; rfl
  have hexec : exec (.tlbInvalidation n inv) s = execTlbInvalidation n inv s := rfl
  rw [hexec, execTlbInvalidation, hleft, hwaits]
  exact congrArg Host.Outcome.next (if_pos hslot)

end

/-- What striking an acknowledgement off does to the wait of its slot. -/
theorem strike_of_waiting {s : State} {g serial m : Nat} {left : List Nat} (hw : (s.slot g).wait = some (.tlb left))
    (hs : (s.slot g).waitSerial = serial) (hr : (s.slot g).resume = none) :
    s.strike g serial m = (s.setSlot g { s.slot g with wait := some (.tlb (left.erase m)) }).post (.waitComplete g) := by
  refine (if_neg (by simp [hs])).trans ?_
  rw [State.onSlot, hw, hr]
  refine congrArg (fun t => (s.setSlot g t).post (.waitComplete g)) ?_
  change ({ s.slot g with wait := some (.tlb (left.erase m)), resume := none } : Slot) = _
  rw [← hr]

/-- Settles O46: a walk by the GEN of its home, a fill by what the TLB has heard, an invalidation by what it concerns. -/
theorem translationEvents : Obligations.TranslationEvents := by
  refine fun s => ⟨fun id w hw hhome ht => ⟨fun hg => ?_, fun hg => ?_⟩, fun n f hn => ⟨fun g hfind hf hg hlt => ?_, fun hfind h0 => ?_,
    fun hfind h0 => ⟨fun hby => ?_, fun hby => ?_⟩⟩, fun n inv left hn hwaits hpend hslot hwait hserial hres => ?_⟩
  · obtain ⟨u, hu, hexec⟩ := walkComplete_of_current hw ht hg
    refine ⟨_, hexec, hu.mem, hu.slots, ?_, ?_⟩
    · intro x hx
      have hx' : x ∈ (u.die w.home).walks := hx
      rw [hu.walks, State.walkTaken, State.die_onDie] at hx'
      exact bne_iff_ne.mp (List.mem_filter.mp hx').2
    · refine congrArg₂ (· ++ ·) hu.agenda ?_
      cases (s.walk w.part w.va).1 <;> rfl
  · refine ⟨_, walkComplete_of_stale hw ht hg, rfl, fun x hx hid => ?_⟩
    have hx' : x ∈ (s.die w.home).walks.map (fun x => if x.id == id then { x with gen := s.gen w.home w.part } else x) := by
      have h := State.die_onDie s w.home (fun d => { d with walks := d.walks.map (fun x =>
        if x.id == id then { x with gen := s.gen w.home w.part } else x) })
      exact (congrArg (x ∈ Die.walks ·) h).mp hx
    obtain ⟨y, -, rfl⟩ := List.mem_map.mp hx'
    by_cases hy : (y.id == id) = true
    · rw [if_pos hy]
    · rw [if_neg hy] at hid; exact absurd (beq_iff_eq.mpr hid) hy
  · exact congrArg Host.Outcome.next (if_pos (stale_of_lt hfind hf hg hlt))
  · obtain ⟨hentries, hgens⟩ := State.tlb_unask (s.onTlb n (fun t => t.install (tlbRoom n) (fillEntry f))) f.by_ n (fillEntry f).covers
    have hframe : SameButTilesDies s ((s.onTlb n (fun t => t.install (tlbRoom n) (fillEntry f))).unask f.by_ n (fillEntry f).covers) :=
      (State.onTlb_sameButTilesDies ..).trans (State.unask_sameButTilesDies ..)
    rw [State.tlb_onTlb] at hentries hgens
    refine ⟨_, tlbFill_of_none hfind h0, hframe, hgens, ?_, ?_, ?_⟩
    · rw [hentries]; exact Tlb.head_install _ (tlbRoom_pos n) _
    · intro e he hne
      rw [hentries]; exact Tlb.mem_install_of_part_ne _ he hne
    · rw [hentries]; exact Tlb.length_install _ _ (fillEntry f)
  · exact (tlbFill_of_noEntry hfind h0).trans (congrArg Host.Outcome.next (if_pos hby))
  · refine ⟨_, (tlbFill_of_noEntry hfind h0).trans (congrArg Host.Outcome.next (if_neg hby)), ?_, ?_⟩
    · rw [State.tlb_onTlb]
    · rw [State.tlb_onTlb]
  · have hslots : (s.onTlb n (fun t => t.invalidated inv)).slots = s.slots ∧ (s.onTlb n (fun t => t.invalidated inv)).mem = s.mem ∧
        (s.onTlb n (fun t => t.invalidated inv)).agenda = s.agenda := by
      rw [State.onTlb_sameButTilesDies]; exact ⟨rfl, rfl, rfl⟩
    obtain ⟨hs, hmem, hagenda⟩ := hslots
    have hg : (s.onTlb n (fun t => t.invalidated inv)).slot inv.slot = s.slot inv.slot := by rw [State.slot, hs]; rfl
    have hexec := tlbInvalidation_of_idle hwaits hpend hslot
    rw [strike_of_waiting (by rw [hg]; exact hwait) (by rw [hg]; exact hserial) (by rw [hg]; exact hres), hg] at hexec
    have htlb : (s.onTlb n (fun t => t.invalidated inv)).tlb n = (s.tlb n).invalidated inv := State.tlb_onTlb ..
    refine ⟨_, hexec, hmem, fun e => ?_, fun g hgen => ?_, State.slot_setSlot .., congrArg (· ++ [Instr.waitComplete inv.slot]) hagenda⟩
    · exact (iff_of_eq (congrArg (e ∈ Tlb.entries ·) htlb)).trans (mem_invalidated _ _ _)
    · refine (congrArg (fun t : Tlb => Assoc.find t.gens (inv.home * 16 + inv.part)) htlb).trans ?_
      rw [Tlb.invalidated, hgen]
      exact (Assoc.find_set ..).trans (if_pos rfl)

end Sys2Proof.Machine

namespace Sys2Proof.Machine

open Sys2Proof.Claims

set_option Elab.async false

/-! ## Reset and bring-up (spec/18 R379 to R381, R385, R386) -/

theorem State.die_onDie_ne (s : State) {j d : Nat} (hj : j < 4) (hd : d < 4) (h : j ≠ d) (f : Die → Die) : (s.onDie j f).die d = s.die d :=
  vget_vset_ne _ _ _ _ (by rw [Nat.mod_eq_of_lt hj, Nat.mod_eq_of_lt hd]; exact h)

theorem die_foldl_of_not_mem (f : Nat → Die → Die) {d : Nat} (hd : d < 4) (l : List Nat) : ∀ s : State, (∀ j ∈ l, j < 4) → d ∉ l →
    (l.foldl (fun s d => s.onDie d (f d)) s).die d = s.die d := by
  induction l with
  | nil => exact fun _ _ _ => rfl
  | cons j l ih =>
    intro s hl hn
    rw [List.foldl_cons, ih _ (fun k hk => hl k (List.mem_cons_of_mem _ hk)) (fun h => hn (List.mem_cons_of_mem _ h)),
      State.die_onDie_ne s (hl j List.mem_cons_self) hd (fun h => hn (h ▸ List.mem_cons_self))]

theorem die_foldl_of_mem (f : Nat → Die → Die) {d : Nat} (hd : d < 4) (l : List Nat) : ∀ s : State, (∀ j ∈ l, j < 4) → l.Nodup → d ∈ l →
    (l.foldl (fun s d => s.onDie d (f d)) s).die d = f d (s.die d) := by
  induction l with
  | nil => exact fun _ _ _ h => absurd h List.not_mem_nil
  | cons j l ih =>
    intro s hl hnd hm
    have hl' : ∀ k ∈ l, k < 4 := fun k hk => hl k (List.mem_cons_of_mem _ hk)
    obtain ⟨hj, hnd'⟩ := List.nodup_cons.mp hnd
    rw [List.foldl_cons]
    by_cases h : j = d
    · subst h
      rw [die_foldl_of_not_mem f hd l _ hl' hj, State.die_onDie]
    · rw [ih _ hl' hnd' ((List.mem_cons.mp hm).resolve_left (Ne.symm h)), State.die_onDie_ne s (hl j List.mem_cons_self) hd h]

theorem mem_dies {d : Nat} (hd : d < 4) : d ∈ [0, 1, 2, 3] := by revert d; decide

/-- The four dies changed one after another. -/
theorem die_foldl_dies (f : Nat → Die → Die) (s : State) {d : Nat} (hd : d < 4) :
    ([0, 1, 2, 3].foldl (fun s d => s.onDie d (f d)) s).die d = f d (s.die d) :=
  die_foldl_of_mem f hd _ s (by decide) (by decide) (mem_dies hd)

theorem dieOk_ne_zero {s : State} {d : Nat} (hd : d < 4) (hg : (s.die d).good = true) : s.dieOk ≠ 0 := by
  have hmem : bit (s.die d).good * 2 ^ d ∈ [0, 1, 2, 3].map (fun d => bit (s.die d).good * 2 ^ d) :=
    List.mem_map.mpr ⟨d, mem_dies hd, rfl⟩
  rw [hg] at hmem
  intro h0
  have hle := List.le_sum_of_mem hmem
  have hpos : 0 < bit true * 2 ^ d := Nat.mul_pos Nat.one_pos (Nat.two_pow_pos d)
  have hsum : ([0, 1, 2, 3].map (fun d => bit (s.die d).good * 2 ^ d)).sum = 0 := h0
  omega

theorem good_keepGood (s : State) (m : BitVec 4) {d : Nat} (hd : d < 4) :
    ((s.keepGood m).die d).good = ((s.die d).good && m.getLsbD d) := by
  rw [State.keepGood, die_foldl_dies (fun d q => { q with good := q.good && testN m.toNat d }) s hd, testN_toNat]

theorem enter_of_good {s : State} {m : ModuleState} {d : Nat} (hd : d < 4) (hg : (s.die d).good = true) :
    s.enter m = { s with mgmt := { s.mgmt with state := m } } := by
  rw [State.enter, if_pos (.inr (.inr (dieOk_ne_zero hd hg)))]

/-- A test of some die leaves one bit set. -/
theorem exists_getLsbD_of_ne_zero {m : BitVec 4} (h : m ≠ 0) : ∃ d, d < 4 ∧ m.getLsbD d = true := by
  by_contra hn
  refine h (BitVec.eq_of_getLsbD_eq fun i hi => ?_)
  exact (Bool.eq_false_iff.mpr fun ht => hn ⟨i, hi, ht⟩).trans BitVec.getLsbD_zero.symm

theorem keepGood_frame (s : State) (m : BitVec 4) : s.keepGood m = { s with dies := (s.keepGood m).dies } := rfl

section
variable {s : State} {m : BitVec 4}

theorem selftestDone_of_good (hm : m ≠ 0) (hs : s.mgmt.state = .selftest) :
    ∃ t, Gives (.selftestDone m) s t ∧ t.mgmt = { s.mgmt with state := .draminit } ∧ ∀ d, d < 4 → (t.die d).good = m.getLsbD d := by
  have hgood : ∀ d, d < 4 → ((([0, 1, 2, 3].foldl (fun (s : State) d => s.onDie d (fun q => { q with good := true })) s).keepGood m).die d).good =
      m.getLsbD d := fun d hd => by
    rw [good_keepGood _ _ hd, die_foldl_dies (fun _ q => { q with good := true }) s hd, Bool.true_and]
  obtain ⟨d, hd, hbit⟩ := exists_getLsbD_of_ne_zero hm
  refine ⟨_, congrArg Host.Outcome.next ((if_pos hs).trans (enter_of_good hd ((hgood d hd).trans hbit))), rfl, hgood⟩

theorem selftestDone_of_none (hs : s.mgmt.state = .selftest) : ∃ t, Gives (.selftestDone 0) s t ∧ t.mgmt.state = .failed := by
  refine ⟨_, congrArg Host.Outcome.next (if_pos hs), ?_⟩
  have hok : (([0, 1, 2, 3].foldl (fun (s : State) d => s.onDie d (fun q => { q with good := true })) s).keepGood 0).dieOk = 0 := by
    have h : ∀ d ∈ [0, 1, 2, 3], ((([0, 1, 2, 3].foldl (fun (s : State) d => s.onDie d (fun q => { q with good := true })) s).keepGood 0).die d).good = false :=
      fun d hd => by
        have hd4 : d < 4 := by revert hd; revert d; decide
        exact (good_keepGood _ _ hd4).trans (by rw [show BitVec.getLsbD (0 : BitVec 4) d = false from BitVec.getLsbD_zero, Bool.and_false])
    rw [State.dieOk, List.map_congr_left fun d hd => by rw [h d hd]]; rfl
  rw [State.enter, hok]; rfl

theorem draminitDone_of_good {d : Nat} (hd : d < 4) (hm : m.getLsbD d = true) (hg : (s.die d).good = true) (hs : s.mgmt.state = .draminit) :
    ∃ t, Gives (.draminitDone m) s t ∧ t.mgmt = { s.mgmt with state := .identity } ∧ t.mem = [] ∧ t.poison = [] ∧
      ∀ k, k < 4 → (t.die k).good = ((s.die k).good && m.getLsbD k) := by
  have hgood : ∀ k, k < 4 → ((State.keepGood { s with mem := [], poison := [], keyTag := [] } m).die k).good = ((s.die k).good && m.getLsbD k) :=
    fun k hk => good_keepGood _ m hk
  exact ⟨_, congrArg Host.Outcome.next ((if_pos hs).trans (enter_of_good hd (by rw [hgood d hd, hm, hg]; rfl))), rfl, rfl, rfl, hgood⟩

end

/-- A die that is not good is lost, and the loss is logged. -/
def State.dieNotGood (s : State) (d : Nat) : State :=
  (s.onDie d (fun q => { q with lostAt := some s.now })).logError (s.errorRecord 5 0 d 0xFF 0 0 (toBytes 8 s.now.toNat)) s.lastDie

/-- A change that leaves the dies' health, memory and the state of reset. -/
structure KeepsGood (s t : State) : Prop where
  good : ∀ d, (t.die d).good = (s.die d).good
  mem : t.mem = s.mem
  state : t.mgmt.state = s.mgmt.state

theorem countDie_good (s : State) (d i k : Nat) : ((s.countDie d i).die k).good = (s.die k).good :=
  State.die_onDie_keep s d (f := fun t => { t with counters := vset t.counters i (satInc (vget t.counters i) 1) }) (p := Die.good) (fun _ => rfl) k

theorem State.dieNotGood_keepsGood (s : State) (d : Nat) : KeepsGood s (s.dieNotGood d) := by
  have hdie : ∀ k, ((s.onDie d (fun q => { q with lostAt := some s.now })).die k).good = (s.die k).good :=
    State.die_onDie_keep s d (p := Die.good) (fun _ => rfl)
  rw [State.dieNotGood, State.logError]
  split
  · exact ⟨hdie, rfl, rfl⟩
  · exact ⟨fun k => (countDie_good _ _ _ k).trans (hdie k), rfl, rfl⟩

theorem foldl_keepsGood (l : List Nat) : ∀ s : State, KeepsGood s (l.foldl State.dieNotGood s) := by
  induction l with
  | nil => exact fun _ => ⟨fun _ => rfl, rfl, rfl⟩
  | cons d l ih =>
    intro s
    have h := ih (s.dieNotGood d)
    have h1 := s.dieNotGood_keepsGood d
    exact ⟨fun k => (h.good k).trans (h1.good k), h.mem.trans h1.mem, h.state.trans h1.state⟩

/-- Every port trained. -/
theorem trained_map (v : Vector Port 16) (p : Nat) : (vget (v.map (fun q : Port => { q with trained := true })) p).trained = true := by
  simp only [vget, Vector.get_eq_getElem, Vector.getElem_map]

/-- The management state once measurements are taken, before the keys are derived. -/
def State.measured (s : State) : Mgmt :=
  { s.mgmt with
    state := .links
    measurements := vset (vset (Vector.replicate 6 (zeros 64)) 1 (Config.sha512 Config.romImage)) 2
      (Config.sha512 (Config.fuses ++ [BitVec.ofNat 8 s.dieOk])) }

/-- Measurement 1 is that of the ROM, whatever measurement 2 is. -/
theorem State.measured_rom (s : State) : vget s.measured.measurements 1 = Config.sha512 Config.romImage :=
  (vget_vset_ne _ _ _ _ (by decide)).trans (vget_vset _ _ _)

theorem identify_frame (m : Mgmt) : m.identify.measurements = m.measurements ∧ m.identify.state = m.state := ⟨rfl, rfl⟩

/-- The keys and certificates that IDENTITY_DONE derives, from whatever was measured. -/
theorem identify_keys (m : Mgmt) :
    m.identify.identityKey = Config.deriveKey 0 Config.deviceSecret ∧ m.identify.agreementKey = Config.deriveKey 1 Config.deviceSecret ∧
      m.identify.aliasKey = Config.deriveKey 2 (m.identify.identityKey ++ vget m.identify.measurements 1) ∧
      m.identify.agreementCert = Config.certify m.identify.identityKey m.identify.agreementKey [] ∧
      m.identify.chain = Config.certificates ++ Config.certify m.identify.identityKey m.identify.aliasKey (vget m.identify.measurements 1) :=
  ⟨rfl, rfl, rfl, rfl, rfl⟩

def State.withLinks (s : State) (ports : Vector Port 16) (mgmt : Mgmt) : State := { s with ports := ports, mgmt := mgmt }

theorem State.dies_withLinks (s : State) (ports : Vector Port 16) (mgmt : Mgmt) : (s.withLinks ports mgmt).dies = s.dies := rfl
theorem State.mem_withLinks (s : State) (ports : Vector Port 16) (mgmt : Mgmt) : (s.withLinks ports mgmt).mem = s.mem := rfl

theorem state_withReserved (m : Mgmt) (w : Word) : ({ m with dramrsv := w } : Mgmt).state = m.state := rfl

/-- What LINKS_DONE does at the end: every port is trained, and the DRAM set aside is noted. -/
def State.linked (s : State) : State :=
  s.withLinks (s.ports.map (fun p => { p with trained := true })) { s.mgmt with dramrsv := s.dramRsv }

theorem State.linked_trained (s : State) (p : Nat) : (s.linked.port p).trained = true := trained_map s.ports p

theorem State.linked_keepsGood (s : State) : KeepsGood s s.linked :=
  ⟨fun d => congrArg (fun v : Vector Die 4 => (vget v d).good) (State.dies_withLinks s _ _), State.mem_withLinks s _ _,
    state_withReserved s.mgmt s.dramRsv⟩

theorem linksDone_of_good {s : State} {m : BitVec 4} {d : Nat} (hd : d < 4) (hm : m.getLsbD d = true) (hg : (s.die d).good = true)
    (hs : s.mgmt.state = .links) : ∃ t, Gives (.linksDone m) s t ∧ t.mgmt.state = .ready ∧ t.mem = s.mem ∧
      (∀ p, p < 16 → (t.port p).trained = true) ∧ ∀ k, k < 4 → (t.die k).good = ((s.die k).good && m.getLsbD k) := by
  have hgood : ∀ k, k < 4 → ((s.keepGood m).die k).good = ((s.die k).good && m.getLsbD k) := fun k hk => good_keepGood s m hk
  have henter := enter_of_good (m := .ready) hd (show ((s.keepGood m).die d).good = true by rw [hgood d hd, hm, hg]; rfl)
  have hready : ((s.keepGood m).enter .ready).mgmt.state = .ready := by rw [henter]
  have hkeep := foldl_keepsGood ([0, 1, 2, 3].filter (fun d => !(((s.keepGood m).enter .ready).die d).good)) ((s.keepGood m).enter .ready)
  generalize hu : ([0, 1, 2, 3].filter (fun d => !(((s.keepGood m).enter .ready).die d).good)).foldl State.dieNotGood ((s.keepGood m).enter .ready) = u
    at hkeep
  have hlinked := u.linked_keepsGood
  have hexec : exec (.linksDone m) s = .next u.linked := by
    rw [← hu]
    exact congrArg Host.Outcome.next ((if_pos hs).trans (if_neg (by rw [hready]; exact ModuleState.noConfusion)))
  refine ⟨u.linked, hexec, ?_, ?_, fun p _ => u.linked_trained p, fun k hk => ?_⟩
  · exact hlinked.state.trans (hkeep.state.trans hready)
  · exact hlinked.mem.trans (hkeep.mem.trans (by rw [henter]; rfl))
  · exact (hlinked.good k).trans ((hkeep.good k).trans (by rw [henter]; exact hgood k hk))

/-- Settles O50: each event of bring-up by the state that it finds and a die that is good. -/
theorem bringUp : Obligations.BringUp := by
  intro s
  refine ⟨⟨s.restart, rfl, rfl, rfl, rfl, rfl, rfl, rfl, rfl, rfl, rfl, rfl, rfl, rfl⟩, fun hs => ?_, fun m hm hs => selftestDone_of_good hm hs,
    fun hs => selftestDone_of_none hs,
    fun m d hd hm hg => ⟨fun hs => draminitDone_of_good hd hm hg hs, fun hs => linksDone_of_good hd hm hg hs⟩, fun hs => ?_, fun msg => rfl⟩
  · exact congrArg Host.Outcome.next ((if_pos hs).trans (congrArg (fun x => { s with mgmt := { s.mgmt with state := x } }) (if_pos (.inr (.inl rfl)))))
  · obtain ⟨hmeas, hstate⟩ := identify_frame s.measured
    refine ⟨{ s with mgmt := s.measured.identify }, congrArg Host.Outcome.next (if_pos hs), rfl, hstate, ?_, identify_keys s.measured⟩
    exact (congrArg (vget · 1) hmeas).trans s.measured_rom

end Sys2Proof.Machine

namespace Sys2Proof.Machine

open Sys2Proof.Claims

set_option Elab.async false

/-! ## Number formats (spec/03 R61, R63, R65, R77) -/

/-- A value that is not on the grid goes to one of its neighbours. -/
theorem roundTo_of_rest {num sh : Nat} (hsh : 0 < sh) (hr : num % 2 ^ sh ≠ 0) (rc u : Nat) (exp : Int) (neg : Bool) :
    roundTo rc u neg num exp false (exp + sh) = (roundUnits rc u neg (num / 2 ^ sh) (num % 2 ^ sh) sh false, false) := by
  rw [roundTo, if_neg (by omega), show (exp + sh - exp).toNat = sh by omega]
  refine if_neg ?_
  rw [Bool.and_eq_true, beq_iff_eq]
  exact fun h => hr h.1

theorem roundTo_of_exact {num sh : Nat} (hsh : 0 < sh) (hr : num % 2 ^ sh = 0) (rc u : Nat) (exp : Int) (neg : Bool) :
    roundTo rc u neg num exp false (exp + sh) = (num / 2 ^ sh, true) := by
  rw [roundTo, if_neg (by omega), show (exp + sh - exp).toNat = sh by omega]
  exact if_pos (by rw [hr]; rfl)

section
variable (u q r sh : Nat) (neg : Bool)

/-- Round to nearest: the tie alone looks at the parity. -/
theorem roundUnits_nearest : roundUnits 0 u neg q r sh false = if 2 ^ sh < 2 * r then q + 1 else if 2 * r = 2 ^ sh then q + q % 2 else q := by
  simp only [roundUnits, gt_iff_lt, Bool.and_false, Bool.or_false, decide_eq_true_eq, beq_iff_eq]

theorem roundUnits_nearest_of_tie (h : 2 * r = 2 ^ sh) :
    roundUnits 0 u neg q r sh false % 2 = 0 ∧ (roundUnits 0 u neg q r sh false = q ∨ roundUnits 0 u neg q r sh false = q + 1) := by
  rw [roundUnits_nearest, if_neg (by omega), if_pos h]
  omega

theorem roundUnits_stochastic_neg : roundUnits 4 u true q r sh false = if u < (2 ^ sh - r) * 2 ^ 32 / 2 ^ sh then q else q + 1 := by
  rw [roundUnits, if_pos rfl, bit, if_neg Bool.false_ne_true, Nat.sub_zero] <;> exact fun h => by cases h

theorem roundUnits_stochastic_pos : roundUnits 4 u false q r sh false = if u < r * 2 ^ 32 / 2 ^ sh then q + 1 else q := by
  rw [roundUnits, if_neg Bool.false_ne_true] <;> exact fun h => by cases h

end

theorem sixteenths_int (v : Int) : sixteenths (.fin (decide (v < 0)) v.natAbs 0 false) = some (16 * v) := by
  rw [sixteenths, if_pos (by decide), show ((0 : Int) + 4).toNat = 4 from rfl]
  congr 1
  by_cases h : v < 0 <;> simp only [h, decide_true, decide_false, if_true, Bool.false_eq_true, if_false] <;> omega

theorem sextN_toNat (c : BitVec 8) : sextN c.toNat 8 = c.toInt := by
  rw [sextN, testN_toNat, Nat.mod_eq_of_lt c.isLt, BitVec.toInt_eq_msb_cond, BitVec.msb_eq_getLsbD_last]

theorem decodeNum_int (signed : Bool) (c : BitVec 8) : sixteenths (decodeNum 5 signed [] c.toNat) = some (16 * if signed then c.toInt else c.toNat) := by
  have hdecode : decodeNum 5 signed [] c.toNat = .fin (decide ((if signed then c.toInt else c.toNat) < 0)) (if signed then c.toInt else c.toNat).natAbs 0 false := by
    have hmod : (if signed then c.toInt else (c.toNat : Int)) = if signed then sextN c.toNat 8 else (c.toNat % 2 ^ 8 : Nat) := by
      rw [sextN_toNat, Nat.mod_eq_of_lt c.isLt]
    rw [hmod]
    rfl
  rw [hdecode, sixteenths_int]

/-- Settles O57: the tables by evaluation, the rounding by the neighbour that each code takes. -/
theorem numberFormats : Obligations.NumberFormats := by
  refine ⟨by decide, by decide, by decide, decodeNum_int, fun x neg q e hx => ?_, fun v => rfl, fun codebook c hc => ?_, fun u num sh exp neg hsh => ?_⟩
  · rw [scaleE8M0, if_neg (by omega)]
    exact congrArg (fun k => Num.fin neg q k false) (by simp only [Bool.false_eq_true, if_false]; omega)
  · exact congrArg (fun k => decodeNum 13 false [] (codebook.getD k 0)) (Nat.mod_eq_of_lt hc)
  · refine ⟨fun hr rc => roundTo_of_exact hsh hr rc u exp neg, fun hr => ?_⟩
    have hround := fun rc neg => roundTo_of_rest hsh hr rc u exp neg
    refine ⟨hround 1 neg, hround 2 neg, hround 3 neg, fun h => ?_, fun h => ?_, fun h => ?_, (hround 4 false).trans (congrArg (·, false) (roundUnits_stochastic_pos _ _ _ _)),
      (hround 4 true).trans (congrArg (·, false) (roundUnits_stochastic_neg _ _ _ _))⟩
    · rw [hround, roundUnits_nearest, if_neg (by omega), if_neg (by omega)]
    · rw [hround, roundUnits_nearest, if_pos h]
    · rw [hround]; exact roundUnits_nearest_of_tie u _ _ sh neg h

end Sys2Proof.Machine

namespace Sys2Proof.Machine

open Sys2Proof.Claims

set_option Elab.async false

/-! ## Signed blobs (spec/18 R382 to R384; spec/17 R358) -/

/-- From one state to another the management state and what has left the module stay. -/
structure KeepsMgmt (s u : State) : Prop where
  mgmt : u.mgmt = s.mgmt
  egress : u.egress = s.egress

theorem KeepsMgmt.refl (s : State) : KeepsMgmt s s := ⟨rfl, rfl⟩
theorem KeepsMgmt.trans {s t u : State} (h : KeepsMgmt s t) (h' : KeepsMgmt t u) : KeepsMgmt s u :=
  ⟨h'.mgmt.trans h.mgmt, h'.egress.trans h.egress⟩

theorem KeepsMgmt.foldl {α : Type} {f : State → α → State} (hf : ∀ s a, KeepsMgmt s (f s a)) (l : List α) (s : State) : KeepsMgmt s (l.foldl f s) :=
  List.foldlRecOn l f (motive := KeepsMgmt s) (.refl s) fun u hu a _ => hu.trans (hf u a)

theorem ite_keepsMgmt {s u : State} (p : Prop) [Decidable p] (h : KeepsMgmt s u) : KeepsMgmt s (if p then u else s) := by
  split
  · exact h
  · exact .refl s

theorem placeShard_keepsMgmt {s u : State} {part nb die : Nat} (h : s.placeShard part nb die = some u) : KeepsMgmt s u := by
  rw [State.placeShard] at h
  by_cases hlost : (s.lostDie die || !(s.die die).good) = true
  · rw [if_pos hlost] at h
    exact Option.some.inj h ▸ .refl s
  · rw [if_neg hlost] at h
    generalize (s.die die).shardPlace (shardBytes nb) = o at h
    cases o with
    | none => cases h
    | some a => exact Option.some.inj h ▸ ⟨rfl, rfl⟩

theorem placeShards_foldl_keepsMgmt (part nb : Nat) (l : List Nat) : ∀ {s u : State},
    l.foldl (fun (o : Option State) d => o.bind (fun s => s.placeShard part nb d)) (some s) = some u → KeepsMgmt s u := by
  induction l with
  | nil => exact fun h => Option.some.inj h ▸ .refl _
  | cons d l ih =>
    intro s u h
    rw [List.foldl_cons, Option.bind_some] at h
    generalize ho : s.placeShard part nb d = o at h
    cases o with
    | none => rw [List.foldl_fixed' (fun _ => rfl)] at h; cases h
    | some v => exact (placeShard_keepsMgmt ho).trans (ih h)

theorem joinTile_keepsMgmt (s : State) (part gt : Nat) : KeepsMgmt s (s.joinTile part gt) := by
  rw [State.joinTile]
  split
  · exact ⟨rfl, rfl⟩
  · exact ⟨rfl, rfl⟩

theorem dropLeaving_keepsMgmt (s : State) : KeepsMgmt s s.dropLeaving :=
  .foldl (fun s gt => by
    generalize (s.tile gt).part = o
    cases o with
    | none => exact .refl s
    | some p => dsimp only; split <;> exact ⟨rfl, rfl⟩) _ s

theorem configure_keepsMgmt {s u : State} {b : Bytes} (h : s.configure b = some u) : KeepsMgmt s u := by
  rw [State.configure] at h
  generalize ho : (if !(s.part (byteAt b 0).toNat).configured || (byteAt b 2).toNat != (s.part (byteAt b 0).toNat).nb then
    s.placeShards (byteAt b 0).toNat (byteAt b 2).toNat else some s) = o at h
  cases o with
  | none => cases h
  | some v =>
    have hv : KeepsMgmt s v := by
      split at ho
      · exact placeShards_foldl_keepsMgmt _ _ _ ho
      · exact Option.some.inj ho ▸ .refl s
    rw [← Option.some.inj h]
    refine hv.trans (.trans ?_ (dropLeaving_keepsMgmt _))
    refine .trans (.trans (.trans ?_ (ite_keepsMgmt _ (.foldl ?_ _ _))) (.foldl ?_ _ _)) (ite_keepsMgmt _ (.foldl ?_ _ _))
    · exact ⟨rfl, rfl⟩
    · exact fun _ _ => ⟨rfl, rfl⟩
    · intro s gt
      split
      · exact .refl s
      · exact joinTile_keepsMgmt s _ gt
    · exact fun _ _ => ⟨rfl, rfl⟩

/-- A change of the management state that leaves the queue of blobs and the numbers of those done, and sends nothing out. -/
structure KeepsQueue (s u : State) : Prop where
  queue : u.mgmt.queue = s.mgmt.queue
  seqs : u.mgmt.seqs = s.mgmt.seqs
  egress : u.egress = s.egress

/-- The state with the queue of blobs shortened to `rest`. -/
def State.withQueue (s : State) (rest : List Bytes) : State := { s with mgmt := { s.mgmt with queue := rest } }
/-- The number of a blob of a TYPE noted. -/
def State.noteSeq (s : State) (type : Nat) (seq : Word) : State := { s with mgmt := { s.mgmt with seqs := vset s.mgmt.seqs type seq } }

def State.withMgmt (s : State) (m : Mgmt) : State := { s with mgmt := m }
/-- What a MODULE blob sets (spec/18 R383). -/
def Mgmt.moduleSet (m : Mgmt) (p : Bytes) : Mgmt :=
  { m with package := bitsN (field p 0 2) 9 0, isMaster := testN (field p 2 1) 0, frame := p.drop 64, lend := [], nextLend := [] }
/-- The DRAM set aside noted (spec/15 R403). -/
def Mgmt.setAside (m : Mgmt) (w : Word) : Mgmt := { m with dramrsv := w }
/-- What a POWER blob sets (spec/18 R383). -/
def Mgmt.limited (m : Mgmt) (w : Nat) : Mgmt := { m with plmax := w, plwork := min m.plwork w }
/-- A port's next key. -/
def State.nextKeyed (s : State) (n : Nat) (k : Bytes) : State := { s with ports := vset s.ports n { vget s.ports n with nextKey := some k } }
/-- A memory key of a partition. -/
def Partition.keyed (q : Partition) (id : Nat) (k : Bytes) : Partition := { q with keys := Assoc.set q.keys id k }

/-- A blob whose signature has verified: what its own checks say of it. -/
def State.admitted (s : State) (type : Nat) (seq : Word) : Option State → Nat × State
  | none => (6, s)
  | some u => (0, u.noteSeq type seq)

theorem exec_blobEvent (b : Bytes) (s : State) : exec (blobEvent b) s = .next (s.takeBlob (blobEvent b)) := by
  rw [blobEvent]
  split <;> rfl

theorem takeBlob_of_head {s : State} {b : Bytes} {rest : List Bytes} (hq : s.mgmt.queue = b :: rest) :
    s.takeBlob (blobEvent b) = ((s.withQueue rest).applyBlob b).2.sprinell ((s.withQueue rest).applyBlob b).1 [] := by
  rw [State.takeBlob, hq]
  exact if_pos rfl

section
variable {s : State} {b : Bytes} {rest : List Bytes}

theorem applyBlob_of_pending (h : Pending s b rest (byteAt b 6).toNat) (hserial : fieldW b 16 8 = 0 ∨ fieldW b 16 8 = Config.moduleSerial)
    (hkey : ¬(fieldW b 16 8 = 0 ∧ (byteAt b 6).toNat = 4)) :
    (s.withQueue rest).applyBlob b = if signed s b = true then (s.withQueue rest).admitted (byteAt b 6).toNat (fieldW b 32 8) ((s.withQueue rest).admitBlob b)
      else (4, s.withQueue rest) := by
  obtain ⟨_, hgood, -, hboot, howner, hseq⟩ := h
  rw [State.applyBlob, if_neg (by rw [hgood]; exact Bool.false_ne_true), if_neg, if_neg (fun h => howner h.1 h.2)]
  · by_cases hs : signed s b = true
    · have hv : Config.verify (s.withQueue rest).blobKey (b.take (64 + field b 8 4)) (b.drop (64 + field b 8 4)) = true := hs
      have hnew : ¬(fieldW b 32 8).toNat ≤ (vget (s.withQueue rest).mgmt.seqs (byteAt b 6).toNat).toNat := Nat.not_le.mpr hseq
      rw [hv, if_neg (by decide), if_neg hnew, if_pos hs]
      generalize (s.withQueue rest).admitBlob b = o
      cases o <;> rfl
    · have hv : Config.verify (s.withQueue rest).blobKey (b.take (64 + field b 8 4)) (b.drop (64 + field b 8 4)) = false := Bool.eq_false_iff.mpr hs
      rw [hv, if_pos (by rfl), if_neg hs]
  · rintro (⟨h0, h1⟩ | ⟨h0, h1⟩ | h)
    · exact hserial.elim h0 h1
    · exact hboot.elim h0 h1
    · exact hkey h

/-- A pending blob that its own checks let through: its effect, if its signature verifies, and its status. -/
theorem blob_handled {u : State} {type : Nat} {ev : Instr} (hev : ev = blobEvent b) (h : Pending s b rest type)
    (hserial : fieldW b 16 8 = 0 ∨ fieldW b 16 8 = Config.moduleSerial) (hkey : ¬(fieldW b 16 8 = 0 ∧ type = 4))
    (hadmit : (s.withQueue rest).admitBlob b = some u) (hu : KeepsQueue (s.withQueue rest) u) :
    ∃ t, Gives ev s t ∧ Handled s t b rest type (if signed s b then 0 else 4) ∧
      t = if signed s b then (u.noteSeq type (fieldW b 32 8)).sprinell 0 [] else (s.withQueue rest).sprinell 4 [] := by
  obtain rfl : (byteAt b 6).toNat = type := h.2.2.1
  have happly := applyBlob_of_pending h hserial hkey
  rw [hadmit] at happly
  subst hev
  refine ⟨_, exec_blobEvent b s, ?_⟩
  rw [takeBlob_of_head h.1, happly]
  by_cases hs : signed s b = true
  · rw [if_pos hs, if_pos hs, if_pos hs]
    exact ⟨⟨hu.queue, congrArg (· ++ _) hu.egress, vget_vset _ _ _⟩, rfl⟩
  · rw [if_neg hs, if_neg hs, if_neg hs]
    exact ⟨⟨rfl, rfl, rfl⟩, rfl⟩

/-- The same for the TYPEs whose blob goes into measurement 4. -/
theorem blob_measured {v : State} {o : Option State} {type : Nat} {ev : Instr} (hev : ev = blobEvent b) (h : Pending s b rest type)
    (hserial : fieldW b 16 8 = 0 ∨ fieldW b 16 8 = Config.moduleSerial) (hkey : type ≠ 4)
    (hadmit : (s.withQueue rest).admitBlob b = o.map (fun s => s.measure 4 b)) (ho : o = some v) (hv : KeepsQueue (s.withQueue rest) v) :
    ∃ t, Gives ev s t ∧ Handled s t b rest type (if signed s b then 0 else 4) ∧
      t = if signed s b then ((v.measure 4 b).noteSeq type (fieldW b 32 8)).sprinell 0 [] else (s.withQueue rest).sprinell 4 [] :=
  blob_handled hev h hserial (fun hk => hkey hk.2) (hadmit.trans (by rw [ho]; rfl)) ⟨hv.queue, hv.seqs, hv.egress⟩

end

section
variable {s : State} {b : Bytes}

/-! What each TYPE's own checks let through. -/

theorem admitBlob_owner (h : (byteAt b 6).toNat = 1) : s.admitBlob b = s.installOwner (blobPayload b) := by rw [State.admitBlob, h]; rfl
theorem admitBlob_module (h : (byteAt b 6).toNat = 2) : s.admitBlob b = (s.installModule (blobPayload b)).map (fun s => s.measure 4 b) := by
  rw [State.admitBlob, h]; rfl
theorem admitBlob_partition (h : (byteAt b 6).toNat = 3) : s.admitBlob b = (s.installPartition (blobPayload b)).map (fun s => s.measure 4 b) := by
  rw [State.admitBlob, h]; rfl
theorem admitBlob_memkey (h : (byteAt b 6).toNat = 4) : s.admitBlob b = (s.installMemkey b (blobPayload b)).map (fun s => s.measure 5 (b.take 64)) := by
  rw [State.admitBlob, h]; rfl
theorem admitBlob_linkkey (h : (byteAt b 6).toNat = 5) : s.admitBlob b = (s.installLinkkey (blobPayload b)).map (fun s => s.measure 4 b) := by
  rw [State.admitBlob, h]; rfl
theorem admitBlob_power (h : (byteAt b 6).toNat = 6) : s.admitBlob b = (s.installPower (blobPayload b)).map (fun s => s.measure 4 b) := by
  rw [State.admitBlob, h]; rfl

theorem installModule_of_fine {p : Bytes} (hparts : ∀ i, i < 16 → (s.part i).configured = false)
    (hframe : ∀ x ∈ p.drop 64, x.toNat ≤ 15 ∨ x.toNat = 255) :
    s.installModule p = some (s.withMgmt (s.mgmt.moduleSet p)) := by
  refine if_neg ?_
  rw [Bool.or_eq_true, List.any_eq_true, List.any_eq_true]
  rintro (⟨i, hi, hc⟩ | ⟨x, hx, hc⟩)
  · rw [hparts i (List.mem_range.mp hi)] at hc
    cases hc
  · have hle := of_decide_eq_true hc
    have h := hframe x hx
    omega

theorem installPartition_of_configure {p : Bytes} {v : State} (hbad : s.partitionBad p = false) (hv : s.configure p = some v) :
    s.installPartition p = some (v.withMgmt (v.mgmt.setAside v.dramRsv)) := by
  rw [State.installPartition, if_neg (by rw [hbad]; exact Bool.false_ne_true), hv]
  rfl

theorem installMemkey_of_fine {p : Bytes} (hpart : (byteAt p 0).toNat < 16) (hid : 1 ≤ (byteAt p 1).toNat) (hid' : (byteAt p 1).toNat ≤ 63) :
    s.installMemkey b p = (Config.unwrapKey s.mgmt.agreementKey (b.take 64 ++ p)).map
      (fun k => s.onPart (byteAt p 0).toNat (fun q => q.keyed (byteAt p 1).toNat k)) :=
  if_neg (by omega)

theorem installLinkkey_of_fine {p : Bytes} (hport : (byteAt p 0).toNat < 16) :
    s.installLinkkey p = some (s.nextKeyed (byteAt p 0).toNat (p.drop 1)) :=
  if_neg (by omega)

theorem installPower_of_fine {p : Bytes} (hlo : 900 ≤ field p 0 2) (hhi : field p 0 2 ≤ 1800) :
    s.installPower p = some (s.withMgmt (s.mgmt.limited (field p 0 2))) :=
  if_neg (by omega)

end

theorem KeepsMgmt.setAside {s v : State} (h : KeepsMgmt s v) (w : Word) : KeepsQueue s (v.withMgmt (v.mgmt.setAside w)) :=
  ⟨show v.mgmt.queue = s.mgmt.queue from congrArg Mgmt.queue h.mgmt, show v.mgmt.seqs = s.mgmt.seqs from congrArg Mgmt.seqs h.mgmt, h.egress⟩

/-- Measuring a blob, noting its number and answering leave partitions, tiles and memory. -/
theorem blobDone_frame (v : State) (m : Mgmt) (b : Bytes) (type : Nat) (seq : Word) :
    ((((v.withMgmt m).measure 4 b).noteSeq type seq).sprinell 0 []).parts = v.parts ∧
    ((((v.withMgmt m).measure 4 b).noteSeq type seq).sprinell 0 []).tiles = v.tiles ∧
    ((((v.withMgmt m).measure 4 b).noteSeq type seq).sprinell 0 []).mem = v.mem := ⟨rfl, rfl, rfl⟩

theorem field_one (p : Bytes) (i : Nat) : field p i 1 = (byteAt p i).toNat := by
  rw [field, byteAt, List.getD_eq_getElem?_getD, ← List.head?_drop]
  cases p.drop i with
  | nil => rfl
  | cons x l => exact (congrArg (x.toNat + ·) (Nat.mul_zero 256)).trans rfl

section
variable {s : State} {b : Bytes} {rest : List Bytes}

theorem ownerBlob_handled (hserial : fieldW b 16 8 = 0 ∨ fieldW b 16 8 = Config.moduleSerial) (h : Pending s b rest 1)
    (h4 : byteAt (blobPayload b) 0 = 4) : ∃ t, Gives .ownerBlob s t ∧ Handled s t b rest 1 (if signed s b then 0 else 4) ∧
      t.mgmt.owner = if signed s b then blobPayload b else s.mgmt.owner := by
  obtain ⟨t, ht, hh, rfl⟩ := blob_handled (ev := .ownerBlob) (by rw [blobEvent, h.2.2.1]; rfl) h hserial (by omega)
    ((admitBlob_owner h.2.2.1).trans (if_pos h4)) ⟨rfl, rfl, rfl⟩
  exact ⟨_, ht, hh, by split <;> rfl⟩

theorem moduleBlob_handled (hserial : fieldW b 16 8 = 0 ∨ fieldW b 16 8 = Config.moduleSerial) (h : Pending s b rest 2)
    (hparts : ∀ i, i < 16 → (s.part i).configured = false) (hframe : ∀ x ∈ (blobPayload b).drop 64, x.toNat ≤ 15 ∨ x.toNat = 255) :
    ∃ t, Gives .moduleBlob s t ∧ Handled s t b rest 2 (if signed s b then 0 else 4) ∧
      (signed s b = true → t.mgmt.package = field (blobPayload b) 0 2 % 1024 ∧ t.mgmt.frame = (blobPayload b).drop 64 ∧
        t.mgmt.isMaster = (byteAt (blobPayload b) 2).getLsbD 0) := by
  obtain ⟨t, ht, hh, rfl⟩ := blob_measured (ev := .moduleBlob) (by rw [blobEvent, h.2.2.1]; rfl) h hserial (by decide)
    (admitBlob_module h.2.2.1) (installModule_of_fine (s := s.withQueue rest) hparts hframe) ⟨rfl, rfl, rfl⟩
  refine ⟨_, ht, hh, fun hs => ?_⟩
  rw [if_pos hs]
  refine ⟨?_, rfl, ?_⟩
  · exact congrArg (· % 1024) (Nat.div_one _)
  · exact (congrArg (testN · 0) (field_one _ 2)).trans (testN_toNat _ _)

theorem partitionBlob_handled {v : State} (hserial : fieldW b 16 8 = 0 ∨ fieldW b 16 8 = Config.moduleSerial) (h : Pending s b rest 3)
    (hbad : s.partitionBad (blobPayload b) = false) (hv : (s.withQueue rest).configure (blobPayload b) = some v) :
    ∃ t, Gives .partitionBlob s t ∧ Handled s t b rest 3 (if signed s b then 0 else 4) ∧ t.parts = (if signed s b then v.parts else s.parts) ∧
      t.tiles = (if signed s b then v.tiles else s.tiles) ∧ t.mem = (if signed s b then v.mem else s.mem) := by
  have hkeep := configure_keepsMgmt hv
  obtain ⟨t, ht, hh, rfl⟩ := blob_measured (ev := .partitionBlob) (by rw [blobEvent, h.2.2.1]; rfl) h hserial (by decide)
    (admitBlob_partition h.2.2.1) (installPartition_of_configure (s := s.withQueue rest) hbad hv)
    (hkeep.setAside v.dramRsv)
  refine ⟨_, ht, hh, ?_⟩
  by_cases hs : signed s b = true
  · rw [if_pos hs, if_pos hs, if_pos hs, if_pos hs]
    exact blobDone_frame v _ b 3 _
  · rw [if_neg hs, if_neg hs, if_neg hs, if_neg hs]
    exact ⟨rfl, rfl, rfl⟩

theorem linkkeyBlob_handled (hserial : fieldW b 16 8 = 0 ∨ fieldW b 16 8 = Config.moduleSerial) (h : Pending s b rest 5)
    (hport : (byteAt (blobPayload b) 0).toNat < 16) :
    ∃ t, Gives .linkkeyBlob s t ∧ Handled s t b rest 5 (if signed s b then 0 else 4) ∧ (vget t.ports (byteAt (blobPayload b) 0).toNat).nextKey =
      if signed s b then some ((blobPayload b).drop 1) else (vget s.ports (byteAt (blobPayload b) 0).toNat).nextKey := by
  obtain ⟨t, ht, hh, rfl⟩ := blob_measured (ev := .linkkeyBlob) (by rw [blobEvent, h.2.2.1]; rfl) h hserial (by decide)
    (admitBlob_linkkey h.2.2.1) (installLinkkey_of_fine (s := s.withQueue rest) hport) ⟨rfl, rfl, rfl⟩
  refine ⟨_, ht, hh, ?_⟩
  by_cases hs : signed s b = true
  · rw [if_pos hs, if_pos hs]
    exact congrArg Port.nextKey (vget_vset _ _ _)
  · rw [if_neg hs, if_neg hs]
    rfl

theorem powerBlob_handled (hserial : fieldW b 16 8 = 0 ∨ fieldW b 16 8 = Config.moduleSerial) (h : Pending s b rest 6)
    (hlo : 900 ≤ field (blobPayload b) 0 2) (hhi : field (blobPayload b) 0 2 ≤ 1800) :
    ∃ t, Gives .powerBlob s t ∧ Handled s t b rest 6 (if signed s b then 0 else 4) ∧
      t.mgmt.plmax = (if signed s b then field (blobPayload b) 0 2 else s.mgmt.plmax) ∧
      t.mgmt.plwork = (if signed s b then min s.mgmt.plwork (field (blobPayload b) 0 2) else s.mgmt.plwork) := by
  obtain ⟨t, ht, hh, rfl⟩ := blob_measured (ev := .powerBlob) (by rw [blobEvent, h.2.2.1]; rfl) h hserial (by decide)
    (admitBlob_power h.2.2.1) (installPower_of_fine (s := s.withQueue rest) hlo hhi) ⟨rfl, rfl, rfl⟩
  refine ⟨_, ht, hh, ?_⟩
  by_cases hs : signed s b = true
  · rw [if_pos hs, if_pos hs, if_pos hs]
    exact ⟨rfl, rfl⟩
  · rw [if_neg hs, if_neg hs, if_neg hs]
    exact ⟨rfl, rfl⟩


theorem memkeyBlob_refused (h : Pending s b rest 4) (hserial : fieldW b 16 8 = 0) :
    Gives .memkeyBlob s ((s.withQueue rest).sprinell 2 []) := by
  have hev : blobEvent b = .memkeyBlob := by rw [blobEvent, h.2.2.1]; rfl
  have happly : (s.withQueue rest).applyBlob b = (2, s.withQueue rest) := by
    rw [State.applyBlob, if_neg (by rw [h.2.1]; exact Bool.false_ne_true)]
    exact if_pos (.inr (.inr ⟨hserial, h.2.2.1⟩))
  have htake := takeBlob_of_head h.1
  rw [hev, happly] at htake
  exact congrArg Host.Outcome.next htake

/-- A pending MEMKEY blob for this module and a key number that exists. -/
theorem memkeyBlob_taken (h : Pending s b rest 4) (hserial : fieldW b 16 8 = Config.moduleSerial) (h0 : Config.moduleSerial ≠ 0)
    (hpart : (byteAt (blobPayload b) 0).toNat < 16) (hid : 1 ≤ (byteAt (blobPayload b) 1).toNat) (hid' : (byteAt (blobPayload b) 1).toNat ≤ 63) :
    exec .memkeyBlob s = .next (
      let key := Config.unwrapKey s.mgmt.agreementKey (b.take 64 ++ blobPayload b)
      let r := if signed s b = true then (s.withQueue rest).admitted 4 (fieldW b 32 8) (key.map (fun k =>
          ((s.withQueue rest).onPart (byteAt (blobPayload b) 0).toNat (fun q => q.keyed (byteAt (blobPayload b) 1).toNat k)).measure 5 (b.take 64)))
        else (4, s.withQueue rest)
      r.2.sprinell r.1 []) := by
  have htype := h.2.2.1
  have hev : blobEvent b = .memkeyBlob := by rw [blobEvent, htype]; rfl
  have happly := applyBlob_of_pending (htype.symm ▸ h) (.inr hserial) (fun hk => h0 (hserial.symm.trans hk.1))
  rw [admitBlob_memkey htype, installMemkey_of_fine hpart hid hid', Option.map_map, htype] at happly
  have htake := takeBlob_of_head h.1
  rw [hev, happly] at htake
  exact congrArg Host.Outcome.next htake

theorem memkeyBlob_handled (h : Pending s b rest 4) (hserial : fieldW b 16 8 = Config.moduleSerial)
    (hpart : (byteAt (blobPayload b) 0).toNat < 16) (hid : 1 ≤ (byteAt (blobPayload b) 1).toNat) (hid' : (byteAt (blobPayload b) 1).toNat ≤ 63) :
    ∃ t, Gives .memkeyBlob s t ∧
      Handled s t b rest 4 (if Config.moduleSerial = 0 then 2 else if signed s b = false then 4
        else if Config.unwrapKey s.mgmt.agreementKey (b.take 64 ++ blobPayload b) = none then 6 else 0) ∧
      (Config.moduleSerial ≠ 0 → signed s b = true → ∀ k, Config.unwrapKey s.mgmt.agreementKey (b.take 64 ++ blobPayload b) = some k →
        Assoc.find (t.part (byteAt (blobPayload b) 0).toNat).keys (byteAt (blobPayload b) 1).toNat = some k) := by
  by_cases h0 : Config.moduleSerial = 0
  · exact ⟨_, memkeyBlob_refused h (hserial.trans h0), by rw [if_pos h0]; exact ⟨rfl, rfl, rfl⟩, fun hn => absurd h0 hn⟩
  · refine ⟨_, memkeyBlob_taken h hserial h0 hpart hid hid', ?_⟩
    rw [if_neg h0]
    generalize Config.unwrapKey s.mgmt.agreementKey (b.take 64 ++ blobPayload b) = key
    cases hs : signed s b with
    | false => exact ⟨⟨rfl, rfl, rfl⟩, fun _ h => absurd h Bool.false_ne_true⟩
    | true =>
      cases key with
      | none => exact ⟨⟨rfl, rfl, rfl⟩, fun _ _ k hk => absurd hk (by rintro ⟨⟩)⟩
      | some k =>
        refine ⟨⟨rfl, rfl, vget_vset _ _ _⟩, fun _ _ k' hk => ?_⟩
        cases hk
        exact (congrArg (fun q : Partition => Assoc.find q.keys _) (vget_vset _ _ _)).trans ((Assoc.find_set _ _ _ _).trans (if_pos rfl))

end

theorem keySwitch_of_loaded {s : State} {n : Nat} {k : Bytes} (hk : (s.port n).nextKey = some k) :
    ∃ t, Gives (.keySwitch n) s t ∧ t = { s with ports := t.ports } ∧ (t.port n).key = k ∧ (t.port n).nextKey = none := by
  have hexec : exec (.keySwitch n) s = .next { s with ports := vset s.ports n { vget s.ports n with key := k, nextKey := none } } := by
    refine congrArg Host.Outcome.next ?_
    rw [show (vget s.ports n).nextKey = some k from hk]
  exact ⟨_, hexec, rfl, congrArg Port.key (vget_vset _ _ _), congrArg Port.nextKey (vget_vset _ _ _)⟩

/-- Settles O51: a blob at the head of the queue by its TYPE, and the failing checks before its own. -/
theorem signedBlobs : Obligations.SignedBlobs := by
  intro s b rest
  refine ⟨fun data hs => congrArg Host.Outcome.next (if_pos hs), fun hserial => ⟨fun h h4 => ownerBlob_handled hserial h h4,
    fun h hp hf => moduleBlob_handled hserial h hp hf, fun h hb v hv => partitionBlob_handled hserial h hb hv,
    fun h hp => linkkeyBlob_handled hserial h hp, fun h hlo hhi => powerBlob_handled hserial h hlo hhi⟩,
    fun h hserial hp hi hi' => memkeyBlob_handled h hserial hp hi hi', fun ev hev hq => ?_, fun n k _ hk => keySwitch_of_loaded hk⟩
  subst hev
  have hexec := exec_blobEvent b s
  rw [takeBlob_of_head hq] at hexec
  refine ⟨fun hbad => hexec.trans ?_, fun hgood h0 hboot => hexec.trans ?_⟩
  · rw [State.applyBlob, if_pos hbad]; rfl
  · rw [State.applyBlob, if_neg (by rw [hgood]; exact Bool.false_ne_true), if_pos (.inr (.inl ⟨h0, hboot⟩))]; rfl

end Sys2Proof.Machine

namespace Sys2Proof.Machine

open Sys2Proof.Claims

set_option Elab.async false

/-! ## System registers (spec/13 R267 to R270) -/

theorem bits_eq_zero_iff (v : Word) (hi lo : Nat) : bits v hi lo = 0 ↔ ∀ i, lo ≤ i → i ≤ hi → v.getLsbD i = false := by
  have hbit : ∀ i, (bits v hi lo).testBit i = (decide (i < hi + 1 - lo) && v.getLsbD (lo + i)) := fun i => by
    rw [bits, bitsN, Nat.testBit_mod_two_pow, Nat.testBit_div_two_pow, BitVec.getLsbD, Nat.add_comm i]
  constructor
  · intro h i hlo hhi
    have hi' := hbit (i - lo)
    rw [h, Nat.zero_testBit, decide_eq_true (by omega), Bool.true_and, Nat.add_sub_cancel' hlo] at hi'
    exact hi'.symm
  · intro h
    refine Nat.eq_of_testBit_eq fun i => ?_
    rw [hbit, Nat.zero_testBit]
    by_cases hlt : i < hi + 1 - lo
    · rw [h (lo + i) (by omega) (by omega), Bool.and_false]
    · rw [decide_eq_false hlt, Bool.false_and]

/-- No reserved bit is set, where the reserved bits of a mask are those of a list of fields. -/
theorem reserved_clear_iff {m : Word} {fields : List (Nat × Nat)}
    (hm : ∀ i : Fin 64, m.getLsbD i = false ↔ ∃ f ∈ fields, f.2 ≤ i.val ∧ i.val ≤ f.1) (v : Word) (hf : ∀ f ∈ fields, f.1 < 64 := by decide) :
    v &&& ~~~m = 0 ↔ ∀ f ∈ fields, bits v f.1 f.2 = 0 := by
  constructor
  · intro h f hfm
    refine (bits_eq_zero_iff v _ _).2 fun i hlo hhi => ?_
    have hi : i < 64 := lt_of_le_of_lt hhi (hf f hfm)
    have hbit : (v &&& ~~~m).getLsbD i = false := (congrArg (fun w : Word => w.getLsbD i) h).trans BitVec.getLsbD_zero
    have hmi : m.getLsbD i = false := (hm ⟨i, hi⟩).2 ⟨f, hfm, hlo, hhi⟩
    rwa [BitVec.getLsbD_and, BitVec.getLsbD_not, decide_eq_true hi, hmi, Bool.not_false, Bool.true_and, Bool.and_true] at hbit
  · intro h
    refine BitVec.eq_of_getLsbD_eq fun i hi => ?_
    refine Eq.trans ?_ BitVec.getLsbD_zero.symm
    rw [BitVec.getLsbD_and, BitVec.getLsbD_not, decide_eq_true hi, Bool.true_and]
    cases hmi : m.getLsbD i with
    | true => rw [Bool.not_true, Bool.and_false]
    | false =>
      obtain ⟨f, hfm, hlo, hhi⟩ := (hm ⟨i, hi⟩).1 hmi
      rw [(bits_eq_zero_iff v _ _).1 (h f hfm) i hlo hhi, Bool.false_and]

theorem popN_eq_zero : ∀ {w v : Nat}, popN w v = 0 → v % 2 ^ w = 0
  | 0, v, _ => Nat.mod_one v
  | w + 1, v, h => by
    have hsum : v % 2 + popN w (v / 2) = 0 := h
    have hhalf := popN_eq_zero (w := w) (v := v / 2) (by omega)
    rw [Nat.pow_succ', Nat.mod_mul, hhalf]
    omega

/-- One bit set: a power of two. -/
theorem popN_eq_one : ∀ {w v : Nat}, popN w v = 1 → ∃ k, k < w ∧ v % 2 ^ w = 2 ^ k
  | 0, _, h => absurd (h : 0 = 1) Nat.zero_ne_one
  | w + 1, v, h => by
    have hsum : v % 2 + popN w (v / 2) = 1 := h
    rw [Nat.pow_succ', Nat.mod_mul]
    rcases Nat.mod_two_eq_zero_or_one v with hv | hv
    · obtain ⟨k, hk, heq⟩ := popN_eq_one (w := w) (v := v / 2) (by omega)
      exact ⟨k + 1, by omega, by rw [heq, hv, Nat.pow_succ']; omega⟩
    · exact ⟨0, by omega, by rw [popN_eq_zero (w := w) (v := v / 2) (by omega), hv]; rfl⟩

theorem popN_zero : ∀ w, popN w 0 = 0
  | 0 => rfl
  | w + 1 => (Nat.zero_add _).trans (popN_zero w)

theorem popN_two_pow : ∀ {w k : Nat}, k < w → popN w (2 ^ k) = 1
  | 0, k, h => absurd h (Nat.not_lt_zero k)
  | w + 1, 0, _ => (congrArg (1 + ·) (popN_zero w)).trans rfl
  | w + 1, k + 1, h => by
    have hhalf : 2 ^ (k + 1) / 2 = 2 ^ k := by rw [Nat.pow_succ', Nat.mul_div_cancel_left _ (by decide)]
    have hlow : 2 ^ (k + 1) % 2 = 0 := by rw [Nat.pow_succ', Nat.mul_mod_right]
    rw [popN, hhalf, hlow, popN_two_pow (by omega)]

theorem isLogSize_iff (v : Word) : (∃ k, 6 ≤ k ∧ k ≤ 16 ∧ v.toNat = 2 ^ k) ↔ (64 ≤ v.toNat ∧ v.toNat ≤ 65536) ∧ popN 64 v.toNat = 1 := by
  constructor
  · rintro ⟨k, hlo, hhi, hk⟩
    have h1 := Nat.pow_le_pow_right (n := 2) (by decide) hlo
    have h2 := Nat.pow_le_pow_right (n := 2) (by decide) hhi
    exact ⟨by omega, by rw [hk]; exact popN_two_pow (by omega)⟩
  · rintro ⟨⟨hlo, hhi⟩, hpop⟩
    obtain ⟨k, -, hk⟩ := popN_eq_one hpop
    rw [Nat.mod_eq_of_lt v.isLt] at hk
    refine ⟨k, (Nat.pow_le_pow_iff_right (a := 2) (by decide)).1 ?_, (Nat.pow_le_pow_iff_right (a := 2) (by decide)).1 ?_, hk⟩ <;> omega

/-! What a register takes. -/

theorem csrFine_iff_trapdel (v : Word) : CsrFine 0x180 v ↔ csrBad 0x180 v = false := by
  have hmask := reserved_clear_iff (m := 0xFFFFFFC) (fields := [(63, 28), (1, 0)]) (by decide) v
  rw [List.forall_mem_cons, List.forall_mem_singleton] at hmask
  have hcodes : (∀ i, 1 ≤ i → i ≤ 13 → v.toNat / 2 ^ (2 * i) % 4 ≠ 3) ↔ (List.range 13).any (fun i => bits v (2 * i + 3) (2 * i + 2) == 3) = false := by
    have hfield : ∀ i, bits v (2 * i + 3) (2 * i + 2) = v.toNat / 2 ^ (2 * (i + 1)) % 4 := fun i => by
      rw [bits, bitsN, show 2 * i + 3 + 1 - (2 * i + 2) = 2 by omega]; rfl
    rw [List.any_eq_false]
    constructor
    · intro h i hi
      rw [hfield, beq_iff_eq]
      exact h (i + 1) (by omega) (by have := List.mem_range.1 hi; omega)
    · intro h i hlo hhi
      have hi := h (i - 1) (List.mem_range.2 (by omega))
      rwa [hfield, beq_iff_eq, Nat.sub_add_cancel hlo] at hi
  rw [CsrFine.eq_5, csrBad.eq_3, hmask, hcodes, Bool.or_eq_false_iff, Bool.or_eq_false_iff, bne_eq_false_iff_eq, bne_eq_false_iff_eq]

theorem csrFine_iff_field {n : Nat} {v m : Word} {hi lo : Nat} (hfine : CsrFine n v ↔ v &&& ~~~m = 0) (hbad : csrBad n v = (bits v hi lo != 0))
    (hm : ∀ i : Fin 64, m.getLsbD i = false ↔ ∃ f ∈ [(hi, lo)], f.2 ≤ i.val ∧ i.val ≤ f.1) (hhi : hi < 64) :
    CsrFine n v ↔ csrBad n v = false := by
  rw [hfine, hbad, bne_eq_false_iff_eq, reserved_clear_iff hm v (by simpa using hhi), List.forall_mem_singleton]

theorem csrFine_iff_fields {n : Nat} {v m : Word} {hi lo hi' lo' : Nat} (hfine : CsrFine n v ↔ v &&& ~~~m = 0)
    (hbad : csrBad n v = (bits v hi lo != 0 || bits v hi' lo' != 0))
    (hm : ∀ i : Fin 64, m.getLsbD i = false ↔ ∃ f ∈ [(hi, lo), (hi', lo')], f.2 ≤ i.val ∧ i.val ≤ f.1) (hhi : hi < 64 ∧ hi' < 64) :
    CsrFine n v ↔ csrBad n v = false := by
  rw [hfine, hbad, Bool.or_eq_false_iff, bne_eq_false_iff_eq, bne_eq_false_iff_eq, reserved_clear_iff hm v (by simpa using hhi), List.forall_mem_cons,
    List.forall_mem_singleton]

/-- The registers that a CSR instruction can write. -/
def csrWritable : List Nat := [0x101, 0x104, 0x180, 0x181, 0x182, 0x183, 0x185, 0x186, 0x187, 0x188, 0x189]

theorem csrFine_iff_of_writable {n : Nat} (h : n ∈ csrWritable) (v : Word) : CsrFine n v ↔ csrBad n v = false := by
  revert n
  rw [csrWritable]
  simp only [List.forall_mem_cons]
  refine ⟨csrFine_iff_field (m := 0xFFFF) .rfl rfl (by decide) (by decide), ⟨fun _ => rfl, fun _ => trivial⟩, csrFine_iff_trapdel v,
    csrFine_iff_field (m := 0x800000000003FFFF) .rfl rfl (by decide) (by decide),
    csrFine_iff_fields (m := 0x00FFFFFFFFFFF000) .rfl rfl (by decide) (by decide), ?_, ⟨fun _ => rfl, fun _ => trivial⟩, ⟨fun _ => rfl, fun _ => trivial⟩,
    csrFine_iff_fields (m := 0x00FFFFFFFFFF0000) .rfl rfl (by decide) (by decide), ?_, ?_, List.forall_mem_nil _⟩
  · rw [csrBad.eq_6, Bool.not_eq_false', Bool.and_eq_true, decide_eq_true_eq, beq_iff_eq, ← isLogSize_iff]
    rfl
  · exact csrFine_iff_field (m := ~~~0xFFFF) (by rw [CsrFine.eq_10, BitVec.not_not]) rfl (by decide) (by decide)
  · rw [csrBad.eq_11, Bool.not_eq_false', decide_eq_true_eq]
    rfl

/-- No other register of the range takes a value. -/
theorem csr_of_not_writable {n : Nat} (h : n ∉ csrWritable) (v : Word) (hlo : 0x100 ≤ n) (hhi : n < 0x200) : ¬CsrFine n v ∧ csrBad n v = true := by
  simp only [csrWritable, List.mem_cons, List.not_mem_nil, or_false, not_or] at h
  obtain ⟨h1, h2, h3, h4, h5, h6, h7, h8, h9, h10, h11⟩ := h
  refine ⟨?_, ?_⟩
  · rw [CsrFine.eq_12 n v h1 h2 h7 h8 h3 h4 h5 h6 h9 h10 h11]
    exact id
  · rw [csrBad.eq_12 n v h1 h2 h3 h4 h5 h6 h7 h8 h9 h10 h11, if_neg (by omega), decide_eq_false (by omega)]
    rfl

theorem csrSet_eq_csrWrite (s : State) {n : Nat} (h : n ∈ csrWritable) (v : Word) : s.csrSet n v = csrWrite s n v := by
  revert n
  rw [csrWritable]
  simp only [List.forall_mem_cons]
  exact ⟨rfl, rfl, rfl, rfl, rfl, rfl, rfl, rfl, rfl, rfl, rfl, List.forall_mem_nil _⟩

/-- The registers with a number of their own, and all others by `other`. -/
def csrNamed (s : State) (t : Slot) (n : Nat) (other : Unit → Option Word) : Option Word :=
  let p := s.part t.part
  match n with
  | 0x100 => some t.status.word
  | 0x101 => some t.epc
  | 0x102 => some (t.ecause.setWidth 64)
  | 0x103 => some t.etval
  | 0x104 => some t.tscratch
  | 0x105 => some t.task
  | 0x108 => some t.umat
  | 0x109 => some t.uvec
  | 0x10A => some t.usel
  | 0x180 => some p.trapdel
  | 0x181 => some p.traptile
  | 0x182 => some p.tlogbase
  | 0x183 => some p.tlogsize
  | 0x184 => some p.tloghead
  | 0x185 => some p.tlogtail
  | 0x186 => some p.tloglost
  | 0x187 => some p.savebase
  | 0x188 => some p.savesize
  | 0x189 => some p.pqlimit
  | 0x18A => some p.partinfo
  | _ => other ()

theorem srValue_of_assigned (s : State) {n : Nat} (h : n ∈ [0, 1, 2, 3, 4, 5, 0x10, 0x11, 0x12, 0x13, 0x14, 0x15]) :
    srValue s n = some (s.specialGet s.cur (me s) n) := by
  revert n
  simp only [List.forall_mem_cons]
  exact ⟨rfl, rfl, rfl, rfl, rfl, rfl, rfl, rfl, rfl, rfl, rfl, rfl, List.forall_mem_nil _⟩

theorem srValue_eq (s : State) (sr : BitVec 12) :
    (if SpecialReg.assigned sr then some (s.specialGet s.cur (me s) sr.toNat) else none) = srValue s sr.toNat := by
  by_cases h : SpecialReg.assigned sr = true
  · rw [if_pos h]
    refine (srValue_of_assigned s ?_).symm
    simp only [SpecialReg.assigned, Bool.or_eq_true, decide_eq_true_eq] at h
    simp only [List.mem_cons, List.not_mem_nil, or_false]
    omega
  · rw [if_neg h]
    cases hv : srValue s sr.toNat with
    | none => rfl
    | some v => exact absurd (assigned_of_srValue hv) h

theorem descriptorHalf (x : BitVec 128) (n : Nat) :
    wordN (x.toNat / 2 ^ (64 * (n % 2))) = if n % 2 = 1 then (x >>> 64).setWidth 64 else x.setWidth 64 := by
  rcases Nat.mod_two_eq_zero_or_one n with h | h
  · rw [h, if_neg (by decide)]
    exact BitVec.eq_of_toNat_eq (by simp [wordN])
  · rw [h, if_pos rfl]
    exact BitVec.eq_of_toNat_eq (by simp [wordN, Nat.shiftRight_eq_div_pow])

/-- The registers that a CSR instruction reads are those of the tables. -/
theorem csrGet_eq_csrValue (s : State) (c : BitVec 12) : s.csrGet s.cur (me s) c.toNat = csrValue s c.toNat := by
  have hother : (if 0x200 ≤ c.toNat ∧ c.toNat < 0x260 then
        some (wordN ((vget (s.part (me s).part).atomfn ((c.toNat - 0x200) / 2)).toNat / 2 ^ (64 * (c.toNat % 2))))
      else if SpecialReg.assigned (BitVec.ofNat 12 c.toNat) then some (s.specialGet s.cur (me s) c.toNat) else none) =
      if 0x200 ≤ c.toNat ∧ c.toNat < 0x260 then
        (let d := vget (s.part (me s).part).atomfn ((c.toNat - 0x200) / 2)
         some (if c.toNat % 2 = 1 then (d >>> 64).setWidth 64 else d.setWidth 64))
      else srValue s c.toNat := by
    refine ite_congr rfl (fun _ => congrArg some (descriptorHalf _ _)) fun _ => ?_
    rw [BitVec.ofNat_toNat, BitVec.setWidth_eq]
    exact srValue_eq s c
  exact congrArg (fun o => csrNamed s (me s) c.toNat (fun _ => o)) hother

/-! The instructions. -/

section
variable {s : State} {t : Slot} {d : Reg} {c : BitVec 12} {f : Slot → Word → Word} {old : Word}

/-- What a CSR instruction does once it has issued: `f` forms what it writes. -/
def csrBody (s : State) (d : Reg) (c : BitVec 12) (f : Option (Slot → Word → Word)) (t : Slot) : Issue :=
  match s.csrGet s.cur t c.toNat with
  | none => s.trapWord t 1
  | some old =>
    if c = 2 && !t.flagsReady then s.flagsWait t
    else
      let s' := if c = 0x184 then s.acquireLog t.part else s
      match f with
      | none => .done (s'.retire s.cur (fun t => t.setX d old))
      | some f =>
        if csrBad c.toNat (f t old) then s.trapWord t 1
        else .done ((s'.csrSet c.toNat (f t old)).retire s.cur (fun t => t.setX d old))

theorem csr_eq (regs : List Reg) (f : Option (Slot → Word → Word)) :
    s.csr d regs c f = s.issue { privileged := true } (d :: regs) (csrBody s d c f) := rfl

theorem csrBody_unassigned {f : Option (Slot → Word → Word)} (hv : csrValue s c.toNat = none) : csrBody s d c f (me s) = s.trapWord (me s) 1 := by
  rw [csrBody, csrGet_eq_csrValue, hv]

theorem csrBody_read (hv : csrValue s c.toNat = some old) (hf : c = 2 → FlagsReady (me s)) :
    csrBody s d c none (me s) = .done ((if c = 0x184 then s.acquireLog (me s).part else s).retire s.cur (fun t => t.setX d old)) := by
  have hbusy : (decide (c = 2) && !(me s).flagsReady) = false := by
    by_cases h : c = 2
    · rw [(flagsReady_iff _).2 (hf h), Bool.not_true, Bool.and_false]
    · rw [decide_eq_false h, Bool.false_and]
  rw [csrBody, csrGet_eq_csrValue, hv]
  exact if_neg (by rw [hbusy]; exact Bool.false_ne_true)

/-- A write of another register than TLOGHEAD, which acquires nothing. -/
theorem csrBody_write (hv : csrValue s c.toNat = some old) (hf : c = 2 → FlagsReady (me s)) :
    csrBody s d c (some f) (me s) = if csrBad c.toNat (f (me s) old) then s.trapWord (me s) 1
      else .done (((if c = 0x184 then s.acquireLog (me s).part else s).csrSet c.toNat (f (me s) old)).retire s.cur (fun t => t.setX d old)) := by
  have hbusy : (decide (c = 2) && !(me s).flagsReady) = false := by
    by_cases h : c = 2
    · rw [(flagsReady_iff _).2 (hf h), Bool.not_true, Bool.and_false]
    · rw [decide_eq_false h, Bool.false_and]
  rw [csrBody, csrGet_eq_csrValue, hv]
  exact if_neg (by rw [hbusy]; exact Bool.false_ne_true)

end

/-- The three forms that write. -/
theorem csrForm_issue {s : State} {i : Instr} {old : Word} :
    OfRow (fun ⟨n, d, a, v⟩ => ∃ (c : BitVec 12) (f : Slot → Word → Word), c.toNat = n ∧ f (me s) old = v ∧
      exec i s = s.issue { privileged := true } [d, a] (csrBody s d c (some f))) (csrForm i (me s) old) := by
  rcases i
  any_goals exact trivial
  case csrrw d a c => exact ⟨c, fun t _ => t.x a, rfl, rfl, rfl⟩
  case csrrs d a c => exact ⟨c, fun t old => old ||| t.x a, rfl, rfl, rfl⟩
  case csrrc d a c => exact ⟨c, fun t old => old &&& ~~~(t.x a), rfl, rfl, rfl⟩

/-- A CSR write of a writable system register. -/
theorem csr_system_write {s : State} {i : Instr} {n : Nat} {d a : Reg} {old v : Word} (hv : csrValue s n = some old)
    (hform : csrForm i (me s) old = some (n, d, a, v)) (hr : Ready s { privileged := true } [d, a]) (hlo : 0x100 ≤ n) (hhi : n < 0x200) :
    (CsrFine n v → Gives i s (let u := csrWrite s n v; u.setSlot s.cur (((u.slot s.cur).setX d old).advance))) ∧
    (¬CsrFine n v → Gives i s (s.takeTrap s.cur 1 (s.wordAt (me s)))) := by
  obtain ⟨c, f, rfl, rfl, hexec⟩ := csrForm_issue.apply hform
  have hbody := csrBody_write (d := d) (f := f) hv (fun hc => by rw [hc] at hlo; exact absurd hlo (by decide))
  have hno184 : CsrFine c.toNat (f (me s) old) → c ≠ 0x184 := by
    rintro hfine rfl
    exact (csr_of_not_writable (by decide) _ hlo hhi).1 hfine
  by_cases hw : c.toNat ∈ csrWritable
  · have hiff := csrFine_iff_of_writable hw (f (me s) old)
    refine ⟨fun hfine => gives_of_done hexec hr ?_, fun hbad => gives_of_trap hexec hr ?_⟩
    · rw [hbody, hiff.1 hfine, if_neg Bool.false_ne_true, if_neg (hno184 hfine), csrSet_eq_csrWrite s hw]
      rfl
    · rw [hbody, if_pos (by rw [← Bool.not_eq_false]; exact fun h => hbad (hiff.2 h))]
      rfl
  · obtain ⟨hfine, hbad⟩ := csr_of_not_writable hw (f (me s) old) hlo hhi
    exact ⟨fun h => absurd h hfine, fun _ => gives_of_trap hexec hr (by rw [hbody, hbad, if_pos rfl]; rfl)⟩

theorem csrBad_of_low {n : Nat} (h : n < 0x100 ∨ 0x200 ≤ n) (v : Word) :
    csrBad n v = if n < 0x100 then specialBad n v else !decide (0x200 ≤ n ∧ n < 0x260) :=
  csrBad.eq_12 n v (by omega) (by omega) (by omega) (by omega) (by omega) (by omega) (by omega) (by omega) (by omega) (by omega) (by omega)

theorem csrSet_of_low (s : State) {n : Nat} (h : n < 0x100 ∨ 0x200 ≤ n) (v : Word) :
    s.csrSet n v = if n < 0x100 then s.onSlot s.cur (fun t => t.specialSet n v)
      else if n % 2 = 1 then s.atomfnHigh (me s).part v else s.atomfnLow (me s).part ((n - 0x200) / 2) v :=
  State.csrSet.eq_12 s n v (by omega) (by omega) (by omega) (by omega) (by omega) (by omega) (by omega) (by omega) (by omega) (by omega) (by omega)

/-- A CSR write of a special register. -/
theorem csr_special_write {s : State} {i : Instr} {n : Nat} {d a : Reg} {old v m : Word} {t : Slot} (hv : csrValue s n = some old)
    (hform : csrForm i (me s) old = some (n, d, a, v)) (hr : Ready s { privileged := true } [d, a]) (hn : n < 0x100)
    (hflags : n = 2 → FlagsReady (me s)) (hw : srWrite (me s) n v = some (t, m)) (hres : v &&& ~~~m = 0) (hrm : n = 1 → v.toNat ≤ 4) :
    Gives i s (s.setSlot s.cur (t.setX d old).advance) := by
  obtain ⟨c, f, rfl, rfl, hexec⟩ := csrForm_issue.apply hform
  have hbody := csrBody_write (d := d) (f := f) hv (fun hc => hflags (by rw [hc]; rfl))
  have hne : c ≠ 0x184 := fun hc => by rw [hc] at hn; exact absurd hn (by decide)
  rw [srWrite_eq] at hw
  obtain ⟨m', hm, heq⟩ := Option.map_eq_some_iff.1 hw
  cases heq
  refine gives_of_done hexec hr ?_
  rw [hbody, csrBad_of_low (.inl hn), if_pos hn, specialBad_eq_false hm hres hrm, if_neg Bool.false_ne_true, if_neg hne, csrSet_of_low s (.inl hn), if_pos hn,
    State.retire, State.onSlot_onSlot]
  rfl

theorem csrValue_of_high {s : State} {c : BitVec 12} (h : 0x260 ≤ c.toNat) : csrValue s c.toNat = none := by
  have hsr : srValue s c.toNat = none := by
    rw [← srValue_eq, if_neg]
    simp only [SpecialReg.assigned, Bool.or_eq_true, decide_eq_true_eq]
    omega
  have hnamed : csrNamed s (me s) c.toNat (fun _ => if 0x200 ≤ c.toNat ∧ c.toNat < 0x260 then
        (let d := vget (s.part (me s).part).atomfn ((c.toNat - 0x200) / 2)
         some (if c.toNat % 2 = 1 then (d >>> 64).setWidth 64 else d.setWidth 64))
      else srValue s c.toNat) = srValue s c.toNat :=
    (csrNamed.eq_21 s (me s) _ _ (by omega) (by omega) (by omega) (by omega) (by omega) (by omega) (by omega) (by omega) (by omega) (by omega) (by omega)
      (by omega) (by omega) (by omega) (by omega) (by omega) (by omega) (by omega) (by omega) (by omega)).trans (if_neg (by omega))
  exact hnamed.trans hsr

/-- A CSR write of the high half of a custom function. -/
theorem csr_high_write {s : State} {i : Instr} {n : Nat} {d a : Reg} {old v : Word} (hv : csrValue s n = some old)
    (hform : csrForm i (me s) old = some (n, d, a, v)) (hr : Ready s { privileged := true } [d, a]) (hn : 0x200 ≤ n) (hodd : n % 2 = 1) :
    Gives i s ({ s with parts := vset s.parts (me s).part { s.part (me s).part with holding := v } }.setSlot s.cur ((me s).setX d old).advance) := by
  obtain ⟨c, f, rfl, rfl, hexec⟩ := csrForm_issue.apply hform
  have hne : c ≠ 0x184 := fun hc => by rw [hc] at hn; exact absurd hn (by decide)
  have hbody := csrBody_write (d := d) (f := f) hv (fun hc => by rw [hc] at hn; exact absurd hn (by decide))
  have hrange : 0x200 ≤ c.toNat ∧ c.toNat < 0x260 := by
    refine ⟨hn, Nat.lt_of_not_le fun hno => ?_⟩
    rw [csrValue_of_high hno] at hv
    cases hv
  have hok : csrBad c.toNat (f (me s) old) = false := by
    rw [csrBad_of_low (.inr hn), if_neg (by omega), decide_eq_true hrange]
    rfl
  refine gives_of_done hexec hr ?_
  rw [hbody, hok, if_neg Bool.false_ne_true, if_neg hne, csrSet_of_low s (.inr hn), if_neg (by omega), if_pos hodd]
  rfl

/-- A privileged instruction in USER mode. -/
theorem issue_of_user {s : State} {rs : List Reg} {body : Slot → Issue} (hu : (me s).status.super = false) (hbusy : s.anyBusy s.cur (me s) rs = false) :
    s.issue { privileged := true } rs body = .next (s.takeTrap s.cur 2 (s.wordAt (me s))) := by
  have hcause : (me s).formCause (tileOfSlot s.cur) { privileged := true } = some 2 := if_pos (by rw [hu]; rfl)
  rw [State.issue, if_neg (by rw [show s.slot s.cur = me s from rfl, hbusy]; exact Bool.false_ne_true), show s.slot s.cur = me s from rfl, hcause]
  rfl

theorem part_onPart_ne (s : State) {p q : Nat} (hp : p < 16) (hq : q < 16) (hne : q ≠ p) (f : Partition → Partition) :
    (s.onPart p f).part q = s.part q :=
  vget_vset_ne _ _ _ _ (by rw [Nat.mod_eq_of_lt hp, Nat.mod_eq_of_lt hq]; exact fun h => hne h.symm)

theorem getLsbD_invalidDescriptor (d : BitVec 128) : (invalidDescriptor d).getLsbD 0 = false := by
  rw [invalidDescriptor, setBit, if_neg Bool.false_ne_true, BitVec.getLsbD_and, BitVec.getLsbD_not,
    show (1#128 <<< 0).getLsbD 0 = true from by decide, Bool.not_true, Bool.and_false, Bool.and_false]

/-- The descriptors after a write of a low half: the one written, and the others. -/
theorem atomfnLow_entries (s : State) (part : Nat) (j : Fin 48) (v : Word) :
    (∀ k : Nat, k < 48 → k ≠ j.val → vget ((s.atomfnLow part j.val v).part part).atomfn k = vget (s.part part).atomfn k) ∧
    (v.getLsbD 0 = true → descriptorBad ((s.part part).holding ++ v) = false →
      vget ((s.atomfnLow part j.val v).part part).atomfn j.val = (s.part part).holding ++ v) ∧
    (v.getLsbD 0 = false ∨ descriptorBad ((s.part part).holding ++ v) = true → (vget ((s.atomfnLow part j.val v).part part).atomfn j.val).getLsbD 0 = false) := by
  have htable : ((s.atomfnLow part j.val v).part part).atomfn = vset (s.part part).atomfn j.val
      (if testW v 0 && !descriptorBad ((s.part part).holding ++ v) then (s.part part).holding ++ v
        else invalidDescriptor (vget (s.part part).atomfn j.val)) := congrArg Partition.atomfn (vget_vset _ _ _)
  have htest : testW v 0 = v.getLsbD 0 := testN_toNat v 0
  rw [htable, htest, vget_vset]
  refine ⟨fun k hk hne => vget_vset_ne _ _ _ _ ?_, fun hv hd => if_pos (by rw [hv, hd]; rfl), fun h => ?_⟩
  · rw [Nat.mod_eq_of_lt j.isLt, Nat.mod_eq_of_lt hk]
    exact fun h => hne h.symm
  · rw [if_neg]
    · exact getLsbD_invalidDescriptor _
    · rcases h with h | h
      · rw [h]; exact Bool.false_ne_true
      · rw [h, Bool.not_true, Bool.and_false]; exact Bool.false_ne_true

/-- Settles O38: each form by what it reads and whether the register takes the value. -/
theorem systemRegisterAccess : Obligations.SystemRegisterAccess := by
  refine ⟨fun s i n d a c old v => ⟨fun hv hr hf => ?_, fun hv hr => ?_, fun hv hform hr => ⟨fun hlo hhi hfine => ?_, fun hlo hhi hbad => ?_, fun hn hf t m hw hres hrm => ?_,
    fun hn hodd => csr_high_write hv hform hr hn hodd⟩, fun hu hbusy hform => ?_⟩, fun s part j v hp => ⟨rfl, rfl, ?_⟩⟩
  · exact gives_of_done (i := .csrrd d c) (csr_eq [] none) hr ((csrBody_read hv hf).trans (by split <;> rfl))
  · exact gives_of_trap (i := .csrrd d c) (csr_eq [] none) hr (csrBody_unassigned hv)
  · exact (csr_system_write hv hform hr hlo hhi).1 hfine
  · exact (csr_system_write hv hform hr hlo hhi).2 hbad
  · exact csr_special_write hv hform hr hn hf hw hres hrm
  · obtain ⟨c, f, rfl, rfl, hexec⟩ := csrForm_issue.apply hform
    exact hexec.trans (issue_of_user hu hbusy)
  · exact ⟨_, rfl, rfl, fun q hq hne => part_onPart_ne s hp hq hne _, atomfnLow_entries s part j v⟩

end Sys2Proof.Machine

namespace Sys2Proof.Machine

open Sys2Proof.Claims

set_option Elab.async false

/-! ## Arrivals at inboxes and endpoints (spec/02 R48 to R54; spec/16 R340; spec/17 R360) -/

theorem length_toBytes (n v : Nat) : (toBytes n v).length = n := by
  induction n generalizing v with
  | zero => rfl
  | succ n ih => exact congrArg (· + 1) (ih _)

theorem State.counters_countDie (s : State) (d i n : Nat) :
    ((s.countDie d i n).die d).counters = vset (s.die d).counters i (satInc (vget (s.die d).counters i) n) :=
  congrArg Die.counters (State.die_onDie s d (fun t => { t with counters := vset t.counters i (satInc (vget t.counters i) n) }))

/-- A record in the log of the guards, or a count of one lost. -/
def State.guardNoted (s : State) (die : Nat) (r : Bytes) : State :=
  if s.mgmt.guardLog.length < 4096 then { s with mgmt := { s.mgmt with guardLog := s.mgmt.guardLog ++ [r] } } else s.countDie die 7

/-- What a record in the log of the guards leaves. -/
theorem guardNoted_frame (s : State) (die : Nat) (r : Bytes) :
    (s.guardNoted die r).mem = s.mem ∧ (s.guardNoted die r).tiles = s.tiles ∧ (s.guardNoted die r).agenda = s.agenda := by
  rw [State.guardNoted]
  split <;> exact ⟨rfl, rfl, rfl⟩

/-- The die at whose guard position a drop counts. -/
def guardDie (gpos : Nat) : Nat := if 0x100 ≤ gpos then (gpos - 0x100) / 4 % 4 else dieOf gpos

theorem guardLogged_eq (s : State) (kind reason gpos src part dest : Nat) (addr : Word) :
    ∃ mid : Bytes, mid.length = 20 ∧ s.guardLogged kind reason gpos src part dest addr = (s.countDie (guardDie gpos) 6).guardNoted (guardDie gpos)
      ([BitVec.ofNat 8 kind, BitVec.ofNat 8 reason] ++ toBytes 2 gpos ++ mid ++ toBytes 8 addr.toNat) := by
  refine ⟨toBytes 4 (src % 2 ^ 22 + part * 2 ^ 22) ++ (toBytes 4 (dest % 2 ^ 22 + (match (s.tile (dest % 4096 / 16)).part with
    | some o => o
    | none => 0xF) * 2 ^ 22) ++ (zeros 4 ++ toBytes 8 s.now.toNat)), ?_, ?_⟩
  · simp only [List.length_append, length_toBytes, zeros, List.length_replicate]
  · simp only [← List.append_assoc]
    rfl

/-- What logging a drop leaves. -/
theorem guardLogged_frame (s : State) (kind reason gpos src part dest : Nat) (addr : Word) :
    (s.guardLogged kind reason gpos src part dest addr).mem = s.mem ∧ (s.guardLogged kind reason gpos src part dest addr).tiles = s.tiles ∧
    (s.guardLogged kind reason gpos src part dest addr).agenda = s.agenda := by
  obtain ⟨mid, -, heq⟩ := guardLogged_eq s kind reason gpos src part dest addr
  rw [heq]
  exact guardNoted_frame _ _ _

/-- A drop at the guard of a tile is counted, and logged while the log has room. -/
theorem guardLogged_logged (s : State) {kind reason gpos src part dest : Nat} {addr : Word} (hg : gpos < 0x100) :
    LoggedDrop s (s.guardLogged kind reason gpos src part dest addr) gpos kind reason addr := by
  obtain ⟨mid, hmid, heq⟩ := guardLogged_eq s kind reason gpos src part dest addr
  have hdie : guardDie gpos = dieOf gpos := if_neg (Nat.not_le.2 hg)
  rw [LoggedDrop, heq, hdie, State.guardNoted]
  by_cases hroom : s.mgmt.guardLog.length < 4096
  · rw [if_pos (show (s.countDie (dieOf gpos) 6).mgmt.guardLog.length < 4096 from hroom)]
    refine ⟨(congrArg (vget · 6) (s.counters_countDie (dieOf gpos) 6 1)).trans (vget_vset _ _ _), fun _ => ⟨_, rfl, ?_, rfl, ?_⟩⟩
    · simp only [List.length_append, length_toBytes, hmid]
      rfl
    · refine List.drop_left' ?_
      simp only [List.length_append, length_toBytes, hmid]
      rfl
  · rw [if_neg (show ¬(s.countDie (dieOf gpos) 6).mgmt.guardLog.length < 4096 from hroom)]
    refine ⟨?_, fun h => absurd h hroom⟩
    rw [State.counters_countDie, vget_vset_ne _ _ _ _ (by decide), State.counters_countDie, vget_vset]

theorem loggedDrop_congr {s t u : State} {gt kind reason : Nat} {addr : Word} (h : LoggedDrop s t gt kind reason addr) (hd : u.dies = t.dies)
    (hm : u.mgmt = t.mgmt) : LoggedDrop s u gt kind reason addr := by
  rw [LoggedDrop, State.die, hd, hm]
  exact h

section
variable {s : State} {gt : Nat} {data : Bytes} {id : Nat}

/-- A message without an owner of the inbox, or one for a full inbox, or one that is taken (spec/02 R54). -/
theorem messageArrival_of_served (hs : s.messageServed gt (some id) = true) (hb : s.messageBarred gt (some id) = none) :
    exec (.messageArrival gt data (some id)) s = .next (match (s.tile gt).inbox.owner with
      | none => s.messageReply gt (some id) 1
      | some o => if s.lostDie (dieOf gt) then s.messageReply gt (some id) 1
        else if inboxRoom gt ≤ (s.tile gt).inbox.arrived - (s.tile gt).inbox.taken || s.messageBefore id then
          s.defer (.messageArrival gt data (some id))
        else (s.deposit gt data (s.messageBad id) o).messageReply gt (some id) 0) := by
  have hexec : exec (.messageArrival gt data (some id)) s = execMessageArrival gt data (some id) s := rfl
  rw [hexec, execMessageArrival, hs, hb]
  generalize (s.tile gt).inbox.owner = o
  cases o <;> rfl

theorem deposit_frame (s : State) (gt : Nat) {bs : Bytes} (o : Nat) (hlen : bs.length = 64) :
    let ib := (s.tile gt).inbox
    (s.deposit gt bs false o).mem = Memory.write s.mem (gt * 2 ^ 30 + inboxBase gt + 64 * (ib.arrived % inboxRoom gt)) bs ∧
    ((s.deposit gt bs false o).tile gt).inbox = { ib with arrived := ib.arrived + 1 } ∧ (s.deposit gt bs false o).slots = s.slots ∧
    (s.deposit gt bs false o).agenda = s.agenda ++ [.handlerEntry (gt * 4 + o)] := by
  have hpad : padTo 64 bs = bs := by rw [padTo, List.take_left' hlen]
  refine ⟨?_, ?_, rfl, rfl⟩
  · rw [Nat.add_assoc]
    exact congrArg (Memory.write s.mem _) hpad
  · rw [State.deposit, State.tile_post, State.tile_onTile]
    rfl

theorem messageReply_frame (s : State) (gt id : Nat) (v : Word) :
    (s.messageReply gt (some id) v).mem = s.mem ∧ (s.messageReply gt (some id) v).tiles = s.tiles ∧ (s.messageReply gt (some id) v).slots = s.slots ∧
    (s.messageReply gt (some id) v).agenda = s.agenda ++ [.replyArrival id v.toNat false] := ⟨rfl, rfl, rfl, rfl⟩

theorem messageArrival_barred {r : Request} (hreq : s.request id = some r) (hsrc : r.src % 4096 / 16 ≠ gt)
    (hpart : (s.tile gt).part ≠ some r.part) (hs : s.messageServed gt (some id) = true) :
    exec (.messageArrival gt data (some id)) s =
      .next ((s.guardLogged 5 1 gt r.src r.part (s.mgmt.package * 4096 + gt * 16 + 7) 0).messageReply gt (some id) 1) := by
  have hbar : s.messageBarred gt (some id) = some r := by
    rw [State.messageBarred, Option.bind_some, hreq]
    refine Option.filter_some_pos ?_
    exact Bool.and_eq_true_iff.2 ⟨bne_iff_ne.2 (Ne.symm hsrc), bne_iff_ne.2 hpart⟩
  have hexec : exec (.messageArrival gt data (some id)) s = execMessageArrival gt data (some id) s := rfl
  rw [hexec, execMessageArrival, hs, hbar]
  rfl

end

/-! Tokens. -/

section
variable {s : State} {gt ch : Nat} {q : Token}

theorem tokenArrival_of_passes (h : Passes s gt ch q) : exec (.tokenArrival gt ch q) s = .next (s.takeToken gt ch q) := by
  have hexec : exec (.tokenArrival gt ch q) s = execTokenArrival gt ch q s := rfl
  rw [hexec, execTokenArrival]
  cases ho : q.origin with
  | none => rfl
  | some o =>
    obtain ⟨src, part, addr⟩ := o
    obtain ⟨hwait, hserved, hguard⟩ := h src part addr ho
    refine congrArg Host.Outcome.next ((if_neg ?_).trans (if_neg ?_))
    · rw [hwait, Bool.false_or, Bool.and_eq_true]
      rintro ⟨h1, h2⟩
      rcases hserved with hp | hp
      · rw [hp] at h1; cases h1
      · rw [hp] at h2; cases h2
    · rw [State.barred, Bool.and_eq_true, bne_iff_ne, bne_iff_ne]
      exact fun hb => hguard.elim (fun h => hb.1 h.symm) hb.2

theorem tokenArrival_barred {src part : Nat} {addr : Word} (ho : q.origin = some (src, part, addr)) (hwait : s.deferred.any (Instr.tokenFor gt ch) = false)
    (hserved : q.place = none ∨ s.served part (src % 4096 / 16) (.tile gt 0) = true) (hsrc : src % 4096 / 16 ≠ gt) (hpart : (s.tile gt).part ≠ some part) :
    exec (.tokenArrival gt ch q) s = .next (s.guardLogged (if q.place = none then 0x20 else 4) (if q.place = none then 3 else 1) gt src part
      (s.mgmt.package * 4096 + gt * 16 + 7) addr) := by
  have hexec : exec (.tokenArrival gt ch q) s = execTokenArrival gt ch q s := rfl
  rw [hexec, execTokenArrival, ho]
  refine congrArg Host.Outcome.next ((if_neg ?_).trans ((if_pos ?_).trans ?_))
  · rw [hwait, Bool.false_or, Bool.and_eq_true]
    rintro ⟨h1, h2⟩
    rcases hserved with hp | hp
    · rw [hp] at h1; cases h1
    · rw [hp] at h2; cases h2
  · exact Bool.and_eq_true_iff.2 ⟨bne_iff_ne.2 (Ne.symm hsrc), bne_iff_ne.2 hpart⟩
  · cases q.place <;> rfl

theorem takeToken_strange {x : Nat × Nat} (hx : q.chan = some x) (hne : x ≠ ((s.chan gt ch).serial, (s.chan gt ch).chan)) : s.takeToken gt ch q = s := by
  refine if_pos ?_
  have hstrange : (s.chan gt ch).strange q = true := by
    rw [Endpoint.strange, hx]
    exact bne_iff_ne.2 hne
  rw [hstrange, Bool.or_true, Bool.true_or]

/-- A token of the channel of an OPEN receiving endpoint. -/
theorem takeToken_of_open (hside : (s.chan gt ch).side = .receiver) (hopen : (s.chan gt ch).state = .opened) (hlost : s.lostDie (dieOf gt) = false)
    (hchan : ∀ x, q.chan = some x → x = ((s.chan gt ch).serial, (s.chan gt ch).chan)) :
    s.takeToken gt ch q = if q.kind == .endTok || q.kind == .endCancelled then s.onChan gt ch (fun e => e.takeEnd q.kind s.cycle)
      else s.writeBeats gt ch q := by
  refine if_neg ?_
  have hstrange : (s.chan gt ch).strange q = false := by
    rw [Endpoint.strange]
    cases hx : q.chan with
    | none => rfl
    | some x => exact bne_eq_false_iff_eq.2 (hchan x hx)
  rw [hside, hopen, hstrange, hlost]
  decide

/-- The endpoint once a whole data token stands in its next entry. -/
def Endpoint.queued (e : Endpoint) (seq : Nat) (q : Token) (cycle : Nat) : Endpoint :=
  { e with
    tokens := e.tokens.filter (·.tail) ++ [{ seq := seq, kind := q.kind, beats := 0 + q.bytes.length / 64, tail := true, time := cycle }]
    count := e.count + 1, mark := none }

theorem writeBeats_whole (hplace : q.place = none) (htails : ∀ x ∈ (s.chan gt ch).tokens, x.tail = true) (htail : q.tail = true) (hbad : q.bad = false)
    (hne : q.bytes ≠ []) (hlen : q.bytes.length ≤ (s.chan gt ch).entryBeats * 64) :
    s.writeBeats gt ch q = (s.writeMem (gt * 2 ^ 30 + (s.chan gt ch).qoff + (s.chan gt ch).count % ((s.chan gt ch).depth + 1) * (s.chan gt ch).entryBeats * 64)
      q.bytes).onChan gt ch (fun e => e.queued (s.chan gt ch).count q s.cycle) := by
  have hpart : (s.chan gt ch).tokens.find? (fun t => !t.tail) = none :=
    List.find?_eq_none.2 fun x hx => by rw [htails x hx]; decide
  have htake : q.bytes.take (((s.chan gt ch).entryBeats - 0) * 64) = q.bytes := List.take_of_length_le hlen
  have hkey : sramKey gt ((s.chan gt ch).entry (s.chan gt ch).count + 64 * 0) =
      gt * 2 ^ 30 + (s.chan gt ch).qoff + (s.chan gt ch).count % ((s.chan gt ch).depth + 1) * (s.chan gt ch).entryBeats * 64 := by
    rw [sramKey, Endpoint.entry, Nat.mul_zero, Nat.add_zero, Nat.add_assoc, Nat.mul_assoc]
  have hempty : q.bytes.isEmpty = false := by
    cases hb : q.bytes with
    | nil => exact absurd hb hne
    | cons x l => rfl
  rw [State.writeBeats, hpart, hplace, htail, hbad]
  simp only [Option.map_none, Option.getD_none]
  rw [htake, hempty, hkey]
  rfl

end

theorem queued_of_tails (e : Endpoint) (h : ∀ x ∈ e.tokens, x.tail = true) (q : Token) (cycle : Nat) :
    e.queued e.count q cycle = { e with
      tokens := e.tokens ++ [{ seq := e.count, kind := q.kind, beats := q.bytes.length / 64, tail := true, time := cycle }]
      count := e.count + 1, mark := none } := by
  rw [Endpoint.queued, List.filter_eq_self.2 h, Nat.zero_add]

theorem takeEnd_tails (e : Endpoint) (cycle : Nat) : ∀ x ∈ (e.takeEnd .endCancelled cycle).tokens, x.tail = true := by
  intro x hx
  rcases List.mem_append.1 (show x ∈ e.tokens.filter (·.tail) ++ [_] from hx) with h | h
  · exact (List.mem_filter.1 h).2
  · rw [List.mem_singleton.1 h]

theorem State.chan_onChan_ne (s : State) (gt : Nat) {c ch : Nat} (hc : c < 16) (hch : ch < 16) (h : c ≠ ch) (f : Endpoint → Endpoint) :
    (s.onChan gt ch f).chan gt c = s.chan gt c := by
  rw [State.chan, State.onChan, State.tile_onTile]
  exact vget_vset_ne _ _ _ _ (by rw [Nat.mod_eq_of_lt hc, Nat.mod_eq_of_lt hch]; exact Ne.symm h)

/-- What a change keeps of an endpoint, it keeps of every endpoint. -/
theorem State.chan_onChan_imp (s : State) (gt ch : Nat) {f : Endpoint → Endpoint} (P : Endpoint → Prop) (hf : ∀ e, P e → P (f e)) (g c : Nat)
    (h : P (s.chan g c)) : P ((s.onChan gt ch f).chan g c) := by
  by_cases hg : g = gt
  · subst hg
    by_cases hc : ch % 16 = c % 16
    · have hget : ∀ v : Vector Endpoint 16, vget v c = vget v ch := fun v => congrArg v.get (Fin.ext hc.symm)
      rw [State.chan, hget] at h ⊢
      rw [← State.chan, State.chan_onChan]
      exact hf _ h
    · rw [State.chan, State.onChan, State.tile_onTile]
      exact (vget_vset_ne (s.tile g).chans ch c (f (vget (s.tile g).chans ch)) hc).symm ▸ h
  · have hsame : (s.onChan gt ch f).chan g c = s.chan g c := congrArg (fun t : Tile => vget t.chans c) (State.tile_setTile_ne s gt g _ hg)
    rwa [hsame]

/-- An endpoint that has lost its lane group, where a token stands half in its entry. -/
def Endpoint.spilled (e other : Endpoint) : Endpoint :=
  { e with lane := false, mark := if e.side == .receiver && 0 < other.sent then some (other.lastEntry, other.sent) else none }

section
variable {s : State} {gt ch : Nat} (hlane : (s.chan gt ch).lane = true)
include hlane

theorem withdrawLane_unbound (hpeer : (s.chan gt ch).peer = none) : s.withdrawLane gt ch = s.onChan gt ch (fun x => { x with lane := false }) := by
  rw [State.withdrawLane, hlane, hpeer]
  rfl

theorem withdrawLane_bound {p g r : Nat} (hpeer : (s.chan gt ch).peer = some (p, g, r)) :
    s.withdrawLane gt ch = (s.onChan gt ch (fun x => x.spilled (s.chan g r))).onChan g r (fun x => x.spilled (s.chan gt ch)) := by
  rw [State.withdrawLane, hlane, hpeer]
  rfl

theorem withdrawLane_frame :
    ∃ t, Gives (.laneGroupWithdraw gt ch) s t ∧ t = { s with tiles := t.tiles } ∧ (t.chan gt ch).lane = false ∧
      (t.chan gt ch).tokens = (s.chan gt ch).tokens ∧ (∀ p g c, (s.chan gt ch).peer = some (p, g, c) → (t.chan g c).lane = false) := by
  have hexec : exec (.laneGroupWithdraw gt ch) s = .next (s.withdrawLane gt ch) := rfl
  cases hpeer : (s.chan gt ch).peer with
  | none =>
    rw [withdrawLane_unbound hlane hpeer] at hexec
    refine ⟨_, hexec, rfl, ?_, ?_, fun p g c h => absurd h (by rintro ⟨⟩)⟩
    · rw [State.chan_onChan]
    · rw [State.chan_onChan]
  | some x =>
    obtain ⟨pkg, g, r⟩ := x
    rw [withdrawLane_bound hlane hpeer] at hexec
    have hkeep := State.chan_onChan_imp (s.onChan gt ch (fun x => x.spilled (s.chan g r))) g r (f := fun x => x.spilled (s.chan gt ch))
      (fun e => e.lane = false ∧ e.tokens = (s.chan gt ch).tokens) (fun _ h => ⟨rfl, h.2⟩) gt ch (by rw [State.chan_onChan]; exact ⟨rfl, rfl⟩)
    refine ⟨_, hexec, rfl, hkeep.1, hkeep.2, fun p g' c h => ?_⟩
    cases h
    rw [State.chan_onChan]
    rfl

end

/-- Settles O45: each arrival by what it finds at its inbox or endpoint. -/
theorem channelEvents : Obligations.ChannelEvents := by
  intro s gt ch hch
  refine ⟨fun data o id ho hlost hlen hbefore hbad hserved hbarred => ⟨fun hroom => ?_, fun hfull => ?_⟩, fun data id ho hserved hbarred => ?_,
    fun data id r hreq hgt hsrc hpart hserved => ?_, fun q x hx hne hp => ?_, fun q src part addr ho hwait hserved hsrc hpart hgt => ?_,
    fun q hp hside hopen hlost hchan => ⟨fun hk hk' hplace htails htail hbad hne hlen => ?_, fun hk => ?_, fun hk => ?_⟩, fun n hside => ?_,
    fun hside hopen => ?_, fun hlane => ?_, fun hlane => ?_⟩
  · have hexec := messageArrival_of_served (data := data) hserved hbarred
    rw [ho] at hexec
    have hnext : (if s.lostDie (dieOf gt) then s.messageReply gt (some id) 1
        else if inboxRoom gt ≤ (s.tile gt).inbox.arrived - (s.tile gt).inbox.taken || s.messageBefore id then s.defer (.messageArrival gt data (some id))
        else (s.deposit gt data (s.messageBad id) o).messageReply gt (some id) 0) = (s.deposit gt data false o).messageReply gt (some id) 0 := by
      rw [hlost, if_neg Bool.false_ne_true, hbefore, decide_eq_false (Nat.not_le.2 hroom), hbad]
      rfl
    obtain ⟨hmem, htile, hslots, hagenda⟩ := deposit_frame s gt o hlen
    refine ⟨_, hexec.trans (congrArg Host.Outcome.next hnext), hmem, htile, hslots, ?_⟩
    exact (congrArg (· ++ [Instr.replyArrival id 0 false]) hagenda).trans (List.append_assoc _ _ _)
  · have hexec := messageArrival_of_served (data := data) hserved hbarred
    rw [ho] at hexec
    refine hexec.trans (congrArg Host.Outcome.next ?_)
    show (if s.lostDie (dieOf gt) then _ else _) = _
    rw [hlost, if_neg Bool.false_ne_true, hbefore, decide_eq_true hfull]
    rfl
  · have hexec := messageArrival_of_served (data := data) hserved hbarred
    rw [ho] at hexec
    exact ⟨_, hexec, rfl, rfl, rfl⟩
  · have hexec := messageArrival_barred (data := data) hreq hsrc hpart hserved
    obtain ⟨hmem, htiles, hagenda⟩ := guardLogged_frame s 5 1 gt r.src r.part (s.mgmt.package * 4096 + gt * 16 + 7) 0
    exact ⟨_, hexec, hmem, htiles, congrArg (· ++ [Instr.replyArrival id 1 false]) hagenda, loggedDrop_congr (guardLogged_logged s hgt) rfl rfl⟩
  · exact (tokenArrival_of_passes hp).trans (congrArg Host.Outcome.next (takeToken_strange hx hne))
  · obtain ⟨hmem, htiles, hagenda⟩ := guardLogged_frame s (if q.place = none then 0x20 else 4) (if q.place = none then 3 else 1) gt src part
      (s.mgmt.package * 4096 + gt * 16 + 7) addr
    exact ⟨_, tokenArrival_barred ho hwait hserved hsrc hpart, hmem, htiles, hagenda, guardLogged_logged s hgt⟩
  · have hexec := tokenArrival_of_passes hp
    rw [takeToken_of_open hside hopen hlost hchan, if_neg (by rw [Bool.or_eq_true, beq_iff_eq, beq_iff_eq]; exact not_or.2 ⟨hk, hk'⟩),
      writeBeats_whole hplace htails htail hbad hne hlen] at hexec
    refine ⟨_, hexec, rfl, rfl, ?_, fun c hc hne' => State.chan_onChan_ne _ _ hc hch hne' _⟩
    rw [State.chan_onChan]
    exact queued_of_tails _ htails _ _
  · have hexec := tokenArrival_of_passes hp
    rw [takeToken_of_open hside hopen hlost hchan, hk, if_pos (by decide)] at hexec
    refine ⟨_, hexec, rfl, ?_, ?_⟩
    · rw [State.chan_onChan]; rfl
    · rw [State.chan_onChan]
      exact List.length_append
  · have hexec := tokenArrival_of_passes hp
    rw [takeToken_of_open hside hopen hlost hchan, hk, if_pos (by decide)] at hexec
    refine ⟨_, hexec, rfl, ?_, ?_⟩
    · rw [State.chan_onChan]; rfl
    · rw [State.chan_onChan]
      exact takeEnd_tails _ _
  · exact ⟨_, congrArg Host.Outcome.next (if_pos (by rw [hside]; rfl)), rfl, State.chan_onChan _ _ _ _⟩
  · exact ⟨_, congrArg Host.Outcome.next (if_pos (by rw [hside, hopen]; rfl)), rfl, State.chan_onChan _ _ _ _⟩
  · exact withdrawLane_frame hlane
  · exact congrArg Host.Outcome.next (if_pos (by rw [hlane]; rfl))

end Sys2Proof.Machine

namespace Sys2Proof.Machine

open Sys2Proof.Claims

set_option Elab.async false

/-! ## The host link, the timestamp, control pages and queue windows (spec/13 R271; spec/14 R291 to R300; spec/16 R351 to R356) -/

theorem dramKey_eq (die off : Nat) : dramKey die off = (die + 1) * 2 ^ 40 + off := rfl

theorem reservedRange_of_le {s : State} {die off n : Nat} (h : off + n ≤ (s.die die).rsvLo) : s.reservedRange die off n = false :=
  decide_eq_false (Nat.not_lt.2 h)

/-- A die whose host holds further lines. -/
def Die.holding (d : Die) (lines : List Nat) : Die := { d with directory := d.directory ++ lines }

theorem mem_linesOf {off n l : Nat} (hn : 0 < n) : l ∈ linesOf off n ↔ off / 64 ≤ l ∧ l ≤ (off + n - 1) / 64 := by
  rw [linesOf, List.mem_map]
  constructor
  · rintro ⟨i, hi, rfl⟩
    have := List.mem_range.1 hi
    omega
  · rintro ⟨hlo, hhi⟩
    exact ⟨l - off / 64, List.mem_range.2 (by omega), by omega⟩

theorem length_linesOf_le {off n : Nat} (hn : 0 < n) : (linesOf off n).length ≤ n := by
  rw [linesOf, List.length_map, List.length_range]
  omega

section
variable {s : State} {hpa die off : Nat} (hmap : s.host.maps hpa = some (die, off)) (hready : s.mgmt.state = .ready) (hlost : s.lostDie die = false)
  (hgood : (s.die die).good = true)
include hmap hready hlost hgood

/-- A host read of a good die. -/
theorem hostMemRead_of_good (n : Nat) : exec (.hostMemRead hpa n) s = .next (
    if s.reservedRange die off n then (s.countHost true).emit (.hostCompletion hpa (zeros n) true)
    else if (s.hold die (linesOf off n)).2 then
      (s.hold die (linesOf off n)).1.emit (.hostCompletion hpa ((s.hold die (linesOf off n)).1.readKeyed (dramKey die off) n 0)
        ((s.hold die (linesOf off n)).1.poisoned (dramKey die off) n))
    else (s.hold die (linesOf off n)).1.defer (.hostMemRead hpa n)) := by
  have hexec : exec (.hostMemRead hpa n) s = execHostMemRead hpa n s := rfl
  rw [hexec, execHostMemRead, hmap]
  refine congrArg Host.Outcome.next ((if_neg (by rw [hready]; decide)).trans ((if_neg (by rw [hlost, hgood]; decide)).trans (ite_congr rfl (fun _ => rfl) fun _ => ?_)))
  generalize s.hold die (linesOf off n) = r
  obtain ⟨u, b⟩ := r
  cases b <;> rfl

/-- The host holds the lines that it reads. -/
theorem hostMemRead_held {n : Nat} (hn : 0 < n) (hroom : off + n ≤ (s.die die).rsvLo) (hdir : (s.die die).directory.length + n ≤ 1048576) :
    ∃ t, Gives (.hostMemRead hpa n) s t ∧ t = { s with dies := t.dies, egress := t.egress } ∧
      t.egress = s.egress ++ [.hostCompletion hpa (s.readKeyed ((die + 1) * 2 ^ 40 + off) n 0) (s.poisoned ((die + 1) * 2 ^ 40 + off) n)] ∧
      (∀ l, l ∈ (t.die die).directory ↔ l ∈ (s.die die).directory ∨ (off / 64 ≤ l ∧ l ≤ (off + n - 1) / 64)) := by
  rw [← dramKey_eq]
  have hsurplus : (s.die die).directory.length + ((linesOf off n).filter (fun l => !(s.die die).directory.contains l)).length - directoryRoom = 0 := by
    have h1 := List.length_filter_le (fun l => !(s.die die).directory.contains l) (linesOf off n)
    have h2 := length_linesOf_le (off := off) hn
    have hdir' : directoryRoom = 1048576 := rfl
    omega
  have hhold : s.hold die (linesOf off n) = (s.onDie die (fun d => d.holding ((linesOf off n).filter (fun l => !(s.die die).directory.contains l))), true) := by
    rw [State.hold, if_pos hsurplus]
    rfl
  have hexec := hostMemRead_of_good hmap hready hlost hgood n
  rw [reservedRange_of_le hroom, if_neg Bool.false_ne_true, hhold, if_pos rfl] at hexec
  refine ⟨_, hexec, rfl, rfl, fun l => ?_⟩
  have hd : (((s.onDie die (fun d => d.holding ((linesOf off n).filter (fun l => !(s.die die).directory.contains l)))).emit
      (.hostCompletion hpa (s.readKeyed (dramKey die off) n 0) (s.poisoned (dramKey die off) n))).die die).directory =
      (s.die die).directory ++ (linesOf off n).filter (fun l => !(s.die die).directory.contains l) := congrArg Die.directory
      (State.die_onDie s die (fun d => d.holding ((linesOf off n).filter (fun l => !(s.die die).directory.contains l))))
  refine (iff_of_eq (congrArg (l ∈ ·) hd)).trans ?_
  rw [List.mem_append, List.mem_filter, mem_linesOf hn, Bool.not_eq_true', List.contains_eq_mem, decide_eq_false_iff_not]
  by_cases h : l ∈ (s.die die).directory
  · exact iff_of_true (.inl h) (.inl h)
  · simp only [h, false_or, not_false_eq_true, and_true]

theorem hostMemWrite_performed {data : Bytes} (hroom : off + data.length ≤ (s.die die).rsvLo) :
    exec (.hostMemWrite hpa data) s = .next ((s.writeKeyed ((die + 1) * 2 ^ 40 + off) data 0 false).emit (.hostCompletion hpa [] false)) := by
  rw [← dramKey_eq]
  have hexec : exec (.hostMemWrite hpa data) s = execHostMemWrite hpa data s := rfl
  rw [hexec, execHostMemWrite, hmap]
  exact congrArg Host.Outcome.next ((if_neg (by rw [hready]; decide)).trans ((if_neg (by rw [hlost, hgood]; decide)).trans
    (if_neg (by rw [reservedRange_of_le hroom]; decide))))

end

/-- A host access that a zero-length read was to confirm, and that read's completion (spec/16 R355). -/
theorem replyArrival_confirm {s : State} {id v : Nat} {r : Request} (hr : s.request id = some r) (hhost : r.toHost = true) (hkind : r.kind = .confirm) :
    exec (.replyArrival id v false) s = .next ((s.confirmedBy r).dropRequest id) := by
  have hforeign : r.foreign = none ∧ s.returns r = true := by
    rw [Request.toHost, Bool.and_eq_true, Bool.and_eq_true, Bool.and_eq_true] at hhost
    obtain ⟨⟨⟨-, hf⟩, -⟩, ht⟩ := hhost
    refine ⟨Option.isNone_iff_eq_none.1 hf, ?_⟩
    rw [State.returns]
    split at ht
    case h_1 a ho => rw [ho]
    case h_2 => cases ht
  have hexec : exec (.replyArrival id v false) s = execReplyArrival id v false s := rfl
  rw [hexec, execReplyArrival, hr]
  refine congrArg Host.Outcome.next ((if_neg (by rw [hforeign.2]; simp)).trans ?_)
  simp only [hhost, hkind, hforeign.1, ReqKind.confirms, Bool.not_false, Bool.and_self, if_true]

theorem foldl_post {α : Type} (f : α → Instr) (l : List α) : ∀ s : State,
    l.foldl (fun s a => s.post (f a)) s = { s with agenda := s.agenda ++ l.map f } := by
  induction l with
  | nil => exact fun s => congrArg (fun x => { s with agenda := x }) (List.append_nil _).symm
  | cons a l ih =>
    intro s
    rw [List.foldl_cons, ih]
    exact congrArg (fun x => { s with agenda := x }) (List.append_assoc s.agenda [f a] (l.map f))

/-! The timestamp. -/

section
variable {s : State} {m d : Nat} (hm : s.mgmt.isMaster = false)
include hm

theorem timestampSync_locked (hlo : -8 ≤ ((BitVec.ofNat 64 (m + d)).toNat : Int) - s.now.toNat)
    (hhi : ((BitVec.ofNat 64 (m + d)).toNat : Int) - s.now.toNat ≤ 8) :
    Gives (.timestampSync m d) s { s with drift := ((BitVec.ofNat 64 (m + d)).toNat : Int) - s.now.toNat, locked := true, stepped := true } :=
  congrArg Host.Outcome.next ((if_neg (by rw [hm]; exact Bool.false_ne_true)).trans (if_pos ⟨hlo, hhi⟩))

theorem timestampSync_apart (h : ((BitVec.ofNat 64 (m + d)).toNat : Int) - s.now.toNat < -8 ∨
    8 < ((BitVec.ofNat 64 (m + d)).toNat : Int) - s.now.toNat ∧ s.stepped = true) :
    Gives (.timestampSync m d) s { s with drift := ((BitVec.ofNat 64 (m + d)).toNat : Int) - s.now.toNat, locked := false } := by
  refine congrArg Host.Outcome.next ((if_neg (by rw [hm]; exact Bool.false_ne_true)).trans ((if_neg ?_).trans (if_neg ?_)))
  · rintro ⟨hlo, hhi⟩
    exact h.elim (fun h => absurd hlo (not_le.2 h)) (fun h => absurd hhi (not_le.2 h.1))
  · rw [Bool.and_eq_true, decide_eq_true_eq, Bool.not_eq_true']
    rintro ⟨hpos, hstep⟩
    rcases h with h | ⟨-, h⟩
    · exact absurd (hpos.trans h) (by decide)
    · rw [h] at hstep; cases hstep

end

/-- The packet of the master's time on a port. -/
def State.timePacket (s : State) (n : Nat) : Packet :=
  sized { ctlPacket 0x0A (s.here + (portDie n * 64 + 50) * 16) 0 0 0 0 (toBytes 8 s.now.toNat) with eport := n }

/-- Sending the time changes what has left the module alone. -/
theorem sendTimestamps_foldl (l : List Nat) : ∀ s : State, ∃ e,
    l.foldl (fun s n => if (s.port n).trained then s.emit (.packet n (s.timePacket n)) else s) s = { s with egress := s.egress ++ e } ∧
    ∀ n ∈ l, (s.port n).trained = true → .packet n (s.timePacket n) ∈ e := by
  induction l with
  | nil => exact fun s => ⟨[], congrArg (fun x => { s with egress := x }) (List.append_nil _).symm, fun n h => absurd h List.not_mem_nil⟩
  | cons a l ih =>
    intro s
    by_cases ha : (s.port a).trained = true
    · obtain ⟨e, he, hmem⟩ := ih (s.emit (.packet a (s.timePacket a)))
      refine ⟨.packet a (s.timePacket a) :: e, ?_, fun n hn ht => ?_⟩
      · rw [List.foldl_cons, if_pos ha, he]
        exact congrArg (fun x => { s with egress := x }) (List.append_assoc s.egress [_] e)
      · rcases List.mem_cons.1 hn with h | h
        · rw [h]; exact List.mem_cons_self
        · exact List.mem_cons_of_mem _ (hmem n h ht)
    · obtain ⟨e, he, hmem⟩ := ih s
      refine ⟨e, ?_, fun n hn ht => ?_⟩
      · rw [List.foldl_cons, if_neg ha, he]
      · rcases List.mem_cons.1 hn with h | h
        · exact absurd (h ▸ ht) ha
        · exact hmem n h ht

theorem timestampSync_master {s : State} (m d : Nat) (hm : s.mgmt.isMaster = true) :
    ∃ t, Gives (.timestampSync m d) s t ∧ t.locked = true ∧ t.mem = s.mem ∧ t.now = s.now ∧
      ∀ n, n < 16 → (s.port n).trained = true → ∃ p, .packet n p ∈ t.egress ∧ p.kind = 0x0A ∧ p.cls = 1 ∧ p.data = toBytes 8 s.now.toNat := by
  obtain ⟨e, he, hmem⟩ := sendTimestamps_foldl (List.range 16) { s with locked := true, stepped := true }
  refine ⟨_, congrArg Host.Outcome.next ((if_pos hm).trans he), rfl, rfl, rfl, fun n hn ht => ?_⟩
  exact ⟨_, List.mem_append_right _ (hmem n (List.mem_range.2 hn) ht), rfl, rfl, rfl⟩

/-! Control pages and queue windows. -/

theorem controlWord_errors {n : Nat} (hn : n < 8) : controlWord (0x0200B000 + 8 * n) = some true := by
  rw [controlWord, if_neg (by omega), if_neg (by omega), if_neg (by omega), if_neg (by omega), if_neg (by omega), if_pos (by omega)]

theorem controlWord_ne_some_true {o : Nat} (ho : o < 0xB000) : controlWord (0x02000000 + o) ≠ some true := by
  rw [controlWord, if_neg (by omega), Nat.add_sub_cancel_left]
  split
  · split <;> decide
  · split
    · split <;> decide
    · split
      · decide
      · split
        · decide
        · rw [if_neg (by omega)]; decide

/-- From one state to another memory, slots and queues stay. -/
structure KeepsQueues (s u : State) : Prop where
  mem : u.mem = s.mem
  slots : u.slots = s.slots
  queues : u.queues = s.queues

theorem KeepsQueues.refl (s : State) : KeepsQueues s s := ⟨rfl, rfl, rfl⟩
theorem KeepsQueues.trans {s t u : State} (h : KeepsQueues s t) (h' : KeepsQueues t u) : KeepsQueues s u :=
  ⟨h'.mem.trans h.mem, h'.slots.trans h.slots, h'.queues.trans h.queues⟩
theorem KeepsQueues.foldl {α : Type} {f : State → α → State} (hf : ∀ s a, KeepsQueues s (f s a)) (l : List α) (s : State) : KeepsQueues s (l.foldl f s) :=
  List.foldlRecOn l f (motive := KeepsQueues s) (.refl s) fun u hu a _ => hu.trans (hf u a)

theorem onTlb_keepsQueues (s : State) (n : Nat) (f : Tlb → Tlb) : KeepsQueues s (s.onTlb n f) := by
  rw [State.onTlb]
  split
  · exact ⟨rfl, rfl, rfl⟩
  · split <;> exact ⟨rfl, rfl, rfl⟩

theorem walked_keepsQueues (s : State) (part : Nat) (va : Word) : KeepsQueues s (s.walked part va) := by
  rw [State.walked]
  split
  · exact .refl s
  · generalize s.walk part va = r
    have hcount : KeepsQueues s (if r.2 = 0 then s else s.countDie (shardOf va) 0 r.2) := by
      split
      · exact .refl s
      · exact ⟨rfl, rfl, rfl⟩
    obtain ⟨o, n⟩ := r
    cases o with
    | none => exact hcount
    | some e => exact hcount.trans (onTlb_keepsQueues _ _ _)

theorem snoop_keepsQueues {s u : State} {lines : List (Nat × Nat)} {write : Bool} (h : s.snoop lines write = some u) : KeepsQueues s u := by
  rw [State.snoop] at h
  split at h
  · cases h
  · rw [← Option.some.inj h]
    refine .foldl (fun s l => ?_) _ _
    split
    · exact .refl s
    · exact ⟨rfl, rfl, rfl⟩

theorem prefetchEntry_keepsQueues (s : State) (part queue : Nat) (b : Bytes) : KeepsQueues s (s.prefetchEntry part queue b) := by
  rw [State.prefetchEntry]
  split
  · exact .refl s
  · generalize s.adapterRead part queue b = r
    have hwalk : KeepsQueues s (r.at_.foldl (fun s va => s.walked part va) s) := .foldl (fun s va => walked_keepsQueues s part va) _ _
    dsimp only
    split
    · exact hwalk
    · cases hsnoop : (r.at_.foldl (fun s va => s.walked part va) s).snoop r.lines false with
      | none => exact hwalk
      | some u => exact hwalk.trans (snoop_keepsQueues hsnoop)

theorem State.queue_onQueue (s : State) (n : Nat) (f : Queue → Queue) : (s.onQueue n f).queue n = f (s.queue n) := Assoc.get_set_same ..

theorem adapterPrefetch_ahead {s : State} {n : Nat} (hen : (s.queue n).cfg0.getLsbD 63 = true) (hcfg : (s.queue n).cfg1 ≠ 0) :
    ∃ t, Gives (.adapterPrefetch n) s t ∧ t.mem = s.mem ∧ t.slots = s.slots ∧
      (t.queue n).ahead = max (s.queue n).ahead (min 8 (s.queue n).ring.length) := by
  have hkeep : KeepsQueues s ((((s.queue n).ring.take 8).drop (s.queue n).ahead).foldl (fun s' b => s'.prefetchEntry (s.queue n).part n b) s) :=
    .foldl (fun s' b => prefetchEntry_keepsQueues s' _ n b) _ _
  have hon : ((s.queue n).enabled && (s.queue n).cfg1 != 0) = true :=
    Bool.and_eq_true_iff.2 ⟨(testN_toNat _ _).trans hen, bne_iff_ne.2 hcfg⟩
  refine ⟨_, congrArg Host.Outcome.next (if_pos hon), hkeep.mem, hkeep.slots, ?_⟩
  rw [State.queue_onQueue, State.queue, hkeep.queues]
  rfl

/-- A command in the ring of its queue. -/
def Queue.stored (data : Bytes) (q : Queue) : Queue := { q with ring := q.ring ++ [data], posted := q.posted + 1 }

theorem commandStore_taken {s : State} {n : Nat} {data : Bytes} (hn : n < 2048) (hlen : data.length = 64) (hen : (s.queue n).cfg0.getLsbD 63 = true)
    (hroom : ((s.queue n).posted - (s.queue n).taken).toNat < 2 ^ ((s.queue n).cfg0.toNat / 2 ^ 36 % 16)) :
    exec (.commandStore n 0 data) s = .next (((s.onQueue n (Queue.stored data)).post
      (commandEvent n data)).post (.adapterPrefetch n)) := by
  have hacc : (s.queue n).accepts data = true := by
    rw [Queue.accepts, Bool.and_eq_true, Bool.and_eq_true]
    exact ⟨⟨beq_iff_eq.2 hlen, (testN_toNat _ _).trans hen⟩, decide_eq_true hroom⟩
  exact congrArg Host.Outcome.next ((if_neg (by omega)).trans (if_pos hacc))

theorem refuses_eq_false {q : Queue} {v : Word} (h : QcfgFine q v) : q.refuses v = false := by
  obtain ⟨hres, hweight, hsize, hlo, hhi, hsame⟩ := h
  have hfields := (reserved_clear_iff (m := ~~~0x3003000FFFFFFFFF) (fields := [(61, 60), (49, 48), (35, 0)]) (by decide) v).1
    (by rw [BitVec.not_not]; exact hres)
  rw [List.forall_mem_cons, List.forall_mem_cons, List.forall_mem_singleton] at hfields
  obtain ⟨h1, h2, h3⟩ := hfields
  have hsame' : (q.enabled && (bits v 47 44 != q.part || bits v 39 36 != bits q.cfg0 39 36)) = false := by
    cases hen : q.enabled with
    | false => rfl
    | true =>
      obtain ⟨hp, hs⟩ := hsame ((testN_toNat _ _).symm.trans hen)
      rw [bne_eq_false_iff_eq.2 (show bits v 47 44 = q.part from hp), bne_eq_false_iff_eq.2 (show bits v 39 36 = bits q.cfg0 39 36 from hs)]
      rfl
  have hdec1 : decide (10 < bits v 43 40) = false := decide_eq_false (Nat.not_lt.2 hsize)
  have hdec2 : decide (bits v 39 36 < 2 ∨ 8 < bits v 39 36) = false := decide_eq_false (not_or.2 ⟨Nat.not_lt.2 hlo, Nat.not_lt.2 hhi⟩)
  have hweight' : (bits v 59 52 == 0) = false := beq_eq_false_iff_ne.2 hweight
  rw [Queue.refuses, h1, h2, h3, hweight', hdec1, hdec2, hsame']
  rfl

theorem qcfgWrite_fine {s : State} {n : Nat} {v : Word} (hn : n < 2048) (h : QcfgFine (s.queue n) v) :
    exec (.qcfgWrite n false v) s = .next (s.onQueue n (fun q => { q with cfg0 := v })) :=
  congrArg Host.Outcome.next ((if_neg (by omega)).trans ((if_neg Bool.false_ne_true).trans (if_neg (by rw [refuses_eq_false h]; exact Bool.false_ne_true))))

theorem retag_keeps (s : State) (k n key : Nat) : (s.retag k n key).egress = s.egress ∧ (s.retag k n key).slots = s.slots := by
  refine List.foldlRecOn _ _ (motive := fun u : State => u.egress = s.egress ∧ u.slots = s.slots) ⟨rfl, rfl⟩ fun u hu i _ => ?_
  dsimp only
  split
  · exact hu
  · exact hu

theorem writeKeyed_keeps (s : State) (k : Nat) (bs : Bytes) (page : Nat) :
    (s.writeKeyed k bs page false).egress = s.egress ∧ (s.writeKeyed k bs page false).slots = s.slots := by
  rw [State.writeKeyed]
  split
  · exact ⟨rfl, rfl⟩
  · exact retag_keeps s k bs.length (s.keyNumber page)

/-- A die whose host has given a line back. -/
def Die.released (line : Nat) (d : Die) : Die := { d with snooped := d.snooped.filter (· != line), directory := d.directory.filter (· != line) }

theorem not_mem_filter_ne (l : List Nat) (x : Nat) : x ∉ l.filter (· != x) := fun h => by
  have := (List.mem_filter.1 h).2
  exact bne_iff_ne.1 this rfl

theorem backInvalidateResponse_clean {s : State} {die line : Nat} (h : line ∈ (s.die die).snooped) :
    ∃ t, Gives (.backInvalidateResponse die line none) s t ∧ t = { s with dies := t.dies, agenda := s.agenda ++ s.deferred, deferred := [] } ∧
      line ∉ (t.die die).directory ∧ line ∉ (t.die die).snooped := by
  have hin : ¬(!(s.die die).snooped.contains line) = true := by rw [List.contains_iff_mem.2 h]; exact Bool.false_ne_true
  have hdie : (s.onDie die (Die.released line)).die die = (s.die die).released line := State.die_onDie ..
  refine ⟨{ s.onDie die (Die.released line) with agenda := s.agenda ++ s.deferred, deferred := [] }, congrArg Host.Outcome.next (if_neg hin), rfl, ?_, ?_⟩
  · show line ∉ ((s.onDie die (Die.released line)).die die).directory
    rw [hdie]
    exact not_mem_filter_ne _ _
  · show line ∉ ((s.onDie die (Die.released line)).die die).snooped
    rw [hdie]
    exact not_mem_filter_ne _ _

theorem registerWrite_error (s : State) {gt n : Nat} (v : Word) (hgt : gt < 256) (hn : n < 8) :
    exec (.registerWrite gt (0x0200B000 + 8 * n) v) s = .next (s.onTile gt (fun t => { t with errors := vset t.errors n v })) := by
  have hoff : (0x0200B000 + 8 * n - 0x0200B000) / 8 = n := by omega
  have hword : (decide (controlWord (0x0200B000 + 8 * n) = some true) && (0x0200B000 + 8 * n) % 8 == 0) = true := by
    rw [controlWord_errors hn, decide_eq_true rfl, Bool.true_and, beq_iff_eq]
    omega
  refine congrArg Host.Outcome.next ((if_neg (by omega)).trans ((if_pos hword).trans ?_))
  rw [State.controlWrite, hoff]

theorem registerWrite_errors {s : State} {gt n : Nat} (v : Word) (hgt : gt < 256) (hn : n < 8) :
    ∃ t, Gives (.registerWrite gt (0x0200B000 + 8 * n) v) s t ∧ t = { s with tiles := t.tiles } ∧
      (∀ k, k < 8 → vget (t.tile gt).errors k = if k = n then v else vget (s.tile gt).errors k) ∧ (∀ g, g ≠ gt → t.tile g = s.tile g) := by
  refine ⟨_, registerWrite_error s v hgt hn, rfl, fun k hk => ?_, fun g hg => State.tile_setTile_ne s gt g _ hg⟩
  rw [State.tile_onTile]
  by_cases h : k = n
  · rw [if_pos h, h]
    exact vget_vset _ _ _
  · rw [if_neg h]
    exact vget_vset_ne _ _ _ _ (by rw [Nat.mod_eq_of_lt hn, Nat.mod_eq_of_lt hk]; exact Ne.symm h)

theorem registerWrite_readOnly (s : State) {gt o : Nat} (v : Word) (hgt : gt < 256) (ho : o < 0xB000) :
    exec (.registerWrite gt (0x02000000 + o) v) s = .next s := by
  have hword : ¬(decide (controlWord (0x02000000 + o) = some true) && (0x02000000 + o) % 8 == 0) = true := by
    rw [Bool.and_eq_true, decide_eq_true_eq]
    exact fun h => controlWord_ne_some_true ho h.1
  exact congrArg Host.Outcome.next ((if_neg (by omega)).trans (if_neg hword))

theorem registerWrite_hdmBase (s : State) (v : Word) : exec (.registerWrite 256 0 v) s = .next { s with host := { s.host with hdmBase := v.toNat } } :=
  congrArg Host.Outcome.next (if_pos rfl)

theorem hostFailure_bare {s : State} {id : Nat} {r : Request}
    (hr : s.requests.find? (fun r => r.id == id && r.remote && r.phase != .performed) = some r) (hstore : r.kind.isStore = false) (hkind : r.kind ≠ .confirm) :
    s.hostFailure id = (s.countHost false).answerBare r := by
  rw [State.hostFailure, show (s.countHost false).requests = s.requests from rfl, hr]
  refine (if_neg ?_).trans (if_pos ?_)
  · rw [beq_iff_eq]; exact hkind
  · rw [hstore]; rfl

theorem answerBare_frame (s : State) (r : Request) :
    (s.answerBare r).agenda = s.agenda ++ [.replyArrival r.id 0 true] ∧ (s.answerBare r).host = s.host ∧ (s.answerBare r).mem = s.mem := by
  rw [State.answerBare]
  split <;> exact ⟨rfl, rfl, rfl⟩

theorem emit_frame (s : State) (e : Egress) : (s.emit e).egress = s.egress ++ [e] ∧ (s.emit e).slots = s.slots ∧ (s.emit e).mem = s.mem := ⟨rfl, rfl, rfl⟩

/-- Settles O48: each event by what it finds at the host link, the ports, the control pages and the queues. -/
theorem hostAndTime : Obligations.HostAndTime := by
  intro s
  refine ⟨fun hpa n data hmap => ?_, fun hpa die off hmap hready hlost hgood hdie => ⟨fun n hn hroom hdir => hostMemRead_held hmap hready hlost hgood hn hroom hdir,
    fun data hroom => ⟨_, hostMemWrite_performed hmap hready hlost hgood hroom, ?_⟩, fun n hres => ?_⟩, fun die line hdie hline => ?_,
    fun id r hr hstore hkind => ?_, fun id v r hr hhost hkind => ?_, fun m d hm => ⟨fun h => timestampSync_locked hm h.1 h.2, fun h => timestampSync_apart hm h⟩,
    fun m d hm => timestampSync_master m d hm, fun port n hp => ⟨_, rfl, rfl, ?_⟩, fun v => registerWrite_hdmBase s v,
    fun gt n v hgt hn => registerWrite_errors v hgt hn, fun gt o v hgt ho => registerWrite_readOnly s v hgt ho,
    fun n data hn hlen hen hroom => ?_, fun n v hn hfine => ⟨_, qcfgWrite_fine hn hfine, ?_, rfl⟩, fun n hen hcfg => adapterPrefetch_ahead hen hcfg⟩
  · have hr : execHostMemRead hpa n s = .fault (.outsideHdm hpa) := by rw [execHostMemRead, hmap]
    have hw : execHostMemWrite hpa data s = .fault (.outsideHdm hpa) := by rw [execHostMemWrite, hmap]
    exact ⟨hr, hw⟩
  · obtain ⟨hegress, hslots⟩ := writeKeyed_keeps s ((die + 1) * 2 ^ 40 + off) data 0
    obtain ⟨hsent, hslots', hmem⟩ := emit_frame (s.writeKeyed ((die + 1) * 2 ^ 40 + off) data 0 false) (.hostCompletion hpa [] false)
    exact ⟨hsent.trans (by rw [hegress]), hslots'.trans hslots, hmem⟩
  · exact (hostMemRead_of_good hmap hready hlost hgood n).trans (congrArg Host.Outcome.next (if_pos (decide_eq_true hres)))
  · exact backInvalidateResponse_clean hline
  · have hfail := hostFailure_bare hr hstore hkind
    obtain ⟨hagenda, hhost, hmem⟩ := answerBare_frame (s.countHost false) r
    exact ⟨_, congrArg Host.Outcome.next hfail, congrArg Host.Outcome.next hfail, hagenda, congrArg HostLink.errors hhost, hmem⟩
  · have hid : r.id = id := beq_iff_eq.1 (List.find?_some (p := fun r : Request => r.id == id) hr)
    refine ⟨_, replyArrival_confirm hr hhost hkind, ?_⟩
    rw [State.confirmedBy, foldl_post, hid]
    exact ⟨rfl, rfl, rfl⟩
  · exact congrArg Port.delay (vget_vset _ _ _)
  · refine ⟨_, commandStore_taken hn hlen hen hroom, ?_, ?_, rfl⟩
    · exact congrArg Queue.ring (State.queue_onQueue s n (Queue.stored data))
    · exact congrArg Queue.posted (State.queue_onQueue s n (Queue.stored data))
  · exact congrArg Queue.cfg0 (State.queue_onQueue s n _)

end Sys2Proof.Machine

namespace Sys2Proof.Machine

open Sys2Proof.Claims

set_option Elab.async false

/-! ## The arbiter with one head that needs several rounds of credit (spec/02 R40) -/

/-- One slot alone has a head; it is ready, and its cost is within `m` quanta. -/
structure LoneHeadWithin (heads : Vector (Option Head) 4) (quanta : Vector Nat 4) (i : Fin 4) (h : Head) (m : Nat) : Prop where
  head : heads.get i = some h
  ready : h.ready = true
  others : ∀ j, j ≠ i → heads.get j = none
  cost : h.cost ≤ m * quanta.get i

section
variable {heads : Vector (Option Head) 4} {quanta : Vector Nat 4} {i : Fin 4} {h : Head} {m : Nat} (hl : LoneHeadWithin heads quanta i h m)
include hl

/-- The arbiter comes round to the one head, whose deficit stays. -/
theorem Arbiter.choose_reach (k fuel : Nat) : ∀ {a : Arbiter}, (a.at_.val + k) % 4 = i.val → k < 4 → (k = 0 → a.credited = false) →
    ∃ b : Arbiter, b.at_ = i ∧ b.credited = false ∧ b.deficit.get i = a.deficit.get i ∧
      Arbiter.choose heads quanta (fuel + k) a = Arbiter.choose heads quanta fuel b := by
  induction k with
  | zero => exact fun {a} hk _ hc => ⟨a, Fin.ext (by have := a.at_.isLt; omega), hc rfl, rfl, rfl⟩
  | succ k ih =>
    intro a hk hlt _
    have haway : a.at_ ≠ i := fun hat => by rw [hat] at hk; have := i.isLt; omega
    have hval : (nextSlot a.at_).val = (a.at_.val + 1) % 4 := rfl
    obtain ⟨b, hat, hcr, hdef, hchoose⟩ := ih (a := { a with deficit := a.deficit.set a.at_.val 0 a.at_.isLt, at_ := nextSlot a.at_, credited := false })
      (by show ((nextSlot a.at_).val + k) % 4 = i.val; omega) (by omega) (fun _ => rfl)
    refine ⟨b, hat, hcr, hdef.trans ?_, ?_⟩
    · exact (vector_get_set _ _ _ _).trans (if_neg (Ne.symm haway))
    · rw [← Nat.add_assoc, Arbiter.choose, hl.others _ haway]
      exact hchoose

theorem Arbiter.choose_bind (fuel : Nat) {a : Arbiter} (hat : a.at_ = i) (hnow : h.cost ≤ a.deficit.get i + if a.credited then 0 else quanta.get i) :
    ∃ arb, Arbiter.choose heads quanta (fuel + 1) a = some (i, arb) := by
  simp only [Arbiter.choose, hat, hl.head, hl.ready, Bool.not_true, Bool.false_eq_true, if_false, hnow, if_true]
  exact ⟨_, rfl⟩

theorem Arbiter.choose_short (fuel : Nat) {a : Arbiter} (hat : a.at_ = i) (hnow : ¬h.cost ≤ a.deficit.get i + if a.credited then 0 else quanta.get i) :
    Arbiter.choose heads quanta (fuel + 1) a = Arbiter.choose heads quanta fuel
      { a with deficit := a.deficit.set i.val (a.deficit.get i + if a.credited then 0 else quanta.get i) i.isLt, at_ := nextSlot i, credited := false } := by
  rw [Arbiter.choose]
  simp only [hat, hl.head, hl.ready, Bool.not_true, Bool.false_eq_true, if_false, hnow]

/-- With the credit of `n + 1` visits the head binds at the last of them. -/
theorem Arbiter.choose_of_credit (n extra : Nat) : ∀ {a : Arbiter}, a.at_ = i → a.credited = false → h.cost ≤ a.deficit.get i + (n + 1) * quanta.get i →
    ∃ arb, Arbiter.choose heads quanta (4 * n + 1 + extra) a = some (i, arb) := by
  induction n with
  | zero =>
    intro a hat hc hcost
    rw [Nat.zero_add, Nat.one_mul] at hcost
    rw [Nat.mul_zero, Nat.zero_add, Nat.add_comm]
    exact Arbiter.choose_bind hl extra hat (by rw [hc]; exact hcost)
  | succ n ih =>
    intro a hat hc hcost
    by_cases hnow : h.cost ≤ a.deficit.get i + quanta.get i
    · rw [show 4 * (n + 1) + 1 + extra = 4 * (n + 1) + extra + 1 by omega]
      exact Arbiter.choose_bind hl _ hat (by rw [hc]; exact hnow)
    · have hval : (nextSlot i).val = (i.val + 1) % 4 := rfl
      obtain ⟨b, hbat, hbc, hbd, hchoose⟩ := Arbiter.choose_reach hl 3 (4 * n + 1 + extra)
        (a := { a with deficit := a.deficit.set i.val (a.deficit.get i + quanta.get i) i.isLt, at_ := nextSlot i, credited := false })
        (by show ((nextSlot i).val + 3) % 4 = i.val; omega) (by decide) (fun _ => rfl)
      have hcredit : b.deficit.get i = a.deficit.get i + quanta.get i := hbd.trans ((vector_get_set _ _ _ _).trans (if_pos rfl))
      obtain ⟨arb, harb⟩ := ih hbat hbc (by rw [Nat.succ_mul (n + 1)] at hcost; rw [hcredit]; omega)
      refine ⟨arb, ?_⟩
      rw [show 4 * (n + 1) + 1 + extra = 4 * n + 1 + extra + 3 + 1 by omega, Arbiter.choose_short hl _ hat (by rw [hc]; exact hnow), hc]
      exact hchoose.trans harb

/-- A lone head within seven quanta is picked. -/
theorem Arbiter.pick_of_loneHeadWithin (hm : m ≤ 7) (a : Arbiter) : ∃ arb, a.pick heads quanta = some (i, arb) := by
  have hany : heads.toList.any (fun h => match h with
      | some h => h.ready
      | none => false) = true := by
    refine List.any_eq_true.2 ⟨some h, ?_, hl.ready⟩
    rw [← hl.head]
    exact Vector.mem_toList_iff.2 (Vector.getElem_mem i.isLt)
  rw [show a.pick heads quanta = Arbiter.choose heads quanta 32 a from if_pos hany]
  have hcost : ∀ d, h.cost ≤ d + (6 + 1) * quanta.get i := fun d =>
    hl.cost.trans ((Nat.mul_le_mul_right _ hm).trans (Nat.le_add_left _ _))
  -- seven visits, and at most four steps before the first that gives credit
  have hround : ∀ (k : Nat) (b : Arbiter), (b.at_.val + k) % 4 = i.val → k < 4 → (k = 0 → b.credited = false) → ∀ extra,
      ∃ arb, Arbiter.choose heads quanta (4 * 6 + 1 + extra + k) b = some (i, arb) := by
    intro k b hk hlt hc extra
    obtain ⟨b', hat, hcr, -, hchoose⟩ := Arbiter.choose_reach hl k (4 * 6 + 1 + extra) hk hlt hc
    obtain ⟨arb, harb⟩ := Arbiter.choose_of_credit hl 6 extra hat hcr (hcost _)
    exact ⟨arb, hchoose.trans harb⟩
  by_cases hat : a.at_ = i
  · by_cases hnow : h.cost ≤ a.deficit.get i + if a.credited then 0 else quanta.get i
    · exact Arbiter.choose_bind hl 31 hat hnow
    · have hval : (nextSlot i).val = (i.val + 1) % 4 := rfl
      obtain ⟨arb, harb⟩ := hround 3 { a with deficit := a.deficit.set i.val (a.deficit.get i + if a.credited then 0 else quanta.get i) i.isLt, at_ := nextSlot i, credited := false }
        (by show ((nextSlot i).val + 3) % 4 = i.val; omega) (by decide) (fun _ => rfl) 3
      exact ⟨arb, (Arbiter.choose_short hl 31 hat hnow).trans harb⟩
  · have hne : a.at_.val ≠ i.val := fun h => hat (Fin.ext h)
    have hi := i.isLt
    have ha := a.at_.isLt
    obtain ⟨arb, harb⟩ := hround ((i.val + 4 - a.at_.val) % 4) a (by omega) (Nat.mod_lt _ (by decide)) (fun h0 => by omega) (7 - (i.val + 4 - a.at_.val) % 4)
    refine ⟨arb, ?_⟩
    rwa [show 4 * 6 + 1 + (7 - (i.val + 4 - a.at_.val) % 4) + (i.val + 4 - a.at_.val) % 4 = 32 by omega] at harb

end

/-! ## The order of scores (spec/10 R251) -/

/-- The place of a value that is no NaN in the order of all: the infinities around the finite ones. -/
def Num.place : Num → ℤ ×ₗ ℚ
  | .inf true => toLex (-1, 0)
  | .inf false => toLex (1, 0)
  | .fin neg n e _ => toLex (0, (if neg then -(n : ℚ) else n) * 2 ^ e)
  | .nan _ => toLex (0, 0)

theorem addUnits_lt_zero_iff (s1 : Bool) (n1 : Nat) (e1 : Int) (s2 : Bool) (n2 : Nat) (e2 : Int) :
    (addUnits s1 n1 e1 (!s2) n2 e2).1 < 0 ↔ (if s1 then -(n1 : ℚ) else n1) * 2 ^ e1 < (if s2 then -(n2 : ℚ) else n2) * 2 ^ e2 := by
  have hscale : ∀ e : Int, min e1 e2 ≤ e → (2 : ℚ) ^ e = 2 ^ (e - min e1 e2).toNat * 2 ^ min e1 e2 := fun e he => by
    rw [← zpow_natCast, ← zpow_add₀ (by norm_num), Int.toNat_of_nonneg (by omega), Int.sub_add_cancel]
  have hpos : (0 : ℚ) < 2 ^ min e1 e2 := zpow_pos (by norm_num) _
  rw [hscale e1 (min_le_left _ _), hscale e2 (min_le_right _ _), ← mul_assoc, ← mul_assoc, mul_lt_mul_iff_left₀ hpos]
  have hcast : (((addUnits s1 n1 e1 (!s2) n2 e2).1 : Int) : ℚ) = (if s1 then -(n1 : ℚ) else n1) * 2 ^ (e1 - min e1 e2).toNat -
      (if s2 then -(n2 : ℚ) else n2) * 2 ^ (e2 - min e1 e2).toNat := by
    rw [addUnits]
    cases s1 <;> cases s2 <;> simp <;> ring
  rw [← Int.cast_lt (R := ℚ), hcast, Int.cast_zero, sub_neg]

/-- The order of values is that of their places. -/
theorem ltNum_iff {x y : Num} (hx : x.isNaN = false) (hy : y.isNaN = false) : ltNum x y = true ↔ x.place < y.place := by
  cases x with
  | nan s => cases hx
  | inf s =>
    cases y with
    | nan t => cases hy
    | inf t => cases s <;> cases t <;> decide
    | fin t n e k => 
      cases s <;> simp [ltNum, Num.place, Prod.Lex.toLex_lt_toLex]
  | fin s n e k =>
    cases y with
    | nan t => cases hy
    | inf t => cases t <;> simp [ltNum, Num.place, Prod.Lex.toLex_lt_toLex]
    | fin t m f l =>
      rw [ltNum, decide_eq_true_iff, addUnits_lt_zero_iff, Num.place, Num.place, Prod.Lex.toLex_lt_toLex]
      simp

/-! The winner of a ranking step. -/

/-- The largest element that passes a test, and the first of those that are equal to it. -/
structure Best {α : Type} [LinearOrder α] (p : Nat → Prop) (f : Nat → α) (n : Nat) (b : Option Nat) : Prop where
  none_of : b = none → ∀ v, v < n → ¬p v
  some_of : ∀ w, b = some w → (w < n ∧ p w) ∧ ∀ v, v < n → p v → f v ≤ f w ∧ (v < w → f v < f w)

theorem best_step {α : Type} [LinearOrder α] {p : Nat → Prop} {f : Nat → α} {n : Nat} {b : Option Nat} (h : Best p f n b) :
    (¬p n → Best p f (n + 1) b) ∧ (p n → (∀ w, b = some w → ¬f w < f n) → b ≠ none → Best p f (n + 1) b) ∧
    (p n → (∀ w, b = some w → f w < f n) → Best p f (n + 1) (some n)) := by
  refine ⟨fun hn => ⟨fun hb v hv hp => ?_, fun w hw => ?_⟩, fun hn hle hne => ⟨fun hb => absurd hb hne, fun w hw => ?_⟩,
    fun hn hlt => ⟨fun hb => (by cases hb), fun w hw => ?_⟩⟩
  · rcases Nat.lt_succ_iff_lt_or_eq.1 hv with hv | rfl
    · exact h.none_of hb v hv hp
    · exact hn hp
  · obtain ⟨⟨hwn, hwp⟩, hall⟩ := h.some_of w hw
    refine ⟨⟨Nat.lt_succ_of_lt hwn, hwp⟩, fun v hv hp => ?_⟩
    rcases Nat.lt_succ_iff_lt_or_eq.1 hv with hv | rfl
    · exact hall v hv hp
    · exact absurd hp hn
  · obtain ⟨⟨hwn, hwp⟩, hall⟩ := h.some_of w hw
    refine ⟨⟨Nat.lt_succ_of_lt hwn, hwp⟩, fun v hv hp => ?_⟩
    rcases Nat.lt_succ_iff_lt_or_eq.1 hv with hv | rfl
    · exact hall v hv hp
    · exact ⟨le_of_not_gt (hle w hw), fun hlt => absurd hlt (Nat.not_lt.2 hwn.le)⟩
  · cases hw
    refine ⟨⟨Nat.lt_succ_self n, hn⟩, fun v hv hp => ?_⟩
    rcases Nat.lt_succ_iff_lt_or_eq.1 hv with hv' | rfl
    · have hvn : f v < f n := by
        cases hb : b with
        | none => exact absurd hp (h.none_of hb v hv')
        | some w => exact lt_of_le_of_lt ((h.some_of w hb).2 v hv' hp).1 (hlt w hb)
      exact ⟨hvn.le, fun _ => hvn⟩
    · exact ⟨le_rfl, fun hlt => absurd hlt (Nat.lt_irrefl _)⟩

section
variable (cfg : Word) (dead : BitVec 1024) (data : Bytes) (r : Ranking)

/-- The value of an expert's score. -/
def scoreNum (data : Bytes) (v : Nat) : Num := decode32 (scoreOf data v)

theorem isNaN_of_eligible {v : Nat} (h : r.eligible cfg dead data v = true) : (scoreNum data v).isNaN = false := by
  rw [Ranking.eligible, Bool.and_eq_true, Bool.and_eq_true, Bool.and_eq_true, Bool.not_eq_true', Bool.not_eq_true'] at h
  exact h.1.1.2

theorem best_isBest : Best (fun v => r.eligible cfg dead data v = true) (fun v => (scoreNum data v).place) (selE cfg) (r.best cfg dead data) := by
  rw [Ranking.best]
  induction selE cfg with
  | zero => exact ⟨fun _ v hv => absurd hv (Nat.not_lt_zero v), fun w hw => by cases hw⟩
  | succ n ih =>
    rw [List.range_succ, List.foldl_append, List.foldl_cons, List.foldl_nil]
    generalize (List.range n).foldl _ none = b at ih ⊢
    obtain ⟨hskip, hkeep, htake⟩ := best_step ih
    by_cases hn : r.eligible cfg dead data n = true
    · rw [hn, Bool.not_true, if_neg Bool.false_ne_true]
      cases b with
      | none => exact htake hn (fun w hw => by cases hw)
      | some w =>
        have hiff : ltNum (scoreNum data w) (scoreNum data n) = true ↔ (scoreNum data w).place < (scoreNum data n).place :=
          ltNum_iff (isNaN_of_eligible cfg dead data r (ih.some_of w rfl).1.2) (isNaN_of_eligible cfg dead data r hn)
        show Best _ _ _ (if ltNum (scoreNum data w) (scoreNum data n) = true then some n else some w)
        by_cases hlt : ltNum (scoreNum data w) (scoreNum data n) = true
        · rw [if_pos hlt]
          exact htake hn (fun w' hw' => by cases hw'; exact hiff.1 hlt)
        · rw [if_neg hlt]
          exact hkeep hn (fun w' hw' => by cases hw'; exact fun h => hlt (hiff.2 h)) (by rintro ⟨⟩)
    · rw [if_pos (by rw [Bool.eq_false_iff.2 hn]; rfl)]
      exact hskip hn

/-- What makes an expert eligible (spec/10 R251). -/
theorem eligible_iff (v : Nat) : r.eligible cfg dead data v = true ↔
    dead.getLsbD v = false ∧ (scoreNum data v).isNaN = false ∧ r.win.getLsbD v = false ∧
      (cfg.toNat / 2 ^ 24 % 32 = 0 ∨ r.grp.getLsbD (v / 2 ^ (cfg.toNat / 2 ^ 16 % 16)) = true ∨ popN 1024 r.grp.toNat < cfg.toNat / 2 ^ 24 % 32) := by
  rw [Ranking.eligible, testN_toNat, testN_toNat, testN_toNat, Bool.and_eq_true, Bool.and_eq_true, Bool.and_eq_true, Bool.or_eq_true, Bool.or_eq_true,
    Bool.not_eq_true', Bool.not_eq_true', Bool.not_eq_true', beq_iff_eq, decide_eq_true_eq, and_assoc, and_assoc, or_assoc]
  rfl

end

theorem rankingStep : Claims.RankingStep := by
  intro cfg dead data r n e gs gl num fit
  have hfit : ∀ v, fit v ↔ v < selE cfg ∧ r.eligible cfg dead data v = true := fun v => by
    rw [eligible_iff, show selE cfg = cfg.toNat % 2048 from bits_low cfg 10]
    rfl
  have hbest := best_isBest cfg dead data r
  have hnum : ∀ v, num v = scoreNum data v := fun _ => rfl
  refine ⟨fun w hw => ?_, fun v hv hb => ?_, fun hb => ?_, fun w hw => ?_⟩
  · obtain ⟨hwin, hall⟩ := hbest.some_of w hw
    refine ⟨(hfit w).2 hwin, fun v hv => ?_⟩
    obtain ⟨hvlt, hvel⟩ := (hfit v).1 hv
    have hwN := isNaN_of_eligible cfg dead data r hwin.2
    have hvN := isNaN_of_eligible cfg dead data r hvel
    obtain ⟨hle, htie⟩ := hall v hvlt hvel
    rw [hnum, hnum]
    exact ⟨Bool.eq_false_iff.2 fun h => absurd ((ltNum_iff hwN hvN).1 h) (not_lt.2 hle), fun h => (ltNum_iff hvN hwN).2 (htie h)⟩
  · obtain ⟨hvlt, hvel⟩ := (hfit v).1 hv
    exact hbest.none_of hb v hvlt hvel
  · rw [Ranking.run, hb]
  · have hscore : (scoreOf data w).toNat = field data (4 * w) 4 % 2 ^ 32 := BitVec.toNat_ofNat _ _
    rw [← hscore]
    simp only [Ranking.run, hw]
    rfl

end Sys2Proof.Machine

namespace Sys2Proof.Machine

open Sys2Proof.Claims

set_option Elab.async false

/-! ## Select instructions (spec/10 R250 to R253) -/

theorem eq_window {w : Word} {pkg gt off : Nat} (h : w.toNat = 0xFFFE * 2 ^ 48 + pkg * 2 ^ 38 + gt * 2 ^ 30 + off) (hpkg : pkg < 1024) (hgt : gt < 256)
    (hoff : off < 2 ^ 30) : classify w = .window pkg gt off := by
  have h1 : bits w 63 48 = 0xFFFE := by rw [bits, bitsN, h]; omega
  have h2 : bits w 47 38 = pkg := by rw [bits, bitsN, h]; omega
  have h3 : bits w 37 30 = gt := by rw [bits, bitsN, h]; omega
  have h4 : bits w 29 0 = off := by rw [bits, bitsN, h]; omega
  rw [classify, if_pos h1, h2, h3, h4]

/-- An address in the scratchpad of the slot's own tile. -/
theorem ownScratch_of_window {s : State} {w : Word} {off : Nat} (h : w.toNat = 0xFFFE * 2 ^ 48 + s.mgmt.package * 2 ^ 38 + s.cur / 4 * 2 ^ 30 + off)
    (hpkg : s.mgmt.package < 1024) (hcur : s.cur < 1024) (hoff : off < 2 ^ 22) : s.ownScratch s.cur w 1 = some off := by
  rw [State.ownScratch, eq_window h hpkg (by omega) (by omega)]
  refine if_pos ?_
  rw [Bool.and_eq_true, Bool.and_eq_true, decide_eq_true_eq, decide_eq_true_eq, beq_iff_eq]
  exact ⟨⟨rfl, rfl⟩, by omega⟩

/-- The bytes of an operand lie in the slot's own tile, aligned. -/
theorem selCause_of_ownBytes {s : State} {r : Reg} {n : Nat} (h : OwnBytes s r n) (hn : 0 < n) : s.selCause ((me s).x r) n = none := by
  obtain ⟨off, hva, hpkg, hcur, halign, hfit⟩ := h
  rw [State.selCause, ownScratch_of_window hva hpkg hcur (by omega)]
  exact (if_neg (by rw [hva]; omega)).trans (if_pos hfit)

theorem selBad_iff (v : Word) : selBad v = false ↔
    v &&& 0xFFFFFFFFE0F0F800 = 0 ∧ v.toNat % 2048 ≤ 1024 ∧ v.toNat / 2 ^ 16 % 16 ≤ 10 ∧ v.toNat / 2 ^ 24 % 32 ≤ 16 := by
  have hfields := reserved_clear_iff (m := ~~~0xFFFFFFFFE0F0F800) (fields := [(63, 29), (23, 20), (15, 11)]) (by decide) v
  rw [BitVec.not_not, List.forall_mem_cons, List.forall_mem_cons, List.forall_mem_singleton] at hfields
  have he : selE v = v.toNat % 2048 := bits_low v 10
  rw [hfields, selBad, he]
  simp only [Bool.or_eq_false_iff, bne_eq_false_iff_eq, decide_eq_false_iff_not, Nat.not_lt, and_assoc]
  rfl

theorem resBad_iff (v : Word) : (bits v 63 18 ≠ 0 ∨ bits v 15 10 ≠ 0) ↔ ¬v &&& ~~~0x303FF = 0 := by
  have hfields := reserved_clear_iff (m := 0x303FF) (fields := [(63, 18), (15, 10)]) (by decide) v
  rw [List.forall_mem_cons, List.forall_mem_singleton] at hfields
  rw [hfields, not_and_or]

theorem deadBad_iff (v : Word) : bits v 63 10 ≠ 0 ↔ ¬v.toNat < 1024 := by
  have := v.isLt
  rw [bits, bitsN]
  omega

/-- The slot once a SEL.CFG has issued; other select instructions leave it. -/
def Slot.selIssued (op : SelOp) (v : Word) (t : Slot) : Slot := { t with sel := if op = SelOp.cfg then { t.sel with issued := v } else t.sel }

/-- What a select instruction does once it has issued. -/
structure SelBody (s : State) (op : SelOp) (d a b : Reg) (k : Nat) (body : Slot → Issue) : Prop where
  refused : ¬SelWord (me s) op a → body (me s) = s.trapWord (me s) 1
  accepted : SelWord (me s) op a → SelMem s op a b k → body (me s) = s.acceptSelect (selEntry (me s) op d a b k) (Slot.selIssued op ((me s).x a))

section
variable {s : State} {d a b : Reg}

theorem selCfg_body : SelBody s .cfg 0 a 0 0 (fun t => if selBad (t.x a) then s.trapWord t 1
    else s.acceptSelect (selEntry t .cfg 0 a 0 0) (fun t' => { t' with sel := { t'.sel with issued := t.x a } })) where
  refused h := if_pos (Bool.of_not_eq_false fun hb => h ((selBad_iff _).1 hb))
  accepted h _ := if_neg (by rw [(selBad_iff _).2 h]; exact Bool.false_ne_true)

theorem selMask_body : SelBody s .mask 0 a 0 0 (fun t => match s.selCause (t.x a) 128 with
    | some c => .trap c (t.x a)
    | none => if s.acquirePending s.cur then .wait s else s.acceptSelect (selEntry t .mask 0 a 0 0) id) where
  refused h := absurd trivial h
  accepted _ hm := by
    obtain ⟨hown, hacq⟩ := hm
    rw [selCause_of_ownBytes hown (by decide), hacq]
    rfl

theorem selDead_body : SelBody s .dead 0 a b 0 (fun t => if bits (t.x a) 63 10 ≠ 0 then s.trapWord t 1
    else s.acceptSelect (selEntry t .dead 0 a b 0) id) where
  refused h := if_pos ((deadBad_iff _).2 h)
  accepted h _ := if_neg (fun hb => (deadBad_iff _).1 hb h)

theorem selRes_body : SelBody s .res d a 0 0 (fun t => if bits (t.x a) 63 18 ≠ 0 ∨ bits (t.x a) 15 10 ≠ 0 then s.trapWord t 1
    else s.acceptSelect (selEntry t .res d a 0 0) id) where
  refused h := if_pos ((resBad_iff _).2 h)
  accepted h _ := if_neg (fun hb => (resBad_iff _).1 hb h)

/-- TOPK and TOPK.MORE after issue. -/
def topkBody (s : State) (op : SelOp) (d a b : Reg) (k : Nat) (t : Slot) : Issue :=
  if selE t.sel.issued = 0 then s.trapWord t 1
  else match s.selCause (t.x a) (4 * selE t.sel.issued), s.selCause (t.x b) (8 * k) with
    | some c, _ => .trap c (t.x a)
    | none, some c => .trap c (t.x b)
    | none, none => if s.acquirePending s.cur then .wait s else s.acceptSelect (selEntry t op d a b k) id

theorem topk_body {op : SelOp} {k : Nat} (hop : op = .topk ∨ op = .topkMore) (hk : 0 < k) : SelBody s op d a b k (topkBody s op d a b k) := by
  have he : selE (me s).sel.issued = (me s).sel.issued.toNat % 2048 := bits_low _ 10
  have hword : SelWord (me s) op a ↔ selE (me s).sel.issued ≠ 0 := by rcases hop with rfl | rfl <;> rw [he] <;> rfl
  refine ⟨fun h => if_pos (not_not.1 fun hn => h (hword.2 hn)), fun h hm => (if_neg (hword.1 h)).trans ?_⟩
  have hmem : OwnBytes s a (4 * ((me s).sel.issued.toNat % 2048)) ∧ OwnBytes s b (8 * k) ∧ s.acquirePending s.cur = false := by
    rcases hop with rfl | rfl <;> exact hm
  obtain ⟨ha, hb, hacq⟩ := hmem
  have hpos := hword.1 h
  have hid : Slot.selIssued op ((me s).x a) = id := by rcases hop with rfl | rfl <;> rfl
  rw [he] at hpos
  rw [he, selCause_of_ownBytes ha (by omega), selCause_of_ownBytes hb (by omega), hacq, hid]
  rfl

end

/-- A select instruction runs the body of its row. -/
theorem selRow_issue {s : State} {i : Instr} : OfRow (fun ⟨rs, op, d, a, b, k⟩ =>
    ∃ body, exec i s = s.issue { engine := true, stile := true } rs body ∧ SelBody s op d a b k body) (selRow i) := by
  rcases i
  any_goals exact trivial
  case selCfg a => exact ⟨_, rfl, selCfg_body⟩
  case selMask a => exact ⟨_, rfl, selMask_body⟩
  case selDead a b => exact ⟨_, rfl, selDead_body⟩
  case topk d a b k => exact ⟨_, rfl, topk_body (.inl rfl) (Nat.succ_pos _)⟩
  case topkMore d a b k => exact ⟨_, rfl, topk_body (.inr rfl) (Nat.succ_pos _)⟩
  case selRes d a => exact ⟨_, rfl, selRes_body⟩

theorem acceptSelect_of_room {s : State} {op : SelOp} {d a b : Reg} {k : Nat} {f : Slot → Slot} (h : (me s).sq.length < 4) :
    s.acceptSelect (selEntry (me s) op d a b k) f = .done ((s.retire s.cur (fun t =>
      { f t with sq := (f t).sq ++ [{ selEntry (me s) op d a b k with serial := (f t).entrySerial }], entrySerial := (f t).entrySerial + 1 })).post
        (.selectEntryBind s.cur)) := if_neg (Nat.not_le.2 h)

theorem acceptSelect_of_full {s : State} {e : SelEntry} {f : Slot → Slot} (h : 4 ≤ (me s).sq.length) : s.acceptSelect e f = .wait s := if_pos h

theorem selWait_body (s : State) :
    exec .selWait s = s.issue { engine := true, stile := true } [] (fun t => if t.sq.isEmpty && t.sbound.isEmpty then .done (s.retire s.cur id) else .wait s) := rfl

/-! Entries bind and complete. -/

section
variable {s : State} {g : Nat} {e : SelEntry} {rest : List SelEntry}

theorem loneHead_selHeads (hq : (s.slot g).sq = e :: rest) (hheld : (s.slot g).heldBy = none) (hcost : e.cost ≤ 256)
    (hothers : ∀ k, k < 4 → k ≠ g % 4 → (s.slot (g / 4 * 4 + k)).sq = []) :
    LoneHeadWithin (s.selHeads (g / 4)) (s.quanta (g / 4) true) (Fin.ofNat 4 g) { cost := e.cost, ready := true } 4 where
  head := by
    have hslot : g / 4 * 4 + (Fin.ofNat 4 g).val = g := slot_of_tile g
    simp only [State.selHeads, Vector.get_ofFn, hslot, hq, hheld, Option.isNone_none]
  ready := rfl
  others j hj := by
    have hne : j.val ≠ g % 4 := fun h => hj (Fin.ext h)
    simp only [State.selHeads, Vector.get_ofFn, hothers j.val j.isLt hne]
  cost := hcost.trans (Nat.mul_le_mul_left 4 (s.le_quanta _ _ _))

/-- The state once the unit has taken an entry whose data have been read. -/
def State.bindSel (s : State) (g : Nat) (e : SelEntry) (arb : Arbiter) (data : Bytes) : State :=
  let u := s.onSlot g (fun t => { t with sq := t.sq.drop 1, sbound := t.sbound ++ [{ e with data := data }], usel := t.usel + wordN e.cost })
  (u.onTile (g / 4) (fun t => { t with
    sel := { (arb.emptied (Fin.ofNat 4 g) (u.slot g).sq.isEmpty) with busy := some (g, e.serial) } })).post (.selectEntryComplete (g / 4))

/-- What an entry reads when it binds. -/
def State.selRead (s : State) (g : Nat) (e : SelEntry) : Bytes × Bool :=
  match e.reads (s.slot g).sel.cfg with
  | some (off, n) => s.readTarget (.tile (g / 4) off) n
  | none => ([], false)

theorem selectEntryBind_of_lone (hq : (s.slot g).sq = e :: rest) (hbusy : (s.tile (g / 4)).sel.busy = none) (hhold : s.enginesHold g = false)
    (hheld : (s.slot g).heldBy = none) (hcost : e.cost ≤ 256) (hothers : ∀ k, k < 4 → k ≠ g % 4 → (s.slot (g / 4 * 4 + k)).sq = [])
    (hpoison : (s.selRead g e).2 = false) : ∃ arb, exec (.selectEntryBind g) s = .next (s.bindSel g e arb (s.selRead g e).1) := by
  obtain ⟨arb, hpick⟩ := Arbiter.pick_of_loneHeadWithin (loneHead_selHeads hq hheld hcost hothers) (by decide) (s.tile (g / 4)).sel
  refine ⟨arb, ?_⟩
  change Host.Outcome.next (match (s.slot g).sq with
    | [] => s
    | e :: _ =>
      if s.enginesHold g || (s.tile (g / 4)).sel.busy.isSome then s.defer (.selectEntryBind g)
      else match (s.tile (g / 4)).sel.pick (s.selHeads (g / 4)) (s.quanta (g / 4) true) with
        | none => s.defer (.selectEntryBind g)
        | some (i, arb) =>
          if i.val ≠ g % 4 then s.defer (.selectEntryBind g)
          else if (s.selRead g e).2 then (s.onSlot g (fun t => { t with heldBy := some e.serial })).consumePoison g
          else s.bindSel g e arb (s.selRead g e).1) = _
  have hval : (Fin.ofNat 4 g).val = g % 4 := rfl
  simp only [hq, hbusy, hhold, hpick, hval, hpoison, Option.isSome_none, Bool.or_self, Bool.false_eq_true, if_false, ne_eq, not_true_eq_false]

theorem bindSel_frame (hq : (s.slot g).sq = e :: rest) (arb : Arbiter) (data : Bytes) :
    s.bindSel g e arb data = { s with slots := (s.bindSel g e arb data).slots, tiles := (s.bindSel g e arb data).tiles
                                      agenda := s.agenda ++ [.selectEntryComplete (g / 4)] } ∧
    (s.bindSel g e arb data).slot g =
      { s.slot g with sq := rest, sbound := (s.slot g).sbound ++ [{ e with data := data }], usel := (s.slot g).usel + wordN e.cost } ∧
    ((s.bindSel g e arb data).tile (g / 4)).sel.busy = some (g, e.serial) ∧ (∀ h, h ≠ g → (s.bindSel g e arb data).slot h = s.slot h) ∧
    (∀ h, h ≠ g / 4 → (s.bindSel g e arb data).tile h = s.tile h) := by
  refine ⟨rfl, ?_, ?_, fun h hh => ?_, fun h hh => ?_⟩
  · rw [State.bindSel, State.slot_post, State.slot_onTile, State.slot_onSlot, hq]
    rfl
  · rw [State.bindSel, State.tile_post, State.tile_onTile]
  · rw [State.bindSel, State.slot_post, State.slot_onTile]
    exact State.slot_onSlot_ne _ _ _ _ hh
  · rw [State.bindSel, State.tile_post]
    exact State.tile_setTile_ne _ _ _ _ hh

end

section
variable {s : State} {gt g : Nat} {e : SelEntry}

/-- The state once the select unit of a tile is free. -/
def State.freeSel (s : State) (gt : Nat) : State := s.onTile gt (fun u => { u with sel := u.sel.free })
/-- The slot without an entry. -/
def Slot.dropSel (serial : Nat) (t : Slot) : Slot := { t with sbound := t.sbound.filter (fun p => p.serial != serial) }

theorem selectEntryComplete_of_occupies (h : SelOccupies s gt g e) :
    exec (.selectEntryComplete gt) s = .next (((s.freeSel gt).completeSelect g e).onSlot g (Slot.dropSel e.serial)) := by
  obtain ⟨hbusy, hhold, -, hfind⟩ := h
  have hexec : exec (.selectEntryComplete gt) s = execSelectEntryComplete gt s := rfl
  rw [hexec, execSelectEntryComplete, hbusy]
  simp only [hhold, Bool.false_eq_true, if_false]
  rw [hfind]
  rfl

theorem slot_freeSel (s : State) (gt g : Nat) : (s.freeSel gt).slot g = s.slot g := rfl

theorem tile_freeSel (s : State) (gt : Nat) : (s.freeSel gt).tile gt = { s.tile gt with sel := (s.tile gt).sel.free } := State.tile_onTile ..

/-! What completion does, operation by operation. -/

theorem completeSelect_cfg (h : e.op = .cfg) :
    s.completeSelect g e = s.onSlot g (fun t => { t with sel := { t.sel with cfg := e.xa, win := 0, grp := 0 } }) := by
  rw [State.completeSelect, h]
theorem completeSelect_mask (h : e.op = .mask) :
    s.completeSelect g e = s.onSlot g (fun t => { t with sel := { t.sel with dead := BitVec.ofNat 1024 (ofBytes e.data) } }) := by
  rw [State.completeSelect, h]
theorem completeSelect_dead (h : e.op = .dead) :
    s.completeSelect g e = s.onSlot g (fun t => { t with sel := { t.sel with dead := setBit t.sel.dead (bits e.xa 9 0) (testW e.xb 0) } }) := by
  rw [State.completeSelect, h]

/-- The residency entry that an entry names. -/
def State.resRow (s : State) (g : Nat) (e : SelEntry) : Word × Word := Assoc.get (0, 0) (s.tile (g / 4)).residency (bits e.xa 9 0)
/-- The tile with a residency entry replaced. -/
def Tile.setResidency (i : Nat) (row : Word × Word) (u : Tile) : Tile := { u with residency := Assoc.set u.residency i row }
/-- The slot with the result of SEL.RES. -/
def Slot.resGiven (e : SelEntry) (row : Word × Word) (t : Slot) : Slot := t.writeX e.bank e.d (if testW e.xa 16 then row.2 else row.1)
theorem completeSelect_res (h : e.op = .res) : s.completeSelect g e =
    (if testW e.xa 17 then s.onTile (g / 4) (Tile.setResidency (bits e.xa 9 0) (setBit (s.resRow g e).1 63 false, (s.resRow g e).2)) else s).onSlot g
      (Slot.resGiven e (s.resRow g e)) := by
  rw [State.completeSelect, h]
  rfl

/-- The ranking of an entry, from the tournament of its slot. -/
def Slot.rank (e : SelEntry) (t : Slot) : Ranking :=
  Ranking.run t.sel.cfg t.sel.dead e.data e.k { win := if e.op = .topk then 0 else t.sel.win, grp := if e.op = .topk then 0 else t.sel.grp, out := [] }
/-- What a ranking writes at X[b]. -/
def Ranking.written (r : Ranking) (k : Nat) : Bytes :=
  (r.out ++ List.replicate (k - r.out.length) (0xFF8000000000FFFF : Word)).flatMap (fun v => toBytes 8 v.toNat)
/-- The slot with the results of a ranking. -/
def Slot.ranked (e : SelEntry) (r : Ranking) (t : Slot) : Slot :=
  (({ t with sel := { t.sel with win := r.win, grp := r.grp } } : Slot).writeX e.bank e.d (wordN r.out.length)).orFlags (if r.out.length < e.k then flagShort else 0)
theorem completeSelect_topk (h : e.op = .topk ∨ e.op = .topkMore) : s.completeSelect g e =
    (s.writeTarget (.tile (g / 4) (bits e.xb 29 0)) (((s.slot g).rank e).written e.k) false).onSlot g (Slot.ranked e ((s.slot g).rank e)) := by
  rcases h with h | h <;> rw [State.completeSelect, Slot.rank, h] <;> rfl

/-- What completion keeps: the select unit, the other slots and the entries of its slot. -/
structure SelKeeps (g : Nat) (s u : State) : Prop where
  unit : (u.tile (g / 4)).sel = (s.tile (g / 4)).sel
  slots : ∀ h, h ≠ g → u.slot h = s.slot h
  bound : (u.slot g).sbound = (s.slot g).sbound

theorem SelKeeps.onSlot {u : State} (h : SelKeeps g s u) {f : Slot → Slot} (hf : ∀ t, (f t).sbound = t.sbound) : SelKeeps g s (u.onSlot g f) where
  unit := h.unit
  slots k hk := (State.slot_onSlot_ne _ _ _ _ hk).trans (h.slots k hk)
  bound := by rw [State.slot_onSlot, hf]; exact h.bound

theorem SelKeeps.refl (g : Nat) (s : State) : SelKeeps g s s := ⟨rfl, fun _ _ => rfl, rfl⟩

theorem selKeeps_writeTarget (s : State) (g off : Nat) (bs : Bytes) : SelKeeps g s (s.writeTarget (.tile (g / 4) off) bs false) := by
  rw [State.writeTarget]
  split <;> exact ⟨rfl, fun _ _ => rfl, rfl⟩

theorem selKeeps_setResidency (s : State) (g i : Nat) (row : Word × Word) : SelKeeps g s (s.onTile (g / 4) (Tile.setResidency i row)) :=
  ⟨by rw [State.tile_onTile]; rfl, fun _ _ => rfl, rfl⟩

theorem Slot.sbound_writeX (t : Slot) (b : Bank) (r : Reg) (v : Word) : (t.writeX b r v).sbound = t.sbound := Slot.setFlow_sbound ..

theorem completeSelect_keeps (s : State) (g : Nat) (e : SelEntry) : SelKeeps g s (s.completeSelect g e) := by
  have htopk (h : e.op = .topk ∨ e.op = .topkMore) : SelKeeps g s (s.completeSelect g e) := by
    rw [completeSelect_topk h]
    exact (selKeeps_writeTarget ..).onSlot fun t => Slot.sbound_writeX ..
  cases hop : e.op with
  | cfg => rw [completeSelect_cfg hop]; exact (SelKeeps.refl g s).onSlot fun _ => rfl
  | mask => rw [completeSelect_mask hop]; exact (SelKeeps.refl g s).onSlot fun _ => rfl
  | dead => rw [completeSelect_dead hop]; exact (SelKeeps.refl g s).onSlot fun _ => rfl
  | topk => exact htopk (.inl hop)
  | topkMore => exact htopk (.inr hop)
  | res =>
    rw [completeSelect_res hop]
    refine SelKeeps.onSlot ?_ fun t => Slot.sbound_writeX ..
    split
    · exact selKeeps_setResidency ..
    · exact .refl g s

theorem mem_completeSelect (s : State) (g : Nat) (e : SelEntry) (h : e.op ≠ .topk) (h' : e.op ≠ .topkMore) : (s.completeSelect g e).mem = s.mem := by
  cases hop : e.op with
  | cfg => rw [completeSelect_cfg hop]; rfl
  | mask => rw [completeSelect_mask hop]; rfl
  | dead => rw [completeSelect_dead hop]; rfl
  | topk => exact absurd hop h
  | topkMore => exact absurd hop h'
  | res =>
    rw [completeSelect_res hop]
    split <;> rfl

theorem getLsbD_setBit {n : Nat} (v : BitVec n) {i j : Nat} (b : Bool) (hj : j < n) : (setBit v i b).getLsbD j = if j = i then b else v.getLsbD j := by
  cases b <;> by_cases h : j = i <;>
    simp [setBit, h, BitVec.getLsbD_or, BitVec.getLsbD_and, BitVec.getLsbD_not, BitVec.getLsbD_shiftLeft, BitVec.getLsbD_one]
  all_goals omega

end

section
variable {s : State} {g : Nat} {e : SelEntry}

/-- Bytes that an entry reads when it binds. -/
def SelEntry.readLen (e : SelEntry) (cfg : Word) : Nat :=
  if e.op = .mask then 128 else if e.op = .topk ∨ e.op = .topkMore then 4 * (cfg.toNat % 2048) else 0

theorem readTarget_scratch {gt : Nat} (hdie : s.lostDie (dieOf gt) = false) (v : Word) (n : Nat) :
    s.readTarget (.tile gt (bits v 29 0)) n = (s.readMem (gt * 2 ^ 30 + v.toNat % 2 ^ 30) n, s.poisoned (gt * 2 ^ 30 + v.toNat % 2 ^ 30) n) := by
  rw [bits_low]
  exact if_neg (by rw [hdie]; exact Bool.false_ne_true)

theorem writeTarget_scratch {gt : Nat} (hdie : s.lostDie (dieOf gt) = false) (v : Word) (bs : Bytes) :
    s.writeTarget (.tile gt (bits v 29 0)) bs false = s.writeMem (gt * 2 ^ 30 + v.toNat % 2 ^ 30) bs := by
  rw [bits_low]
  exact if_neg (by rw [hdie]; exact Bool.false_ne_true)

theorem selRead_nothing (h : e.op = .cfg ∨ e.op = .dead ∨ e.op = .res) : s.selRead g e = ([], false) := by
  have hreads : e.reads (s.slot g).sel.cfg = none := by rcases h with h | h | h <;> rw [SelEntry.reads, h]
  rw [State.selRead, hreads]

theorem readLen_nothing {cfg : Word} (h : e.op = .cfg ∨ e.op = .dead ∨ e.op = .res) : e.readLen cfg = 0 := by
  rcases h with h | h | h <;> rw [SelEntry.readLen, h] <;> rfl

/-- What an entry reads, where its tile is not lost. -/
theorem selRead_eq (hdie : s.lostDie (dieOf (g / 4)) = false)
    (hgood : e.op = .mask ∨ e.op = .topk ∨ e.op = .topkMore →
      s.poisoned (g / 4 * 2 ^ 30 + e.xa.toNat % 2 ^ 30) (e.readLen (s.slot g).sel.cfg) = false) :
    s.selRead g e = (s.readMem (g / 4 * 2 ^ 30 + e.xa.toNat % 2 ^ 30) (e.readLen (s.slot g).sel.cfg), false) := by
  have hreads (h : e.op = .mask ∨ e.op = .topk ∨ e.op = .topkMore) :
      e.reads (s.slot g).sel.cfg = some (bits e.xa 29 0, e.readLen (s.slot g).sel.cfg) := by
    have he : selE (s.slot g).sel.cfg = (s.slot g).sel.cfg.toNat % 2048 := bits_low _ 10
    rcases h with h | h | h <;> rw [SelEntry.reads, SelEntry.readLen, h]
    · rfl
    · rw [he]; rfl
    · rw [he]; rfl
  have hreader (h : e.op = .mask ∨ e.op = .topk ∨ e.op = .topkMore) :
      s.selRead g e = (s.readMem (g / 4 * 2 ^ 30 + e.xa.toNat % 2 ^ 30) (e.readLen (s.slot g).sel.cfg), false) := by
    rw [State.selRead, hreads h, ← hgood h]
    exact readTarget_scratch hdie _ _
  have hnothing (h : e.op = .cfg ∨ e.op = .dead ∨ e.op = .res) :
      s.selRead g e = (s.readMem (g / 4 * 2 ^ 30 + e.xa.toNat % 2 ^ 30) (e.readLen (s.slot g).sel.cfg), false) := by
    rw [readLen_nothing h]
    exact selRead_nothing h
  cases hop : e.op with
  | cfg => exact hnothing (.inl hop)
  | mask => exact hreader (.inl hop)
  | dead => exact hnothing (.inr (.inl hop))
  | topk => exact hreader (.inr (.inl hop))
  | topkMore => exact hreader (.inr (.inr hop))
  | res => exact hnothing (.inr (.inr hop))

theorem cost_of_nothing (h : e.op = .cfg ∨ e.op = .dead ∨ e.op = .res) : e.cost ≤ 256 := by
  rcases h with h | h | h <;> rw [SelEntry.cost, h] <;> exact Nat.le_of_ble_eq_true rfl

theorem residencyRecord_none {gt n : Nat} (w0 w1 : Word) (hn : n < 1024) (hkind : isSTile gt = true) (hdie : s.lostDie (dieOf gt) = false) :
    Gives (.residencyRecord gt n w0 w1 none) s (s.onTile gt (Tile.setResidency n (w0, w1))) := by
  refine congrArg Host.Outcome.next (if_pos ?_)
  rw [decide_eq_true hn, hkind, hdie]
  rfl

end

/-- The state once the entry that occupies the unit has completed. -/
def State.selDone (s : State) (gt g : Nat) (e : SelEntry) : State := ((s.freeSel gt).completeSelect g e).onSlot g (Slot.dropSel e.serial)

section
variable {s : State} {gt g : Nat} {e : SelEntry}

theorem slot_selDone : (s.selDone gt g e).slot g = Slot.dropSel e.serial (((s.freeSel gt).completeSelect g e).slot g) := State.slot_onSlot ..

theorem selDone_frame (hgt : gt = g / 4) : ((s.selDone gt g e).tile gt).sel.busy = none ∧ (∀ h, h ≠ g → (s.selDone gt g e).slot h = s.slot h) ∧
    ((s.selDone gt g e).slot g).sbound = (s.slot g).sbound.filter (fun p => p.serial != e.serial) := by
  subst hgt
  obtain ⟨hunit, hslots, hbound⟩ := completeSelect_keeps (s.freeSel (g / 4)) g e
  refine ⟨?_, fun h hh => ?_, ?_⟩
  · refine (congrArg Arbiter.busy hunit).trans ?_
    rw [tile_freeSel]
    rfl
  · exact (State.slot_onSlot_ne _ _ _ _ hh).trans (hslots h hh)
  · rw [slot_selDone]
    exact congrArg (List.filter _) hbound

theorem Slot.flowOf_dropSel (n : Nat) (t : Slot) (b : Bank) : (Slot.dropSel n t).flowOf b = t.flowOf b := by cases b <;> rfl

theorem selDone_sel {q : SelectContext} (h : (((s.freeSel gt).completeSelect g e).slot g).sel = q) : ((s.selDone gt g e).slot g).sel = q := by
  rw [slot_selDone]
  exact h

theorem selDone_cfg (h : e.op = .cfg) : ((s.selDone gt g e).slot g).sel = { (s.slot g).sel with cfg := e.xa, win := 0, grp := 0 } :=
  selDone_sel (by rw [completeSelect_cfg h, State.slot_onSlot]; rfl)

theorem selDone_mask (h : e.op = .mask) : ((s.selDone gt g e).slot g).sel = { (s.slot g).sel with dead := BitVec.ofNat 1024 (ofBytes e.data) } :=
  selDone_sel (by rw [completeSelect_mask h, State.slot_onSlot]; rfl)

theorem selDone_dead (h : e.op = .dead) (n : Nat) (hn : n < 1024) : ((s.selDone gt g e).slot g).sel.dead.getLsbD n =
    if n = e.xa.toNat % 1024 then e.xb.getLsbD 0 else (s.slot g).sel.dead.getLsbD n := by
  have hsel : ((s.selDone gt g e).slot g).sel = { (s.slot g).sel with dead := setBit (s.slot g).sel.dead (bits e.xa 9 0) (testW e.xb 0) } :=
    selDone_sel (by rw [completeSelect_dead h, State.slot_onSlot]; rfl)
  rw [hsel, ← testW_eq]
  have hi : bits e.xa 9 0 = e.xa.toNat % 1024 := bits_low _ 9
  exact (getLsbD_setBit _ _ hn).trans (by rw [hi])

theorem setBit_valid (v : Word) : setBit v 63 false = v &&& 0x7FFFFFFFFFFFFFFF := rfl

theorem selDone_res (hgt : gt = g / 4) (h : e.op = .res) : let row := Assoc.get (0, 0) (s.tile gt).residency (e.xa.toNat % 1024)
    (((s.selDone gt g e).slot g).flowOf e.bank).get e.d = (if e.d = 0 then 0 else if e.xa.getLsbD 16 then row.2 else row.1) ∧
    Assoc.get (0, 0) ((s.selDone gt g e).tile gt).residency (e.xa.toNat % 1024) =
      (if e.xa.getLsbD 17 then (row.1 &&& 0x7FFFFFFFFFFFFFFF, row.2) else row) := by
  subst hgt
  intro row
  have hi : bits e.xa 9 0 = e.xa.toNat % 1024 := bits_low _ 9
  have hrow : (s.freeSel (g / 4)).resRow g e = row := by
    rw [State.resRow, tile_freeSel, hi]
  have htile : ∀ u : State, ((u.onSlot g (Slot.resGiven e row)).onSlot g (Slot.dropSel e.serial)).tile (g / 4) = u.tile (g / 4) := fun _ => rfl
  rw [← testW_eq, ← testW_eq]
  constructor
  · rw [slot_selDone, Slot.flowOf_dropSel, completeSelect_res h, State.slot_onSlot, hrow]
    exact Slot.get_flowOf_writeX_same ..
  · rw [State.selDone, completeSelect_res h, hrow, htile, hi]
    split
    · rw [State.tile_onTile]
      exact (Assoc.get_set_same ..).trans (by rw [setBit_valid])
    · rw [tile_freeSel]

theorem selDone_topk (hgt : gt = g / 4) (hdie : s.lostDie (dieOf gt) = false) (h : e.op = .topk ∨ e.op = .topkMore) :
    let r := (s.slot g).rank e
    (s.selDone gt g e).mem = Memory.write s.mem (gt * 2 ^ 30 + e.xb.toNat % 2 ^ 30) (r.written e.k) ∧
    (((s.selDone gt g e).slot g).flowOf e.bank).get e.d = (if e.d = 0 then 0 else wordN r.out.length) ∧
    ((s.selDone gt g e).slot g).flags = (s.slot g).flags ||| (if r.out.length < e.k then 64 else 0) ∧
    ((s.selDone gt g e).slot g).sel = { (s.slot g).sel with win := r.win, grp := r.grp } := by
  subst hgt
  intro r
  have hdone : (s.freeSel (g / 4)).completeSelect g e =
      ((s.freeSel (g / 4)).writeMem (g / 4 * 2 ^ 30 + e.xb.toNat % 2 ^ 30) (r.written e.k)).onSlot g (Slot.ranked e r) := by
    rw [completeSelect_topk h]
    exact congrArg (fun u => State.onSlot u g (Slot.ranked e r)) (writeTarget_scratch (s := s.freeSel (g / 4)) hdie _ _)
  have hslot : (s.selDone (g / 4) g e).slot g = Slot.dropSel e.serial (Slot.ranked e r (s.slot g)) := by
    rw [slot_selDone, hdone, State.slot_onSlot]
    rfl
  refine ⟨?_, ?_, ?_, ?_⟩
  · rw [State.selDone, hdone]
    rfl
  · rw [hslot, Slot.flowOf_dropSel, Slot.ranked, Slot.flowOf_orFlags]
    exact Slot.get_flowOf_writeX_same ..
  · rw [hslot]
    refine (congrArg₂ (· ||| ·) (Slot.flags_writeX ..) ?_ : (Slot.ranked e r (s.slot g)).flags = _)
    split <;> rfl
  · rw [hslot]
    exact Slot.setFlow_sel ..

end

theorem selectEntries : Claims.SelectEntries := by
  rintro s g gt e rfl
  refine ⟨fun rest hq hbusy hhold hheld hcost hothers hdie hgood => ?_, fun hocc hdie => ?_, fun n w0 w1 hn hkind hdie => ?_⟩
  · have hread := selRead_eq hdie hgood
    obtain ⟨arb, hbind⟩ := selectEntryBind_of_lone hq hbusy hhold hheld hcost hothers (congrArg Prod.snd hread)
    rw [hread] at hbind
    exact ⟨_, hbind, bindSel_frame hq arb _⟩
  · obtain ⟨hfree, hslots, hbound⟩ := selDone_frame (s := s) (e := e) (rfl : g / 4 = g / 4)
    refine ⟨s.selDone (g / 4) g e, selectEntryComplete_of_occupies hocc, hfree, hslots, hbound, fun h h' => ?_, selDone_cfg, selDone_mask, selDone_dead, selDone_res rfl,
      selDone_topk rfl hdie⟩
    exact mem_completeSelect (s.freeSel (g / 4)) g e h h'
  · exact residencyRecord_none w0 w1 hn hkind hdie

theorem selWait_of_ready {s : State} (hr : Ready s { engine := true, stile := true } []) :
    ((me s).sq = [] ∧ (me s).sbound = [] → Gives .selWait s (retired s id)) ∧
    (¬((me s).sq = [] ∧ (me s).sbound = []) → Gives .selWait s { s with stalled := true }) := by
  have hempty : ((me s).sq.isEmpty && (me s).sbound.isEmpty) = true ↔ (me s).sq = [] ∧ (me s).sbound = [] := by
    rw [Bool.and_eq_true, List.isEmpty_iff, List.isEmpty_iff]
  exact ⟨fun h => gives_of_done (selWait_body s) hr (if_pos (hempty.2 h)), fun h => gives_of_wait (selWait_body s) hr (if_neg (mt hempty.1 h))⟩

/-- Settles O36, by the body of each select instruction, and by the unit's rules above. -/
theorem selectIssue : Obligations.SelectIssue := by
  intro s i
  refine ⟨fun rs op d a b k hrow hr => ?_, selWait_of_ready, fun g e rest hq hbusy hhold hheld hothers hop => ?_, fun g gt e hocc => ?_,
    fun gt n w0 w1 hn hkind hdie => ?_⟩
  · obtain ⟨body, hexec, hrefused, haccepted⟩ := selRow_issue.apply hrow
    refine ⟨fun hw hm hroom => ?_, fun hw hm hfull => ?_, fun hw => ?_⟩
    · refine gives_of_done hexec hr ((haccepted hw hm).trans ((acceptSelect_of_room hroom).trans ?_))
      rfl
    · exact gives_of_wait hexec hr ((haccepted hw hm).trans (acceptSelect_of_full hfull))
    · exact gives_of_trap hexec hr (hrefused hw)
  · have hread := selRead_nothing (s := s) (g := g) hop
    obtain ⟨arb, hbind⟩ := selectEntryBind_of_lone hq hbusy hhold hheld (cost_of_nothing hop) hothers (congrArg Prod.snd hread)
    obtain ⟨-, hslot, hunit, -⟩ := bindSel_frame hq arb (s.selRead g e).1
    exact ⟨_, hbind, hunit, by rw [hslot], rfl⟩
  · have hgt : gt = g / 4 := hocc.2.2.1
    obtain ⟨hfree, hslots, -⟩ := selDone_frame (s := s) (e := e) hgt
    exact ⟨_, selectEntryComplete_of_occupies hocc, hfree, hslots⟩
  · refine ⟨_, residencyRecord_none w0 w1 hn hkind hdie, ?_, rfl, rfl⟩
    rw [State.tile_onTile]
    exact Assoc.get_set_same ..

/-- Settles O37, by what each select operation does when it completes and by the best eligible expert of a ranking step. -/
theorem selectRuns : Obligations.SelectRuns := ⟨selectEntries, rankingStep⟩

end Sys2Proof.Machine

namespace Sys2Proof.Machine

open Sys2Proof.Claims

set_option Elab.async false

/-! ## Barrier words (spec/10 R246, R247) -/

theorem field_append_length {xs ys : Bytes} {i n : Nat} : field (xs ++ ys) (xs.length + i) n = field ys i n := by
  rw [field, field, List.drop_length_add_append]

theorem field_toBytes_skip {m v : Nat} {ys : Bytes} {i n : Nat} : field (toBytes m v ++ ys) (m + i) n = field ys i n := by
  have h := field_append_length (xs := toBytes m v) (ys := ys) (i := i) (n := n)
  rwa [length_toBytes] at h

theorem field_toBytes {n v : Nat} (h : v < 256 ^ n) (ys : Bytes) : field (toBytes n v ++ ys) 0 n = v := by
  have hlen : (toBytes n v).length = n := length_toBytes ..
  rw [field, List.drop_zero, List.take_append_of_le_length (by omega), List.take_of_length_le (by omega), ofBytes_toBytes_mod, Nat.mod_eq_of_lt h]

/-- The fields of a barrier word fit their bytes. -/
structure BarrierWord.Fits (b : BarrierWord) : Prop where
  expect : b.expect < 65536
  arrived : b.arrived < 65536
  depart : b.depart < 65536
  killed : b.killed < 65536
  phase : b.phase < 65536
  lastKilled : b.lastKilled < 65536
  lvl : b.lvl < 8
  reserved : b.reserved < 2 ^ 29

theorem BarrierWord.ofBytes_bytes {b : BarrierWord} (h : b.Fits) : BarrierWord.ofBytes b.bytes = b := by
  obtain ⟨hexpect, harrived, hdepart, hkilled, hphase, hlast, hlvl, hreserved⟩ := h
  have hbytes : b.bytes = toBytes 2 b.expect ++ (toBytes 2 b.arrived ++ (toBytes 2 b.depart ++ (toBytes 2 b.killed ++ (toBytes 2 b.phase ++
      (toBytes 2 b.lastKilled ++ (toBytes 4 (b.lvl + 8 * b.reserved) ++ [])))))) := by
    simp only [BarrierWord.bytes, List.append_assoc, List.append_nil]
  have h0 : field b.bytes 0 2 = b.expect := by rw [hbytes, field_toBytes hexpect]
  have h2 : field b.bytes (2 + 0) 2 = b.arrived := by rw [hbytes, field_toBytes_skip, field_toBytes harrived]
  have h4 : field b.bytes (2 + (2 + 0)) 2 = b.depart := by
    rw [hbytes]
    iterate 2 rw [field_toBytes_skip]
    rw [field_toBytes hdepart]
  have h6 : field b.bytes (2 + (2 + (2 + 0))) 2 = b.killed := by
    rw [hbytes]
    iterate 3 rw [field_toBytes_skip]
    rw [field_toBytes hkilled]
  have h8 : field b.bytes (2 + (2 + (2 + (2 + 0)))) 2 = b.phase := by
    rw [hbytes]
    iterate 4 rw [field_toBytes_skip]
    rw [field_toBytes hphase]
  have h10 : field b.bytes (2 + (2 + (2 + (2 + (2 + 0))))) 2 = b.lastKilled := by
    rw [hbytes]
    iterate 5 rw [field_toBytes_skip]
    rw [field_toBytes hlast]
  have h12 : field b.bytes (2 + (2 + (2 + (2 + (2 + (2 + 0)))))) 4 = b.lvl + 8 * b.reserved := by
    rw [hbytes]
    iterate 6 rw [field_toBytes_skip]
    exact field_toBytes (by omega) _
  have hlow : bitsN (b.lvl + 8 * b.reserved) 2 0 = b.lvl := by rw [bitsN]; omega
  have hhigh : bitsN (b.lvl + 8 * b.reserved) 31 3 = b.reserved := by rw [bitsN]; omega
  rw [BarrierWord.ofBytes]
  exact (BarrierWord.mk.injEq ..).mpr ⟨h0, h2, h4, h6, h8, h10, (congrArg (bitsN · 2 0) h12).trans hlow, (congrArg (bitsN · 31 3) h12).trans hhigh⟩

theorem ofBytes_lt (bs : Bytes) : ofBytes bs < 256 ^ bs.length := by
  induction bs with
  | nil => exact Nat.one_pos
  | cons b bs ih =>
    have hb := b.isLt
    have hcons : ofBytes (b :: bs) = b.toNat + 256 * ofBytes bs := rfl
    rw [hcons, List.length_cons, pow_succ]
    omega

theorem field_lt (bs : Bytes) (i n : Nat) : field bs i n < 256 ^ n := by
  refine (ofBytes_lt _).trans_le (Nat.pow_le_pow_right (by omega) ?_)
  rw [List.length_take]
  exact Nat.min_le_left ..

theorem BarrierWord.fits_ofBytes (bs : Bytes) : (BarrierWord.ofBytes bs).Fits where
  expect := field_lt ..
  arrived := field_lt ..
  depart := field_lt ..
  killed := field_lt ..
  phase := field_lt ..
  lastKilled := field_lt ..
  lvl := Nat.lt_of_lt_of_le (Nat.mod_lt _ (by omega)) (by omega)
  reserved := Nat.lt_of_lt_of_le (Nat.mod_lt _ (by omega)) (by omega)

/-- A barrier word with members that arrived and departed, tripped when all have. -/
def BarrierWord.moved (w : BarrierWord) (arrived departed : Nat) : BarrierWord :=
  if w.expect ≤ w.arrived + arrived then
    { w with expect := (w.expect + 65536 - (w.depart + departed)) % 65536, arrived := 0, depart := 0, killed := 0, lastKilled := w.killed
             phase := (w.phase + 1) % 65536 }
  else { w with arrived := w.arrived + arrived, depart := w.depart + departed }

theorem BarrierWord.fits_moved {w : BarrierWord} {a d : Nat} (h : w.Fits) (ha : w.arrived + a < 65536) (hd : w.depart + d < 65536) : (w.moved a d).Fits := by
  rw [BarrierWord.moved]
  split
  · exact ⟨Nat.mod_lt _ (by omega), by simp, by simp, by simp, Nat.mod_lt _ (by omega), h.killed, h.lvl, h.reserved⟩
  · exact ⟨h.expect, ha, hd, h.killed, h.phase, h.lastKilled, h.lvl, h.reserved⟩

theorem BarrierWord.trip_arrived (w : BarrierWord) : { w with arrived := w.arrived + 1 }.trip = w.moved 1 0 := rfl

theorem BarrierWord.leave_fresh {w : BarrierWord} {arrived : Option (BitVec 16)} (h : arrived ≠ some (BitVec.ofNat 16 w.phase)) :
    w.leave arrived false = w.moved 1 1 := by
  have hfresh : (arrived != some (BitVec.ofNat 16 w.phase)) = true := bne_iff_ne.2 h
  rw [BarrierWord.leave, hfresh]
  rfl

section
variable {s : State} {q : Request} {k : Nat}

theorem barrierTarget_of_key (h : s.barrierKey q.addr = some k) : s.barrierTarget q.addr = .tile (k / 2 ^ 30) (k % 2 ^ 30) := by
  rw [State.barrierKey] at h
  rw [State.barrierTarget]
  split at h
  next pkg g off heq =>
    split at h
    next hc =>
      rw [Bool.and_eq_true, decide_eq_true_eq, decide_eq_true_eq] at hc
      obtain ⟨hpkg, hoff⟩ := hc
      cases h
      have hg : sramKey g off / 2 ^ 30 = g := by rw [sramKey]; omega
      have hmod : sramKey g off % 2 ^ 30 = off := by rw [sramKey]; omega
      rw [hg, hmod]
      exact if_pos hpkg
    next => cases h
  next => cases h

/-- A barrier request that its word's tile can carry out. -/
structure BarrierDue (s : State) (q : Request) (k : Nat) : Prop where
  known : s.request q.id = some q
  key : s.barrierKey q.addr = some k
  clean : s.poisoned k 16 = false
  alone : ∀ r ∈ s.requests, r.slot = q.slot → r.remote = true → r.kind.onBarrier = false
  served : s.served q.part (q.src % 4096 / 16) (.tile (k / 2 ^ 30) (k % 2 ^ 30)) = true
  passed : s.barred q.part (q.src % 4096 / 16) (.tile (k / 2 ^ 30) (k % 2 ^ 30)) = false

theorem barrierRequest_of_due (h : BarrierDue s q k) :
    Gives (.barrierRequest q.id) s ((s.barrier q k).2.answer q.id (s.barrier q k).1) := by
  obtain ⟨hknown, hkey, hclean, halone, hserved, hpassed⟩ := h
  have hothers : s.requests.any (fun r => r.slot == q.slot && r.id != q.id && r.remote && r.kind.onBarrier && !r.orphan && r.phase != .performed) = false := by
    refine List.any_eq_false.2 fun r hr hbad => ?_
    simp only [Bool.and_eq_true, beq_iff_eq] at hbad
    obtain ⟨⟨⟨⟨⟨hslot, -⟩, hremote⟩, hbar⟩, -⟩, -⟩ := hbad
    rw [halone r hr hslot hremote] at hbar
    cases hbar
  have hexec : exec (.barrierRequest q.id) s = execBarrierRequest q.id s := rfl
  rw [Gives, hexec, execBarrierRequest, hknown]
  simp only [hothers, Bool.false_eq_true, if_false, hkey, barrierTarget_of_key hkey, hserved, hpassed, hclean, Bool.not_true]

/-- The word of a request. -/
def State.barrierWord (s : State) (k : Nat) : BarrierWord := BarrierWord.ofBytes (s.readMem k 16)
/-- The slot's membership of the word of a request. -/
def State.membership (s : State) (q : Request) : Option Membership := (s.slot q.slot).memberships.find? (fun m => m.addr == q.addr)
/-- A slot with a membership recorded, told that it arrived in a phase, or dropped. -/
def Slot.joined (addr : Word) (t : Slot) : Slot := { t with memberships := t.memberships ++ [{ addr := addr, arrived := none }] }
/-- See `Slot.joined`. -/
def Slot.arrivedAt (addr : Word) (phase : BitVec 16) (t : Slot) : Slot :=
  { t with memberships := t.memberships.map (fun m => if m.addr == addr then { m with arrived := some phase } else m) }
/-- See `Slot.joined`. -/
def Slot.left (addr : Word) (t : Slot) : Slot := { t with memberships := t.memberships.filter (fun m => m.addr != addr) }

theorem barrier_join (hkind : q.kind = .barJoin) (hmine : s.membership q = none) (hroom : (s.slot q.slot).memberships.length < 4)
    (hvalid : (s.barrierWord k).valid (s.slot q.slot).levels = true) :
    s.barrier q k = (wordN (s.barrierWord k).phase, s.onSlot q.slot (Slot.joined q.addr)) := by
  rw [State.membership] at hmine
  rw [State.barrierWord] at hvalid
  simp only [State.barrier, hkind, hmine, hvalid, Nat.not_le.2 hroom, if_false, Bool.not_true, Bool.false_eq_true]
  rfl

theorem barrier_stranger (hkind : q.kind = .barArrive ∨ q.kind = .barLeave) (hmine : s.membership q = none) : s.barrier q k = (failure 12, s) := by
  rw [State.membership] at hmine
  rcases hkind with hkind | hkind <;> simp only [State.barrier, hkind, hmine]

variable {m : Membership} (hmine : s.membership q = some m) (hvalid : (s.barrierWord k).valid (s.slot q.slot).levels = true)
include hmine hvalid

theorem barrier_arrive (hkind : q.kind = .barArrive) (hfresh : m.arrived ≠ some (BitVec.ofNat 16 (s.barrierWord k).phase)) :
    s.barrier q k = (wordN (s.barrierWord k).phase,
      (s.writeMem k ((s.barrierWord k).moved 1 0).bytes).onSlot q.slot (Slot.arrivedAt q.addr (BitVec.ofNat 16 (s.barrierWord k).phase))) := by
  rw [State.membership] at hmine
  have hne : (m.arrived == some (BitVec.ofNat 16 (s.barrierWord k).phase)) = false := beq_eq_false_iff_ne.2 hfresh
  rw [State.barrierWord] at hvalid hne
  simp only [State.barrier, hkind, hmine, hvalid, hne, Bool.not_true, Bool.false_eq_true, if_false]
  rfl

theorem barrier_arrived (hkind : q.kind = .barArrive) (hdone : m.arrived = some (BitVec.ofNat 16 (s.barrierWord k).phase)) : s.barrier q k = (failure 13, s) := by
  rw [State.membership] at hmine
  have heq : (m.arrived == some (BitVec.ofNat 16 (s.barrierWord k).phase)) = true := beq_iff_eq.2 hdone
  rw [State.barrierWord] at hvalid heq
  simp only [State.barrier, hkind, hmine, hvalid, heq, Bool.not_true, Bool.false_eq_true, if_false, if_true]

theorem barrier_leave (hkind : q.kind = .barLeave) (hfresh : m.arrived ≠ some (BitVec.ofNat 16 (s.barrierWord k).phase)) :
    s.barrier q k = (0, (s.writeMem k ((s.barrierWord k).moved 1 1).bytes).onSlot q.slot (Slot.left q.addr)) := by
  rw [State.membership] at hmine
  rw [← BarrierWord.leave_fresh hfresh]
  rw [State.barrierWord] at hvalid
  simp only [State.barrier, hkind, hmine, hvalid, Bool.not_true, Bool.false_eq_true, if_false]
  rfl

end

theorem answer_frame (s : State) (id : Nat) (v : Word) :
    (s.answer id v).mem = s.mem ∧ (s.answer id v).slots = s.slots ∧ (s.answer id v).agenda = s.agenda ++ [.replyArrival id v.toNat false] := ⟨rfl, rfl, rfl⟩

theorem length_bytes (b : BarrierWord) : b.bytes.length = 16 := by
  simp only [BarrierWord.bytes, List.length_append, length_toBytes]

/-- Settles O33, by what each request does to the word and to the memberships of its slot. -/
theorem barrierWords : Obligations.BarrierWords := by
  intro s q k hwf hknown hkey hclean halone hserved hpassed w t step hvalid harrived hdepart
  have hdue := barrierRequest_of_due ⟨hknown, hkey, hclean, halone, hserved, hpassed⟩
  have hfits : w.Fits := BarrierWord.fits_ofBytes _
  have hread (a d : Nat) (ha : w.arrived + a < 65536) (hd : w.depart + d < 65536) (u : State) (hu : u.mem = (s.writeMem k (w.moved a d).bytes).mem) :
      BarrierWord.ofBytes (u.readMem k 16) = step a d := by
    have hmem : u.readMem k 16 = (w.moved a d).bytes := by
      have hwritten := s.readMem_writeMem k (w.moved a d).bytes
      rw [length_bytes] at hwritten
      exact (congrArg (Memory.read · k 16) hu).trans hwritten
    rw [hmem, BarrierWord.ofBytes_bytes (BarrierWord.fits_moved hfits ha hd)]
    rfl
  refine ⟨fun hkind hroom hnone => ?_, fun m hm hfresh => ⟨fun hkind => ?_, fun hkind => ?_⟩, fun m hm hdone hkind => ?_, fun hnone hkind => ?_⟩
  · have hmine : s.membership q = none := List.find?_eq_none.2 fun m hm hbad => hnone m hm (beq_iff_eq.1 hbad)
    rw [barrier_join hkind hmine hroom hvalid] at hdue
    exact ⟨_, hdue, rfl, rfl, congrArg Slot.memberships (State.slot_onSlot s q.slot (Slot.joined q.addr))⟩
  · rw [barrier_arrive hm hvalid hkind hfresh] at hdue
    refine ⟨_, hdue, hread 1 0 (by omega) (by omega) _ rfl, rfl, fun j hj => ?_⟩
    refine (Memory.at_write ..).trans (if_neg ?_)
    rw [length_bytes]
    omega
  · rw [barrier_leave hm hvalid hkind hfresh] at hdue
    refine ⟨_, hdue, hread 1 1 (by omega) (by omega) _ rfl, rfl, fun n hn => ?_⟩
    have hslot := congrArg Slot.memberships (State.slot_onSlot (s.writeMem k (w.moved 1 1).bytes) q.slot (Slot.left q.addr))
    have hmem : n ∈ (Slot.left q.addr ((s.writeMem k (w.moved 1 1).bytes).slot q.slot)).memberships := hslot ▸ hn
    exact bne_iff_ne.1 (List.mem_filter.1 hmem).2
  · rw [barrier_arrived hm hvalid hkind hdone] at hdue
    exact ⟨_, hdue, rfl, rfl⟩
  · rw [barrier_stranger hkind hnone] at hdue
    exact ⟨_, hdue, rfl, rfl⟩

end Sys2Proof.Machine

namespace Sys2Proof.Machine

open Sys2Proof.Claims

set_option Elab.async false

/-! ## A step of the machine (spec/02 R35 to R37; spec/05 R106, R110) -/

section
variable {run : Instr → State → Host.Outcome State Fault Refusal} {s t : State} {g : Nat} {o : Host.Outcome State Fault Refusal}

theorem attempt_of_free (hkill : (s.slot g).killable = false) (hfreeze : (s.slot g).freeze = none) (hheld : (s.slot g).heldBy = none)
    (hdeferred : (s.slot g).deferred = none) : attempt run g s = fetchRun run g s := by
  simp only [attempt, hkill, hheld, hdeferred, Slot.frozen, hfreeze, Option.isSome_none, Bool.or_self, Bool.false_and, Bool.false_eq_true, if_false]

/-- The slot's turn, by what its instruction gives. -/
theorem tryIssue_of_issued (h : attempt run g s = .next t) (hst : t.stalled = false) (hhold : ¬OnHold t g) : tryIssue run g s = (.next t, true) := by
  simp only [tryIssue, h, hst, Bool.false_eq_true, if_false]
  split
  next w hb hw =>
    have hw' : w.holdsIssue = false := Bool.eq_false_iff.2 fun hc => hhold ⟨hb, w, hw, hc⟩
    rw [hw']
    rfl
  next => rfl

theorem tryIssue_of_stalled (h : attempt run g s = .next t) (hst : t.stalled = true) : tryIssue run g s = (.next { t with stalled := false }, false) := by
  simp only [tryIssue, h, hst, if_true]

theorem tryIssue_of_hold (h : attempt run g s = .next t) (hst : t.stalled = false) (hhold : OnHold t g) {v : State}
    (hwait : run (.waitComplete g) { t with agenda := t.agenda.erase (.waitComplete g), issuing := true } = .next v) :
    tryIssue run g s = if (v.slot g).state == .blocked then (.next t, false) else (.next { v with issuing := false }, true) := by
  obtain ⟨hb, w, hw, hholds⟩ := hhold
  rw [tryIssue, h]
  refine (if_neg (by rw [hst]; exact Bool.false_ne_true)).trans ?_
  rw [hb, hw]
  refine (if_neg (by rw [hholds]; exact Bool.false_ne_true)).trans ?_
  rw [hwait]

theorem tryIssue_of_end (h : attempt run g s = o) (hno : ∀ t, o ≠ .next t) : tryIssue run g s = (o, true) := by
  rw [tryIssue, h]
  cases o with
  | next t => exact absurd rfl (hno t)
  | fault f => rfl
  | refused r => rfl

theorem issueFirst_skip {order : List Nat} (h : ∀ k ∈ order, (s.slot k).runs = false) (rest : List Nat) :
    issueFirst run (order ++ rest) s = issueFirst run rest s := by
  induction order with
  | nil => rfl
  | cons k order ih =>
    obtain ⟨hk, htail⟩ := List.forall_mem_cons.1 h
    rw [List.cons_append, issueFirst, hk]
    exact ih htail

theorem issueFirst_none {order : List Nat} (h : ∀ k ∈ order, (s.slot k).runs = false) : issueFirst run order s = (.next s, none) := by
  have hskip := issueFirst_skip (run := run) h []
  rwa [List.append_nil] at hskip

theorem issueFirst_of_issued {rest : List Nat} (hruns : (s.slot g).runs = true) (h : tryIssue run g s = (o, true)) :
    issueFirst run (g :: rest) s = (o, some g) := by
  rw [issueFirst, if_pos hruns, h]
  cases o <;> rfl

theorem issueFirst_of_passed {rest : List Nat} (hruns : (s.slot g).runs = true) (h : tryIssue run g s = (.next t, false)) :
    issueFirst run (g :: rest) s = issueFirst run rest t := by
  rw [issueFirst, if_pos hruns, h]

end

/-- The order in which a tile's turn examines its slots, from the state of the turn. -/
def turnOrder (fixed : Bool) (gt : Nat) (u : State) : List Nat :=
  if fixed then [gt * 4 + u.cycle % 4] else
    [gt * 4 + ((u.tile gt).last.val + 1) % 4, gt * 4 + ((u.tile gt).last.val + 2) % 4, gt * 4 + ((u.tile gt).last.val + 3) % 4, gt * 4 + (u.tile gt).last.val]

theorem compactOrder_eq (gt : Nat) (last : Fin 4) :
    compactOrder gt last = [gt * 4 + (last.val + 1) % 4, gt * 4 + (last.val + 2) % 4, gt * 4 + (last.val + 3) % 4, gt * 4 + last.val] := by
  have h : (last.val + 4) % 4 = last.val := by omega
  rw [compactOrder, List.map_cons, List.map_cons, List.map_cons, List.map_singleton, h]

/-- A step in which a tile has its turn. -/
structure WheelTurn (s u : State) (gt : Nat) : Prop where
  schedule : s.schedule = []
  agenda : s.tick.agenda = []
  next : s.tick.nextTile = some gt
  free : s.tick.lockstepOf gt = none
  compact : (s.tick.tile gt).fixed = false → u = s.tick
  phased : (s.tick.tile gt).fixed = true → u = State.ticks (s.tick.phaseWait gt) s.tick

theorem step_of_turn {s u : State} {gt : Nat} (h : WheelTurn s u gt) : let r := issueFirst exec (turnOrder (s.tick.tile gt).fixed gt u) u
    step s = onNext (State.afterTurn gt (if (s.tick.tile gt).fixed then none else r.2)) r.1 := by
  obtain ⟨hschedule, hagenda, hnext, hfree, hcompact, hphased⟩ := h
  have hstep : step s = tileTurn exec gt s.tick := by
    simp only [step, State.stepWith, hschedule, hagenda, hnext]
  rw [hstep, tileTurn, hfree, turnOrder]
  cases hfixed : (s.tick.tile gt).fixed with
  | true =>
    rw [hphased hfixed]
    rfl
  | false =>
    rw [hcompact hfixed, ← compactOrder_eq]
    rfl

section
variable {s u : State} {gt g : Nat} {pre post : List Nat} {o : Host.Outcome State Fault Refusal}

/-- The turn passes on what the first slot in the rotation does. -/
theorem passed_of_attempt (h : WheelTurn s u gt) (horder : pre ++ g :: post = turnOrder (s.tick.tile gt).fixed gt u) (hpre : ∀ k ∈ pre, (u.slot k).runs = false)
    (hruns : (u.slot g).runs = true) (ho : attempt exec g u = o) : Passed s gt g (if (s.tick.tile gt).fixed then none else some g) post o := by
  have hstep := step_of_turn h
  rw [← horder, issueFirst_skip hpre] at hstep
  have hissued {o' : Host.Outcome State Fault Refusal} (ht : tryIssue exec g u = (o', true)) :
      step s = onNext (State.afterTurn gt (if (s.tick.tile gt).fixed then none else some g)) o' := by
    rw [issueFirst_of_issued hruns ht] at hstep
    exact hstep
  have hpassed {t : State} (ht : tryIssue exec g u = (.next t, false)) (hpost : ∀ k ∈ post, (t.slot k).runs = false) :
      step s = .next (t.afterTurn gt none) := by
    rw [issueFirst_of_passed hruns ht, issueFirst_none hpost] at hstep
    exact hstep.trans (by rw [ite_self]; rfl)
  refine ⟨fun t hnext hst hhold => ?_, fun t v hnext hst hhold hwait => ?_, fun t hnext hst hpost => ?_, fun f hf => ?_, fun r hr => ?_⟩
  · exact hissued (tryIssue_of_issued (ho.trans hnext) hst hhold)
  · have ht := tryIssue_of_hold (ho.trans hnext) hst hhold hwait
    refine ⟨fun hstate => hissued (ht.trans (if_neg ?_)), fun hstate hpost => hpassed (ht.trans (if_pos ?_)) hpost⟩
    · rwa [beq_iff_eq]
    · rwa [beq_iff_eq]
  · exact hpassed (tryIssue_of_stalled (ho.trans hnext) hst) hpost
  · exact hissued (tryIssue_of_end (ho.trans hf) fun t => by simp)
  · exact hissued (tryIssue_of_end (ho.trans hr) fun t => by simp)

end

theorem fetch_of_kernel {s : State} {t : Slot} {k : Kernel} (h : s.kernelOf t = some k) :
    s.fetch t = if t.pc % 4 = 0 then k.code[t.pc / 4]? else none := by
  rw [State.fetch, h]
  rfl

/-- Settles O54, by the turn of a tile and what its first slot in the rotation does. -/
theorem stepRunsDecoded : Obligations.StepRunsDecoded := by
  refine ⟨fun s i rest hschedule hagenda => ?_, fun s u gt g pre post k hschedule hagenda hnext hfree hcompact hphased horder hpre hruns hkill hfreeze hheld
    hdeferred hkernel => ?_⟩
  · have hstep : step s = runEvent exec i { s.tick with agenda := rest } := by
      simp only [step, State.stepWith, hschedule, hagenda]
    rw [hstep]
    exact ⟨fun h => if_neg (by rw [h]; exact Bool.false_ne_true), fun h => if_pos h⟩
  · have hattempt := attempt_of_free (run := exec) hkill hfreeze hheld hdeferred
    have hfetch := fetch_of_kernel hkernel
    have hpassed {o : Host.Outcome State Fault Refusal} (h : fetchRun exec g u = o) := passed_of_attempt ⟨hschedule, hagenda, hnext, hfree, hcompact, hphased⟩
      (horder.trans rfl) hpre hruns (hattempt.trans h)
    refine ⟨fun w i hpc hword hdecode => hpassed ?_, fun w e hpc hword hdecode => hpassed ?_, fun hnone => hpassed ?_⟩
    · rw [fetchRun, State.next, hfetch, if_pos hpc, hword]
      simp only [hdecode]
    · rw [fetchRun, State.next, hfetch, if_pos hpc, hword]
      simp only [hdecode]
    · have hno : u.fetch (u.slot g) = none := by
        rw [hfetch]
        split
        next hpc => exact hnone.resolve_left (not_not.2 hpc)
        next => rfl
      rw [fetchRun, State.next, hno]

end Sys2Proof.Machine

namespace Sys2Proof.Machine

open Sys2Proof.Claims

set_option Elab.async false

/-! ## What the operations on records, channels and requests leave alone

A step of a task's end or death goes through many of the model's operations. `Quiet` collects what all but a few of them keep. -/

/-- What an operation that works on records, channels, gangs and requests keeps: the slots, the module's registers, the queues of the
engines, which dies are lost, the canonical form of memory, and a slot that has no request has none after it. -/
structure Quiet (s u : State) : Prop where
  slots : u.slots = s.slots
  mgmt : u.mgmt = s.mgmt
  gens : ∀ gt, (u.tile gt).gens = (s.tile gt).gens
  lost : ∀ d, (u.die d).lostAt = (s.die d).lostAt
  free : ∀ g, g < noSlot → (∀ q ∈ s.requests, q.slot ≠ g) → ∀ q ∈ u.requests, q.slot ≠ g
  wf : Memory.wf s.mem → Memory.wf u.mem

theorem Quiet.refl (s : State) : Quiet s s := ⟨rfl, rfl, fun _ => rfl, fun _ => rfl, fun _ _ h => h, id⟩

theorem Quiet.trans {s t u : State} (h : Quiet s t) (h' : Quiet t u) : Quiet s u :=
  ⟨h'.slots.trans h.slots, h'.mgmt.trans h.mgmt, fun gt => (h'.gens gt).trans (h.gens gt), fun d => (h'.lost d).trans (h.lost d),
    fun g hg hs => h'.free g hg (h.free g hg hs), h'.wf ∘ h.wf⟩

theorem Quiet.foldl {α : Type} {f : State → α → State} (hf : ∀ s a, Quiet s (f s a)) (l : List α) (s : State) : Quiet s (l.foldl f s) :=
  List.foldlRecOn l f (motive := Quiet s) (.refl s) fun u hu a _ => hu.trans (hf u a)

/-- What an operation on neither memory, slots, tiles nor dies keeps. -/
structure Told (s u : State) : Prop where
  mem : u.mem = s.mem
  slots : u.slots = s.slots
  tiles : u.tiles = s.tiles
  dies : u.dies = s.dies
  mgmt : u.mgmt = s.mgmt
  free : ∀ g, g < noSlot → (∀ q ∈ s.requests, q.slot ≠ g) → ∀ q ∈ u.requests, q.slot ≠ g

theorem Told.refl (s : State) : Told s s := ⟨rfl, rfl, rfl, rfl, rfl, fun _ _ h => h⟩

theorem Told.trans {s t u : State} (h : Told s t) (h' : Told t u) : Told s u :=
  ⟨h'.mem.trans h.mem, h'.slots.trans h.slots, h'.tiles.trans h.tiles, h'.dies.trans h.dies, h'.mgmt.trans h.mgmt,
    fun g hg hs => h'.free g hg (h.free g hg hs)⟩

theorem Told.foldl {α : Type} {f : State → α → State} (hf : ∀ s a, Told s (f s a)) (l : List α) (s : State) : Told s (l.foldl f s) :=
  List.foldlRecOn l f (motive := Told s) (.refl s) fun u hu a _ => hu.trans (hf u a)

/-- An operation that leaves the requests alone too. -/
theorem Told.of_same {s u : State} (hmem : u.mem = s.mem) (hslots : u.slots = s.slots) (htiles : u.tiles = s.tiles) (hdies : u.dies = s.dies)
    (hmgmt : u.mgmt = s.mgmt) (hrequests : u.requests = s.requests) : Told s u :=
  ⟨hmem, hslots, htiles, hdies, hmgmt, fun g _ hs => by rwa [hrequests]⟩

theorem Told.quiet {s u : State} (h : Told s u) : Quiet s u where
  slots := h.slots
  mgmt := h.mgmt
  gens gt := by rw [State.tile, h.tiles]; rfl
  lost d := by rw [State.die, h.dies]; rfl
  free := h.free
  wf hs := by rwa [h.mem]

section
variable (s : State)

theorem vget_vset_of_modEq {α : Type} {n : Nat} [NeZero n] (v : Vector α n) {i j : Nat} (x : α) (h : i % n = j % n) : vget (vset v i x) j = x := by
  have hfin : Fin.ofNat n i = Fin.ofNat n j := Fin.ext h
  have hget : vget (vset v i x) j = vget (vset v i x) i := by rw [vget, vget, hfin]
  rw [hget, vget_vset]

theorem onDie_quiet (d : Nat) {f : Die → Die} (hf : ∀ x, (f x).lostAt = x.lostAt) : Quiet s (s.onDie d f) where
  slots := rfl
  mgmt := rfl
  gens _ := rfl
  lost e := by
    have hdie : (s.onDie d f).die e = vget (vset s.dies d (f (s.die d))) e := rfl
    rw [hdie]
    by_cases h : d % 4 = e % 4
    · have hsame : s.die d = s.die e := congrArg s.dies.get (Fin.ext h)
      rw [vget_vset_of_modEq _ _ h, hf, hsame]
    · rw [vget_vset_ne _ _ _ _ h]
      rfl
  free _ _ h := h
  wf := id

theorem onTile_quiet (gt : Nat) {f : Tile → Tile} (hf : ∀ x, (f x).gens = x.gens) : Quiet s (s.onTile gt f) where
  slots := rfl
  mgmt := rfl
  gens k := by
    by_cases h : k = gt
    · rw [h, State.tile_onTile, hf]
    · exact congrArg Tile.gens (State.tile_setTile_ne _ _ _ _ h)
  lost _ := rfl
  free _ _ h := h
  wf := id

/-- A change of the requests that keeps their slots, or drops some. -/
theorem requests_told {l : List Request} (h : ∀ q ∈ l, ∃ r ∈ s.requests, r.slot = q.slot) : Told s { s with requests := l } where
  mem := rfl
  slots := rfl
  tiles := rfl
  dies := rfl
  mgmt := rfl
  free g _ hs q hq := by
    obtain ⟨r, hr, heq⟩ := h q hq
    exact heq ▸ hs r hr

theorem mapRequests_told {f : Request → Request} (hf : ∀ q, (f q).slot = q.slot) : Told s { s with requests := s.requests.map f } :=
  requests_told s fun q hq => by
    obtain ⟨r, hr, rfl⟩ := List.mem_map.1 hq
    exact ⟨r, hr, (hf r).symm⟩

theorem onRequest_told (id : Nat) {f : Request → Request} (hf : ∀ q, (f q).slot = q.slot) : Told s (s.onRequest id f) :=
  mapRequests_told s fun q => by
    split
    · exact hf q
    · rfl

theorem writeMem_quiet (k : Nat) (bs : Bytes) : Quiet s (s.writeMem k bs) :=
  ⟨rfl, rfl, fun _ => rfl, fun _ => rfl, fun _ _ h => h, Memory.wf_write _ _ _⟩

theorem post_told (i : Instr) : Told s (s.post i) := .of_same rfl rfl rfl rfl rfl rfl
theorem onPart_told (p : Nat) (f : Partition → Partition) : Told s (s.onPart p f) := .of_same rfl rfl rfl rfl rfl rfl
theorem onInstance_told (part serial : Nat) (f : Instance → Instance) : Told s (s.onInstance part serial f) := .of_same rfl rfl rfl rfl rfl rfl

theorem onScope_told (key : Nat) (f : ScopeRec → ScopeRec) : Told s (s.onScope key f) := by
  rw [State.onScope]
  split
  · exact .of_same rfl rfl rfl rfl rfl rfl
  · exact .refl s

theorem onGang_told (k : Nat) (f : Gang → Gang) : Told s (s.onGang k f) := by
  rw [State.onGang]
  split
  · exact .of_same rfl rfl rfl rfl rfl rfl
  · exact .refl s

theorem sendPacket_told (p : Packet) : Told s (s.sendPacket p) := by
  rw [State.sendPacket]
  split <;> exact .of_same rfl rfl rfl rfl rfl rfl

theorem tell_told (part : Nat) (pkgs : List Nat) (m : PodMsg) (ws : List Nat) (tail : Bytes) : Told s (s.tell part pkgs m ws tail) :=
  .foldl (fun u _ => Told.trans (t := u.fresh.2) (.of_same rfl rfl rfl rfl rfl rfl) (.foldl (fun v _ => sendPacket_told v _) _ _)) _ _

theorem onRecord_quiet (die entry : Nat) (f : TaskRec → TaskRec) : Quiet s (s.onRecord die entry f) := onDie_quiet s die fun _ => rfl

theorem onTask_quiet (h : Word) (f : TaskRec → TaskRec) : Quiet s (s.onTask h f) := by
  rw [State.onTask]
  split
  · exact onRecord_quiet ..
  · exact .refl s

theorem freeIfDone_quiet (die entry : Nat) : Quiet s (s.freeIfDone die entry) := by
  rw [State.freeIfDone]
  split
  · exact onRecord_quiet ..
  · exact .refl s

theorem tally_told (scope : Nat) (f : AckCounts → AckCounts) : Told s (s.tally scope f) := by
  rw [State.tally]
  split
  · exact onScope_told ..
  · exact .refl s

theorem sealOpened_told (h : Word) : Told s (s.sealOpened h) :=
  .foldl (fun u _ => ((onScope_told u _ _).trans (post_told _ _)).trans (tell_told ..)) _ _

theorem wakeScope_told (key : Nat) : Told s (s.wakeScope key) := by
  rw [State.wakeScope]
  split
  · split <;> exact post_told ..
  · exact .refl s

/-- A new request of the device's own units. -/
theorem addRequest_told (q : Request) (hq : q.slot = noSlot) (n : Nat) : Told s { s with requests := s.requests ++ [q], nextId := n } where
  mem := rfl
  slots := rfl
  tiles := rfl
  dies := rfl
  mgmt := rfl
  free g hg hs r hr := by
    rcases List.mem_append.1 hr with hr | hr
    · exact hs r hr
    · rw [List.mem_singleton.1 hr, hq]
      omega

theorem sendDecrement_told (part : Nat) (m : Decrement) (scope : Nat) : Told s (s.sendDecrement part m scope) := by
  rw [State.sendDecrement]
  split
  · exact post_told ..
  · split
    · exact sendPacket_told ..
    · exact (addRequest_told s _ (by rfl) _).trans (sendPacket_told _ _)

theorem onParked_quiet (part serial chan : Nat) (side : Side) (f : Endpoint → Endpoint) : Quiet s (s.onParked part serial chan side f) := by
  refine .foldl (fun u d => ?_) _ _
  exact onDie_quiet u d fun _ => rfl

theorem tellEnd_told (r : TaskRec) (h : Word) (m : PodMsg) (chan v : Nat) : Told s (s.tellEnd r h m chan v) := by
  rw [State.tellEnd]
  split
  · exact .refl s
  · exact tell_told ..

theorem dropChannels_quiet (r : TaskRec) : Quiet s (s.dropChannels r) := by
  rw [State.dropChannels]
  split
  next t i _ _ =>
    refine .foldl (fun u c => ?_) _ _
    split
    · exact .refl u
    · split
      · exact .refl u
      · split
        · refine (onInstance_told u r.part r.serial (fun i => { i with broken := i.broken ++ [c] })).quiet.trans ?_
          dsimp only
          split
          · split
            · exact onParked_quiet ..
            · split
              · exact (post_told ..).quiet
              · exact .refl _
          · exact (tellEnd_told ..).quiet
        · split
          · split
            · split
              · exact onParked_quiet ..
              · split
                · exact (post_told ..).quiet
                · exact (onInstance_told ..).quiet
            · exact (tellEnd_told ..).quiet
          · exact .refl u
  next => exact .refl s

theorem freeSave_told (part : Nat) (h : Word) : Told s (s.freeSave part h) :=
  (onPart_told s part _).trans (mapRequests_told _ fun q => by split <;> rfl)

theorem leaveGang_told (gang : Option Nat) (f : Gang → Gang) : Told s (match gang with | some k => s.onGang k f | none => s) := by
  cases gang with
  | some k => exact onGang_told s k f
  | none => exact .refl s

/-- A record that a task leaves when it ends, or dies. -/
def TaskRec.over (r : TaskRec) : TaskRec := { r with state := .ended, ready := .none, loc := none, prefetches := [] }
/-- See `TaskRec.over`. -/
def TaskRec.killedOff (killed : Bool) (r : TaskRec) : TaskRec :=
  { r with state := .dead, killed := killed, ready := .none, loc := none, saved := 0, prefetches := [], parkedChans := [], parkedGens := [], parkedBars := [], guarded := [] }

variable {s} in
theorem taskEnds_of_live {h : Word} {failed : Bool} {src : Nat} {r : TaskRec} (hr : s.taskOf h = some r) :
    ∃ u, Told (s.onTask h TaskRec.over) u ∧ s.taskEnds h failed src = u.freeIfDone (handleDie h) (handleEntry h) := by
  rw [State.taskEnds, hr]
  exact ⟨_, ((((onInstance_told ..).trans (leaveGang_told ..)).trans (.foldl (fun _ _ => sendDecrement_told ..) _ _)).trans (sealOpened_told ..)).trans
    (wakeScope_told ..), rfl⟩

variable {s} in
theorem taskDies_of_live {h : Word} {killed : Bool} {owner mark src : Nat} {r : TaskRec} (hr : s.taskOf h = some r)
    (hlive : (r.state == .ended || r.state == .dead) = false) :
    ∃ v u, Quiet s v ∧ Told (v.onTask h (TaskRec.killedOff killed)) u ∧ s.taskDies h killed owner mark src = u.freeIfDone (handleDie h) (handleEntry h) := by
  have hdrop : Quiet s (if r.state == .running || r.state == .placing then s else s.dropChannels r) := by
    split
    · exact .refl s
    · exact dropChannels_quiet s r
  rw [State.taskDies, hr]
  dsimp only
  rw [if_neg (by rw [hlive]; exact Bool.false_ne_true)]
  exact ⟨_, _, hdrop.trans (freeSave_told ..).quiet, (((((tally_told ..).trans (onInstance_told ..)).trans (leaveGang_told ..)).trans
    (.foldl (fun _ _ => sendDecrement_told ..) _ _)).trans (sealOpened_told ..)).trans (wakeScope_told ..), rfl⟩

theorem taskDies_quiet (h : Word) (killed : Bool) (owner mark src : Nat) : Quiet s (s.taskDies h killed owner mark src) := by
  cases hr : s.taskOf h with
  | none => rw [State.taskDies, hr]; exact .refl s
  | some r =>
    cases hlive : (r.state == .ended || r.state == .dead) with
    | true =>
      rw [State.taskDies, hr]
      dsimp only
      rw [if_pos hlive]
      exact .refl s
    | false =>
      obtain ⟨v, u, hv, hu, heq⟩ := taskDies_of_live (killed := killed) (owner := owner) (mark := mark) (src := src) hr hlive
      rw [heq]
      exact ((hv.trans (onTask_quiet ..)).trans hu.quiet).trans (freeIfDone_quiet ..)

theorem taskEnds_quiet (h : Word) (failed : Bool) (src : Nat) : Quiet s (s.taskEnds h failed src) := by
  cases hr : s.taskOf h with
  | none => rw [State.taskEnds, hr]; exact .refl s
  | some r =>
    obtain ⟨u, hu, heq⟩ := taskEnds_of_live (failed := failed) (src := src) hr
    rw [heq]
    exact ((onTask_quiet ..).trans hu.quiet).trans (freeIfDone_quiet ..)

theorem onChan_quiet (gt c : Nat) (f : Endpoint → Endpoint) : Quiet s (s.onChan gt c f) := onTile_quiet s gt fun _ => rfl

theorem countBeats_quiet (gt c : Nat) (tok : Token) : Quiet s (s.countBeats gt c tok) := by
  rw [State.countBeats]
  split
  · exact .refl s
  · exact onChan_quiet ..

theorem sendToken_quiet (part gt c : Nat) (tok : Token) : Quiet s (s.sendToken part gt c tok) := by
  rw [State.sendToken]
  generalize (if (s.chan gt c).lane then tok else { tok with place := some ((s.chan gt c).lastEntry, (s.chan gt c).sent) }) = sent
  refine (countBeats_quiet s gt c sent).trans ?_
  split
  · split
    · split
      · exact (post_told ..).quiet
      · exact onParked_quiet ..
    · exact .foldl (fun u p => (sendPacket_told u p).quiet) _ _
  · exact .refl _

theorem closeSender_quiet (part gt c : Nat) (kind : TokenKind) : Quiet s (s.closeSender part gt c kind) := by
  rw [State.closeSender]
  split
  · have hchan := onChan_quiet s gt c (fun e => { e with state := if kind == .endTok then .closed else .broken, count := e.count + 1 })
    dsimp only
    generalize (s.onChan gt c fun e => { e with state := if kind == .endTok then .closed else .broken, count := e.count + 1 }) = u at hchan ⊢
    refine hchan.trans ?_
    split
    · exact sendToken_quiet ..
    · split
      · exact (tell_told ..).quiet
      · exact (onInstance_told ..).quiet
  · exact .refl s

theorem closeReceiver_quiet (part gt c : Nat) : Quiet s (s.closeReceiver part gt c) := by
  rw [State.closeReceiver]
  split
  · refine (onChan_quiet s gt c (fun e => { e with state := .broken, tokens := [], held := none })).trans ?_
    dsimp only
    split
    · split
      · split
        · exact (post_told ..).quiet
        · exact onParked_quiet ..
      · exact (sendPacket_told ..).quiet
    · exact .refl _
  · exact .refl s

theorem settleBar_quiet (part src : Nat) (super : Bool) (levels : Vector Byte 8) (m : Membership) (killed : Bool) :
    Quiet s (s.settleBar part src super levels m killed) := by
  rw [State.settleBar]
  split
  · dsimp only
    split
    · exact writeMem_quiet ..
    · exact .refl s
  · exact (sendPacket_told ..).quiet

theorem settleMembership_quiet (g : Nat) (m : Membership) (killed : Bool) : Quiet s (s.settleMembership g m killed) := settleBar_quiet ..

theorem countTile_quiet (g i n : Nat) : Quiet s (s.countTile g i n) := onTile_quiet s g fun _ => rfl
theorem countDie_quiet (d i n : Nat) : Quiet s (s.countDie d i n) := onDie_quiet s d fun _ => rfl

theorem closeInbox_quiet (g : Nat) (killed : Bool) : Quiet s (s.closeInbox g killed) := by
  rw [State.closeInbox]
  split
  · refine Quiet.trans ?_ (onTile_quiet _ _ fun _ => rfl)
    split
    · exact countTile_quiet ..
    · exact .refl s
  · exact .refl s

theorem onTlb_quiet (n : Nat) (f : Tlb → Tlb) : Quiet s (s.onTlb n f) := by
  rw [State.onTlb]
  split
  · exact onTile_quiet s n fun _ => rfl
  · split
    · exact onDie_quiet s _ fun _ => rfl
    · exact onDie_quiet s _ fun _ => rfl

theorem unask_quiet (asker tlb : Nat) (which : Word → Bool) : Quiet s (s.unask asker tlb which) := by
  refine (onTlb_quiet s tlb _).trans (.foldl (fun u d => ?_) _ _)
  split
  · exact .refl u
  · exact onDie_quiet u d fun _ => rfl

theorem clearAnswers_quiet (g : Nat) : Quiet s (s.clearAnswers g) := unask_quiet ..

theorem answer_told (id : Nat) (v : Word) : Told s (s.answer id v) := by
  refine Told.trans ?_ (post_told _ _)
  exact onRequest_told s id fun _ => rfl

theorem answerSaves_told (task v : Word) : Told s (s.answerSaves task v) :=
  .foldl (fun u (r : Request) => answer_told u r.id v) _ _

theorem dropMembership_quiet (g : Nat) (m : Membership) : Quiet s (s.dropMembership g m) := by
  rw [State.dropMembership]
  split
  · refine Told.quiet ?_
    exact onRequest_told s _ fun _ => rfl
  · exact settleMembership_quiet ..

end

end Sys2Proof.Machine

namespace Sys2Proof.Machine

open Sys2Proof.Claims

set_option Elab.async false

/-! ## The end of a task and of its slot's grant (spec/10 R235, R241; spec/01 R17) -/

theorem taskOf_congr {s u : State} (hdies : u.dies = s.dies) (hmgmt : u.mgmt = s.mgmt) (h : Word) : u.taskOf h = s.taskOf h := by
  have hrecord : u.record (handleDie h) (handleEntry h) = s.record (handleDie h) (handleEntry h) := by rw [State.record, State.die, hdies]; rfl
  rw [State.taskOf, hrecord, hmgmt]
  rfl

theorem record_onRecord (s : State) (die entry : Nat) (f : TaskRec → TaskRec) : (s.onRecord die entry f).record die entry = f (s.record die entry) := by
  rw [State.record, State.die, State.onRecord, State.onDie, vget_vset, Assoc.get_set_same]

theorem taskOf_eq_record {s : State} {h : Word} {r : TaskRec} (hr : s.taskOf h = some r) : r = s.record (handleDie h) (handleEntry h) := by
  rw [State.taskOf] at hr
  split at hr
  · exact (Option.some.inj hr).symm
  · cases hr

/-- The task of a handle runs no more: no live record, or one of a task that has ended or died. -/
def Finished (s : State) (h : Word) : Prop := ∀ r, s.taskOf h = some r → r.state = .ended ∨ r.state = .dead

theorem Finished.ne {s : State} {h : Word} {r : TaskRec} (hf : Finished s h) (hr : r.state = .running) : s.taskOf h ≠ some r := fun heq => by
  rcases hf r heq with h' | h' <;> rw [hr] at h' <;> cases h'

theorem Finished.of_record {s : State} {h : Word} (hstate : (s.record (handleDie h) (handleEntry h)).state = .ended ∨
    (s.record (handleDie h) (handleEntry h)).state = .dead) : Finished s h := fun r hr => by rwa [taskOf_eq_record hr]

theorem Finished.congr {s u : State} {h : Word} (hf : Finished s h) (hdies : u.dies = s.dies) (hmgmt : u.mgmt = s.mgmt) : Finished u h := by
  rw [Finished, taskOf_congr hdies hmgmt]
  exact hf

theorem Finished.freeIfDone {s : State} {h : Word} (hf : Finished s h) : Finished (s.freeIfDone (handleDie h) (handleEntry h)) h := by
  rw [State.freeIfDone]
  split
  · intro r hr
    have hfree : (r.state != .free) = false := by rw [taskOf_eq_record hr, record_onRecord]; rfl
    rw [State.taskOf] at hr
    split at hr
    next hcond =>
      cases hr
      simp only [hfree, Bool.and_false, Bool.false_and, Bool.false_eq_true] at hcond
    next => cases hr
  · exact hf

theorem finished_onTask {s : State} {h : Word} {r : TaskRec} (hr : s.taskOf h = some r) {f : TaskRec → TaskRec}
    (hf : ∀ q, (f q).state = .ended ∨ (f q).state = .dead) : Finished (s.onTask h f) h := by
  refine .of_record ?_
  rw [State.onTask, hr]
  dsimp only
  rw [record_onRecord]
  exact hf _

theorem finished_of_none {s : State} {h : Word} (hr : s.taskOf h = none) : Finished s h := fun r h' => by
  rw [hr] at h'
  cases h'

theorem finished_taskEnds (s : State) (h : Word) (failed : Bool) (src : Nat) : Finished (s.taskEnds h failed src) h := by
  cases hr : s.taskOf h with
  | none => rw [State.taskEnds, hr]; exact finished_of_none hr
  | some r =>
    obtain ⟨u, hu, heq⟩ := taskEnds_of_live (failed := failed) (src := src) hr
    rw [heq]
    exact ((finished_onTask hr fun _ => .inl rfl).congr hu.dies hu.mgmt).freeIfDone

/-! The grant of a slot ends. -/

/-- What the end of a grant keeps. -/
structure Regrant (s u : State) : Prop where
  mem : u.mem = s.mem
  dies : u.dies = s.dies
  mgmt : u.mgmt = s.mgmt
  requests : u.requests = s.requests

theorem Regrant.refl (s : State) : Regrant s s := ⟨rfl, rfl, rfl, rfl⟩
theorem Regrant.trans {s t u : State} (h : Regrant s t) (h' : Regrant t u) : Regrant s u :=
  ⟨h'.mem.trans h.mem, h'.dies.trans h.dies, h'.mgmt.trans h.mgmt, h'.requests.trans h.requests⟩

/-- A slot that holds no task, and is empty with no grant if it was so already. -/
structure Vacant (g : Nat) (s u : State) : Prop extends Regrant s u where
  task : (s.slot g).task = 0 → (u.slot g).task = 0
  empty : (s.slot g).state = .empty → (u.slot g).state = .empty
  grant : (s.slot g).grant = Grant.none → (u.slot g).grant = Grant.none

section
variable {s t u : State} {g : Nat}

theorem Vacant.refl (g : Nat) (s : State) : Vacant g s s := ⟨.refl s, id, id, id⟩
theorem Vacant.trans (h : Vacant g s t) (h' : Vacant g t u) : Vacant g s u :=
  ⟨h.toRegrant.trans h'.toRegrant, h'.task ∘ h.task, h'.empty ∘ h.empty, h'.grant ∘ h.grant⟩
theorem Vacant.foldl {α : Type} {f : State → α → State} (hf : ∀ s a, Vacant g s (f s a)) (l : List α) (s : State) : Vacant g s (l.foldl f s) :=
  List.foldlRecOn l f (motive := Vacant g s) (.refl g s) fun _ hu a _ => hu.trans (hf _ a)
theorem Vacant.of_slots (h : Regrant s u) (hslots : u.slots = s.slots) : Vacant g s u := by
  have hslot : u.slot g = s.slot g := by rw [State.slot, hslots]; rfl
  exact ⟨h, by rw [hslot]; exact id, by rw [hslot]; exact id, by rw [hslot]; exact id⟩

theorem vacant_unbind (s : State) (g gt c : Nat) : Vacant g s (s.unbind gt c) := .of_slots ⟨rfl, rfl, rfl, rfl⟩ rfl
theorem vacant_onTile (s : State) (g gt : Nat) (f : Tile → Tile) : Vacant g s (s.onTile gt f) := .of_slots ⟨rfl, rfl, rfl, rfl⟩ rfl

/-- A RESERVED slot, no longer reserved. -/
def Slot.unreserved (t : Slot) : Slot := if t.state == .reserved then { t with state := .empty, gang := none } else t

theorem vacant_onSlot (s : State) (g h : Nat) {f : Slot → Slot} (htask : ∀ t, (f t).task = t.task) (hstate : ∀ t, t.state = .empty → (f t).state = .empty)
    (hgrant : ∀ t, (f t).grant = t.grant) : Vacant g s (s.onSlot h f) := by
  by_cases hg : g = h
  · subst hg
    refine ⟨⟨rfl, rfl, rfl, rfl⟩, ?_, ?_, ?_⟩ <;> rw [State.slot_onSlot]
    · rw [htask]; exact id
    · exact hstate _
    · rw [hgrant]; exact id
  · have hslot := State.slot_onSlot_ne s h g f hg
    refine ⟨⟨rfl, rfl, rfl, rfl⟩, ?_, ?_, ?_⟩ <;> rw [hslot] <;> exact id

theorem vacant_unreserve (s : State) (g h : Nat) : Vacant g s (s.unreserve h) := by
  refine vacant_onSlot s g h (f := Slot.unreserved) (fun t => ?_) (fun t ht => ?_) (fun t => ?_)
  · rw [Slot.unreserved]; split <;> rfl
  · rw [Slot.unreserved]; split
    · rfl
    · exact ht
  · rw [Slot.unreserved]; split <;> rfl

theorem vacant_bindLanes (s : State) (g : Nat) (paths : List (Nat × Nat)) (take : Bool) : Vacant g s (s.bindLanes paths take) :=
  .foldl (fun _ _ => vacant_onTile ..) _ _

theorem vacant_releaseGang (s : State) (g k : Nat) : Vacant g s (s.releaseGang k) := by
  rw [State.releaseGang]
  split
  next => exact .refl g s
  next gang _ =>
    split
    · exact .refl g s
    · have hslots : Vacant g s (gang.slots.foldl (fun s g => s.unreserve g) s) := .foldl (fun _ _ => vacant_unreserve ..) _ _
      have hfixed (u : State) : Vacant g u (if gang.fixed then gang.slots.foldl (fun s g => s.unfix (tileOfSlot g)) u else u) := by
        split
        · exact .foldl (fun _ _ => vacant_onTile ..) _ _
        · exact .refl g u
      have hgranted (u : State) : Vacant g u (gang.granted.foldl (fun s e => (setBits 16 e.2.ch.toNat).foldl (fun s c => s.unbind e.1 c) s) u) :=
        .foldl (fun _ _ => .foldl (fun _ _ => vacant_unbind ..) _ _) _ _
      have hlanes (u : State) : Vacant g u (match u.gangTemplate gang with
          | some t => u.bindLanes (t.lanes gang.gidx gang.tile) false
          | none => u) := by
        split
        · exact vacant_bindLanes ..
        · exact .refl g u
      exact (((hslots.trans (hfixed _)).trans (hgranted _)).trans (hlanes _)).trans (.of_slots ⟨rfl, rfl, rfl, rfl⟩ rfl)

/-- The slot when its grant has ended. -/
def Slot.released (keep : Bool) (t : Slot) : Slot := { t.vacated (if keep then .reserved else .empty) with gang := if keep then t.gang else none }

/-- What follows for the gang of a released slot, or for its tile. -/
def State.afterRelease (s : State) (gang : Option Nat) (g : Nat) : State :=
  match gang with
  | some k => s.releaseGang k
  | none => if (s.tile (tileOfSlot g)).fixed then
      State.unfix (([0, 1, 2, 3].filter (fun i => tileOfSlot g * 4 + i != g)).foldl (fun s i => State.unreserve s (tileOfSlot g * 4 + i)) s) (tileOfSlot g)
    else s

theorem vacant_afterRelease (s : State) (gang : Option Nat) (g : Nat) : Vacant g s (s.afterRelease gang g) := by
  cases gang with
  | some k => exact vacant_releaseGang ..
  | none =>
    rw [State.afterRelease]
    split
    · exact Vacant.trans (.foldl (fun _ _ => vacant_unreserve ..) _ _) (vacant_onTile ..)
    · exact .refl g s

theorem vacant_unbindAll (s : State) (g gt : Nat) (held : BitVec 16) (l : List Nat) :
    Vacant g s (l.foldl (fun s c => if testN held.toNat c then s else s.unbind gt c) s) := by
  refine .foldl (fun u c => ?_) _ _
  split
  · exact .refl g u
  · exact vacant_unbind ..

/-- A gang holds the footprint of a slot that it releases. -/
def State.keeps (s : State) (g : Nat) : Bool :=
  match (s.slot g).gang with
  | some k => s.gangLive k
  | none => false

/-- The endpoints of a slot that no other slot of its tile holds unbound, and its part of the scratchpad given up. -/
def State.ungranted (s : State) (g : Nat) : State :=
  let held := ([0, 1, 2, 3].filter (fun i => tileOfSlot g * 4 + i != g)).foldl
    (fun (m : BitVec 16) i => m ||| (s.slot (tileOfSlot g * 4 + i)).grant.ch) 0
  let shared : BitVec 16 := match s.kernel (s.slot g).part (s.slot g).image (s.slot g).kernel with
    | some k => if s.keeps g then k.share.ch else 0
    | none => 0
  ((setBits 16 (s.slot g).grant.ch.toNat).foldl (fun s c => if testN (held ||| shared).toNat c then s else s.unbind (tileOfSlot g) c) s).onTile (tileOfSlot g)
    (fun u => { u with reserved := u.reserved.filter (fun r => r.1 != g % 4) })

theorem regrant_ungranted (s : State) (g : Nat) : Regrant s (s.ungranted g) := by
  rw [State.ungranted]
  exact (vacant_unbindAll s g (tileOfSlot g) _ _).toRegrant.trans ⟨rfl, rfl, rfl, rfl⟩

theorem releaseSlot_eq (s : State) (g : Nat) : s.releaseSlot g =
    (((s.ungranted g).onSlot g (Slot.released (s.keeps g))).afterRelease (s.slot g).gang g).post (.place (dieOf (tileOfSlot g)) (s.slot g).part) := rfl

theorem releaseSlot_frame (s : State) (g : Nat) : ((s.releaseSlot g).slot g).task = 0 ∧ ((s.releaseSlot g).slot g).grant = Grant.none ∧
    ((s.slot g).gang = none → ((s.releaseSlot g).slot g).state = .empty) ∧ Regrant s (s.releaseSlot g) := by
  rw [releaseSlot_eq]
  have hu := regrant_ungranted s g
  have hkeep : (s.slot g).gang = none → s.keeps g = false := fun h => by rw [State.keeps, h]
  generalize s.ungranted g = u at hu ⊢
  generalize s.keeps g = keep at hkeep ⊢
  have hafter := vacant_afterRelease (u.onSlot g (Slot.released keep)) (s.slot g).gang g
  have hslot : (u.onSlot g (Slot.released keep)).slot g = Slot.released keep (u.slot g) := State.slot_onSlot ..
  refine ⟨hafter.task (by rw [hslot]; rfl), hafter.grant (by rw [hslot]; rfl), fun h => hafter.empty (by rw [hslot, hkeep h]; rfl), ?_⟩
  have hon : Regrant u (u.onSlot g (Slot.released keep)) := ⟨rfl, rfl, rfl, rfl⟩
  exact (hu.trans hon).trans (hafter.toRegrant.trans ⟨rfl, rfl, rfl, rfl⟩)

/-- What END does before the grant of its slot ends. -/
theorem commitEnd_eq (hgang : (s.slot g).gang = none) (status : Byte) : ∃ u failed src, Quiet s u ∧
    s.commitEnd g status = (u.taskEnds (s.slot g).task failed src).releaseSlot g := by
  have hsenders := Quiet.foldl (fun (s' : State) c => closeSender_quiet s' (s.slot g).part (tileOfSlot g) c .endTok) (s.ownChans g) s
  refine ⟨_, _, _, ?_, by rw [State.commitEnd, hgang]⟩
  refine Quiet.trans ?_ (clearAnswers_quiet _ g)
  refine Quiet.trans ?_ (closeInbox_quiet _ g false)
  refine Quiet.trans ?_ (.foldl (fun _ _ => settleMembership_quiet ..) _ _)
  exact hsenders.trans (.foldl (fun _ _ => closeReceiver_quiet ..) _ _)

theorem commitEnd_frame (hgang : (s.slot g).gang = none) (status : Byte) : ((s.commitEnd g status).slot g).task = 0 ∧
    ((s.commitEnd g status).slot g).state = .empty ∧ ((s.commitEnd g status).slot g).grant = Grant.none ∧ Finished (s.commitEnd g status) (s.slot g).task := by
  obtain ⟨u, failed, src, hu, heq⟩ := commitEnd_eq hgang status
  have hends := hu.trans (taskEnds_quiet u (s.slot g).task failed src)
  have hslot : (u.taskEnds (s.slot g).task failed src).slot g = s.slot g := by rw [State.slot, hends.slots]; rfl
  obtain ⟨htask, hgrant, hempty, hframe⟩ := releaseSlot_frame (u.taskEnds (s.slot g).task failed src) g
  rw [hslot] at hempty
  rw [heq]
  exact ⟨htask, hempty hgang, hgrant, (finished_taskEnds u _ failed src).congr hframe.dies hframe.mgmt⟩

theorem endCommit_of_done {status : Byte} {r : TaskRec} (hstate : (s.slot g).state = .blocked) (hwait : (s.slot g).wait = some (.ending status))
    (hfreeze : (s.slot g).freeze = none) (hr : s.taskOf (s.slot g).task = some r) (hscope : s.scopeState r.scope = .active) (hdone : s.workDone g = true) :
    Gives (.endCommit g) s (s.commitEnd g status) := by
  have hfrozen : (s.slot g).frozen = false := by rw [Slot.frozen, hfreeze]; rfl
  have hexec : exec (.endCommit g) s = execEndCommit g s := rfl
  rw [Gives, hexec, execEndCommit]
  simp only [hstate, hwait, hr, hfrozen, hscope, hdone, Bool.false_eq_true, if_false, if_true]
  rfl

end

end Sys2Proof.Machine

namespace Sys2Proof.Machine

open Sys2Proof.Claims

set_option Elab.async false

/-! ## How waits end (spec/02 R35, Table 2.7) -/

theorem x_endTest (own : Nat) (n : Nat) : ∀ f : Flow, (Flow.endTest own n f).x = f.x := by
  induction n with
  | zero => exact fun _ => rfl
  | succ n ih =>
    intro f
    rw [Flow.endTest]
    split
    · rfl
    · split
      · rfl
      · dsimp only
        split
        · split
          · exact ih _
          · rfl
        · split
          · exact ih _
          · rfl

theorem get_advance (f : Flow) (d : Reg) : f.advance.get d = f.get d := by
  rw [Flow.get, Flow.get, Flow.advance, x_endTest]

/-- The slot when a wait has ended and its instruction has retired. -/
def Slot.waited (f : Slot → Slot) (t : Slot) : Slot := { (f t).advance with state := t.active, wait := none }

theorem flow_state (u : Slot) (st : SlotState) (w : Option Wait) : ({ u with state := st, wait := w } : Slot).flow = u.flow := by
  have hbank : ({ u with state := st, wait := w } : Slot).bank = u.bank := rfl
  rw [Slot.flow, Slot.flow, hbank]
  cases u.bank <;> rfl

theorem get_waited_setX (t : Slot) (d : Reg) (v : Word) : (t.waited (fun t => t.setX d v)).flow.get d = if d = 0 then 0 else v := by
  have hflow : (t.waited (fun t => t.setX d v)).flow = (t.setX d v).advance.flow := by
    rw [Slot.waited]
    generalize (t.setX d v).advance = u
    exact flow_state u _ _
  rw [hflow, Slot.advance_flow, get_advance, Slot.setX_flow, Flow.get_set, if_pos rfl]

section
variable {s t u : State} {g : Nat} {w : Wait}

/-- A slot is BLOCKED on a wait that can be examined. -/
structure Waits (s : State) (g : Nat) (w : Wait) : Prop where
  state : (s.slot g).state = .blocked
  wait : (s.slot g).wait = some w
  freeze : (s.slot g).freeze = none
  notice : (s.slot g).killNotice = false

/-- What WAIT_COMPLETE makes of an attempt at a wait. -/
def State.waitOutcome (s : State) (g : Nat) (w : Wait) : Option State × State → State
  | (some s', _) => if s.inLockstep (s.slot g) && w.holdsIssue && !s.issuing then s.ready g w else s'
  | (none, u) => if u.messageWaits g then u.enterHandler g (some w) else u.defer (.waitComplete g)

theorem waitComplete_of (h : Waits s g w) : Gives (.waitComplete g) s (s.waitOutcome g w (s.tryWait g w)) := by
  obtain ⟨hstate, hwait, hfreeze, hnotice⟩ := h
  have hfrozen : (s.slot g).frozen = false := by rw [Slot.frozen, hfreeze]; rfl
  have hexec : exec (.waitComplete g) s = execWaitComplete g s := rfl
  rw [Gives, hexec, execWaitComplete]
  simp only [hstate, hwait, hfrozen, hnotice, Bool.false_and, Bool.or_self, Bool.false_eq_true, if_false]
  rfl

theorem waitComplete_late (h : Waits s g w) (hl : s.inLockstep (s.slot g) = true) (hi : s.issuing = false) (hw : w.holdsIssue = true)
    (ht : s.tryWait g w = (some t, u)) : Gives (.waitComplete g) s (s.ready g w) := by
  have hgives := waitComplete_of h
  rw [ht] at hgives
  exact hgives.trans (congrArg Host.Outcome.next (if_pos (by rw [hl, hi, hw]; rfl)))

theorem waitComplete_met (h : Waits s g w) (hl : s.inLockstep (s.slot g) = true → s.issuing = true ∨ w.holdsIssue = false)
    (ht : s.tryWait g w = (some t, u)) : Gives (.waitComplete g) s t := by
  have hgives := waitComplete_of h
  rw [ht] at hgives
  refine hgives.trans (congrArg Host.Outcome.next (if_neg ?_))
  simp only [Bool.and_eq_true, Bool.not_eq_true', not_and, Bool.not_eq_false, and_imp]
  intro hlock hholds
  exact (hl hlock).resolve_right (by rw [hholds]; exact Bool.noConfusion)

theorem waitComplete_unmet (h : Waits s g w) (ht : s.tryWait g w = (none, s)) (hm : s.messageWaits g = false) :
    Gives (.waitComplete g) s (s.defer (.waitComplete g)) := by
  have hgives := waitComplete_of h
  rw [ht] at hgives
  exact hgives.trans (congrArg Host.Outcome.next (if_neg (by rw [hm]; exact Bool.false_ne_true)))

/-! The waits. -/

theorem tryWait_counter (k n : Nat) : s.tryWait g (.counter k n) =
    if (s.counter (g / 4) k).toNat < n then (some (s.complete g id), s) else (none, s) := rfl

/-- A wait with a result, or without one yet. -/
def State.waitResult (s : State) (g : Nat) (d : Reg) : Option Word → Option State × State
  | some v => (some (s.complete g (fun t => t.setX d v)), s)
  | none => (none, s)

theorem tryWait_barrier {d : Reg} {addr : Word} {p : BitVec 16} {k : Nat} (hk : s.barrierKey addr = some k) (hp : s.poisoned k 16 = false) :
    s.tryWait g (.barrier d addr p) = s.waitResult g d (barrierResult (s.slot g).levels p (s.readMem k 16)) := by
  rw [State.tryWait]
  simp only [hk, hp, Bool.false_eq_true, if_false]
  rfl

theorem barrierResult_invalid {levels : Vector Byte 8} {p : BitVec 16} {bs : Bytes} (h : (BarrierWord.ofBytes bs).valid levels = false) :
    barrierResult levels p bs = some (failure 15) := if_pos (by rw [h]; rfl)
theorem barrierResult_passed {levels : Vector Byte 8} {p : BitVec 16} {bs : Bytes} (h : (BarrierWord.ofBytes bs).valid levels = true)
    (hp : BitVec.ofNat 16 (BarrierWord.ofBytes bs).phase ≠ p) : barrierResult levels p bs = some (wordN (BarrierWord.ofBytes bs).lastKilled) :=
  (if_neg (by rw [h]; exact Bool.false_ne_true)).trans (if_pos hp)
theorem barrierResult_same {levels : Vector Byte 8} {p : BitVec 16} {bs : Bytes} (h : (BarrierWord.ofBytes bs).valid levels = true)
    (hp : BitVec.ofNat 16 (BarrierWord.ofBytes bs).phase = p) : barrierResult levels p bs = none :=
  (if_neg (by rw [h]; exact Bool.false_ne_true)).trans (if_neg (not_not.2 hp))

theorem tryWait_scope {d : Reg} {key : Nat} {r : ScopeRec} (hr : s.scope key = some r) (hover : (r.state == .closed || r.state == .cancelled) = true) :
    s.tryWait g (.scope d key) = (some (s.complete g (fun t => t.setX d r.waitResult)), s) := by
  rw [State.tryWait]
  simp only [hr]
  exact if_pos hover

/-! SEND of one beat. -/

/-- An endpoint that sends one more token. -/
def Endpoint.spent (e : Endpoint) : Endpoint := { e with allowance := e.allowance - 1, count := e.count + 1 }

theorem SameTiles.foldl {α : Type} {f : State → α → State} (hf : ∀ s a, SameTiles s (f s a)) (l : List α) (s : State) : SameTiles s (l.foldl f s) :=
  List.foldlRecOn l f (motive := SameTiles s) ⟨rfl, rfl, rfl, rfl⟩ fun u hu a _ => by
    obtain ⟨hmem, hslots, htiles, hcur⟩ := hu
    obtain ⟨hmem', hslots', htiles', hcur'⟩ := hf u a
    exact ⟨hmem'.trans hmem, hslots'.trans hslots, htiles'.trans htiles, hcur'.trans hcur⟩

theorem sendToken_sameTiles (s : State) (part gt c : Nat) (tok : Token) : ∃ tok', SameTiles (s.countBeats gt c tok') (s.sendToken part gt c tok) := by
  rw [State.sendToken]
  generalize (if (s.chan gt c).lane then tok else { tok with place := some ((s.chan gt c).lastEntry, (s.chan gt c).sent) }) = tok'
  refine ⟨tok', ?_⟩
  split
  · split
    · split
      · exact ⟨rfl, rfl, rfl, rfl⟩
      · exact State.onParked_sameTiles ..
    · exact .foldl (fun u p => u.sendPacket_sameTiles p) _ _
  · exact ⟨rfl, rfl, rfl, rfl⟩

theorem countBeats_frame (s : State) (gt c : Nat) (tok : Token) : (s.countBeats gt c tok).mem = s.mem ∧ (s.countBeats gt c tok).slots = s.slots ∧
    ((s.countBeats gt c tok).chan gt c).allowance = (s.chan gt c).allowance ∧ ((s.countBeats gt c tok).chan gt c).count = (s.chan gt c).count := by
  rw [State.countBeats]
  split
  · exact ⟨rfl, rfl, rfl, rfl⟩
  · rw [State.chan_onChan]
    exact ⟨rfl, rfl, rfl, rfl⟩

theorem sendToken_frame (s : State) (part gt c : Nat) (tok : Token) : (s.sendToken part gt c tok).mem = s.mem ∧ (s.sendToken part gt c tok).slots = s.slots ∧
    ((s.sendToken part gt c tok).chan gt c).allowance = (s.chan gt c).allowance ∧ ((s.sendToken part gt c tok).chan gt c).count = (s.chan gt c).count := by
  obtain ⟨tok', hmem, hslots, htiles, -⟩ := sendToken_sameTiles s part gt c tok
  obtain ⟨hmem', hslots', hallowance, hcount⟩ := countBeats_frame s gt c tok'
  have hchan : (s.sendToken part gt c tok).chan gt c = (s.countBeats gt c tok').chan gt c := by
    rw [State.chan, State.tile, htiles]
    rfl
  rw [hchan]
  exact ⟨hmem.trans hmem', hslots.trans hslots', hallowance, hcount⟩

theorem trySend_of_one {d : Reg} {c : Nat} {tok : Token} (htail : tok.tail = true) (hlen : tok.bytes.length = 64) (hstate : (s.chan (g / 4) c).state = .opened)
    (hfrozen : (s.chan (g / 4) c).frozen = false) (hallowance : 0 < (s.chan (g / 4) c).allowance) (hdone : s.accessesPerformed g = true)
    (hpeer : (s.chan (g / 4) c).peer ≠ none) (hroom : s.tokenRoom (g / 4) (s.chan (g / 4) c) = true) :
    s.trySend g d c tok = some (((s.onChan (g / 4) c Endpoint.spent).sendToken (s.slot g).part (g / 4) c { tok with tail := true }).complete g
      (fun t => t.setX d (chanStatus 0 c 1 0))) := by
  have hlive : ((s.chan (g / 4) c).peer.isNone || decide ((s.chan (g / 4) c).allowance = 0) || (s.chan (g / 4) c).frozen || !s.accessesPerformed g) = false := by
    rw [Option.isNone_eq_false_iff.2 (Option.isSome_iff_ne_none.2 hpeer), decide_eq_false (by omega), hfrozen, hdone]
    rfl
  rw [State.trySend]
  refine (if_neg (by rw [Bool.not_eq_true']; exact ne_false_of_eq_true hroom)).trans ((if_neg (by rw [htail]; exact Bool.false_ne_true)).trans
    ((if_neg (by rw [tileOfSlot, hstate]; exact Bool.false_ne_true)).trans ((if_neg (by rw [tileOfSlot, hlive]; exact Bool.false_ne_true)).trans ?_)))
  have hbeats : tok.bytes.length / 64 = 1 := by omega
  rw [hbeats]
  exact if_pos (le_refl 1)

end

theorem chanStatus_eq (code c beats off : Nat) : chanStatus code c beats off = status code c beats off := rfl

/-- Settles O32, by what each wait finds. -/
theorem waitsEnd : Obligations.WaitsEnd := by
  refine ⟨fun s g k n hstate hwait hfreeze hnotice hlock hissuing hlt => ?_, fun s g status r hstate hwait hfreeze hr hscope hdone hgang => ?_,
    fun s g w hstate hwait hfreeze hnotice hlock => ?_⟩
  · have htry : s.tryWait g (.counter k n) = (some (s.complete g id), s) := (tryWait_counter k n).trans (if_pos hlt)
    exact waitComplete_late ⟨hstate, hwait, hfreeze, hnotice⟩ hlock hissuing rfl htry
  · obtain ⟨htask, hempty, -, -⟩ := commitEnd_frame hgang status
    exact ⟨_, endCommit_of_done hstate hwait hfreeze hr hscope hdone, htask, hempty⟩
  · intro on
    have hwaits : Waits s g w := ⟨hstate, hwait, hfreeze, hnotice⟩
    refine ⟨fun k n hw => ⟨fun hlt => ?_, fun hge hm => ?_⟩, fun d v hw => ?_, fun d addr p k hw hk hp => ⟨fun hvalid hne => ?_, fun hvalid heq hm => ?_, fun hinvalid => ?_⟩,
      fun d key r hw hr => ⟨fun hst => ?_, fun hst => ?_⟩, fun hw => ?_, fun n hw hlt => ?_,
      fun d c tok hw htail hlen hst hfrozen hallowance hdone hpeer hroom => ?_⟩
    all_goals subst hw
    · exact waitComplete_met hwaits hlock ((tryWait_counter k n).trans (if_pos hlt))
    · exact waitComplete_unmet hwaits ((tryWait_counter k n).trans (if_neg (Nat.not_lt.2 hge))) hm
    · exact waitComplete_met hwaits hlock rfl
    · exact waitComplete_met hwaits hlock ((tryWait_barrier hk hp).trans (congrArg _ (barrierResult_passed hvalid hne)))
    · exact waitComplete_unmet hwaits ((tryWait_barrier hk hp).trans (congrArg _ (barrierResult_same hvalid heq))) hm
    · exact waitComplete_met hwaits hlock ((tryWait_barrier hk hp).trans (congrArg _ (barrierResult_invalid hinvalid)))
    · have hresult : r.waitResult = 1 := if_neg (by rw [hst]; exact Bool.false_ne_true)
      have hmet := waitComplete_met hwaits hlock (tryWait_scope hr (by rw [hst]; rfl))
      rwa [hresult] at hmet
    · have hresult : r.waitResult = BitVec.ofNat 64 (2 + 256 * r.cause) := if_pos (by rw [hst]; rfl)
      have hmet := waitComplete_met hwaits hlock (tryWait_scope hr (by rw [hst]; rfl))
      rwa [hresult] at hmet
    · exact waitComplete_met hwaits hlock rfl
    · exact waitComplete_met hwaits hlock (if_pos hlt)
    · have hsend := trySend_of_one (d := d) htail hlen hst hfrozen hallowance hdone hpeer hroom
      have htry : s.tryWait g (.send d c tok) = (s.trySend g d c tok, s) := rfl
      rw [hsend] at htry
      obtain ⟨hmem, hslots, hall, hcount⟩ := sendToken_frame (s.onChan (g / 4) c Endpoint.spent) (s.slot g).part (g / 4) c { tok with tail := true }
      have hchan := State.chan_onChan s (g / 4) c Endpoint.spent
      rw [hchan] at hall hcount
      generalize (s.onChan (g / 4) c Endpoint.spent).sendToken (s.slot g).part (g / 4) c { tok with tail := true } = u at htry hmem hslots hall hcount
      have hslot : (u.complete g (fun t => t.setX d (chanStatus 0 c 1 0))).slot g = (s.slot g).waited (fun t => t.setX d (chanStatus 0 c 1 0)) := by
        have hu : u.slot g = s.slot g := by rw [State.slot, hslots]; rfl
        rw [← hu]
        exact State.slot_onSlot ..
      refine ⟨_, waitComplete_met hwaits hlock htry, hmem, ?_, ?_, hall, hcount, ?_⟩
      · rw [hslot]; rfl
      · rw [hslot]; rfl
      · rw [hslot, get_waited_setX, chanStatus_eq]

end Sys2Proof.Machine

namespace Sys2Proof.Machine

open Sys2Proof.Claims

set_option Elab.async false

/-! ## Kills (spec/10 R241, R243) -/

theorem foldl_skip {α β : Type} {f : β → α → β} {l : List α} {b : β} (h : ∀ a ∈ l, f b a = b) : l.foldl f b = b := by
  induction l with
  | nil => rfl
  | cons a l ih =>
    obtain ⟨ha, hl⟩ := List.forall_mem_cons.1 h
    rw [List.foldl_cons, ha]
    exact ih hl

section
variable {s t u : State} {g : Nat}

/-- A slot in no gang that has no request and no engine command on its way. -/
structure Clear (g : Nat) (s : State) : Prop where
  gang : (s.slot g).gang = none
  requests : ∀ q ∈ s.requests, q.slot ≠ g
  engines : ∀ q ∈ (s.tile (g / 4)).gens.toList, ∀ c ∈ q.queue, c.slot ≠ g

theorem Clear.quiet (h : Clear g s) (hg : g < noSlot) (hq : Quiet s u) : Clear g u where
  gang := by rw [State.slot, hq.slots]; exact h.gang
  requests := hq.free g hg h.requests
  engines := by rw [hq.gens]; exact h.engines

theorem Clear.onSlot (h : Clear g s) {f : Slot → Slot} (hf : ∀ t, (f t).gang = t.gang) : Clear g (s.onSlot g f) where
  gang := by rw [State.slot_onSlot, hf]; exact h.gang
  requests := h.requests
  engines := h.engines

theorem Clear.settled (h : Clear g s) : s.effectsSettled g = true := by
  rw [State.effectsSettled, Bool.and_eq_true, List.all_eq_true, List.all_eq_true]
  refine ⟨fun q hq => bne_iff_ne.2 (h.requests q hq), fun q hq => List.all_eq_true.2 fun c hc => bne_iff_ne.2 (h.engines q hq c hc)⟩

theorem Clear.foldl {α : Type} {f : State → α → State} (hf : ∀ s a, Clear g s → Clear g (f s a)) (l : List α) (h : Clear g s) : Clear g (l.foldl f s) :=
  List.foldlRecOn l f (motive := Clear g) h fun u hu a _ => hf u a hu

theorem mem_vset {α : Type} {n : Nat} [NeZero n] {v : Vector α n} {i : Nat} {x y : α} (h : y ∈ (vset v i x).toList) : y = x ∨ y ∈ v.toList := by
  rw [vset, Vector.toList_set] at h
  exact (List.mem_or_eq_of_mem_set h).symm

theorem vget_mem {α : Type} {n : Nat} [NeZero n] (v : Vector α n) (i : Nat) : vget v i ∈ v.toList := by
  rw [vget, Vector.get_eq_getElem, Vector.mem_toList_iff]
  exact Vector.getElem_mem _

/-- The commands that a kill of a slot's task leaves in a generator: of the slot, those started, and they are cut. -/
def Gen.killed (slot : Nat) (q : Gen) : Gen :=
  { q with queue := (q.queue.filter (fun c => c.slot != slot || c.started)).map (fun c =>
      if c.slot == slot && c.code.isNone then { c with code := some 3, stop := none, fill := none, cut := true } else c) }

/-- A tile with those commands left in a generator. -/
def Tile.killGen (slot gen : Nat) (t : Tile) : Tile := { t with gens := vset t.gens gen ((vget t.gens gen).killed slot) }

theorem killEngine_of_none {gt gen slot : Nat} (scope : Nat) (h : (vget (s.tile gt).gens gen).queue.filter (fun c => c.slot == slot) = []) :
    s.killEngine gt gen slot scope = s.onTile gt (Tile.killGen slot gen) := by
  rw [State.killEngine, h]
  rfl

theorem killEngine_clear (h : Clear g s) (gen scope : Nat) : Clear g (s.killEngine (g / 4) gen g scope) := by
  have hmine : (vget (s.tile (g / 4)).gens gen).queue.filter (fun c => c.slot == g) = [] :=
    List.filter_eq_nil_iff.2 fun c hc => by rw [beq_iff_eq]; exact h.engines _ (vget_mem _ _) c hc
  rw [killEngine_of_none scope hmine]
  refine ⟨h.gang, h.requests, fun q hq c hc => ?_⟩
  rw [State.tile_onTile] at hq
  rcases mem_vset hq with rfl | hq
  · obtain ⟨c', hc', rfl⟩ := List.mem_map.1 hc
    have hne := h.engines _ (vget_mem _ _) c' (List.mem_filter.1 hc').1
    split <;> exact hne
  · exact h.engines q hq c hc

theorem freeFill_quiet (s : State) (gt q fill : Nat) : Quiet s (s.freeFill gt q fill) := onTile_quiet s gt fun _ => rfl

theorem killQueues_clear (h : Clear g s) (hg : g < noSlot) : Clear g (s.killQueues g) := by
  rw [State.killQueues]
  refine Clear.onSlot ?_ fun _ => rfl
  refine Clear.quiet ?_ hg (onTile_quiet _ _ fun _ => rfl)
  refine h.quiet hg (.foldl (fun u e => ?_) _ _)
  split
  · exact .refl u
  · exact freeFill_quiet ..

theorem killRequests_clear (h : Clear g s) (scope : Nat) : s.killRequests g scope = s := by
  have hnone : s.outstanding g = [] := List.filter_eq_nil_iff.2 fun q hq => by
    rw [Bool.and_eq_true, beq_iff_eq, not_and]
    exact fun heq => absurd heq (h.requests q hq)
  rw [State.killRequests, hnone]
  rfl

theorem writeResults_keeps (t : Slot) : t.writeResults.gang = t.gang ∧ t.writeResults.vq = t.vq := by
  refine List.foldlRecOn t.results (fun (t : Slot) r => (t.writeX r.bank r.reg r.value).orFlags r.flags)
    (motive := fun u : Slot => u.gang = t.gang ∧ u.vq = t.vq) ⟨rfl, rfl⟩ fun u hu r _ => ?_
  obtain ⟨hgang, hvq⟩ := hu
  exact ⟨(Slot.setFlow_gang ..).trans hgang, (Slot.setFlow_vq ..).trans hvq⟩

/-- A slot accepted no store that has not begun. -/
def NoStores (t : Slot) : Prop := ∀ e ∈ t.vq, e.op ≠ .st ∧ e.op ≠ .sts

theorem settleStores_of_none (h : NoStores (s.slot g)) : s.settleStores g = s := by
  refine foldl_skip fun e he => if_neg ?_
  obtain ⟨hst, hsts⟩ := h e he
  rw [Bool.or_eq_true, beq_iff_eq, beq_iff_eq, not_or]
  exact ⟨hst, hsts⟩

/-! One slot dies. -/

theorem settleSlot_frame (s : State) (g : Nat) : ((s.settleSlot g).slot g).task = 0 ∧ (Clear g s → ((s.settleSlot g).slot g).state = .empty) ∧
    (s.settleSlot g).dies = s.dies ∧ (s.settleSlot g).mgmt = s.mgmt := by
  obtain ⟨htask, -, hempty, hframe⟩ := releaseSlot_frame s g
  rw [State.settleSlot]
  split
  · exact ⟨htask, fun h => hempty h.gang, hframe.dies, hframe.mgmt⟩
  next hno => exact ⟨by rw [State.slot_post, State.slot_onSlot]; rfl, fun h => absurd h.settled hno, rfl, rfl⟩

theorem finished_taskDies (s : State) (h : Word) (killed : Bool) (owner mark src : Nat) : Finished (s.taskDies h killed owner mark src) h := by
  cases hr : s.taskOf h with
  | none => rw [State.taskDies, hr]; exact finished_of_none hr
  | some r =>
    cases hlive : (r.state == .ended || r.state == .dead) with
    | true =>
      have heq : s.taskDies h killed owner mark src = s := by
        rw [State.taskDies, hr]
        exact if_pos hlive
      rw [heq]
      intro r' hr'
      rw [hr] at hr'
      cases hr'
      rwa [Bool.or_eq_true, beq_iff_eq, beq_iff_eq] at hlive
    | false =>
      obtain ⟨v, u, hv, hu, heq⟩ := taskDies_of_live (killed := killed) (owner := owner) (mark := mark) (src := src) hr hlive
      rw [heq]
      refine Finished.freeIfDone (Finished.congr ?_ hu.dies hu.mgmt)
      cases hr' : v.taskOf h with
      | none => rw [State.onTask, hr']; exact finished_of_none hr'
      | some r' => exact finished_onTask hr' fun _ => .inr rfl

/-- What a kill does to a slot's work, before its task is DEAD. -/
def State.killWork (s : State) (g owner : Nat) : State :=
  let s' := if (s.slot g).forced then s.tally owner (fun c => { c with forced := true }) else s
  (((s'.onSlot g Slot.writeResults).settleStores g).killRequests g owner).killQueues g

/-- What it does to the slot's engines, channels, memberships and inbox. -/
def State.killEnds (s : State) (t : Slot) (g owner : Nat) : State :=
  let s := (setBits 8 t.grant.ag.toNat).foldl (fun s a => s.killEngine (tileOfSlot g) a g owner) s
  let s := (s.ownChans g).foldl (fun s c => (s.closeSender t.part (tileOfSlot g) c .endCancelled).closeReceiver t.part (tileOfSlot g) c) s
  let s := t.memberships.foldl (fun s m => s.dropMembership g m) s
  ((s.answerSaves t.task (failure 16)).closeInbox g true).clearAnswers g

theorem killOne_eq (owner : Nat) (htask : (s.slot g).task ≠ 0) : ∃ issued mark src,
    s.killOne g owner = (((s.killWork g owner).killEnds (s.slot g) g owner).taskDies (s.slot g).task issued owner mark src).settleSlot g :=
  ⟨_, _, _, by rw [State.killOne]; exact if_neg htask⟩

theorem killWork_clear (h : Clear g s) (hg : g < noSlot) (hv : NoStores (s.slot g)) (owner : Nat) : Clear g (s.killWork g owner) := by
  have htally : Told s (if (s.slot g).forced then s.tally owner (fun c => { c with forced := true }) else s) := by
    split
    · exact tally_told ..
    · exact .refl s
  rw [State.killWork]
  generalize (if (s.slot g).forced then s.tally owner (fun c => { c with forced := true }) else s) = u at htally ⊢
  have hu := h.quiet hg htally.quiet
  have hclear : Clear g (u.onSlot g Slot.writeResults) := hu.onSlot fun t => (writeResults_keeps t).1
  have hnone : NoStores ((u.onSlot g Slot.writeResults).slot g) := by
    have hslot : u.slot g = s.slot g := by rw [State.slot, htally.slots]; rfl
    rw [State.slot_onSlot, NoStores, (writeResults_keeps _).2, hslot]
    exact hv
  rw [settleStores_of_none hnone, killRequests_clear hclear]
  exact killQueues_clear hclear hg

theorem killEnds_clear (h : Clear g s) (hg : g < noSlot) (t : Slot) (owner : Nat) : Clear g (s.killEnds t g owner) := by
  have hengines : Clear g ((setBits 8 t.grant.ag.toNat).foldl (fun s a => s.killEngine (tileOfSlot g) a g owner) s) :=
    h.foldl (fun u a hu => killEngine_clear hu a owner) _
  rw [State.killEnds]
  refine hengines.quiet hg ?_
  refine Quiet.trans ?_ (clearAnswers_quiet _ g)
  refine Quiet.trans ?_ (closeInbox_quiet _ g true)
  refine Quiet.trans ?_ (answerSaves_told ..).quiet
  refine Quiet.trans ?_ (.foldl (fun _ _ => dropMembership_quiet ..) _ _)
  exact .foldl (fun _ _ => (closeSender_quiet ..).trans (closeReceiver_quiet ..)) _ _

theorem killOne_frame (owner : Nat) (htask : (s.slot g).task ≠ 0) : ((s.killOne g owner).slot g).task = 0 ∧ Finished (s.killOne g owner) (s.slot g).task ∧
    (Clear g s → g < noSlot → NoStores (s.slot g) → ((s.killOne g owner).slot g).state = .empty) := by
  obtain ⟨issued, mark, src, heq⟩ := killOne_eq owner htask
  have hfin := finished_taskDies ((s.killWork g owner).killEnds (s.slot g) g owner) (s.slot g).task issued owner mark src
  obtain ⟨hzero, hempty, hdies, hmgmt⟩ := settleSlot_frame (((s.killWork g owner).killEnds (s.slot g) g owner).taskDies (s.slot g).task issued owner mark src) g
  rw [heq]
  refine ⟨hzero, hfin.congr hdies hmgmt, fun hclear hg hv => hempty ?_⟩
  exact (killEnds_clear (killWork_clear hclear hg hv owner) hg _ owner).quiet hg (taskDies_quiet ..)

/-- KILL at a kill point of a slot in no gang. -/
theorem kill_of_point {r : TaskRec} (htask : (s.slot g).task ≠ 0) (hr : s.taskOf (s.slot g).task = some r) (hnotice : (s.slot g).killNotice = true)
    (hhold : (s.slot g).hold = none) (hsaving : (s.slot g).state ≠ .saving) (hsettling : (s.slot g).settling = false) (hgang : (s.slot g).gang = none) :
    Gives (.kill g) s (s.killOne g (s.ownerOf r.scope)) := by
  have hgo : s.gangOf (s.slot g) = none := by rw [State.gangOf, hgang]
  have hcan : s.canKill g = true := by
    rw [State.canKill, hgo, hhold]
    rfl
  have hslot : s.killSlot g (s.ownerOf r.scope) = s.killOne g (s.ownerOf r.scope) := by
    rw [State.killSlot, hgang]
  have hwait : ((s.slot g).task = 0 || !(s.slot g).killNotice || (s.slot g).state == .saving) = false := by
    rw [decide_eq_false htask, hnotice, beq_eq_false_iff_ne.2 hsaving]
    rfl
  have hexec : exec (.kill g) s = execKill g s := rfl
  rw [Gives, hexec, execKill, ← hslot]
  simp only [hsettling, hwait, hcan, hr, Bool.not_true, Bool.false_eq_true, if_false]

theorem confirmWrites_of_none {p : Request → Bool} (h : ∀ q ∈ s.requests, q.toHost = false) : s.confirmWrites p = s := by
  have hnone : s.requests.filter (fun r => r.toHost && r.kind.isStore && p r) = [] := List.filter_eq_nil_iff.2 fun q hq => by
    rw [h q hq, Bool.false_and, Bool.false_and]
    exact Bool.false_ne_true
  rw [State.confirmWrites, hnone]
  rfl

theorem kill_of_settling (hset : (s.slot g).settling = true) : Gives (.kill g) s (if s.effectsSettled g then s.releaseSlot g else (s.confirmSlot g).defer (.kill g)) :=
  congrArg Host.Outcome.next (if_pos hset)

end

end Sys2Proof.Machine

namespace Sys2Proof.Machine

open Sys2Proof.Claims

set_option Elab.async false

/-! ## Task records: decrements, spawns and ends (spec/10 R230 to R236) -/

section
variable {s : State} {h : Word} {r : TaskRec}

/-- A record with one decrement taken. -/
def TaskRec.counted (mark epos : Nat) (r : TaskRec) : TaskRec := { r with count := r.count - 1, instat := markInstat r.instat mark epos }

theorem record_onTask (hr : s.taskOf h = some r) (f : TaskRec → TaskRec) : (s.onTask h f).record (handleDie h) (handleEntry h) = f r := by
  rw [State.onTask, hr]
  exact (record_onRecord ..).trans (congrArg f (taskOf_eq_record hr).symm)

theorem mem_onTask (s : State) (h : Word) (f : TaskRec → TaskRec) : (s.onTask h f).mem = s.mem := by rw [State.onTask]; split <;> rfl
theorem slots_onTask (s : State) (h : Word) (f : TaskRec → TaskRec) : (s.onTask h f).slots = s.slots := by rw [State.onTask]; split <;> rfl
theorem mgmt_onTask (s : State) (h : Word) (f : TaskRec → TaskRec) : (s.onTask h f).mgmt = s.mgmt := by rw [State.onTask]; split <;> rfl
theorem agenda_onTask (s : State) (h : Word) (f : TaskRec → TaskRec) : (s.onTask h f).agenda = s.agenda := by rw [State.onTask]; split <;> rfl

theorem record_congr {u : State} (hdies : u.dies = s.dies) (die entry : Nat) : u.record die entry = s.record die entry := by
  rw [State.record, State.die, hdies]
  rfl

/-- A change of a live record that keeps it live. -/
theorem taskOf_onTask (hr : s.taskOf h = some r) {f : TaskRec → TaskRec} (hgen : (f r).gen = r.gen) (hlive : (f r).state ≠ .free) :
    (s.onTask h f).taskOf h = some (f r) := by
  have hrec := record_onTask hr f
  have hmgmt := mgmt_onTask s h f
  have hold := taskOf_eq_record hr
  rw [State.taskOf] at hr ⊢
  rw [hrec, hmgmt]
  split at hr
  next hc =>
    rw [← hold] at hc
    simp only [Bool.and_eq_true, bne_iff_ne] at hc
    obtain ⟨⟨⟨⟨hpkg, htop⟩, hmid⟩, -⟩, hg⟩ := hc
    exact if_pos (by simp only [hpkg, htop, hmid, hgen, hg, bne_iff_ne.2 hlive, Bool.and_self])
  next => cases hr

theorem decrement_eq (mark epos : Nat) {serial : Option (Nat × Nat)} (hr : s.taskOf h = some r) (hserial : ∀ x, serial = some x → x = (r.part, r.serial)) :
    s.decrement h mark epos serial = if r.state == .ended || r.state == .dead then (9, s)
      else if r.count = 0 then (10, (s.countDie (handleDie h) 2).onInstance r.part r.serial (fun i => { i with underflow := true }))
      else (0, if r.count = 1 && r.state == .waiting then (s.onTask h (TaskRec.counted mark epos)).postTask h else s.onTask h (TaskRec.counted mark epos)) := by
  rw [State.decrement, hr]
  refine if_neg ?_
  cases serial with
  | none => exact Bool.false_ne_true
  | some x =>
    rw [hserial x rfl]
    simp

/-- A task that has neither ended nor died. -/
theorem not_over (hended : r.state ≠ .ended) (hdead : r.state ≠ .dead) : ¬(r.state == .ended || r.state == .dead) = true := by
  rw [Bool.or_eq_true, beq_iff_eq, beq_iff_eq, not_or]
  exact ⟨hended, hdead⟩

/-- A posted task's record: READY and queued, with the counter and INSTAT as they were. -/
structure Posted (f : TaskRec → TaskRec) : Prop where
  state : ∀ r, (f r).state = .ready
  count : ∀ r, (f r).count = r.count
  instat : ∀ r, (f r).instat = r.instat

theorem resetDeficits_told (s : State) (die part queue cls : Nat) : Told s (s.resetDeficits die part queue cls) := by
  rw [State.resetDeficits]
  dsimp only
  split <;> split <;> exact .of_same rfl rfl rfl rfl rfl rfl

/-- The record of a task posted to its queue's ready list. -/
def State.posted (s : State) (r : TaskRec) : TaskRec :=
  { r with
    state := .ready, ready := .queued, bypassed := 0, marks := (s.resumeSlots r).filter (fun g => (s.slot g).state != .empty)
    tpost := if r.state == .preempted then r.tpost else s.now }

theorem postTask_of_live (hr : s.taskOf h = some r) : ∃ u f e, Told s u ∧ Posted f ∧ s.postTask h = (u.onTask h f).post e :=
  ⟨s.resetDeficits (handleDie h) r.part r.queue r.cls, s.posted, .dispatchSelect (handleDie h) r.part, resetDeficits_told ..,
    ⟨fun _ => rfl, fun _ => rfl, fun _ => rfl⟩, by rw [State.postTask, hr]; rfl⟩

/-- What a decrement keeps of memory and slots, and the record that it leaves. -/
structure Decremented (s t : State) (h : Word) (r : TaskRec) : Prop where
  mem : t.mem = s.mem
  slots : t.slots = s.slots
  count : (t.record (handleDie h) (handleEntry h)).count = r.count - 1
  instat : (t.record (handleDie h) (handleEntry h)).instat = r.instat
  state : (t.record (handleDie h) (handleEntry h)).state = if r.count = 1 ∧ r.state = .waiting then .ready else r.state

theorem counted_unmarked (r : TaskRec) (epos : Nat) : (r.counted 0 epos).instat = r.instat := rfl

theorem decremented_of_live {epos : Nat} (hr : s.taskOf h = some r) :
    Decremented s (if r.count = 1 && r.state == .waiting then (s.onTask h (TaskRec.counted 0 epos)).postTask h else s.onTask h (TaskRec.counted 0 epos)) h r := by
  have hlive : r.state ≠ .free := by
    have hold := taskOf_eq_record hr
    rw [State.taskOf] at hr
    split at hr
    next hc =>
      rw [← hold] at hc
      simp only [Bool.and_eq_true, bne_iff_ne] at hc
      obtain ⟨⟨-, hne⟩, -⟩ := hc
      exact hne
    next => cases hr
  have hcounted := taskOf_onTask (f := TaskRec.counted 0 epos) hr rfl hlive
  by_cases hc : r.count = 1 ∧ r.state = .waiting
  · rw [if_pos (by simpa using hc)]
    obtain ⟨u, f, e, hu, hf, heq⟩ := postTask_of_live hcounted
    have hu' : u.taskOf h = some (r.counted 0 epos) := (taskOf_congr hu.dies hu.mgmt h).trans hcounted
    have hrec : ((u.onTask h f).post e).record (handleDie h) (handleEntry h) = f (r.counted 0 epos) := record_onTask hu' f
    rw [heq]
    refine ⟨?_, ?_, ?_, ?_, ?_⟩
    · exact (mem_onTask u h f).trans (hu.mem.trans (mem_onTask ..))
    · exact (slots_onTask u h f).trans (hu.slots.trans (slots_onTask ..))
    · rw [hrec, hf.count]; rfl
    · rw [hrec, hf.instat]; rfl
    · rw [hrec, hf.state, if_pos hc]
  · rw [if_neg (by simpa using hc)]
    have hrec := record_onTask hr (TaskRec.counted 0 epos)
    refine ⟨mem_onTask .., slots_onTask .., ?_, ?_, ?_⟩
    · rw [hrec]; rfl
    · rw [hrec]; rfl
    · rw [hrec, if_neg hc]; rfl


/-! DECREMENT_MESSAGE. -/

section
variable {m : Decrement} {id : Nat}

theorem inTurn_of_last (k n src : Nat) (h : s.reachedAt = s.cycle → ∀ q ∈ s.reached, q.2.2 ≤ src) : s.inTurn k n src = true := by
  rw [State.inTurn, Bool.or_eq_true, bne_iff_ne, List.all_eq_true]
  by_cases hc : s.reachedAt = s.cycle
  · refine .inr fun q hq => ?_
    rw [Bool.not_eq_true', decide_eq_false_iff_not]
    rintro ⟨-, -, hlt⟩
    exact absurd (h hc q hq) (Nat.not_le.2 hlt)
  · exact .inl hc

theorem decrementMessage_of_turn (hreply : ∀ id, m.reply = some id → ∃ q, s.request id = some q) (hturn : s.reachedAt = s.cycle → ∀ q ∈ s.reached, q.2.2 ≤ m.src)
    (hstart : s.unstarted m.target = false) :
    Gives (.decrementMessage m) s ((s.enterOrder (counterKey m.target) 1 m.src).applyDecrement m) := by
  have hknown : ¬m.reply.any (fun id => (s.request id).isNone) = true := by
    rw [Option.any_eq_true]
    rintro ⟨id, hid, hnone⟩
    obtain ⟨q, hq⟩ := hreply id hid
    rw [hq] at hnone
    cases hnone
  have hgo : ¬(s.unstarted m.target || !s.inTurn (counterKey m.target) 1 m.src) = true := by
    rw [hstart, inTurn_of_last _ _ _ hturn]
    exact Bool.false_ne_true
  exact congrArg Host.Outcome.next ((if_neg hknown).trans (if_neg hgo))

theorem applyDecrement_told (hreply : m.reply = some id) (htold : m.told = true) : s.applyDecrement m =
    (s.decrement m.target m.mark.toNat m.epos.toNat m.owner).2.answer id
      (if (s.decrement m.target m.mark.toNat m.epos.toNat m.owner).1 = 0 then 0 else failure (s.decrement m.target m.mark.toNat m.epos.toNat m.owner).1) := by
  simp only [State.applyDecrement, hreply, htold, Bool.not_true, Bool.false_and, Bool.false_eq_true, if_false, if_true]

theorem mem_agenda_answer (s : State) (id : Nat) (v : Word) : Instr.replyArrival id v.toNat false ∈ (s.answer id v).agenda :=
  List.mem_append_right _ (List.mem_singleton_self _)

end

/-! SPAWN_REQUEST and SPAWN_TREE_DELIVERY. -/

section
variable {q : Request} {bs : Bytes} {args : Option Bytes}

theorem spawnRequest_of_live (hq : s.request q.id = some q) (hkind : q.kind = .spawn bs args) (hr : s.taskOf q.task = some r) :
    Gives (.spawnRequest q.id) s ((s.spawn q r bs args).2.answer q.id (s.spawn q r bs args).1) := by
  have hexec : exec (.spawnRequest q.id) s = execSpawnRequest q.id s := rfl
  rw [Gives, hexec, execSpawnRequest, hq]
  simp only [hkind, hr]

/-- The node that a spawn names. -/
def State.spawnNode (s : State) (r : TaskRec) (bs : Bytes) : Option Node := (s.recordTemplate r).bind (fun t => t.nodes[field bs 0 2]?)

theorem spawn_of_badNode (h : ∀ n, s.spawnNode r bs = some n → n.spawnOnly = false) : s.spawn q r bs args = (failure 7, s) := by
  rw [State.spawn]
  cases hn : s.spawnNode r bs with
  | none =>
    rw [State.spawnNode] at hn
    simp only [hn]
  | some n =>
    have hno := h n hn
    rw [State.spawnNode] at hn
    simp only [hn, hno, Bool.not_false, if_true]

theorem spawn_of_room {n : Node} {v : Word} {s' : State} (hn : s.spawnNode r bs = some n) (honly : n.spawnOnly = true) (hscope : field bs 16 4 = 0)
    (hactive : s.scopeState r.scope = .active) (hreported : s.reported r.scope = false) (hgang : (byteAt bs 2).toNat % 2 = 0)
    (hadd : s.addTask (q.src % 4096 / 16 / 64) (s.spawnedRecord r n bs r.scope) = some (v, s')) : (s.spawn q r bs args).1 = v := by
  have hin : testN (byteAt bs 2).toNat 0 = false := by
    rw [testN, pow_zero, Nat.div_one, hgang]
    rfl
  have hreach : s.reachScope r.part r.scope false (wordN (field bs 16 4)) = .ok r.scope := by
    have hself : s.descends r.scope r.scope = true := below_refl s 32 r.scope
    have hzero : wordN 0 = 0 := rfl
    rw [hscope, State.reachScope, State.namedScope, if_pos hzero]
    exact if_pos hself
  have hopen : (s.scopeState r.scope == .closed || s.scopeState r.scope == .cancelled || s.reported r.scope) = false := by
    rw [hactive, hreported]
    rfl
  rw [State.spawnNode] at hn
  simp only [State.spawn, hn, honly, hreach, hopen, hin, Bool.not_true, Bool.false_and, Bool.false_eq_true, if_false, hadd]
  rw [apply_ite Prod.fst, apply_ite Prod.fst, ite_self, ite_self]

/-- The counts that SPAWN.TREE replies. -/
theorem spawnTree_of_done {pc a b c : Nat} {arg : Word} (hq : s.request q.id = some q) (hkind : q.kind = .spawnTree pc arg a b c []) :
    Gives (.spawnTreeDelivery q.id) s (s.answer q.id (wordN (a + b * 2 ^ 16 + c * 2 ^ 32))) := by
  have hexec : exec (.spawnTreeDelivery q.id) s = execSpawnTreeDelivery q.id s := rfl
  rw [Gives, hexec, execSpawnTreeDelivery, hq]
  simp only [hkind]

/-- A request of SPAWN.TREE that has found a slot busy. -/
def Request.busyAt (pc : Nat) (arg : Word) (a b c : Nat) (left : List Nat) (q : Request) : Request :=
  { q with phase := .left, kind := .spawnTree pc arg a (b + 1) c left }

theorem spawnTree_of_busy {pc a b c k g : Nat} {arg : Word} {more : List Nat} {kern : Nat × Kernel} {n : Node} {gang : Gang} (hq : s.request q.id = some q)
    (hkind : q.kind = .spawnTree pc arg a b c (g :: more)) (hr : s.taskOf q.task = some r) (hgang : r.gang = some k) (hkern : s.kernelRec r = some kern)
    (hnode : s.nodeOf r = some n) (hfind : Assoc.find s.gangs k = some gang) (hbusy : (s.slot g).task ≠ 0) :
    Gives (.spawnTreeDelivery q.id) s ((s.onRequest q.id (Request.busyAt pc arg a b c more)).post (.spawnTreeDelivery q.id)) := by
  have htree : s.treeSlot q r k pc arg g = (0, 1, 0, s) := by
    obtain ⟨i, kernel⟩ := kern
    rw [State.treeSlot, hkern, hnode, hfind]
    exact if_pos (bne_iff_ne.2 hbusy)
  have hexec : exec (.spawnTreeDelivery q.id) s = execSpawnTreeDelivery q.id s := rfl
  rw [Gives, hexec, execSpawnTreeDelivery, hq]
  simp only [hkind, hr, Option.some_or, hgang, htree]
  rfl

theorem request_onRequest {id : Nat} {f : Request → Request} (hq : s.request id = some q) (hf : ∀ r, (f r).id = r.id) : (s.onRequest id f).request id = some (f q) := by
  have hid : q.id = id := beq_iff_eq.1 (List.find?_some (p := fun r : Request => r.id == id) hq)
  have hcomp : ((fun r : Request => r.id == id) ∘ fun r => if r.id == id then f r else r) = fun r => r.id == id := by
    funext r
    change ((if r.id == id then f r else r).id == id) = (r.id == id)
    split
    · rw [hf]
    · rfl
  rw [State.request, State.onRequest, List.find?_map, hcomp]
  rw [State.request] at hq
  rw [hq, Option.map_some, if_pos (beq_iff_eq.2 hid)]

end

end

/-- Settles O34, clause by clause from the rules of decrements, ends, kills and spawns. -/
theorem taskRecords : Obligations.TaskRecords := by
  intro s
  refine ⟨fun m r id hr hreply howner hmark htold _ hreq hturn hstart => ?_, fun g status r hstate hwait hr hfreeze hscope hdone hgang _ hrun => ?_,
    fun g r htask hr hnotice hhold hsaving hsettling hgang _ hrun hg => ?_, fun g hset hgang => ⟨fun hdone => ?_, fun hno hhost => ?_⟩,
    fun q bs args r hq hkind hr => ⟨fun hbad => ?_, fun n h s' hn honly hscope hactive hreported hin hadd => ?_⟩,
    fun q pc arg a b c left hq hkind => ⟨fun hleft => ?_, fun r k g more kern n gang hleft hr hgang hkern hnode hfind hbusy => ?_⟩, fun gt => rfl⟩
  · have hgives := decrementMessage_of_turn (fun i hi => by rw [hreply] at hi; cases hi; exact hreq) hturn hstart
    have hzero : m.mark.toNat = 0 := by rw [hmark]; rfl
    rw [applyDecrement_told hreply htold, hzero] at hgives
    have hr' : (s.enterOrder (counterKey m.target) 1 m.src).taskOf m.target = some r := hr
    have heq := decrement_eq 0 m.epos.toNat hr' (serial := m.owner) (fun x hx => by rw [howner] at hx; cases hx; rfl)
    refine ⟨fun hended hdead hcount => ?_, fun hover => ?_, fun hended hdead hcount => ?_⟩
    · have hdec := heq.trans ((if_neg (not_over hended hdead)).trans (if_neg hcount))
      have hleft := decremented_of_live (epos := m.epos.toNat) hr'
      rw [hdec] at hgives
      exact ⟨_, hgives, hleft.mem, hleft.slots, hleft.count, hleft.instat, hleft.state, mem_agenda_answer ..⟩
    · have hdec := heq.trans (if_pos (by rwa [Bool.or_eq_true, beq_iff_eq, beq_iff_eq]))
      rw [hdec] at hgives
      exact ⟨_, hgives, rfl, mem_agenda_answer ..⟩
    · have hdec := heq.trans ((if_neg (not_over hended hdead)).trans (if_pos hcount))
      rw [hdec] at hgives
      exact ⟨_, hgives, mem_agenda_answer ..⟩
  · obtain ⟨htask, hempty, hgrant, hfin⟩ := commitEnd_frame hgang status
    exact ⟨_, endCommit_of_done hstate hwait hfreeze hr hscope hdone, hempty, htask, hgrant, hfin.ne hrun⟩
  · obtain ⟨hzero, hfin, hempty⟩ := killOne_frame (s.ownerOf r.scope) htask
    refine ⟨_, kill_of_point htask hr hnotice hhold hsaving hsettling hgang, hzero, hfin.ne hrun, fun hreq hv hgens => ?_⟩
    refine hempty ⟨hgang, hreq, fun q hq => ?_⟩ (hg.trans (by decide)) hv
    obtain ⟨i, hi, rfl⟩ := List.mem_iff_getElem.1 hq
    have hlt : i < 8 := by rwa [Vector.length_toList] at hi
    have hget : vget (s.tile (g / 4)).gens i = (s.tile (g / 4)).gens.toList[i] := by
      rw [vget_eq_getD _ hlt (vget (s.tile (g / 4)).gens i), Vector.getElem?_eq_getElem hlt]
      rfl
    exact hget ▸ hgens i hlt
  · obtain ⟨hzero, hgrant, hempty, -⟩ := releaseSlot_frame s g
    have hgives := kill_of_settling hset
    rw [if_pos hdone] at hgives
    exact ⟨_, hgives, hempty hgang, hzero, hgrant⟩
  · have hgives := kill_of_settling hset
    rw [if_neg (by rw [hno]; exact Bool.false_ne_true), State.confirmSlot, confirmWrites_of_none hhost] at hgives
    exact hgives
  · have hgives := spawnRequest_of_live hq hkind hr
    rw [spawn_of_badNode hbad] at hgives
    exact ⟨_, hgives, rfl, rfl⟩
  · have hgives := spawnRequest_of_live hq hkind hr
    rw [spawn_of_room hn honly hscope hactive hreported hin hadd] at hgives
    exact ⟨_, hgives, mem_agenda_answer ..⟩
  · subst hleft
    exact ⟨_, spawnTree_of_done hq hkind, rfl, rfl⟩
  · subst hleft
    refine ⟨_, spawnTree_of_busy hq hkind hr hgang hkern hnode hfind hbusy, rfl, rfl, ?_⟩
    exact congrArg (Option.map (·.kind)) (request_onRequest (f := Request.busyAt pc arg a b c more) hq fun _ => rfl)

end Sys2Proof.Machine

namespace Sys2Proof.Machine

open Sys2Proof.Claims

set_option Elab.async false

/-! ## Requests to the units that own records and words (spec/10 R228) -/

section
variable {s : State} {i : Instr} {d a b : Reg} {kind : ReqKind} {addr : Word} {rel : Bool} {e : Nat → Instr}

theorem ask_of_free (hp : PortFree s rel) : s.ask d kind addr rel e =
    .done (((s.accept s.cur kind addr none (some d) false rel 0).2.retire s.cur id).post (e s.nextId)) :=
  if_neg (by rw [portReady_of_portFree hp]; exact Bool.false_ne_true)

theorem asks_of_ask {f : Form} {rs : List Reg} {body : Slot → Issue} (hexec : exec i s = s.issue f rs body) (hr : Ready s f rs) (hp : PortFree s rel)
    (hbody : body (me s) = s.ask d kind addr rel e) : Asks i s d kind addr rel e :=
  ⟨_, gives_of_done hexec hr (hbody.trans (ask_of_free hp)), ⟨rfl, rfl, rfl, rfl, rfl, rfl, rfl, rfl, rfl, rfl, rfl, rfl, rfl, rfl, rfl, rfl⟩, rfl, rfl⟩

/-! SPAWN and SPAWN.TREE. -/

theorem ownBlock_of_window {w : Word} {off n align : Nat} (h : w.toNat = 0xFFFE * 2 ^ 48 + s.mgmt.package * 2 ^ 38 + s.cur / 4 * 2 ^ 30 + off)
    (hpkg : s.mgmt.package < 1024) (hcur : s.cur < 1024) (halign : w.toNat % align = 0) (hn : 0 < n) (hfit : off + n ≤ 2 ^ 22) :
    s.ownBlock s.cur w n align = .ok off := by
  rw [State.ownBlock, ownScratch_of_window h hpkg hcur (by omega)]
  exact (if_neg (not_not.2 halign)).trans (if_pos hfit)

/-- SPAWN once its block has been read. -/
def spawnBody (s : State) (d : Reg) (bs : Bytes) (t : Slot) : Issue :=
  if spawnReserved bs then s.trapWord t 1
  else if fieldW bs 24 8 = 0 then s.ask d (.spawn bs none) (wordN (s.gangClock t)) true .spawnRequest
  else match s.ownBlock s.cur (fieldW bs 24 8) 256 64 with
    | .error c => .trap c (fieldW bs 24 8)
    | .ok o =>
      if s.poisoned (sramKey (tileOfSlot s.cur) o) 256 then .wait (s.consumePoison s.cur)
      else s.ask d (.spawn bs (some (s.readMem (sramKey (tileOfSlot s.cur) o) 256))) (wordN (s.gangClock t)) true .spawnRequest

theorem spawn_body {off : Nat} (hown : OwnBlock s a off) (hp : PortFree s true) (hclean : s.poisoned (s.cur / 4 * 2 ^ 30 + off) 64 = false) :
    ∃ body, exec (.spawn d a) s = s.issue { engine := true } [a, d] body ∧
      body (me s) = spawnBody s d (s.readMem (s.cur / 4 * 2 ^ 30 + off) 64) (me s) := by
  obtain ⟨hva, hpkg, hcur, halign, hfit⟩ := hown
  refine ⟨_, execSpawn.eq_1 d a s, ?_⟩
  have hblock : s.ownBlock s.cur ((me s).x a) 64 64 = .ok off := ownBlock_of_window hva hpkg hcur (by omega) (by decide) hfit
  have hclean' : s.poisoned (sramKey (tileOfSlot s.cur) off) 64 = false := hclean
  dsimp only
  rw [hblock, portReady_of_portFree hp]
  exact (if_neg Bool.false_ne_true).trans (if_neg (by rw [hclean']; exact Bool.false_ne_true))

theorem gangClock_eq (s : State) : s.gangClock (me s) = gangCycle s := rfl

theorem spawnTree_asks {q : Gang} {k : Kernel} (hr : Ready s { engine := true } [a, b, d]) (hp : PortFree s true) (hq : s.gangOf (me s) = some q)
    (hk : s.slotKernel s.cur = some k) (halign : ((me s).x a).toNat % 4 = 0) (hin : ((me s).x a).toNat < 4 * k.code.length) :
    Asks (.spawnTree d a b) s d (.spawnTree ((me s).x a).toNat ((me s).x b) 0 0 0 (s.treeSlots q)) (wordN q.clock) true .spawnTreeDelivery := by
  refine asks_of_ask (execSpawnTree.eq_1 d a b s) hr hp ?_
  rw [hq, hk]
  exact if_neg (by omega)

theorem spawnTree_of_no_gang (hr : Ready s { engine := true } [a, b, d]) (hq : s.gangOf (me s) = none) :
    Gives (.spawnTree d a b) s (s.takeTrap s.cur 1 (s.wordAt (me s))) := by
  refine gives_of_trap (i := .spawnTree d a b) (execSpawnTree.eq_1 d a b s) hr ?_
  rw [hq]
  rfl

theorem dec_asks (hr : Ready s { engine := true } [a, d]) (hp : PortFree s true) (hpkg : ((me s).x a).toNat / 2 ^ 20 % 1024 = s.mgmt.package) :
    Asks (.dec d a) s d (.dec ((me s).x a)) 0 true (fun id => .decrementMessage
      { target := (me s).x a, mark := 0, epos := 0xFF, src := s.slotSource s.cur, owner := (myTask s).map (fun r => (r.part, r.serial)), reply := some id, told := true }) := by
  have hbits : bits ((me s).x a) 29 20 = s.mgmt.package := hpkg
  refine asks_of_ask (execDec.eq_1 d a s) hr hp (if_pos ?_)
  rw [hbits, Bool.or_eq_true, decide_eq_true_eq]
  exact .inl rfl

/-! CANCEL. -/

/-- A tile with a counter charged. -/
def Tile.charged (k : Fin 16) (t : Tile) : Tile := { t with k := vset t.k k.val (vget t.k k.val + 1) }

theorem hasTag_of_grant {k : CTag} (h : ∀ n, k = some n → (me s).grant.k.getLsbD n.val = true ∧ s.counter (s.cur / 4) n.val ≠ 65535) :
    (me s).hasTag k = true := by
  cases k with
  | none => rfl
  | some n => exact (Slot.hasK_eq ..).trans (h n rfl).1

/-- The counter that an instruction charges is full. -/
def State.tagFull (s : State) (k : CTag) : Bool :=
  match k with
  | some k => s.counter (tileOfSlot s.cur) k.val == 65535
  | none => false

theorem tagFull_eq_false {k : CTag} (h : ∀ n, k = some n → (me s).grant.k.getLsbD n.val = true ∧ s.counter (s.cur / 4) n.val ≠ 65535) : s.tagFull k = false := by
  cases k with
  | none => rfl
  | some n => exact beq_eq_false_iff_ne.2 (h n rfl).2

theorem charge_frame (s : State) (gt : Nat) (k : CTag) : s.charge gt k = { s with tiles := (s.charge gt k).tiles } := by cases k <;> rfl

theorem counter_charge (s : State) (gt : Nat) (k : CTag) {n : Nat} (hn : n < 16) :
    (s.charge gt k).counter gt n = if k.map (·.val) = some n then s.counter gt n + 1 else s.counter gt n := by
  cases k with
  | none => rfl
  | some i =>
    have htile : (s.charge gt (some i)).tile gt = (s.tile gt).charged i := State.tile_onTile ..
    rw [State.counter, htile]
    by_cases h : i.val = n
    · refine Eq.trans ?_ (if_pos (congrArg some h)).symm
      rw [← h]
      exact vget_vset ..
    · refine Eq.trans (vget_vset_ne _ _ _ _ ?_) (if_neg (fun heq => h (Option.some.inj heq))).symm
      rw [Nat.mod_eq_of_lt i.isLt, Nat.mod_eq_of_lt hn]
      exact h

theorem portFree_charge (gt : Nat) (k : CTag) (hp : PortFree s false) : PortFree (s.charge gt k) false := by
  cases k with
  | none => exact hp
  | some n =>
    obtain ⟨hcount, hacq, hreply, hretry, -⟩ := hp
    exact ⟨hcount, hacq, hreply, hretry, fun h => absurd h Bool.false_ne_true⟩

theorem ask_of_charge (gt : Nat) (k : CTag) (hp : PortFree s false) : ∃ r, (s.charge gt k).ask d kind addr false e =
    .done { accepted s r (e s.nextId) with tiles := (s.charge gt k).tiles } ∧ IsRequest s r kind addr none (some d) := by
  have hask := ask_of_free (d := d) (kind := kind) (addr := addr) (e := e) (portFree_charge gt k hp)
  cases k with
  | none => exact ⟨_, hask, rfl, rfl, rfl, rfl, rfl, rfl, rfl, rfl, rfl, rfl, rfl, rfl, rfl, rfl, rfl, rfl⟩
  | some n => exact ⟨_, hask, rfl, rfl, rfl, rfl, rfl, rfl, rfl, rfl, rfl, rfl, rfl, rfl, rfl, rfl, rfl, rfl⟩

/-- The request of a CANCEL without a record. -/
theorem cancel_asks {k : CTag} (hr : Ready s { engine := true } [a, b, d]) (hp : PortFree s false)
    (hk : ∀ n, k = some n → (me s).grant.k.getLsbD n.val = true ∧ s.counter (s.cur / 4) n.val ≠ 65535) (hb : (me s).x b = 0) :
    ∃ r, Gives (.cancel d a b k) s { accepted s r (.cancelRequest s.nextId) with tiles := (s.charge (s.cur / 4) k).tiles } ∧
      IsRequest s r (.cancel ((me s).x a) 0 k) 0 none (some d) := by
  have hbusy : (s.tagFull k || !s.portReady s.cur false) = false := by rw [tagFull_eq_false hk, portReady_of_portFree hp]; rfl
  obtain ⟨r, hask, hreq⟩ := ask_of_charge (d := d) (kind := .cancel ((me s).x a) 0 k) (addr := 0) (e := .cancelRequest) (s.cur / 4) k hp
  refine ⟨r, gives_of_done (i := .cancel d a b k) (execCancel.eq_1 d a b k s) hr ?_, hreq⟩
  refine (if_neg (by rw [hasTag_of_grant hk]; exact Bool.false_ne_true)).trans ?_
  rw [hb, if_pos rfl]
  refine (if_neg (?_ : ¬(s.tagFull k || !s.portReady s.cur false) = true)).trans hask
  rw [hbusy]
  exact Bool.false_ne_true

/-! Barriers. -/

theorem barrierCause_of_barrierAt {gt off : Nat} (h : BarrierAt s a gt off) : s.barrierCause (me s).part ((me s).x a) = none := by
  obtain ⟨hva, hpkg, hgt, halign, hoff, hkind, hpart⟩ := h
  have hunit : (isMTile gt || isSTile gt) = true := by
    rw [Bool.or_eq_true, isMTile, isSTile, decide_eq_true_eq, decide_eq_true_eq]
    exact hkind
  have howns : s.ownsTile (me s).part s.mgmt.package gt = true := by
    rw [State.ownsTile, if_pos rfl, hpart]
    exact beq_self_eq_true _
  rw [State.barrierCause, eq_window hva hpkg hgt (by omega)]
  dsimp only
  have hin : decide (off < 0x400000) = true := decide_eq_true hoff
  rw [hunit, howns, hin, beq_self_eq_true, Bool.true_or]
  exact (if_neg (by decide)).trans (if_neg (by omega))

theorem askBarrier_of_barrierAt {gt off : Nat} (h : BarrierAt s a gt off) :
    s.askBarrier d a kind rel (me s) = s.ask d kind ((me s).x a) rel .barrierRequest := by
  rw [State.askBarrier, barrierCause_of_barrierAt h]

theorem barWait_blocks {gt off : Nat} (h : BarrierAt s a gt off) (hr : Ready s { engine := true, noHandler := true } [a, b, d])
    (hacq : s.acquirePending s.cur = false) : Gives (.barWait d a b) s (blockedIn s (.barrier d ((me s).x a) (((me s).x b).setWidth 16))) := by
  refine gives_of_done (i := .barWait d a b) (execBarWait.eq_1 d a b s) hr ?_
  rw [barrierCause_of_barrierAt h]
  exact if_neg (by rw [hacq]; exact Bool.false_ne_true)

/-! What the units do. -/

/-- A SPAWN of a task that is gone. -/
theorem spawnRequest_of_gone {q : Request} {bs : Bytes} {args : Option Bytes} (hq : s.request q.id = some q) (hkind : q.kind = .spawn bs args)
    (hr : s.taskOf q.task = none) : Gives (.spawnRequest q.id) s (s.answer q.id (failure 1)) := by
  have hexec : exec (.spawnRequest q.id) s = execSpawnRequest q.id s := rfl
  rw [Gives, hexec, execSpawnRequest, hq]
  simp only [hkind, hr]

theorem freeIfDone_of_live {die entry : Nat} (hended : (s.record die entry).state ≠ .ended) (hdead : (s.record die entry).state ≠ .dead) :
    s.freeIfDone die entry = s := by
  refine if_neg ?_
  rw [Bool.and_eq_true, Bool.and_eq_true]
  exact fun h => not_over hended hdead h.1.1

theorem freeIfDone_onTask_of_waiting {u : State} {h : Word} {r : TaskRec} {f : TaskRec → TaskRec} (hr : u.taskOf h = some r) (hstate : (f r).state = .waiting) :
    (u.onTask h f).freeIfDone (handleDie h) (handleEntry h) = u.onTask h f := by
  have hrec := record_onTask hr f
  exact freeIfDone_of_live (by rw [hrec, hstate]; decide) (by rw [hrec, hstate]; decide)

/-- Memory, slots and agenda as they were, and a record with its counter and its state as they were. -/
structure SameRecord (u t : State) (h : Word) (r : TaskRec) : Prop where
  mem : t.mem = u.mem
  slots : t.slots = u.slots
  agenda : t.agenda = u.agenda
  count : (t.record (handleDie h) (handleEntry h)).count = r.count
  state : (t.record (handleDie h) (handleEntry h)).state = r.state

theorem sameRecord_onTask {u : State} {h : Word} {r : TaskRec} {f : TaskRec → TaskRec} (hr : u.taskOf h = some r) (hcount : (f r).count = r.count)
    (hstate : (f r).state = r.state) : SameRecord u (u.onTask h f) h r := by
  have hrec := record_onTask hr f
  exact ⟨mem_onTask .., slots_onTask .., agenda_onTask .., by rw [hrec, hcount], by rw [hrec, hstate]⟩

/-- A decrement that is not a DEC, taken by a task that goes on waiting: a decrement that this package has not been told of is one fewer to
await. -/
theorem applyDecrement_of_waiting {m : Decrement} {u : State} {r : TaskRec} (hreply : m.reply = none) (howner : m.owner = none)
    (hdec : s.decrement m.target m.mark.toNat m.epos.toNat m.owner = (0, u)) (hr : u.taskOf m.target = some r) (hstate : r.state = .waiting) :
    SameRecord u (s.applyDecrement m) m.target r := by
  have hdec' : s.decrement m.target m.mark.toNat m.epos.toNat none = (0, u) := howner ▸ hdec
  cases htold : m.told with
  | true =>
    have happly : s.applyDecrement m = u := by simp [State.applyDecrement, hdec', htold, hreply, howner]
    rw [happly]
    exact ⟨rfl, rfl, rfl, by rw [← taskOf_eq_record hr], by rw [← taskOf_eq_record hr]⟩
  | false =>
    by_cases hfar : m.src / 4096 = u.mgmt.package
    · have hfree := freeIfDone_onTask_of_waiting (f := fun r => { r with expected := vset r.expected m.die (vget r.expected m.die - 1) }) hr hstate
      have happly : s.applyDecrement m = u.onTask m.target fun r => { r with expected := vset r.expected m.die (vget r.expected m.die - 1) } := by
        simp [State.applyDecrement, hdec', htold, hreply, howner, hfar, hfree]
      rw [happly]
      exact sameRecord_onTask hr rfl rfl
    · have hfree := freeIfDone_onTask_of_waiting (f := fun r => { r with far := r.far - 1 }) hr hstate
      have happly : s.applyDecrement m = u.onTask m.target fun r => { r with far := r.far - 1 } := by
        simp [State.applyDecrement, hdec', htold, hreply, howner, hfar, hfree]
      rw [happly]
      exact sameRecord_onTask hr rfl rfl

/-- A decrement that is not a DEC, of a waiting task whose counter it does not bring to 0. -/
theorem decrementMessage_of_waiting {m : Decrement} {r : TaskRec} (hr : s.taskOf m.target = some r) (hreply : m.reply = none) (howner : m.owner = none)
    (hreached : s.reachedAt ≠ s.cycle) (hstart : s.unstarted m.target = false) (hstate : r.state = .waiting) (hzero : r.count ≠ 0) (hone : r.count ≠ 1) :
    ∃ t, Gives (.decrementMessage m) s t ∧ SameRecord s t m.target { r with count := r.count - 1 } := by
  have hr' : (s.enterOrder (counterKey m.target) 1 m.src).taskOf m.target = some r := hr
  have hover : ¬(r.state == .ended || r.state == .dead) = true := not_over (by rw [hstate]; decide) (by rw [hstate]; decide)
  have hstay : ¬(r.count = 1 && r.state == .waiting) = true := fun h => by
    rw [Bool.and_eq_true, decide_eq_true_eq] at h
    exact hone h.1
  have hdec := (decrement_eq m.mark.toNat m.epos.toNat hr' (serial := m.owner) (fun x hx => by rw [howner] at hx; cases hx)).trans
    ((if_neg hover).trans (if_neg hzero))
  rw [if_neg hstay] at hdec
  have hcounted := taskOf_onTask (f := TaskRec.counted m.mark.toNat m.epos.toNat) hr' rfl (by rw [TaskRec.counted, hstate]; decide)
  obtain ⟨hmem, hslots, hagenda, hcount, hstay'⟩ := applyDecrement_of_waiting hreply howner hdec hcounted hstate
  exact ⟨_, decrementMessage_of_turn (fun i hi => by rw [hreply] at hi; cases hi) (fun h => absurd h hreached) hstart,
    hmem.trans (mem_onTask ..), hslots.trans (slots_onTask ..), hagenda.trans (agenda_onTask ..), hcount, hstay'⟩

theorem errors_countTile (gt i : Nat) : vget ((s.countTile gt i).tile gt).errors i = satInc (vget (s.tile gt).errors i) := by
  have htile : (s.countTile gt i).tile gt = { s.tile gt with errors := vset (s.tile gt).errors i (satInc (vget (s.tile gt).errors i)) } := State.tile_onTile ..
  rw [htile]
  exact vget_vset ..
end

/-- Settles O30: each instruction sends its request from a port that is free, and each unit does its part by the rule of its event. -/
theorem taskRequests : Obligations.TaskRequests := by
  intro s d a b
  refine ⟨fun off hr hown hp hclean => ?_, fun q k hr hp hq hk halign hin => spawnTree_asks hr hp hq hk halign hin, spawnTree_of_no_gang,
    dec_asks, fun hr hp => ⟨asks_of_ask (execScopeOpen.eq_1 d a s) hr hp rfl, asks_of_ask (execScopeId.eq_1 d a s) hr hp rfl⟩,
    fun k hr hp hk hb => ?_, fun q bs args hq hkind hr => spawnRequest_of_gone hq hkind hr,
    fun q r bs args n hq hkind hr hn honly hscope hactive hreported hin h s' hadd => ?_,
    fun q pc arg a b c hq hkind => spawnTree_of_done hq hkind, fun m r hr hreply howner hdie hreached hstart hstate hzero hone => ?_,
    fun gt => ⟨_, rfl, rfl, ?_⟩,
    fun gt off hat => ⟨fun hr hp => asks_of_ask (execBarJoin.eq_1 d a s) hr hp (askBarrier_of_barrierAt hat),
      fun hr hp => asks_of_ask (execBarArrive.eq_1 d a s) hr hp (askBarrier_of_barrierAt hat),
      fun hr hp => asks_of_ask (execBarLeave.eq_1 d a s) hr hp (askBarrier_of_barrierAt hat), barWait_blocks hat⟩⟩
  · obtain ⟨body, hexec, hbody⟩ := spawn_body hown hp hclean
    dsimp only
    refine ⟨fun hres harg => ?_, fun hres => gives_of_trap hexec hr (hbody.trans (if_pos hres)), fun o hres harg halign hfit hclean' => ?_⟩
    · refine asks_of_ask hexec hr hp (hbody.trans ((if_neg ?_).trans (if_pos harg)))
      rw [hres]; exact Bool.false_ne_true
    · have hne : fieldW (s.readMem (s.cur / 4 * 2 ^ 30 + off) 64) 24 8 ≠ 0 := fun h0 => by
        rw [h0] at harg
        have := harg.symm.trans BitVec.toNat_zero
        omega
      obtain ⟨-, hpkg, hcur, -, -⟩ := hown
      refine asks_of_ask hexec hr hp (hbody.trans ((if_neg (by rw [hres]; exact Bool.false_ne_true)).trans ((if_neg hne).trans ?_)))
      rw [ownBlock_of_window harg hpkg hcur (by omega) (by decide) hfit]
      exact if_neg (by rw [show s.poisoned (sramKey (tileOfSlot s.cur) o) 256 = false from hclean']; exact Bool.false_ne_true)
  · obtain ⟨r, hgives, hreq⟩ := cancel_asks hr hp hk hb
    exact ⟨r, _, hgives, rfl, hreq, fun n hn => counter_charge s (s.cur / 4) k hn⟩
  · have hgives := spawnRequest_of_live hq hkind hr
    rw [spawn_of_room hn honly hscope hactive hreported hin hadd] at hgives
    exact ⟨_, hgives, mem_agenda_answer ..⟩
  · obtain ⟨t, hgives, hmem, hslots, hagenda, hcount, hstate'⟩ := decrementMessage_of_waiting hr hreply howner hreached hstart hstate hzero hone
    exact ⟨t, hgives, hmem, hslots, hagenda, hcount, hstate'.trans hstate⟩
  · exact errors_countTile gt 5

end Sys2Proof.Machine

namespace Sys2Proof.Machine

open Sys2Proof.Claims

set_option Elab.async false

/-! ## Scopes (spec/02 R31 to R34; spec/10 R237 to R245) -/

section
variable {s u : State} {key j : Nat} {r : ScopeRec}

theorem Assoc.find_erase {α : Type} (m : List (Nat × α)) (k j : Nat) : Assoc.find (Assoc.erase m k) j = if j = k then none else Assoc.find m j := by
  rw [Assoc.find, Assoc.erase, List.find?_filter, Assoc.find]
  split
  next h =>
    rw [List.find?_eq_none.2 fun e _ => ?_, Option.map_none]
    rw [h, decide_eq_true_eq, bne_iff_ne, beq_iff_eq]
    exact fun hc => hc.1 hc.2
  next h =>
    refine congrArg (Option.map (·.2)) (congrArg (List.find? · m) (funext fun e => ?_))
    by_cases he : e.1 = j
    · rw [bne_iff_ne.2 (he.trans_ne h), beq_iff_eq.2 he]
      rfl
    · rw [beq_eq_false_iff_ne.2 he]
      exact decide_eq_false fun hc => Bool.false_ne_true hc.2

theorem Assoc.mem_of_find {α : Type} {m : List (Nat × α)} {k : Nat} {x : α} (h : Assoc.find m k = some x) : (k, x) ∈ m := by
  obtain ⟨e, he, rfl⟩ := Option.map_eq_some_iff.1 h
  have hk : e.1 = k := beq_iff_eq.1 (List.find?_some (p := fun e : Nat × α => e.1 == k) he)
  exact hk ▸ List.mem_of_find?_eq_some he

theorem scope_onScope (s : State) (key : Nat) (f : ScopeRec → ScopeRec) (j : Nat) :
    (s.onScope key f).scope j = if j = key then (s.scope key).map f else s.scope j := by
  rw [State.onScope]
  cases h : s.scope key with
  | none =>
    by_cases heq : j = key
    · rw [if_pos heq, heq]; exact h
    · exact (if_neg heq).symm
  | some r => exact Assoc.find_set ..

theorem scope_onScope_same (h : s.scope key = some r) (f : ScopeRec → ScopeRec) : (s.onScope key f).scope key = some (f r) := by
  rw [scope_onScope, if_pos rfl, h]
  rfl

theorem scope_congr (h : u.scopes = s.scopes) (j : Nat) : u.scope j = s.scope j := by rw [State.scope, h]; rfl
theorem scopeState_congr (h : u.scope j = s.scope j) : u.scopeState j = s.scopeState j := by rw [State.scopeState, h]; rfl
theorem scopeState_of_scope (h : s.scope key = some r) : s.scopeState key = r.state := by rw [State.scopeState, h]

theorem scopes_sendPacket (s : State) (p : Packet) : (s.sendPacket p).scopes = s.scopes := by
  rw [State.sendPacket]
  split <;> rfl

theorem scopes_tell (s : State) (part : Nat) (pkgs : List Nat) (m : PodMsg) (ws : List Nat) (tail : Bytes) : (s.tell part pkgs m ws tail).scopes = s.scopes :=
  List.foldlRecOn pkgs _ (motive := fun u : State => u.scopes = s.scopes) rfl fun _ hu _ _ =>
    List.foldlRecOn _ _ (motive := fun v : State => v.scopes = s.scopes) hu fun v hv _ _ => (scopes_sendPacket v _).trans hv

theorem scope_freeScope (s : State) (k j : Nat) : (s.freeScope k).scope j = if j = k then none else s.scope j := by
  rw [State.freeScope]
  cases h : s.scope k with
  | none =>
    by_cases heq : j = k
    · rw [if_pos heq, heq]; exact h
    · exact (if_neg heq).symm
  | some r => exact Assoc.find_erase ..

/-- The end of a scope, once the records of its children are freed, changes no scope. -/
theorem scopes_scopeEnded (s : State) (key : Nat) : (s.scopeEnded key).scopes = ((s.children key).foldl (fun s e => s.freeScope e.1) s).scopes := by
  rw [State.scopeEnded]
  generalize (s.children key).foldl (fun s e => s.freeScope e.1) s = u
  cases u.scope key with
  | none => rfl
  | some r =>
    dsimp only
    cases r.parent with
    | none => dsimp only; split <;> rfl
    | some p =>
      dsimp only
      rw [State.wakeScope]
      split
      · split <;> rfl
      · rfl

theorem mem_scopeEnded (s : State) (key : Nat) : (s.scopeEnded key).mem = s.mem := by
  have hfree : ((s.children key).foldl (fun s e => s.freeScope e.1) s).mem = s.mem :=
    List.foldlRecOn _ _ (motive := fun u : State => u.mem = s.mem) rfl fun u hu e _ => by
      rw [State.freeScope]
      split
      · exact hu
      · exact hu
  rw [State.scopeEnded]
  generalize (s.children key).foldl (fun s e => s.freeScope e.1) s = u at hfree
  cases u.scope key with
  | none => exact hfree
  | some r =>
    dsimp only
    cases r.parent with
    | none => dsimp only; split <;> exact hfree
    | some p =>
      dsimp only
      rw [State.wakeScope]
      split
      · split <;> exact hfree
      · exact hfree

/-! The tree. -/

/-- Two states with the same tree of scopes. -/
def SameTree (s u : State) : Prop := ∀ k, (u.scope k).map (·.parent) = (s.scope k).map (·.parent)

theorem below_congr (h : SameTree s u) (anc n k : Nat) : u.below anc n k = s.below anc n k := by
  induction n generalizing k with
  | zero => rfl
  | succ n ih =>
    have hk := h k
    rw [State.below, State.below]
    cases hu : u.scope k with
    | none =>
      rw [hu] at hk
      rw [Option.map_eq_none_iff.1 hk.symm]
    | some r =>
      rw [hu] at hk
      obtain ⟨r', hr', hparent : r'.parent = r.parent⟩ := Option.map_eq_some_iff.1 hk.symm
      rw [hr']
      dsimp only
      rw [hparent]
      cases r.parent with
      | none => rfl
      | some p => exact congrArg _ (ih p)

theorem sameTree_onScope (s : State) (key : Nat) {f : ScopeRec → ScopeRec} (hf : ∀ r, (f r).parent = r.parent) : SameTree s (s.onScope key f) := by
  intro k
  rw [scope_onScope]
  split
  next h =>
    rw [h, Option.map_map]
    exact congrArg (Option.map · _) (funext hf)
  next => rfl

/-! CANCEL_REQUEST. -/

/-- The handle of an operand names a scope that the request may reach. -/
theorem reachScope_of_named {part own : Nat} {super : Bool} {h : Word} (hne : h ≠ 0) (hof : s.scopeOf part h = some key) (hdesc : s.descends key own = true) :
    s.reachScope part own super h = .ok key := by
  rw [State.reachScope, State.namedScope, if_neg hne, hof]
  exact if_pos (by rw [hdesc, Bool.or_true])

/-- A record made CANCELLING by a cancellation. -/
def ScopeRec.cancelledBy (now : Word) (key cause : Nat) (nested : Bool) (r : ScopeRec) : ScopeRec :=
  { r with state := .cancelling, cause := cause, owner := key, tcancel := now, awaits := r.others, told := false
           counts := { AckCounts.zero with nested := nested } }

/-- A record that a cancellation has reached. -/
def Reached (key : Nat) (o : Option ScopeRec) : Prop := ∃ r, o = some r ∧ r.state = .cancelling ∧ r.owner = key

theorem scope_cancelAll {cause : Nat} {nested : Bool} (l : List Nat) (s : State) (j : Nat) :
    let t := l.foldl (fun s k => s.onScope k (ScopeRec.cancelledBy s.now key cause (nested && k == key))) s
    (j ∉ l → t.scope j = s.scope j) ∧ (j ∈ l → (s.scope j).isSome = true → Reached key (t.scope j)) ∧ (Reached key (s.scope j) → Reached key (t.scope j)) := by
  induction l generalizing s with
  | nil => exact ⟨fun _ => rfl, fun h => absurd h (List.not_mem_nil), id⟩
  | cons k l ih =>
    obtain ⟨hout, hin, hkeep⟩ := ih (s.onScope k (ScopeRec.cancelledBy s.now key cause (nested && k == key)))
    rw [scope_onScope] at hout hin hkeep
    have hhit : j = k → (s.scope j).isSome = true → Reached key ((s.scope k).map (ScopeRec.cancelledBy s.now key cause (nested && k == key))) := by
      rintro rfl h
      obtain ⟨r, hr⟩ := Option.isSome_iff_exists.1 h
      rw [hr]
      exact ⟨_, rfl, rfl, rfl⟩
    by_cases hj : j = k
    · rw [if_pos hj] at hkeep
      refine ⟨fun h => absurd (List.mem_cons.2 (.inl hj)) h, fun _ h => hkeep (hhit hj h), fun ⟨r, hr, _⟩ => hkeep (hhit hj (by rw [hr]; rfl))⟩
    · rw [if_neg hj] at hout hin hkeep
      refine ⟨fun h => hout fun hmem => h (List.mem_cons_of_mem _ hmem), fun h => hin ((List.mem_cons.1 h).resolve_left hj), hkeep⟩

/-- The keys of a scope and its descendants that a cancellation makes CANCELLING. -/
def State.freshScopes (s : State) (key : Nat) : List Nat :=
  ((s.scopes.filter (fun e => s.descends e.1 key)).map (·.1)).filter (fun k => s.scopeState k == .active)

theorem mem_freshScopes : j ∈ s.freshScopes key ↔ s.descends j key = true ∧ s.scopeState j = .active := by
  rw [State.freshScopes, List.mem_filter, List.mem_map, beq_iff_eq]
  constructor
  · rintro ⟨⟨e, he, rfl⟩, hactive⟩
    exact ⟨(List.mem_filter.1 he).2, hactive⟩
  · rintro ⟨hdesc, hactive⟩
    refine ⟨?_, hactive⟩
    cases h : s.scope j with
    | none =>
      rw [State.scopeState, h] at hactive
      cases hactive
    | some r => exact ⟨(j, r), List.mem_filter.2 ⟨Assoc.mem_of_find h, hdesc⟩, rfl⟩

theorem cancelHere_frame {cause : Nat} (h : s.scope key = some r) (hactive : r.state = .active) :
    Told s (s.cancelHere key cause) ∧ (∀ j, s.scopeState j = .active → (s.cancelHere key cause).scopeState j = if s.descends j key then .cancelling else .active) ∧
      ((s.cancelHere key cause).scope key).map (·.owner) = some key := by
  have heq : ∃ nested, s.cancelHere key cause = ((((s.freshScopes key).flatMap s.tasksOf).foldl (fun s e => s.post (.cancelBroadcast e.1 e.2))
      ((s.freshScopes key).foldl (fun u k => u.onScope k (ScopeRec.cancelledBy u.now key cause (nested && k == key))) s))).post (.ackDelivery key) := by
    rw [State.cancelHere, h]
    have hgo : ¬(r.state != .active) = true := by rw [hactive]; decide
    exact ⟨((s.scopes.filter (fun e => s.descends e.1 key)).map (·.1)).any (fun k => s.scopeState k == .cancelling), if_neg hgo⟩
  obtain ⟨nested, heq⟩ := heq
  have hscopes (l : List (Nat × Nat)) (u : State) : (l.foldl (fun s e => s.post (.cancelBroadcast e.1 e.2)) u).scopes = u.scopes :=
    List.foldlRecOn l _ (motive := fun v : State => v.scopes = u.scopes) rfl fun v hv _ _ => hv
  have hscope (j : Nat) : (s.cancelHere key cause).scope j =
      ((s.freshScopes key).foldl (fun u k => u.onScope k (ScopeRec.cancelledBy u.now key cause (nested && k == key))) s).scope j := by
    rw [heq]
    exact scope_congr (hscopes ..) j
  refine ⟨?_, fun j hj => ?_, ?_⟩
  · rw [heq]
    refine Told.trans ?_ (post_told _ _)
    refine Told.trans ?_ (.foldl (fun u e => post_told u _) _ _)
    exact .foldl (fun u k => onScope_told u k _) _ _
  · obtain ⟨hout, hin, -⟩ := scope_cancelAll (cause := cause) (key := key) (nested := nested) (s.freshScopes key) s j
    split
    next hdesc =>
      have hsome : (s.scope j).isSome = true := by
        rw [State.scopeState] at hj
        cases hs : s.scope j with
        | none => rw [hs] at hj; cases hj
        | some _ => rfl
      obtain ⟨r', hr', hstate, -⟩ := hin (mem_freshScopes.2 ⟨hdesc, hj⟩) hsome
      rw [State.scopeState, hscope, hr']
      exact hstate
    next hdesc => exact (scopeState_congr ((hscope j).trans (hout fun hmem => hdesc (mem_freshScopes.1 hmem).1))).trans hj
  · obtain ⟨-, hin, -⟩ := scope_cancelAll (cause := cause) (key := key) (nested := nested) (s.freshScopes key) s key
    obtain ⟨r', hr', -, howner⟩ := hin (mem_freshScopes.2 ⟨below_refl s 32 key, by rw [State.scopeState, h]; exact hactive⟩) (by rw [h]; rfl)
    rw [hscope, hr']
    exact congrArg some howner

theorem cancelScope_frame {cause : Nat} (h : s.scope key = some r) (hactive : r.state = .active) :
    Told s (s.cancelScope key cause) ∧ (∀ j, s.scopeState j = .active → (s.cancelScope key cause).scopeState j = if s.descends j key then .cancelling else .active) ∧
      ((s.cancelScope key cause).scope key).map (·.owner) = some key := by
  obtain ⟨htold, hstates, howner⟩ := cancelHere_frame (cause := cause) h hactive
  have heq : ∃ pkgs m ws, s.cancelScope key cause = (s.cancelHere key cause).tell r.part pkgs m ws := by
    rw [State.cancelScope, h]
    cases hhome : r.home with
    | none => exact ⟨_, _, _, (if_neg (by rw [hactive]; decide)).trans (by rw [hhome])⟩
    | some p => exact ⟨_, _, _, (if_neg (by rw [hactive]; decide)).trans (by rw [hhome])⟩
  obtain ⟨pkgs, m, ws, heq⟩ := heq
  have hscope (j : Nat) : (s.cancelScope key cause).scope j = (s.cancelHere key cause).scope j := by
    rw [heq]
    exact scope_congr (scopes_tell ..) j
  refine ⟨?_, fun j hj => (scopeState_congr (hscope j)).trans (hstates j hj), by rw [hscope, howner]⟩
  rw [heq]
  exact htold.trans (tell_told ..)

/-- What CANCEL at the home of an ACTIVE scope brings about; the records of its acknowledgements keep their places in the tree. -/
theorem cancelRequest_of_active {q : Request} {h addr : Word} {k : KTag} (hq : s.request q.id = some q) (hkind : q.kind = .cancel h addr k) (hne : h ≠ 0)
    (hof : s.scopeOf q.part h = some key) (hdesc : s.descends key q.scope = true) (hr : s.scope key = some r) (hhome : r.home = none) :
    Gives (.cancelRequest q.id) s ((s.cancel q h addr k).2.answer q.id (s.cancel q h addr k).1) := by
  have hfar : s.farScope q h = none := by
    rw [State.farScope, reachScope_of_named hne hof hdesc]
    dsimp only
    rw [hr, Option.bind_some, hhome]
    rfl
  have hexec : exec (.cancelRequest q.id) s = execCancelRequest q.id s := rfl
  rw [Gives, hexec, execCancelRequest, hq]
  simp only [hkind, hfar]

/-- A record with one more acknowledgement to give. -/
def ScopeRec.withAck (a : Ack) (r : ScopeRec) : ScopeRec := { r with acks := r.acks ++ [a] }

theorem cancel_of_active {q : Request} {h addr : Word} {k : KTag} (hne : h ≠ 0) (hof : s.scopeOf q.part h = some key)
    (hdesc : s.descends key q.scope = true) (hr : s.scope key = some r) (hactive : r.state = .active) :
    ∃ a, s.cancel q h addr k = (0, (s.onScope key (ScopeRec.withAck a)).cancelScope key 1) := by
  refine ⟨{ addr := addr, slot := q.slot, task := q.task, k := k, issuer := q.src, counted := true }, ?_⟩
  simp only [State.cancel, reachScope_of_named hne hof hdesc, hr, hactive]
  rfl

theorem cancel_of_cancelling {q : Request} {h addr : Word} {k : KTag} (hne : h ≠ 0) (hof : s.scopeOf q.part h = some key)
    (hdesc : s.descends key q.scope = true) (hr : s.scope key = some r) (hstate : r.state = .cancelling) :
    ∃ a, s.cancel q h addr k = (1, s.onScope key (ScopeRec.withAck a)) := by
  refine ⟨{ addr := addr, slot := q.slot, task := q.task, k := k, issuer := q.src, counted := false }, ?_⟩
  simp only [State.cancel, reachScope_of_named hne hof hdesc, hr, hstate]
  rfl

theorem scopeState_withAck (hr : s.scope key = some r) (a : Ack) (j : Nat) : (s.onScope key (ScopeRec.withAck a)).scopeState j = s.scopeState j := by
  by_cases hj : j = key
  · rw [hj, scopeState_of_scope (scope_onScope_same hr _), scopeState_of_scope hr]
    rfl
  · exact scopeState_congr (by rw [scope_onScope, if_neg hj])

theorem agenda_onScope (s : State) (key : Nat) (f : ScopeRec → ScopeRec) : (s.onScope key f).agenda = s.agenda := by
  rw [State.onScope]
  split <;> rfl

/-! SCOPE_CLOSE and ACK_DELIVERY. -/

/-- The freeing of the records of other scopes leaves a scope's record. -/
theorem scope_freeAll {l : List (Nat × ScopeRec)} (h : ∀ e ∈ l, e.1 ≠ key) (s : State) : (l.foldl (fun s e => s.freeScope e.1) s).scope key = s.scope key :=
  List.foldlRecOn l _ (motive := fun u : State => u.scope key = s.scope key) rfl fun u hu e he => by
    rw [scope_freeScope, if_neg (h e he).symm, hu]

theorem scopeState_scopeEnded_closed (h : s.scopeState key = .closed) : (s.scopeEnded key).scopeState key = .closed := by
  refine (scopeState_congr (scope_congr (scopes_scopeEnded s key) key)).trans ?_
  refine List.foldlRecOn _ _ (motive := fun u : State => u.scopeState key = .closed) h fun u hu e _ => ?_
  by_cases hk : key = e.1
  · rw [State.scopeState, scope_freeScope, if_pos hk]
  · exact (scopeState_congr (by rw [scope_freeScope, if_neg hk])).trans hu

theorem scopeClose_of_empty (hr : s.scope key = some r) (hactive : r.state = .active) (hsealed : r.sealed_ = true) (hsettled : s.settledScope key = true)
    (hrequests : ∀ q ∈ s.requests, q.scope ≠ key) (hhome : r.home = none) (hawaits : r.awaits = []) :
    Gives (.scopeClose key) s (((s.onScope key (fun r => { r with state := .closed })).tell r.part r.others .closed [key]).scopeEnded key) := by
  have hnone : s.requests.any (fun q => q.scope == key && q.part == r.part) = false := by
    rw [List.any_eq_false]
    intro q hq h
    rw [Bool.and_eq_true, beq_iff_eq] at h
    exact hrequests q hq h.1
  have hexec : exec (.scopeClose key) s = execScopeClose key s := rfl
  rw [Gives, hexec, execScopeClose, hr]
  simp only [hactive, hsealed, hsettled, hnone, hhome, hawaits]
  rfl

theorem scopeClose_of_open (hr : s.scope key = some r) (hactive : r.state = .active) (hopen : r.sealed_ = false ∨ s.settledScope key = false) :
    Gives (.scopeClose key) s s := by
  have hexec : exec (.scopeClose key) s = execScopeClose key s := rfl
  rw [Gives, hexec, execScopeClose, hr]
  refine congrArg Host.Outcome.next (if_pos ?_)
  rw [hactive]
  rcases hopen with h | h <;> rw [h]
  · rfl
  · rw [Bool.not_false, Bool.or_true]

theorem settleOwed_of_none (h : s.owed = []) (key : Nat) : s.settleOwed key = s := by
  rw [State.settleOwed, h]
  exact congrArg (fun l => { s with owed := l }) h.symm

/-- The scopes that one cancellation made CANCELLING. -/
def State.cancelGroup (s : State) (key : Nat) : List (Nat × ScopeRec) := s.scopes.filter (fun e => e.2.state == .cancelling && e.2.owner == key)

/-- The record of a scope, when it is the only one with its key, has no parent, and awaits no acknowledgement. -/
structure LoneRoot (s : State) (key : Nat) (r : ScopeRec) : Prop where
  scope : s.scope key = some r
  only : ∀ e ∈ s.scopes, e.1 = key → e.2 = r
  parent : r.parent = none

theorem LoneRoot.congr (h : LoneRoot s key r) (hu : u.scopes = s.scopes) : LoneRoot u key r :=
  ⟨(scope_congr hu key).trans h.scope, by rw [hu]; exact h.only, h.parent⟩

theorem LoneRoot.onScope (h : LoneRoot s key r) {f : ScopeRec → ScopeRec} (hf : (f r).parent = r.parent) : LoneRoot (s.onScope key f) key (f r) where
  scope := scope_onScope_same h.scope f
  only e he hk := by
    rw [State.onScope, h.scope] at he
    rcases List.mem_append.1 he with he | he
    · exact absurd hk (Nat.ne_of_lt (of_decide_eq_true (List.mem_filter.1 he).2))
    · rcases List.mem_cons.1 he with rfl | he
      · rfl
      · exact absurd hk (Nat.ne_of_gt (of_decide_eq_true (List.mem_filter.1 he).2))
  parent := hf.trans h.parent

theorem scope_scopeEnded (h : LoneRoot s key r) : (s.scopeEnded key).scope key = some r := by
  refine (scope_congr (scopes_scopeEnded s key) key).trans ((scope_freeAll (fun e he hk => ?_) s).trans h.scope)
  obtain ⟨hmem, hparent⟩ := List.mem_filter.1 he
  rw [h.only e hmem hk, h.parent] at hparent
  cases hparent

/-- A record made CANCELLED. -/
def ScopeRec.settled (r : ScopeRec) : ScopeRec := { r with state := .cancelled, acks := [] }

/-- The records of a group that is one scope become CANCELLED. -/
theorem cancelledAll_of_lone (h : LoneRoot s key r) {l : List (Nat × ScopeRec)} (hne : l ≠ []) (hl : ∀ e ∈ l, e.1 = key) :
    ∃ r', LoneRoot (l.foldl (fun s e => s.onScope e.1 ScopeRec.settled) s) key r' ∧ r'.state = .cancelled := by
  cases l with
  | nil => exact absurd rfl hne
  | cons e l =>
    obtain ⟨he, hl⟩ := List.forall_mem_cons.1 hl
    refine List.foldlRecOn l _ (motive := fun u : State => ∃ r', LoneRoot u key r' ∧ r'.state = .cancelled) ?_ fun u hu e he => ?_
    · dsimp only
      rw [he]
      exact ⟨_, h.onScope rfl, rfl⟩
    · obtain ⟨r', hr', -⟩ := hu
      rw [hl e he]
      exact ⟨_, hr'.onScope rfl, rfl⟩

/-- The acknowledgement of a cancellation that reached one scope, and awaits no record. -/
theorem scopeState_scopeCancelled (h : LoneRoot s key r) (hstate : r.state = .cancelling) (howner : r.owner = key) (hacks : r.acks = [])
    (hgroup : ∀ e ∈ s.scopes, e.2.owner = key → e.1 = key) : (s.scopeCancelled key).scopeState key = .cancelled := by
  have hkeys : ∀ e ∈ s.cancelGroup key, e.1 = key ∧ e.2 = r := fun e he => by
    obtain ⟨hmem, hc⟩ := List.mem_filter.1 he
    rw [Bool.and_eq_true, beq_iff_eq, beq_iff_eq] at hc
    have hk := hgroup e hmem hc.2
    exact ⟨hk, h.only e hmem hk⟩
  have hne : s.cancelGroup key ≠ [] := List.ne_nil_of_mem (List.mem_filter.2 ⟨Assoc.mem_of_find h.scope, by
    rw [hstate, howner, Bool.and_eq_true, beq_iff_eq]
    exact ⟨rfl, beq_self_eq_true _⟩⟩)
  have hnoacks : (s.cancelGroup key).flatMap (fun e => e.2.acks.map (fun a => (e.1, e.2, a))) = [] :=
    List.flatMap_eq_nil_iff.2 fun e he => by rw [(hkeys e he).2, hacks]; rfl
  have hbelow : (s.cancelGroup key).filter (fun e => e.1 != key) = [] := List.filter_eq_nil_iff.2 fun e he => by
    rw [(hkeys e he).1, bne_self_eq_false]
    exact Bool.false_ne_true
  obtain ⟨r', hlone, hcancelled⟩ := cancelledAll_of_lone (h.congr (u := s.tell r.part r.others .cancelled (key :: r.counts.words)) (scopes_tell ..)) hne
    (fun e he => (hkeys e he).1)
  have heq : s.scopeCancelled key = ((s.cancelGroup key).foldl (fun s e => s.onScope e.1 ScopeRec.settled)
      (s.tell r.part r.others .cancelled (key :: r.counts.words))).scopeEnded key := by
    rw [State.scopeCancelled, h.scope]
    change State.scopeEnded (((s.cancelGroup key).filter (fun e => e.1 != key)).foldl _ ((s.cancelGroup key).foldl _
      (((((s.cancelGroup key).flatMap (fun e => e.2.acks.map (fun a => (e.1, e.2, a))))).filter _).foldl _
        ((((s.cancelGroup key).flatMap (fun e => e.2.acks.map (fun a => (e.1, e.2, a)))).filter _).foldl _ _)))) key = _
    rw [hbelow, hnoacks]
    rfl
  rw [heq, State.scopeState, scope_scopeEnded hlone]
  exact hcancelled

theorem ackDelivery_eq (hr : s.scope key = some r) (hstate : r.state = .cancelling) (howner : r.owner = key) (howed : s.owed = []) :
    exec (.ackDelivery key) s = .next (if !s.drained key then
        (if (s.confirmWrites (fun q => s.descends q.scope key)).deferred.contains (.ackDelivery key) then s.confirmWrites (fun q => s.descends q.scope key)
          else (s.confirmWrites (fun q => s.descends q.scope key)).defer (.ackDelivery key))
      else match r.home with
        | some h => if r.told then s else
          (s.onScope key (fun r => { r with told := true })).tell r.part [h] .drained (key :: s.tallies r.part r.serial ++ r.counts.words)
        | none => (if r.cause = 1 then s else s.logAck key r).scopeCancelled key) := by
  have hexec : exec (.ackDelivery key) s = execAckDelivery key s := rfl
  rw [hexec, execAckDelivery, settleOwed_of_none howed]
  dsimp only
  rw [hr]
  refine congrArg Host.Outcome.next ((if_neg ?_).trans rfl)
  rw [hstate, howner, Bool.or_eq_true, bne_iff_ne, bne_iff_ne]
  exact fun h => h.elim (fun h => h rfl) (fun h => h rfl)

theorem ackDelivery_of_drained (hr : s.scope key = some r) (hstate : r.state = .cancelling) (howner : r.owner = key) (hcause : r.cause = 1)
    (hhome : r.home = none) (howed : s.owed = []) (hdone : s.drained key = true) : Gives (.ackDelivery key) s (s.scopeCancelled key) := by
  rw [Gives, ackDelivery_eq hr hstate howner howed, hdone, hhome, hcause]
  rfl

theorem ackDelivery_of_undrained (hr : s.scope key = some r) (hstate : r.state = .cancelling) (howner : r.owner = key) (howed : s.owed = [])
    (hno : s.drained key = false) (hdef : .ackDelivery key ∉ s.deferred) (hhost : ∀ q ∈ s.requests, q.toHost = false) :
    Gives (.ackDelivery key) s (s.defer (.ackDelivery key)) := by
  rw [Gives, ackDelivery_eq hr hstate howner howed, hno, confirmWrites_of_none hhost]
  refine congrArg Host.Outcome.next ((if_pos rfl).trans (if_neg ?_))
  rw [List.contains_iff_mem]
  exact hdef

/-! KILL_HOLD_EXPIRY and SCOPE_REQUEST. -/

/-- A slot whose region has closed. -/
def Slot.expire (forced : Bool) (t : Slot) : Slot := { t with hold := none, expired := true, forced := forced }

theorem killHoldExpiry_of_open {g c : Nat} (hhold : (s.slot g).hold = some c) (hlock : s.inLockstep (s.slot g) = false) :
    exec (.killHoldExpiry g) s = .next (if s.cycle < c then s.defer (.killHoldExpiry g)
      else if (s.slot g).killNotice then (s.setSlot g ((s.slot g).expire ((s.slot g).forced || (s.slot g).killNotice))).post (.kill g)
        else s.setSlot g ((s.slot g).expire ((s.slot g).forced || (s.slot g).killNotice))) := by
  have hexec : exec (.killHoldExpiry g) s = execKillHoldExpiry g s := rfl
  rw [hexec, execKillHoldExpiry, hhold, hlock]
  rfl

theorem scopeId_answers {q : Request} {x : Word} (hq : s.request q.id = some q) (hkind : q.kind = .scopeId x) :
    Gives (.scopeRequest q.id) s (s.answer q.id (s.scopeIdOf q x)) := by
  have hexec : exec (.scopeRequest q.id) s = execScopeRequest q.id s := rfl
  rw [Gives, hexec, execScopeRequest, hq]
  simp only [hkind]

theorem scopeOpen_answers {q : Request} {h : Word} (hq : s.request q.id = some q) (hkind : q.kind = .scopeOpen h) :
    Gives (.scopeRequest q.id) s ((s.openScope q h).2.answer q.id (s.openScope q h).1) := by
  have hexec : exec (.scopeRequest q.id) s = execScopeRequest q.id s := rfl
  rw [Gives, hexec, execScopeRequest, hq]
  simp only [hkind]

/-- What SCOPE.OPEN does once its parent is a scope that may open one. -/
def State.openBelow (s : State) (q : Request) (k : Nat) (p : ScopeRec) : Word × State :=
  let rec_ : ScopeRec :=
    { state := p.state, gen := 0, part := q.part, serial := p.serial, die := q.src % 4096 / 16 / 64, parent := some k
      depth := p.depth + 1, sealed_ := false, opener := q.task, cause := p.cause, owner := if p.state == .active then 0 else p.owner
      tcancel := p.tcancel, counts := AckCounts.zero, acks := [] }
  match s.addScope q.part rec_ with
  | none => (failure 4, s)
  | some (key, s) => (match s.scope key with
    | some r => (scopeHandle key r, s)
    | none => (failure 4, s))

/-- SCOPE.OPEN under the issuer's own scope. -/
theorem openScope_of_own {q : Request} (hr : s.scope q.scope = some r) : s.openScope q 0 =
    if r.state == .closed || r.state == .cancelled || s.reported q.scope then (failure 6, s)
      else if 32 ≤ r.depth then (failure 5, s) else s.openBelow q q.scope r := by
  have hreach : s.reachScope q.part q.scope false 0 = .ok q.scope := by
    have hself : s.descends q.scope q.scope = true := below_refl s 32 q.scope
    rw [State.reachScope, State.namedScope, if_pos rfl]
    exact if_pos (by rw [hself, Bool.or_true])
  rw [State.openScope, hreach]
  dsimp only
  rw [hr]
  rfl

end

/-- Settles O35: a request, a report or a notice at a scope's home, by the rule of its event. -/
theorem scopes : Obligations.Scopes := by
  intro s
  refine ⟨fun q h addr k key r hq hkind hne hof hdesc hr hhome => ⟨fun hactive => ?_, fun hstate => ?_⟩, fun die entry r g hr hsc hrun hloc => ?_,
    fun g r htask hr hnotice hhold hsaving hsettling hgang => ⟨_, kill_of_point htask hr hnotice hhold hsaving hsettling hgang, (killOne_frame _ htask).1⟩,
    fun g c hhold hlock => ?_, fun key r hr honly hactive => ⟨fun hsealed hsettled hreq hhome hawaits => ?_, scopeClose_of_open hr hactive⟩,
    fun key r hr hstate howner hacks hcause hparent hhome hgroup honly howed => ?_, fun q r hq hr => ?_⟩
  · have hgives := cancelRequest_of_active hq hkind hne hof hdesc hr hhome
    obtain ⟨a, heq⟩ := cancel_of_active (addr := addr) (k := k) hne hof hdesc hr hactive
    rw [heq] at hgives
    obtain ⟨htold, hstates, howner⟩ := cancelScope_frame (cause := 1) (scope_onScope_same hr (ScopeRec.withAck a)) hactive
    refine ⟨_, hgives, htold.mem.trans (onScope_told ..).mem, htold.slots.trans (onScope_told ..).slots, mem_agenda_answer .., fun j hj => ?_, howner⟩
    refine (hstates j ((scopeState_withAck hr a j).trans hj)).trans ?_
    rw [State.descends, below_congr (sameTree_onScope s key (f := ScopeRec.withAck a) fun _ => rfl)]
    rfl
  · have hgives := cancelRequest_of_active hq hkind hne hof hdesc hr hhome
    obtain ⟨a, heq⟩ := cancel_of_cancelling (addr := addr) (k := k) hne hof hdesc hr hstate
    rw [heq] at hgives
    exact ⟨_, hgives, congrArg (· ++ [_]) (agenda_onScope ..), fun j => scopeState_withAck hr a j⟩
  · have hexec : exec (.cancelBroadcast die entry) s = execCancelBroadcast die entry s := rfl
    rw [Gives, hexec, execCancelBroadcast, hr]
    simp only [hsc, hrun, hloc]
    rfl
  · refine ⟨fun hlt => ?_, fun hle hno => ?_, fun hle hyes => ?_⟩
    · exact (killHoldExpiry_of_open hhold hlock).trans (congrArg Host.Outcome.next (if_pos hlt))
    · refine (killHoldExpiry_of_open hhold hlock).trans (congrArg Host.Outcome.next ((if_neg (Nat.not_lt.2 hle)).trans ?_))
      rw [hno, Bool.or_false]
      rfl
    · refine (killHoldExpiry_of_open hhold hlock).trans (congrArg Host.Outcome.next ((if_neg (Nat.not_lt.2 hle)).trans ?_))
      rw [hyes, Bool.or_true]
      rfl
  · refine ⟨_, scopeClose_of_empty hr hactive hsealed hsettled hreq hhome hawaits, scopeState_scopeEnded_closed ?_, ?_⟩
    · rw [scopeState_congr (scope_congr (scopes_tell ..) key)]
      exact scopeState_of_scope (scope_onScope_same hr _)
    · exact (mem_scopeEnded ..).trans ((tell_told ..).mem.trans (onScope_told ..).mem)
  · refine ⟨fun hdone => ⟨_, ackDelivery_of_drained hr hstate howner hcause hhome howed hdone, ?_⟩, fun hno hdef hhost => ?_⟩
    · exact scopeState_scopeCancelled ⟨hr, honly, hparent⟩ hstate howner hacks hgroup
    · exact ackDelivery_of_undrained hr hstate howner howed hno hdef hhost
  · refine ⟨fun hkind => ?_, fun hkind hclosed => ?_, fun hkind hactive htold hdepth => ?_⟩
    · have hid : s.scopeIdOf q 0 = scopeHandle q.scope r := by rw [State.scopeIdOf, if_pos rfl, hr]
      exact ⟨_, scopeId_answers hq hkind, rfl, by rw [hid]; rfl⟩
    · have hopen : s.openScope q 0 = (failure 6, s) := by
        rw [openScope_of_own hr]
        exact if_pos (by rw [hclosed]; rfl)
      exact ⟨_, scopeOpen_answers hq hkind, by rw [hopen]; rfl, by rw [hopen]; rfl⟩
    · have hopen : s.openScope q 0 = (failure 5, s) := by
        rw [openScope_of_own hr]
        refine (if_neg ?_).trans (if_pos hdepth)
        have hreported : s.reported q.scope = false := by
          rw [State.reported, hr]
          exact (Bool.and_eq_false_iff).2 (.inl htold)
        rw [hactive, hreported]
        decide
      exact ⟨_, scopeOpen_answers hq hkind, by rw [hopen]; rfl, by rw [hopen]; rfl⟩

end Sys2Proof.Machine

namespace Sys2Proof.Machine

open Sys2Proof.Claims

set_option Elab.async false

/-! ## Completion records (spec/14 R295) -/

/-- The entry of a page that the host holds. -/
def hostPage : TlbEntry := { part := 0, home := 0, w0 := 1, w1 := 0x8400, w2 := 0 }
/-- A NOP whose record goes to an address of that page. -/
def hostCommand : Command :=
  { id := 0, queue := 0, part := 0, bytes := zeros 16 ++ [0x40] ++ zeros 47, taccept := 0, outcome := some (0, 0, 0), record := none }
/-- A module in which the command is decided, and each die holds the page's translation. -/
def hostRecording : State :=
  { State.reset with
    commands := [hostCommand]
    dies := Vector.replicate 4 { Die.reset with homeTlb := { entries := [hostPage], gens := [], answers := [] } } }

theorem translateNow_hostRecording : hostRecording.translateNow 0 true .write 0x40 = .ok (.host 0x40) := by decide

theorem cpl_hostCommand : fieldW hostCommand.bytes 16 8 = 0x40 := by decide

/-- The record's write and the zero-length read that confirms it (spec/16 R355) are two requests. -/
theorem requests_hostRecording : (match exec (.completionRecord 0) hostRecording with
    | .next t => t.requests.length
    | _ => 0) = 2 := by decide

/-- Refutes O42: the record of a command whose CPL lies in a page of the host's goes out as a request, and a zero-length read follows it at once (log
76); the statement allows the one request only. -/
theorem not_queueRecords : ¬ Obligations.QueueRecords := by
  rintro ⟨-, h⟩
  obtain ⟨-, hcpl, -⟩ := h hostRecording hostCommand 0 0 0 rfl rfl rfl rfl
  obtain ⟨-, hsent⟩ := hcpl (.host 0x40) (by rw [cpl_hostCommand]; decide) (by rw [cpl_hostCommand]; decide) (by rw [cpl_hostCommand]; exact translateNow_hostRecording)
  obtain ⟨t, r, hgives, -, hrequests, -⟩ := hsent rfl
  have htwo := requests_hostRecording
  have hgives' : exec (.completionRecord 0) hostRecording = .next t := hgives
  rw [hgives'] at htwo
  have hone : t.requests.length = 1 := by rw [hrequests]; rfl
  exact absurd (hone.symm.trans htwo) (by decide)

end Sys2Proof.Machine

namespace Sys2Proof.Machine

open Sys2Proof.Claims

set_option Elab.async false

/-! ## Commands of the work queues (spec/14 R293 to R296) -/

section
variable {s u : State} {n op : Nat} {c : Command}

theorem outcomeOf_eq (s : State) (c : Command) (status detail serial : Nat) : s.outcomeOf c status detail serial = decided s c status detail serial := by
  have hmap : (fun x : Command => if x.id == c.id then { x with outcome := some (status, detail, serial) } else x) =
      fun x => if x.id = c.id then { x with outcome := some (status, detail, serial) } else x := funext fun x => by rw [beq_eq_decide]; exact if_congr decide_eq_true_iff rfl rfl
  rw [State.outcomeOf, hmap]
  rfl

/-- What the taking of a command tells of it. -/
theorem take_some (h : s.take n = some (c, u)) : (∃ rest, (s.queue n).ring = c.bytes :: rest) ∧ c.part = (s.queue n).part ∧ u.instances = s.instances := by
  rw [State.take] at h
  split at h
  · cases h
  · split at h
    next b rest w rs d hring _ =>
      split at h
      · have hc : c = { id := s.nextId, queue := n, part := (s.queue n).part, bytes := b, taccept := s.now, outcome := none, record := none } :=
          (congrArg Prod.fst (Option.some.inj h)).symm
        have hu : u.instances = (rs.foldl (fun s r => s.onQueue r.queue (fun x => { x with admDeficit := r.deficit })) s.fresh.2).instances :=
          (congrArg (fun e : Command × State => e.2.instances) (Option.some.inj h)).symm
        rw [hc]
        refine ⟨⟨rest, hring⟩, rfl, hu.trans ?_⟩
        exact List.foldlRecOn rs _ (motive := fun v : State => v.instances = s.instances) rfl fun v hv _ _ => hv
      · cases h
    next => cases h

theorem command_of_admits {mine : Nat → Bool} {ev : Instr} {run : Command → State → State} (h : Admits s n op c u) (hmine : mine op = true) :
    s.command n mine ev run = run c u := by
  obtain ⟨htake, rfl⟩ := h
  obtain ⟨⟨rest, hring⟩, -, -⟩ := take_some htake
  rw [State.command, hring]
  dsimp only
  rw [if_pos hmine, htake]

/-! What the reads and messages of a command leave alone. -/

/-- The look-up of translations, and a message to other modules, leave alone memory, slots, images, instances, commands and agenda. -/
structure Unmoved (s u : State) : Prop where
  mem : u.mem = s.mem
  slots : u.slots = s.slots
  images : u.images = s.images
  instances : u.instances = s.instances
  commands : u.commands = s.commands
  agenda : u.agenda = s.agenda
  locked : u.locked = s.locked
  mgmt : u.mgmt = s.mgmt

theorem Unmoved.refl (s : State) : Unmoved s s := ⟨rfl, rfl, rfl, rfl, rfl, rfl, rfl, rfl⟩
theorem Unmoved.trans {s t u : State} (h : Unmoved s t) (h' : Unmoved t u) : Unmoved s u :=
  ⟨h'.mem.trans h.mem, h'.slots.trans h.slots, h'.images.trans h.images, h'.instances.trans h.instances, h'.commands.trans h.commands,
    h'.agenda.trans h.agenda, h'.locked.trans h.locked, h'.mgmt.trans h.mgmt⟩
theorem Unmoved.foldl {α : Type} {f : State → α → State} (hf : ∀ s a, Unmoved s (f s a)) (l : List α) (s : State) : Unmoved s (l.foldl f s) :=
  List.foldlRecOn l f (motive := Unmoved s) (.refl s) fun u hu a _ => hu.trans (hf u a)

theorem onTlb_unmoved (s : State) (n : Nat) (f : Tlb → Tlb) : Unmoved s (s.onTlb n f) := by
  rw [State.onTlb]
  split
  · exact ⟨rfl, rfl, rfl, rfl, rfl, rfl, rfl, rfl⟩
  · split <;> exact ⟨rfl, rfl, rfl, rfl, rfl, rfl, rfl, rfl⟩

theorem walked_unmoved (s : State) (part : Nat) (va : Word) : Unmoved s (s.walked part va) := by
  rw [State.walked]
  split
  · exact .refl s
  · generalize s.walk part va = r
    have hcount : Unmoved s (if r.2 = 0 then s else s.countDie (shardOf va) 0 r.2) := by
      split
      · exact .refl s
      · exact ⟨rfl, rfl, rfl, rfl, rfl, rfl, rfl, rfl⟩
    obtain ⟨o, n⟩ := r
    cases o with
    | none => exact hcount
    | some e => exact hcount.trans (onTlb_unmoved _ _ _)

theorem readDone_unmoved (s : State) (p : Issuer) (r : CoreRead) : Unmoved s (s.readDone p r) :=
  Unmoved.trans (.foldl (fun u va => walked_unmoved u p.part va) r.at_ s) ⟨rfl, rfl, rfl, rfl, rfl, rfl, rfl, rfl⟩

theorem sendPacket_unmoved (s : State) (p : Packet) : Unmoved s (s.sendPacket p) := by
  rw [State.sendPacket]
  split <;> exact ⟨rfl, rfl, rfl, rfl, rfl, rfl, rfl, rfl⟩

theorem tell_unmoved (s : State) (part : Nat) (pkgs : List Nat) (m : PodMsg) (ws : List Nat) (tail : Bytes) : Unmoved s (s.tell part pkgs m ws tail) :=
  .foldl (fun u _ => Unmoved.trans (t := u.fresh.2) ⟨rfl, rfl, rfl, rfl, rfl, rfl, rfl, rfl⟩ (.foldl (fun v _ => sendPacket_unmoved v _) _ _)) _ _

/-! UNLOAD and CANCEL. -/

theorem image_dropImage (s : State) (part h : Nat) : (s.dropImage part h).image part h = none := by
  have himages : (s.dropImage part h).images = s.images.filter (fun m => !(m.part == part && m.handle == h)) := by
    rw [State.dropImage]
    rfl
  rw [State.image, himages, List.find?_filter]
  exact List.find?_eq_none.2 fun m _ hm => by
    rw [decide_eq_true_eq, Bool.not_eq_true'] at hm
    exact Bool.false_ne_true (hm.1.symm.trans hm.2)

theorem dropImage_keeps (s : State) (part h : Nat) : (s.dropImage part h).mem = s.mem ∧ (s.dropImage part h).slots = s.slots ∧
    (s.dropImage part h).commands = s.commands ∧ (s.dropImage part h).agenda = s.agenda := by
  rw [State.dropImage]
  exact ⟨rfl, rfl, rfl, rfl⟩

theorem cancelHere_commands (s : State) (key cause : Nat) : (s.cancelHere key cause).commands = s.commands := by
  rw [State.cancelHere]
  split
  · rfl
  · split
    · rfl
    · refine List.foldlRecOn _ _ (motive := fun u : State => u.commands = s.commands) ?_ fun u hu _ _ => hu
      refine List.foldlRecOn _ _ (motive := fun u : State => u.commands = s.commands) rfl fun u hu _ _ => ?_
      rw [State.onScope]
      split <;> exact hu

theorem cancelScope_commands (s : State) (key cause : Nat) : (s.cancelScope key cause).commands = s.commands := by
  rw [State.cancelScope]
  split
  · rfl
  · split
    · rfl
    · split <;> exact (tell_unmoved ..).commands.trans (cancelHere_commands ..)

/-! LOAD. -/

theorem readWaits_of_all {p : Issuer} {r : CoreRead} {ev : Instr} (hneed : r.need = []) (hlines : r.lines = []) : s.readWaits p r ev = none := by
  rw [State.readWaits, hneed, hlines]
  rfl

/-- What LOAD does with an image that it has read. -/
def State.loadRead (s : State) (c : Command) (len : Nat) (img : Bytes) : State :=
  match imageBad false img with
  | some i => s.outcomeOf c 17 i 0
  | none => if s.storeFull c.part len then s.outcomeOf c 24 0 0 else s.install c c.part false none img

theorem load_of_read (hbad : commandBad c.bytes (List.range 17 |>.map (· + 24) |>.append [42, 43]) = false) (hflags : byteAt c.bytes 40 = 0) {core : Issuer} {head body : CoreRead}
    (hcore : u.coreIssuer c.part c.queue = core) (hhead : u.coreBytes core (fieldW c.bytes 24 8) 32 [] false = head)
    (hbody : u.coreBytes core (fieldW c.bytes 24 8) (field c.bytes 32 8) [] false = body)
    (hf : head.fails = false) (hn : head.need = []) (hl : head.lines = []) (hgood : headerBad head.bytes (field c.bytes 32 8) = false)
    (hf' : body.fails = false) (hn' : body.need = []) (hl' : body.lines = []) :
    State.load s c [] false u = (u.readDone core body).loadRead c (field c.bytes 32 8) body.bytes := by
  have hzero : (byteAt c.bytes 40).toNat = 0 := by rw [hflags]; rfl
  have hbit (i : Nat) : testN 0 i = false := by simp [testN]
  have hsmall : decide (4 ≤ 0) = false := rfl
  simp only [State.load, hbad, hzero, hbit, hsmall, hcore, hhead, hbody, hf, hgood, hf', readWaits_of_all hn hl, readWaits_of_all hn' hl', Bool.false_and,
    Bool.or_self, Bool.false_eq_true, if_false]
  rw [State.loadRead]
  cases imageBad false body.bytes <;> rfl

/-! The handle of a new image. -/

/-- The lowest free number is in no rising list, and within its length of where the search begins. -/
theorem firstFree_spec {α : Type} (l : List (Nat × α)) (hl : (l.map (·.1)).Pairwise (· < ·)) (n : Nat) :
    firstFree n l ∉ l.map (·.1) ∧ n ≤ firstFree n l ∧ firstFree n l ≤ n + l.length := by
  induction l generalizing n with
  | nil => exact ⟨List.not_mem_nil, le_refl n, le_refl n⟩
  | cons e l ih =>
    rw [List.map_cons, List.pairwise_cons] at hl
    obtain ⟨hlt, hl⟩ := hl
    rw [List.map_cons, List.mem_cons, List.length_cons, firstFree]
    split
    · obtain ⟨hout, hle, hub⟩ := ih hl n
      exact ⟨fun h => h.elim (by omega) hout, hle, by omega⟩
    · split
      · obtain ⟨hout, hle, hub⟩ := ih hl (n + 1)
        exact ⟨fun h => h.elim (by omega) hout, by omega, by omega⟩
      · exact ⟨fun h => h.elim (by omega) fun hm => by have := hlt _ hm; omega, le_refl n, by omega⟩

theorem freeNumber_free {α : Type} (s : State) {top : Nat} {used : List (Nat × α)} (hused : (used.map (·.1)).Pairwise (· < ·)) :
    (s.freeNumber top used).1 ∉ used.map (·.1) ∧ (used.length < top → (s.freeNumber top used).1 < top) := by
  have heq : (s.freeNumber top used).1 = if firstFree (s.draw.1.toNat % top) used < top then firstFree (s.draw.1.toNat % top) used else firstFree 0 used := rfl
  rw [heq]
  split
  next h => exact ⟨(firstFree_spec used hused _).1, fun _ => h⟩
  next => exact ⟨(firstFree_spec used hused 0).1, fun h => by have := (firstFree_spec used hused 0).2.2; omega⟩

/-- The handles, less 1, of the images of a list. -/
def takenHandles (mine : List Image) : List Nat := (List.range 65535).filter (fun i => mine.any (fun m => m.handle == i + 1))

theorem takenHandles_rising (mine : List Image) : (takenHandles mine).Pairwise (· < ·) := List.pairwise_lt_range.filter _

theorem length_takenHandles (mine : List Image) : (takenHandles mine).length ≤ mine.length := by
  have hnodup : (takenHandles mine).Nodup := (takenHandles_rising mine).imp Nat.ne_of_lt
  have hsub : takenHandles mine ⊆ mine.map (fun m => m.handle - 1) := fun i hi => by
    obtain ⟨m, hm, heq⟩ := List.any_eq_true.1 (List.mem_filter.1 hi).2
    exact List.mem_map.2 ⟨m, hm, by rw [beq_iff_eq.1 heq]; rfl⟩
  have hle := (hnodup.subperm hsub).length_le
  rwa [List.length_map] at hle

/-- The handle that a new image of a partition on one module takes, less 1. -/
def State.nextHandle (s : State) (part : Nat) : Nat × State :=
  s.ownNumber part 65535 (takenHandles (s.images.filter (fun m => m.part == part)))

theorem rank_of_alone {part : Nat} (h : Config.peerModules part = []) : s.rank part = (0, 1) := by
  rw [State.rank, h]
  rfl

theorem nextHandle_fresh {part : Nat} (h : Config.peerModules part = []) (hroom : (s.images.filter (fun m => m.part == part)).length < 65535) :
    ∀ m ∈ s.images.filter (fun m => m.part == part), m.handle ≠ (s.nextHandle part).1 + 1 := by
  have hone (i : Nat) : (i % 1 == 0) = true := by rw [Nat.mod_one]; rfl
  have hused : (takenHandles (s.images.filter (fun m => m.part == part))).filter (fun i => i % 1 == 0) = takenHandles (s.images.filter (fun m => m.part == part)) :=
    List.filter_eq_self.2 fun i _ => hone i
  have hkeys : (((takenHandles (s.images.filter (fun m => m.part == part))).map (fun i => (i / 1, ()))).map (·.1)) = takenHandles (s.images.filter (fun m => m.part == part)) := by
    rw [List.map_map]
    exact (List.map_congr_left fun i _ => Nat.div_one i).trans (List.map_id _)
  have heq : (s.nextHandle part).1 = (s.freeNumber 65535 ((takenHandles (s.images.filter (fun m => m.part == part))).map (fun i => (i / 1, ())))).1 := by
    rw [State.nextHandle, State.ownNumber, rank_of_alone h]
    dsimp only
    rw [hused, Nat.zero_add, Nat.one_mul]
  obtain ⟨hfree, hlt⟩ := freeNumber_free s (top := 65535) (used := (takenHandles (s.images.filter (fun m => m.part == part))).map (fun i => (i / 1, ())))
    (by rw [hkeys]; exact takenHandles_rising _)
  rw [← heq, hkeys] at hfree
  rw [← heq, List.length_map] at hlt
  have hbound := hlt (lt_of_le_of_lt (length_takenHandles _) hroom)
  intro m hm hh
  exact hfree (List.mem_filter.2 ⟨List.mem_range.2 hbound, List.any_eq_true.2 ⟨m, hm, beq_iff_eq.2 hh⟩⟩)

theorem storeFull_of_alone {part len : Nat} (h : Config.peerModules part = []) : s.storeFull part len =
    decide (Config.imageStore < ((s.images.filter (fun m => m.part == part)).map (·.bytes)).sum + len ∨ 65535 ≤ (s.images.filter (fun m => m.part == part)).length) := by
  have hall : (s.images.filter (fun m => m.part == part)).filter (fun m => (m.handle - 1) % 1 == 0) = s.images.filter (fun m => m.part == part) :=
    List.filter_eq_self.2 fun m _ => by rw [Nat.mod_one]; rfl
  rw [State.storeFull, rank_of_alone h]
  dsimp only
  rw [hall]

/-- What LOAD does once the image is good. -/
theorem install_frame (c : Command) (part : Nat) (img : Bytes) : (s.install c part false none img).mem = s.mem ∧
    (Config.peerModules part = [] → (s.install c part false none img).images = s.images ++ [s.imageOf part ((s.nextHandle part).1 + 1) false img] ∧
      (s.install c part false none img).commands = (decided s c 0 ((s.nextHandle part).1 + 1) 0).commands ∧
      (s.install c part false none img).agenda = s.agenda ++ [.completionRecord c.id]) := by
  have heq : s.install c part false none img = (if (Config.peerModules part).isEmpty then
        ((s.nextHandle part).2.enterImage part ((s.nextHandle part).1 + 1) false none img).outcomeOf c 0 ((s.nextHandle part).1 + 1) 0
      else State.tell { (s.nextHandle part).2.enterImage part ((s.nextHandle part).1 + 1) false none img with
          commands := s.commands.map (fun x => if x.id == c.id then { x with awaits := Config.peerModules part } else x) } part (Config.peerModules part)
        .image [c.id, (s.nextHandle part).1 + 1, bit false, 0] img) := rfl
  rw [heq]
  refine ⟨?_, fun h => ?_⟩
  · split
    · rfl
    · exact (tell_unmoved ..).mem
  · have hempty : (Config.peerModules part).isEmpty = true := by rw [h]; rfl
    rw [if_pos hempty, outcomeOf_eq]
    exact ⟨rfl, rfl, rfl⟩

/-! RUN. -/

/-- What RUN does with the buffer table and the adapter entry that it has read. -/
def State.runRead (s : State) (c : Command) (m : Image) (t : Template) (table : Bytes) : State :=
  match bufferBad t table with
  | some e => s.outcomeOf c e.1 e.2 0
  | none =>
    if !(Config.peerModules c.part).isEmpty && !s.locked then s.outcomeOf c 25 0 0
    else if (s.homesOf c.part).isEmpty then s.outcomeOf c 26 0 0
    else match s.instantiate c m t (field c.bytes 26 2) table (s.homesOf c.part) with
      | .error i => s.outcomeOf c 21 i 0
      | .ok s => s

section
variable (hbad : commandBad c.bytes ((List.range 5 |>.map (· + 24)) ++ (List.range 20 |>.map (· + 32))) = false) (hbind : (byteAt c.bytes 28).toNat ≤ 64)
  (halign : (fieldW c.bytes 32 8).toNat % 16 = 0)
include hbad hbind halign

theorem runCommand_of_noImage (hm : u.image c.part (field c.bytes 24 2) = none) : State.runCommand s c [] false u = u.outcomeOf c 18 0 0 := by
  have hbind' : decide (64 < (byteAt c.bytes 28).toNat) = false := decide_eq_false (Nat.not_lt.2 hbind)
  simp only [State.runCommand, hbad, hbind', halign, hm, bne_self_eq_false, Bool.or_self, Bool.false_eq_true, if_false]

theorem runCommand_of_read {m : Image} {t : Template} (hm : u.image c.part (field c.bytes 24 2) = some m) (ht : m.templates[field c.bytes 26 2]? = some t)
    {table entry : CoreRead} (htable : u.coreBytes (u.coreIssuer c.part c.queue) (fieldW c.bytes 32 8) (16 * (byteAt c.bytes 28).toNat) [] false = table)
    (hentry : u.adapterRead c.part c.queue c.bytes = entry) (hf : table.fails = false) (hn : table.need = []) (hl : table.lines = [])
    (hf' : entry.fails = false) (hn' : entry.need = []) (hl' : entry.lines = []) :
    State.runCommand s c [] false u =
      ((u.readDone (u.coreIssuer c.part c.queue) table).readDone (u.coreIssuer c.part c.queue 1) entry).runRead c m t table.bytes := by
  have hbind' : decide (64 < (byteAt c.bytes 28).toNat) = false := decide_eq_false (Nat.not_lt.2 hbind)
  simp only [State.runCommand, hbad, hbind', halign, hm, Option.bind_some, ht, htable, hentry, hf, hf', readWaits_of_all hn hl, readWaits_of_all hn' hl',
    bne_self_eq_false, Bool.or_self, Bool.false_eq_true, if_false]
  rw [State.runRead]
  cases bufferBad t table.bytes <;> rfl
end

/-! The records of an instance. -/

/-- Instances and commands stay as they are. -/
structure KeepsRuns (s u : State) : Prop where
  instances : u.instances = s.instances
  commands : u.commands = s.commands

theorem KeepsRuns.refl (s : State) : KeepsRuns s s := ⟨rfl, rfl⟩
theorem KeepsRuns.trans {s t u : State} (h : KeepsRuns s t) (h' : KeepsRuns t u) : KeepsRuns s u :=
  ⟨h'.instances.trans h.instances, h'.commands.trans h.commands⟩
theorem KeepsRuns.foldl {α : Type} {f : State → α → State} (hf : ∀ s a, KeepsRuns s (f s a)) (l : List α) (s : State) : KeepsRuns s (l.foldl f s) :=
  List.foldlRecOn l f (motive := KeepsRuns s) (.refl s) fun u hu a _ => hu.trans (hf u a)

theorem onTask_keepsRuns (s : State) (h : Word) (f : TaskRec → TaskRec) : KeepsRuns s (s.onTask h f) := by
  rw [State.onTask]
  split <;> exact ⟨rfl, rfl⟩

theorem writeArgs_keepsRuns (s : State) (h : Word) (bs : Bytes) : KeepsRuns s (s.writeArgs h bs) := ⟨rfl, rfl⟩

theorem onScope_keepsRuns (s : State) (key : Nat) (f : ScopeRec → ScopeRec) : KeepsRuns s (s.onScope key f) := by
  rw [State.onScope]
  split <;> exact ⟨rfl, rfl⟩

theorem addTask_keepsRuns {die : Nat} {r : TaskRec} {h : Word} (heq : s.addTask die r = some (h, u)) : KeepsRuns s u := by
  rw [State.addTask] at heq
  dsimp only at heq
  split at heq
  · cases heq
    exact ⟨rfl, rfl⟩
  · cases heq

theorem addScope_keepsRuns {part k : Nat} {r : ScopeRec} (heq : s.addScope part r = some (k, u)) : KeepsRuns s u := by
  rw [State.addScope] at heq
  dsimp only at heq
  split at heq
  · cases heq
    exact ⟨rfl, rfl⟩
  · cases heq

theorem copyScope_keepsRuns {part k : Nat} {h : Word} {r : ScopeRec} (heq : s.copyScope part h r = some (k, u)) : KeepsRuns s u := by
  rw [State.copyScope] at heq
  split at heq
  · cases heq
    exact ⟨rfl, rfl⟩
  · cases heq

/-- A fold that adds one result for each element, and stops at the first that fails. -/
theorem foldl_collects {α β : Type} {f : Except Nat (List β × State) → α → Except Nat (List β × State)}
    (hstep : ∀ acc a hs w, f acc a = .ok (hs, w) → ∃ hs' w', acc = .ok (hs', w') ∧ KeepsRuns w' w ∧ hs.length = hs'.length + 1) (l : List α)
    (acc : Except Nat (List β × State)) {hs : List β} {w : State} (h : l.foldl f acc = .ok (hs, w)) :
    ∃ hs' w', acc = .ok (hs', w') ∧ KeepsRuns w' w ∧ hs.length = hs'.length + l.length := by
  induction l generalizing acc with
  | nil => exact ⟨hs, w, h, .refl w, rfl⟩
  | cons a l ih =>
    obtain ⟨hs₁, w₁, h₁, hkeep₁, hlen₁⟩ := ih _ h
    obtain ⟨hs₂, w₂, h₂, hkeep₂, hlen₂⟩ := hstep _ _ _ _ h₁
    exact ⟨hs₂, w₂, h₂, hkeep₂.trans hkeep₁, by rw [hlen₁, hlen₂, List.length_cons]; omega⟩

theorem addNodes_frame {m : Image} {t : Template} {run : Run} {args : List Bytes} {hs : List Word} (h : s.addNodes m t run args = .ok (hs, u)) :
    KeepsRuns s u ∧ hs.length = t.nodes.length := by
  rw [State.addNodes] at h
  obtain ⟨hs', w', hok, hkeep, hlen⟩ := foldl_collects (fun acc a hs w hstep => by
    cases acc with
    | error i => cases hstep
    | ok e =>
      obtain ⟨hs₀, w₀⟩ := e
      dsimp only at hstep
      split at hstep
      · cases hstep
        exact ⟨_, _, rfl, .refl _, List.length_append⟩
      · split at hstep
        · cases hstep
        next heq =>
          cases hstep
          exact ⟨_, _, rfl, (addTask_keepsRuns heq).trans ((writeArgs_keepsRuns ..).trans (onTask_keepsRuns ..)), List.length_append⟩) _ _ h
  cases hok
  exact ⟨hkeep, by rw [hlen, List.length_zipIdx]; exact Nat.zero_add _⟩

theorem addScopes_frame {part : Nat} {t : Template} {run : Run} {keys : List Nat} (h : s.addScopes part t run = .ok (keys, u)) :
    KeepsRuns s u ∧ keys.length = t.scopes.length := by
  rw [State.addScopes] at h
  obtain ⟨hs', w', hok, hkeep, hlen⟩ := foldl_collects (fun acc a hs w hstep => by
    cases acc with
    | error i => cases hstep
    | ok e =>
      obtain ⟨hs₀, w₀⟩ := e
      dsimp only at hstep
      split at hstep
      · cases hstep
      next heq =>
        cases hstep
        refine ⟨_, _, rfl, ?_, List.length_append⟩
        split at heq
        · exact copyScope_keepsRuns heq
        · exact addScope_keepsRuns heq) _ _ h
  cases hok
  exact ⟨hkeep, by rw [hlen, List.length_zipIdx]; exact Nat.zero_add _⟩

/-- The record of a node learns its scope and its leader. -/
def State.scopeNode (t : Template) (nodes : List Word) (keys : List Nat) (s : State) (e : Word × Nat) : State :=
  match t.nodes[e.2]? with
  | some n => s.onTask e.1 (fun r => { r with
      scope := keys.getD n.scope 0
      leader := if n.member then handleEntry (nodes.getD (t.homeNode e.2) 0) else 0 })
  | none => s

theorem scopeNode_keepsRuns (t : Template) (nodes : List Word) (keys : List Nat) (s : State) (e : Word × Nat) : KeepsRuns s (s.scopeNode t nodes keys e) := by
  rw [State.scopeNode]
  split
  · exact onTask_keepsRuns ..
  · exact .refl s

theorem createRecords_frame {m : Image} {t : Template} {run : Run} {cmd : Nat} {table : Bytes} {i : Instance} (h : s.createRecords m t run cmd table = .ok (i, u)) :
    u.instances = s.instances ++ [i] ∧ u.commands = s.commands ∧ i.part = m.part ∧ i.serial = run.serial ∧ i.cmd = cmd ∧
      i.nodes.length = t.nodes.length ∧ i.scopes.length = t.scopes.length := by
  rw [State.createRecords] at h
  dsimp only at h
  split at h
  · cases h
  next nodes w hnodes =>
    obtain ⟨hkeep, hlen⟩ := addNodes_frame hnodes
    split at h
    · cases h
    next keys w' hkeys =>
      obtain ⟨hkeep', hlen'⟩ := addScopes_frame hkeys
      cases h
      have hscoped : KeepsRuns s (nodes.zipIdx.foldl (State.scopeNode t nodes keys) w') :=
        (hkeep.trans hkeep').trans (.foldl (fun v e => scopeNode_keepsRuns t nodes keys v e) _ _)
      refine ⟨?_, hscoped.commands, rfl, rfl, rfl, hlen, ?_⟩
      · exact congrArg (· ++ _) hscoped.instances
      · exact (List.length_map ..).trans hlen'

/-! The start of an instance. -/

theorem resetDeficits_keepsRuns (s : State) (die part queue cls : Nat) : KeepsRuns s (s.resetDeficits die part queue cls) := by
  rw [State.resetDeficits]
  dsimp only
  split <;> split <;> exact ⟨rfl, rfl⟩

theorem postTask_keepsRuns (s : State) (h : Word) : KeepsRuns s (s.postTask h) := by
  rw [State.postTask]
  split
  · exact ((resetDeficits_keepsRuns ..).trans (onTask_keepsRuns ..)).trans ⟨rfl, rfl⟩
  · exact .refl s

theorem wakeScope_keepsRuns (s : State) (key : Nat) : KeepsRuns s (s.wakeScope key) := by
  rw [State.wakeScope]
  split
  · split <;> exact ⟨rfl, rfl⟩
  · exact .refl s

/-- An instance that has started. -/
def Instance.started (i : Instance) : Instance := { i with starting := false }

/-- A task whose counter is 0 is posted. -/
def State.postReady (s : State) (h : Word) : State :=
  match s.taskOf h with
  | some r => if r.count = 0 && !r.member then s.postTask h else s
  | none => s

theorem postReady_keepsRuns (s : State) (h : Word) : KeepsRuns s (s.postReady h) := by
  rw [State.postReady]
  split
  · split
    · exact postTask_keepsRuns ..
    · exact .refl s
  · exact .refl s

/-- The scopes of an instance learn their openers. -/
def State.nameOpener (keys : List Nat) (nodes : List Word) (s : State) (e : Option Nat × Nat) : State :=
  match e.1 with
  | some o => s.onScope (keys.getD e.2 0) (fun r => { r with opener := nodes.getD o 0 })
  | none => s

theorem nameOpener_keepsRuns (keys : List Nat) (nodes : List Word) (s : State) (e : Option Nat × Nat) : KeepsRuns s (s.nameOpener keys nodes e) := by
  rw [State.nameOpener]
  split
  · exact onScope_keepsRuns ..
  · exact .refl s

theorem startInstance_frame {part serial : Nat} (h : (s.instanceOf part serial).isSome = true) :
    (s.startInstance part serial).instances = s.instances.map (fun i => if i.part == part && i.serial == serial then i.started else i) ∧
      (s.startInstance part serial).commands = s.commands := by
  obtain ⟨i, hi⟩ := Option.isSome_iff_exists.1 h
  obtain ⟨keys, owners, f, root, heq⟩ : ∃ (keys : List Nat) (owners : List (Option Nat × Nat)) (f : Partition → Partition) (root : Nat), s.startInstance part serial = ((i.nodes.foldl State.postReady
      (((owners.foldl (State.nameOpener keys i.nodes) s).onInstance part serial Instance.started).onPart part f)).onScope root
        (fun r => { r with sealed_ := true })).wakeScope root := by
    rw [State.startInstance, hi]
    exact ⟨_, _, _, _, rfl⟩
  have hopen : KeepsRuns s (owners.foldl (State.nameOpener keys i.nodes) s) := .foldl (nameOpener_keepsRuns keys i.nodes) _ _
  have hrest := ((KeepsRuns.foldl postReady_keepsRuns i.nodes
    (((owners.foldl (State.nameOpener keys i.nodes) s).onInstance part serial Instance.started).onPart part f)).trans
      (onScope_keepsRuns _ root fun r => { r with sealed_ := true })).trans (wakeScope_keepsRuns _ root)
  rw [heq]
  exact ⟨hrest.instances.trans (congrArg (List.map _) hopen.instances), hrest.commands.trans hopen.commands⟩

/-- The instance that RUN creates. -/
theorem instantiate_frame {m : Image} {t : Template} {ti : Nat} {table : Bytes} {homes : List (Nat × Nat)} {x : State}
    (h : s.instantiate c m t ti table homes = .ok x) (hstarted : ∀ i ∈ s.instances, i.part = m.part → i.starting = false) :
    ∃ i, x.instances = s.instances ++ [i] ∧ x.commands = s.commands ∧ i.cmd = c.id ∧ i.part = m.part ∧ i.serial = (s.part m.part).nextSerial.toNat ∧
      i.nodes.length = t.nodes.length ∧ i.scopes.length = t.scopes.length := by
  rw [State.instantiate] at h
  dsimp only at h
  split at h
  · cases h
  next i w hmade =>
    obtain ⟨hinst, hcmds, hpart, hserial, hcmd, hnodes, hscopes⟩ := createRecords_frame hmade
    split at h
    · obtain ⟨hinst', hcmds'⟩ := startInstance_frame (s := w) (part := i.part) (serial := i.serial) (by
        rw [State.instanceOf, List.find?_isSome]
        exact ⟨i, by rw [hinst]; exact List.mem_append_right _ (List.mem_singleton_self i), by rw [beq_self_eq_true, beq_self_eq_true]; rfl⟩)
      cases h
      refine ⟨i.started, ?_, hcmds'.trans hcmds, hcmd, hpart, hserial, hnodes, hscopes⟩
      rw [hinst', hinst, List.map_append, List.map_singleton, beq_self_eq_true, beq_self_eq_true]
      refine congrArg (· ++ [i.started]) ((List.map_congr_left fun j hj => ?_).trans (List.map_id _))
      split
      next hc =>
        rw [Bool.and_eq_true, beq_iff_eq, hpart] at hc
        have hfalse := hstarted j hj hc.1
        rw [Instance.started, ← hfalse]
        rfl
      next => rfl
    · cases h
      exact ⟨i, (tell_unmoved ..).instances.trans hinst, (tell_unmoved ..).commands.trans hcmds, hcmd, hpart, hserial, hnodes, hscopes⟩

end

section
variable {s u : State} {n op : Nat} {c : Command}

/-- The homes of a partition that has a die on this module. -/
theorem homesOf_ne_nil {part : Nat} (h : s.diesOf part ≠ []) (hpkg : s.mgmt.package < 1024) : (s.homesOf part).isEmpty = false := by
  obtain ⟨d, hd⟩ := List.exists_mem_of_ne_nil _ h
  have hmine : (s.mgmt.package, d) ∈ (s.diesOf part).map (fun d => (s.mgmt.package, d)) := List.mem_map.2 ⟨d, hd, rfl⟩
  rw [List.isEmpty_eq_false_iff]
  refine List.ne_nil_of_mem (a := (s.mgmt.package, d)) ?_
  rw [State.homesOf]
  split
  · exact hmine
  · exact List.mem_flatMap.2 ⟨s.mgmt.package, List.mem_range.2 hpkg, by rw [if_pos rfl]; exact hmine⟩

theorem homesOf_of_alone {part : Nat} (h : s.diesOf part = []) (hpeers : Config.peerModules part = []) : (s.homesOf part).isEmpty = true := by
  rw [State.homesOf, h, hpeers]
  rfl

theorem nopCommand_decides (h : Admits s n op c u) (hop : op < 2 ∨ 5 < op) :
    Gives (.nopCommand n) s (decided u c (if byteAt c.bytes 0 = 1 ∧ !commandBad c.bytes [] then 0 else 16) 0 0) := by
  refine congrArg Host.Outcome.next ((command_of_admits h ?_).trans (outcomeOf_eq ..))
  rw [Bool.or_eq_true, decide_eq_true_eq, decide_eq_true_eq]
  exact hop

theorem runGraph_of_admits (h : Admits s n 4 c u) (hstarted : ∀ i ∈ s.instances, i.part = c.part → i.starting = false)
    (hagain : ∀ x ∈ s.commands, x.queue = n → x.again = false) : Gives (.runGraph n [] false) s (State.runCommand s c [] false u) := by
  obtain ⟨-, hpart, -⟩ := take_some h.1
  have hidle : s.instances.any (fun i => i.part == (s.queue n).part && i.starting) = false := by
    rw [List.any_eq_false]
    intro i hi hc
    rw [Bool.and_eq_true, beq_iff_eq, ← hpart] at hc
    rw [hstarted i hi hc.1] at hc
    exact Bool.false_ne_true hc.2
  have hfresh : s.commands.find? (fun c => c.queue == n && c.again) = none := List.find?_eq_none.2 fun x hx hc => by
    rw [Bool.and_eq_true, beq_iff_eq] at hc
    rw [hagain x hx hc.1] at hc
    exact Bool.false_ne_true hc.2
  have hexec : exec (.runGraph n [] false) s = execRunGraph n [] false s := rfl
  rw [Gives, hexec, execRunGraph]
  rw [hidle, if_neg Bool.false_ne_true, hfresh]
  exact congrArg Host.Outcome.next (command_of_admits h rfl)

theorem unloadImage_of_admits (h : Admits s n op c u) (hop : op = 3) : exec (.unloadImage n) s = .next (State.unload c u) :=
  congrArg Host.Outcome.next (command_of_admits h (beq_iff_eq.2 hop))
theorem cancelCommand_of_admits (h : Admits s n op c u) (hop : op = 5) : exec (.cancelCommand n) s = .next (State.cancelInstance c u) :=
  congrArg Host.Outcome.next (command_of_admits h (beq_iff_eq.2 hop))
theorem loadImage_of_admits (h : Admits s n op c u) (hop : op = 2) : exec (.loadImage n [] false) s = .next (State.load s c [] false u) :=
  congrArg Host.Outcome.next (command_of_admits h (beq_iff_eq.2 hop))

theorem unload_of_present (hgood : commandBad c.bytes [24, 25] = false) (hsome : s.image c.part (field c.bytes 24 2) ≠ none) :
    State.unload c s = if s.imageBusy c.part (field c.bytes 24 2) then s.outcomeOf c 22 0 0
      else ((s.dropImage c.part (field c.bytes 24 2)).tell c.part (Config.peerModules c.part) .unload [field c.bytes 24 2]).outcomeOf c 0 0 0 := by
  rw [State.unload, hgood, if_neg Bool.false_ne_true]
  exact if_neg fun h => hsome (Option.isNone_iff_eq_none.1 h)

theorem scope_of_active {key : Nat} (h : s.scopeState key = .active) : ∃ r, s.scope key = some r ∧ r.state = .active := by
  rw [State.scopeState] at h
  cases hr : s.scope key with
  | none => rw [hr] at h; cases h
  | some r => rw [hr] at h; exact ⟨r, rfl, h⟩

end

/-- Settles O41: each command by what it does once it has been taken and its reads are done. -/
theorem commands : Obligations.Commands := by
  intro s u n op c hadmit
  obtain ⟨htake, hop⟩ := id hadmit
  refine ⟨fun h1 hgood => ?_, fun h => ?_, fun h3 hgood => ⟨fun hnone => ?_, fun hsome hbusy => ?_, fun hsome hidle => ?_⟩,
    fun h5 hgood => ⟨fun hnone => ?_, fun i key hi hkey hactive => ?_⟩, fun h2 hgood hflags => ?_, fun h4 hstarted hagain hgood hbind halign => ?_⟩
  · have hgives := nopCommand_decides hadmit (.inl (by omega))
    rw [if_pos ⟨BitVec.eq_of_toNat_eq (hop.trans h1), by rw [hgood]; rfl⟩] at hgives
    exact hgives
  · have hgives := nopCommand_decides hadmit (by omega)
    rw [if_neg (fun hc => by rw [hc.1] at hop; change 1 = op at hop; omega)] at hgives
    exact hgives
  · refine (unloadImage_of_admits hadmit h3).trans (congrArg Host.Outcome.next (Eq.trans ?_ (outcomeOf_eq ..)))
    rw [State.unload, hgood, if_neg Bool.false_ne_true, hnone]
    rfl
  · refine (unloadImage_of_admits hadmit h3).trans (congrArg Host.Outcome.next (Eq.trans ?_ (outcomeOf_eq ..)))
    rw [unload_of_present hgood hsome]
    obtain ⟨i, hi, hpart, himage⟩ := hbusy
    exact if_pos (List.any_eq_true.2 ⟨i, hi, by rw [hpart, himage, beq_self_eq_true, beq_self_eq_true]; rfl⟩)
  · have hfree : u.imageBusy c.part (field c.bytes 24 2) = false := List.any_eq_false.2 fun i hi hc => by
      rw [Bool.and_eq_true, beq_iff_eq, beq_iff_eq] at hc
      exact hidle i hi hc.1 hc.2
    have heq := unload_of_present (s := u) hgood hsome
    rw [hfree, if_neg Bool.false_ne_true, outcomeOf_eq] at heq
    have htell := tell_unmoved (u.dropImage c.part (field c.bytes 24 2)) c.part (Config.peerModules c.part) .unload [field c.bytes 24 2] []
    obtain ⟨hmem, hslots, hcommands, hagenda⟩ := dropImage_keeps u c.part (field c.bytes 24 2)
    refine ⟨_, (unloadImage_of_admits hadmit h3).trans (congrArg Host.Outcome.next heq), ?_, htell.mem.trans hmem, htell.slots.trans hslots,
      congrArg (List.map _) (htell.commands.trans hcommands), congrArg (· ++ _) (htell.agenda.trans hagenda)⟩
    exact (congrArg (fun l : List Image => l.find? _) htell.images).trans (image_dropImage ..)
  · refine (cancelCommand_of_admits hadmit h5).trans (congrArg Host.Outcome.next (Eq.trans ?_ (outcomeOf_eq ..)))
    rw [State.cancelInstance, hgood, if_neg Bool.false_ne_true, hnone]
    rfl
  · have heq : State.cancelInstance c u = u.cancelScope key 1 := by
      rw [State.cancelInstance, hgood, if_neg Bool.false_ne_true, hi, Option.bind_some, hkey]
      exact if_pos (by rw [hactive]; rfl)
    obtain ⟨r, hr, hstate⟩ := scope_of_active hactive
    obtain ⟨htold, hstates, -⟩ := cancelScope_frame (cause := 1) hr hstate
    refine ⟨_, (cancelCommand_of_admits hadmit h5).trans (congrArg Host.Outcome.next heq), ?_, cancelScope_commands .., htold.mem⟩
    exact (hstates key hactive).trans (if_pos (below_refl u 32 key))
  · dsimp only
    intro hf hn hl hheader hf' hn' hl'
    have hload := (loadImage_of_admits hadmit h2).trans (congrArg Host.Outcome.next (load_of_read (s := s) hgood hflags rfl rfl rfl hf hn hl hheader hf' hn' hl'))
    have hread := readDone_unmoved u (u.coreIssuer c.part c.queue) (u.coreBytes (u.coreIssuer c.part c.queue) (fieldW c.bytes 24 8) (field c.bytes 32 8) [] false)
    generalize u.coreBytes (u.coreIssuer c.part c.queue) (fieldW c.bytes 24 8) (field c.bytes 32 8) [] false = body at hload hread ⊢
    generalize u.readDone (u.coreIssuer c.part c.queue) body = v at hload hread ⊢
    refine ⟨fun i hi => ?_, fun hi => ?_⟩
    · rw [State.loadRead, hi] at hload
      exact hload.trans (congrArg Host.Outcome.next (outcomeOf_eq ..))
    · rw [State.loadRead, hi] at hload
      obtain ⟨hmem, halone⟩ := install_frame (s := v) c c.part body.bytes
      refine ⟨if v.storeFull c.part (field c.bytes 32 8) then v.outcomeOf c 24 0 0 else v.install c c.part false none body.bytes, hload, ?_, ?_⟩
      · split
        · exact hread.mem
        · exact hmem.trans hread.mem
      · by_cases hpeers : Config.peerModules c.part = []
        · refine .inr ?_
          obtain ⟨himages, hcommands, hagenda⟩ := halone hpeers
          have hmine : v.images.filter (fun m => m.part == c.part) = u.images.filter (fun m => m.part = c.part) := by rw [hread.images]; rfl
          rw [storeFull_of_alone hpeers, hmine]
          split
          next hfull => exact (if_pos (decide_eq_true hfull)).trans (outcomeOf_eq ..)
          next hroom =>
            obtain ⟨-, hfew⟩ := not_or.1 hroom
            have hfresh := nextHandle_fresh (s := v) hpeers (by rw [hmine]; exact Nat.not_le.1 hfew)
            rw [hmine] at hfresh
            rw [if_neg (by rw [decide_eq_false hroom]; exact Bool.false_ne_true)]
            refine ⟨_, hfresh, Nat.succ_pos _, himages.trans (congrArg (· ++ _) hread.images), ?_, hagenda.trans (congrArg (· ++ _) hread.agenda)⟩
            exact hcommands.trans (congrArg (List.map _) hread.commands)
        · exact .inl hpeers
  · obtain rfl := h4
    have hrun := runGraph_of_admits hadmit hstarted hagain
    refine ⟨fun hnone => ?_, fun m t hm ht => ?_⟩
    · rw [runCommand_of_noImage hgood hbind halign hnone, outcomeOf_eq] at hrun
      exact hrun
    · dsimp only
      intro hf hn hl hf' hn' hl' hlocked hq
      rw [runCommand_of_read hgood hbind halign hm ht rfl rfl hf hn hl hf' hn' hl'] at hrun
      have hread := (readDone_unmoved u (u.coreIssuer c.part c.queue) (u.coreBytes (u.coreIssuer c.part c.queue) (fieldW c.bytes 32 8)
        (16 * (byteAt c.bytes 28).toNat) [] false)).trans (readDone_unmoved _ (u.coreIssuer c.part c.queue 1) (u.adapterRead c.part c.queue c.bytes))
      generalize (u.readDone (u.coreIssuer c.part c.queue) (u.coreBytes (u.coreIssuer c.part c.queue) (fieldW c.bytes 32 8)
        (16 * (byteAt c.bytes 28).toNat) [] false)).readDone (u.coreIssuer c.part c.queue 1) (u.adapterRead c.part c.queue c.bytes) = v at hrun hread ⊢
      generalize (u.coreBytes (u.coreIssuer c.part c.queue) (fieldW c.bytes 32 8) (16 * (byteAt c.bytes 28).toNat) [] false).bytes = table at hrun ⊢
      have hready : (!(Config.peerModules c.part).isEmpty && !v.locked) = false := by rw [hread.locked, hlocked, Bool.not_true, Bool.and_false]
      refine ⟨fun e he => ?_, fun hgoodb hdies => ?_, fun hgoodb hdies hpkg => ⟨fun i hmade => ?_, fun x hmade => ?_⟩⟩
      · rw [State.runRead, he] at hrun
        exact hrun.trans (congrArg Host.Outcome.next (outcomeOf_eq ..))
      · by_cases hpeers : Config.peerModules c.part = []
        · rw [State.runRead, hgoodb, hready, homesOf_of_alone hdies hpeers] at hrun
          exact .inr (hrun.trans (congrArg Host.Outcome.next (outcomeOf_eq ..)))
        · exact .inl hpeers
      · rw [State.runRead, hgoodb, hready, homesOf_ne_nil hdies (by rw [hread.mgmt]; exact hpkg), hmade] at hrun
        exact hrun.trans (congrArg Host.Outcome.next (outcomeOf_eq ..))
      · rw [State.runRead, hgoodb, hready, homesOf_ne_nil hdies (by rw [hread.mgmt]; exact hpkg), hmade] at hrun
        have hpart : m.part = c.part := by
          have hm' := List.find?_some hm
          rw [Bool.and_eq_true, beq_iff_eq] at hm'
          exact hm'.1
        obtain ⟨i, hinst, hcmds, hcmd, hip, hserial, hnodes, hscopes⟩ := instantiate_frame hmade (by
          rw [hread.instances, (take_some htake).2.2, hpart]
          exact hstarted)
        exact ⟨hrun, i, hinst.trans (congrArg (· ++ [i]) hread.instances), hcmd, hip, hserial, hnodes, hscopes, hcmds.trans hread.commands⟩

end Sys2Proof.Machine

namespace Sys2Proof.Machine

open Sys2Proof.Claims

set_option Elab.async false

/-! ## SLOT.SAVE (spec/13 R281, R283) -/

/-- The handle of a second task. -/
def secondTask : Word := taskHandle 0 0 1 1

/-- An image whose kernel saves the receiving endpoint of channel 0. -/
def savingImage (i : Image) : Image := { i with kernels := i.kernels.map (fun k => { k with save := { Grant.none with ch := 1 } }) }

/-- A system task in slot 0 and, in slot 1 of its tile, a task that receives on channel 0 from a tile of package 1; the partition saves at 0x10000, where the
home TLB maps every page. -/
def savedReceiver : State :=
  let s := State.reset.placeWord 0xF1000000
  let s := (s.onRecord 0 1 (fun _ => { s.record 0 0 with loc := some 1 })).onSlot 1 (fun _ => { me s with task := secondTask })
  let s := s.onSlot 0 (fun t => t.setX 6 secondTask)
  let s := s.onPart 0 (fun p => { p with savebase := 0x10000, savesize := 0x100000, ptwin := 0x10000000000 })
  let s := s.onDie 0 (fun d => { d with homeTlb := { d.homeTlb with entries := [{ part := 0, home := 0, w0 := 13, w1 := 0x600, w2 := 0 }] } })
  let s := s.onChan 0 0 (fun e => { e with side := .receiver, peer := some (1, 0, 0) })
  { s with images := s.images.map savingImage }

/-- The message to package 1 takes a number too. -/
theorem nextId_slotSave : (match exec (.slotSave 5 6) savedReceiver with
    | .next t => t.nextId
    | _ => 0) = 3 := by decide +kernel

/-- Refutes O40: a save begins with a message to the package of a channel's sender, and the message takes a number after the request's; the statement has
the request take the only one. -/
theorem not_saveAndRestore : ¬ Obligations.SaveAndRestore := by
  intro h
  obtain ⟨hsave, -⟩ := h savedReceiver 5 6 0
  have hport : PortFree savedReceiver false := ⟨by decide +kernel, by decide +kernel, by decide +kernel, by decide +kernel, fun h => absurd h Bool.false_ne_true⟩
  have hready : Ready savedReceiver { privileged := true } [6, 5] := ⟨by decide +kernel, by decide +kernel⟩
  obtain ⟨-, hbegins, -⟩ := hsave hready hport
  have hruns : RunsAt savedReceiver ((me savedReceiver).x 6) (savedReceiver.record 0 1) 1 := ⟨by decide +kernel, by decide +kernel, by decide +kernel, by decide +kernel, by decide +kernel, by decide +kernel⟩
  obtain ⟨t, hgives, ⟨-, -, hnext, -⟩, -⟩ := hbegins _ 1 0x10000 hruns (by decide +kernel) (by decide) (by decide +kernel) (by decide +kernel) (by decide +kernel)
    (by decide +kernel) (by decide +kernel)
  have hthree := nextId_slotSave
  rw [Gives] at hgives
  rw [hgives] at hthree
  have htwo : t.nextId = 2 := hnext
  exact absurd (htwo.symm.trans hthree) (by decide)

end Sys2Proof.Machine

namespace Sys2Proof.Machine

open Sys2Proof.Claims

set_option Elab.async false

/-! ## System instructions (spec/13 R267, R273, R281; spec/17 R362, R364, R365) -/

section
variable {s : State} {a b d : Reg}

/-! IDLE and TLB.INV. -/

theorem idle_gives {k : Kernel} (hk : s.slotKernel s.cur = some k) (hr : Ready s { privileged := true } []) :
    Gives .idle s (if k.inbox then blockedIn s (.idle (s.tile (s.cur / 4)).inbox.msgEnds) else s.takeTrap s.cur 1 (s.wordAt (me s))) := by
  have hexec := execIdle.eq_1 s
  cases hi : k.inbox with
  | true => exact gives_of_done (i := .idle) hexec hr (by rw [hk]; exact if_pos hi)
  | false => exact gives_of_trap (i := .idle) hexec hr (by rw [hk]; exact if_neg (Bool.eq_false_iff.1 hi))

theorem testW_of_bits (v : Word) (i : Nat) : testW v i = (bits v i i != 0) := by
  rw [testW, testN, bits, bitsN, Nat.add_sub_cancel_left, pow_one]
  rcases Nat.mod_two_eq_zero_or_one (v.toNat / 2 ^ i) with h | h <;> rw [h] <;> rfl

/-- The reserved fields of TLB.INV's operand. -/
def tlbInvBad (how : Word) : Bool := bits how 63 8 != 0 || bits how 3 2 != 0 || bits how 1 0 == 3

theorem tlbInvBad_eq (how : Word) : tlbInvBad how = true ↔ how &&& ~~~0xF3 ≠ 0 ∨ how.toNat % 4 = 3 := by
  have hmask := reserved_clear_iff (m := 0xF3) (fields := [(63, 8), (3, 2)]) (by decide) how
  rw [List.forall_mem_cons, List.forall_mem_singleton] at hmask
  have hlow : bits how 1 0 = how.toNat % 4 := bits_low how 1
  rw [tlbInvBad, Bool.or_eq_true, Bool.or_eq_true, bne_iff_ne, bne_iff_ne, beq_iff_eq, hlow, ne_eq (how &&& _), hmask, not_and_or]

theorem tlbInv_refuses (hr : Ready s { privileged := true } [a, b]) (h : tlbInvBad ((me s).x b) = true) :
    Gives (.tlbInv a b) s (s.takeTrap s.cur 1 (s.wordAt (me s))) :=
  gives_of_trap (i := .tlbInv a b) (execTlbInv.eq_1 a b s) hr (if_pos h)

theorem tlbInv_faults (hr : Ready s { privileged := true } [a, b]) (h : tlbInvBad ((me s).x b) = false) (hone : ((me s).x b).getLsbD 4 = false)
    (hva : 2 ^ 56 ≤ ((me s).x a).toNat) : Gives (.tlbInv a b) s (s.takeTrap s.cur 4 ((me s).x a)) := by
  have hhigh : bits ((me s).x a) 63 56 ≠ 0 := by
    rw [bits, bitsN]
    have := ((me s).x a).isLt
    omega
  have htest : testW ((me s).x b) 4 = false := (testN_toNat _ _).trans hone
  refine gives_of_trap (i := .tlbInv a b) (execTlbInv.eq_1 a b s) hr ((if_neg (Bool.eq_false_iff.1 h)).trans (if_pos ?_))
  rw [htest, bne_iff_ne.2 hhigh]
  rfl

/-- A home has advanced, and its invalidations are on their way to TLBs. -/
def State.advanced (s : State) (g part home : Nat) (va how : Word) (tlbs : List Nat) : State :=
  ((s.advanceHome part home va how).invalidate g part home (some ((s.advanceHome part home va how).gen home part)) va how tlbs).post (.parkedRetry part home)

/-- What TLB.INV does once its checks have passed and its earlier accesses have been performed: `all` are the TLBs of the module's tiles and engines. -/
def State.tlbInvScope (s : State) (all : List Nat) (how va : Word) (t : Slot) : Issue :=
  if bits how 1 0 < 2 then
    let tlbs := if bits how 1 0 = 0 then [tileOfSlot s.cur] else dieTlbs (dieOf (tileOfSlot s.cur)) true
    .done ((s.block s.cur (.tlb tlbs)).invalidate s.cur t.part 0 none va how tlbs)
  else
    let homes := if testW how 4 then [0, 1, 2, 3] else [shardOf va]
    let peers := Config.peerModules t.part
    let u := s.block s.cur (.tlb (homes.flatMap (fun h => all.map (· + 1024 * h)) ++ peers.map (· + 8192)))
    let u := homes.foldl (fun u h => u.advanced s.cur t.part h va how all) u
    .done (peers.foldl (fun u k => u.sendPacket
      (ctlPacket 0x09 (u.slotSource s.cur) t.part k va how (toBytes 8 (u.slot s.cur).waitSerial))) u)

theorem tlbInv_scope (h : tlbInvBad ((me s).x b) = false) (hva : ((me s).x b).getLsbD 4 = true ∨ ((me s).x a).toNat < 2 ^ 56)
    (hacc : s.accessesPerformed s.cur = true) (hacq : s.acquirePending s.cur = false) :
    ∃ body, exec (.tlbInv a b) s = s.issue { privileged := true } [a, b] body ∧ ∃ all, body (me s) = s.tlbInvScope all ((me s).x b) ((me s).x a) (me s) := by
  refine ⟨_, execTlbInv.eq_1 a b s, [0, 1, 2, 3].flatMap (fun d => dieTlbs d false), (if_neg (Bool.eq_false_iff.1 h)).trans ((if_neg ?_).trans ((if_neg ?_).trans rfl))⟩
  · have htest : testW ((me s).x b) 4 = ((me s).x b).getLsbD 4 := testN_toNat _ _
    rw [htest]
    rcases hva with h4 | hlt
    · rw [h4]; exact Bool.false_ne_true
    · have hzero : bits ((me s).x a) 63 56 = 0 := by rw [bits, bitsN, Nat.div_eq_of_lt hlt]; rfl
      rw [hzero, Bool.and_eq_true]
      exact fun hc => absurd hc.2 Bool.false_ne_true
  · rw [hacc, hacq]
    exact Bool.false_ne_true

/-- A message that invalidates is posted: memory and dies stay, and the slot waits on. -/
theorem invalidate_frame (s : State) (g part home : Nat) (gen : Option Nat) (va how : Word) (tlbs : List Nat) :
    (s.invalidate g part home gen va how tlbs).mem = s.mem ∧ (s.invalidate g part home gen va how tlbs).slots = s.slots ∧
      (s.invalidate g part home gen va how tlbs).dies = s.dies :=
  List.foldlRecOn tlbs _ (motive := fun u : State => u.mem = s.mem ∧ u.slots = s.slots ∧ u.dies = s.dies) ⟨rfl, rfl, rfl⟩ fun _ hu _ _ => hu

theorem sendAll_told {α : Type} (f : State → α → Packet) (l : List α) (s : State) : Told s (l.foldl (fun u k => u.sendPacket (f u k)) s) :=
  .foldl (fun u _ => sendPacket_told u _) l s

theorem advanced_frame (s : State) (g part home : Nat) (va how : Word) (tlbs : List Nat) : (s.advanced g part home va how tlbs).mem = s.mem ∧
    (s.advanced g part home va how tlbs).slots = s.slots ∧ (s.advanced g part home va how tlbs).dies = (s.advanceHome part home va how).dies :=
  invalidate_frame (s.advanceHome part home va how) g part home _ va how tlbs

/-- TLB.INV of scope 2 for one address: the home's GEN advances. -/
theorem tlbInvScope_home {all : List Nat} {how va : Word} (h2 : bits how 1 0 = 2) (h4 : testW how 4 = false) : ∃ t, s.tlbInvScope all how va (me s) = .done t ∧
    t.mem = s.mem ∧ (t.slot s.cur).state = .blocked ∧ t.dies = (s.advanceHome (me s).part (shardOf va) va how).dies := by
  obtain ⟨u, hu⟩ : ∃ u, u = s.block s.cur (.tlb ([shardOf va].flatMap (fun h => all.map (· + 1024 * h)) ++ (Config.peerModules (me s).part).map (· + 8192))) :=
    ⟨_, rfl⟩
  have hsent := sendAll_told (fun u k => ctlPacket 0x09 (u.slotSource s.cur) (me s).part k va how (toBytes 8 (u.slot s.cur).waitSerial))
    (Config.peerModules (me s).part) (u.advanced s.cur (me s).part (shardOf va) va how all)
  obtain ⟨hmem, hslots, hdies⟩ := advanced_frame u s.cur (me s).part (shardOf va) va how all
  refine ⟨_, (if_neg (by omega)).trans ?_, hsent.mem.trans (hmem.trans ?_), ?_, hsent.dies.trans (hdies.trans ?_)⟩
  · rw [h4, hu]
    rfl
  · rw [hu]; rfl
  · rw [State.slot, hsent.slots, hslots, hu]
    exact congrArg Slot.state (State.slot_setSlot ..)
  · rw [hu]; rfl

/-! Traps found after issue. -/

theorem slotTrap_gives {g : Nat} {c : Byte} {v : Word} (htask : (s.slot g).task ≠ 0) (hc : c ≠ 1) : Gives (.slotTrap g c v) s (s.takeTrap g c.toNat v) := by
  refine congrArg Host.Outcome.next ((if_neg htask).trans (congrArg (fun u : State => u.takeTrap g c.toNat v) (if_neg ?_)))
  rw [Bool.and_eq_true, decide_eq_true_eq]
  exact fun h => hc h.1

theorem deferredTrap_gives {g pc : Nat} {c : Byte} {v : Word} (hdef : (s.slot g).deferred = some (c, v, pc)) (hnotice : (s.slot g).killNotice = false) :
    exec (.deferredTrap g) s = .next (if !(s.slot g).vbound.isEmpty || !(s.slot g).mbound.isEmpty || s.enginesHold g ||
        (s.saveUnit g).any (fun m => m != g && (s.slot m).status.tbank) then s.defer (.deferredTrap g)
      else (s.setSlot g (({ s.slot g with deferred := none, heldBy := none, state := (s.slot g).active } : Slot).setPc pc)).takeTrap g c.toNat v) := by
  have hkill : (s.slot g).killable = false := by rw [Slot.killable, hnotice]; rfl
  have hexec : exec (.deferredTrap g) s = execDeferredTrap g s := rfl
  rw [hexec, execDeferredTrap, hdef]
  exact congrArg Host.Outcome.next (if_neg (Bool.eq_false_iff.1 hkill))

/-- Nothing bound, and no other slot of the unit in its trap bank. -/
theorem deferredTrap_waits_iff {g : Nat} (hengines : s.enginesHold g = false) :
    (!(s.slot g).vbound.isEmpty || !(s.slot g).mbound.isEmpty || s.enginesHold g || (s.saveUnit g).any (fun m => m != g && (s.slot m).status.tbank)) = true ↔
      ¬((s.slot g).vbound = [] ∧ (s.slot g).mbound = [] ∧ ∀ m ∈ s.saveUnit g, m ≠ g → (s.slot m).status.tbank = false) := by
  rw [hengines, Bool.or_false, ← Bool.not_eq_false, not_iff_not, Bool.or_eq_false_iff, Bool.or_eq_false_iff, Bool.not_eq_false', Bool.not_eq_false',
    List.isEmpty_iff, List.isEmpty_iff, List.any_eq_false, and_assoc]
  refine and_congr_right fun _ => and_congr_right fun _ => forall₂_congr fun m _ => ?_
  rw [Bool.and_eq_true, not_and, bne_iff_ne, Bool.not_eq_true]

/-! GUARD.WR and FRAME.WR. -/

/-- The state in which a request that its unit carries out at once has been accepted, and its instruction has retired. -/
def State.carrying (s : State) (d : Reg) (kind : ReqKind) : State :=
  ((s.accept s.cur kind 0 none (some d) false false 0).2.retire s.cur id).onRequest s.nextId (fun q => { q with phase := .left })

theorem carryOut_of_free {kind : ReqKind} {f : Nat → State → State} (hp : PortFree s false) :
    s.carryOut d kind f = .done (f s.nextId (s.carrying d kind)) :=
  if_neg (by rw [portReady_of_portFree hp]; exact Bool.false_ne_true)

theorem slot_carrying (s : State) (d : Reg) (kind : ReqKind) : (s.carrying d kind).slot s.cur = (me s).advance := State.slot_setSlot ..

theorem carried_answer (s : State) (d : Reg) (kind : ReqKind) (v : Word) : Carried s ((s.carrying d kind).answer s.nextId v) [.replyArrival s.nextId v.toNat false] :=
  ⟨slot_carrying s d kind, rfl, rfl, rfl⟩

/-- What is refused a permit. -/
def permitRefused (s : State) (x v : Word) (p : Nat) : Prop :=
  64 ≤ x.toNat ∨ v &&& 0x7FFFFFF0E0C00000 ≠ 0 ∨ s.ownsTile p (v.toNat / 256 % 1024) (v.toNat % 256) = false ∨ v.toNat / 2 ^ 32 % 16 = p

theorem permitMask (v : Word) : v &&& 0x7FFFFFF0E0C00000 = 0 ↔ bits v 62 36 = 0 ∧ bits v 31 29 = 0 ∧ bits v 23 22 = 0 := by
  have hmask := reserved_clear_iff (m := ~~~0x7FFFFFF0E0C00000) (fields := [(62, 36), (31, 29), (23, 22)]) (by decide) v
  rwa [BitVec.not_not, List.forall_mem_cons, List.forall_mem_cons, List.forall_mem_singleton] at hmask

theorem permitBad_of_refused {x v : Word} {p : Nat} (h : permitRefused s x v p) : (bits x 63 6 != 0 || s.permitBad p v) = true := by
  have hhigh : bits x 63 6 = x.toNat / 64 % 2 ^ 58 := rfl
  have hx := x.isLt
  have htile : bits v 7 0 = v.toNat % 256 := bits_low v 7
  have hpkg : bits v 17 8 = v.toNat / 256 % 1024 := rfl
  have hpart : bits v 35 32 = v.toNat / 2 ^ 32 % 16 := rfl
  rw [Bool.or_eq_true, bne_iff_ne]
  rcases h with h | h | h | h
  · exact .inl (by rw [hhigh]; omega)
  · refine .inr ?_
    rw [ne_eq, permitMask, not_and_or, not_and_or] at h
    simp only [State.permitBad, Bool.or_eq_true, bne_iff_ne]
    tauto
  · refine .inr ?_
    simp only [State.permitBad, htile, hpkg, h, Bool.not_false, Bool.or_true, Bool.true_or]
  · refine .inr ?_
    simp only [State.permitBad, hpart, h, beq_self_eq_true, Bool.or_true, Bool.true_or]

theorem permitBad_of_good {x v : Word} {p : Nat} (hx : x.toNat < 64) (hv : v &&& 0x7FFFFFF0E0C00000 = 0)
    (howns : s.ownsTile p (v.toNat / 256 % 1024) (v.toNat % 256) = true) (hp : v.toNat / 2 ^ 32 % 16 ≠ p)
    (hgroups : v.getLsbD 63 = true → 1 ≤ v.toNat / 2 ^ 24 % 32 ∧ v.toNat / 2 ^ 24 % 32 ≤ 24) : (bits x 63 6 != 0 || s.permitBad p v) = false := by
  have hhigh : bits x 63 6 = 0 := by
    have heq : bits x 63 6 = x.toNat / 64 % 2 ^ 58 := rfl
    rw [heq, Nat.div_eq_of_lt hx]
    rfl
  obtain ⟨h1, h2, h3⟩ := (permitMask v).1 hv
  have htile : bits v 7 0 = v.toNat % 256 := bits_low v 7
  have hpkg : bits v 17 8 = v.toNat / 256 % 1024 := rfl
  have hpart : (bits v 35 32 == p) = false := beq_eq_false_iff_ne.2 hp
  have hn : bits v 28 24 = v.toNat / 2 ^ 24 % 32 := rfl
  have hvalid : (testW v 63 && (bits v 28 24 == 0 || decide (24 < bits v 28 24))) = false := by
    have htest : testW v 63 = v.getLsbD 63 := testN_toNat _ _
    rw [htest, hn]
    cases h63 : v.getLsbD 63 with
    | false => rfl
    | true =>
      obtain ⟨hlo, hhi⟩ := hgroups h63
      rw [Bool.true_and, beq_eq_false_iff_ne.2 (by omega), decide_eq_false (by omega)]
      rfl
  simp only [State.permitBad, hhigh, h1, h2, h3, htile, hpkg, hpart, howns, hvalid, bne_self_eq_false, Bool.not_true, Bool.or_self]

/-- Only tiles change. -/
structure TilesOnly (s u : State) : Prop where
  mem : u.mem = s.mem
  slots : u.slots = s.slots
  parts : u.parts = s.parts
  agenda : u.agenda = s.agenda

theorem TilesOnly.refl (s : State) : TilesOnly s s := ⟨rfl, rfl, rfl, rfl⟩
theorem TilesOnly.trans {s t u : State} (h : TilesOnly s t) (h' : TilesOnly t u) : TilesOnly s u :=
  ⟨h'.mem.trans h.mem, h'.slots.trans h.slots, h'.parts.trans h.parts, h'.agenda.trans h.agenda⟩
theorem TilesOnly.foldl {α : Type} {f : State → α → State} (hf : ∀ s a, TilesOnly s (f s a)) (l : List α) (s : State) : TilesOnly s (l.foldl f s) :=
  List.foldlRecOn l f (motive := TilesOnly s) (.refl s) fun u hu a _ => hu.trans (hf u a)

theorem withdrawLane_tilesOnly (s : State) (gt ch : Nat) : TilesOnly s (s.withdrawLane gt ch) := by
  rw [State.withdrawLane]
  split
  · exact .refl s
  · split <;> exact ⟨rfl, rfl, rfl, rfl⟩

theorem withdrawExcess_tilesOnly (s : State) (owner part gt : Nat) : TilesOnly s (s.withdrawExcess owner part gt) :=
  .foldl (fun _ _ => .foldl (fun v _ => withdrawLane_tilesOnly v _ _) _ _) _ _

/-- Memory, slots and partitions stay. -/
structure PartsKept (s u : State) : Prop where
  mem : u.mem = s.mem
  slots : u.slots = s.slots
  parts : u.parts = s.parts

theorem sendPacket_partsKept (s : State) (p : Packet) : PartsKept s (s.sendPacket p) := by
  rw [State.sendPacket]
  split <;> exact ⟨rfl, rfl, rfl⟩

/-- The guards of other modules are told of a permit. -/
theorem tellGuards_partsKept (f : Request → Request) (id : Nat) (g : State → Nat → Packet) (l : List Nat) (s : State) :
    PartsKept s (l.foldl (fun s k => (s.onRequest id f).sendPacket (g s k)) s) :=
  List.foldlRecOn l _ (motive := PartsKept s) ⟨rfl, rfl, rfl⟩ fun u hu k _ => by
    obtain ⟨hmem, hslots, hparts⟩ := hu
    obtain ⟨hmem', hslots', hparts'⟩ := sendPacket_partsKept (u.onRequest id f) (g u k)
    exact ⟨hmem'.trans hmem, hslots'.trans hslots, hparts'.trans hparts⟩

/-- A partition with a permit. -/
def Partition.withPermit (n : Nat) (v : Word) (p : Partition) : Partition := { p with permits := vset p.permits n v }

/-- Transit groups that the permit that was, or the one that is, no longer allows are withdrawn. -/
def State.guardLanes (part : Nat) (s : State) (w : Word) : State :=
  if bits w 17 8 = s.mgmt.package then s.withdrawExcess part (bits w 35 32) (bits w 7 0) else s

theorem guardLanes_tilesOnly (part : Nat) (s : State) (w : Word) : TilesOnly s (s.guardLanes part w) := by
  rw [State.guardLanes]
  split
  · exact withdrawExcess_tilesOnly ..
  · exact .refl s

/-- The reply of GUARD.WR, or the news to the guards of other modules. -/
def State.guardReply (s : State) (id part n : Nat) (v : Word) : State :=
  match Config.peerModules part with
  | [] => s.answer id 0
  | peers => peers.foldl (fun s k => (s.onRequest id (fun q => { q with level := q.level + 1, remote := true })).sendPacket
      (ctlPacket 0x06 (s.slotSource s.cur) part k (wordN n) v [])) s

theorem guardReply_partsKept (s : State) (id part n : Nat) (v : Word) : PartsKept s (s.guardReply id part n v) := by
  rw [State.guardReply]
  split
  · exact ⟨rfl, rfl, rfl⟩
  · exact tellGuards_partsKept (fun q => { q with level := q.level + 1, remote := true }) id
      (fun s k => ctlPacket 0x06 (s.slotSource s.cur) part k (wordN n) v []) _ s

/-- What GUARD.WR does with a permit that is good. -/
theorem guardWr_good (hr : Ready s { privileged := true } [a, b, d]) (hp : PortFree s false)
    (hgood : (bits ((me s).x a) 63 6 != 0 || s.permitBad (me s).part ((me s).x b)) = false) :
    ∃ kind t, Gives (.guardWr d a b) s t ∧ PartsKept ((s.carrying d kind).onPart (me s).part (Partition.withPermit (bits ((me s).x a) 5 0) ((me s).x b))) t ∧
      (Config.peerModules (me s).part = [] → t.agenda = s.agenda ++ [.replyArrival s.nextId 0 false]) := by
  obtain ⟨kind, hkind⟩ : ∃ kind, kind = ReqKind.guardWrite (bits ((me s).x a) 5 0) ((me s).x b) := ⟨_, rfl⟩
  obtain ⟨u, hu⟩ : ∃ u, u = (s.carrying d kind).onPart (me s).part (Partition.withPermit (bits ((me s).x a) 5 0) ((me s).x b)) := ⟨_, rfl⟩
  have hlanes : TilesOnly u ([vget ((s.carrying d kind).part (me s).part).permits (bits ((me s).x a) 5 0), (me s).x b].foldl (State.guardLanes (me s).part) u) :=
    .foldl (guardLanes_tilesOnly _) _ u
  have hreply := guardReply_partsKept ([vget ((s.carrying d kind).part (me s).part).permits (bits ((me s).x a) 5 0), (me s).x b].foldl
    (State.guardLanes (me s).part) u) s.nextId (me s).part (bits ((me s).x a) 5 0) ((me s).x b)
  refine ⟨kind, ([vget ((s.carrying d kind).part (me s).part).permits (bits ((me s).x a) 5 0), (me s).x b].foldl
    (State.guardLanes (me s).part) u).guardReply s.nextId (me s).part (bits ((me s).x a) 5 0) ((me s).x b),
    gives_of_done (i := .guardWr d a b) (execGuardWr.eq_1 d a b s) hr ((carryOut_of_free hp).trans
    (congrArg Issue.done ((if_neg (Bool.eq_false_iff.1 hgood)).trans ?_))), ?_, fun hpeers => ?_⟩
  · rw [hu, hkind]
    rfl
  · rw [← hu]
    exact ⟨hreply.mem.trans hlanes.mem, hreply.slots.trans hlanes.slots, hreply.parts.trans hlanes.parts⟩
  · rw [State.guardReply, hpeers]
    refine congrArg (· ++ _) (hlanes.agenda.trans ?_)
    rw [hu]
    rfl

/-- The permits after GUARD.WR has written one. -/
theorem PartsKept.permits {u t : State} {p : Nat} {x v : Word} (h : PartsKept (u.onPart p (Partition.withPermit (bits x 5 0) v)) t) (hx : x.toNat < 64)
    (hp : p < 16) : (∀ n, n < 64 → vget (t.part p).permits n = if n = x.toNat then v else vget (u.part p).permits n) ∧
      ∀ q, q < 16 → q ≠ p → t.part q = u.part q := by
  have hlow : bits x 5 0 = x.toNat := (bits_low x 5).trans (Nat.mod_eq_of_lt hx)
  have hpart (q : Nat) : t.part q = (u.onPart p (Partition.withPermit (bits x 5 0) v)).part q := by rw [State.part, h.parts]; rfl
  refine ⟨fun n hn => ?_, fun q hq hne => (hpart q).trans (part_onPart_ne u hp hq hne _)⟩
  have hown : (u.onPart p (Partition.withPermit (bits x 5 0) v)).part p = (u.part p).withPermit (bits x 5 0) v := vget_vset ..
  rw [hpart, hown, hlow, Partition.withPermit]
  by_cases heq : n = x.toNat
  · rw [if_pos heq, heq]
    exact vget_vset ..
  · rw [if_neg heq]
    exact vget_vset_ne _ _ _ _ (by rw [Nat.mod_eq_of_lt hn, Nat.mod_eq_of_lt hx]; exact fun h => heq h.symm)

theorem guardWr_refused (hr : Ready s { privileged := true } [a, b, d]) (hp : PortFree s false)
    (hbad : (bits ((me s).x a) 63 6 != 0 || s.permitBad (me s).part ((me s).x b)) = true) :
    Gives (.guardWr d a b) s ((s.carrying d (.guardWrite (bits ((me s).x a) 5 0) ((me s).x b))).answer s.nextId (failure 20)) :=
  gives_of_done (i := .guardWr d a b) (execGuardWr.eq_1 d a b s) hr ((carryOut_of_free hp).trans (congrArg Issue.done (if_pos hbad)))

/-- The reserved fields of FRAME.WR's operands. -/
def frameWrBad (x v : Word) : Bool := bits x 63 24 != 0 || testW x 7 || decide (3 < bits x 11 8) || bits v 63 9 != 0 || bits v 3 1 != 0

theorem frameWrBad_eq (x v : Word) : frameWrBad x v = true ↔ x &&& ~~~0xFFFF7F ≠ 0 ∨ 3 < x.toNat / 256 % 16 ∨ v &&& ~~~0x1F1 ≠ 0 := by
  have hx := reserved_clear_iff (m := 0xFFFF7F) (fields := [(63, 24), (7, 7)]) (by decide) x
  have hv := reserved_clear_iff (m := 0x1F1) (fields := [(63, 9), (3, 1)]) (by decide) v
  have hk : bits x 11 8 = x.toNat / 256 % 16 := rfl
  rw [List.forall_mem_cons, List.forall_mem_singleton] at hx hv
  rw [frameWrBad, testW_of_bits, hk, ne_eq (x &&& _), ne_eq (v &&& _), hx, hv]
  simp only [Bool.or_eq_true, bne_iff_ne, decide_eq_true_eq]
  tauto

/-- What FRAME.WR does at the frame's registers. -/
def State.frameWrite (s : State) (id part : Nat) (x v : Word) : State :=
  match frameUnit (bits x 11 8) (bits x 23 12) with
  | none => s.answer id (failure 20)
  | some u =>
    if (s.mgmt.frame.getD (u * 128 + bits x 6 0) 0xFF).toNat ≠ part then s.answer id (failure 20)
    else
      let s := if s.mgmt.frameReplies.isEmpty then { s with mgmt := { s.mgmt with frames := s.cycle / 8192 } } else s
      { s with mgmt := { s.mgmt with
        nextLend := s.mgmt.nextLend.filter (fun e => e.1 != u * 128 + bits x 6 0) ++ [(u * 128 + bits x 6 0, v)]
        frameReplies := s.mgmt.frameReplies ++ [id] } }

theorem frameWr_good (hr : Ready s { privileged := true } [a, b, d]) (hp : PortFree s false) (h : frameWrBad ((me s).x a) ((me s).x b) = false) :
    ∃ kind, Gives (.frameWr d a b) s ((s.carrying d kind).frameWrite s.nextId (me s).part ((me s).x a) ((me s).x b)) :=
  ⟨.frameWrite (bits ((me s).x a) 11 8) (bits ((me s).x a) 23 12) (bits ((me s).x a) 6 0) ((me s).x b),
    gives_of_done (i := .frameWr d a b) (execFrameWr.eq_1 d a b s) hr ((if_neg (Bool.eq_false_iff.1 h)).trans (carryOut_of_free hp))⟩

theorem frameWrite_of_owner {id part u : Nat} {x v : Word} (hu : frameUnit (bits x 11 8) (bits x 23 12) = some u)
    (hown : (s.mgmt.frame.getD (u * 128 + bits x 6 0) 0xFF).toNat = part) : ∃ frames, s.frameWrite id part x v =
      { s with mgmt := { s.mgmt with
          frames := frames, nextLend := s.mgmt.nextLend.filter (fun e => e.1 != u * 128 + bits x 6 0) ++ [(u * 128 + bits x 6 0, v)]
          frameReplies := s.mgmt.frameReplies ++ [id] } } := by
  refine ⟨if s.mgmt.frameReplies.isEmpty then s.cycle / 8192 else s.mgmt.frames, ?_⟩
  rw [State.frameWrite, hu]
  refine (if_neg (not_not.2 hown)).trans ?_
  cases s.mgmt.frameReplies.isEmpty <;> rfl

theorem frameWrite_of_other {id part : Nat} {x v : Word}
    (hno : ∀ u, frameUnit (bits x 11 8) (bits x 23 12) = some u → (s.mgmt.frame.getD (u * 128 + bits x 6 0) 0xFF).toNat ≠ part) :
    s.frameWrite id part x v = s.answer id (failure 20) := by
  rw [State.frameWrite]
  cases hu : frameUnit (bits x 11 8) (bits x 23 12) with
  | none => rfl
  | some u => exact if_pos (hno u hu)

theorem tlbInv_own (s : State) (w : Wait) (n : Nat) (how va : Word) : (s.block s.cur w).invalidate s.cur (me s).part 0 none va how [n] =
    { blockedIn s w with agenda := (blockedIn s w).agenda ++ [.tlbInvalidation n
      { slot := s.cur, part := (me s).part, home := 0, gen := none, va := va, how := how, serial := (me s).waitSerial + 1 }] } := by
  have hserial : ((s.block s.cur w).slot s.cur).waitSerial = (me s).waitSerial + 1 := congrArg Slot.waitSerial (State.slot_setSlot ..)
  rw [State.invalidate, List.foldl_cons, List.foldl_nil, hserial]
  rfl

theorem shardOf_ne {va : Word} {d : Nat} (hd : d < 4) (hne : d ≠ shardOf va) : shardOf va % 4 ≠ d % 4 := by
  have hlt : shardOf va < 4 := Nat.mod_lt _ (by decide)
  omega

theorem strike_frame (s : State) (g serial m : Nat) : (s.strike g serial m).mem = s.mem ∧ ∀ n, (s.strike g serial m).tlb n = s.tlb n := by
  rw [State.strike]
  split
  · exact ⟨rfl, fun _ => rfl⟩
  · exact ⟨rfl, fun _ => rfl⟩

end

/-- Settles O39: each instruction by its checks and what it asks for, each event by its rule. -/
theorem systemExecution : Obligations.SystemExecution := by
  refine ⟨fun s a b => ⟨fun k hk hr => idle_gives hk hr, fun hr => ?_, fun g c v htask hc => slotTrap_gives htask hc,
    fun g c v htask => congrArg Host.Outcome.next (if_pos htask), fun g c v pc hdef hnotice hengines => ?_, fun id w hw hturn hgen => ?_,
    fun n f hstale h0 => ?_, fun n inv hwaits hpend hslot => ?_⟩, fun s d a b hr hp => ?_⟩
  · dsimp only
    refine ⟨fun hbad => tlbInv_refuses hr ((tlbInvBad_eq _).2 hbad), fun hmask hcode hone hva => ?_, fun hmask hva hacc hacq => ?_⟩
    · refine tlbInv_faults hr (Bool.eq_false_iff.2 fun h => ?_) hone hva
      exact ((tlbInvBad_eq _).1 h).elim (fun h => h hmask) hcode
    · have hgood (hcode : ((me s).x b).toNat % 4 ≠ 3) : tlbInvBad ((me s).x b) = false :=
        Bool.eq_false_iff.2 fun h => ((tlbInvBad_eq _).1 h).elim (fun h => h hmask) hcode
      have hlow : bits ((me s).x b) 1 0 = ((me s).x b).toNat % 4 := bits_low _ 1
      refine ⟨fun hzero => ?_, fun htwo hone => ?_⟩
      · obtain ⟨body, hexec, all, hbody⟩ := tlbInv_scope (hgood (by omega)) hva hacc hacq
        refine gives_of_done hexec hr (hbody.trans ((if_pos (by omega)).trans ?_))
        rw [hlow, hzero, if_pos rfl]
        exact congrArg Issue.done (tlbInv_own ..)
      · obtain ⟨body, hexec, all, hbody⟩ := tlbInv_scope (hgood (by omega)) hva hacc hacq
        obtain ⟨t, ht, hmem, hstate, hdies⟩ := tlbInvScope_home (all := all) (va := (me s).x a) (hlow.trans htwo) ((testN_toNat _ _).trans hone)
        refine ⟨t, gives_of_done hexec hr (hbody.trans ht), hmem, hstate, ?_, fun dd hdd hne => ?_⟩
        · rw [State.die, hdies]
          exact (congrArg (fun x : Die => Assoc.get 0 x.gens (me s).part) (State.die_onDie s _ _)).trans (Assoc.get_set_same ..)
        · rw [State.die, hdies]
          exact congrArg Die.gens (vget_vset_ne _ _ _ _ (shardOf_ne hdd hne))
  · dsimp only
    rw [Gives, Gives, deferredTrap_gives hdef hnotice]
    refine ⟨fun hfree => congrArg Host.Outcome.next (if_neg fun h => (deferredTrap_waits_iff hengines).1 h hfree),
      fun hbusy => congrArg Host.Outcome.next (if_pos ((deferredTrap_waits_iff hengines).2 hbusy))⟩
  · obtain ⟨u, hu, hexec⟩ := walkComplete_of_current hw hturn hgen
    exact ⟨_, walkFill w ((s.walk w.part w.va).1.getD (noEntry w)), hexec, congrArg (· ++ _) hu.agenda, rfl, rfl, rfl, hu.mem, hu.slots⟩
  · obtain ⟨hentries, -⟩ := State.tlb_unask (s.onTlb n (fun t => t.install (tlbRoom n) (fillEntry f))) f.by_ n (fillEntry f).covers
    rw [State.tlb_onTlb] at hentries
    have hframe := (State.onTlb_sameButTilesDies s n (fun t => t.install (tlbRoom n) (fillEntry f))).trans
      (State.unask_sameButTilesDies _ f.by_ n (fillEntry f).covers)
    refine ⟨_, congrArg Host.Outcome.next ((if_neg (Bool.eq_false_iff.1 hstale)).trans (if_neg h0)), ?_, ?_, ?_⟩
    · rw [hentries]
      exact List.mem_of_mem_head? (Tlb.head_install _ (tlbRoom_pos n) _)
    · rw [hframe]
    · rw [hframe]
  · obtain ⟨hmem, htlb⟩ := strike_frame (s.onTlb n (fun t => t.invalidated inv)) inv.slot inv.serial (n + 1024 * inv.home)
    refine ⟨_, tlbInvalidation_of_idle hwaits hpend hslot, ?_, fun e he => ?_⟩
    · rw [hmem, State.onTlb_sameButTilesDies]
    · rw [htlb, State.tlb_onTlb, Tlb.invalidated, List.mem_filter, Bool.not_eq_true', ← Bool.not_eq_true, List.contains_iff_mem] at he
      exact he
  · dsimp only
    refine ⟨fun hx hv howns hpart hgroups hlt => ?_, fun hbad => ?_, fun hx hkind hv => ?_, fun hbad =>
      gives_of_trap (i := .frameWr d a b) (execFrameWr.eq_1 d a b s) hr (if_pos ((frameWrBad_eq _ _).2 hbad))⟩
    · obtain ⟨kind, t, ht, hkept, hagenda⟩ := guardWr_good hr hp (permitBad_of_good hx hv howns hpart hgroups)
      obtain ⟨hpermit, hothers⟩ := PartsKept.permits hkept hx hlt
      refine ⟨t, ht, ?_, hkept.mem, hpermit, hothers, or_iff_not_imp_left.2 fun h => hagenda (not_not.1 h)⟩
      rw [State.slot, hkept.slots]
      exact slot_carrying s d kind
    · exact ⟨_, guardWr_refused hr hp (permitBad_of_refused hbad), rfl, carried_answer ..⟩
    · have hlow : bits ((me s).x a) 6 0 = ((me s).x a).toNat % 128 := bits_low _ 6
      obtain ⟨kind, ht⟩ := frameWr_good hr hp (Bool.eq_false_iff.2 fun h => ((frameWrBad_eq _ _).1 h).elim (fun h => h hx) (fun h => h.elim (Nat.not_lt.2 hkind) (fun h => h hv)))
      refine ⟨fun u hu hown => ?_, fun hno => ?_⟩
      · obtain ⟨frames, hwrite⟩ := frameWrite_of_owner (s := s.carrying d kind) (id := s.nextId) (part := (me s).part) (v := (me s).x b) hu (by rw [hlow]; exact hown)
        rw [hwrite, hlow] at ht
        refine ⟨_, ht, ⟨slot_carrying s d kind, rfl, rfl, (List.append_nil _).symm⟩, rfl, rfl, fun e => ?_⟩
        rw [List.mem_append, List.mem_filter, List.mem_singleton, bne_iff_ne, or_comm]
        rfl
      · rw [frameWrite_of_other (by rw [hlow]; exact hno)] at ht
        exact ⟨_, ht, rfl, carried_answer ..⟩

end Sys2Proof.Machine

namespace Sys2Proof.Machine

open Sys2Proof.Claims

set_option Elab.async false

/-! ## The dispatcher (spec/14 R301 to R310; spec/02 R27, R47) -/

section
variable {s : State}

/-! The arbiter with one rival. -/

/-- A visit of the one rival's queue. -/
theorem pickQueue_step (n : Nat) (r : Rival) (at_ : Nat) (given : Bool) : pickQueue (n + 1) [r] at_ given =
    let d := r.deficit + (if given && r.queue == at_ then 0 else r.quantum)
    if r.cost ≤ d then some ({ r with deficit := d }, [{ r with deficit := d }], r.queue) else pickQueue n [{ r with deficit := d }] (r.queue + 1) false := by
  have hat : rivalAt [r] at_ = some r := by
    rw [rivalAt, List.find?_singleton]
    by_cases h : decide (at_ ≤ r.queue) = true
    · rw [if_pos h]
    · rw [if_neg h]; rfl
  rw [pickQueue, hat]
  simp only [List.map_cons, List.map_nil, beq_self_eq_true, if_true]

theorem pickQueue_fresh (n : Nat) (r : Rival) (at_ : Nat) (hq : 1 ≤ r.quantum) (hc : r.cost ≤ r.deficit + n) :
    ∃ d a, pickQueue (n + 1) [r] at_ false = some ({ r with deficit := d }, [{ r with deficit := d }], a) := by
  induction n generalizing r at_ with
  | zero => exact ⟨_, _, (pickQueue_step ..).trans (if_pos (Nat.le_trans hc (Nat.le_add_right ..)))⟩
  | succ n ih =>
    rw [pickQueue_step]
    by_cases hd : r.cost ≤ r.deficit + r.quantum
    · exact ⟨_, _, if_pos hd⟩
    · obtain ⟨d, a, h⟩ := ih { r with deficit := r.deficit + r.quantum } (r.queue + 1) hq (show r.cost ≤ r.deficit + r.quantum + n by omega)
      exact ⟨d, a, (if_neg hd).trans h⟩

theorem pickQueue_one (n : Nat) (r : Rival) (at_ : Nat) (given : Bool) (hq : 1 ≤ r.quantum) (hc : r.cost ≤ r.deficit + n) :
    ∃ d a, pickQueue (n + 2) [r] at_ given = some ({ r with deficit := d }, [{ r with deficit := d }], a) := by
  rw [pickQueue_step]
  obtain ⟨e, he⟩ : ∃ e, e = r.deficit + (if given && r.queue == at_ then 0 else r.quantum) := ⟨_, rfl⟩
  rw [← he]
  by_cases hd : r.cost ≤ e
  · exact ⟨_, _, if_pos hd⟩
  · obtain ⟨d, a, h⟩ := pickQueue_fresh n { r with deficit := e } (r.queue + 1) hq (show r.cost ≤ e + n by omega)
    exact ⟨d, a, (if_neg hd).trans h⟩

/-- Steps until the one rival's class has the deficit that it needs. -/
def Drr.away (d : Drr) (c : Fin 4) (cost : Nat) : Nat :=
  4 * ((cost - vget d.deficit c.val + 31) / 32) + (c.val + 4 - d.cls.val) % 4 + if d.credited = true ∧ d.cls = c then 5 else 0

theorem vget_val {α : Type} {n : Nat} [NeZero n] (v : Vector α n) (i : Fin n) : vget v i.val = v.get i := by rw [vget, Fin.ofNat_val_eq_self]

/-- The class after one that is not the rival's is nearer to it. -/
theorem away_next {d : Drr} {c : Fin 4} (hc : d.cls ≠ c) (cost : Nat) :
    Drr.away { d with cls := d.cls + 1, credited := false } c cost < d.away c cost := by
  have hdist : (c.val + 4 - (d.cls + 1).val) % 4 < (c.val + 4 - d.cls.val) % 4 := by
    have := Fin.val_ne_of_ne hc
    rw [Fin.val_add]
    omega
  simp only [Drr.away, hc, Bool.false_eq_true, false_and, and_false, if_false]
  omega

/-- A round of the rival's class that ends with too small a deficit leaves fewer to go. -/
theorem away_round {d : Drr} {c : Fin 4} (hc : d.cls = c) {cost q x : Nat} (hq : 32 ≤ q) (hx : x = d.deficit.get d.cls + if d.credited = true then 0 else q)
    (hw : ¬cost ≤ x) {e : Drr} (he : e.deficit = vset d.deficit d.cls.val x) (hcls : e.cls = d.cls + 1) (hcr : e.credited = false) :
    e.away c cost < d.away c cost := by
  have hget : vget e.deficit c.val = x := by rw [he, hc]; exact vget_vset ..
  have hold : vget d.deficit c.val = d.deficit.get d.cls := by rw [hc]; exact vget_val ..
  have hdist : (c.val + 4 - e.cls.val) % 4 = 3 := by rw [hcls, hc, Fin.val_add]; omega
  simp only [Drr.away, hget, hold, hdist, hcr, hc, Bool.false_eq_true, false_and, if_false, and_true]
  cases hcred : d.credited with
  | true =>
    rw [hcred, if_pos rfl, hc] at hx
    rw [if_pos rfl]
    omega
  | false =>
    rw [hcred, if_neg Bool.false_ne_true, hc] at hx
    rw [if_neg Bool.false_ne_true]
    omega

theorem pickClass_one {quanta : Vector Nat 4} (hquanta : ∀ c, 32 ≤ quanta.get c) (n : Nat) (r : Rival) (d : Drr) (c : Fin 4) (hcls : r.cls = c.val)
    (hq : 1 ≤ r.quantum) (hcost : r.cost ≤ 64) (hn : d.away c r.cost < n) :
    ∃ w rs x, pickClass quanta n [r] d = some (w, rs, x) ∧ w.queue = r.queue := by
  induction n generalizing r d with
  | zero => omega
  | succ n ih =>
    rw [pickClass]
    by_cases hc : d.cls = c
    · have hmine : [r].filter (fun x => x.cls == d.cls.val) = [r] := by rw [List.filter_singleton, hcls, hc, beq_self_eq_true]; rfl
      have hothers : [r].filter (fun x => x.cls != d.cls.val) = [] := by rw [List.filter_singleton, hcls, hc, bne_self_eq_false]; rfl
      obtain ⟨e, a, hpick⟩ := pickQueue_one 2046 r (d.at_.get d.cls) (d.given.get d.cls) hq (by omega)
      rw [hmine, hothers]
      simp only [List.isEmpty_cons, Bool.false_eq_true, if_false, List.length_cons, List.length_nil, Nat.reduceAdd, Nat.reduceMul, List.nil_append, hpick]
      obtain ⟨x, hx⟩ : ∃ x, x = d.deficit.get d.cls + (if d.credited = true then 0 else quanta.get d.cls) := ⟨_, rfl⟩
      rw [← hx]
      by_cases hw : r.cost ≤ x
      · exact ⟨_, _, _, if_pos hw, rfl⟩
      · rw [if_neg hw]
        exact ih { r with deficit := e } _ hcls hq hcost (Nat.lt_of_lt_of_le (away_round hc (hquanta _) hx hw rfl rfl rfl) (Nat.le_of_lt_succ hn))
    · have hmine : [r].filter (fun x => x.cls == d.cls.val) = [] := by
        rw [List.filter_singleton, hcls, beq_eq_false_iff_ne.2 fun h => hc (Fin.ext h.symm)]; rfl
      rw [hmine]
      simp only [List.isEmpty_nil, if_true]
      exact ih r _ hcls hq hcost (Nat.lt_of_lt_of_le (away_next hc _) (Nat.le_of_lt_succ hn))

/-- The one rival is chosen. -/
theorem choose_one {r : Rival} {d : Drr} (hcls : r.cls < 4) (hq : 1 ≤ r.quantum) (hcost : r.cost ≤ 64) :
    ∃ w rs x, Drr.choose disQuanta d [r] = some (w, rs, x) ∧ w.queue = r.queue := by
  refine pickClass_one (c := ⟨r.cls, hcls⟩) (by decide) 256 r d rfl hq hcost ?_
  have : (if d.credited = true ∧ d.cls = ⟨r.cls, hcls⟩ then 5 else 0) ≤ 5 := by split <;> omega
  rw [Drr.away]
  omega


/-! Choosing a task. -/

theorem candidates_one {die part k : Nat} {r : TaskRec} (hq : s.queued die part = [(k, r)]) (hits : Word) :
    s.candidates die part hits = [(r.queue, [(k, r)], (k, r))] := by
  have hlist : s.readyList die part r.queue = [(k, r)] := by
    rw [State.readyList, hq, List.filter_singleton, beq_self_eq_true, cond_true, List.mergeSort_singleton]
  have hchoose : chooseTask (s.residency part) (s.part part).bypass hits [(k, r)] = some (k, r) := by
    rw [chooseTask]
    split
    next e he => exact congrArg some (List.mem_singleton.1 (List.mem_of_find?_eq_some he))
    next =>
      split
      · split
        next e he =>
          have hmem := List.mem_of_find?_eq_some he
          rw [List.take_succ_cons, List.take_nil, List.zipIdx_singleton, List.mem_singleton] at hmem
          rw [hmem]
        next => rfl
      · rfl
  rw [State.candidates, hq]
  simp only [List.map_cons, List.map_nil, List.dedup_cons_of_notMem (List.not_mem_nil), List.dedup_nil, List.mergeSort_singleton, List.filterMap_cons,
    List.filterMap_nil, hlist, hchoose, Option.map_some]

/-- A candidate among the rivals of R308. -/
def State.rival (s : State) (die : Nat) (c : Nat × List (Nat × TaskRec) × (Nat × TaskRec)) : Rival :=
  { queue := c.1, cls := (s.queue c.1).cls, quantum := 4 * (s.queue c.1).weight, cost := s.placeCost (s.handleOf die c.2.2.1) c.2.2.2
    deficit := vget (s.queue c.1).disDeficit die }

/-- What the choice of a task does to the deficits of the queues, and to the entries that it passes over. -/
def State.charged (s : State) (die part : Nat) (rs : List Rival) (d : Drr) (passed : List Nat) : State :=
  let s := rs.foldl (fun s r => s.onQueue r.queue (fun x => { x with disDeficit := vset x.disDeficit die r.deficit })) s
  let s := s.onPart part (fun p => { p with dis := vset p.dis die d })
  passed.foldl (fun s x => s.onRecord die x (fun r => { r with bypassed := r.bypassed + 1 })) s

/-- An entry that the arbiter has chosen. -/
def TaskRec.taken (at_ : Nat) (r : TaskRec) : TaskRec := { r with ready := .chosen, chosenAt := at_ }

/-- The arbiter's choice among candidates. -/
def State.selectOf (die part : Nat) (s : State) (cs : List (Nat × List (Nat × TaskRec) × (Nat × TaskRec))) : State :=
  match Drr.choose disQuanta (vget (s.part part).dis die) (cs.map (s.rival die)) with
  | none => s.later (.dispatchSelect die part)
  | some (w, rs, d) =>
    match cs.find? (fun c => c.1 == w.queue) with
    | none => s
    | some (_, l, e) =>
      let s := s.charged die part rs d ((l.takeWhile (fun x => x.1 != e.1)).map (·.1))
      ((s.onRecord die e.1 (TaskRec.taken s.cycle)).resetDeficits die part w.queue w.cls).post (.place die part)

theorem selectOf_one {die part k : Nat} {r : TaskRec} (hweight : 1 ≤ (s.queue r.queue).weight) (hcost : s.placeCost (s.handleOf die k) r ≤ 64) :
    ∃ rs d u, ∃ w : Rival, u = s.charged die part rs d [] ∧ s.selectOf die part [(r.queue, [(k, r)], (k, r))] =
      ((u.onRecord die k (TaskRec.taken u.cycle)).resetDeficits die part w.queue w.cls).post (.place die part) := by
  obtain ⟨w, rs, d, hchoose, hw⟩ := choose_one (r := s.rival die (r.queue, [(k, r)], (k, r))) (d := vget (s.part part).dis die)
    (Nat.mod_lt _ (by decide)) (Nat.mul_pos (by decide) hweight) hcost
  refine ⟨rs, d, _, w, rfl, ?_⟩
  have hwq : (r.queue == w.queue) = true := beq_iff_eq.2 hw.symm
  have hpassed : [(k, r)].takeWhile (fun x => x.1 != k) = [] := by rw [List.takeWhile_cons, bne_self_eq_false, if_neg Bool.false_ne_true]
  rw [State.selectOf, List.map_singleton, hchoose]
  simp only [List.find?_singleton, hwq, if_true, hpassed, List.map_nil]

theorem dispatchSelect_of_one {die part k : Nat} {r : TaskRec} (hchosen : s.chosen die part = none) (hq : s.queued die part = [(k, r)])
    (hturn : s.hasTurn die 64 part = true) (hweight : 1 ≤ (s.queue r.queue).weight) (hcost : s.placeCost (s.handleOf die k) r ≤ 64) :
    ∃ rs d u, ∃ w : Rival, u = s.draw.2.charged die part rs d [] ∧ exec (.dispatchSelect die part) s =
      .next (((u.onRecord die k (TaskRec.taken u.cycle)).resetDeficits die part w.queue w.cls).post (.place die part)) := by
  have hmem : (k, r) ∈ s.queued die part := by rw [hq]; exact List.mem_singleton_self _
  obtain ⟨htun, hcond⟩ := List.mem_filter.1 hmem
  simp only [Bool.and_eq_true] at hcond
  have hsome : (s.die die).tun.any (fun e => e.2.part == part && e.2.ready == .queued && e.2.state == .ready) = true :=
    List.any_eq_true.2 ⟨(k, r), htun, by simp only [hcond, Bool.and_self]⟩
  obtain ⟨rs, d, u, w, hu, hselect⟩ := selectOf_one (s := s.draw.2) (die := die) (part := part) (k := k) (r := r) hweight hcost
  refine ⟨rs, d, u, w, hu, congrArg Host.Outcome.next ((if_neg ?_).trans ((if_neg (by rw [hturn]; exact Bool.false_ne_true)).trans ?_))⟩
  · rw [hchosen, hsome]
    exact Bool.false_ne_true
  · exact (congrArg (s.draw.2.selectOf die part) (candidates_one (s := s.draw.2) hq (Config.freeValue s.drawn))).trans hselect

theorem charged_frame (die part : Nat) (rs : List Rival) (d : Drr) : (s.charged die part rs d []).mem = s.mem ∧ (s.charged die part rs d []).slots = s.slots ∧
    (s.charged die part rs d []).dies = s.dies ∧ (s.charged die part rs d []).agenda = s.agenda ∧ (s.charged die part rs d []).cycle = s.cycle :=
  List.foldlRecOn rs (fun (s : State) r => s.onQueue r.queue (fun x => { x with disDeficit := vset x.disDeficit die r.deficit }))
    (motive := fun u : State => u.mem = s.mem ∧ u.slots = s.slots ∧ u.dies = s.dies ∧ u.agenda = s.agenda ∧ u.cycle = s.cycle)
    ⟨rfl, rfl, rfl, rfl, rfl⟩ fun _ hu _ _ => hu

theorem agenda_resetDeficits (s : State) (die part queue cls : Nat) : (s.resetDeficits die part queue cls).agenda = s.agenda := by
  rw [State.resetDeficits]
  dsimp only
  split <;> split <;> rfl


/-! Placing a task in no gang. -/

theorem placeSpawned_of_none {die part : Nat} (h : ∀ e ∈ (s.die die).tun, e.2.spawned = false) : s.placeSpawned die part = s := by
  rw [State.placeSpawned]
  refine List.foldlRecOn (motive := fun u => u = s) _ _ rfl fun u hu e he => ?_
  rw [hu]
  refine if_neg ?_
  simp only [h e he, Bool.and_false, Bool.false_and, Bool.false_eq_true, not_false_eq_true]

/-- Slots, dies and the module's registers stay. -/
structure KeepsTasks (s u : State) : Prop where
  slots : u.slots = s.slots
  dies : u.dies = s.dies
  mgmt : u.mgmt = s.mgmt

theorem KeepsTasks.refl (s : State) : KeepsTasks s s := ⟨rfl, rfl, rfl⟩
theorem KeepsTasks.trans {s t u : State} (h : KeepsTasks s t) (h' : KeepsTasks t u) : KeepsTasks s u :=
  ⟨h'.slots.trans h.slots, h'.dies.trans h.dies, h'.mgmt.trans h.mgmt⟩
theorem KeepsTasks.foldl {α : Type} {f : State → α → State} (hf : ∀ s a, KeepsTasks s (f s a)) (l : List α) (s : State) : KeepsTasks s (l.foldl f s) :=
  List.foldlRecOn l f (motive := KeepsTasks s) (.refl s) fun u hu a _ => hu.trans (hf u a)
theorem Told.keepsTasks {s u : State} (h : Told s u) : KeepsTasks s u := ⟨h.slots, h.dies, h.mgmt⟩

theorem KeepsTasks.taskOf {s u : State} (h : KeepsTasks s u) (x : Word) : u.taskOf x = s.taskOf x := by
  rw [State.taskOf, record_congr h.dies, h.mgmt]
  rfl

theorem KeepsTasks.ite {s t u : State} {c : Prop} [Decidable c] (h : KeepsTasks s t) (h' : KeepsTasks s u) : KeepsTasks s (if c then t else u) := by
  by_cases hc : c
  · rwa [if_pos hc]
  · rwa [if_neg hc]

theorem onTile_keepsTasks (s : State) (gt : Nat) (f : Tile → Tile) : KeepsTasks s (s.onTile gt f) := ⟨rfl, rfl, rfl⟩

theorem onChan_keepsTasks (s : State) (gt c : Nat) (f : Endpoint → Endpoint) : KeepsTasks s (s.onChan gt c f) := ⟨rfl, rfl, rfl⟩
theorem posts_keepsTasks {α : Type} (s : State) (f : α → Instr) (l : List α) : KeepsTasks s (l.foldl (fun s a => s.post (f a)) s) :=
  .foldl (fun s a => (post_told s (f a)).keepsTasks) l s

theorem initResources_keepsTasks (s : State) (gt : Nat) (f : Grant) : KeepsTasks s (s.initResources gt f) := by
  have h : KeepsTasks s ((setBits 64 f.acc.toNat).foldl (fun s a => s.accClear gt a 0) s) :=
    .foldl (fun s a => (⟨rfl, rfl, rfl⟩ : KeepsTasks s (s.accClear gt a 0))) _ s
  exact ⟨h.slots, h.dies, h.mgmt⟩

/-- The two ends of a channel learn of each other. -/
theorem meet_keepsTasks (u : State) (other : Option (Nat × Nat)) (inst : Option Instance) (f : Endpoint → Endpoint) (r : TaskRec) (h : Instance → Word)
    (m : PodMsg) (chan v : Nat) : KeepsTasks u (match other with
      | some o => u.onChan o.1 o.2 f
      | none => match inst with
        | some i => u.tellEnd r (h i) m chan v
        | none => u) := by
  cases other with
  | some o => exact ⟨rfl, rfl, rfl⟩
  | none =>
    cases inst with
    | some i => exact (tellEnd_told u r (h i) m chan v).keepsTasks
    | none => exact .refl u

theorem bindEnd_keepsTasks (s : State) (r : TaskRec) (idx : Nat) (c : Channel) (sender : Bool) (gt slot : Nat) (lane : Bool) :
    KeepsTasks s (s.bindEnd r idx c sender gt slot lane) := by
  rw [State.bindEnd]
  refine .ite ((onChan_keepsTasks s gt _ _).trans (meet_keepsTasks ..)) ?_
  extract_lets _ u
  have hu : KeepsTasks s u := ((onChan_keepsTasks s gt _ _).trans (meet_keepsTasks ..)).trans (onTile_keepsTasks _ gt _)
  clear_value u
  refine hu.trans ?_
  cases s.instanceOf r.part r.serial with
  | none => exact .refl u
  | some i => exact (posts_keepsTasks u _ _).trans (onInstance_told ..).keepsTasks

theorem bindChannels_keepsTasks (s : State) (r : TaskRec) (gt slot : Nat) (fresh : Grant) : KeepsTasks s (s.bindChannels r gt slot fresh) := by
  rw [State.bindChannels]
  split
  · exact .refl s
  · refine .foldl (fun u i => ?_) _ _
    split
    · exact .refl u
    · exact .ite ((KeepsTasks.ite (bindEnd_keepsTasks ..) (.refl u)).trans (bindEnd_keepsTasks ..)) (.ite (bindEnd_keepsTasks ..) (.refl u))

/-- What noteOccupied does to a record. -/
def State.noted (s : State) (gs : List Nat) (r : TaskRec) : TaskRec :=
  if r.state == .ready && r.saved != 0 then
    { r with marks := r.marks ++ ((s.resumeSlots r).filter (fun g => gs.contains g && !r.marks.contains g)) }
  else r

theorem Assoc.get_map {α : Type} (d : α) (f : α → α) (l : List (Nat × α)) (k : Nat) : Assoc.get (f d) (l.map (fun e : Nat × α => (e.1, f e.2))) k = f (Assoc.get d l k) := by
  have hkey : (fun e : Nat × α => e.1 == k) ∘ (fun e : Nat × α => (e.1, f e.2)) = fun e => e.1 == k := rfl
  rw [Assoc.get, Assoc.get, List.find?_map, hkey]
  cases List.find? (fun e : Nat × α => e.1 == k) l <;> rfl

/-- What noteOccupied does to the records of a die. -/
def Die.noted (s : State) (gs : List Nat) (q : Die) : Die := { q with tun := q.tun.map (fun e : Nat × TaskRec => (e.1, s.noted gs e.2)) }

theorem noteOccupied_eq (gs : List Nat) : s.noteOccupied gs = [0, 1, 2, 3].foldl (fun s d => s.onDie d (Die.noted s gs)) s := by
  rw [State.noteOccupied]
  refine congrArg (fun f => List.foldl f s [0, 1, 2, 3]) (funext fun u => funext fun d => congrArg (u.onDie d) (funext fun q => ?_))
  refine congrArg (fun f => { q with tun := q.tun.map f }) (funext fun (e : Nat × TaskRec) => ?_)
  rw [State.noted]
  split <;> rfl

/-- Noting which slots have been taken leaves the record of a task that is not waiting to resume as it was. -/
theorem noteOccupied_frame (gs : List Nat) {die entry : Nat} (h : (s.record die entry).state ≠ .ready ∨ (s.record die entry).saved = 0) :
    (s.noteOccupied gs).record die entry = s.record die entry ∧ (s.noteOccupied gs).slots = s.slots ∧ (s.noteOccupied gs).mgmt = s.mgmt := by
  rw [noteOccupied_eq]
  refine List.foldlRecOn (motive := fun u : State => u.record die entry = s.record die entry ∧ u.slots = s.slots ∧ u.mgmt = s.mgmt) _ _ ⟨rfl, rfl, rfl⟩
    fun u hu d _ => ?_
  obtain ⟨hrec, hslots, hmgmt⟩ := hu
  refine ⟨?_, hslots, hmgmt⟩
  by_cases hd : d % 4 = die % 4
  · have hdie : u.die d = u.die die := by rw [State.die, State.die, vget, vget]; exact congrArg _ (Fin.ext hd)
    have hget := Assoc.get_map TaskRec.free (u.noted gs) (u.die d).tun entry
    have hnew : (u.onDie d (Die.noted u gs)).record die entry = Assoc.get TaskRec.free ((u.die d).noted u gs).tun entry :=
      congrArg (fun x : Die => Assoc.get TaskRec.free x.tun entry) (vget_vset_of_modEq _ _ hd)
    have hsame : u.noted gs (s.record die entry) = s.record die entry := if_neg (by
      rw [Bool.and_eq_true, beq_iff_eq, bne_iff_ne]
      exact fun hc => h.elim (fun h => h hc.1) fun h => hc.2 h)
    have hfree : u.noted gs TaskRec.free = TaskRec.free := rfl
    rw [hfree] at hget
    refine hnew.trans (hget.trans ?_)
    rw [hdie]
    exact (congrArg (u.noted gs) hrec).trans hsame
  · have hother : (u.onDie d (Die.noted u gs)).record die entry = u.record die entry :=
      congrArg (fun x : Die => Assoc.get TaskRec.free x.tun entry) (vget_vset_ne _ _ _ _ hd)
    exact hother.trans hrec

/-- A task in no gang that has been granted a slot. -/
structure InSlot (s u : State) (h : Word) (g : Nat) (r : TaskRec) (k : Kernel) : Prop where
  task : (u.slot g).task = h
  state : (u.slot g).state = .reserved
  pc : (u.slot g).main.pc = k.entry
  grant : (u.slot g).grant = k.use
  mgmt : u.mgmt = s.mgmt
  record : ∃ n, u.record (handleDie h) (handleEntry h) = { r with loc := some g, marks := [], placedAt := n }

/-- A slot of a state as `InSlot` says, after a step that keeps slots, and the task's record. -/
theorem InSlot.keep {s u v : State} {h : Word} {g : Nat} {r : TaskRec} {k : Kernel} (hu : InSlot s u h g r k) (hslots : v.slot g = u.slot g) (hmgmt : v.mgmt = u.mgmt)
    (hrec : v.record (handleDie h) (handleEntry h) = u.record (handleDie h) (handleEntry h)) : InSlot s v h g r k :=
  ⟨hslots ▸ hu.task, hslots ▸ hu.state, hslots ▸ hu.pc, hslots ▸ hu.grant, hmgmt.trans hu.mgmt, hrec ▸ hu.record⟩

theorem KeepsTasks.slot {s u : State} (h : KeepsTasks s u) (g : Nat) : u.slot g = s.slot g := by rw [State.slot, h.slots]; rfl

theorem grantSlot_of_single {h : Word} {g kidx : Nat} {r : TaskRec} {k : Kernel} {t : Template} (hr : s.taskOf h = some r) (hgang : r.gang = none)
    (hsaved : r.saved = 0) (hk : s.kernelRec r = some (kidx, k)) (ht : s.recordTemplate r = some t) : InSlot s (s.grantSlot h g) h g r k := by
  obtain ⟨fresh, hfresh⟩ : ∃ fresh, fresh = k.use.minus (s.alreadyShared (tileOfSlot g) k r.gang) := ⟨_, rfl⟩
  obtain ⟨u, hu⟩ : ∃ u, u = (s.initResources (tileOfSlot g) fresh).placeCode (tileOfSlot g) (r.part, r.image, kidx) := ⟨_, rfl⟩
  have hkeep : KeepsTasks s u := hu ▸ (initResources_keepsTasks ..).trans ⟨rfl, rfl, rfl⟩
  obtain ⟨v, hv⟩ : ∃ v, v = u.onSlot g (fun x => x.granted r h kidx k t.levels 0) := ⟨_, rfl⟩
  have hslot : v.slot g = (u.slot g).granted r h kidx k t.levels 0 := hv ▸ State.slot_onSlot ..
  have hvdies : v.dies = s.dies := by rw [hv]; exact hkeep.dies
  have hvmgmt : v.mgmt = s.mgmt := by rw [hv]; exact hkeep.mgmt
  have hrec : v.record (handleDie h) (handleEntry h) = r := (record_congr hvdies _ _).trans (taskOf_eq_record hr).symm
  obtain ⟨hnrec, hnslots, hnmgmt⟩ := noteOccupied_frame (s := v) [g] (die := handleDie h) (entry := handleEntry h) (.inr (by rw [hrec]; exact hsaved))
  have hntask : (v.noteOccupied [g]).taskOf h = some r := by
    rw [← hr, State.taskOf, State.taskOf, hnrec, record_congr hvdies, hnmgmt, hvmgmt]
  obtain ⟨w, hw⟩ : ∃ w, w = (v.noteOccupied [g]).onTask h (fun r => { r with loc := some g, marks := [], placedAt := (v.noteOccupied [g]).cycle }) := ⟨_, rfl⟩
  have hwslot : w.slot g = (u.slot g).granted r h kidx k t.levels 0 := by
    rw [State.slot, hw, slots_onTask, hnslots]
    exact hslot
  have hin : InSlot s w h g r k := by
    refine ⟨?_, ?_, ?_, ?_, ?_, ?_⟩
    · rw [hwslot]; rfl
    · rw [hwslot]; rfl
    · rw [hwslot]; rfl
    · rw [hwslot]; rfl
    · rw [hw, mgmt_onTask, hnmgmt, hvmgmt]
    · exact ⟨_, hw ▸ record_onTask hntask _⟩
  have hbound := bindChannels_keepsTasks w r (tileOfSlot g) (g % 4) fresh
  have hgrant : KeepsTasks (w.bindChannels r (tileOfSlot g) (g % 4) fresh) (s.grantSlot h g) := by
    rw [State.grantSlot, hr]
    simp only [hk, ht, hgang, Option.bind_none]
    rw [hw, hv, hu, hfresh, hgang]
    exact .ite ⟨rfl, rfl, rfl⟩ (.refl _)
  have hall := hbound.trans hgrant
  exact hin.keep (hall.slot g) hall.mgmt (record_congr hall.dies _ _)

/-- A slot that is not EMPTY is as it was when the empty slots of its tile have been reserved. -/
theorem reserveEmpty_frame (gt : Nat) (l : List Nat) {g : Nat} (hstate : (s.slot g).state ≠ .empty) :
    let u := l.foldl (fun s i => s.onSlot (gt * 4 + i) (fun t => if t.state == .empty then { t with state := .reserved } else t)) s
    u.slot g = s.slot g ∧ u.dies = s.dies ∧ u.mgmt = s.mgmt := by
  refine List.foldlRecOn (motive := fun u : State => u.slot g = s.slot g ∧ u.dies = s.dies ∧ u.mgmt = s.mgmt) _ _ ⟨rfl, rfl, rfl⟩ fun u hu j _ => ?_
  obtain ⟨hslot, hdies, hmgmt⟩ := hu
  refine ⟨?_, hdies, hmgmt⟩
  by_cases hj : g = gt * 4 + j
  · rw [← hj, State.slot_onSlot, hslot]
    exact if_neg (by rw [beq_iff_eq]; exact hstate)
  · exact (State.slot_onSlot_ne u _ g _ hj).trans hslot

theorem placeSingle_inSlot {h : Word} {g kidx : Nat} {r : TaskRec} {k : Kernel} {t : Template} (hr : s.taskOf h = some r) (hgang : r.gang = none)
    (hsaved : r.saved = 0) (hk : s.kernelRec r = some (kidx, k)) (ht : s.recordTemplate r = some t) : InSlot s (s.placeSingle h g) h g r k := by
  have hin := grantSlot_of_single (g := g) hr hgang hsaved hk ht
  obtain ⟨n, hrec⟩ := hin.record
  rw [State.placeSingle]
  generalize s.grantSlot h g = u at hin hrec ⊢
  dsimp only
  split
  · next q _ =>
    by_cases hq : q.fixed = true
    · rw [if_pos hq]
      obtain ⟨v, hv⟩ : ∃ v, v = u.onTile (tileOfSlot g) (fun t => { t with fixed := true }) := ⟨_, rfl⟩
      rw [← hv]
      have hvslot : v.slot g = u.slot g := by rw [hv]; rfl
      have hvdies : v.dies = u.dies := by rw [hv]; rfl
      have hvmgmt : v.mgmt = u.mgmt := by rw [hv]; rfl
      obtain ⟨hslot, hdies, hmgmt⟩ := reserveEmpty_frame (s := v) (tileOfSlot g) [0, 1, 2, 3] (g := g) (by rw [hvslot, hin.state]; decide)
      generalize [0, 1, 2, 3].foldl _ v = w at hslot hdies hmgmt ⊢
      have hwrec : w.record (handleDie h) (handleEntry h) = u.record (handleDie h) (handleEntry h) := record_congr (hdies.trans hvdies) _ _
      obtain ⟨hnrec, hnslots, hnmgmt⟩ := noteOccupied_frame (s := w) ([0, 1, 2, 3].map (tileOfSlot g * 4 + ·)) (die := handleDie h) (entry := handleEntry h)
        (.inr (by rw [hwrec, hrec]; exact hsaved))
      refine hin.keep ?_ (hnmgmt.trans (hmgmt.trans hvmgmt)) (hnrec.trans hwrec)
      rw [State.slot, hnslots]
      exact hslot.trans hvslot
    · rw [if_neg hq]
      exact hin
  · exact hin


/-- The record of a task that has been placed. -/
def TaskRec.prefetching (at_ : Nat) (r : TaskRec) : TaskRec :=
  { r with
    state := .placing, ready := .prefetch, ranges := r.prefetches.map (fun p => (p.doff, p.len))
    prefetches := r.prefetches.map (fun p => { p with since := at_ }) }

/-- A record that a live task's handle still names. -/
theorem taskOf_of_record {u : State} {h : Word} {r r' : TaskRec} (hr : s.taskOf h = some r) (hrec : u.record (handleDie h) (handleEntry h) = r')
    (hmgmt : u.mgmt = s.mgmt) (hgen : r'.gen = r.gen) (hlive : r'.state ≠ .free) : u.taskOf h = some r' := by
  have hold := taskOf_eq_record hr
  rw [State.taskOf] at hr ⊢
  rw [hrec, hmgmt]
  split at hr
  next hc =>
    rw [← hold] at hc
    simp only [Bool.and_eq_true, bne_iff_ne] at hc
    obtain ⟨⟨⟨⟨hpkg, htop⟩, hmid⟩, -⟩, hg⟩ := hc
    exact if_pos (by simp only [hpkg, htop, hmid, hgen, hg, bne_iff_ne.2 hlive, Bool.and_self])
  next => cases hr

theorem startPrefetch_of_placed {h : Word} {r : TaskRec} {g : Nat} (hr : s.taskOf h = some r) (hstate : r.state ≠ .dead) (hloc : r.loc = some g) :
    ∃ f : TaskRec → TaskRec, (∀ x, (f x).loc = x.loc ∧ (f x).state = .placing) ∧ (s.startPrefetch h).slots = s.slots ∧
      (s.startPrefetch h).record (handleDie h) (handleEntry h) = f r := by
  obtain ⟨u, hu⟩ : ∃ u, u = s.onTask h (TaskRec.prefetching s.cycle) := ⟨_, rfl⟩
  obtain ⟨v, hv⟩ : ∃ v, v = if r.prefetches.isEmpty then u else u.post (.prefetchReadIssue (dieOf (tileOfSlot (r.loc.getD 0))) [] false) := ⟨_, rfl⟩
  have hprefetch : KeepsTasks u v := hv ▸ .ite (.refl u) ⟨rfl, rfl, rfl⟩
  have hplaced : s.startPrefetch h = v.post (.taskRunnable (handleDie h) (handleEntry h)) := by
    rw [State.startPrefetch, hr, hv, hu]
    refine if_neg ?_
    rw [hloc, Bool.or_eq_true, beq_iff_eq]
    exact fun hc => hc.elim hstate Bool.false_ne_true
  rw [hu] at hprefetch
  refine ⟨TaskRec.prefetching s.cycle, fun _ => ⟨rfl, rfl⟩, ?_, ?_⟩
  · rw [hplaced, State.post_slots, hprefetch.slots, slots_onTask]
  · rw [hplaced]
    exact (record_congr hprefetch.dies _ _).trans (record_onTask hr _)

/-- What a placed task in no gang holds. -/
theorem placeNow_of_single {die kidx g : Nat} {h : Word} {r : TaskRec} {k : Kernel} {t : Template} (hr : s.taskOf h = some r) (hstate : r.state = .ready)
    (hsaved : r.saved = 0) (hgidx : r.gidx = none) (hgang : r.gang = none) (hk : s.kernelRec r = some (kidx, k)) (ht : s.recordTemplate r = some t)
    (hg : s.findSingle die r = some g) :
    ∃ u, s.placeNow die h r = some u ∧ (u.slot g).task = h ∧ (u.slot g).state = .reserved ∧ (u.slot g).main.pc = k.entry ∧ (u.slot g).grant = k.use ∧
      (u.record (handleDie h) (handleEntry h)).loc = some g ∧ (u.record (handleDie h) (handleEntry h)).state = .placing := by
  have hin := placeSingle_inSlot (g := g) hr hgang hsaved hk ht
  obtain ⟨n, hrec⟩ := hin.record
  have htask : (s.placeSingle h g).taskOf h = some { r with loc := some g, marks := [], placedAt := n } :=
    taskOf_of_record hr hrec hin.mgmt rfl (by show r.state ≠ .free; rw [hstate]; decide)
  obtain ⟨f, hf, hslots, hfrec⟩ := startPrefetch_of_placed htask (by show r.state ≠ .dead; rw [hstate]; decide) rfl
  have hslot : ((s.placeSingle h g).startPrefetch h).slot g = (s.placeSingle h g).slot g := by rw [State.slot, hslots]; rfl
  refine ⟨(s.placeSingle h g).startPrefetch h, ?_, ?_, ?_, ?_, ?_, ?_, ?_⟩
  · rw [State.placeNow, if_neg (not_not.2 hsaved), hgidx, hg]
    rfl
  · rw [hslot, hin.task]
  · rw [hslot, hin.state]
  · rw [hslot, hin.pc]
  · rw [hslot, hin.grant]
  · rw [hfrec, (hf _).1]
  · rw [hfrec, (hf _).2]


/-! The prefetches of a placed task. -/

/-- The records of every die, and which dies are lost, stay. -/
structure RecordsKept (s u : State) : Prop where
  tun : ∀ d, (u.die d).tun = (s.die d).tun
  lost : ∀ d, (u.die d).lostAt = (s.die d).lostAt
  mgmt : u.mgmt = s.mgmt

theorem RecordsKept.refl (s : State) : RecordsKept s s := ⟨fun _ => rfl, fun _ => rfl, rfl⟩
theorem RecordsKept.trans {s t u : State} (h : RecordsKept s t) (h' : RecordsKept t u) : RecordsKept s u :=
  ⟨fun d => (h'.tun d).trans (h.tun d), fun d => (h'.lost d).trans (h.lost d), h'.mgmt.trans h.mgmt⟩
theorem RecordsKept.foldl {α : Type} {f : State → α → State} (hf : ∀ s a, RecordsKept s (f s a)) (l : List α) (s : State) : RecordsKept s (l.foldl f s) :=
  List.foldlRecOn l f (motive := RecordsKept s) (.refl s) fun u hu a _ => hu.trans (hf u a)

theorem RecordsKept.record {s u : State} (h : RecordsKept s u) (d e : Nat) : u.record d e = s.record d e := by rw [State.record, h.tun]; rfl
theorem RecordsKept.taskOf {s u : State} (h : RecordsKept s u) (x : Word) : u.taskOf x = s.taskOf x := by
  rw [State.taskOf, h.record, h.mgmt]
  rfl

theorem onDie_recordsKept (s : State) (d : Nat) {f : Die → Die} (hf : ∀ x, (f x).tun = x.tun ∧ (f x).lostAt = x.lostAt) : RecordsKept s (s.onDie d f) :=
  ⟨s.die_onDie_keep d (p := Die.tun) fun x => (hf x).1, s.die_onDie_keep d (p := Die.lostAt) fun x => (hf x).2, rfl⟩

theorem onTlb_recordsKept (s : State) (n : Nat) (f : Tlb → Tlb) : RecordsKept s (s.onTlb n f) := by
  rw [State.onTlb]
  split
  · exact ⟨fun _ => rfl, fun _ => rfl, rfl⟩
  · split
    · exact onDie_recordsKept s _ fun _ => ⟨rfl, rfl⟩
    · exact onDie_recordsKept s _ fun _ => ⟨rfl, rfl⟩

theorem walked_recordsKept (s : State) (part : Nat) (va : Word) : RecordsKept s (s.walked part va) := by
  rw [State.walked]
  split
  · exact .refl s
  · generalize s.walk part va = r
    have hcount : RecordsKept s (if r.2 = 0 then s else s.countDie (shardOf va) 0 r.2) := by
      split
      · exact .refl s
      · exact onDie_recordsKept s _ fun _ => ⟨rfl, rfl⟩
    obtain ⟨o, n⟩ := r
    cases o with
    | none => exact hcount
    | some e => exact hcount.trans (onTlb_recordsKept _ _ _)

theorem readDone_recordsKept (s : State) (p : Issuer) (r : CoreRead) : RecordsKept s (s.readDone p r) := by
  obtain ⟨htun, hlost, hmgmt⟩ := RecordsKept.foldl (fun u va => walked_recordsKept u p.part va) r.at_ s
  exact ⟨htun, hlost, hmgmt⟩

/-- The prefetches of a record, those of one pair changed. -/
def TaskRec.onPair (w : Nat) (f : Prefetch → Prefetch) (r : TaskRec) : TaskRec := { r with prefetches := r.prefetches.map (fun x => if x.word == w then f x else x) }

theorem onPrefetches_one (s : State) (h : Word) (r : TaskRec) (p : Prefetch) (f : Prefetch → Prefetch) :
    s.onPrefetches [(h, r, p)] f = s.onTask h (TaskRec.onPair p.word f) := rfl

/-- What holds of every changed pair holds of each pair of that word. -/
theorem forall_onPair {w : Nat} {f : Prefetch → Prefetch} {r : TaskRec} {P : Prefetch → Prop} (hf : ∀ x, P (f x)) :
    ∀ x ∈ (r.onPair w f).prefetches, x.word = w → P x := by
  intro x hx hw
  obtain ⟨y, -, rfl⟩ := List.mem_map.1 hx
  by_cases hy : y.word = w
  · rw [if_pos (beq_iff_eq.2 hy)]
    exact hf y
  · rw [if_neg (by rw [beq_iff_eq]; exact hy)] at hw
    exact absurd hw hy

variable {die : Nat} {h : Word} {r : TaskRec} {p : Prefetch}

/-- A read that has not been issued waits until it is 256 cycles old. -/
theorem prefetch_early (hl : s.pendingPrefetches die = [(h, r, p)]) (hi : p.issued = none) (ht : s.cycle < p.since + 256) :
    Gives (.prefetchReadIssue die [] false) s (s.later (.prefetchReadIssue die [] false)) := by
  have hexec : exec (.prefetchReadIssue die [] false) s = execPrefetchReadIssue die [] false s := rfl
  rw [Gives, hexec, execPrefetchReadIssue, hl]
  simp only [List.find?_singleton, hi, Option.isSome_none, Bool.false_eq_true, if_false, List.foldl_cons, List.foldl_nil]
  exact congrArg Host.Outcome.next (if_pos ht)

theorem prefetch_issues (hl : s.pendingPrefetches die = [(h, r, p)]) (hi : p.issued = none) (ht : p.since + 256 ≤ s.cycle) : ∃ u, RecordsKept s u ∧ u.mem = s.mem ∧
    u.slots = s.slots ∧ u.agenda = s.agenda ∧ Gives (.prefetchReadIssue die [] false) s
      ((u.onTask h (TaskRec.onPair p.word (fun x => { x with issued := some s.nextId }))).post (.prefetchReadIssue die [] false)) := by
  obtain ⟨u, hu⟩ : ∃ u, u = s.fresh.2.onDie die (fun d => { d with merged := d.merged + ([(h, r, p)].length - 1) }) := ⟨_, rfl⟩
  have hkept : RecordsKept s u := by
    obtain ⟨htun, hlost, hmgmt⟩ := onDie_recordsKept s.fresh.2 die (f := fun d => { d with merged := d.merged + ([(h, r, p)].length - 1) }) fun _ => ⟨rfl, rfl⟩
    rw [hu]
    exact ⟨htun, hlost, hmgmt⟩
  refine ⟨u, hkept, hu ▸ rfl, hu ▸ rfl, hu ▸ rfl, ?_⟩
  have hexec : exec (.prefetchReadIssue die [] false) s = execPrefetchReadIssue die [] false s := rfl
  have hjoin : [(h, r, p)].filter (joins r p) = [(h, r, p)] := by
    rw [List.filter_singleton, joins]
    simp only [beq_self_eq_true, Bool.and_self, cond_true]
  rw [Gives, hexec, execPrefetchReadIssue, hl]
  simp only [List.find?_singleton, hi, Option.isSome_none, Bool.false_eq_true, if_false, List.foldl_cons, List.foldl_nil, hjoin]
  rw [hu]
  exact congrArg Host.Outcome.next (if_neg (Nat.not_lt.2 ht))

theorem prefetch_continues {n : Nat} (hl : s.pendingPrefetches die = [(h, r, p)]) (hi : p.issued = some n) :
    Gives (.prefetchReadIssue die [] false) s (s.prefetchSegment die [] false [(h, r, p)] r p) := by
  have hexec : exec (.prefetchReadIssue die [] false) s = execPrefetchReadIssue die [] false s := rfl
  have hmine : [(h, r, p)].filter (fun e => e.2.2.issued == p.issued) = [(h, r, p)] := by rw [List.filter_singleton, beq_self_eq_true]; rfl
  rw [Gives, hexec, execPrefetchReadIssue, hl]
  simp only [List.find?_singleton, hi, Option.isSome_some, if_true]
  rw [← hi, hmine]


/-- The bytes of the next segment of a prefetch. -/
def Prefetch.segment (p : Prefetch) : Nat := min (p.len - p.done) (256 - (p.src + wordN p.done).toNat % 256)

/-- Who reads the next segment of a prefetch. -/
def State.prefetcher (s : State) (r : TaskRec) (g n : Nat) : Issuer := { Issuer.device r.part (s.sourceNo (tileOfSlot g) 6) n with super := r.sys }

/-- The read of the next segment of a prefetch. -/
def State.prefetchRead (s : State) (r : TaskRec) (p : Prefetch) (g n : Nat) : CoreRead :=
  s.coreBytes (s.prefetcher r g n) (p.src + wordN p.done) p.segment [] false

/-- A pair with one more segment. -/
def Prefetch.extended (m len done : Nat) (x : Prefetch) : Prefetch := { x with done := done + m, outcome := if len ≤ done + m then some true else none }

theorem prefetchSegment_faults {g n : Nat} (hloc : r.loc = some g) (hi : p.issued = some n) (hfault : (s.prefetchRead r p g n).fault = true) :
    s.prefetchSegment die [] false [(h, r, p)] r p = ((s.readDone (s.prefetcher r g n) (s.prefetchRead r p g n)).onTask h
      (TaskRec.onPair p.word (fun x => { x with outcome := some false }))).post (.prefetchReadIssue die [] false) := by
  rw [State.prefetchSegment, hloc, hi]
  exact if_pos hfault

theorem prefetchSegment_reads {g n : Nat} (hloc : r.loc = some g) (hi : p.issued = some n) (hfault : (s.prefetchRead r p g n).fault = false)
    (hneed : (s.prefetchRead r p g n).need = []) (hlines : (s.prefetchRead r p g n).lines = []) :
    s.prefetchSegment die [] false [(h, r, p)] r p = ((((s.readDone (s.prefetcher r g n) (s.prefetchRead r p g n)).writeTarget
      (.tile (tileOfSlot g) (p.doff + p.done)) (s.prefetchRead r p g n).bytes (s.prefetchRead r p g n).bad)).onTask h
        (TaskRec.onPair p.word (Prefetch.extended p.segment p.len p.done))).post (.prefetchReadIssue die [] false) := by
  have hwaits := readWaits_of_all (s := s) (p := s.prefetcher r g n) (ev := .prefetchReadIssue die [] false) hneed hlines
  rw [State.prefetchSegment, hloc, hi]
  refine (if_neg (Bool.eq_false_iff.1 hfault)).trans ?_
  show (match s.readWaits (s.prefetcher r g n) (s.prefetchRead r p g n) (.prefetchReadIssue die [] false) with
    | some s => s
    | none => _) = _
  rw [hwaits]
  simp only [List.foldl_cons, List.foldl_nil, hloc]
  rfl

/-- Bytes written to a tile: nothing but memory and marks changes, and what memory holds then does not depend on the rest. -/
theorem writeTile_frame (s : State) (gt off : Nat) (bs : Bytes) (bad : Bool) : RecordsKept s (s.writeTarget (.tile gt off) bs bad) ∧
    (s.writeTarget (.tile gt off) bs bad).slots = s.slots ∧ (s.writeTarget (.tile gt off) bs bad).agenda = s.agenda := by
  rw [State.writeTarget, State.writeMark]
  split
  · exact ⟨.refl s, rfl, rfl⟩
  · split <;> exact ⟨⟨fun _ => rfl, fun _ => rfl, rfl⟩, rfl, rfl⟩

theorem mem_writeTile {u : State} (hk : RecordsKept s u) (hmem : u.mem = s.mem) (gt off : Nat) (bs : Bytes) (bad : Bool) :
    (u.writeTarget (.tile gt off) bs bad).mem = (s.writeTarget (.tile gt off) bs bad).mem := by
  have hlost : u.lostDie (dieOf gt) = s.lostDie (dieOf gt) := congrArg Option.isSome (hk.lost _)
  rw [State.writeTarget, State.writeTarget, State.writeMark, State.writeMark]
  rw [hlost]
  split
  · exact hmem
  · split <;> exact congrArg (fun m => Memory.write m (sramKey gt off) bs) hmem

/-! Starting a task. -/

/-- A record whose prefetches are over. -/
def TaskRec.fetched (r : TaskRec) : TaskRec := { r with ready := .runnable }

theorem taskRunnable_of_over {k : Nat} (hstate : (s.record die k).state = .placing) (hready : (s.record die k).ready = .prefetch)
    (hover : ∀ p ∈ (s.record die k).prefetches, p.outcome ≠ none) :
    exec (.taskRunnable die k) s = .next ((s.onRecord die k TaskRec.fetched).post (.taskStart die k)) := by
  refine congrArg Host.Outcome.next ((if_neg ?_).trans (if_neg ?_))
  · rw [hstate, hready]
    exact Bool.false_ne_true
  · rw [List.any_eq_true]
    rintro ⟨p, hp, hnone⟩
    exact hover p hp (Option.isNone_iff_eq_none.1 hnone)

theorem taskRunnable_waits {k : Nat} (hstate : (s.record die k).state = .placing) (hready : (s.record die k).ready = .prefetch)
    (hwait : ∃ p ∈ (s.record die k).prefetches, p.outcome = none) : exec (.taskRunnable die k) s = .next (s.later (.taskRunnable die k)) := by
  obtain ⟨p, hp, hnone⟩ := hwait
  refine congrArg Host.Outcome.next ((if_neg ?_).trans (if_pos ?_))
  · rw [hstate, hready]
    exact Bool.false_ne_true
  · exact List.any_eq_true.2 ⟨p, hp, by rw [hnone]; rfl⟩

theorem taskStart_of_single {k : Nat} (hrec : s.record die k = r) (hstate : r.state = .placing) (hready : r.ready = .runnable) (hsaved : r.saved = 0)
    (hgang : r.gang = none) (hspawned : r.spawned = false) : exec (.taskStart die k) s = .next (s.startTask (s.handleOf die k) r) := by
  have hunit : s.startUnit (s.handleOf die k) r = [(s.handleOf die k, r)] := by rw [State.startUnit, hgang]; rfl
  have hexec : exec (.taskStart die k) s = execTaskStart die k s := rfl
  rw [hexec, execTaskStart, hrec]
  refine congrArg Host.Outcome.next ((if_neg ?_).trans ((if_neg ?_).trans ?_))
  · rw [hstate, hready, hsaved]
    decide
  · rw [hspawned]
    exact Bool.false_ne_true
  · rw [hunit]
    refine (if_neg ?_).trans rfl
    simp only [List.any_cons, List.any_nil, hready, bne_self_eq_false, Bool.or_self, Bool.false_eq_true, not_false_eq_true]

/-- A slot whose task starts. -/
def Slot.started (arg n : Word) (t : Slot) : Slot := { t with state := .issue, main := (t.main.set 1 arg).set 2 n }

/-- A record whose task starts. -/
def TaskRec.started (r : TaskRec) : TaskRec := { r with state := .running, ready := .none, prefetches := [] }

theorem startTask_of_single {g : Nat} (hloc : r.loc = some g) (hstart : r.start = none) (hlost : s.lostDie (dieOf (tileOfSlot g)) = false) :
    s.startTask h r = ((s.writeMem (sramKey (tileOfSlot g) (0x3FC000 + 0x100 * (g % 4))) (s.argBlock h r (tileOfSlot g))).onSlot g
      (Slot.started (s.windowAddr (tileOfSlot g) (0x3FC000 + 0x100 * (g % 4))) (wordN (r.prefetches.filter (fun p => p.outcome == some true)).length))).onTask h
        TaskRec.started := by
  have hwrite (off : Nat) (bs : Bytes) : s.writeTarget (.tile (tileOfSlot g) off) bs false = s.writeMem (sramKey (tileOfSlot g) off) bs :=
    if_neg (Bool.eq_false_iff.1 hlost)
  rw [State.startTask, hloc]
  simp only [hwrite, hstart]
  rfl

theorem gangCycleResume_of_time {k c : Nat} {q : Gang} (hq : Assoc.find s.gangs k = some q) (hc : q.resumeAt = some c) :
    exec (.gangCycleResume k) s = .next (if s.cycle < c then s.later (.gangCycleResume k)
      else { s with gangs := Assoc.set s.gangs k { q with stalled := false, resumeAt := none } }) := by
  have hexec : exec (.gangCycleResume k) s = execGangCycleResume k s := rfl
  rw [hexec, execGangCycleResume, hq]
  simp only [hc]
  rw [State.onGang, hq]


end

/-- Settles O43: the arbiter's one rival gets its turn; placing, prefetching and starting a task change its slot and record as their rules say. -/
theorem dispatch : Obligations.Dispatch := by
  intro s die part hdie
  refine ⟨fun hchosen => ?_, fun k r hchosen hq hturn hweight hcost => ?_, fun k r hturn hspawned hchosen => ?_, fun h r p g hl hr hh hloc => ?_,
    fun k hstate hready => ?_, fun k r g hr hh hrec hstate hready hsaved hgang hspawned hstart hloc hlost => ?_, fun k q c hq hc => ?_⟩
  · refine congrArg Host.Outcome.next (if_pos ?_)
    rw [Option.isSome_iff_ne_none.2 hchosen]
    rfl
  · obtain ⟨rs, d, u, w, hu, hexec⟩ := dispatchSelect_of_one hchosen hq hturn hweight hcost
    obtain ⟨hmem, hslots, hdies, hagenda, hcycle⟩ := charged_frame (s := s.draw.2) die part rs d
    rw [← hu] at hmem hslots hdies hagenda hcycle
    have htold := resetDeficits_told (u.onRecord die k (TaskRec.taken u.cycle)) die part w.queue w.cls
    have hrec : (((u.onRecord die k (TaskRec.taken u.cycle)).resetDeficits die part w.queue w.cls).post (.place die part)).record die k =
        (u.record die k).taken u.cycle := (record_congr htold.dies die k).trans (record_onRecord ..)
    refine ⟨_, hexec, htold.mem.trans hmem, htold.slots.trans hslots, ?_, ?_, ?_⟩
    · exact congrArg (· ++ _) ((agenda_resetDeficits ..).trans hagenda)
    · rw [hrec]; rfl
    · rw [hrec]; exact hcycle
  · have hturn' : ¬(!s.hasTurn die 64 part) = true := by rw [hturn]; exact Bool.false_ne_true
    have hexec : exec (.place die part) s = .next (match s.placeNow die (s.handleOf die k) r with
        | some s => s.post (.dispatchSelect die part)
        | none => (s.later (.place die part)).later (.preemptTrigger die part)) := by
      have hplace : exec (.place die part) s = execPlace die part s := rfl
      rw [hplace, execPlace, if_neg hturn', placeSpawned_of_none hspawned]
      dsimp only
      rw [hchosen] <;> rfl
    refine ⟨fun u hu => hexec.trans (by rw [hu]; rfl), fun hu => hexec.trans (by rw [hu]), fun g kidx kern tm hr hh hsaved hgidx hgang hk ht hg => ?_⟩
    have hstate : r.state = .ready := by
      have hfound := List.find?_some hchosen
      simp only [Bool.and_eq_true, beq_iff_eq] at hfound
      exact hfound.2
    exact placeNow_of_single hr hstate hsaved hgidx hgang hk ht hg
  · refine ⟨fun hi ht => prefetch_early hl hi ht, fun hi ht => ?_, fun n hi => ?_⟩
    · obtain ⟨u, hkept, hmem, hslots, hagenda, hgives⟩ := prefetch_issues hl hi ht
      refine ⟨_, hgives, (mem_onTask ..).trans hmem, (slots_onTask ..).trans hslots, congrArg (· ++ _) ((agenda_onTask ..).trans hagenda), ?_⟩
      have hrec : recOf ((u.onTask h (TaskRec.onPair p.word (fun x => { x with issued := some s.nextId }))).post (.prefetchReadIssue die [] false)) h =
          r.onPair p.word (fun x => { x with issued := some s.nextId }) := record_onTask ((hkept.taskOf h).trans hr) _
      rw [hrec]
      exact forall_onPair fun _ => rfl
    · have hseg := prefetch_continues hl hi
      have hdone := readDone_unmoved s (s.prefetcher r g n) (s.prefetchRead r p g n)
      have hkept := readDone_recordsKept s (s.prefetcher r g n) (s.prefetchRead r p g n)
      refine ⟨fun hfault hneed hlines => ?_, fun hfault => ?_⟩
      · rw [prefetchSegment_reads hloc hi hfault hneed hlines] at hseg
        obtain ⟨hkept', hslots, hagenda⟩ := writeTile_frame (s.readDone (s.prefetcher r g n) (s.prefetchRead r p g n)) (tileOfSlot g) (p.doff + p.done)
          (s.prefetchRead r p g n).bytes (s.prefetchRead r p g n).bad
        have hmem := mem_writeTile hkept hdone.mem (tileOfSlot g) (p.doff + p.done) (s.prefetchRead r p g n).bytes (s.prefetchRead r p g n).bad
        refine ⟨_, hseg, (mem_onTask ..).trans hmem, (slots_onTask ..).trans (hslots.trans hdone.slots),
          congrArg (· ++ _) ((agenda_onTask ..).trans (hagenda.trans hdone.agenda)), ?_⟩
        have hrec := record_onTask ((hkept'.taskOf h).trans ((hkept.taskOf h).trans hr)) (TaskRec.onPair p.word (Prefetch.extended p.segment p.len p.done))
        refine fun x hx hw => forall_onPair (r := r) (P := fun x => x.done = p.done + p.segment ∧ x.outcome = if p.len ≤ p.done + p.segment then some true else none)
          (f := Prefetch.extended p.segment p.len p.done) (fun _ => ⟨rfl, rfl⟩) x ?_ hw
        rw [← hrec]
        exact hx
      · rw [prefetchSegment_faults hloc hi hfault] at hseg
        refine ⟨_, hseg, (mem_onTask ..).trans hdone.mem, (slots_onTask ..).trans hdone.slots, ?_⟩
        have hrec := record_onTask ((hkept.taskOf h).trans hr) (TaskRec.onPair p.word (fun x => { x with outcome := some false }))
        refine fun x hx hw => forall_onPair (r := r) (P := fun x => x.outcome = some false) (f := fun x => { x with outcome := some false }) (fun _ => rfl) x ?_ hw
        rw [← hrec]
        exact hx
  · refine ⟨fun hover => ⟨_, taskRunnable_of_over hstate hready hover, ?_, rfl, rfl, rfl⟩, fun hwait => taskRunnable_waits hstate hready hwait⟩
    exact congrArg TaskRec.ready (record_onRecord s die k TaskRec.fetched)
  · have hexec := taskStart_of_single hrec hstate hready hsaved hgang hspawned
    rw [startTask_of_single hloc hstart hlost] at hexec
    obtain ⟨u, hu⟩ : ∃ u, u = s.writeMem (sramKey (tileOfSlot g) (0x3FC000 + 0x100 * (g % 4))) (s.argBlock (s.handleOf die k) r (tileOfSlot g)) := ⟨_, rfl⟩
    rw [← hu] at hexec
    obtain ⟨v, hv⟩ : ∃ v, v = u.onSlot g (Slot.started (s.windowAddr (tileOfSlot g) (0x3FC000 + 0x100 * (g % 4)))
      (wordN (r.prefetches.filter (fun p => p.outcome == some true)).length)) := ⟨_, rfl⟩
    rw [← hv] at hexec
    have hslot : (v.onTask (s.handleOf die k) TaskRec.started).slot g = (s.slot g).started (s.windowAddr (tileOfSlot g) (0x3FC000 + 0x100 * (g % 4)))
        (wordN (r.prefetches.filter (fun p => p.outcome == some true)).length) := by
      rw [State.slot, slots_onTask, ← State.slot, hv, State.slot_onSlot, hu]
      rfl
    have htask : v.taskOf (s.handleOf die k) = some r := by
      rw [← hr, hv, hu]
      rfl
    refine ⟨_, hexec, ?_, ?_, ⟨?_, ?_⟩, ?_, ?_, ?_⟩
    · rw [hslot]; rfl
    · rw [hslot]; rfl
    · rw [mem_onTask, hv, hu]; rfl
    · rw [hslot, Slot.started, Flow.get_set, Flow.get_set]
      rfl
    · rw [hslot, Slot.started, Flow.get_set]
      rfl
    · rw [hslot]; rfl
    · exact congrArg TaskRec.state (record_onTask htask TaskRec.started)
  · have hexec := gangCycleResume_of_time hq hc
    refine ⟨fun h => hexec.trans (congrArg Host.Outcome.next (if_pos h)), fun h => ⟨_, hexec.trans (congrArg Host.Outcome.next (if_neg (Nat.not_lt.2 h))), rfl, ?_⟩⟩
    exact (Assoc.find_set ..).trans (if_pos rfl)

end Sys2Proof.Machine

namespace Sys2Proof.Machine

open Sys2Proof.Claims

set_option Elab.async false

/-! ## Pre-emption (spec/13 R282 to R290; spec/14 R311; spec/15 R326) -/

section
variable {s : State}

/-! What the operations of a pre-emption leave alone. -/

/-- Slots, records and lost dies stay. -/
structure TasksKept (s u : State) : Prop where
  slots : u.slots = s.slots
  records : RecordsKept s u

theorem TasksKept.refl (s : State) : TasksKept s s := ⟨rfl, .refl s⟩
theorem TasksKept.trans {s t u : State} (h : TasksKept s t) (h' : TasksKept t u) : TasksKept s u :=
  ⟨h'.slots.trans h.slots, h.records.trans h'.records⟩
theorem TasksKept.foldl {α : Type} {f : State → α → State} (hf : ∀ s a, TasksKept s (f s a)) (l : List α) (s : State) : TasksKept s (l.foldl f s) :=
  List.foldlRecOn l f (motive := TasksKept s) (.refl s) fun u hu a _ => hu.trans (hf u a)
theorem TasksKept.ite {s t u : State} {c : Prop} [Decidable c] (h : TasksKept s t) (h' : TasksKept s u) : TasksKept s (if c then t else u) := by
  by_cases hc : c
  · rwa [if_pos hc]
  · rwa [if_neg hc]
theorem TasksKept.slot {s u : State} (h : TasksKept s u) (g : Nat) : u.slot g = s.slot g := by rw [State.slot, h.slots]; rfl

/-- An operation that leaves slots, dies and registers alone. -/
theorem KeepsTasks.kept {s u : State} (h : KeepsTasks s u) : TasksKept s u :=
  ⟨h.slots, fun d => by rw [State.die, h.dies]; rfl, fun d => by rw [State.die, h.dies]; rfl, h.mgmt⟩
theorem Told.kept {s u : State} (h : Told s u) : TasksKept s u := h.keepsTasks.kept

theorem onTile_kept (s : State) (gt : Nat) (f : Tile → Tile) : TasksKept s (s.onTile gt f) := ⟨rfl, fun _ => rfl, fun _ => rfl, rfl⟩
theorem writeMem_kept (s : State) (k : Nat) (bs : Bytes) : TasksKept s (s.writeMem k bs) := ⟨rfl, fun _ => rfl, fun _ => rfl, rfl⟩
theorem onPart_kept (s : State) (p : Nat) (f : Partition → Partition) : TasksKept s (s.onPart p f) := ⟨rfl, fun _ => rfl, fun _ => rfl, rfl⟩
theorem post_kept (s : State) (i : Instr) : TasksKept s (s.post i) := ⟨rfl, fun _ => rfl, fun _ => rfl, rfl⟩

theorem walked_kept (s : State) (part : Nat) (va : Word) : TasksKept s (s.walked part va) := ⟨(walked_unmoved s part va).slots, walked_recordsKept s part va⟩

theorem writeMark_kept (s : State) (k : Nat) (bs : Bytes) (bad : Bool) : TasksKept s (s.writeMark k bs bad) :=
  .ite ⟨rfl, fun _ => rfl, fun _ => rfl, rfl⟩ ⟨rfl, fun _ => rfl, fun _ => rfl, rfl⟩

theorem retag_kept (s : State) (k n key : Nat) : TasksKept s (s.retag k n key) := by
  refine .foldl (fun u i => ?_) _ _
  exact .ite (.refl u) ⟨rfl, fun _ => rfl, fun _ => rfl, rfl⟩

theorem writeKeyed_kept (s : State) (k : Nat) (bs : Bytes) (page : Nat) (bad : Bool) : TasksKept s (s.writeKeyed k bs page bad) := by
  rw [State.writeKeyed]
  refine TasksKept.trans ?_ (writeMark_kept ..)
  exact .ite (.refl s) (retag_kept ..)

theorem writeTarget_kept (s : State) (t : Target) (bs : Bytes) (bad : Bool) : TasksKept s (s.writeTarget t bs bad) := by
  cases t with
  | tile g off => exact .ite (.refl s) (writeMark_kept ..)
  | dram d off key => exact .ite (.refl s) (writeKeyed_kept ..)
  | _ => exact .refl s

theorem sendWrite_kept (s : State) (id part src : Nat) (super : Bool) (va : Word) (t : Target) (bs : Bytes) (bad : Bool) (enable : List (Nat × Nat)) :
    TasksKept s (s.sendWrite id part src super va t bs bad enable) := by
  cases t with
  | remoteTile pkg gt off => exact (sendPacket_told ..).kept
  | peer pkg => exact (sendPacket_told ..).kept
  | host pa => exact ⟨rfl, fun _ => rfl, fun _ => rfl, rfl⟩
  | _ => exact .refl _

theorem sendBlock_kept (s : State) (p : Issuer) (t : Target) (va : Word) (bs : Bytes) (bad : Bool) (wake : Option Instr) :
    TasksKept s (s.sendBlock p t va bs bad wake).2 := by
  refine TasksKept.trans ?_ (sendWrite_kept ..)
  exact ⟨rfl, fun _ => rfl, fun _ => rfl, rfl⟩

theorem deviceWrite_kept {part src : Nat} {va : Word} {bs : Bytes} {u : State} (h : s.deviceWrite part src va bs = some u) : TasksKept s u := by
  obtain ⟨t, -, rfl⟩ := Option.map_eq_some_iff.1 h
  exact (walked_kept s part va).trans (.ite (sendBlock_kept ..) (writeTarget_kept ..))

theorem deviceWriteRun_kept {part src fuel : Nat} {va : Word} {bs : Bytes} {u : State} (h : s.deviceWriteRun part src fuel va bs = some u) : TasksKept s u := by
  induction fuel generalizing s va bs with
  | zero => exact Option.some.inj h ▸ .refl s
  | succ n ih =>
    rw [State.deviceWriteRun] at h
    split at h
    · exact Option.some.inj h ▸ .refl s
    · dsimp only at h
      split at h
      · next v hv => exact (deviceWrite_kept hv).trans (ih h)
      · cases h

theorem appendLog_kept (s : State) (part : Nat) (record : Bytes) : TasksKept s (s.appendLog part record) := by
  rw [State.appendLog]
  refine .ite (onPart_kept ..) ?_
  split
  · next u hu => exact (deviceWrite_kept hu).trans (onPart_kept ..)
  · exact (onPart_kept s part _).trans (walked_kept ..)


theorem onDie_kept (s : State) (d : Nat) {f : Die → Die} (hf : ∀ x, (f x).tun = x.tun ∧ (f x).lostAt = x.lostAt) : TasksKept s (s.onDie d f) :=
  ⟨rfl, onDie_recordsKept s d hf⟩

theorem onTlb_kept (s : State) (n : Nat) (f : Tlb → Tlb) : TasksKept s (s.onTlb n f) := ⟨(onTlb_quiet s n f).slots, onTlb_recordsKept s n f⟩

theorem unask_kept (s : State) (asker tlb : Nat) (which : Word → Bool) : TasksKept s (s.unask asker tlb which) := by
  refine (onTlb_kept s tlb _).trans (.foldl (fun u d => ?_) _ _)
  exact .ite (.refl u) (onDie_kept u d fun _ => ⟨rfl, rfl⟩)

theorem closeInbox_kept (s : State) (g : Nat) (killed : Bool) : TasksKept s (s.closeInbox g killed) := by
  rw [State.closeInbox]
  exact .ite (TasksKept.trans (.ite (onTile_kept ..) (.refl s)) (onTile_kept ..)) (.refl s)

/-- Every other change of slots leaves a slot alone that it does not change. -/
theorem foldl_onSlot_fixed (l : List Nat) (k : Nat → Nat) {f : Slot → Slot} {g : Nat} (hf : f (s.slot g) = s.slot g) :
    (l.foldl (fun s o => s.onSlot (k o) f) s).slot g = s.slot g ∧ RecordsKept s (l.foldl (fun s o => s.onSlot (k o) f) s) := by
  refine List.foldlRecOn (motive := fun u : State => u.slot g = s.slot g ∧ RecordsKept s u) _ _ ⟨rfl, .refl s⟩ fun u hu o _ => ?_
  obtain ⟨hslot, hkept⟩ := hu
  refine ⟨?_, hkept.trans ⟨fun _ => rfl, fun _ => rfl, rfl⟩⟩
  by_cases ho : g = k o
  · rw [← ho, State.slot_onSlot, hslot, hf]
  · exact (State.slot_onSlot_ne u _ g _ ho).trans hslot

/-- What RESERVED slots given up leave of a slot that is not RESERVED. -/
theorem unreserve_fixed (l : List Nat) {g : Nat} (hg : (s.slot g).state ≠ .reserved) :
    (l.foldl (fun s o => s.unreserve o) s).slot g = s.slot g ∧ RecordsKept s (l.foldl (fun s o => s.unreserve o) s) :=
  foldl_onSlot_fixed l id (if_neg (by rw [beq_iff_eq]; exact hg))

/-- A slot that holds no task and is EMPTY, and records as before. -/
structure Left (s u : State) (g : Nat) : Prop where
  task : (u.slot g).task = 0
  state : (u.slot g).state = .empty
  records : RecordsKept s u

theorem Left.keep {s u v : State} {g : Nat} (h : Left s u g) (hslot : v.slot g = u.slot g) (hrec : RecordsKept u v) : Left s v g :=
  ⟨hslot ▸ h.task, hslot ▸ h.state, h.records.trans hrec⟩

theorem leaveSlot_left (s : State) (g : Nat) : Left s (s.leaveSlot g) g := by
  obtain ⟨others, hothers⟩ : ∃ others, others = ([0, 1, 2, 3].map (fun i => tileOfSlot g * 4 + i)).filter (· != g) := ⟨_, rfl⟩
  have hkept : TasksKept s ((s.closeInbox g false).clearAnswers g) := (closeInbox_kept s g false).trans (unask_kept ..)
  rw [State.leaveSlot]
  dsimp only
  rw [← hothers]
  generalize (s.closeInbox g false).clearAnswers g = u at hkept ⊢
  generalize hv : List.foldl _ u _ = v
  have hunbound : TasksKept u v := by
    rw [← hv]
    refine .foldl (fun v c => ?_) _ _
    exact .ite (.refl v) (onChan_keepsTasks ..).kept
  generalize hw : State.onSlot _ g _ = w
  have hleft : Left s w g := by
    have hslot : w.slot g = (v.slot g).vacated .empty := by rw [← hw]; exact State.slot_onSlot ..
    refine ⟨by rw [hslot]; rfl, by rw [hslot]; rfl, (hkept.trans hunbound).records.trans ?_⟩
    rw [← hw]
    exact ⟨fun _ => rfl, fun _ => rfl, rfl⟩
  have hstate : (w.slot g).state ≠ .reserved := by rw [hleft.state]; decide
  split
  · by_cases hfixed : (w.tile (tileOfSlot g)).fixed = true
    · rw [if_pos hfixed]
      obtain ⟨hslot, hrec⟩ := unreserve_fixed others hstate
      exact hleft.keep hslot (hrec.trans (onTile_kept ..).records)
    · rw [if_neg hfixed]
      exact hleft
  · next k _ =>
    split
    · exact hleft
    · next q _ =>
      have hgang := (onGang_told w k (fun q => { q with granted := Assoc.erase q.granted (tileOfSlot g) })).kept
      generalize w.onGang k _ = x at hgang ⊢
      have hleft' : Left s x g := hleft.keep (hgang.slot g) hgang.records
      obtain ⟨hslot, hrec⟩ := unreserve_fixed (s := x) q.slots (g := g) (by rw [hleft'.state]; decide)
      have hempty : Left s (q.slots.foldl (fun s m => s.unreserve m) x) g := hleft'.keep hslot hrec
      split
      · exact hleft'
      · split
        · have hunfix : TasksKept _ (q.slots.foldl (fun s m => s.unfix (tileOfSlot m)) (q.slots.foldl (fun s m => s.unreserve m) x)) :=
            .foldl (fun y m => onTile_kept y _ _) _ _
          exact hempty.keep (hunfix.slot g) hunfix.records
        · exact hempty


/-! Closing the channels of a saved task. -/

/-- The module's registers stay, and of a record at most the endpoints that it parks change. -/
structure ParkedOnly (s u : State) : Prop where
  mgmt : u.mgmt = s.mgmt
  record : ∀ d e, ∃ cs, u.record d e = { s.record d e with parkedChans := cs }

theorem ParkedOnly.trans {s t u : State} (h : ParkedOnly s t) (h' : ParkedOnly t u) : ParkedOnly s u := by
  refine ⟨h'.mgmt.trans h.mgmt, fun d e => ?_⟩
  obtain ⟨cs, hcs⟩ := h.record d e
  obtain ⟨cs', hcs'⟩ := h'.record d e
  exact ⟨cs', by rw [hcs', hcs]⟩
theorem RecordsKept.parked {s u : State} (h : RecordsKept s u) : ParkedOnly s u := ⟨h.mgmt, fun d e => ⟨_, h.record d e⟩⟩
theorem TasksKept.parked {s u : State} (h : TasksKept s u) : ParkedOnly s u := h.records.parked
theorem ParkedOnly.refl (s : State) : ParkedOnly s s := (TasksKept.refl s).parked
theorem ParkedOnly.foldl {α : Type} {f : State → α → State} (hf : ∀ s a, ParkedOnly s (f s a)) (l : List α) (s : State) : ParkedOnly s (l.foldl f s) :=
  List.foldlRecOn l f (motive := ParkedOnly s) (.refl s) fun u hu a _ => hu.trans (hf u a)
theorem ParkedOnly.ite {s t u : State} {c : Prop} [Decidable c] (h : ParkedOnly s t) (h' : ParkedOnly s u) : ParkedOnly s (if c then t else u) := by
  by_cases hc : c
  · rwa [if_pos hc]
  · rwa [if_neg hc]

/-- A record whose parked endpoint of a channel changes. -/
def TaskRec.onEnd (part serial chan : Nat) (side : Side) (f : Endpoint → Endpoint) (r : TaskRec) : TaskRec :=
  if r.state != .free && r.part == part && r.serial == serial && !r.parkedChans.isEmpty then
    { r with parkedChans := r.parkedChans.map (fun c => if c.2.chan == chan && c.2.side == side then (c.1, f c.2) else c) }
  else r

theorem onEnd_parked (part serial chan : Nat) (side : Side) (f : Endpoint → Endpoint) (r : TaskRec) : ∃ cs, r.onEnd part serial chan side f = { r with parkedChans := cs } := by
  rw [TaskRec.onEnd]
  split
  · exact ⟨_, rfl⟩
  · exact ⟨_, rfl⟩

/-- A die whose records each change by a function. -/
def Die.mapTun (f : TaskRec → TaskRec) (q : Die) : Die := { q with tun := q.tun.map (fun e : Nat × TaskRec => (e.1, f e.2)) }

theorem onParked_eq (part serial chan : Nat) (side : Side) (f : Endpoint → Endpoint) :
    s.onParked part serial chan side f = [0, 1, 2, 3].foldl (fun s d => s.onDie d (Die.mapTun (TaskRec.onEnd part serial chan side f))) s := by
  rw [State.onParked]
  refine congrArg (fun f => List.foldl f s [0, 1, 2, 3]) (funext fun u => funext fun d => congrArg (u.onDie d) (funext fun q => ?_))
  refine congrArg (fun f => { q with tun := q.tun.map f }) (funext fun (e : Nat × TaskRec) => ?_)
  rw [TaskRec.onEnd]
  split <;> rfl

theorem onParked_parked (s : State) (part serial chan : Nat) (side : Side) (f : Endpoint → Endpoint) : ParkedOnly s (s.onParked part serial chan side f) := by
  rw [onParked_eq]
  refine .foldl (fun u d => ?_) _ _
  refine ⟨rfl, fun die entry => ?_⟩
  by_cases hd : d % 4 = die % 4
  · have hdie : u.die d = u.die die := by rw [State.die, State.die, vget, vget]; exact congrArg _ (Fin.ext hd)
    have hget := Assoc.get_map TaskRec.free (TaskRec.onEnd part serial chan side f) (u.die d).tun entry
    have hnew : (u.onDie d (Die.mapTun (TaskRec.onEnd part serial chan side f))).record die entry =
        Assoc.get TaskRec.free ((u.die d).mapTun (TaskRec.onEnd part serial chan side f)).tun entry :=
      congrArg (fun x : Die => Assoc.get TaskRec.free x.tun entry) (vget_vset_of_modEq _ _ hd)
    have hfree : TaskRec.free.onEnd part serial chan side f = TaskRec.free := rfl
    rw [hfree] at hget
    rw [hnew, Die.mapTun, hget, hdie]
    exact onEnd_parked ..
  · have hother : (u.onDie d (Die.mapTun (TaskRec.onEnd part serial chan side f))).record die entry = u.record die entry :=
      congrArg (fun x : Die => Assoc.get TaskRec.free x.tun entry) (vget_vset_ne _ _ _ _ hd)
    exact ⟨_, hother⟩

theorem onChan_kept (s : State) (gt c : Nat) (f : Endpoint → Endpoint) : TasksKept s (s.onChan gt c f) := (onChan_keepsTasks s gt c f).kept

theorem sendToken_parked (s : State) (part gt c : Nat) (tok : Token) : ParkedOnly s (s.sendToken part gt c tok) := by
  rw [State.sendToken]
  generalize (if (s.chan gt c).lane then tok else { tok with place := some ((s.chan gt c).lastEntry, (s.chan gt c).sent) }) = sent
  have hcount : TasksKept s (s.countBeats gt c sent) := .ite (.refl s) (onChan_kept ..)
  refine hcount.parked.trans ?_
  split
  · refine .ite (.ite (post_kept ..).parked (onParked_parked ..)) (.foldl (fun u p => ?_) _ _)
    exact (sendPacket_told u p).kept.parked
  · exact .refl _

theorem closeSender_parked (s : State) (part gt c : Nat) (kind : TokenKind) : ParkedOnly s (s.closeSender part gt c kind) := by
  rw [State.closeSender]
  dsimp only
  generalize hu : s.onChan gt c _ = u
  have hchan : ParkedOnly s u := hu ▸ (onChan_kept ..).parked
  refine .ite (hchan.trans (.ite (sendToken_parked ..) ?_)) (.refl s)
  split
  · exact (tell_told ..).kept.parked
  · exact (onInstance_told ..).kept.parked

theorem closeReceiver_parked (s : State) (part gt c : Nat) : ParkedOnly s (s.closeReceiver part gt c) := by
  rw [State.closeReceiver]
  dsimp only
  generalize hu : s.onChan gt c _ = u
  have hchan : ParkedOnly s u := hu ▸ (onChan_kept ..).parked
  refine .ite (hchan.trans ?_) (.refl s)
  split
  · exact .ite (.ite (post_kept ..).parked (onParked_parked ..)) (sendPacket_told ..).kept.parked
  · exact .refl _


/-! Saving a task that is a unit by itself. -/

/-- A record that a task's handle names, as it must be for the rest of a save. -/
structure Holds (s : State) (h : Word) (img : Word) (held : Bool) (st : TaskState) : Prop where
  live : ∃ r, s.taskOf h = some r
  saved : (s.record (handleDie h) (handleEntry h)).saved = img
  held : (s.record (handleDie h) (handleEntry h)).held = held
  state : (s.record (handleDie h) (handleEntry h)).state = st

theorem Holds.parked {s u : State} {h img : Word} {held : Bool} {st : TaskState} (hs : Holds s h img held st) (hu : ParkedOnly s u) (hst : st ≠ .free) :
    Holds u h img held st := by
  obtain ⟨⟨r, hr⟩, hsaved, hheld, hstate⟩ := hs
  obtain ⟨cs, hcs⟩ := hu.record (handleDie h) (handleEntry h)
  have hrec := taskOf_eq_record hr
  refine ⟨⟨_, taskOf_of_record hr hcs hu.mgmt ?_ ?_⟩, by rw [hcs]; exact hsaved, by rw [hcs]; exact hheld, by rw [hcs]; exact hstate⟩
  · rw [hrec]
  · show (s.record (handleDie h) (handleEntry h)).state ≠ .free
    rw [hstate]; exact hst

theorem Holds.onTask {s : State} {h img : Word} {held : Bool} {st : TaskState} {f : TaskRec → TaskRec} (hs : Holds s h img held st)
    (hf : ∀ r, (f r).saved = r.saved ∧ (f r).held = r.held ∧ (f r).state = r.state ∧ (f r).gen = r.gen) (hst : st ≠ .free) : Holds (s.onTask h f) h img held st := by
  obtain ⟨⟨r, hr⟩, hsaved, hheld, hstate⟩ := hs
  have hrec := record_onTask hr f
  have hold := taskOf_eq_record hr
  rw [← hold] at hsaved hheld hstate
  obtain ⟨hfs, hfh, hft, hfg⟩ := hf r
  refine ⟨⟨_, taskOf_onTask hr hfg (by rw [hft, hstate]; exact hst)⟩, by rw [hrec, hfs, hsaved], by rw [hrec, hfh, hheld], by rw [hrec, hft, hstate]⟩

theorem releaseSaved_spec {m : Grant} {kept : BitVec 16} {g : Nat} {img : Word} {held : Bool} {st : TaskState}
    (hs : Holds s (s.slot g).task img held st) (hst : st ≠ .free) :
    Holds (s.releaseSaved m kept g) (s.slot g).task img held st ∧ ((s.releaseSaved m kept g).slot g).task = 0 ∧ ((s.releaseSaved m kept g).slot g).state = .empty := by
  rw [State.releaseSaved]
  dsimp only
  generalize hu : List.foldl _ s (setBits 16 ((s.slot g).grant.ch &&& ~~~kept).toNat) = u
  have hclosed : ParkedOnly s u := by
    rw [← hu]
    refine .foldl (fun v c => ?_) _ _
    exact (closeSender_parked ..).trans (closeReceiver_parked ..)
  have hsu := hs.parked hclosed hst
  generalize hv : u.onTask (s.slot g).task _ = v
  have hsv : Holds v (s.slot g).task img held st := hv ▸ hsu.onTask (fun _ => ⟨rfl, rfl, rfl, rfl⟩) hst
  generalize hw : List.foldl _ v (setBits 8 m.ag.toNat) = w
  have hgens : TasksKept v w := by
    rw [← hw]
    refine .foldl (fun x a => ?_) _ _
    exact ⟨rfl, fun _ => rfl, fun _ => rfl, rfl⟩
  have hleft := leaveSlot_left w g
  exact ⟨(hsv.parked hgens.parked hst).parked hleft.records.parked hst, hleft.task, hleft.state⟩


/-- A task posted again. -/
theorem Holds.postTask {s : State} {h img : Word} {held : Bool} {st : TaskState} (hs : Holds s h img held st) : Holds (s.postTask h) h img held .ready ∧
    (s.postTask h).slots = s.slots := by
  obtain ⟨⟨r, hr⟩, hsaved, hheld, -⟩ := hs
  obtain ⟨w, hw⟩ : ∃ w, w = s.resetDeficits (handleDie h) r.part r.queue r.cls := ⟨_, rfl⟩
  have htold : Told s w := hw ▸ resetDeficits_told ..
  have hrw : w.taskOf h = some r := by rw [← hr]; exact htold.keepsTasks.taskOf h
  have hpost : s.postTask h = (w.onTask h s.posted).post (.dispatchSelect (handleDie h) r.part) := by rw [State.postTask, hr, hw]; rfl
  have hrec := record_onTask hrw s.posted
  have hold := taskOf_eq_record hr
  rw [← hold] at hsaved hheld
  refine ⟨⟨⟨s.posted r, ?_⟩, ?_, ?_, ?_⟩, ?_⟩
  · rw [hpost]
    exact taskOf_onTask hrw rfl (show TaskState.ready ≠ TaskState.free by decide)
  · rw [hpost]; exact (congrArg TaskRec.saved hrec).trans hsaved
  · rw [hpost]; exact (congrArg TaskRec.held hrec).trans hheld
  · rw [hpost]; exact congrArg TaskRec.state hrec
  · rw [hpost]; exact (slots_onTask ..).trans htold.slots

theorem afterSave_spec {h img : Word} {f : Freeze} (hs : Holds s h img f.held .preempted) (hf : f.record = none) :
    Holds (s.afterSave h f false) h img f.held (if f.held then .preempted else .ready) ∧ (s.afterSave h f false).slots = s.slots := by
  obtain ⟨r, hr⟩ := hs.live
  have hanswers := (answerSaves_told s h r.saved).kept
  have hs' := hs.parked hanswers.parked (by decide)
  have hafter : s.afterSave h f false = if f.held then s.answerSaves h r.saved else (s.answerSaves h r.saved).postTask h := by
    rw [State.afterSave, hr]
    simp only [hf, Option.isSome_none, Bool.or_false, Bool.false_eq_true, if_false]
  rw [hafter]
  by_cases hheld : f.held = true
  · rw [if_pos hheld, if_pos hheld]
    exact ⟨hs', hanswers.slots⟩
  · rw [if_neg hheld, if_neg hheld]
    obtain ⟨hpost, hslots⟩ := hs'.postTask
    exact ⟨hpost, hslots.trans hanswers.slots⟩

variable {g : Nat} {r : TaskRec} {f : Freeze}

/-- The record of a task whose image has been written. -/
def TaskRec.imaged (addr : Word) (syncs : Nat) (kept : Grant) (guarded : Bytes) (r : TaskRec) : TaskRec :=
  { r with saved := addr, syncs := syncs, target := none, kept := kept, guarded := guarded }

/-- A slot whose image has been written. -/
def Slot.imaged (f : Freeze) (t : Slot) : Slot := { t with freeze := some { f with record := none, written := true } }

theorem saveOne_of_block {unit : List Nat} {u : State} (hfreeze : (s.slot g).freeze = some f) (hrecord : f.record = none)
    (hu : s.deviceBlock (s.slot g).part (s.sourceNo (handleDie (s.slot g).task * 64 + 49) 0) (wordN f.image) (s.saveImage unit g f.held none) = some u) :
    ∃ syncs kept guarded, s.saveOne unit g = .ok (((u.registerPending g (wordN f.image)).onTask (s.slot g).task
      (TaskRec.imaged (wordN f.image) syncs kept guarded)).onSlot g (Slot.imaged f)) := by
  refine ⟨(s.slot g).savedSyncs, s.saveMask unit g, protectedBytes (s.saveImage unit g f.held none), ?_⟩
  rw [State.saveOne]
  dsimp only
  rw [hfreeze]
  dsimp only
  rw [hrecord, Option.map_none, hu]
  rfl

theorem registerPending_kinds {u : State} (hblock : ∀ q ∈ u.requests, ∀ bs, q.kind ≠ .block bs) (img : Word) :
    ∀ q ∈ (u.registerPending g img).requests, ∀ bs, q.kind ≠ .block bs := by
  intro q hq bs
  obtain ⟨q', hq', rfl⟩ := List.mem_map.1 hq
  have hold := hblock q' (List.mem_filter.1 hq').1 bs
  split
  · exact hold
  · exact hold

theorem writesOut_of_none {u : State} (hblock : ∀ q ∈ u.requests, ∀ bs, q.kind ≠ .block bs) (part : Nat) (va : Word) (n : Nat) : u.writesOut part va n = false := by
  rw [State.writesOut, List.any_eq_false]
  intro q hq
  cases hkind : q.kind with
  | block bs => exact absurd hkind (hblock q hq bs)
  | _ => simp only [Bool.and_false, Bool.false_eq_true, not_false_eq_true]

theorem saveUnit_of_single (hgang : s.gangOf (s.slot g) = none) : s.saveUnit g = [g] := by
  rw [State.saveUnit]
  dsimp only
  rw [hgang]


theorem state_of_taskOf {h : Word} (hr : s.taskOf h = some r) : r.state ≠ .free := by
  have hold := taskOf_eq_record hr
  rw [State.taskOf] at hr
  split at hr
  next hc =>
    rw [← hold] at hc
    simp only [Bool.and_eq_true, bne_iff_ne] at hc
    exact hc.1.2
  next => cases hr

/-- A unit of one task whose image stands. -/
theorem unitSaved_spec {h img : Word} {fz : Freeze} (htask : (s.slot g).task = h) (hfreeze : (s.slot g).freeze = some fz) (hnotice : (s.slot g).killNotice = false)
    (hrecord : fz.record = none) (hr : s.taskOf h = some r) (hsaved : r.saved = img) :
    Holds (s.unitSaved [g]) h img fz.held (if fz.held then .preempted else .ready) ∧ ((s.unitSaved [g]).slot g).task = 0 ∧ ((s.unitSaved [g]).slot g).state = .empty := by
  obtain ⟨u, hu⟩ : ∃ u, u = s.onTask h (fun r => { r with state := .preempted, held := fz.held, ready := .none }) := ⟨_, rfl⟩
  have hrec : u.record (handleDie h) (handleEntry h) = { r with state := .preempted, held := fz.held, ready := .none } := hu ▸ record_onTask hr _
  have hslot : (u.slot g).task = h := by rw [hu, State.slot, slots_onTask]; exact htask
  have hsu : Holds u h img fz.held .preempted := by
    refine ⟨⟨_, hu ▸ taskOf_onTask hr rfl (show TaskState.preempted ≠ TaskState.free by decide)⟩, ?_, ?_, ?_⟩
    · rw [hrec]; exact hsaved
    · rw [hrec]
    · rw [hrec]
  obtain ⟨hsr, htask0, hstate0⟩ := releaseSaved_spec (m := s.saveMask [g] g) (kept := s.keptChans [g] (tileOfSlot g)) (g := g) (by rw [hslot]; exact hsu) (by decide)
  rw [hslot] at hsr
  obtain ⟨v, hv⟩ : ∃ v, v = u.releaseSaved (s.saveMask [g] g) (s.keptChans [g] (tileOfSlot g)) g := ⟨_, rfl⟩
  rw [← hv] at hsr htask0 hstate0
  obtain ⟨hsa, hslots⟩ := afterSave_spec hsr hrecord
  have hdone : s.unitSaved [g] = (v.afterSave h fz false).post (.place (dieOf (tileOfSlot g)) (s.slot g).part) := by
    rw [State.unitSaved, hv, hu]
    simp only [List.filterMap_cons, List.filterMap_nil, hfreeze, Option.map_some, List.foldl_cons, List.foldl_nil, htask, hnotice]
  have hlast : ((v.afterSave h fz false).post (.place (dieOf (tileOfSlot g)) (s.slot g).part)).slot g = v.slot g := by
    rw [State.slot, State.post_slots, hslots]; rfl
  rw [hdone, hlast]
  exact ⟨hsa.parked (post_kept ..).parked (by split <;> decide), htask0, hstate0⟩

theorem saveComplete_of_block {u : State} (halone : Sys2Proof.Claims.Alone s g r f) (hstate : (s.slot g).state = .saving) (hnotice : (s.slot g).killNotice = false)
    (hwritten : f.written = false)
    (hu : s.deviceBlock (s.slot g).part (s.sourceNo (handleDie (s.slot g).task * 64 + 49) 0) (wordN f.image) (s.saveImage [g] g f.held none) = some u)
    (hblock : ∀ q ∈ u.requests, ∀ bs, q.kind ≠ .block bs) : ∃ t, Gives (.saveComplete g) s t ∧
      Holds t (s.slot g).task (wordN f.image) f.held (if f.held then .preempted else .ready) ∧ (t.slot g).task = 0 ∧ (t.slot g).state = .empty := by
  obtain ⟨hgang, hr, hfreeze, hrecord⟩ := halone
  obtain ⟨syncs, kept, guarded, hone⟩ := saveOne_of_block hfreeze hrecord hu
  have hkept : TasksKept s u := deviceWriteRun_kept hu
  obtain ⟨v, hv⟩ : ∃ v, v = (u.registerPending g (wordN f.image)).onTask (s.slot g).task (TaskRec.imaged (wordN f.image) syncs kept guarded) := ⟨_, rfl⟩
  obtain ⟨w, hw⟩ : ∃ w, w = v.onSlot g (Slot.imaged f) := ⟨_, rfl⟩
  rw [← hv, ← hw] at hone
  have hregister : (u.registerPending g (wordN f.image)).taskOf (s.slot g).task = some r := (hkept.records.taskOf _).trans hr
  have hvslot : v.slot g = s.slot g := by
    rw [State.slot, hv, slots_onTask]
    exact hkept.slot g
  have hwslot : w.slot g = (s.slot g).imaged f := by rw [hw, State.slot_onSlot, hvslot]
  have hlive : r.state ≠ .free := state_of_taskOf hr
  have hwtask : w.taskOf (s.slot g).task = some (r.imaged (wordN f.image) syncs kept guarded) := by
    have himaged := taskOf_onTask (f := TaskRec.imaged (wordN f.image) syncs kept guarded) hregister rfl hlive
    rw [hw, hv]
    exact himaged
  have hblocks : ∀ q ∈ w.requests, ∀ bs, q.kind ≠ .block bs := by
    have hrequests : w.requests = (u.registerPending g (wordN f.image)).requests := by rw [hw, hv, State.onTask]; split <;> rfl
    rw [hrequests]
    exact registerPending_kinds hblock _
  have hunit : (s.saveUnit g).filter (fun m => (s.slot m).state == .saving) = [g] := by
    rw [saveUnit_of_single hgang, List.filter_singleton, hstate]
    rfl
  have hin : w.imagesOut [g] = false := by
    rw [State.imagesOut]
    simp only [List.any_cons, List.any_nil, hwslot, Slot.imaged, writesOut_of_none hblocks, Bool.or_self]
  have hexec : exec (.saveComplete g) s = .next (w.unitSaved [g]) := by
    have hev : exec (.saveComplete g) s = execSaveComplete g s := rfl
    rw [hev, execSaveComplete, hunit]
    simp only [hstate, bne_self_eq_false, Bool.false_eq_true, if_false, List.all_cons, List.all_nil, hfreeze, Option.map_some, Option.getD_some, hwritten,
      Bool.and_true, List.foldl_cons, List.foldl_nil, Except.bind, hone, hin]
  exact ⟨_, hexec, unitSaved_spec (fz := { f with record := none, written := true }) (by rw [hwslot]; rfl) (by rw [hwslot]; rfl) (by rw [hwslot]; exact hnotice) rfl hwtask rfl⟩


/-! Resuming a task. -/

theorem accLoad_kept (s : State) (gt n : Nat) (img : Bytes) : TasksKept s (s.accLoad gt n img) := ⟨rfl, fun _ => rfl, fun _ => rfl, rfl⟩

theorem restoreChan_kept (s : State) (gt c : Nat) (e : Endpoint) : TasksKept s (s.restoreChan gt c e) := by
  rw [State.restoreChan]
  generalize hu : s.onChan gt c _ = u
  have hchan : TasksKept s u := hu ▸ onChan_kept ..
  refine hchan.trans ?_
  split
  · exact .ite (onChan_kept ..) (tell_told ..).kept
  · exact .refl u

theorem restoreEntries_kept (s : State) (gt : Nat) (img : Bytes) (l : List (Nat × Endpoint)) (o : Nat) : TasksKept s (s.restoreEntries gt img l o) := by
  induction l generalizing s o with
  | nil => exact .refl s
  | cons e rest ih =>
    obtain ⟨c, e⟩ := e
    rw [State.restoreEntries]
    refine .ite (ih ..) (TasksKept.trans (.foldl (fun u q => ?_) _ _) (ih ..))
    exact writeMem_kept ..

/-- The record of a task whose image has been read back. -/
def TaskRec.restored (r : TaskRec) : TaskRec := { r with saved := 0, parkedChans := [], parkedGens := [], parkedBars := [], target := none }

/-- A slot, its task's record and the registers of the module when the task's image has been read back. -/
structure Restored (s u : State) (h : Word) (g : Nat) (r : TaskRec) (img : Bytes) : Prop where
  slot : u.slot g = (s.slot g).restored img s.cycle r.parkedBars
  task : u.taskOf h = some r.restored

theorem restore_spec {h : Word} {k : Kernel} {img : Bytes} (hk : s.slotKernel g = some k) (hgang : s.gangOf (s.slot g) = none) (hr : s.taskOf h = some r)
    (hreplies : ∀ i, i < 16 → byteAt img (0x600 + 16 * i + 9) ≠ 2) : Restored s (s.restore h r g img) h g r img := by
  rw [State.restore, hk]
  dsimp only
  rw [hgang]
  dsimp only
  generalize h1 : List.foldl _ s _ = s1
  have k1 : TasksKept s s1 := by
    rw [← h1]
    refine .foldl (fun u e => ?_) _ _
    exact accLoad_kept ..
  generalize h2 : List.foldl _ s1 _ = s2
  have k2 : TasksKept s s2 := by
    rw [← h2]
    refine k1.trans (.foldl (fun u e => ?_) _ _)
    exact onTile_kept ..
  generalize h3 : List.foldl _ s2 _ = s3
  have k3 : TasksKept s s3 := by
    rw [← h3]
    refine k2.trans (.foldl (fun u e => ?_) _ _)
    exact onTile_kept ..
  generalize h4 : List.foldl _ s3 _ = s4
  have k4 : TasksKept s s4 := by
    rw [← h4]
    refine k3.trans (.foldl (fun u e => ?_) _ _)
    exact .ite (.refl u) (onChan_kept ..)
  generalize h5 : List.foldl _ s4 _ = s5
  have k5 : TasksKept s s5 := by
    rw [← h5]
    refine k4.trans (.foldl (fun u e => ?_) _ _)
    exact restoreChan_kept ..
  generalize h6 : State.restoreEntries s5 _ _ _ _ = s6
  have k6 : TasksKept s s6 := by
    rw [← h6]
    exact k5.trans (restoreEntries_kept ..)
  generalize h7 : List.foldl _ s6 _ = s7
  have k7 : TasksKept s s7 := by
    rw [← h7]
    refine k6.trans (.foldl (fun u e => ?_) _ _)
    exact (onTile_kept ..).trans (post_kept ..)
  generalize h8 : List.foldl _ s7 _ = s8
  have k8 : TasksKept s s8 := by
    rw [← h8]
    refine k7.trans (.foldl (fun u e => ?_) _ _)
    exact .ite (post_kept ..) (.refl u)
  generalize h9 : List.foldl _ s8 _ = s9
  have k9 : TasksKept s s9 := by
    rw [← h9]
    refine k8.trans (.foldl (fun u e => ?_) _ _)
    exact onTile_kept ..
  generalize h10 : List.foldl _ s9 _ = s10
  have k10 : TasksKept s s10 := by
    rw [← h10]
    refine k9.trans (.foldl (fun u e => ?_) _ _)
    exact writeMem_kept ..
  generalize hv : State.onSlot s10 g _ = v
  have hvslot : v.slot g = (s.slot g).restored img s.cycle r.parkedBars := by
    rw [← hv, State.slot_onSlot, k10.slot]
  have hvrec : RecordsKept s v := by
    rw [← hv]
    exact k10.records.trans ⟨fun _ => rfl, fun _ => rfl, rfl⟩
  generalize hw : (if (v.slot g).hold.isSome = true then v.post (.killHoldExpiry g) else v) = w
  have kw : TasksKept v w := hw ▸ .ite (post_kept ..) (.refl v)
  generalize hx : List.foldl _ w (List.range 16) = x
  have hxw : x = w := by
    rw [← hx]
    refine List.foldlRecOn (motive := fun u => u = w) _ _ rfl fun u hu i hi => ?_
    rw [hu]
    exact if_neg fun hc => hreplies i (List.mem_range.1 hi) (BitVec.eq_of_toNat_eq hc)
  rw [hxw]
  have htask : w.taskOf h = some r := (kw.records.taskOf h).trans ((hvrec.taskOf h).trans hr)
  have hslot : w.slot g = (s.slot g).restored img s.cycle r.parkedBars := (kw.slot g).trans hvslot
  clear hx hw hv hxw h1 h2 h3 h4 h5 h6 h7 h8 h9 h10
  generalize hy : List.map _ w.requests = reqs
  obtain ⟨y, hyw⟩ : ∃ y, y = { w with requests := reqs } := ⟨_, rfl⟩
  rw [← hyw]
  have hyt : y.taskOf h = some r := by rw [hyw]; exact htask
  have hlive : r.state ≠ .free := state_of_taskOf hr
  refine ⟨?_, taskOf_onTask hyt rfl hlive⟩
  rw [State.slot, State.onPart_slots, slots_onTask, hyw]
  exact hslot


/-- What RESUME does with the image of a task in no gang that is PLACING in its slot. -/
def State.resumeRead (s : State) (ev : Instr) (h : Word) (r : TaskRec) (g : Nat) (read : CoreRead) : State :=
  if read.fails then (s.readDone (s.imageIssuer r.part h) read).resumeFails r.part h (read.at_.getLastD r.saved) [(h, r)]
  else match s.readWaits (s.imageIssuer r.part h) read ev with
    | some s => s
    | none => (s.readDone (s.imageIssuer r.part h) read).resumeUnit [(h, r, g, read.bytes)]

/-- What RESUME does with a unit whose tasks are all PLACING in their slots. -/
def State.resumePlaced (s : State) (ev : Instr) (part : Nat) (unit : List (Word × TaskRec)) (l : List (Word × TaskRec × Nat)) : State :=
  let images := l.map (fun e => (e, s.imageRead e.2.1.part e.1 e.2.1.saved))
  let done := images.foldl (fun s x => s.readDone (s.imageIssuer x.1.2.1.part x.1.1) x.2) s
  match images.find? (fun x => x.2.fails) with
  | some x => done.resumeFails part x.1.1 (x.2.at_.getLastD x.1.2.1.saved) unit
  | none =>
    match images.findSome? (fun x => s.readWaits (s.imageIssuer x.1.2.1.part x.1.1) x.2 ev) with
    | some s => s
    | none => done.resumeUnit (images.map (fun x => (x.1.1, x.1.2.1, x.1.2.2, x.2.bytes)))

/-- A task of a unit that is PLACING in its slot, with that slot. -/
def State.placedAt (s : State) (e : Word × TaskRec) : Option (Word × TaskRec × Nat) :=
  match e.2.state, e.2.loc with
  | .placing, some g => if s.storesPerformed e.1 && (s.slot g).task == e.1 then some (e.1, e.2, g) else none
  | _, _ => none

theorem resume_of_placing {die k : Nat} {h : Word} (hh : s.handleOf die k = h) (hr : s.taskOf h = some r) (hstate : r.state = .placing) (hsaved : r.saved ≠ 0) :
    exec (.resume die k) s = .next (
      let unit := (s.unitOf h r).filterMap (fun m => (s.taskOf m).map (fun q => (m, q)))
      match unit.mapM s.placedAt with
      | none => (s.confirmWrites (fun q => unit.any (fun e => e.1 == q.task))).defer (.resume die k)
      | some l => s.resumePlaced (.resume die k) r.part unit l) := by
  have hexec : exec (.resume die k) s = execResume die k s := rfl
  rw [hexec, execResume, hh, hr]
  refine congrArg Host.Outcome.next ((if_neg hsaved).trans ((if_neg ?_).trans ((if_neg ?_).trans rfl)))
  · rw [hstate]
    decide
  · rw [hstate]
    decide

theorem resumePlaced_one {ev : Instr} {h : Word} (unit : List (Word × TaskRec)) (hunit : unit = [(h, r)]) :
    s.resumePlaced ev r.part unit [(h, r, g)] = s.resumeRead ev h r g (s.imageRead r.part h r.saved) := by
  rw [State.resumePlaced, State.resumeRead, hunit]
  generalize hread : s.imageRead r.part h r.saved = read
  by_cases hfails : read.fails = true
  · rw [if_pos hfails]
    simp only [List.map_cons, List.map_nil, List.foldl_cons, List.foldl_nil, List.find?_cons, hread, hfails]
  · rw [if_neg hfails, Bool.not_eq_true] at *
    simp only [List.map_cons, List.map_nil, List.foldl_cons, List.foldl_nil, List.find?_cons, List.find?_nil, List.findSome?_cons, List.findSome?_nil, hread, hfails]
    cases s.readWaits (s.imageIssuer r.part h) read ev with
    | some u => rfl
    | none => rfl

theorem resume_of_placed {die k : Nat} {h : Word} (hh : s.handleOf die k = h) (hr : s.taskOf h = some r) (hstate : r.state = .placing) (hsaved : r.saved ≠ 0)
    (hgang : r.gang = none) (hloc : r.loc = some g) (hstores : s.storesPerformed h = true) (htask : (s.slot g).task = h) :
    exec (.resume die k) s = .next (s.resumeRead (.resume die k) h r g (s.imageRead r.part h r.saved)) := by
  have hunit : (s.unitOf h r).filterMap (fun m => (s.taskOf m).map (fun q => (m, q))) = [(h, r)] := by
    have hone : s.unitOf h r = [h] := by rw [State.unitOf, hgang]; rfl
    rw [hone, List.filterMap_cons, hr]
    rfl
  have hplaced : s.placedAt (h, r) = some (h, r, g) := by
    rw [State.placedAt, hstate, hloc]
    exact if_pos (by rw [hstores, htask, beq_self_eq_true]; rfl)
  have hall : [(h, r)].mapM s.placedAt = some [(h, r, g)] := by
    rw [List.mapM_cons, hplaced, List.mapM_nil]
    rfl
  rw [resume_of_placing hh hr hstate hsaved]
  dsimp only
  rw [hunit, hall]
  exact congrArg Host.Outcome.next (resumePlaced_one _ rfl)


/-- A slot whose task issues again. -/
def Slot.issuing (t : Slot) : Slot := { t with state := .issue }

/-- A record whose task has resumed. -/
def TaskRec.resumed (r : TaskRec) : TaskRec := { r with state := .running, ready := .none }

theorem resumeUnit_one {h : Word} {img : Bytes} (hgang : r.gang = none) :
    s.resumeUnit [(h, r, g, img)] = ((s.restore h r g img).onSlot g Slot.issuing).onTask h TaskRec.resumed := by
  rw [State.resumeUnit]
  simp only [List.foldl_cons, List.foldl_nil, List.head?_cons, Option.bind_some, hgang, Option.bind_none]
  rfl

theorem resumeFails_one {h va : Word} {part : Nat} (hr : s.taskOf h = some r) : ((s.resumeFails part h va [(h, r)]).record (handleDie h) (handleEntry h)).state = .preempted ∧
    ((s.resumeFails part h va [(h, r)]).record (handleDie h) (handleEntry h)).held = true := by
  have hlog : TasksKept s (s.logEvent part 0x13 va h) := appendLog_kept ..
  obtain ⟨u, hu, hfails⟩ : ∃ u, RecordsKept s u ∧ s.resumeFails part h va [(h, r)] = u.onTask h
      (fun r => { r with state := .preempted, held := true, ready := .none, target := none, loc := some r.from_ }) := by
    rw [State.resumeFails, List.foldl_cons, List.foldl_nil]
    generalize s.logEvent part 0x13 va h = v at hlog ⊢
    cases hloc : r.loc with
    | none => exact ⟨v, hlog.records, rfl⟩
    | some m =>
      by_cases htask : ((v.slot m).task == h) = true
      · refine ⟨(v.leaveSlot m).post (.place (dieOf (tileOfSlot m)) part), (hlog.records.trans (leaveSlot_left v m).records).trans (post_kept ..).records, ?_⟩
        dsimp only
        rw [if_pos htask]
      · refine ⟨v, hlog.records, ?_⟩
        dsimp only
        rw [if_neg htask]
  rw [hfails, record_onTask ((hu.taskOf h).trans hr)]
  exact ⟨rfl, rfl⟩

/-! Triggering, beginning and giving up a pre-emption. -/

theorem holdPeers_kept (s : State) (g : Nat) (hold : Bool) : TasksKept s (s.holdPeers g hold) := by
  rw [State.holdPeers]
  dsimp only
  split
  · exact .refl s
  · refine .foldl (fun u c => ?_) _ _
    split
    · exact .ite (tell_told ..).kept (.ite (onChan_kept ..) (.refl u))
    · exact .refl u

theorem cycle_tell (s : State) (part : Nat) (pkgs : List Nat) (m : PodMsg) (ws : List Nat) (tail : Bytes) : (s.tell part pkgs m ws tail).cycle = s.cycle := by
  refine List.foldlRecOn (motive := fun u : State => u.cycle = s.cycle) _ _ rfl fun u hu pkg _ => ?_
  refine List.foldlRecOn (motive := fun v : State => v.cycle = s.cycle) _ _ hu fun v hv i _ => ?_
  rw [State.sendPacket]
  split <;> exact hv

theorem cycle_holdPeers (s : State) (g : Nat) (hold : Bool) : (s.holdPeers g hold).cycle = s.cycle := by
  rw [State.holdPeers]
  dsimp only
  split
  · rfl
  · refine List.foldlRecOn (motive := fun u : State => u.cycle = s.cycle) _ _ rfl fun u hu c _ => ?_
    split
    · split
      · exact (cycle_tell ..).trans hu
      · split
        · exact hu
        · exact hu
    · exact hu

/-- A slot that goes on after a pre-emption has been given up. -/
def Slot.unfrozen (t : Slot) : Slot :=
  { t with
    freeze := none
    state := if t.state == .saving then (if t.wait.isSome then .blocked else if t.withdraws then .matrix else t.active) else t.state }

/-- A record whose task is no victim until a cycle. -/
def TaskRec.spared (at_ : Nat) (r : TaskRec) : TaskRec := { r with noVictim := at_ }

/-- A partition whose reservations of save areas for a task are gone. -/
def Partition.unsaved (h : Word) (p : Partition) : Partition := { p with saves := p.saves.filter (fun r => r.2.2 != h) }

theorem parts_answerSaves (s : State) (task v : Word) : (s.answerSaves task v).parts = s.parts :=
  List.foldlRecOn (motive := fun u : State => u.parts = s.parts) _ _ rfl fun _ hu _ _ => hu

theorem abandon_one {r : TaskRec} (hfreeze : (s.slot g).freeze = some f) (hrecord : f.record = none) (hstate : (s.slot g).state ≠ .saving)
    (hr : s.taskOf (s.slot g).task = some r) : (s.abandon [g]).slot g = { s.slot g with freeze := none } ∧
    ((s.abandon [g]).record (handleDie (s.slot g).task) (handleEntry (s.slot g).task)).noVictim = s.cycle + 65536 ∧
      ∀ e ∈ ((s.abandon [g]).part (s.slot g).part).saves, e.2.2 ≠ (s.slot g).task := by
  have hpeers := holdPeers_kept s g false
  have hcycle := cycle_holdPeers s g false
  obtain ⟨u, hu⟩ : ∃ u, u = (s.holdPeers g false).onSlot g Slot.unfrozen := ⟨_, rfl⟩
  obtain ⟨v, hv⟩ : ∃ v, v = u.onPart (s.slot g).part (Partition.unsaved (s.slot g).task) := ⟨_, rfl⟩
  obtain ⟨w, hw⟩ : ∃ w, w = v.onTask (s.slot g).task (TaskRec.spared (v.cycle + 65536)) := ⟨_, rfl⟩
  have habandon : s.abandon [g] = (w.countTile (tileOfSlot g) 3).answerSaves (s.slot g).task (failure 17) := by
    rw [State.abandon, hw, hv, hu]
    simp only [List.filterMap_cons, List.filterMap_nil, hfreeze, Option.bind_some, hrecord, Option.map_none, List.foldl_cons, List.foldl_nil]
    rfl
  have hanswers := (answerSaves_told (w.countTile (tileOfSlot g) 3) (s.slot g).task (failure 17))
  have hvtask : v.taskOf (s.slot g).task = some r := by
    rw [hv, hu]
    exact (hpeers.records.taskOf _).trans hr
  rw [habandon]
  refine ⟨?_, ?_, ?_⟩
  · have huslot : u.slot g = (s.slot g).unfrozen := by rw [hu, State.slot_onSlot, hpeers.slot]
    have hthaw : (s.slot g).unfrozen = { s.slot g with freeze := none } := by
      rw [Slot.unfrozen, if_neg (by rw [beq_iff_eq]; exact hstate)]
    rw [State.slot, hanswers.slots, ← hthaw, ← huslot]
    show Assoc.get Slot.reset w.slots g = _
    rw [hw, slots_onTask, hv]
    rfl
  · have hrec := record_onTask hvtask (TaskRec.spared (v.cycle + 65536))
    rw [record_congr hanswers.dies]
    show (w.record _ _).noVictim = _
    rw [hw, hrec, TaskRec.spared, hv, hu]
    exact congrArg (· + 65536) hcycle
  · have hparts : (w.countTile (tileOfSlot g) 3).parts = v.parts := by
      rw [hw, State.onTask]
      split <;> rfl
    rw [State.part, parts_answerSaves, hparts, hv]
    show ∀ e ∈ (vget (vset u.parts (s.slot g).part _) (s.slot g).part).saves, _
    rw [vget_vset]
    intro e he
    exact bne_iff_ne.1 (List.mem_filter.1 he).2

/-! A pre-emption is triggered, saves, or resumes. -/

theorem preemptTrigger_waits {die part k : Nat} {q : TaskRec} (hc : s.chosen die part = some (k, q)) (h : s.cycle < q.chosenAt + 4096 ∨ s.displacing part = true)
    (hnew : (.preemptTrigger die part) ∉ s.deferred) : Gives (.preemptTrigger die part) s (s.defer (.preemptTrigger die part)) := by
  have hlater : s.later (.preemptTrigger die part) = s.defer (.preemptTrigger die part) :=
    if_neg fun hin => hnew (List.contains_iff_mem.1 hin)
  have hexec : exec (.preemptTrigger die part) s = execPreemptTrigger die part s := rfl
  rw [Gives, hexec, execPreemptTrigger, hc, ← hlater]
  refine congrArg Host.Outcome.next (if_pos ?_)
  rwa [Bool.or_eq_true, decide_eq_true_eq]

theorem preemptTrigger_displaces {die part k : Nat} {q : TaskRec} {h : Word} {v : Nat} (hh : s.handleOf die k = h) (hc : s.chosen die part = some (k, q))
    (hold : q.chosenAt + 4096 ≤ s.cycle) (hdis : s.displacing part = false) (hv : s.pickVictims die h q = [[v]]) (hp : (s.preempt v false none).1 = true) :
    Gives (.preemptTrigger die part) s ((s.preempt v false none).2.later (.preemptTrigger die part)) := by
  have hexec : exec (.preemptTrigger die part) s = execPreemptTrigger die part s := rfl
  have hone : s.displace [v] = (s.preempt v false none).2 := if_pos hp
  rw [Gives, hexec, execPreemptTrigger, hc]
  dsimp only
  rw [hh, hv, List.foldl_cons, List.foldl_nil, hone]
  refine congrArg Host.Outcome.next (if_neg ?_)
  rw [hdis, Bool.or_false, decide_eq_true_eq]
  exact Nat.not_lt.2 hold

theorem saveBegin_of_frozen {f : Freeze} (hgang : s.gangOf (s.slot g) = none) (hfreeze : (s.slot g).freeze = some f) (hstate : (s.slot g).state ≠ .saving)
    (hwait : ∀ d v, (s.slot g).wait ≠ some (.settled d v)) :
    exec (.saveBegin g) s = .next (if s.quiescent g && !(s.slot g).killNotice then (s.onSlot g (fun t => { t with state := .saving })).post (.saveComplete g)
      else (s.confirmSlot g).defer (.saveBegin g)) := by
  have hexec : exec (.saveBegin g) s = execSaveBegin g s := rfl
  rw [hexec, execSaveBegin]
  refine congrArg Host.Outcome.next ((if_neg (by rw [hfreeze]; exact Bool.false_ne_true)).trans ((if_neg (by rwa [beq_iff_eq])).trans ?_))
  have hunit := saveUnit_of_single hgang
  split
  · next d v heq => exact absurd heq (hwait d v)
  · rw [hunit]
    simp only [List.all_cons, List.all_nil, hfreeze]
    simp only [Option.isSome_some, Bool.and_true, List.foldl_cons, List.foldl_nil]

theorem preemptAbandon_of_frozen {f : Freeze} (hfreeze : (s.slot g).freeze = some f) (hstate : (s.slot g).state ≠ .saving) (hbank : (s.slot g).status.tbank = false) :
    exec (.preemptAbandon g) s = .next (if s.cycle < f.since + (s.part (s.slot g).part).pqlimit.toNat then s.defer (.preemptAbandon g)
      else s.abandon (s.saveUnit g)) := by
  have hexec : exec (.preemptAbandon g) s = execPreemptAbandon g s := rfl
  rw [hexec, execPreemptAbandon, hfreeze]
  exact congrArg Host.Outcome.next ((if_neg (by rwa [beq_iff_eq])).trans (if_neg (by rw [hbank]; exact Bool.false_ne_true)))

theorem gangs_readDone (s : State) (p : Issuer) (r : CoreRead) : (s.readDone p r).gangs = s.gangs := by
  have hon : ∀ (u : State) (n : Nat) (f : Tlb → Tlb), (u.onTlb n f).gangs = u.gangs := fun u n f => by
    rw [State.onTlb]
    split
    · rfl
    · split <;> rfl
  have hwalked : ∀ (u : State) (va : Word), (u.walked p.part va).gangs = u.gangs := fun u va => by
    rw [State.walked]
    dsimp only
    split
    · rfl
    · split
      · refine (hon ..).trans ?_
        split <;> rfl
      · split <;> rfl
  exact List.foldlRecOn (motive := fun u : State => u.gangs = s.gangs) r.at_ _ rfl fun u hu va _ => (hwalked u va).trans hu

/-- The flow of an image gives each register but x0 its word. -/
theorem imageFlow_get (f : Flow) (img : Bytes) (xo mo lo : Nat) (i : Reg) (hi : i ≠ 0) : (imageFlow f img xo mo lo).get i = fieldW img (xo + 8 * i.val) 8 := by
  have hval : i.val ≠ 0 := fun hz => hi (Fin.ext hz)
  rw [Flow.get, if_neg hi, imageFlow]
  simp only [Vector.get_ofFn, if_neg hval]

/-- A task resumes from its image: its slot issues with the registers of the image, and its record is RUNNING. -/
theorem resume_reads {ev : Instr} {h : Word} {kern : Kernel} {read : CoreRead} (hr : s.taskOf h = some r) (hgang : r.gang = none) (hk : s.slotKernel g = some kern)
    (hnone : s.gangOf (s.slot g) = none) (hok : read.fails = false) (hneed : read.need = []) (hlines : read.lines = [])
    (hreplies : ∀ i, i < 16 → byteAt read.bytes (0x600 + 16 * i + 9) ≠ 2) : ∃ now,
    (s.resumeRead ev h r g read).slot g = ((s.slot g).restored read.bytes now r.parkedBars).issuing ∧
      (s.resumeRead ev h r g read).record (handleDie h) (handleEntry h) = r.restored.resumed := by
  have hdone := readDone_unmoved s (s.imageIssuer r.part h) read
  have hrec := readDone_recordsKept s (s.imageIssuer r.part h) read
  have hgangs := gangs_readDone s (s.imageIssuer r.part h) read
  obtain ⟨u, hu⟩ : ∃ u, u = s.readDone (s.imageIssuer r.part h) read := ⟨_, rfl⟩
  rw [← hu] at hdone hrec hgangs
  have hslot : u.slot g = s.slot g := by rw [State.slot, hdone.slots]; rfl
  have hkernel : u.slotKernel g = some kern := by
    rw [← hk, State.slotKernel, hslot, State.slotKernel, State.kernel, State.image, hdone.images]
    rfl
  have hnogang : u.gangOf (u.slot g) = none := by
    rw [← hnone, hslot, State.gangOf, State.gangOf, hgangs]
  have hall : s.resumeRead ev h r g read = ((u.restore h r g read.bytes).onSlot g Slot.issuing).onTask h TaskRec.resumed := by
    rw [State.resumeRead, if_neg (by rw [hok]; exact Bool.false_ne_true), readWaits_of_all hneed hlines, ← hu]
    exact resumeUnit_one hgang
  obtain ⟨hs, ht⟩ := restore_spec hkernel hnogang ((hrec.taskOf h).trans hr) hreplies
  refine ⟨u.cycle, ?_, ?_⟩
  · rw [hall, State.slot, slots_onTask]
    show ((u.restore h r g read.bytes).onSlot g Slot.issuing).slot g = _
    rw [State.slot_onSlot, hs, hslot]
  · rw [hall]
    exact record_onTask (s := (u.restore h r g read.bytes).onSlot g Slot.issuing) ht TaskRec.resumed

/-- Settles O44: each event of a pre-emption by what its unit, of one slot, is. -/
theorem preemption : Obligations.Preemption := by
  unfold Obligations.Preemption
  intro s g r f
  refine ⟨fun die part k q hc => ⟨preemptTrigger_waits hc, fun v hold hdis hv hp => preemptTrigger_displaces rfl hc hold hdis hv hp⟩,
    fun halone hstate hwait => ?_, fun halone hstate hbank => ?_,
    fun halone hstate hnotice _ hwritten u hu hblock => ?_, fun die k kern hr _ hstate hsaved hgang hloc hstores htask hk hnone => ?_⟩
  · obtain ⟨hgang, -, hfreeze, -⟩ := halone
    have hexec := saveBegin_of_frozen hgang hfreeze hstate hwait
    refine ⟨fun hq hn => ?_, fun hq hhost => ?_⟩
    · rw [hq, hn] at hexec
      exact hexec
    · rw [hq, State.confirmSlot, confirmWrites_of_none hhost] at hexec
      exact hexec
  · obtain ⟨hgang, hr, hfreeze, hrecord⟩ := halone
    have hexec := preemptAbandon_of_frozen hfreeze hstate hbank
    refine ⟨fun hearly => hexec.trans (congrArg Host.Outcome.next (if_pos hearly)), fun hlate _ => ?_⟩
    rw [if_neg (Nat.not_lt.2 hlate), saveUnit_of_single hgang] at hexec
    exact ⟨_, hexec, abandon_one hfreeze hrecord hstate hr⟩
  · obtain ⟨t, ht, ⟨-, hsaved, hheld, hst⟩, htask, hempty⟩ := saveComplete_of_block halone hstate hnotice hwritten hu hblock
    exact ⟨t, ht, hempty, htask, hsaved, hheld, hst⟩
  · generalize hh : s.handleOf die k = h at *
    have hexec := resume_of_placed hh hr hstate hsaved hgang hloc hstores htask
    intro read img
    refine ⟨fun hfails => ?_, fun hok hneed hlines hreplies => ?_⟩
    · have hdone := readDone_recordsKept s (s.imageIssuer r.part h) read
      have hread : s.resumeRead (.resume die k) h r g read = (s.readDone (s.imageIssuer r.part h) read).resumeFails r.part h (read.at_.getLastD r.saved) [(h, r)] :=
        if_pos hfails
      refine ⟨_, hexec, ?_⟩
      show ((s.resumeRead (.resume die k) h r g read).record _ _).state = _ ∧ ((s.resumeRead (.resume die k) h r g read).record _ _).held = _
      rw [hread]
      exact resumeFails_one ((hdone.taskOf h).trans hr)
    · obtain ⟨now, hslot, hrec⟩ := resume_reads (ev := .resume die k) hr hgang hk hnone hok hneed hlines hreplies
      refine ⟨_, hexec, ?_⟩
      generalize s.resumeRead (.resume die k) h r g (s.imageRead r.part h r.saved) = t at hslot hrec ⊢
      rw [recOf, hrec, hslot]
      exact ⟨rfl, rfl, rfl, fun i hi => imageFlow_get (s.slot g).main img 0x80 0x280 0x330 i hi,
        fun i hi => imageFlow_get (s.slot g).handler img 0x180 0x2C0 0x358 i hi, rfl, rfl, rfl, rfl, rfl, rfl⟩

end

end Sys2Proof.Machine

namespace Sys2Proof.Machine

open Sys2Proof.Claims

set_option Elab.async false

/-! ## Packets between modules (spec/16 R336 to R347; spec/15 R328, R333; spec/17 R360, R361) -/

section
variable {s : State} {port n : Nat} {p : Packet}

/-! The state's operations on flows and ports. -/

theorem flow_setFlow (s : State) (f : PacketFlow) {src dest : Nat} (hsrc : f.src = src) (hdest : f.dest = flowDest dest) :
    (s.setFlow f).flow src dest = some f := by
  rw [State.flow, State.setFlow, List.find?_append]
  have hnone : (s.flows.filter (fun q => !(q.src == f.src && q.dest == f.dest))).find? (fun f => f.src == src && f.dest == flowDest dest) = none := by
    refine List.find?_eq_none.2 fun q hq hc => ?_
    rw [← hsrc, ← hdest] at hc
    have hout := (List.mem_filter.1 hq).2
    rw [hc] at hout
    exact Bool.false_ne_true hout
  rw [hnone, Option.none_or, List.find?_singleton, hsrc, hdest, beq_self_eq_true, beq_self_eq_true]
  rfl

theorem ends_of_flow {src dest : Nat} {f : PacketFlow} (h : s.flow src dest = some f) : f.src = src ∧ f.dest = flowDest dest := by
  have hf := List.find?_some h
  rw [Bool.and_eq_true, beq_iff_eq, beq_iff_eq] at hf
  exact hf

theorem flowDest_here (s : State) : flowDest s.here = s.here := by rw [flowDest, State.here, Nat.mul_div_cancel _ (by decide)]

theorem ends_inbound (s : State) (p : Packet) : (s.inbound p).src = p.src ∧ (s.inbound p).dest = flowDest s.here := by
  rw [State.inbound]
  cases h : s.flow p.src s.here with
  | some f => exact ends_of_flow h
  | none => exact ⟨rfl, (flowDest_here s).symm⟩

theorem port_onUalink (s : State) {n : Nat} (f : Port → Port) : (s.onUalink n f).port n = f (s.port n) := vget_vset ..

theorem port_onUalink_ne (s : State) {n m : Nat} (hn : n < 16) (hm : m < 16) (hne : m ≠ n) (f : Port → Port) : (s.onUalink n f).port m = s.port m :=
  vget_vset_ne _ _ _ _ (by omega)

/-- A packet that answers another: what it says is the answer's, and it goes to the source. -/
theorem respond_sends (s : State) (port : Nat) (p : Packet) (kind cls : Nat) (perf pois : Bool) (data : Bytes) :
    ∃ q, s.respond port p kind cls perf pois data = s.emit (.packet port q) ∧ q.kind = kind ∧ q.perf = perf ∧ q.dest = p.src ∧ q.seq = p.seq :=
  ⟨_, rfl, rfl, rfl, rfl, rfl⟩

/-! An access that arrives at a tile. -/

/-- The address of a byte of a tile's window. -/
theorem classify_window {a : Word} {pkg gt off : Nat} (h : a.toNat = 0xFFFE * 2 ^ 48 + pkg * 2 ^ 38 + gt * 2 ^ 30 + off) (hp : pkg < 1024) (hg : gt < 256)
    (ho : off < 2 ^ 30) : classify a = .window pkg gt off := by
  have htop : bits a 63 48 = 0xFFFE := by rw [bits, bitsN]; omega
  have hpkg : bits a 47 38 = pkg := by rw [bits, bitsN]; omega
  have htile : bits a 37 30 = gt := by rw [bits, bitsN]; omega
  have hoff : bits a 29 0 = off := by rw [bits, bitsN]; omega
  rw [classify, if_pos htop, hpkg, htile, hoff]

/-- The store of a packet performed at a tile. -/
theorem serve_store {gt off : Nat} (hkind : p.kind = 2) (hpois : p.pois = false) (henable : p.enable = []) (hcarries : s.carries port p.part (.tile gt off) = true)
    (hfit : off + p.data.length ≤ 2 ^ 22) (hdie : s.lostDie (dieOf gt) = false) :
    s.serve port p (.tile gt off) = (s.writeMem (sramKey gt off) p.data).notice port p true false := by
  have hsnoop : s.snoop (s.heldLines (.tile gt off) p.size) (p.kind != 1) = none := rfl
  have hsize : p.size = p.data.length := by simp only [Packet.size, hkind]
  have hruns : s.writeRuns (.tile gt off) p = s.writeMem (sramKey gt off) p.data := by
    rw [State.writeRuns, Packet.runs, henable, hsize]
    show (if 0x02000000 ≤ off then s.ownerWrite (.tile gt off) _ else s.writeTarget (.tile gt (off + 0)) ((p.data.drop 0).take p.data.length) p.pois) = _
    rw [if_neg (by omega), List.drop_zero, List.take_length, hpois]
    exact (if_neg (by rw [hdie]; exact Bool.false_ne_true)).trans rfl
  rw [State.serve, hcarries, hsnoop, hkind]
  exact congrArg (fun u : State => u.notice port p true false) hruns

/-- A packet that has entered in its turn. -/
def State.entered (s : State) (p : Packet) : State := s.setFlow { s.inbound p with accepted := (s.inbound p).accepted + 1, goBack := none }

/-- A store that arrives in its turn is taken, and the guard of its tile asks for its partition. -/
theorem ingress_of_store {gt off : Nat} (h : InTurn s port p) (hkind : p.kind = 2) (hclass : classify p.addr = .window s.mgmt.package gt off) :
    exec (.ualinkIngress port p) s = .next (if (s.tile gt).part = some p.part then (s.entered p).arrive port p
      else ((s.entered p).guardRecord p 1 gt).guardOutcome port p) := by
  obtain ⟨hgood, hcls, htrim, hpart, hconf, hiport, hport, hwaits, -, hseq, hret, -⟩ := h
  have hexec : exec (.ualinkIngress port p) s = execUalinkIngress port p s := rfl
  have hentered : p.iport ≠ port := by omega
  have hstranger : (!(s.part p.part).configured || decide (16 ≤ p.part)) = false := by
    rw [hconf, decide_eq_false (Nat.not_le.2 hpart)]
    rfl
  have htake : s.takeSeq port p = (true, s.entered p) := by
    rw [State.takeSeq, hret]
    exact if_pos hseq
  have hguard : p.guardTile = some gt := by simp only [Packet.guardTile, hkind, hclass]
  have hdeliver : (s.entered p).deliverRequest port p = (s.entered p).arrive port p := by simp only [State.deliverRequest, hkind]
  rw [hexec, execUalinkIngress]
  simp only [hgood, hstranger, htrim, hcls, hentered, hwaits, htake, hguard, hdeliver, Bool.false_and, Bool.false_eq_true, Bool.not_true,
    Bool.and_false, if_false, if_true]
  rfl

theorem arrive_of_window {pkg gt off : Nat} (hclass : classify p.addr = .window pkg gt off) (hret : (s.port port).returned = [])
    (hparked : (s.port port).parked = []) : s.arrive port p = s.serve port p (.tile gt off) := by
  have hlanding : s.landing p = .ok (.tile gt off) := by rw [State.landing, hclass]
  have hlanded : s.landed p = s := if_neg (by rw [hclass]; exact nofun)
  rw [State.arrive, hret, hparked, hlanding, hlanded]
  rfl

/-- A packet dropped at a guard is logged while the log has room. -/
theorem guardLog_guardRecord (s : State) (p : Packet) (reason gpos : Nat) (h : s.mgmt.guardLog.length < 4096) :
    (s.guardRecord p reason gpos).mgmt.guardLog.length = s.mgmt.guardLog.length + 1 := by
  rw [State.guardRecord, State.guardLogged]
  generalize hd : (if 0x100 ≤ gpos then (gpos - 0x100) / 4 % 4 else dieOf gpos) = die
  refine (congrArg (fun u : State => u.mgmt.guardLog.length) (if_pos h)).trans ?_
  exact List.length_append

theorem guardRecord_frame (s : State) (p : Packet) (reason gpos : Nat) :
    (s.guardRecord p reason gpos).mem = s.mem ∧ (s.guardRecord p reason gpos).slots = s.slots := by
  rw [State.guardRecord, State.guardLogged]
  generalize (if 0x100 ≤ gpos then (gpos - 0x100) / 4 % 4 else dieOf gpos) = die
  split <;> exact ⟨rfl, rfl⟩

/-! Notices and resends. -/

theorem freeCopy_frame (s : State) (src dest seq : Nat) :
    (s.freeCopy src dest seq).requests = s.requests ∧ (s.freeCopy src dest seq).agenda = s.agenda := by
  rw [State.freeCopy]
  split <;> exact ⟨rfl, rfl⟩

/-- The copy of a packet is gone from its flow. -/
theorem freeCopy_frees {src dest seq : Nat} {f : PacketFlow} (h : (s.freeCopy src dest seq).flow src dest = some f) : ∀ p ∈ f.retry, p.seq ≠ seq := by
  rw [State.freeCopy] at h
  cases hf : s.flow src dest with
  | none =>
    rw [hf] at h
    exact nomatch hf.symm.trans h
  | some q =>
    rw [hf] at h
    obtain ⟨hsrc, hdest⟩ := ends_of_flow hf
    have hnew := flow_setFlow s { q with retry := q.retry.filter (fun p => p.seq != seq) } hsrc hdest
    obtain rfl := Option.some.inj (hnew.symm.trans h)
    exact fun p hp => bne_iff_ne.1 (List.mem_filter.1 hp).2

/-- The packet as whose trimmed head TRIMMED_HEAD_ARRIVAL arrives. -/
def headPacket (src dest seq : Nat) : Packet :=
  { kind := 2, cls := 3, trim := true, pois := false, rel := false, perf := false, src := src, part := 0, dest := dest
    seq := seq, eport := arrivalPort src, iport := arrivalPort src, addr := 0, aux := 0, reserved := 0, data := [] }

/-- A trimmed head of a packet that has not been accepted makes its flow go back and asks for the packet. -/
theorem trimmedHeadArrival_asks {src seq : Nat} {f : PacketFlow} (hf : s.flow src s.here = some f)
    (hseq : f.accepted = BitVec.ofNat 16 seq ∨ 2 ^ 15 ≤ (f.accepted - BitVec.ofNat 16 seq).toNat) : exec (.trimmedHeadArrival src s.here seq) s =
      .next ((s.setFlow { f with goBack := some (BitVec.ofNat 16 seq) }).respond (arrivalPort src) (headPacket src s.here seq) 0x11 0 false false []) := by
  have hexec : exec (.trimmedHeadArrival src s.here seq) s = execTrimmedHeadArrival src s.here seq s := rfl
  have hin : s.inbound (headPacket src s.here seq) = f := by
    rw [State.inbound]
    exact congrArg (fun o => Option.getD o _) hf
  have hahead : ¬(f.accepted ≠ BitVec.ofNat 16 seq && decide ((f.accepted - BitVec.ofNat 16 seq).toNat < 2 ^ 15)) = true := by
    rw [Bool.and_eq_true, decide_eq_true_eq, decide_eq_true_eq]
    rintro ⟨hne, hlt⟩
    exact hseq.elim hne (Nat.not_le.2 hlt)
  rw [hexec, execTrimmedHeadArrival]
  refine congrArg Host.Outcome.next ((if_neg fun hne => hne (flowDest_here s)).trans ?_)
  show s.trimmedHead (arrivalPort src) (headPacket src s.here seq) = _
  rw [State.trimmedHead, hin]
  exact if_neg hahead

theorem resends_frame (die : Nat) (l : List Packet) (s : State) :
    let t := l.foldl (fun s p => ((s.emit (.packet (portOf p) p)).onUalink (portOf p) (fun q => { q with resends := satInc q.resends })).countDie die 9) s
    t.mem = s.mem ∧ t.slots = s.slots ∧ t.flows = s.flows ∧ t.egress = s.egress ++ l.map (fun p => .packet (portOf p) p) := by
  induction l generalizing s with
  | nil => exact ⟨rfl, rfl, rfl, (List.append_nil _).symm⟩
  | cons p rest ih =>
    obtain ⟨hmem, hslots, hflows, hegress⟩ := ih (((s.emit (.packet (portOf p) p)).onUalink (portOf p) (fun q => { q with resends := satInc q.resends })).countDie die 9)
    refine ⟨hmem, hslots, hflows, hegress.trans ?_⟩
    rw [List.map_cons, List.append_cons]
    rfl

/-! A parked access retries. -/

/-- A walk changes the dies alone. -/
theorem walked_dies (s : State) (part : Nat) (va : Word) : ∃ ds, s.walked part va = { s with dies := ds } := by
  rw [State.walked]
  generalize s.walk part va = r
  split
  · exact ⟨_, rfl⟩
  · obtain ⟨u, hu, ds, hds⟩ : ∃ u : State, (if r.2 = 0 then s else s.countDie (shardOf va) 0 r.2) = u ∧ ∃ ds, u = { s with dies := ds } := by
      split
      · exact ⟨_, rfl, _, rfl⟩
      · exact ⟨_, rfl, _, rfl⟩
    dsimp only
    rw [hu]
    cases r.1 with
    | none => exact ⟨ds, hds⟩
    | some e =>
      dsimp only
      rw [State.onTlb, if_neg (by omega), if_neg (by omega), hds]
      exact ⟨_, rfl⟩

theorem landed_dies (s : State) (p : Packet) : ∃ ds, s.landed p = { s with dies := ds } := by
  rw [State.landed]
  split
  · exact walked_dies ..
  · exact ⟨_, rfl⟩

theorem lostDie_landed (s : State) (p : Packet) (d : Nat) : (s.landed p).lostDie d = s.lostDie d := by
  rw [State.landed]
  split
  · exact congrArg Option.isSome ((walked_recordsKept s p.part p.addr).lost d)
  · rfl

theorem retryEngines_of_going (part home : Nat) (h : ∀ g a c, s.headCmd g a = some c → c.stop = none) : s.retryEngines part home = s := by
  refine List.foldlRecOn (motive := fun u => u = s) _ _ rfl fun u hu q _ => ?_
  rw [hu]
  cases hc : s.headCmd q.1 q.2 with
  | none => rfl
  | some c =>
    dsimp only
    rw [h _ _ _ hc]

theorem retryPort_of_empty (part home : Nat) (h : (s.port n).parked = []) : s.retryPort part home n = s := by
  rw [State.retryPort, h]
  rfl

/-- The one port that has a parked access is the one that retries. -/
theorem retryPorts_of_one {part home : Nat} {t : State} (hn : n < 16) (hs : ∀ m, m < 16 → m ≠ n → (s.port m).parked = []) (hone : s.retryPort part home n = t)
    (ht : ∀ m, m < 16 → m ≠ n → (t.port m).parked = []) : (List.range 16).foldl (fun s n => s.retryPort part home n) s = t := by
  obtain ⟨l, r, hl⟩ := List.append_of_mem (List.mem_range.2 hn)
  have hnodup : (l ++ n :: r).Nodup := hl ▸ List.nodup_range
  have hbelow : ∀ m ∈ l ++ n :: r, m < 16 := fun m hm => List.mem_range.1 (hl ▸ hm)
  have hidle : ∀ (u : State) (ms : List Nat), (∀ m ∈ ms, (u.port m).parked = []) → ms.foldl (fun s n => s.retryPort part home n) u = u := fun u ms hms =>
    List.foldlRecOn (motive := fun v => v = u) ms _ rfl fun v hv m hm => by
      rw [hv]
      exact retryPort_of_empty part home (hms m hm)
  rw [hl, List.foldl_append, List.foldl_cons, hidle s l, hone, hidle t r]
  · intro m hm
    refine ht m (hbelow m (List.mem_append_right _ (List.mem_cons_of_mem _ hm))) fun hmn => ?_
    exact (List.nodup_cons.1 (List.nodup_append.1 hnodup).2.1).1 (hmn ▸ hm)
  · intro m hm
    refine hs m (hbelow m (List.mem_append_left _ hm)) fun hmn => ?_
    exact (List.nodup_append.1 hnodup).2.2 m hm n List.mem_cons_self hmn

theorem retryPort_of_single {part home : Nat} {f : Parked} (hparked : (s.port n).parked = [f]) (hpart : f.packet.part = part) (hheld : s.heldBack f.packet = false)
    (hhome : shardOf f.packet.addr = home) : s.retryPort part home n = s.retryParked n f := by
  rw [State.retryPort, hparked, List.foldl_cons, List.foldl_nil]
  refine (if_neg ?_).trans ((if_neg (by rw [hheld]; exact Bool.false_ne_true)).trans (if_pos (Or.inr hhome)))
  rw [hparked, List.takeWhile_cons, bne_self_eq_false]
  rintro (hne | hany)
  · exact hne hpart
  · exact Bool.false_ne_true hany

/-- A parked store whose translation now gives a tile is performed there and leaves its entry. -/
theorem retryParked_store {gt off : Nat} {f : Parked} (hland : s.landing f.packet = .ok (.tile gt off)) (hkind : f.packet.kind = 2) (hpois : f.packet.pois = false)
    (henable : f.packet.enable = []) (hcarries : s.carries n f.packet.part (.tile gt off) = true) (hfit : off + f.packet.data.length ≤ 2 ^ 22)
    (hdie : s.lostDie (dieOf gt) = false) :
    s.retryParked n f = (((s.landed f.packet).unpark n f.entry).writeMem (sramKey gt off) f.packet.data).notice n f.packet true false := by
  obtain ⟨ds, hds⟩ := landed_dies s f.packet
  rw [State.retryParked, hland]
  refine serve_store hkind hpois henable ?_ hfit ?_
  · rw [hds]
    exact hcarries
  · exact (lostDie_landed s f.packet _).trans hdie

/-- Settles O47: each event of a packet by what the flow, the guard and the unit it reaches make of it. -/
theorem packetEvents : Obligations.PacketEvents := by
  unfold Obligations.PacketEvents
  intro s
  refine ⟨fun port p => ⟨fun hbad => ?_, fun gt off hturn hkind hpois haddr hpkg hgt hfit hdie => ?_⟩, fun src dest seq r hr => ?_, fun src seq f hf hseq => ?_,
    fun src dest seq f hf => ?_, fun src dest seq n p hp hcls hsrc hdest hseq => ?_, fun port _ => ?_,
    fun part home n gt off f hn hgoing hparked hinv hheld henable hothers hpart hhome hkind hpois hland hcarries hfit hdie => ?_⟩
  · exact congrArg Host.Outcome.next (if_pos hbad)
  · have hclass := classify_window haddr hpkg hgt (off := off) (by omega)
    have hexec := ingress_of_store hturn hkind hclass
    obtain ⟨-, -, -, -, -, -, -, -, henable, -, hret, hempty⟩ := hturn
    refine ⟨fun hpart hcarries => ?_, fun hpart => ?_⟩
    · obtain ⟨hsrc, hdest⟩ := ends_inbound s p
      obtain ⟨q, hq, hqkind, hqperf, hqdest, hqseq⟩ := respond_sends ((s.entered p).writeMem (sramKey gt off) p.data) port p 0x12 0 true false []
      have hserve : (s.entered p).arrive port p = ((s.entered p).writeMem (sramKey gt off) p.data).emit (.packet port q) :=
        (arrive_of_window (s := s.entered p) hclass hret hempty).trans ((serve_store (s := s.entered p) hkind hpois henable hcarries hfit hdie).trans hq)
      rw [if_pos hpart, hserve] at hexec
      refine ⟨_, hexec, rfl, rfl, ?_, port, q, rfl, hqkind, hqperf, hqdest, hqseq⟩
      exact congrArg (Option.map PacketFlow.accepted) (flow_setFlow s { s.inbound p with accepted := (s.inbound p).accepted + 1, goBack := none } hsrc hdest)
    · rw [if_neg hpart] at hexec
      obtain ⟨hmem, hslots⟩ := guardRecord_frame (s.entered p) p 1 gt
      have hout : ((s.entered p).guardRecord p 1 gt).guardOutcome port p = ((s.entered p).guardRecord p 1 gt).respond port p 0x12 0 true false [1] := by
        simp only [State.guardOutcome, hkind]
      rw [hout] at hexec
      exact ⟨_, hexec, hmem, hslots, fun hroom => guardLog_guardRecord (s.entered p) p 1 gt hroom⟩
  · have hexec : ∀ perf, exec (.acceptNotice src dest seq perf) s = execAcceptNotice src dest seq perf s := fun _ => rfl
    have hcopy := freeCopy_frame s src dest seq
    have hreq : (s.freeCopy src dest seq).requestOf src dest seq = some r := by
      rw [State.requestOf, hcopy.1]
      exact hr
    refine ⟨⟨(s.freeCopy src dest seq).onRequest r.id (fun r => { r with phase := .accepted }), ?_, hcopy.2, fun q hq hid => ?_, fun f hf p hp => ?_⟩, fun hstore =>
      ⟨(s.freeCopy src dest seq).post (.replyArrival r.id 0 false), ?_, hcopy.1, congrArg (· ++ _) hcopy.2⟩⟩
    · rw [Gives, hexec, execAcceptNotice]
      simp only [hreq, Bool.not_false, if_true]
    · obtain ⟨q', -, rfl⟩ := List.mem_map.1 hq
      by_cases h : (q'.id == r.id) = true
      · rw [if_pos h]
      · rw [if_neg h] at hid
        exact absurd (beq_iff_eq.2 hid) h
    · exact freeCopy_frees hf p hp
    · rw [Gives, hexec, execAcceptNotice]
      simp only [hreq, hstore, Bool.not_true, Bool.false_eq_true, if_false, if_true]
  · obtain ⟨hsrc, hdest⟩ := ends_of_flow hf
    refine ⟨_, trimmedHeadArrival_asks hf hseq, rfl, ?_, arrivalPort src, _, rfl, rfl, rfl, rfl⟩
    exact flow_setFlow s { f with goBack := some (BitVec.ofNat 16 seq) } hsrc hdest
  · have hexec : exec (.resendRequest src dest seq) s = execResendRequest src dest seq s := rfl
    rw [execResendRequest, hf] at hexec
    exact ⟨_, hexec, resends_frame _ _ s⟩
  · have hexec : exec (.routerTrim src dest seq) s = execRouterTrim src dest seq s := rfl
    have hmine : (p.cls == 3 && p.src == src && flowDest p.dest == flowDest dest && p.seq == seq) = true := by
      rw [hcls, hsrc, hdest, hseq]
      simp only [beq_self_eq_true, Bool.and_self]
    refine ⟨_, hexec.trans (congrArg Host.Outcome.next (if_pos (List.any_eq_true.2 ⟨_, hp, hmine⟩))), rfl, ?_, List.length_map _⟩
    exact List.mem_map.2 ⟨_, hp, if_pos hmine⟩
  · exact ⟨_, rfl, rfl, congrArg Port.foreign (port_onUalink s fun q => { q with foreign := satInc q.foreign })⟩
  · have hexec : exec (.parkedRetry part home) s = execParkedRetry part home s := rfl
    rw [execParkedRetry, if_neg (by rw [hinv]; exact Bool.false_ne_true), retryEngines_of_going part home hgoing] at hexec
    obtain ⟨ds, hds⟩ := landed_dies s f.packet
    have hports : ∀ m, (s.landed f.packet).port m = s.port m := fun m => by
      rw [hds]
      rfl
    have hone := (retryPort_of_single hparked hpart hheld hhome).trans
      (retryParked_store hland hkind hpois henable (by rw [hpart]; exact hcarries) hfit hdie)
    rw [retryPorts_of_one hn hothers hone fun m hm hmn => ?_] at hexec
    · refine ⟨_, hexec, ?_, ?_⟩
      · show Memory.write (s.landed f.packet).mem _ _ = _
        rw [hds]
        rfl
      · show (((s.landed f.packet).unpark n f.entry).port n).parked = []
        rw [State.unpark, port_onUalink, hports, hparked, List.filter_singleton, bne_self_eq_false]
        rfl
    · show (((s.landed f.packet).unpark n f.entry).port m).parked = []
      rw [State.unpark, port_onUalink_ne _ hn hm hmn, hports]
      exact hothers m hm hmn

end

end Sys2Proof.Machine

namespace Sys2Proof.Machine

open Sys2Proof.Claims

set_option Elab.async false

/-! ## The loss of a die (spec/17 R374 to R376) -/

/-- The same dies are lost. -/
structure LossKept (s u : State) : Prop where
  lost : ∀ d, (u.die d).lostAt = (s.die d).lostAt

section
variable {s t u : State}

theorem LossKept.refl (s : State) : LossKept s s := ⟨fun _ => rfl⟩
theorem LossKept.trans (h : LossKept s t) (h' : LossKept t u) : LossKept s u := ⟨fun d => (h'.lost d).trans (h.lost d)⟩
theorem LossKept.foldl {α : Type} {f : State → α → State} (hf : ∀ s a, LossKept s (f s a)) (l : List α) (s : State) : LossKept s (l.foldl f s) :=
  List.foldlRecOn l f (motive := LossKept s) (.refl s) fun _ hu a _ => hu.trans (hf _ a)
theorem LossKept.ite {c : Prop} [Decidable c] (h : LossKept s t) (h' : LossKept s u) : LossKept s (if c then t else u) := by
  split
  · exact h
  · exact h'
theorem Quiet.loss (h : Quiet s u) : LossKept s u := ⟨h.lost⟩
theorem LossKept.of_dies (h : u.dies = s.dies) : LossKept s u := ⟨fun d => by rw [State.die, h]; rfl⟩
theorem Told.loss (h : Told s u) : LossKept s u := .of_dies h.dies

theorem Assoc.get_of_absent {α : Type} {d : α} {m : List (Nat × α)} {k : Nat} (h : ∀ e ∈ m, e.1 ≠ k) : Assoc.get d m k = d := by
  have hnone : m.find? (fun e => e.1 == k) = none := List.find?_eq_none.2 fun e he hc => h e he (beq_iff_eq.1 hc)
  rw [Assoc.get, hnone]

/-! What a kill and a cancellation leave of that. -/

theorem cancelHere_loss (s : State) (key cause : Nat) : LossKept s (s.cancelHere key cause) := by
  rw [State.cancelHere]
  split
  · exact .refl s
  · split
    · exact .refl s
    · refine LossKept.trans ?_ (post_told ..).loss
      refine LossKept.trans ?_ (.foldl (fun u e => (post_told ..).loss) _ _)
      exact .foldl (fun u k => (onScope_told ..).loss) _ _

theorem cancelScope_loss (s : State) (key cause : Nat) : LossKept s (s.cancelScope key cause) := by
  rw [State.cancelScope]
  split
  · exact .refl s
  · split
    · exact .refl s
    · split
      · exact (cancelHere_loss ..).trans (tell_told ..).loss
      · exact (cancelHere_loss ..).trans (tell_told ..).loss

theorem sendBlock_loss (s : State) (p : Issuer) (t : Target) (va : Word) (bs : Bytes) (bad : Bool) (wake : Option Instr) (enable : List (Nat × Nat)) :
    LossKept s (s.sendBlock p t va bs bad wake enable).2 := by
  rw [State.sendBlock]
  exact LossKept.trans (t := { s with nextId := s.nextId + 1, requests := s.requests ++ [_] }) (.of_dies rfl) ⟨(sendWrite_kept ..).records.lost⟩

theorem onRequest_loss (s : State) (id : Nat) (f : Request → Request) : LossKept s (s.onRequest id f) := .of_dies rfl

theorem accept_loss (s : State) (g : Nat) (kind : ReqKind) (addr : Word) (t : Option Target) (dest : Option Reg) (acq rel : Bool) (level : Nat) :
    LossKept s (s.accept g kind addr t dest acq rel level).2 := .of_dies rfl

theorem storeLanes_loss (s : State) (g : Nat) (e : VecEntry) (addr : Nat → Word) (d : VReg) (l : List (Nat × Target)) : LossKept s (s.storeLanes g e addr d l) := by
  rw [State.storeLanes]
  refine LossKept.trans (.foldl (fun u i => ?_) _ _) (.foldl (fun u q => ?_) _ _)
  · refine LossKept.trans ?_ (post_told ..).loss
    refine LossKept.trans ?_ (onRequest_loss ..)
    exact accept_loss ..
  · exact sendBlock_loss ..

theorem settleStores_loss (s : State) (g : Nat) : LossKept s (s.settleStores g) := by
  refine .foldl (fun u e => ?_) _ _
  exact .ite (storeLanes_loss ..) (.refl u)

theorem killRequests_loss (s : State) (g scope : Nat) : LossKept s (s.killRequests g scope) := by
  have hdrop : ∀ (u : State) (id : Nat), LossKept u (u.dropRequest id) := fun _ _ => .of_dies rfl
  refine .foldl (fun u r => ?_) _ _
  dsimp only
  split
  · exact onRequest_loss ..
  · exact onRequest_loss ..
  · exact onRequest_loss ..
  · exact onRequest_loss ..
  · exact .ite (hdrop ..) (onRequest_loss ..)
  · exact .ite (hdrop ..) (.ite ((hdrop ..).trans (tally_told ..).loss) (onRequest_loss ..))

theorem killQueues_loss (s : State) (g : Nat) : LossKept s (s.killQueues g) := by
  have hfills : LossKept s (((s.slot g).mq ++ (s.slot g).mbound).foldl (fun s e => if e.fill = 0 then s else s.freeFill (tileOfSlot g) e.qa e.fill) s) :=
    .foldl (fun u _ => .ite (.refl u) (freeFill_quiet ..).loss) _ _
  exact ⟨hfills.lost⟩

theorem killEngine_loss (s : State) (gt gen slot scope : Nat) : LossKept s (s.killEngine gt gen slot scope) := by
  have hrelease : ∀ (u : State) (c : EngineCmd), LossKept u ((u.releaseChannel gt c).uncharge gt c.k) := fun u c => by
    refine LossKept.trans (t := u.releaseChannel gt c) ?_ ?_
    · rw [State.releaseChannel]
      split
      · exact (onChan_quiet ..).loss
      · exact .refl u
    · generalize u.releaseChannel gt c = v
      cases hk : c.k with
      | none => exact .refl v
      | some k => exact .of_dies rfl
  have hcut : ∀ (u : State) (c : EngineCmd), LossKept u (let s := u.dropFill gt c
      let s := if c.kind = 8 then (match c.channel with
        | some ch => s.closeReceiver c.part gt ch
        | none => s) else s
      s.tally scope (fun n => { n with trunc := n.trunc + 1 })) := fun u c => by
    have hdrop : LossKept u (u.dropFill gt c) := by
      rw [State.dropFill]
      split
      · exact (freeFill_quiet ..).loss
      · exact .refl u
    refine hdrop.trans (LossKept.trans ?_ (tally_told ..).loss)
    refine .ite ?_ (.refl _)
    split
    · exact (closeReceiver_quiet ..).loss
    · exact .refl _
  rw [State.killEngine]
  refine (fun h => LossKept.ite h (LossKept.trans h (post_told ..).loss)) ?_
  refine LossKept.trans ?_ (.foldl (fun v n => .ite (.refl v) (unask_quiet ..).loss) _ _)
  exact LossKept.trans (LossKept.trans (.foldl hrelease _ _) (.foldl hcut _ _)) (.of_dies rfl)

theorem releaseGang_loss (s : State) (k : Nat) : LossKept s (s.releaseGang k) := .of_dies (vacant_releaseGang s 0 k).dies

theorem killOne_loss (s : State) (g owner : Nat) : LossKept s (s.killOne g owner) := by
  by_cases htask : (s.slot g).task = 0
  · have hnone : s.killOne g owner = s := if_pos htask
    rw [hnone]
    exact .refl s
  · obtain ⟨issued, mark, src, heq⟩ := killOne_eq owner htask
    rw [heq]
    obtain ⟨-, -, hdies, -⟩ := settleSlot_frame (((s.killWork g owner).killEnds (s.slot g) g owner).taskDies (s.slot g).task issued owner mark src) g
    refine LossKept.trans ?_ (.of_dies hdies)
    refine LossKept.trans ?_ (taskDies_quiet ..).loss
    have hwork : LossKept s (s.killWork g owner) := by
      have htally : LossKept s (if (s.slot g).forced then s.tally owner (fun c => { c with forced := true }) else s) := .ite (tally_told ..).loss (.refl s)
      refine htally.trans (LossKept.trans (LossKept.trans ?_ (killRequests_loss ..)) (killQueues_loss ..))
      refine LossKept.trans ?_ (settleStores_loss ..)
      exact .of_dies rfl
    refine hwork.trans ?_
    rw [State.killEnds]
    refine LossKept.trans ?_ (clearAnswers_quiet _ g).loss
    refine LossKept.trans ?_ (closeInbox_quiet _ g true).loss
    refine LossKept.trans ?_ (answerSaves_told ..).loss
    refine LossKept.trans ?_ (.foldl (fun _ _ => (dropMembership_quiet ..).loss) _ _)
    exact LossKept.trans (.foldl (fun _ _ => killEngine_loss ..) _ _) (.foldl (fun _ _ => ((closeSender_quiet ..).trans (closeReceiver_quiet ..)).loss) _ _)

theorem buryTask_loss (s : State) (h : Word) (killed : Bool) (owner mark src : Nat) : LossKept s (s.buryTask h killed owner mark src) := by
  rw [State.buryTask]
  split
  · exact .refl s
  · next r _ =>
    have hdies : ∀ levels, LossKept s ((r.parkedBars.foldl (fun s m => s.settleBar r.part src false levels m true) s).taskDies h killed owner mark src) := fun levels =>
      LossKept.trans (.foldl (fun _ _ => (settleBar_quiet ..).loss) _ _) (taskDies_quiet ..).loss
    dsimp only
    split
    · exact (hdies _).trans (releaseGang_loss ..)
    · exact hdies _

theorem killGang_loss (s : State) (k owner : Nat) (gang : Gang) : LossKept s (s.killGang k owner gang) := by
  refine LossKept.trans (.foldl (fun _ _ => killOne_loss ..) _ _) (.foldl (fun u h => ?_) _ _)
  split
  · exact buryTask_loss ..
  · exact .refl u

theorem loseTask_loss (s : State) (h : Word) : LossKept s (s.loseTask h) := by
  rw [State.loseTask]
  split
  · exact .refl s
  · next r _ =>
    refine .ite (.refl s) ?_
    refine LossKept.trans ?_ (tally_told ..).loss
    refine (cancelScope_loss s r.scope 3).trans ?_
    split
    · exact killOne_loss ..
    · exact .ite (killOne_loss ..) (buryTask_loss ..)
    · exact buryTask_loss ..

theorem loseCommands_loss (s : State) (mine : List Command) : LossKept s (s.loseCommands mine) := by
  refine .foldl (fun u c => ?_) _ _
  split
  · split
    · exact cancelScope_loss ..
    · exact .refl u
  · exact .ite (.of_dies rfl) (.refl u)

theorem logError_die (s : State) (record : Bytes) (die d : Nat) : ((s.logError record die).die d).lostAt = (s.die d).lostAt ∧
    ((s.logError record die).die d).tun = (s.die d).tun := by
  rw [State.logError]
  split
  · exact ⟨rfl, rfl⟩
  · have hcount : RecordsKept s (s.countDie die 12) := onDie_recordsKept s die fun _ => ⟨rfl, rfl⟩
    exact ⟨hcount.lost d, hcount.tun d⟩

theorem logError_slots (s : State) (record : Bytes) (die : Nat) : (s.logError record die).slots = s.slots ∧ (s.logError record die).mem = s.mem := by
  rw [State.logError]
  split <;> exact ⟨rfl, rfl⟩

/-- A die as it is lost. -/
def Die.losing (now : Word) (d : Die) : Die := { d with lostAt := some now }

/-- What a die holds once it has been lost. -/
def Die.emptied (d : Die) : Die :=
  { Die.reset with lostAt := d.lostAt, entryGens := d.entryGens, counters := d.counters, dramTemp := d.dramTemp, coreTemp := d.coreTemp }

/-- A die that has been lost holds no slot and no record. -/
theorem loseDie_spec {die : Nat} (hlost : s.lostDie die = false) : (s.loseDie die).lostDie die = true ∧ ((s.loseDie die).die die).tun = [] ∧
    ∀ g, g / 4 / 64 % 4 = die → (s.loseDie die).slot g = Slot.reset := by
  have hgo : ¬ s.lostDie die = true := by rw [hlost]; exact Bool.false_ne_true
  obtain ⟨v, f, rec, d, heq, hv⟩ : ∃ (v : State) (f : Nat × Tile → Nat × Tile) (rec : Bytes) (d : Nat),
      s.loseDie die = (State.onDie { v with tiles := v.tiles.map f, slots := v.slots.filter (fun e => dieOf (tileOfSlot e.1) != die) } die Die.emptied).logError rec d ∧
        (v.die die).lostAt = some s.now := by
    refine ⟨_, _, _, _, (if_neg hgo).trans rfl, ?_⟩
    refine ((loseCommands_loss ..).lost die).trans ?_
    refine ((LossKept.foldl (fun u k => ?_) _ _).lost die).trans ?_
    · split
      · exact killGang_loss ..
      · exact .refl u
    refine ((LossKept.foldl (fun u h => loseTask_loss u h) _ _).lost die).trans ?_
    show ((s.onDie die (Die.losing s.now)).die die).lostAt = _
    rw [State.die_onDie]
    rfl
  obtain ⟨hlostAt, htun⟩ := logError_die (State.onDie { v with tiles := v.tiles.map f, slots := v.slots.filter (fun e => dieOf (tileOfSlot e.1) != die) } die
    Die.emptied) rec d die
  obtain ⟨hslots, -⟩ := logError_slots (State.onDie { v with tiles := v.tiles.map f, slots := v.slots.filter (fun e => dieOf (tileOfSlot e.1) != die) } die
    Die.emptied) rec d
  rw [← heq, State.die_onDie] at hlostAt htun
  rw [← heq] at hslots
  refine ⟨?_, htun, fun g hg => ?_⟩
  · rw [State.lostDie, hlostAt]
    exact congrArg Option.isSome hv
  · rw [State.slot, hslots]
    exact Assoc.get_of_absent fun e he heq => bne_iff_ne.1 (List.mem_filter.1 he).2 (heq ▸ hg)

end

end Sys2Proof.Machine

namespace Sys2Proof.Machine

open Sys2Proof.Claims

set_option Elab.async false

/-! ## Frames, snapshots and errors (spec/17 R364 to R377) -/

/-- Tiles alone change. -/
def JustTiles (s u : State) : Prop := ∃ ts, u = { s with tiles := ts }

section
variable {s t u : State}

theorem JustTiles.refl (s : State) : JustTiles s s := ⟨s.tiles, rfl⟩
theorem JustTiles.trans (h : JustTiles s t) (h' : JustTiles t u) : JustTiles s u := by
  obtain ⟨_, rfl⟩ := h
  obtain ⟨ts, rfl⟩ := h'
  exact ⟨ts, rfl⟩
theorem JustTiles.foldl {α : Type} {f : State → α → State} (hf : ∀ s a, JustTiles s (f s a)) (l : List α) (s : State) : JustTiles s (l.foldl f s) :=
  List.foldlRecOn l f (motive := JustTiles s) (.refl s) fun _ hu a _ => hu.trans (hf _ a)

theorem onTile_justTiles (s : State) (gt : Nat) (f : Tile → Tile) : JustTiles s (s.onTile gt f) := ⟨_, rfl⟩

theorem withdrawLane_justTiles (s : State) (gt ch : Nat) : JustTiles s (s.withdrawLane gt ch) := by
  rw [State.withdrawLane]
  split
  · exact .refl s
  · split
    · exact (onTile_justTiles ..).trans (onTile_justTiles ..)
    · exact onTile_justTiles ..

theorem dropLeaving_justTiles (s : State) : JustTiles s s.dropLeaving := by
  refine .foldl (fun u gt => ?_) _ _
  split
  · split
    · exact .refl u
    · exact onTile_justTiles ..
  · exact .refl u

/-! The frame. -/

/-- A state whose clock step is that asked for. -/
def State.stepTaken (s : State) : State := { s with mgmt := { s.mgmt with clkstep := s.mgmt.nextStep } }

theorem frameStart_of_none (h : s.mgmt.frameReplies = []) : exec .frameStart s = .next s.stepTaken.dropLeaving := by
  obtain ⟨ts, hts⟩ := dropLeaving_justTiles s.stepTaken
  have hexec : exec .frameStart s = execFrameStart s := rfl
  have hnone : s.stepTaken.dropLeaving.mgmt.frameReplies = [] := by rw [hts]; exact h
  rw [hexec, execFrameStart]
  refine congrArg Host.Outcome.next (if_pos ?_)
  show (s.stepTaken.dropLeaving.mgmt.frameReplies.isEmpty || _) = true
  rw [hnone]
  rfl

/-- A state whose lend states are those written for the next frame. -/
def State.lendsTaken (s : State) : State :=
  { s with mgmt := { s.mgmt with lend := s.mgmt.nextLend.foldl (fun l e => Assoc.set l e.1 e.2) s.mgmt.lend, nextLend := [], frameReplies := [] } }

theorem frameStart_of_replies (h : s.mgmt.frameReplies ≠ []) (hnew : s.cycle / 8192 ≠ s.mgmt.frames) :
    exec .frameStart s = .next (s.mgmt.frameReplies.foldl (fun s id => s.answer id 0) s.stepTaken.dropLeaving.lendsTaken) := by
  obtain ⟨ts, hts⟩ := dropLeaving_justTiles s.stepTaken
  have hexec : exec .frameStart s = execFrameStart s := rfl
  rw [hexec, execFrameStart]
  show Host.Outcome.next (if (s.stepTaken.dropLeaving.mgmt.frameReplies.isEmpty || s.stepTaken.dropLeaving.cycle / 8192 == s.stepTaken.dropLeaving.mgmt.frames) then _
    else s.stepTaken.dropLeaving.mgmt.frameReplies.foldl (fun s id => s.answer id 0) s.stepTaken.dropLeaving.lendsTaken) = _
  rw [hts]
  refine congrArg Host.Outcome.next (if_neg ?_)
  rw [Bool.or_eq_true, List.isEmpty_iff, beq_iff_eq]
  exact fun hor => hor.elim h hnew

theorem answers_frame (ids : List Nat) (s : State) : let t := ids.foldl (fun s id => s.answer id 0) s
    t.mgmt = s.mgmt ∧ t.mem = s.mem ∧ t.agenda = s.agenda ++ ids.map (fun id => .replyArrival id 0 false) := by
  induction ids generalizing s with
  | nil => exact ⟨rfl, rfl, (List.append_nil _).symm⟩
  | cons id rest ih =>
    obtain ⟨hmgmt, hmem, hagenda⟩ := ih (s.answer id 0)
    refine ⟨hmgmt, hmem, hagenda.trans ?_⟩
    rw [List.map_cons, List.append_cons]
    rfl

/-- A value that a list of writes gives to a key, and no other, is there after them. -/
theorem get_writes {α : Type} {d : α} {i : Nat} {v : α} (l : List (Nat × α)) (m : List (Nat × α)) (hall : ∀ e ∈ l, e.1 = i → e.2 = v)
    (h : (i, v) ∈ l ∨ Assoc.get d m i = v) : Assoc.get d (l.foldl (fun m e => Assoc.set m e.1 e.2) m) i = v := by
  induction l generalizing m with
  | nil => exact h.resolve_left List.not_mem_nil
  | cons e rest ih =>
    obtain ⟨he, hrest⟩ := List.forall_mem_cons.1 hall
    refine ih _ hrest ?_
    rw [Assoc.get_set]
    by_cases hi : i = e.1
    · exact .inr ((if_pos hi).trans (he hi.symm))
    · rw [if_neg hi]
      refine h.imp_left fun hmem => ?_
      exact (List.mem_cons.1 hmem).resolve_left fun heq => hi (congrArg Prod.fst heq)

/-! Snapshots. -/

theorem waitingOf_slot {g : Nat} {w : Waiting} (h : s.waitingOf g = some w) : w.slot = g := by
  rw [State.waitingOf] at h
  dsimp only at h
  split at h
  · cases h
  · split at h
    · cases h; rfl
    · cases h; rfl
    · cases h; rfl
    · cases h; rfl
    · cases h; rfl
    · split at h
      · split at h
        · cases h; rfl
        · cases h
      · cases h

/-- A die with a snapshot taken. -/
def Die.snapped (mine : List Waiting) (now : Word) (d : Die) : Die := { d with previous := d.snapshot, snapshot := mine, snapshotAt := now }

/-- The waiting slots of a die. -/
def State.waitsOn (s : State) (die : Nat) : List Waiting := ((s.slots.map (·.1)).filter (fun g => dieOf (tileOfSlot g) == die)).filterMap s.waitingOf

theorem mem_waitsOn {die : Nat} {w : Waiting} (h : w ∈ s.waitsOn die) : s.waitingOf w.slot = some w ∧ w.slot / 4 / 64 % 4 = die := by
  obtain ⟨g, hg, hw⟩ := List.mem_filterMap.1 h
  obtain rfl := waitingOf_slot hw
  exact ⟨hw, beq_iff_eq.1 (List.mem_filter.1 hg).2⟩

theorem lastDie_noted (s : State) (die : Nat) (mine : List Waiting) : (s.onDie die (Die.snapped mine s.now)).lastDie = s.lastDie := by
  have hgood : ∀ d, ((s.onDie die (Die.snapped mine s.now)).die d).good = (s.die d).good := s.die_onDie_keep die fun _ => rfl
  have hlost : ∀ d, ((s.onDie die (Die.snapped mine s.now)).die d).lostAt = (s.die d).lostAt := s.die_onDie_keep die fun _ => rfl
  simp only [State.lastDie, State.lostDie, hgood, hlost]

theorem posts_agenda (f : Nat → Instr) (l : List Nat) (s : State) : ∃ a, l.foldl (fun s p => s.post (f p)) s = { s with agenda := a } := by
  refine List.foldlRecOn (motive := fun u : State => ∃ a, u = { s with agenda := a }) l _ ⟨s.agenda, rfl⟩ fun u hu p _ => ?_
  obtain ⟨a, rfl⟩ := hu
  exact ⟨_, rfl⟩

theorem deadlockSnapshot_of_good {d : Nat} (hlost : s.lostDie d = false) (hgood : (s.die d).good = true) : ∃ a,
    exec (.deadlockSnapshot d) s = .next { s.onDie d (Die.snapped (s.waitsOn d) s.now) with agenda := a } ∧ (d ≠ s.lastDie → a = s.agenda) := by
  have hexec : exec (.deadlockSnapshot d) s = execDeadlockSnapshot d s := rfl
  have hlast := lastDie_noted s d (s.waitsOn d)
  obtain ⟨a, ha⟩ := posts_agenda .snapshotExchange ((List.range 16).filter (fun p => (s.part p).configured)) (s.onDie d (Die.snapped (s.waitsOn d) s.now))
  have hgo : exec (.deadlockSnapshot d) s = .next (if d = (s.onDie d (Die.snapped (s.waitsOn d) s.now)).lastDie then
      ((List.range 16).filter (fun p => (s.part p).configured)).foldl (fun s p => s.post (.snapshotExchange p)) (s.onDie d (Die.snapped (s.waitsOn d) s.now))
      else s.onDie d (Die.snapped (s.waitsOn d) s.now)) := by
    rw [hexec, execDeadlockSnapshot]
    refine congrArg Host.Outcome.next (if_neg ?_)
    rw [hlost, hgood]
    exact Bool.false_ne_true
  rw [hgo, hlast]
  by_cases h : d = s.lastDie
  · rw [if_pos h, ha]
    exact ⟨a, rfl, fun hne => absurd h hne⟩
  · rw [if_neg h]
    exact ⟨s.agenda, rfl, fun _ => rfl⟩

/-! Closed sets. -/

/-- Each wait of a list depends on tasks of the list alone. -/
def Closed (l : List Waiting) : Prop := ∀ w ∈ l, ∀ h ∈ w.on, ∃ v ∈ l, v.task = h

/-- A wait that depends on tasks of a list alone. -/
def Waiting.inside (l : List Waiting) (w : Waiting) : Bool := w.on.all (fun h => l.any (fun v => v.task == h))

theorem closed_of_all {l : List Waiting} (h : l.filter (Waiting.inside l) = l) : Closed l := by
  intro w hw x hx
  have hin := List.all_eq_true.1 (List.filter_eq_self.1 h w hw) x hx
  obtain ⟨v, hv, htask⟩ := List.any_eq_true.1 hin
  exact ⟨v, hv, beq_iff_eq.1 htask⟩

theorem closed_closedSet (n : Nat) (l : List Waiting) (hn : l.length ≤ n) : Closed (closedSet n l) := by
  induction n generalizing l with
  | zero =>
    obtain rfl := List.eq_nil_of_length_eq_zero (Nat.le_zero.1 hn)
    exact fun w hw => absurd hw List.not_mem_nil
  | succ n ih =>
    show Closed (closedSet n (l.filter (Waiting.inside l)))
    by_cases hall : l.filter (Waiting.inside l) = l
    · rw [hall]
      have hfix : ∀ k, closedSet k l = l := fun k => by
        induction k with
        | zero => rfl
        | succ k ihk => exact (congrArg (closedSet k) hall).trans ihk
      rw [hfix n]
      exact closed_of_all hall
    · refine ih _ ?_
      have hlt : (l.filter (Waiting.inside l)).length < l.length :=
        Nat.lt_of_le_of_ne (List.length_filter_le ..) fun heq => hall (List.length_filter_eq_length_iff.1 heq |> List.filter_eq_self.2)
      omega

theorem mem_of_closedSet {n : Nat} {l : List Waiting} {w : Waiting} (h : w ∈ closedSet n l) : w ∈ l := by
  induction n generalizing l with
  | zero => exact h
  | succ n ih => exact (List.mem_filter.1 (ih h)).1

theorem counts_of_standing {p : Nat} {w : Waiting} (h : w ∈ s.standing p) : w.counts = true := by
  rw [State.standing] at h
  obtain ⟨v, hv, hw⟩ := List.mem_filterMap.1 h
  obtain ⟨x, -, rfl⟩ := Option.map_eq_some_iff.1 hw
  have hcounts := (List.mem_filter.1 hv).2
  rw [Bool.and_eq_true] at hcounts
  exact hcounts.1

/-- The closed set of a partition in the order of its tasks. -/
def State.deadlock (s : State) (p : Nat) : List Waiting :=
  (closedSet (s.standing p).length (s.standing p)).mergeSort (fun a b => decide (a.task.toNat ≤ b.task.toNat))

theorem deadlock_closed (s : State) (p : Nat) : ∀ w ∈ s.deadlock p, w.counts = true ∧ ∀ h ∈ w.on, ∃ v ∈ s.deadlock p, v.task = h := by
  intro w hw
  have hmem := List.mem_mergeSort.1 hw
  refine ⟨counts_of_standing (mem_of_closedSet hmem), fun h hh => ?_⟩
  obtain ⟨v, hv, htask⟩ := closed_closedSet _ _ (Nat.le_refl _) w hmem h hh
  exact ⟨v, List.mem_mergeSort.2 hv, htask⟩

/-! A closed set is reported. -/

/-- The closed set last reported of each partition stays. -/
structure ReportKept (s u : State) : Prop where
  reported : ∀ p, (u.part p).reported = (s.part p).reported

theorem ReportKept.refl (s : State) : ReportKept s s := ⟨fun _ => rfl⟩
theorem ReportKept.trans (h : ReportKept s t) (h' : ReportKept t u) : ReportKept s u := ⟨fun p => (h'.reported p).trans (h.reported p)⟩
theorem ReportKept.of_parts (h : u.parts = s.parts) : ReportKept s u := ⟨fun p => by rw [State.part, h]; rfl⟩
theorem ReportKept.foldl {α : Type} {f : State → α → State} (hf : ∀ s a, ReportKept s (f s a)) (l : List α) (s : State) : ReportKept s (l.foldl f s) :=
  List.foldlRecOn l f (motive := ReportKept s) (.refl s) fun _ hu a _ => hu.trans (hf _ a)
theorem ReportKept.ite {c : Prop} [Decidable c] (h : ReportKept s t) (h' : ReportKept s u) : ReportKept s (if c then t else u) := by
  split
  · exact h
  · exact h'

theorem onPart_reportKept (s : State) (p : Nat) {f : Partition → Partition} (hf : ∀ x, (f x).reported = x.reported) : ReportKept s (s.onPart p f) := by
  refine ⟨fun q => ?_⟩
  by_cases h : p % 16 = q % 16
  · have hget : ∀ v : Vector Partition 16, vget v q = vget v p := fun v => congrArg v.get (Fin.ext h.symm)
    rw [State.part, hget]
    show (vget (vset s.parts p (f (s.part p))) p).reported = _
    rw [vget_vset, hf, State.part, State.part, hget]
  · exact congrArg Partition.reported (vget_vset_ne _ _ _ _ h)

theorem walked_reportKept (s : State) (part : Nat) (va : Word) : ReportKept s (s.walked part va) := by
  obtain ⟨ds, hds⟩ := walked_dies s part va
  rw [hds]
  exact .of_parts rfl

theorem sendWrite_reportKept (s : State) (id part src : Nat) (super : Bool) (va : Word) (t : Target) (bs : Bytes) (bad : Bool) (enable : List (Nat × Nat)) :
    ReportKept s (s.sendWrite id part src super va t bs bad enable) := by
  cases t with
  | remoteTile pkg gt off => exact .of_parts (sendPacket_partsKept ..).parts
  | peer pkg => exact .of_parts (sendPacket_partsKept ..).parts
  | _ => exact .of_parts rfl

theorem sendBlock_reportKept (s : State) (p : Issuer) (t : Target) (va : Word) (bs : Bytes) (bad : Bool) (wake : Option Instr) :
    ReportKept s (s.sendBlock p t va bs bad wake).2 := by
  refine ReportKept.trans ?_ (sendWrite_reportKept ..)
  exact .of_parts rfl

theorem writeTarget_reportKept (s : State) (t : Target) (bs : Bytes) (bad : Bool) : ReportKept s (s.writeTarget t bs bad) := by
  have hmark : ∀ (u : State) (k : Nat), ReportKept u (u.writeMark k bs bad) := fun u k => .ite (.of_parts rfl) (.of_parts rfl)
  cases t with
  | tile g off => exact .ite (.refl s) (hmark ..)
  | dram d off key =>
    refine .ite (.refl s) ?_
    rw [State.writeKeyed]
    refine ReportKept.trans (.ite (.refl s) ?_) (hmark ..)
    refine .foldl (fun u i => ?_) _ _
    exact .ite (.refl u) (.of_parts rfl)
  | _ => exact .refl s

theorem deviceWrite_reportKept {part src : Nat} {va : Word} {bs : Bytes} (h : s.deviceWrite part src va bs = some u) : ReportKept s u := by
  obtain ⟨t, -, rfl⟩ := Option.map_eq_some_iff.1 h
  exact (walked_reportKept s part va).trans (.ite (sendBlock_reportKept ..) (writeTarget_reportKept ..))

theorem appendLog_reportKept (s : State) (part : Nat) (record : Bytes) : ReportKept s (s.appendLog part record) := by
  rw [State.appendLog]
  refine .ite (onPart_reportKept s part fun _ => rfl) ?_
  split
  · next u hu => exact (deviceWrite_reportKept hu).trans (onPart_reportKept u part fun _ => rfl)
  · refine ReportKept.trans ?_ (walked_reportKept ..)
    exact onPart_reportKept s part fun _ => rfl

theorem tellTrapTile_reportKept (s : State) (part : Nat) (record : Bytes) : ReportKept s (s.tellTrapTile part record) := by
  rw [State.tellTrapTile]
  exact .ite (.refl s) (.ite (.of_parts rfl) (.of_parts (sendPacket_partsKept ..).parts))

theorem tell_partsKept (s : State) (part : Nat) (pkgs : List Nat) (m : PodMsg) (ws : List Nat) (tail : Bytes) : PartsKept s (s.tell part pkgs m ws tail) := by
  have hsend : ∀ {u : State} (p : Packet), PartsKept s u → PartsKept s (u.sendPacket p) := fun {u} p hu => by
    obtain ⟨hmem, hslots, hparts⟩ := sendPacket_partsKept u p
    exact ⟨hmem.trans hu.mem, hslots.trans hu.slots, hparts.trans hu.parts⟩
  refine List.foldlRecOn (motive := PartsKept s) _ _ ⟨rfl, rfl, rfl⟩ fun u hu pkg _ => ?_
  refine List.foldlRecOn (motive := PartsKept s) _ _ ?_ fun v hv i _ => hsend _ hv
  exact ⟨hu.mem, hu.slots, hu.parts⟩

theorem judge_of_known {p : Nat} (h : s.deadlock p = [] ∨ (s.deadlock p).map (·.task) = (s.part p).reported) : s.judge p = s := by
  rw [State.judge]
  refine if_pos ?_
  show ((s.deadlock p).isEmpty || (s.deadlock p).map (·.task) == (s.part p).reported) = true
  rwa [Bool.or_eq_true, List.isEmpty_iff, beq_iff_eq]

/-- A partition that has reported a closed set. -/
def Partition.reporting (names : List Word) (p : Partition) : Partition := { p with reported := names }

theorem judge_of_new {p : Nat} (hne : s.deadlock p ≠ []) (hnew : (s.deadlock p).map (·.task) ≠ (s.part p).reported) :
    ((s.judge p).part p).reported = (s.deadlock p).map (·.task) ∧
      ((∀ h, ((s.deadlock p).map (·.task)).head? = some h → h.toNat / 2 ^ 20 % 1024 ≠ s.mgmt.package) → (s.judge p).mem = s.mem) := by
  obtain ⟨u, hu⟩ : ∃ u, u = s.onPart p (Partition.reporting ((s.deadlock p).map (·.task))) := ⟨_, rfl⟩
  have hjudge : s.judge p = if ((s.deadlock p).map (·.task)).head?.any (fun h => bits h 29 20 == s.mgmt.package) then
      (u.appendLog p (u.deadlockRecord (s.deadlock p) (u.die u.lastDie).snapshotAt)).tellTrapTile p (u.deadlockRecord (s.deadlock p) (u.die u.lastDie).snapshotAt)
      else u := by
    rw [State.judge, hu]
    refine if_neg ?_
    show ¬((s.deadlock p).isEmpty || (s.deadlock p).map (·.task) == (s.part p).reported) = true
    rw [Bool.or_eq_true, List.isEmpty_iff, beq_iff_eq]
    exact fun hor => hor.elim hne hnew
  have hreported : (u.part p).reported = (s.deadlock p).map (·.task) := by
    rw [hu]
    exact congrArg Partition.reported (vget_vset s.parts p _)
  rw [hjudge]
  refine ⟨?_, fun hfar => ?_⟩
  · have hkept : ReportKept u (if ((s.deadlock p).map (·.task)).head?.any (fun h => bits h 29 20 == s.mgmt.package) then
      (u.appendLog p (u.deadlockRecord (s.deadlock p) (u.die u.lastDie).snapshotAt)).tellTrapTile p (u.deadlockRecord (s.deadlock p) (u.die u.lastDie).snapshotAt)
      else u) := .ite ((appendLog_reportKept ..).trans (tellTrapTile_reportKept ..)) (.refl u)
    exact (hkept.reported p).trans hreported
  · rw [if_neg, hu]
    · rfl
    · rw [Option.any_eq_true]
      rintro ⟨h, hh, hb⟩
      exact hfar h hh (beq_iff_eq.1 hb)

/-! Errors. -/

theorem logError_of_room (h : s.mgmt.errorLog.length < 8192) (record : Bytes) (die : Nat) :
    s.logError record die = { s with mgmt := { s.mgmt with errorLog := s.mgmt.errorLog ++ [padTo 128 record] } } := if_pos h

theorem counters_countDie (s : State) (d i : Nat) : vget ((s.countDie d i).die d).counters i = satInc (vget (s.die d).counters i) := by
  have hdie : (s.countDie d i).die d = { s.die d with counters := vset (s.die d).counters i (satInc (vget (s.die d).counters i)) } := s.die_onDie d _
  rw [hdie]
  exact vget_vset ..

/-- A poisoned granule of a tile is poisoned at each of its bytes. -/
theorem poisoned_markPoison {gt addr : Nat} (hg : gt < 256) (ha : addr < 2 ^ 22) :
    (s.markPoison (sramKey gt (addr / 8 * 8)) 8).poisoned (gt * 2 ^ 30 + addr) 1 = true := by
  have hk : granule (sramKey gt (addr / 8 * 8)) = 8 := if_neg (by rw [sramKey]; omega)
  have hgran : granulesOf (sramKey gt (addr / 8 * 8)) 8 = [gt * 2 ^ 30 + addr / 8 * 8] := by
    have hone : (sramKey gt (addr / 8 * 8) + 8 - 1) / 8 + 1 - sramKey gt (addr / 8 * 8) / 8 = 1 := by rw [sramKey]; omega
    have hzero : (sramKey gt (addr / 8 * 8) / 8 + 0) * 8 = gt * 2 ^ 30 + addr / 8 * 8 := by rw [sramKey]; omega
    rw [granulesOf, hk, hone]
    exact congrArg (fun n => [n]) hzero
  have hin : gt * 2 ^ 30 + addr / 8 * 8 ∈ (s.markPoison (sramKey gt (addr / 8 * 8)) 8).poison := by
    rw [State.markPoison, hgran]
    show _ ∈ (if s.poison.contains (gt * 2 ^ 30 + addr / 8 * 8) then s.poison else s.poison ++ [gt * 2 ^ 30 + addr / 8 * 8])
    split
    · next h => exact List.contains_iff_mem.1 h
    · exact List.mem_append_right _ List.mem_cons_self
  refine List.any_eq_true.2 ⟨_, hin, decide_eq_true ?_⟩
  have hg8 : granule (gt * 2 ^ 30 + addr / 8 * 8) = 8 := hk
  rw [hg8]
  omega

theorem correctedError_of_empty {e : ErrorReport} (hempty : s.mgmt.errorLog = []) : ∃ t, Gives (.correctedError e) s t ∧ t.mem = s.mem ∧ t.slots = s.slots ∧
    t.mgmt.errorLog.length = 1 ∧ vget (t.die e.die).counters 10 = satInc (vget (s.die e.die).counters 10) := by
  have hcount := counters_countDie s e.die 10
  have hexec : exec (.correctedError e) s = execCorrectedError e s := rfl
  have hkeep : (s.countDie e.die 10).mem = s.mem ∧ (s.countDie e.die 10).slots = s.slots ∧ (s.countDie e.die 10).mgmt.errorLog = [] := ⟨rfl, rfl, hempty⟩
  rw [execCorrectedError] at hexec
  generalize s.countDie e.die 10 = v at hcount hexec hkeep
  obtain ⟨hmem, hslots, hnone⟩ := hkeep
  have hlogs := hexec.trans (congrArg Host.Outcome.next (if_neg (by rw [hnone]; exact Bool.false_ne_true)))
  rw [logError_of_room (by rw [hnone]; decide), hnone] at hlogs
  exact ⟨_, hlogs, hmem, hslots, rfl, hcount⟩

theorem markPoison_frame (s : State) (k n : Nat) : (s.markPoison k n).mem = s.mem ∧ (s.markPoison k n).slots = s.slots ∧ (s.markPoison k n).mgmt = s.mgmt ∧
    ∀ d, (s.markPoison k n).die d = s.die d := ⟨rfl, rfl, rfl, fun _ => rfl⟩

theorem errorEffect_of_scratch {e : ErrorReport} (hunit : e.unit = 3) (s : State) : s.errorEffect e = s.markPoison (sramKey e.gtile (e.addr / 8 * 8)) 8 := by
  rw [State.errorEffect]
  simp only [hunit]

theorem uncorrectableError_of_scratch {e : ErrorReport} (hempty : s.mgmt.errorLog = []) (hunit : e.unit = 3) : ∃ t, Gives (.uncorrectableError e) s t ∧ t.mem = s.mem ∧
    t.slots = s.slots ∧ t.mgmt.errorLog.length = 1 ∧ vget (t.die e.die).counters 11 = satInc (vget (s.die e.die).counters 11) ∧
      (e.addr < 2 ^ 22 → e.gtile < 256 → t.poisoned (e.gtile * 2 ^ 30 + e.addr) 1 = true) := by
  have hcount := counters_countDie s e.die 11
  have hkeep : (s.countDie e.die 11).mem = s.mem ∧ (s.countDie e.die 11).slots = s.slots ∧ (s.countDie e.die 11).mgmt.errorLog = [] := ⟨rfl, rfl, hempty⟩
  obtain ⟨rec, hexec⟩ : ∃ rec, exec (.uncorrectableError e) s = .next (((s.countDie e.die 11).logError rec e.die).errorEffect e) := ⟨_, rfl⟩
  rw [errorEffect_of_scratch hunit] at hexec
  generalize s.countDie e.die 11 = v at hcount hexec hkeep
  obtain ⟨hmem, hslots, hnone⟩ := hkeep
  rw [logError_of_room (by rw [hnone]; decide), hnone] at hexec
  obtain ⟨w, hw⟩ : ∃ w, w = { v with mgmt := { v.mgmt with errorLog := [] ++ [padTo 128 rec] } } := ⟨_, rfl⟩
  rw [← hw] at hexec
  obtain ⟨hmem', hslots', hmgmt', hdie'⟩ := markPoison_frame w (sramKey e.gtile (e.addr / 8 * 8)) 8
  refine ⟨_, hexec, ?_, ?_, ?_, ?_, fun ha hg => poisoned_markPoison hg ha⟩
  · rw [hmem', hw]
    exact hmem
  · rw [hslots', hw]
    exact hslots
  · rw [hmgmt', hw]
    rfl
  · rw [hdie', hw]
    exact hcount

theorem linkRetrain_of_room {d l : Nat} (hroom : s.mgmt.errorLog.length < 8192) : ∃ t, Gives (.linkRetrain d l) s t ∧ t = { s with mgmt := t.mgmt, tiles := t.tiles } ∧
    t.mgmt.errorLog.length = s.mgmt.errorLog.length + 1 := by
  have hexec : exec (.linkRetrain d l) s = execLinkRetrain d l s := rfl
  rw [execLinkRetrain, logError_of_room hroom] at hexec
  obtain ⟨v, hv⟩ : ∃ v : State, v = { s with mgmt := { s.mgmt with errorLog := s.mgmt.errorLog ++ [padTo 128 (s.errorRecord 6 8 d 0xFF 0 l [])] } } := ⟨_, rfl⟩
  rw [← hv] at hexec
  by_cases hport : 256 ≤ l
  · rw [if_pos hport, hv] at hexec
    exact ⟨_, hexec, rfl, List.length_append⟩
  · rw [if_neg hport] at hexec
    obtain ⟨ts, hts⟩ : JustTiles v ((List.range 16).foldl (fun s p =>
        ((s.laneUses p).filter (fun u => u.1 == (d * 64 + l / 4, l % 4))).foldl (fun s u => s.withdrawLane u.2.1 u.2.2) s) v) :=
      .foldl (fun u p => .foldl (fun w x => withdrawLane_justTiles ..) _ _) _ _
    rw [hts, hv] at hexec
    exact ⟨_, hexec, rfl, List.length_append⟩

theorem dieLost_of_held {d : Nat} (hlost : s.lostDie d = false) : ∃ t, Gives (.dieLost d) s t ∧ Gives (.thermalTrip d) s t ∧ t.lostDie d = true ∧ (t.die d).tun = [] ∧
    ∀ g, g / 4 / 64 % 4 = d → t.slot g = Slot.reset := by
  have hloss : exec (.dieLost d) s = execDieLost d s := rfl
  have htrip : exec (.thermalTrip d) s = execThermalTrip d s := rfl
  exact ⟨s.loseDie d, hloss, htrip, loseDie_spec hlost⟩

/-- Settles O49: each event of a frame, a snapshot, an error or a loss by what it leaves alone. -/
theorem partitionEvents : Obligations.PartitionEvents := by
  unfold Obligations.PartitionEvents
  intro s
  refine ⟨⟨fun hreplies hnew => ?_, fun hnone => ?_⟩, fun a b => ⟨rfl, rfl⟩, fun d _ hlost hgood => ?_, fun p => ⟨fun hknown => ?_, deadlock_closed s p, fun hne hnew => ?_⟩,
    fun d n => rfl, fun e _ hempty => ⟨correctedError_of_empty hempty, uncorrectableError_of_scratch hempty⟩, fun d l => linkRetrain_of_room,
    fun d _ => dieLost_of_held, fun d hlost => ⟨?_, ?_⟩⟩
  · obtain ⟨hmgmt, hmem, hagenda⟩ := answers_frame s.mgmt.frameReplies s.stepTaken.dropLeaving.lendsTaken
    obtain ⟨ts, hts⟩ := dropLeaving_justTiles s.stepTaken
    refine ⟨_, frameStart_of_replies hreplies hnew, ?_⟩
    rw [hmgmt, hmem, hagenda, hts]
    exact ⟨rfl, rfl, rfl, rfl, rfl, fun i v hall hin => get_writes _ _ hall (.inl hin)⟩
  · obtain ⟨ts, hts⟩ := dropLeaving_justTiles s.stepTaken
    refine ⟨_, frameStart_of_none hnone, ?_⟩
    rw [hts]
    rfl
  · obtain ⟨a, hexec, hagenda⟩ := deadlockSnapshot_of_good hlost hgood
    have hdie : (State.onDie s d (Die.snapped (s.waitsOn d) s.now)).die d = (s.die d).snapped (s.waitsOn d) s.now := s.die_onDie d _
    refine ⟨_, hexec, rfl, congrArg Die.previous hdie, congrArg Die.snapshotAt hdie, fun w hw => ?_, hagenda⟩
    have hin : w ∈ ((State.onDie s d (Die.snapped (s.waitsOn d) s.now)).die d).snapshot := hw
    rw [hdie] at hin
    exact mem_waitsOn hin
  · have hexec : exec (.snapshotExchange p) s = .next ((s.judge p).tell p (Config.peerModules p) .waits (s.snapshotWords p)) := rfl
    rw [judge_of_known hknown] at hexec
    obtain ⟨hmem, hslots, hparts⟩ := tell_partsKept s p (Config.peerModules p) .waits (s.snapshotWords p) []
    refine ⟨_, hexec, hmem, hslots, hparts, fun hpeers => ?_⟩
    rw [hpeers]
    rfl
  · obtain ⟨hmem, -, hparts⟩ := tell_partsKept (s.judge p) p (Config.peerModules p) .waits (s.snapshotWords p) []
    obtain ⟨hreported, hfar⟩ := judge_of_new hne hnew
    refine ⟨_, rfl, ?_, fun h hh hpkg => hmem.trans (hfar fun h' hh' => Option.some.inj (hh.symm.trans hh') ▸ hpkg)⟩
    rw [State.part, hparts]
    exact hreported
  · exact congrArg Host.Outcome.next (if_pos hlost)
  · exact congrArg Host.Outcome.next (if_pos hlost)

end

end Sys2Proof.Machine

namespace Sys2Proof.Machine

open Sys2Proof.Claims

set_option Elab.async false

/-! ## Sprinell, SPDM, power and heat (spec/18 R386 to R391) -/

section
variable {s : State} {w a : Nat}

/-! What an SPDM request leaves. -/

/-- The state after an answer to an SPDM request. -/
def State.answered (s : State) (msg r : Bytes) (session : Bool) : State :=
  State.emit { s with mgmt := { s.mgmt with transcript := s.mgmt.transcript ++ msg ++ r, session := session } } (.spdm r)

theorem spdmAnswer_answered (s : State) (code : Nat) (msg : Bytes) : ∃ r, s.spdmAnswer code msg = s.answered msg r s.mgmt.session := ⟨_, rfl⟩

theorem spdm_of_answer {i : Instr} {code : Nat} {msg : Bytes} (h : exec i s = .next (s.spdmAnswer code msg)) : ∃ r, Gives i s (s.answered msg r s.mgmt.session) := by
  obtain ⟨r, hr⟩ := spdmAnswer_answered s code msg
  exact ⟨r, h.trans (congrArg _ hr)⟩

theorem finish_answered (msg : Bytes) : ∃ r, Gives (.finish msg) s (s.answered msg r true) := ⟨_, rfl⟩
theorem endSession_answered (msg : Bytes) : ∃ r, Gives (.endSession msg) s (s.answered msg r false) := ⟨_, rfl⟩

theorem ideKm_takes (msg : Bytes) : ∃ r, Gives (.ideKm msg) s
    (State.emit { s with mgmt := { s.mgmt with ideKeys := if s.mgmt.session then msg else s.mgmt.ideKeys } } (.spdm r)) := by
  have hexec : exec (.ideKm msg) s = execIdeKm msg s := rfl
  rw [execIdeKm] at hexec
  refine ⟨Config.ideKmResponse msg s.mgmt.ideKeys, hexec.trans (congrArg Host.Outcome.next ?_)⟩
  cases h : s.mgmt.session with
  | true => exact if_pos h
  | false => exact if_neg (by rw [State.emit, h]; exact Bool.false_ne_true)

/-! Registers and counters. -/

theorem logRd_of_ready (hready : s.mgmt.state = .ready) (errors : Bool) (i n : Nat) :
    Gives (.logRd errors i n) s (s.sprinell 0 (((if errors then s.mgmt.errorLog else s.mgmt.guardLog).drop i).take n).flatten) :=
  congrArg Host.Outcome.next (if_pos hready)

theorem cntRd_of_ready {d i : Nat} (hready : s.mgmt.state = .ready) (hd : d < 4) (hi : i < 13) :
    Gives (.cntRd d i) s (s.sprinell 0 (toBytes 8 (vget (s.die d).counters i).toNat)) := by
  have hcounter : s.sprinellCounter d i = some (vget (s.die d).counters i) := (if_neg (Nat.not_le.2 hd)).trans (if_pos hi)
  have hexec : exec (.cntRd d i) s = .next (s.whenReady fun s => s.sprinellValue (s.sprinellCounter d i)) := rfl
  refine hexec.trans (congrArg Host.Outcome.next ((if_pos hready).trans ?_))
  exact congrArg s.sprinellValue hcounter

/-! The governor. -/

/-- A state with a count of samples below the limit, and none over it. -/
def State.sampled (s : State) (below : Nat) : State := { s with mgmt := { s.mgmt with below := below, overAtLimit := 0 } }

/-- What a sample that is not over the limit does. -/
theorem governor_of_within (h : a ≤ s.mgmt.plwork) : exec (.governorSample w a) s = .next (
    if a * 100 < s.mgmt.plwork * 97 then
      if s.mgmt.below + 1 < 100 then s.sampled (s.mgmt.below + 1)
      else { s with mgmt := { s.mgmt with below := 0, overAtLimit := 0,
                                          nextStep := if [0, 1, 2, 3].any (fun d => (s.die d).hot) then s.mgmt.nextStep else s.mgmt.nextStep - 1 } }
    else s.sampled 0) :=
  congrArg Host.Outcome.next (if_neg (Nat.not_lt.2 h))

theorem governor_of_over (h : s.mgmt.plwork < a) (hstep : s.mgmt.nextStep < 8) :
    Gives (.governorSample w a) s { s with mgmt := { s.mgmt with below := 0, nextStep := s.mgmt.nextStep + 1 } } := by
  have hmin : min 8 (s.mgmt.nextStep + 1) = s.mgmt.nextStep + 1 := Nat.min_eq_right hstep
  have hexec : exec (.governorSample w a) s = .next (State.stepUp { s with mgmt := { s.mgmt with below := 0 } }) :=
    congrArg Host.Outcome.next ((if_pos h).trans (if_pos hstep))
  rw [Gives, hexec, State.stepUp, hmin]

theorem governor_of_below (h : a * 100 < s.mgmt.plwork * 97) :
    (s.mgmt.below < 99 → Gives (.governorSample w a) s { s with mgmt := { s.mgmt with below := s.mgmt.below + 1, overAtLimit := 0 } }) ∧
      (99 ≤ s.mgmt.below → (∀ d, d < 4 → (s.die d).hot = false) →
        Gives (.governorSample w a) s { s with mgmt := { s.mgmt with below := 0, overAtLimit := 0, nextStep := s.mgmt.nextStep - 1 } }) := by
  have hexec := (governor_of_within (s := s) (w := w) (a := a) (by omega)).trans (congrArg Host.Outcome.next (if_pos h))
  refine ⟨fun hfew => hexec.trans (congrArg Host.Outcome.next (if_pos (by omega))), fun hmany hcool => ?_⟩
  have hnone : [0, 1, 2, 3].any (fun d => (s.die d).hot) = false := by
    simp only [List.any_cons, List.any_nil, hcool 0 (by decide), hcool 1 (by decide), hcool 2 (by decide), hcool 3 (by decide), Bool.or_self]
  rw [hnone] at hexec
  exact hexec.trans (congrArg Host.Outcome.next (if_neg (by omega)))

/-! Heat. -/

/-- A die that has taken its temperatures. -/
def Die.heated (dram core : Int) (d : Die) : Die :=
  { d with dramTemp := dram, coreTemp := core, refreshHalved := if 85 < dram then true else if dram < 83 then false else d.refreshHalved,
           hot := if decide (95 < dram ∨ 105 < core) then true else if decide (dram ≤ 93 ∧ core ≤ 103) then false else d.hot }

theorem thermalLimit_of_held {d : Nat} {dram core : Int} (hlost : s.lostDie d = false) : exec (.thermalLimit d dram core) s = .next (
    if 105 ≤ dram ∨ 115 ≤ core then (s.onDie d (Die.heated dram core)).loseDie d
    else if ((s.onDie d (Die.heated dram core)).die d).hot then (s.onDie d (Die.heated dram core)).stepUp else s.onDie d (Die.heated dram core)) :=
  congrArg Host.Outcome.next (if_neg (by rw [hlost]; exact Bool.false_ne_true))

theorem heated_hot {d : Die} {dram core : Int} : (95 < dram ∨ 105 < core → (d.heated dram core).hot = true) ∧
    (dram ≤ 93 → core ≤ 103 → (d.heated dram core).hot = false) := by
  refine ⟨fun h => if_pos (decide_eq_true h), fun hdram hcore => ?_⟩
  exact (if_neg (by rw [decide_eq_true_eq]; omega)).trans (if_pos (decide_eq_true ⟨hdram, hcore⟩))

theorem heated_refresh {d : Die} {dram core : Int} : (85 < dram → (d.heated dram core).refreshHalved = true) ∧
    (dram < 83 → (d.heated dram core).refreshHalved = false) :=
  ⟨fun h => if_pos h, fun h => (if_neg (by omega)).trans (if_pos h)⟩

theorem thermalLimit_of_bearable {d : Nat} {dram core : Int} (hlost : s.lostDie d = false) (hdram : dram < 105) (hcore : core < 115) :
    ∃ t, Gives (.thermalLimit d dram core) s t ∧ t.mem = s.mem ∧ t.slots = s.slots ∧ (t.die d).dramTemp = dram ∧ (t.die d).coreTemp = core ∧
      (85 < dram → (t.die d).refreshHalved = true) ∧ (dram < 83 → (t.die d).refreshHalved = false) ∧
      (95 < dram ∨ 105 < core → (t.die d).hot = true ∧ t.mgmt.nextStep = min 8 (s.mgmt.nextStep + 1)) ∧
      (dram ≤ 93 → core ≤ 103 → (t.die d).hot = false ∧ t.mgmt = s.mgmt) := by
  have hexec := (thermalLimit_of_held hlost (dram := dram) (core := core)).trans (congrArg Host.Outcome.next (if_neg (by omega)))
  have hdie : (s.onDie d (Die.heated dram core)).die d = (s.die d).heated dram core := s.die_onDie d _
  have hkeep : (s.onDie d (Die.heated dram core)).mem = s.mem ∧ (s.onDie d (Die.heated dram core)).slots = s.slots ∧
      (s.onDie d (Die.heated dram core)).mgmt = s.mgmt := ⟨rfl, rfl, rfl⟩
  generalize s.onDie d (Die.heated dram core) = v at hexec hdie hkeep
  obtain ⟨hmem, hslots, hmgmt⟩ := hkeep
  obtain ⟨habove, hcool⟩ := heated_hot (d := s.die d) (dram := dram) (core := core)
  obtain ⟨hhigh, hlow⟩ := heated_refresh (d := s.die d) (dram := dram) (core := core)
  rw [hdie] at hexec
  cases hhot : ((s.die d).heated dram core).hot with
  | true =>
    rw [hhot] at hexec
    refine ⟨v.stepUp, hexec, hmem, hslots, ?_⟩
    have hstep : v.stepUp.die d = (s.die d).heated dram core := hdie
    rw [hstep]
    refine ⟨rfl, rfl, hhigh, hlow, fun _ => ⟨hhot, ?_⟩, fun h h' => absurd ((hcool h h').symm.trans hhot) Bool.false_ne_true⟩
    rw [← hmgmt]
    rfl
  | false =>
    rw [hhot] at hexec
    refine ⟨v, hexec, hmem, hslots, ?_⟩
    rw [hdie]
    exact ⟨rfl, rfl, hhigh, hlow, fun h => absurd (hhot.symm.trans (habove h)) Bool.false_ne_true, fun _ _ => ⟨hhot, hmgmt⟩⟩

theorem thermalLimit_of_trip {d : Nat} {dram core : Int} (hlost : s.lostDie d = false) (hhot : 105 ≤ dram ∨ 115 ≤ core) :
    ∃ t, Gives (.thermalLimit d dram core) s t ∧ t.lostDie d = true := by
  have hexec := (thermalLimit_of_held hlost (dram := dram) (core := core)).trans (congrArg Host.Outcome.next (if_pos hhot))
  have hheld : (s.onDie d (Die.heated dram core)).lostDie d = false := by
    rw [State.lostDie, State.die_onDie]
    exact hlost
  exact ⟨_, hexec, (loseDie_spec hheld).1⟩

/-- Settles O52: each register, request, sample and limit by what it does. -/
theorem management : Obligations.Management := by
  unfold Obligations.Management
  intro s
  refine ⟨⟨rfl, rfl⟩, fun w hlo hhi => ?_, fun i n hready => ⟨logRd_of_ready hready true i n, logRd_of_ready hready false i n⟩,
    fun d i => cntRd_of_ready, fun msg => ?_, fun msg => ⟨_, rfl⟩, fun msg => ideKm_takes msg, fun w a => ⟨governor_of_over, fun h => (governor_of_below h).1,
      fun h => (governor_of_below h).2, fun hle hge => ?_⟩, fun w v => rfl, fun d dram core _ => thermalLimit_of_bearable, fun d dram core _ => thermalLimit_of_trip⟩
  · exact congrArg Host.Outcome.next (if_neg (by omega))
  · simp only [List.forall_mem_cons]
    exact ⟨spdm_of_answer rfl, spdm_of_answer rfl, spdm_of_answer rfl, spdm_of_answer rfl, spdm_of_answer rfl, spdm_of_answer rfl, spdm_of_answer rfl,
      finish_answered msg, endSession_answered msg, fun p hp => absurd hp List.not_mem_nil⟩
  · exact (governor_of_within hle).trans (congrArg Host.Outcome.next (if_neg (Nat.not_lt.2 hge)))

end

end Sys2Proof.Machine

namespace Sys2Proof.Machine

open Sys2Proof.Claims

set_option Elab.async false

/-! ## The checks that every instruction passes first (spec/05 R110, spec/06 R127, spec/02 R56, spec/13 R267, R277) -/

/-- An instruction that issues as a form that names these registers. -/
def IssuesAs (s : State) (i : Instr) (f : Form) (rs : List Reg) : Prop := ∃ body, exec i s = s.issue f rs body

section
variable {s : State} {i : Instr} {f : Form} {rs : List Reg}

theorem issuesAs_of_aluRow {w : Reg × Word} (h : aluRow i (me s) = some (rs, w)) : IssuesAs s i {} rs := by
  obtain ⟨p, hexec, -⟩ := exec_of_aluRow.apply h
  exact ⟨_, hexec⟩

theorem issuesAs_of_satRow {w : Reg × Int} (h : satRow i (me s) = some (rs, w)) : IssuesAs s i {} rs := by
  obtain ⟨p, hexec, -⟩ := exec_of_satRow.apply h
  exact ⟨_, hexec⟩

theorem issuesAs_of_branchRow {w : Reg × BitVec 19 × Bool} (h : branchRow i (me s) = some w) : IssuesAs s i {} [w.1] := by
  obtain ⟨p, hexec, -⟩ := exec_of_branchRow.apply h
  exact ⟨_, hexec⟩

theorem issuesAs_of_loopRow {w : Nat × BitVec 12} (h : loopRow i (me s) = some (rs, w)) : IssuesAs s i {} rs := by
  obtain ⟨c, hexec, -⟩ := exec_of_loopRow.apply h
  exact ⟨_, hexec⟩

theorem issuesAs_of_vecRow {w : VecWord} (h : vecRow i = some (rs, w)) : IssuesAs s i { engine := true } rs := by
  obtain ⟨bad, hexec, -, -⟩ := (vectorForm_of_vecRow (s := s)).apply h
  exact ⟨_, hexec⟩

theorem issuesAs_of_vecMemRow {w : VecWord} (h : vecMemRow i = some (rs, w)) : IssuesAs s i { engine := true } rs := by
  obtain ⟨hdirect, hindexed⟩ := (vectorPortForm_of_vecMemRow (s := s)).apply h
  by_cases hg : w.op = .gather
  · exact ⟨_, hindexed (.inl hg)⟩
  · by_cases hs : w.op = .scatter
    · exact ⟨_, hindexed (.inr hs)⟩
    · exact ⟨_, (hdirect hg hs).1⟩

theorem issuesAs_of_selRow {w : SelOp × Reg × Reg × Reg × Nat} (h : selRow i = some (rs, w)) : IssuesAs s i { engine := true, stile := true } rs := by
  obtain ⟨body, hexec, -⟩ := (selRow_issue (s := s)).apply h
  exact ⟨body, hexec⟩

/-- A matrix instruction asks for its word. -/
theorem exec_of_matRow : OfRow (fun ⟨rs, w⟩ => exec i s = s.matrix rs w) (matRow i) := by
  rcases i
  any_goals exact trivial
  all_goals rfl

/-- An engine instruction asks for its command. -/
theorem exec_of_engineRow : OfRow (fun ⟨d, p, k, g, n⟩ => exec i s = s.engineCommand d p k g n) (engineRow i) := by
  rcases i
  any_goals exact trivial
  all_goals rfl

theorem issuesAs_of_checkRow : OfRow (fun ⟨f, rs⟩ => IssuesAs s i f rs) (checkRow i) := by
  rcases i
  any_goals exact trivial
  case idle => exact ⟨_, execIdle.eq_1 s⟩
  case tret => exact ⟨_, execTret.eq_1 s⟩
  case tlbInv a b => exact ⟨_, execTlbInv.eq_1 a b s⟩
  case guardWr d a b => exact ⟨_, execGuardWr.eq_1 d a b s⟩
  case frameWr d a b => exact ⟨_, execFrameWr.eq_1 d a b s⟩
  case slotSave d a => exact ⟨_, execSlotSave.eq_1 d a s⟩
  case slotRestore d a b => exact ⟨_, execSlotRestore.eq_1 d a b s⟩
  case yield => exact ⟨_, execYield.eq_1 s⟩
  case send d ch b => exact ⟨_, execSend.eq_1 d ch b s⟩
  case sendRaw d ch b => exact ⟨_, execSendRaw.eq_1 d ch b s⟩
  case recv d ch => exact ⟨_, execRecv.eq_1 d ch s⟩
  case alt d a => exact ⟨_, execAlt.eq_1 d a s⟩
  case waitlt k n => exact ⟨_, execWaitlt.eq_1 k n s⟩
  case waitltX k b => exact ⟨_, execWaitltX.eq_1 k b s⟩
  case barArrive d a => exact ⟨_, execBarArrive.eq_1 d a s⟩
  case cancelWait d a => exact ⟨_, execCancelWait.eq_1 d a s⟩
  case gangSync d => exact ⟨_, execGangSync.eq_1 d s⟩
  case endTask a => exact ⟨_, execEndTask.eq_1 a s⟩

theorem issuesAs_of_formOf (h : FormOf i (me s) f rs) : IssuesAs s i f rs := by
  rcases h with h | ⟨rfl, w, h⟩ | ⟨rfl, w, h⟩ | ⟨rfl, ⟨w, h⟩ | ⟨w, h⟩ | ⟨d, p, k, g, n, h, rfl⟩⟩ | ⟨rfl, ⟨w, h⟩ | ⟨w, h⟩ | ⟨w, h, rfl⟩ | ⟨w, h⟩⟩
  · exact issuesAs_of_checkRow.apply h
  · exact ⟨_, exec_of_matRow.apply h⟩
  · exact issuesAs_of_selRow h
  · exact issuesAs_of_vecRow h
  · exact issuesAs_of_vecMemRow h
  · exact ⟨_, exec_of_engineRow.apply h⟩
  · exact issuesAs_of_aluRow h
  · exact issuesAs_of_satRow h
  · exact issuesAs_of_branchRow h
  · exact issuesAs_of_loopRow h

theorem privileged_alone_of_checkRow : OfRow (fun ⟨f, _⟩ => f.privileged = true → f = { privileged := true }) (checkRow i) := by
  rcases i
  any_goals exact trivial
  all_goals
    intro hp
    cases hp <;> rfl

/-- A privileged instruction is subject to no other check. -/
theorem privileged_alone (h : FormOf i (me s) f rs) (hp : f.privileged = true) : f = { privileged := true } := by
  rcases h with h | ⟨rfl, -⟩ | ⟨rfl, -⟩ | ⟨rfl, -⟩ | ⟨rfl, -⟩
  · exact privileged_alone_of_checkRow.apply h hp
  all_goals exact Bool.noConfusion hp

/-- An instruction whose form fails a check does nothing else. -/
theorem gives_of_formCause {c : Nat} (h : IssuesAs s i f rs) (hfree : s.anyBusy s.cur (me s) rs = false) (hc : (me s).formCause (s.cur / 4) f = some c) :
    Gives i s (s.takeTrap s.cur c (s.wordAt (me s))) := by
  obtain ⟨body, hexec⟩ := h
  have hcause : (s.slot s.cur).formCause (tileOfSlot s.cur) f = some c := hc
  rw [Gives, hexec, State.issue, if_neg (by rw [hfree]; exact Bool.false_ne_true), hcause]
  rfl

/-- Settles O53: an instruction whose form is known issues through the common checks. -/
theorem commonChecks : Obligations.CommonChecks := by
  unfold Obligations.CommonChecks
  intro s i f rs h
  have hissue := issuesAs_of_formOf h
  have hother : ∀ {b : Bool}, b = true → (f.privileged = true → b = false) → (f.privileged && !(me s).status.super) = false := fun hb hp => by
    cases hf : f.privileged with
    | false => rfl
    | true => exact absurd (hb.symm.trans (hp hf)) Bool.noConfusion
  refine ⟨fun hbusy => ?_, fun hfree => ⟨fun hp hs => ?_, fun hm ht => ?_, fun hm ht => ?_, fun he hb => ?_, fun hn hi hb => ?_⟩⟩
  · obtain ⟨body, hexec⟩ := hissue
    exact hexec.trans (if_pos hbusy)
  · refine gives_of_formCause hissue hfree (if_pos ?_)
    rw [hp, hs]
    rfl
  · have hfirst := hother hm fun hp => by rw [privileged_alone h hp]
    refine gives_of_formCause hissue hfree ((if_neg (by rw [hfirst]; exact Bool.false_ne_true)).trans (if_pos ?_))
    rw [hm, ht]
    rfl
  · have hfirst := hother hm fun hp => by rw [privileged_alone h hp]
    refine gives_of_formCause hissue hfree ((if_neg (by rw [hfirst]; exact Bool.false_ne_true)).trans (if_pos ?_))
    rw [hm, ht, Bool.or_eq_true]
    exact .inr rfl
  · have hfirst := hother he fun hp => by rw [privileged_alone h hp]
    refine gives_of_formCause hissue hfree ((if_neg (by rw [hfirst]; exact Bool.false_ne_true)).trans ?_)
    split
    · rfl
    · exact if_pos (by rw [he, hb]; rfl)
  · have hfirst := hother hn fun hp => by rw [privileged_alone h hp]
    refine gives_of_formCause hissue hfree ((if_neg (by rw [hfirst]; exact Bool.false_ne_true)).trans ?_)
    split
    · rfl
    · exact (if_neg (by rw [hb, Bool.and_false]; exact Bool.false_ne_true)).trans (if_pos (by rw [hn, hi, hb]; rfl))

end

end Sys2Proof.Machine

namespace Sys2Proof.Machine

open Sys2Proof.Claims

set_option Elab.async false

/-! ## Engine commands accepted (spec/09 R199, R201, R219) -/

/-- The state with another tile `gt`, whose generators and counters are as they were. -/
structure EndpointsOnly (gt : Nat) (s u : State) : Prop where
  tiles : JustTiles s u
  gens : (u.tile gt).gens = (s.tile gt).gens
  k : (u.tile gt).k = (s.tile gt).k
  other : ∀ h, h ≠ gt → u.tile h = s.tile h

section
variable {s t u : State} {gt : Nat}

theorem EndpointsOnly.refl (s : State) : EndpointsOnly gt s s := ⟨.refl s, rfl, rfl, fun _ _ => rfl⟩
theorem EndpointsOnly.trans (h : EndpointsOnly gt s t) (h' : EndpointsOnly gt t u) : EndpointsOnly gt s u :=
  ⟨h.tiles.trans h'.tiles, h'.gens.trans h.gens, h'.k.trans h.k, fun g hg => (h'.other g hg).trans (h.other g hg)⟩

theorem tile_onTile_other (s : State) {h : Nat} (f : Tile → Tile) (hne : h ≠ gt) : (s.onTile gt f).tile h = s.tile h :=
  State.tile_setTile_ne _ _ _ _ hne

theorem onTile_endpointsOnly (s : State) {f : Tile → Tile} (hg : (f (s.tile gt)).gens = (s.tile gt).gens) (hk : (f (s.tile gt)).k = (s.tile gt).k) :
    EndpointsOnly gt s (s.onTile gt f) where
  tiles := onTile_justTiles ..
  gens := by rw [State.tile_onTile, hg]
  k := by rw [State.tile_onTile, hk]
  other _ hne := tile_onTile_other s f hne

theorem charge_justTiles (s : State) (gt : Nat) (k : KTag) : JustTiles s (s.charge gt k) := ⟨_, charge_frame s gt k⟩

theorem gens_charge (s : State) (gt : Nat) (k : KTag) : ((s.charge gt k).tile gt).gens = (s.tile gt).gens := by
  cases k with
  | none => rfl
  | some k => rw [State.charge, State.tile_onTile]

theorem tile_charge_other (s : State) (k : KTag) {h : Nat} (hne : h ≠ gt) : (s.charge gt k).tile h = s.tile h := by
  cases k with
  | none => rfl
  | some k => exact tile_onTile_other s _ hne

theorem gens_onGen (s : State) (gt g : Nat) (f : Gen → Gen) : vget ((s.onGen gt g f).tile gt).gens g = f (vget (s.tile gt).gens g) := by
  rw [State.onGen, State.tile_onTile]
  exact vget_vset ..

/-- The position that an accepted FIFO.FEED reserves. -/
def State.feedReserved (s : State) (gt kind : Nat) (b : Block) : Option Nat × State :=
  if kind = 7 then (some (s.reserveFill gt (bits b.dst 1 0)).1, (s.reserveFill gt (bits b.dst 1 0)).2) else (none, s)

/-- The endpoint that an accepted command holds. -/
def State.endpointHeld (s : State) (gt g : Nat) (b : Block) : State :=
  match b.channel with
  | some (c, _) => s.onChan gt c (fun e => { e with heldBy := some g })
  | none => s

theorem reserveFill_endpointsOnly (s : State) (gt q : Nat) : EndpointsOnly gt s (s.reserveFill gt q).2 := by
  exact onTile_endpointsOnly s (f := fun u => { u with
    nextFill := (s.tile gt).nextFill + 1
    fifos := vset u.fifos q (vget u.fifos q ++ [{ fill := (s.tile gt).nextFill, full := false, image := [], poison := false }]) }) rfl rfl

theorem feedReserved_endpointsOnly (s : State) (gt kind : Nat) (b : Block) : EndpointsOnly gt s (s.feedReserved gt kind b).2 := by
  rw [State.feedReserved]
  split
  · exact reserveFill_endpointsOnly ..
  · exact .refl s

theorem endpointHeld_endpointsOnly (s : State) (gt g : Nat) (b : Block) : EndpointsOnly gt s (s.endpointHeld gt g b) := by
  rw [State.endpointHeld]
  split
  · exact onTile_endpointsOnly s rfl rfl
  · exact .refl s

/-- The command that is accepted. -/
def EngineCmd.accepted (s : State) (t : Slot) (gt g kind : Nat) (k : KTag) (bs : Bytes) : EngineCmd :=
  { kind := kind, block := bs, ticket := (vget (s.tile gt).gens g).ticket + 1, k := k, super := t.status.super, slot := s.cur, task := t.task
    part := t.part, started := false, progress := 0, done := 0, discarded := 0, pois := false, stop := none, code := none
    fill := (s.feedReserved gt kind (Block.ofBytes bs)).1, ctx := none, row := 0, index := none, seg := 0, inner := false, recorded := false
    scope := (match s.taskOf t.task with
      | some r => r.scope
      | none => noScope) }

/-- The command at the end of its queue, its counter charged. -/
def State.enqueued (s : State) (t : Slot) (gt g kind : Nat) (k : KTag) (bs : Bytes) : State :=
  ((((s.feedReserved gt kind (Block.ofBytes bs)).2).endpointHeld gt g (Block.ofBytes bs)).onGen gt g (fun q =>
    { q with queue := q.queue ++ [.accepted s t gt g kind k bs], ticket := (vget (s.tile gt).gens g).ticket + 1 })).charge gt k

section
variable {t : Slot} {g kind : Nat} {k : KTag} {bs : Bytes}

theorem prepared_endpointsOnly (s : State) (gt g kind : Nat) (b : Block) : EndpointsOnly gt s ((s.feedReserved gt kind b).2.endpointHeld gt g b) :=
  (feedReserved_endpointsOnly ..).trans (endpointHeld_endpointsOnly ..)

theorem enqueued_justTiles : JustTiles s (s.enqueued t gt g kind k bs) :=
  (prepared_endpointsOnly ..).tiles.trans ((onTile_justTiles ..).trans (charge_justTiles ..))

theorem enqueued_other {h : Nat} (hne : h ≠ gt) : (s.enqueued t gt g kind k bs).tile h = s.tile h :=
  (tile_charge_other _ _ hne).trans ((tile_onTile_other _ _ hne).trans ((prepared_endpointsOnly s gt g kind _).other h hne))

theorem enqueued_gen : vget ((s.enqueued t gt g kind k bs).tile gt).gens g =
    { queue := (vget (s.tile gt).gens g).queue ++ [.accepted s t gt g kind k bs], ticket := (vget (s.tile gt).gens g).ticket + 1 } := by
  rw [State.enqueued, gens_charge, gens_onGen, (prepared_endpointsOnly s gt g kind (Block.ofBytes bs)).gens]

theorem enqueued_counter {n : Nat} (hn : n < 16) : (s.enqueued t gt g kind k bs).counter gt n =
    if k.map (·.val) = some n then s.counter gt n + 1 else s.counter gt n := by
  have hcounter : ∀ f : Gen → Gen, (((s.feedReserved gt kind (Block.ofBytes bs)).2.endpointHeld gt g (Block.ofBytes bs)).onGen gt g f).counter gt n =
      s.counter gt n := fun f => by
    rw [State.counter, State.onGen, State.tile_onTile]
    exact congrArg (vget · n) (prepared_endpointsOnly s gt g kind (Block.ofBytes bs)).k
  rw [State.enqueued, counter_charge _ _ _ hn, hcounter]

theorem acceptCommand_eq : s.acceptCommand t gt g kind k bs = ((vget (s.tile gt).gens g).ticket + 1,
    if (vget (s.tile gt).gens g).queue.isEmpty then (s.enqueued t gt g kind k bs).post (.engineSegment gt g [] false) else s.enqueued t gt g kind k bs) := by
  rw [State.acceptCommand, State.enqueued, EngineCmd.accepted, State.endpointHeld]
  by_cases hk : kind = 7
  · simp only [State.feedReserved, if_pos hk]
    cases (Block.ofBytes bs).channel <;> rfl
  · simp only [State.feedReserved, if_neg hk]
    cases (Block.ofBytes bs).channel <;> rfl

end
end

section
variable {s : State} {i : Instr} {d p : Reg} {k : KTag} {g : Fin 8} {kind off : Nat}

theorem Slot.hasAg_eq (t : Slot) (g : Fin 8) : t.hasAg g.val = t.grant.ag.getLsbD g.val := testN_toNat _ _

theorem hasTag_of_granted {t : Slot} (h : ∀ n, k = some n → t.grant.k.getLsbD n.val = true) : t.hasTag k = true := by
  cases k with
  | none => rfl
  | some n => exact (Slot.hasK_eq t n).trans (h n rfl)

/-- An engine command whose grants and block address pass their checks. -/
structure BlockReached (s : State) (p : Reg) (k : KTag) (g : Fin 8) (off : Nat) : Prop where
  ag : (me s).hasAg g.val = true
  tag : (me s).hasTag k = true
  own : s.ownScratch s.cur ((me s).x p) 1 = some off
  aligned : ((me s).x p).toNat % 64 = 0

theorem blockReached (hag : (me s).grant.ag.getLsbD g.val = true) (hk : ∀ n, k = some n → (me s).grant.k.getLsbD n.val = true) (hb : OwnBlock s p off) :
    BlockReached s p k g off := by
  obtain ⟨hva, hpkg, hcur, halign, hfit⟩ := hb
  exact ⟨(Slot.hasAg_eq _ g).trans hag, hasTag_of_granted hk, ownScratch_of_window hva hpkg hcur (by omega), by rw [hva]; omega⟩

/-- The counter that a command would charge stands at its end. -/
def State.counterFull (s : State) (gt : Nat) (k : KTag) : Bool :=
  match k with
  | some k => s.counter gt k.val == 65535
  | none => false

theorem counterFull_of_room {gt : Nat} (hc : ∀ n, k = some n → s.counter gt n.val ≠ 65535) : s.counterFull gt k = false := by
  cases k with
  | none => rfl
  | some n => exact beq_eq_false_iff_ne.2 (hc n rfl)

/-- The body of an engine instruction whose block has been reached. -/
theorem engineBody_of_reached (hi : engineRow i = some (d, p, k, g, kind)) (hb : BlockReached s p k g off) :
    ∃ body, exec i s = s.issue { engine := true } [p, d] body ∧ body (me s) =
      (if 8 ≤ (vget (s.tile (tileOfSlot s.cur)).gens g.val).held || s.counterFull (tileOfSlot s.cur) k then .wait s
      else if s.storePending s.cur ((me s).x p).toNat 64 || s.acquirePending s.cur then .wait s
      else if s.poisoned (sramKey (tileOfSlot s.cur) off) 64 then .wait (s.consumePoison s.cur)
      else
        match s.blockCause (me s) (tileOfSlot s.cur) kind (Block.ofBytes (s.readMem (sramKey (tileOfSlot s.cur) off) 64)) with
        | some (c, some v) => .trap c v
        | some (c, none) => s.trapWord (me s) c
        | none =>
          if kind = 7 && decide (4 ≤ (vget (s.tile (tileOfSlot s.cur)).fifos
              (bits (Block.ofBytes (s.readMem (sramKey (tileOfSlot s.cur) off) 64)).dst 1 0)).length) then .wait s
          else
            let r := s.acceptCommand (me s) (tileOfSlot s.cur) g.val kind k (s.readMem (sramKey (tileOfSlot s.cur) off) 64)
            r.2.finish d (r.1.setWidth 64)) := by
  refine ⟨_, exec_of_engineRow.apply hi, ?_⟩
  simp only [hb.ag, hb.tag, hb.own, hb.aligned]
  exact (if_neg Bool.false_ne_true).trans (if_neg fun h => h rfl)

theorem gives_of_queueFull (hi : engineRow i = some (d, p, k, g, kind)) (hr : Ready s { engine := true } [p, d]) (hb : BlockReached s p k g off)
    (hq : 8 ≤ ((vget (s.tile (s.cur / 4)).gens g.val).queue.filter (fun c => !c.inner)).length) : Gives i s { s with stalled := true } := by
  obtain ⟨body, hexec, hbody⟩ := engineBody_of_reached hi hb
  refine gives_of_wait hexec hr (hbody.trans (if_pos ?_))
  rw [Bool.or_eq_true, decide_eq_true_eq]
  exact .inl hq

theorem gives_of_noGenerator (hi : engineRow i = some (d, p, k, g, kind)) (hr : Ready s { engine := true } [p, d])
    (hag : (me s).grant.ag.getLsbD g.val = false) : Gives i s (s.takeTrap s.cur 3 (s.wordAt (me s))) := by
  refine gives_of_trap (exec_of_engineRow.apply hi) hr (if_pos ?_)
  rw [Slot.hasAg_eq, hag]
  rfl

/-- The state once a command has been accepted, its ticket written and the instruction retired. -/
def State.commandIssued (s : State) (d : Reg) (g kind : Nat) (k : KTag) (bs : Bytes) : State :=
  let gt := tileOfSlot s.cur
  let q := vget (s.tile gt).gens g
  let v := s.enqueued (me s) gt g kind k bs
  (if q.queue.isEmpty then v.post (.engineSegment gt g [] false) else v).retire s.cur (fun t => t.setX d ((q.ticket + 1).setWidth 64))

theorem gives_commandIssued (hi : engineRow i = some (d, p, k, g, kind)) (hr : Ready s { engine := true } [p, d]) (hb : BlockReached s p k g off)
    (hroom : (vget (s.tile (tileOfSlot s.cur)).gens g.val).held < 8) (hk : ∀ n, k = some n → s.counter (tileOfSlot s.cur) n.val ≠ 65535)
    (hstores : s.storePending s.cur ((me s).x p).toNat 64 = false) (hacq : s.acquirePending s.cur = false)
    (hclean : s.poisoned (sramKey (tileOfSlot s.cur) off) 64 = false)
    (hcause : s.blockCause (me s) (tileOfSlot s.cur) kind (Block.ofBytes (s.readMem (sramKey (tileOfSlot s.cur) off) 64)) = none)
    (hfifo : kind = 7 → (vget (s.tile (tileOfSlot s.cur)).fifos
      (bits (Block.ofBytes (s.readMem (sramKey (tileOfSlot s.cur) off) 64)).dst 1 0)).length < 4) :
    Gives i s (s.commandIssued d g.val kind k (s.readMem (sramKey (tileOfSlot s.cur) off) 64)) := by
  obtain ⟨body, hexec, hbody⟩ := engineBody_of_reached hi hb
  obtain ⟨ts, hts⟩ : JustTiles s (s.enqueued (me s) (tileOfSlot s.cur) g.val kind k (s.readMem (sramKey (tileOfSlot s.cur) off) 64)) := enqueued_justTiles
  have hnot : ¬(kind = 7 && decide (4 ≤ (vget (s.tile (tileOfSlot s.cur)).fifos
      (bits (Block.ofBytes (s.readMem (sramKey (tileOfSlot s.cur) off) 64)).dst 1 0)).length)) = true := by
    rw [Bool.and_eq_true, decide_eq_true_eq, decide_eq_true_eq]
    exact fun ⟨h7, hfull⟩ => absurd (hfifo h7) (Nat.not_lt.2 hfull)
  refine gives_of_done hexec hr (hbody.trans ((if_neg ?_).trans ((if_neg ?_).trans ((if_neg ?_).trans ?_))))
  · rw [counterFull_of_room hk, Bool.or_false, decide_eq_true_eq]
    exact Nat.not_le.2 hroom
  · rw [hstores, hacq]; exact Bool.false_ne_true
  · rw [hclean]; exact Bool.false_ne_true
  · rw [hcause]
    refine (if_neg hnot).trans ?_
    rw [acceptCommand_eq, State.commandIssued]
    generalize s.enqueued (me s) (tileOfSlot s.cur) g.val kind k (s.readMem (sramKey (tileOfSlot s.cur) off) 64) = v at hts
    subst hts
    dsimp only
    split <;> rfl

theorem commandIssued_frame {g : Nat} {bs : Bytes} : s.commandIssued d g kind k bs =
    { s with slots := (s.commandIssued d g kind k bs).slots, tiles := (s.commandIssued d g kind k bs).tiles, agenda := (s.commandIssued d g kind k bs).agenda } := by
  obtain ⟨ts, hts⟩ : JustTiles s (s.enqueued (me s) (tileOfSlot s.cur) g kind k bs) := enqueued_justTiles
  rw [State.commandIssued]
  generalize s.enqueued (me s) (tileOfSlot s.cur) g kind k bs = v at hts
  subst hts
  split <;> rfl

theorem commandIssued_tile {g : Nat} {bs : Bytes} (h : Nat) :
    (s.commandIssued d g kind k bs).tile h = (s.enqueued (me s) (tileOfSlot s.cur) g kind k bs).tile h := by
  rw [State.commandIssued]
  split <;> rfl

theorem commandIssued_slot {g : Nat} {bs : Bytes} : (s.commandIssued d g kind k bs).slot s.cur =
    ((me s).setX d (((vget (s.tile (tileOfSlot s.cur)).gens g).ticket + 1).setWidth 64)).advance := by
  obtain ⟨ts, hts⟩ : JustTiles s (s.enqueued (me s) (tileOfSlot s.cur) g kind k bs) := enqueued_justTiles
  rw [State.commandIssued]
  generalize s.enqueued (me s) (tileOfSlot s.cur) g kind k bs = v at hts
  subst hts
  split <;> exact State.slot_onSlot ..

theorem commandIssued_slot_other {g : Nat} {bs : Bytes} {h : Nat} (hne : h ≠ s.cur) : (s.commandIssued d g kind k bs).slot h = s.slot h := by
  obtain ⟨ts, hts⟩ : JustTiles s (s.enqueued (me s) (tileOfSlot s.cur) g kind k bs) := enqueued_justTiles
  rw [State.commandIssued]
  generalize s.enqueued (me s) (tileOfSlot s.cur) g kind k bs = v at hts
  subst hts
  split <;> exact State.slot_onSlot_ne _ _ _ _ hne

theorem commandIssued_agenda {g : Nat} {bs : Bytes} : (s.commandIssued d g kind k bs).agenda =
    s.agenda ++ (if (vget (s.tile (tileOfSlot s.cur)).gens g).queue = [] then [.engineSegment (tileOfSlot s.cur) g [] false] else []) := by
  obtain ⟨ts, hts⟩ : JustTiles s (s.enqueued (me s) (tileOfSlot s.cur) g kind k bs) := enqueued_justTiles
  rw [State.commandIssued]
  generalize s.enqueued (me s) (tileOfSlot s.cur) g kind k bs = v at hts
  subst hts
  cases (vget (s.tile (tileOfSlot s.cur)).gens g).queue with
  | nil => rfl
  | cons c rest => exact (List.append_nil _).symm

theorem engineIssues (hi : engineRow i = some (d, p, k, g, kind)) (hr : Ready s { engine := true } [p, d]) :
    let gt := s.cur / 4
    let q := vget (s.tile gt).gens g.val
    let bs := s.readMem (gt * 2 ^ 30 + off) 64
    ((me s).grant.ag.getLsbD g.val = true → (∀ n, k = some n → (me s).grant.k.getLsbD n.val = true) → OwnBlock s p off →
      (q.queue.filter (fun c => !c.inner)).length < 8 → (∀ n, k = some n → s.counter gt n.val ≠ 65535) →
      s.storePending s.cur ((me s).x p).toNat 64 = false → s.acquirePending s.cur = false → s.poisoned (gt * 2 ^ 30 + off) 64 = false →
      s.blockCause (me s) gt kind (Block.ofBytes bs) = none → (kind = 7 → (vget (s.tile gt).fifos (bits (Block.ofBytes bs).dst 1 0)).length < 4) →
      ∃ c t, Gives i s t ∧ t = { s with slots := t.slots, tiles := t.tiles, agenda := t.agenda } ∧
        t.slot s.cur = ((me s).setX d ((q.ticket + 1).setWidth 64)).advance ∧ (∀ h, h ≠ s.cur → t.slot h = s.slot h) ∧
        (∀ h, h ≠ gt → t.tile h = s.tile h) ∧
        vget (t.tile gt).gens g.val = { queue := q.queue ++ [c], ticket := q.ticket + 1 } ∧
        (∀ n, n < 16 → t.counter gt n = if k.map (·.val) = some n then s.counter gt n + 1 else s.counter gt n) ∧
        c.kind = kind ∧ c.block = bs ∧ c.ticket = q.ticket + 1 ∧ c.k = k ∧ c.slot = s.cur ∧ c.task = (me s).task ∧ c.started = false ∧
        c.code = none ∧ t.agenda = s.agenda ++ (if q.queue = [] then [.engineSegment gt g.val [] false] else [])) ∧
    ((me s).grant.ag.getLsbD g.val = false → Gives i s (s.takeTrap s.cur 3 (s.wordAt (me s)))) ∧
    ((me s).grant.ag.getLsbD g.val = true → (∀ n, k = some n → (me s).grant.k.getLsbD n.val = true) → OwnBlock s p off →
      8 ≤ (q.queue.filter (fun c => !c.inner)).length → Gives i s { s with stalled := true }) := by
  intro gt q bs
  refine ⟨fun hag hk hb hroom hcount hstores hacq hclean hcause hfifo => ?_, gives_of_noGenerator hi hr,
    fun hag hk hb hq => gives_of_queueFull hi hr (blockReached hag hk hb) hq⟩
  have hgives := gives_commandIssued hi hr (blockReached hag hk hb) hroom hcount hstores hacq hclean hcause hfifo
  refine ⟨.accepted s (me s) gt g.val kind k bs, _, hgives, commandIssued_frame, commandIssued_slot, fun h => commandIssued_slot_other, fun h hne => (commandIssued_tile h).trans (enqueued_other hne), ?_,
    fun n hn => ?_, rfl, rfl, rfl, rfl, rfl, rfl, rfl, rfl, commandIssued_agenda⟩
  · rw [commandIssued_tile]; exact enqueued_gen
  · rw [State.counter, commandIssued_tile]; exact enqueued_counter hn

end

end Sys2Proof.Machine

namespace Sys2Proof.Machine

open Sys2Proof.Claims

set_option Elab.async false

/-! ## Engine commands run (spec/09 R202 to R204, R208) -/

/-- Tile `gt` is a tile of partition `part` that stands, in the module's own package. -/
structure InTile (s : State) (gt part : Nat) : Prop where
  tile : gt < 256
  package : s.mgmt.package < 1024
  kind : (isMTile gt || isSTile gt) = true
  owned : (s.tile gt).part = some part
  stands : s.lostDie (dieOf gt) = false

theorem toNat_spad {s : State} {gt off : Nat} (hp : s.mgmt.package < 1024) (hg : gt < 256) (ho : off < 2 ^ 30) :
    (spad s gt off).toNat = 0xFFFE * 2 ^ 48 + s.mgmt.package * 2 ^ 38 + gt * 2 ^ 30 + off := by
  rw [spad, BitVec.toNat_ofNat]
  exact Nat.mod_eq_of_lt (by omega)

theorem spad_add (s : State) (gt off n : Nat) : spad s gt off + wordN n = spad s gt (off + n) := by
  rw [spad, spad, wordN, ← BitVec.ofNat_add, Nat.add_assoc]

/-- A run of bytes read in two parts. -/
theorem Memory.read_append (m : List Host.Cell) (k a b : Nat) : Memory.read m k a ++ Memory.read m (k + a) b = Memory.read m k (a + b) := by
  simp only [Memory.read, List.range_add, List.map_append, List.map_map, Nat.add_assoc]
  rfl

theorem poisoned_part {s : State} {k n k' n' : Nat} (h : s.poisoned k n = false) (hk : k ≤ k') (hn : k' + n' ≤ k + n) : s.poisoned k' n' = false := by
  simp only [State.poisoned, List.any_eq_false, decide_eq_true_eq] at h ⊢
  exact fun x hx hin => h x hx ⟨by omega, by omega⟩

/-- Byte `i` of a word. -/
theorem byteAt_toBytes (v : Word) {i : Nat} (hi : i < 8) : byteAt (toBytes 8 v.toNat) i = v.extractLsb' (8 * i) 8 := by
  have hget : ∀ n i w, i < n → byteAt (toBytes n w) i = BitVec.ofNat 8 (w / 256 ^ i) := by
    intro n i w hin
    induction i generalizing n w with
    | zero => cases n with
      | zero => exact absurd hin (Nat.not_lt_zero _)
      | succ n => rw [pow_zero, Nat.div_one]; rfl
    | succ i ih => cases n with
      | zero => exact absurd hin (Nat.not_lt_zero _)
      | succ n =>
        rw [pow_succ', ← Nat.div_div_eq_div_mul]
        exact ih n (w / 256) (Nat.lt_of_succ_lt_succ hin)
  rw [hget 8 i _ hi, BitVec.extractLsb', Nat.shiftRight_eq_div_pow, pow_mul]
  rfl

section
variable {s : State} {gt g : Nat} {c : EngineCmd}

theorem classify_spad (h : InTile s gt c.part) {off : Nat} (ho : off < 2 ^ 30) : classify (spad s gt off) = .window s.mgmt.package gt off :=
  classify_window (toNat_spad h.package h.tile ho) h.package h.tile ho

theorem engineTarget_spad (h : InTile s gt c.part) {off n : Nat} (kind : AccKind) (hfit : off + n ≤ 2 ^ 22) :
    s.engineTarget gt g c kind (spad s gt off) n = .ok (.tile gt off) := by
  have howns : s.ownsTile c.part s.mgmt.package gt = true := (if_pos rfl).trans (beq_iff_eq.2 h.owned)
  have hok : ((s.mgmt.package == s.mgmt.package || Config.configuredPackage s.mgmt.package) && (isMTile gt || isSTile gt) &&
      s.ownsTile c.part s.mgmt.package gt && decide (off + n ≤ 0x400000)) = true := by
    rw [h.kind, howns, decide_eq_true (show off + n ≤ 0x400000 from hfit), beq_self_eq_true]
    rfl
  rw [State.engineTarget, classify_spad h (by omega)]
  simp only [hok, Bool.not_true, Bool.false_eq_true, if_false, if_true]

theorem served_ownTile (s : State) (part gt off : Nat) : s.served part gt (.tile gt off) = true := by
  rw [State.served, routeUnits, if_pos rfl]
  rfl

/-- Bytes read without poison, of this module. -/
def EngRead.got (bs : Bytes) : EngRead := { EngRead.start ([], false) with bytes := bs }

/-- A run in the tile's scratchpad is read piece by piece. -/
theorem engineRead_spad (h : InTile s gt c.part) (f : Nat) {off n : Nat} (bs : Bytes) (hf : n = 0 ∨ off % 256 + n ≤ 256 * f) (hfit : off + n ≤ 2 ^ 22)
    (hclean : s.poisoned (gt * 2 ^ 30 + off) n = false) :
    s.engineRead gt g c f (spad s gt off) n (.got bs) = .got (bs ++ s.readMem (gt * 2 ^ 30 + off) n) := by
  induction f generalizing off n bs with
  | zero =>
    obtain rfl : n = 0 := by omega
    exact congrArg EngRead.got (List.append_nil bs).symm
  | succ f ih =>
    by_cases hn : n = 0
    · subst hn
      rw [State.engineRead]
      exact congrArg EngRead.got (List.append_nil bs).symm
    · have hmod : (spad s gt off).toNat % 256 = off % 256 := by rw [toNat_spad h.package h.tile (by omega)]; omega
      obtain ⟨m, hm⟩ : ∃ m, m = min n (256 - off % 256) := ⟨_, rfl⟩
      have hread : s.readTarget (.tile gt off) m = (s.readMem (gt * 2 ^ 30 + off) m, false) := by
        have hpart : s.poisoned (gt * 2 ^ 30 + off) m = false := poisoned_part hclean (Nat.le_refl _) (by omega)
        rw [State.readTarget, h.stands]
        exact congrArg (Prod.mk _) hpart
      have hstep : s.engineRead gt g c (f + 1) (spad s gt off) n (.got bs) =
          s.engineRead gt g c f (spad s gt (off + m)) (n - m) (.got (bs ++ s.readMem (gt * 2 ^ 30 + off) m)) := by
        have htarget := engineTarget_spad h (g := g) .read (show off + m ≤ 2 ^ 22 by omega)
        have hgo : ¬(decide (n = 0) || (EngRead.got bs).fail.isSome || (EngRead.got bs).stop.isSome || (EngRead.got bs).miss.isSome) = true := by
          rw [decide_eq_false hn]
          exact Bool.false_ne_true
        rw [State.engineRead, if_neg hgo, hmod, ← hm, ← spad_add]
        simp only [htarget, served_ownTile, hread]
        rfl
      rw [hstep, ih _ (by omega) (by omega) (poisoned_part hclean (by omega) (by omega)), List.append_assoc, State.readMem, State.readMem,
        ← Nat.add_assoc (gt * 2 ^ 30), Memory.read_append, show m + (n - m) = n by omega]
      rfl

/-- The head command with one segment more behind it. -/
def EngineCmd.segmentDone (len : Nat) (c : EngineCmd) : EngineCmd :=
  { c with progress := c.progress + 1, done := c.done + len, pois := c.pois || false }

/-- A segment written in the tile's scratchpad. -/
theorem writeSegment_spad (h : InTile s gt c.part) {off n : Nat} (got bs : Bytes) (hfit : off + n ≤ 2 ^ 22) :
    s.writeSegment gt g c (spad s gt off) n (.got got) bs id = (s.writeMem (gt * 2 ^ 30 + off) bs).nextSeg gt g (.segmentDone n) := by
  have hgo : ¬(!s.served c.part gt (.tile gt off) || ((Target.tile gt off).remote && !s.retryRoom (s.engineSource gt g c))) = true := by
    rw [served_ownTile]
    exact Bool.false_ne_true
  have hwrite : s.writeTarget (.tile gt off) bs false = s.writeMem (gt * 2 ^ 30 + off) bs := by
    rw [State.writeTarget, h.stands]
    rfl
  have hblocked : s.readBlocked gt g c (.got got) = none := rfl
  have hlines : s.snoop (s.heldLines (.tile gt off) n) true = none := rfl
  rw [State.writeSegment, engineTarget_spad h .write hfit]
  simp only [if_neg hgo, hblocked, hlines]
  exact congrArg (·.nextSeg gt g (.segmentDone n)) hwrite

/-- A segment starts in its run at `256 j − dst mod 256`. -/
theorem segAt_spad (h : InTile s gt c.part) {dst : Nat} (hd : dst < 2 ^ 30) (len j : Nat) :
    segAt (spad s gt dst) len j = (256 * j - dst % 256, min len (256 * (j + 1) - dst % 256) - (256 * j - dst % 256)) := by
  have hmod : (spad s gt dst).toNat % 256 = dst % 256 := by rw [toNat_spad h.package h.tile hd]; omega
  rw [segAt, hmod]

/-- Segment `j` is one of the run when it starts inside it. -/
theorem lt_segCount_spad (h : InTile s gt c.part) {dst : Nat} (hd : dst < 2 ^ 30) {len j : Nat} (hlen : 0 < len) :
    j < segCount (spad s gt dst) len ↔ 256 * j - dst % 256 < len := by
  have hmod : (spad s gt dst).toNat % 256 = dst % 256 := by rw [toNat_spad h.package h.tile hd]; omega
  rw [segCount, if_neg (by omega), hmod]
  omega

theorem add_row_zero (a x : Word) : a + wordN 0 * x = a := by
  rw [show wordN 0 = 0#64 from rfl, BitVec.zero_mul, BitVec.add_zero]

theorem stepCopy_of_done {b : Block} {remote : Bytes × Bool} (hk : c.kind = 1) (hlen : 0 < b.len) (hdone : segCount b.dst b.len ≤ c.progress) :
    s.stepCopy gt g c b remote = s.endCmd gt g 0 := by
  have hnone : ∀ dst : Nat → Word, dst 0 = b.dst → locateSeg 1 b.len dst (c.progress + 1) 0 c.progress = none := by
    intro dst h0
    rw [locateSeg, if_neg (by decide), h0, if_neg (Nat.not_lt.2 hdone)]
    cases c.progress with
    | zero => rfl
    | succ p => exact if_pos (Nat.le_refl 1)
  rw [State.stepCopy, if_pos hk, if_neg (Nat.ne_of_gt hlen)]
  simp only [hnone (fun r => b.dst + wordN r * b.dstr) (add_row_zero b.dst b.dstr)]

theorem stepCopy_segment (h : InTile s gt c.part) {b : Block} {so dst lo n : Nat} (hk : c.kind = 1) (hdst : b.dst = spad s gt dst) (hsrc : b.src = spad s gt so)
    (hlo : lo = 256 * c.progress - dst % 256) (hn : n = min b.len (256 * (c.progress + 1) - dst % 256) - lo)
    (hd : dst + b.len ≤ 2 ^ 22) (hs : so + b.len ≤ 2 ^ 22) (hup : ¬(so < dst ∧ dst < so + b.len)) (hin : lo < b.len)
    (hclean : s.poisoned (gt * 2 ^ 30 + so + lo) n = false) :
    s.stepCopy gt g c b ([], false) =
      (s.writeMem (gt * 2 ^ 30 + dst + lo) (s.readMem (gt * 2 ^ 30 + so + lo) n)).nextSeg gt g (.segmentDone n) := by
  have hcount : c.progress < segCount b.dst b.len := by rw [hdst]; exact (lt_segCount_spad h (by omega) (by omega)).2 (hlo ▸ hin)
  have hsome : ∀ dst : Nat → Word, dst 0 = b.dst → locateSeg 1 b.len dst (c.progress + 1) 0 c.progress = some (0, c.progress) := by
    intro dst h0
    rw [locateSeg, if_neg (by decide), h0, if_pos hcount]
  have hdown : walksDown b.src b.dst b.len = false := by
    rw [walksDown, hsrc, hdst, toNat_spad h.package h.tile (by omega), toNat_spad h.package h.tile (by omega), decide_eq_false_iff_not]
    omega
  have hseg : segAt b.dst b.len c.progress = (lo, n) := by rw [hdst, segAt_spad h (by omega), hn, hlo]
  have hread : s.engineRead gt g c 3 (b.src + wordN lo) n (EngRead.start ([], false)) = .got (s.readMem (gt * 2 ^ 30 + so + lo) n) := by
    rw [hsrc, spad_add, Nat.add_assoc]
    exact engineRead_spad h 3 [] (.inr (by omega)) (by omega) (by rwa [← Nat.add_assoc])
  rw [State.stepCopy, if_pos hk, if_neg (by omega : ¬b.len = 0)]
  simp only [hsome (fun r => b.dst + wordN r * b.dstr) (add_row_zero b.dst b.dstr), add_row_zero, State.copySegment, hdown, Bool.false_eq_true, if_false, hseg, hread]
  rw [hdst, spad_add, Nat.add_assoc (gt * 2 ^ 30) dst lo]
  exact writeSegment_spad h _ _ (by omega)

theorem stepFill_of_done {b : Block} (hdone : segCount b.dst b.len ≤ c.progress) : s.stepFill gt g c b = s.endCmd gt g 0 := if_pos hdone

theorem stepFill_segment (h : InTile s gt c.part) {b : Block} {dst lo n : Nat} (hdst : b.dst = spad s gt dst)
    (hlo : lo = 256 * c.progress - dst % 256) (hn : n = min b.len (256 * (c.progress + 1) - dst % 256) - lo)
    (hd : dst + b.len ≤ 2 ^ 22) (hin : lo < b.len) :
    s.stepFill gt g c b = (s.writeMem (gt * 2 ^ 30 + dst + lo) ((List.range n).map (fun i => b.sstr.extractLsb' (8 * ((lo + i) % 8)) 8))).nextSeg gt g
      (.segmentDone n) := by
  have hcount : c.progress < segCount b.dst b.len := by rw [hdst]; exact (lt_segCount_spad h (by omega) (by omega)).2 (hlo ▸ hin)
  have hseg : segAt b.dst b.len c.progress = (lo, n) := by rw [hdst, segAt_spad h (by omega), hn, hlo]
  have hbyte : ∀ i, byteAt (toBytes 8 b.sstr.toNat) ((lo + i) % 8) = b.sstr.extractLsb' (8 * ((lo + i) % 8)) 8 :=
    fun i => byteAt_toBytes _ (Nat.mod_lt _ (by decide))
  rw [State.stepFill, if_neg (Nat.not_le.2 hcount)]
  simp only [hseg, hbyte]
  rw [hdst, spad_add, Nat.add_assoc (gt * 2 ^ 30) dst lo]
  exact writeSegment_spad h [] _ (by omega)

end

/-! Segments as events. -/

section
variable {s : State} {gt g : Nat} {c : EngineCmd} {rest : List EngineCmd}

theorem headCmd_of_queue (hq : (vget (s.tile gt).gens g).queue = c :: rest) : s.headCmd gt g = some c := by
  rw [State.headCmd, hq]
  rfl

/-- The generator once its head has changed. -/
theorem gens_onHead (hq : (vget (s.tile gt).gens g).queue = c :: rest) (f : EngineCmd → EngineCmd) :
    vget ((s.onHead gt g f).tile gt).gens g = { vget (s.tile gt).gens g with queue := f c :: rest } := by
  rw [State.onHead, gens_onGen, hq]

/-- A command that has started. -/
def EngineCmd.begun (c : EngineCmd) : EngineCmd := { c with started := true }

/-- The state once the head command has started. -/
def State.commandStarted (s : State) (gt g : Nat) : State := s.onHead gt g .begun

theorem engineStep_copy (hk : c.kind = 1) (remote : Bytes × Bool) :
    s.engineStep gt g remote c.begun = s.stepCopy gt g c.begun (Block.ofBytes c.block) remote := by
  rw [State.engineStep, show c.begun.kind = 1 from hk]
  rfl

theorem engineStep_fill (hk : c.kind = 3) (remote : Bytes × Bool) :
    s.engineStep gt g remote c.begun = s.stepFill gt g c.begun (Block.ofBytes c.block) := by
  rw [State.engineStep, show c.begun.kind = 3 from hk]
  rfl

theorem exec_engineSegment (h : Runs s gt g c rest) : exec (.engineSegment gt g [] false) s =
    .next ((s.commandStarted gt g).engineStep gt g ([], false) c.begun) := by
  obtain ⟨-, hq, hcode, hstop, hsaving, hreads, hctx⟩ := h
  have hexec : exec (.engineSegment gt g [] false) s = execEngineSegment gt g [] false s := rfl
  have hgo : ¬(c.code.isSome || (c.stop.isSome && !c.asking)) = true := by rw [hcode, hstop]; exact Bool.false_ne_true
  have hfathom : ¬(c.fathom && c.ctx.isNone) = true := by
    rw [Bool.and_eq_true, Option.isNone_iff_eq_none]
    exact fun ⟨hf, hn⟩ => hctx hf hn
  rw [hexec, execEngineSegment, headCmd_of_queue hq]
  simp only [if_neg hgo, hsaving, if_neg hfathom, hreads]
  rfl

theorem inTile_commandStarted (h : InTile s gt c.part) : InTile (s.commandStarted gt g) gt c.part :=
  ⟨h.tile, h.package, h.kind, (congrArg Tile.part (State.tile_onTile ..)).trans h.owned, h.stands⟩

end

/-! The end of a command. -/

/-- What work on TLBs and walks keeps. -/
structure AsksOnly (s u : State) : Prop where
  mem : u.mem = s.mem
  slots : u.slots = s.slots
  agenda : u.agenda = s.agenda
  gens : ∀ gt, (u.tile gt).gens = (s.tile gt).gens
  chans : ∀ gt, (u.tile gt).chans = (s.tile gt).chans

theorem AsksOnly.refl (s : State) : AsksOnly s s := ⟨rfl, rfl, rfl, fun _ => rfl, fun _ => rfl⟩
theorem AsksOnly.trans {s t u : State} (h : AsksOnly s t) (h' : AsksOnly t u) : AsksOnly s u :=
  ⟨h'.mem.trans h.mem, h'.slots.trans h.slots, h'.agenda.trans h.agenda, fun gt => (h'.gens gt).trans (h.gens gt),
    fun gt => (h'.chans gt).trans (h.chans gt)⟩

theorem onTile_asksOnly (s : State) (gt : Nat) {f : Tile → Tile} (hg : ∀ x, (f x).gens = x.gens) (hc : ∀ x, (f x).chans = x.chans) :
    AsksOnly s (s.onTile gt f) := by
  have hkeep : ∀ h, ((s.onTile gt f).tile h).gens = (s.tile h).gens ∧ ((s.onTile gt f).tile h).chans = (s.tile h).chans := fun h => by
    by_cases hh : h = gt
    · rw [hh, State.tile_onTile]; exact ⟨hg _, hc _⟩
    · rw [tile_onTile_other s f hh]; exact ⟨rfl, rfl⟩
  exact ⟨rfl, rfl, rfl, fun h => (hkeep h).1, fun h => (hkeep h).2⟩

theorem onTlb_asksOnly (s : State) (n : Nat) (f : Tlb → Tlb) : AsksOnly s (s.onTlb n f) := by
  rw [State.onTlb]
  split
  · exact onTile_asksOnly s n (fun _ => rfl) fun _ => rfl
  · split <;> exact ⟨rfl, rfl, rfl, fun _ => rfl, fun _ => rfl⟩

theorem unask_asksOnly (s : State) (asker tlb : Nat) (which : Word → Bool) : AsksOnly s (s.unask asker tlb which) := by
  refine (onTlb_asksOnly s tlb _).trans (List.foldlRecOn _ _ (motive := AsksOnly _) (.refl _) fun u hu d _ => hu.trans ?_)
  split
  · exact .refl u
  · exact ⟨rfl, rfl, rfl, fun _ => rfl, fun _ => rfl⟩

section
variable {s : State} {gt g : Nat} {c : EngineCmd} {rest : List EngineCmd}

theorem chan_onGen (s : State) (gt g : Nat) (f : Gen → Gen) (ch : Nat) : (s.onGen gt g f).chan gt ch = s.chan gt ch := by
  rw [State.chan, State.onGen, State.tile_onTile]
  rfl

theorem chan_onHead (s : State) (gt g : Nat) (f : EngineCmd → EngineCmd) (ch : Nat) : (s.onHead gt g f).chan gt ch = s.chan gt ch := chan_onGen ..

/-- The command that has ended with a code. -/
def EngineCmd.ended (code : Nat) (c : EngineCmd) : EngineCmd := { c with code := some code, stop := none, asking := false }

/-- What the end of the head command leaves. -/
structure HeadEnded (s t : State) (gt g : Nat) (c : EngineCmd) (rest : List EngineCmd) (code : Nat) : Prop where
  mem : t.mem = s.mem
  slots : t.slots = s.slots
  agenda : t.agenda = s.agenda ++ [.engineComplete gt g]
  gen : vget (t.tile gt).gens g = { vget (s.tile gt).gens g with queue := c.ended code :: rest }
  chan : ∀ ch, t.chan gt ch = s.chan gt ch

theorem headEnded_of_asked {u : State} (h : AsksOnly s u) (hq : (vget (s.tile gt).gens g).queue = c :: rest) (code : Nat) :
    HeadEnded s ((u.onHead gt g (.ended code)).post (.engineComplete gt g)) gt g c rest code := by
  have hgen : vget (u.tile gt).gens g = vget (s.tile gt).gens g := congrArg (vget · g) (h.gens gt)
  have hhead := gens_onHead ((congrArg Gen.queue hgen).trans hq) (.ended code)
  rw [hgen] at hhead
  exact ⟨h.mem, h.slots, congrArg (fun l : List Instr => l ++ [.engineComplete gt g]) h.agenda, hhead,
    fun ch => (chan_onHead u gt g (.ended code) ch).trans (congrArg (vget · ch) (h.chans gt))⟩

theorem endCmd_spec (hq : (vget (s.tile gt).gens g).queue = c :: rest) (code : Nat) : HeadEnded s (s.endCmd gt g code) gt g c rest code := by
  rw [State.endCmd, headCmd_of_queue hq]
  exact headEnded_of_asked (unask_asksOnly ..) hq code

/-- What a segment leaves. -/
structure SegmentWritten (s t : State) (gt g : Nat) (c : EngineCmd) (rest : List EngineCmd) (k : Nat) (bs : Bytes) (len : Nat) : Prop where
  mem : t.mem = Memory.write s.mem k bs
  slots : t.slots = s.slots
  agenda : t.agenda = s.agenda ++ [.engineSegment gt g [] false]
  gen : ∃ c', vget (t.tile gt).gens g = { vget (s.tile gt).gens g with queue := c' :: rest } ∧
    c'.progress = c.progress + 1 ∧ c'.done = c.done + len ∧ c'.started = true ∧ c'.code = c.code

theorem segmentWritten (hq : (vget (s.tile gt).gens g).queue = c :: rest) (k len : Nat) (bs : Bytes) :
    SegmentWritten s (((s.commandStarted gt g).writeMem k bs).nextSeg gt g (.segmentDone len)) gt g c rest k bs len := by
  have hstart : vget ((s.commandStarted gt g).tile gt).gens g = { vget (s.tile gt).gens g with queue := c.begun :: rest } :=
    gens_onHead hq _
  have hgen := gens_onHead (s := (s.commandStarted gt g).writeMem k bs) (congrArg Gen.queue hstart)
    (fun c => { EngineCmd.segmentDone len c with stop := none, asking := false })
  have hkeep : vget (((s.commandStarted gt g).writeMem k bs).tile gt).gens g =
    { vget (s.tile gt).gens g with queue := c.begun :: rest } := hstart
  rw [hkeep] at hgen
  exact ⟨rfl, rfl, rfl, _, hgen, rfl, rfl, rfl, rfl⟩

/-- A command of a kind that copies or fills runs the segment of its progress. -/
theorem engineSegments : EngineSegments := by
  intro s gt g so dst c rest hruns hgt hpkg b j lo n hkind howned hdst hfit hlen hstands
  have hin : InTile (s.commandStarted gt g) gt c.part := inTile_commandStarted ⟨hgt, hpkg, hkind, howned, hstands⟩
  have hexec := exec_engineSegment hruns
  obtain ⟨-, hq, hcode, -⟩ := hruns
  have hcount : j < segCount b.dst b.len ↔ lo < b.len := by
    rw [hdst]
    exact lt_segCount_spad (c := c) hin (by omega) hlen
  refine ⟨fun hk hsrc hsfit hup hlo hclean => ?_, fun hk hlo => ?_, fun hk hdone => ?_⟩
  · have hstep := (engineStep_copy hk ([], false)).trans (stepCopy_segment (c := c.begun) (g := g) hin hk hdst hsrc rfl rfl hfit hsfit hup hlo hclean)
    obtain ⟨hmem, hslots, hagenda, c', hgen, hprogress, hdone, hstarted, hcode'⟩ :=
      segmentWritten hq (gt * 2 ^ 30 + dst + lo) n (s.readMem (gt * 2 ^ 30 + so + lo) n)
    exact ⟨_, hexec.trans (congrArg Host.Outcome.next hstep), hmem, ⟨c', hgen, hprogress, hdone, hstarted, hcode'.trans hcode⟩, hagenda, hslots⟩
  · have hstep := (engineStep_fill hk ([], false)).trans (stepFill_segment (c := c.begun) (g := g) hin hdst rfl rfl hfit hlo)
    obtain ⟨hmem, hslots, hagenda, -⟩ := segmentWritten hq (gt * 2 ^ 30 + dst + lo) n
      ((List.range n).map (fun i => b.sstr.extractLsb' (8 * ((lo + i) % 8)) 8))
    exact ⟨_, hexec.trans (congrArg Host.Outcome.next hstep), hmem, hagenda, hslots⟩
  · have hgen : vget ((s.commandStarted gt g).tile gt).gens g = { vget (s.tile gt).gens g with queue := c.begun :: rest } := gens_onHead hq _
    have hover : segCount b.dst b.len ≤ j := Nat.not_lt.1 fun h => absurd (hcount.1 h) (Nat.not_lt.2 hdone)
    have hstep : (s.commandStarted gt g).engineStep gt g ([], false) c.begun = (s.commandStarted gt g).endCmd gt g 0 :=
      hk.elim (fun hk => (engineStep_copy hk ([], false)).trans (stepCopy_of_done hk hlen hover)) fun hk => (engineStep_fill hk ([], false)).trans (stepFill_of_done hover)
    obtain ⟨hmem, hslots, hagenda, hhead, -⟩ := endCmd_spec (congrArg Gen.queue hgen) 0
    rw [hgen] at hhead
    exact ⟨_, hexec.trans (congrArg Host.Outcome.next hstep), hmem, ⟨_, hhead, rfl⟩, hagenda, hslots⟩

end

/-! The completion of a command (spec/09 R201, R203, R209). -/

section
variable {s : State} {gt g code : Nat} {c : EngineCmd} {rest : List EngineCmd}

theorem length_record (c : EngineCmd) (code : Nat) : (c.record code).length = 16 := by
  have hlen : ∀ (pois : Bool) (ticket : BitVec 32) (a b : Nat), (engineRecord code pois ticket a b).length = 16 := fun pois ticket a b => by
    simp only [engineRecord, List.length_append, length_toBytes]
  rw [EngineCmd.record]
  split <;> exact hlen ..

theorem uncharge_justTiles (s : State) (gt : Nat) (k : KTag) : JustTiles s (s.uncharge gt k) := by
  cases k with
  | none => exact .refl s
  | some n => exact ⟨_, rfl⟩

theorem gens_uncharge (s : State) (gt : Nat) (k : KTag) : ((s.uncharge gt k).tile gt).gens = (s.tile gt).gens := by
  cases k with
  | none => rfl
  | some n => rw [State.uncharge, State.tile_onTile]

theorem counter_uncharge (s : State) (gt : Nat) (k : KTag) {n : Nat} (hn : n < 16) : (s.uncharge gt k).counter gt n =
    if k.map (·.val) = some n ∧ s.counter gt n ≠ 0 then s.counter gt n - 1 else s.counter gt n := by
  cases k with
  | none => exact (if_neg fun h => nomatch h.1).symm
  | some m =>
    simp only [State.uncharge, State.counter, State.tile_onTile, Option.map_some, Option.some.injEq]
    by_cases hm : m.val = n
    · rw [hm, vget_vset]
      by_cases h0 : vget (s.tile gt).k n = 0
      · rw [if_pos h0, if_neg fun h => h.2 h0]
        exact BitVec.sub_zero _
      · rw [if_neg h0, if_pos ⟨rfl, h0⟩]
    · rw [vget_vset_ne _ _ _ _ (by have := m.isLt; omega), if_neg fun h => hm h.1]

/-- The command gone from its generator, its counter uncharged. -/
def State.commandGone (s : State) (gt g : Nat) (k : KTag) : State := (s.onGen gt g (fun q => { q with queue := q.queue.drop 1 })).uncharge gt k

theorem commandGone_gen (hq : (vget (s.tile gt).gens g).queue = c :: rest) (k : KTag) : (vget ((s.commandGone gt g k).tile gt).gens g).queue = rest := by
  rw [State.commandGone, gens_uncharge, gens_onGen, hq]
  rfl

theorem commandGone_counter (k : KTag) {n : Nat} (hn : n < 16) : (s.commandGone gt g k).counter gt n =
    if k.map (·.val) = some n ∧ s.counter gt n ≠ 0 then s.counter gt n - 1 else s.counter gt n := by
  have hkeep : (s.onGen gt g (fun q => { q with queue := q.queue.drop 1 })).counter gt n = s.counter gt n := by
    rw [State.counter, State.onGen, State.tile_onTile]
    rfl
  rw [State.commandGone, counter_uncharge _ _ _ hn, hkeep]

/-- What the next command of a generator does first. -/
def startEvents (gt g : Nat) (rest : List EngineCmd) : List Instr :=
  match rest.head? with
  | none => []
  | some n => if n.code = none then [.engineSegment gt g [] false] else [.engineComplete gt g]

theorem startNext_eq (hq : (vget (s.tile gt).gens g).queue = rest) : s.startNext gt g = { s with agenda := s.agenda ++ startEvents gt g rest } := by
  rw [State.startNext, State.headCmd, hq, startEvents]
  cases rest with
  | nil => exact congrArg (fun a => { s with agenda := a }) (List.append_nil _).symm
  | cons n more => cases hcode : n.code <;> simp only [List.head?_cons, hcode] <;> rfl

/-- What the completion of a command without an endpoint leaves. -/
theorem retireCmd_spec (hq : (vget (s.tile gt).gens g).queue = c :: rest) (hinner : c.inner = false) (hch : c.channel = none) :
    let t := s.retireCmd gt g c code
    t.mem = s.mem ∧ t.slots = s.slots ∧ (vget (t.tile gt).gens g).queue = rest ∧
      (∀ n, n < 16 → t.counter gt n = if c.k.map (·.val) = some n ∧ s.counter gt n ≠ 0 then s.counter gt n - 1 else s.counter gt n) ∧
      t.agenda = s.agenda ++ (if (Block.ofBytes c.block).msg ∧ c.cut = false then [.messageArrival gt (c.message g code) none] else []) ++ startEvents gt g rest := by
  intro t
  have hgen := commandGone_gen hq c.k
  have hcount := fun n hn => commandGone_counter (s := s) (gt := gt) (g := g) c.k (n := n) hn
  obtain ⟨ts, hts⟩ : JustTiles s (s.commandGone gt g c.k) := (onTile_justTiles ..).trans (uncharge_justTiles ..)
  have ht : t = (if (Block.ofBytes c.block).msg && !c.cut then (s.commandGone gt g c.k).post (.messageArrival gt (c.message g code) none)
      else s.commandGone gt g c.k).startNext gt g := by
    simp only [t, State.retireCmd, hinner, Bool.false_eq_true, if_false, State.releaseChannel, hch]
    rfl
  have hmem : (s.commandGone gt g c.k).mem = s.mem := by rw [hts]
  have hslots : (s.commandGone gt g c.k).slots = s.slots := by rw [hts]
  have hagenda : (s.commandGone gt g c.k).agenda = s.agenda := by rw [hts]
  generalize s.commandGone gt g c.k = v at hgen hcount hmem hslots hagenda ht
  have hmsg : ((Block.ofBytes c.block).msg && !c.cut) = true ↔ (Block.ofBytes c.block).msg ∧ c.cut = false := by
    rw [Bool.and_eq_true, Bool.not_eq_true']
  rw [ht, ← hagenda]
  by_cases hm : ((Block.ofBytes c.block).msg && !c.cut) = true
  · rw [if_pos hm, if_pos (hmsg.1 hm), startNext_eq (s := v.post (.messageArrival gt (c.message g code) none)) hgen]
    exact ⟨hmem, hslots, hgen, hcount, rfl⟩
  · rw [if_neg hm, if_neg (fun h => hm (hmsg.2 h)), startNext_eq hgen, List.append_nil]
    exact ⟨hmem, hslots, hgen, hcount, rfl⟩

end

section
variable {s : State} {gt g code : Nat} {c : EngineCmd} {rest : List EngineCmd}

theorem gives_retire (hq : (vget (s.tile gt).gens g).queue = c :: rest) (hsaving : s.genSaving gt g = false) (hcode : c.code = some code)
    (hw : s.engineWrites gt g c = false) (hrec : c.recorded = true) : Gives (.engineComplete gt g) s (s.retireCmd gt g c code) := by
  have hexec : exec (.engineComplete gt g) s = execEngineComplete gt g s := rfl
  have hgo : ¬(s.engineWrites gt g c || s.genSaving gt g) = true := by rw [hw, hsaving]; exact Bool.false_ne_true
  rw [Gives, hexec, execEngineComplete, headCmd_of_queue hq]
  simp only [hcode, if_neg hgo, hrec]
  rfl

/-- A record written in the tile's scratchpad. -/
theorem recordCmd_spad (h : InTile s gt c.part) {off : Nat} (hrec : (Block.ofBytes c.block).rec_ = true)
    (hres : (Block.ofBytes c.block).res = spad s gt off) (hfit : off + 16 ≤ 2 ^ 22) : s.recordCmd gt g c code =
      (s.onHead gt g (fun c => { c with recorded := true })).writeMem (gt * 2 ^ 30 + off) (c.record code) := by
  have hin : InTile (s.onHead gt g (fun c => { c with recorded := true })) gt c.part :=
    ⟨h.tile, h.package, h.kind, (congrArg Tile.part (State.tile_onTile ..)).trans h.owned, h.stands⟩
  have htarget := engineTarget_spad (g := g) hin .write hfit
  rw [← show spad s gt off = spad (s.onHead gt g (fun c => { c with recorded := true })) gt off from rfl, ← hres] at htarget
  have hwrite := hin.stands
  rw [State.recordCmd]
  generalize s.onHead gt g (fun c => { c with recorded := true }) = u at htarget hwrite
  simp only [hrec, htarget, State.writeTarget, hwrite]
  rfl

theorem gives_record (h : InTile s gt c.part) {off : Nat} (hq : (vget (s.tile gt).gens g).queue = c :: rest) (hsaving : s.genSaving gt g = false)
    (hcode : c.code = some code) (hw : s.engineWrites gt g c = false) (hun : c.recorded = false) (hrec : (Block.ofBytes c.block).rec_ = true)
    (hres : (Block.ofBytes c.block).res = spad s gt off) (hfit : off + 16 ≤ 2 ^ 22) :
    ∃ t, Gives (.engineComplete gt g) s t ∧ t.mem = Memory.write s.mem (gt * 2 ^ 30 + off) (c.record code) ∧
      t.agenda = s.agenda ++ [.engineComplete gt g] ∧ t.slots = s.slots := by
  have hexec : exec (.engineComplete gt g) s = execEngineComplete gt g s := rfl
  have hgo : ¬(s.engineWrites gt g c || s.genSaving gt g) = true := by rw [hw, hsaving]; exact Bool.false_ne_true
  have htarget : s.engineTarget gt g c .write (Block.ofBytes c.block).res 16 = .ok (.tile gt off) := by
    rw [hres]
    exact engineTarget_spad h .write hfit
  rw [execEngineComplete, headCmd_of_queue hq] at hexec
  simp only [hcode, if_neg hgo, hun, Bool.not_false, if_true, hrec, htarget] at hexec
  have hmem : (s.recordCmd gt g c code).mem = Memory.write s.mem (gt * 2 ^ 30 + off) (c.record code) := by rw [recordCmd_spad h hrec hres hfit]; rfl
  have hslots : (s.recordCmd gt g c code).slots = s.slots := by rw [recordCmd_spad h hrec hres hfit]; rfl
  have hagenda : (s.recordCmd gt g c code).agenda = s.agenda := by rw [recordCmd_spad h hrec hres hfit]; rfl
  have hask := unask_asksOnly (s.recordCmd gt g c code) (engineAsker gt g) (engineTlb gt g c) (fun _ => true)
  generalize (s.recordCmd gt g c code).unask (engineAsker gt g) (engineTlb gt g c) = u at hask hexec
  exact ⟨_, hexec, hask.mem.trans hmem, congrArg (fun l : List Instr => l ++ [.engineComplete gt g]) (hask.agenda.trans hagenda), hask.slots.trans hslots⟩

/-! A port (spec/09 R208). -/

theorem exec_agPort (hq : (vget (s.tile gt).gens g).queue = c :: rest) (hsaving : s.genSaving gt g = false) (hk : c.kind = 8) (hcode : c.code = none)
    (hopen : (s.chan gt (bits (fieldW c.block 8 8) 3 0)).ended = none) :
    let ch := bits (fieldW c.block 8 8) 3 0
    let e := s.chan gt ch
    (e.tokens = [] → Gives (.agPortRequest gt g) s (s.defer (.agPortRequest gt g))) ∧
    (∀ q more, e.tokens = q :: more → q.tail = true → q.kind = .endTok → Gives (.agPortRequest gt g) s
      ((s.onChan gt ch (fun e => { e with tokens := e.tokens.drop 1, ended := some .endTok, lastTaken := s.cycle })).endCmd gt g 0)) ∧
    (∀ q more, e.tokens = q :: more → q.tail = true → q.kind = .message → s.poisoned (gt * 2 ^ 30 + e.entry q.seq) (64 * q.beats) = false →
      (s.engineTake gt ch).portRequest c (s.readMem (gt * 2 ^ 30 + e.entry q.seq) 64) = false → Gives (.agPortRequest gt g) s
        (((s.engineTake gt ch).onHead gt g (fun c => { c with progress := c.progress + 1, discarded := c.discarded + 1 })).post (.agPortRequest gt g))) := by
  intro ch e
  have hexec : exec (.agPortRequest gt g) s = execAgPortRequest gt g s := rfl
  have hgo : ¬(decide (c.kind ≠ 8) || c.code.isSome) = true := by rw [hcode, hk]; exact Bool.false_ne_true
  rw [execAgPortRequest, headCmd_of_queue hq] at hexec
  simp only [if_neg hgo, hsaving, Bool.false_eq_true, if_false, hopen] at hexec
  refine ⟨fun ht => ?_, fun q more ht htail hkind => ?_, fun q more ht htail hkind hclean hreq => ?_⟩
  · simp only [show (s.chan gt (bits (fieldW c.block 8 8) 3 0)).tokens = [] from ht] at hexec
    exact hexec
  · simp only [show (s.chan gt (bits (fieldW c.block 8 8) 3 0)).tokens = q :: more from ht, htail, hkind] at hexec
    exact hexec
  · have hreq' : ((s.engineTake gt (bits (fieldW c.block 8 8) 3 0)).portRequest c
        (s.readMem (sramKey gt ((s.chan gt (bits (fieldW c.block 8 8) 3 0)).entry q.seq)) 64)) = false := hreq
    have hclean' : s.poisoned (sramKey gt ((s.chan gt (bits (fieldW c.block 8 8) 3 0)).entry q.seq)) (64 * q.beats) = false := hclean
    simp only [show (s.chan gt (bits (fieldW c.block 8 8) 3 0)).tokens = q :: more from ht, htail, hkind, hclean', hreq'] at hexec
    exact hexec

end

section
variable {s : State} {gt g : Nat} {c : EngineCmd} {rest : List EngineCmd}

/-- The endpoint once an engine has taken the token at its head. -/
def Endpoint.engineTaken (cycle : Nat) (e : Endpoint) : Endpoint :=
  { e with tokens := e.tokens.drop 1, taken := e.taken + 1, lastTaken := cycle, returned := e.returned + bit (!e.manual) }

theorem engineTake_of_manual {ch : Nat} (hm : (s.chan gt ch).manual = true) : s.engineTake gt ch = s.onChan gt ch (.engineTaken s.cycle) := by
  have hm' : ((s.onChan gt ch (.engineTaken s.cycle)).chan gt ch).manual = true := by rw [State.chan_onChan]; exact hm
  exact if_pos hm'

theorem part_onChan (s : State) (gt ch h : Nat) (f : Endpoint → Endpoint) : ((s.onChan gt ch f).tile h).part = (s.tile h).part := by
  by_cases hh : h = gt
  · rw [hh, State.onChan, State.tile_onTile]
  · rw [State.onChan, tile_onTile_other s _ hh]

theorem portRequest_onChan (s : State) (gt ch : Nat) (f : Endpoint → Endpoint) (c : EngineCmd) (bs : Bytes) :
    (s.onChan gt ch f).portRequest c bs = s.portRequest c bs := by
  have howns : ∀ part pkg h, (s.onChan gt ch f).ownsTile part pkg h = s.ownsTile part pkg h := fun part pkg h => by
    rw [State.ownsTile, State.ownsTile, part_onChan]
    rfl
  have hpkg : (s.onChan gt ch f).mgmt = s.mgmt := rfl
  have hres : (s.onChan gt ch f).resCause c.part (Block.ofBytes bs) = s.resCause c.part (Block.ofBytes bs) := by
    simp only [State.resCause, howns, hpkg]
  rw [State.portRequest, State.portRequest, hres]

theorem gens_onChan (s : State) (gt ch : Nat) (f : Endpoint → Endpoint) : ((s.onChan gt ch f).tile gt).gens = (s.tile gt).gens := by
  rw [State.onChan, State.tile_onTile]

theorem queue_onChan (hq : (vget (s.tile gt).gens g).queue = c :: rest) (ch : Nat) (f : Endpoint → Endpoint) :
    (vget ((s.onChan gt ch f).tile gt).gens g).queue = c :: rest := by
  rw [gens_onChan, hq]

/-- A port at END ends with CODE 0. -/
theorem agPort_end (hq : (vget (s.tile gt).gens g).queue = c :: rest) (hsaving : s.genSaving gt g = false) (hk : c.kind = 8) (hcode : c.code = none)
    {q : QueuedToken} {more : List QueuedToken} (hopen : (s.chan gt (bits (fieldW c.block 8 8) 3 0)).ended = none)
    (ht : (s.chan gt (bits (fieldW c.block 8 8) 3 0)).tokens = q :: more) (htail : q.tail = true) (hkind : q.kind = .endTok) :
    ∃ t, Gives (.agPortRequest gt g) s t ∧ t.mem = s.mem ∧ t.agenda = s.agenda ++ [.engineComplete gt g] ∧
      (t.chan gt (bits (fieldW c.block 8 8) 3 0)).tokens = more ∧ (vget (t.tile gt).gens g).queue.head?.map (·.code) = some (some 0) := by
  have hgives := (exec_agPort hq hsaving hk hcode hopen).2.1 q more ht htail hkind
  have hend := endCmd_spec (queue_onChan hq (bits (fieldW c.block 8 8) 3 0)
    (fun e => { e with tokens := e.tokens.drop 1, ended := some .endTok, lastTaken := s.cycle })) 0
  generalize hv : (s.onChan gt (bits (fieldW c.block 8 8) 3 0) _).endCmd gt g 0 = t at hgives hend
  refine ⟨t, hgives, hend.mem, hend.agenda, ?_, ?_⟩
  · rw [hend.chan, State.chan_onChan, ht]
    rfl
  · rw [hend.gen]
    rfl

/-- A message token that is no good request is taken and counted. -/
theorem agPort_discard (hq : (vget (s.tile gt).gens g).queue = c :: rest) (hsaving : s.genSaving gt g = false) (hk : c.kind = 8) (hcode : c.code = none)
    {q : QueuedToken} {more : List QueuedToken} (hopen : (s.chan gt (bits (fieldW c.block 8 8) 3 0)).ended = none)
    (ht : (s.chan gt (bits (fieldW c.block 8 8) 3 0)).tokens = q :: more) (htail : q.tail = true) (hkind : q.kind = .message)
    (hm : (s.chan gt (bits (fieldW c.block 8 8) 3 0)).manual = true)
    (hclean : s.poisoned (gt * 2 ^ 30 + (s.chan gt (bits (fieldW c.block 8 8) 3 0)).entry q.seq) (64 * q.beats) = false)
    (hbad : s.portRequest c (s.readMem (gt * 2 ^ 30 + (s.chan gt (bits (fieldW c.block 8 8) 3 0)).entry q.seq) 64) = false) :
    ∃ t, Gives (.agPortRequest gt g) s t ∧ t.mem = s.mem ∧ (t.chan gt (bits (fieldW c.block 8 8) 3 0)).tokens = more ∧
      (t.chan gt (bits (fieldW c.block 8 8) 3 0)).taken = (s.chan gt (bits (fieldW c.block 8 8) 3 0)).taken + 1 ∧
      (vget (t.tile gt).gens g).queue.head?.map (·.discarded) = some (c.discarded + 1) := by
  have htake := engineTake_of_manual hm
  have hgives := (exec_agPort hq hsaving hk hcode hopen).2.2 q more ht htail hkind hclean (by rw [htake, portRequest_onChan]; exact hbad)
  rw [htake] at hgives
  have hhead := gens_onHead (queue_onChan hq (bits (fieldW c.block 8 8) 3 0) (.engineTaken s.cycle))
    (fun c => { c with progress := c.progress + 1, discarded := c.discarded + 1 })
  have hchan : (((s.onChan gt (bits (fieldW c.block 8 8) 3 0) (.engineTaken s.cycle)).onHead gt g
      (fun c => { c with progress := c.progress + 1, discarded := c.discarded + 1 })).post (.agPortRequest gt g)).chan gt (bits (fieldW c.block 8 8) 3 0) =
      .engineTaken s.cycle (s.chan gt (bits (fieldW c.block 8 8) 3 0)) := (chan_onHead ..).trans (State.chan_onChan ..)
  refine ⟨_, hgives, rfl, ?_, ?_, ?_⟩
  · rw [hchan, Endpoint.engineTaken, ht]
    rfl
  · rw [hchan]
    rfl
  · exact (congrArg (fun q : Gen => q.queue.head?.map (·.discarded)) hhead).trans rfl

theorem engineCompletes : EngineCompletes := by
  intro s gt g c rest hg hq hsaving
  refine ⟨fun code hcode hw => ⟨fun hrec hinner hch => ?_, fun off hun hrec hres hfit hgt hpkg hkind howned hstands => ?_⟩,
    fun hk hcode => ?_⟩
  · obtain ⟨hmem, hslots, hqueue, hcount, hagenda⟩ := retireCmd_spec hq hinner hch (code := code)
    exact ⟨_, gives_retire hq hsaving hcode hw hrec, hmem, hslots, hqueue, hcount, hagenda⟩
  · obtain ⟨t, hgives, hmem, hagenda, hslots⟩ := gives_record ⟨hgt, hpkg, hkind, howned, hstands⟩ hq hsaving hcode hw hun hrec hres hfit
    exact ⟨t, hgives, hmem, length_record c code, hagenda, hslots⟩
  · intro ch e
    exact ⟨fun hopen ht => (exec_agPort hq hsaving hk hcode hopen).1 ht, fun q more hopen ht htail hkind => agPort_end hq hsaving hk hcode hopen ht htail hkind,
      fun q more hopen ht htail hkind hm hclean hbad => agPort_discard hq hsaving hk hcode hopen ht htail hkind hm hclean hbad⟩

end

/-- Settles O25: a command whose checks pass is the last of its generator's queue, and its segment, its completion and its port run as those of O26. -/
theorem engineAccepted : Obligations.EngineAccepted := by
  unfold Obligations.EngineAccepted
  refine ⟨fun s i d p k g kind off hi hr => engineIssues hi hr, fun s gt g dst c rest hruns hgt hpkg hkind howned hstands hk => ?_,
    fun s gt g code c rest hg hq hsaving hcode hw hrec hinner hch => ?_, fun s gt g c rest hg hq hsaving hk hcode => ?_⟩
  · intro b hdst hfit halign hsegment
    have hlo : 256 * c.progress - dst % 256 = 256 * c.progress := by rw [halign]; rfl
    have hn : min b.len (256 * (c.progress + 1) - dst % 256) - 256 * c.progress = 256 := by omega
    have hlen : 256 * (c.progress + 1) ≤ (Block.ofBytes c.block).len := hsegment
    obtain ⟨t, hgives, hmem, -, hslots⟩ :=
      (engineSegments s gt g 0 dst c rest hruns hgt hpkg hkind howned hdst hfit (by omega) hstands).2.1 hk (by omega)
    rw [hlo, hn] at hmem
    refine ⟨t, hgives, hslots, hmem.trans (congrArg _ (List.map_congr_left fun i _ => ?_))⟩
    rw [show (256 * c.progress + i) % 8 = i % 8 by omega]
  · obtain ⟨t, hgives, hmem, hslots, hqueue, -⟩ := ((engineCompletes s gt g c rest hg hq hsaving).1 code hcode hw).1 hrec hinner hch
    exact ⟨t, hgives, hmem, hslots, hqueue⟩
  · intro e q more hopen ht htail hkind
    obtain ⟨t, hgives, hmem, -, htokens, hhead⟩ := agPort_end hq hsaving hk hcode hopen ht htail hkind
    exact ⟨t, hgives, hmem, htokens, hhead⟩

/-- Settles O26, segment by segment and at completion. -/
theorem engineRuns : Obligations.EngineRuns := ⟨engineSegments, engineCompletes⟩

end Sys2Proof.Machine

namespace Sys2Proof.Machine

open Sys2Proof.Claims

set_option Elab.async false

/-! ## Matrix instructions enter their queue (spec/08 R178, R186, R187) -/

theorem MatWord.granted_iff (w : MatWord) (t : Slot) : MatGranted w t ↔
    w.granted t = true ∧ (w.op = .mmaSeg → (List.range 32).all (fun i => t.hasBl (bits (t.x w.b) (2 * i + 1) (2 * i))) = true) := by
  have hlatch : ∀ i, t.hasBl (bits (t.x w.b) (2 * i + 1) (2 * i)) = t.grant.bl.getLsbD ((t.x w.b).toNat / 2 ^ (2 * i) % 4) := fun i => by
    rw [Slot.hasBl, testN_toNat, bits, bitsN, show 2 * i + 1 + 1 - 2 * i = 2 by omega]
    rfl
  obtain ⟨op, acc, src, qa, bl, keep, a, b, rc⟩ := w
  simp only [MatGranted, MatWord.granted, Slot.hasAcc, Slot.hasQa, Slot.hasBl, testN_toNat, List.all_eq_true, List.mem_range] at hlatch ⊢
  cases op <;> simp [hlatch, and_assoc]

section
variable {s : State} {w : MatWord}

theorem matAddrCause_of_window {va : Word} {gt off n : Nat} (hva : va.toNat = 0xFFFE * 2 ^ 48 + s.mgmt.package * 2 ^ 38 + gt * 2 ^ 30 + off)
    (hpkg : s.mgmt.package < 1024) (hgt : gt < 256) (halign : off % 64 = 0) (hfit : off + n ≤ 2 ^ 22) (hkind : gt % 64 < 48 ∨ 52 ≤ gt % 64 ∧ gt % 64 < 56)
    (hpart : (s.tile gt).part = some (me s).part) (hlock : s.inLockstep (me s) = true → gt = s.cur / 4) :
    s.matAddrCause (me s) va n = none := by
  have hown : ((decide (s.mgmt.package = s.mgmt.package) || Config.configuredPackage s.mgmt.package) && (isMTile gt || isSTile gt) &&
      s.ownsTile (me s).part s.mgmt.package gt && decide (off + n ≤ 0x400000)) = true := by
    have htile : (isMTile gt || isSTile gt) = true := by
      rw [isMTile, isSTile, localOf, Bool.or_eq_true, decide_eq_true_eq, decide_eq_true_eq]
      exact hkind
    have howns : s.ownsTile (me s).part s.mgmt.package gt = true := (if_pos rfl).trans (beq_iff_eq.2 hpart)
    rw [htile, howns, decide_eq_true (show off + n ≤ 0x400000 from hfit), decide_eq_true rfl]
    rfl
  have hstep : ¬(s.inLockstep (me s) && !(decide (s.mgmt.package = s.mgmt.package) && gt == tileOfSlot s.cur)) = true := by
    rw [Bool.and_eq_true, decide_eq_true rfl, Bool.true_and, Bool.not_eq_true', beq_eq_false_iff_ne]
    exact fun ⟨hl, hne⟩ => hne (hlock hl)
  rw [State.matAddrCause, classify_window hva hpkg hgt (by omega)]
  refine (if_neg (by omega)).trans ((if_neg ?_).trans (if_neg hstep))
  rw [hown]
  exact Bool.false_ne_true

/-- The bytes of a form's operand are those that its checks ask for. -/
theorem matOperand_cause (h : MatOperand s w) : ∀ n, w.memBytes (me s) = some n → s.matAddrCause (me s) ((me s).x w.a) n = none := by
  have hbit : testW ((me s).x w.b) 8 = ((me s).x w.b).getLsbD 8 := testN_toNat _ _
  intro n hn
  have hform : w.op ∈ [MatOp.qaLd, .blLd, .accLd, .accSt, .accCvt] ∧ n = if w.op = .qaLd ∨ w.op = .blLd then 13888
      else if w.op = .accLd ∨ w.op = .accSt then 16960 else if ((me s).x w.b).getLsbD 8 then 4096 else 13888 := by
    rw [MatWord.memBytes, hbit] at hn
    cases hop : w.op <;> rw [hop] at hn <;> cases hn
    all_goals exact ⟨by decide, rfl⟩
  obtain ⟨hop, rfl⟩ := hform
  obtain ⟨gt, off, hva, hpkg, hgt, halign, hfit, hkind, hpart, hlock⟩ := h hop
  exact matAddrCause_of_window hva hpkg hgt halign hfit hkind hpart hlock

theorem matCheck_of_granted (hg : MatGranted w (me s)) (hm : MatOperand s w)
    (hc : w.op = .accCvt ∨ w.op = .accCvtQ → convCause ((me s).x w.b) (w.op == .accCvtQ) = none) : s.matCheck w (me s) = none := by
  obtain ⟨hgrant, hlatch⟩ := (w.granted_iff (me s)).1 hg
  have hall : ¬(w.op == .mmaSeg && !(List.range 32).all (fun i => (me s).hasBl (bits ((me s).x w.b) (2 * i + 1) (2 * i)))) = true := by
    rw [Bool.and_eq_true, beq_iff_eq, Bool.not_eq_true']
    exact fun ⟨hop, hno⟩ => Bool.false_ne_true (hno.symm.trans (hlatch hop))
  have hconv : (if w.op.converts then convCause ((me s).x w.b) (w.op == .accCvtQ) else none) = none := by
    refine ite_eq_right_iff.2 fun hop => hc ?_
    revert hop
    cases w.op <;> decide
  rw [State.matCheck, hgrant]
  simp only [if_neg hall, hconv, Bool.not_true, Bool.false_eq_true, if_false]
  cases hmem : w.memBytes (me s) with
  | none => rfl
  | some n => simp only [matOperand_cause hm n hmem, Option.map_none]

theorem matCheck_of_refused (hg : ¬MatGranted w (me s)) : s.matCheck w (me s) = some (3, s.wordAt (me s)) := by
  rw [State.matCheck]
  by_cases hgrant : w.granted (me s) = true
  · have hall : (w.op == .mmaSeg && !(List.range 32).all (fun i => (me s).hasBl (bits ((me s).x w.b) (2 * i + 1) (2 * i)))) = true := by
      rw [Bool.and_eq_true, beq_iff_eq, Bool.not_eq_true']
      by_contra hno
      exact hg ((w.granted_iff (me s)).2 ⟨hgrant, fun hop => Bool.of_not_eq_false fun h => hno ⟨hop, h⟩⟩)
    rw [hgrant]
    exact (if_neg Bool.false_ne_true).trans (if_pos hall)
  · rw [Bool.not_eq_true] at hgrant
    rw [hgrant]
    rfl

/-- The slot once its instruction is in the queue. -/
def Slot.matQueued (w : MatWord) (e : MatEntry) (t : Slot) : Slot :=
  let u := { t with mq := t.mq ++ [e], entrySerial := t.entrySerial + 1
                    srseq := if (w.op = MatOp.accCvt ∨ w.op = MatOp.accCvtQ) ∧ e.rc = 4 then t.srseq + 1 else t.srseq }
  if w.op = .mma ∨ w.op = .mmaSeg then { u with state := .matrix } else u.advance

theorem matQueued_eq (w : MatWord) (e : MatEntry) (t : Slot) :
    (if w.op.isProduct then { (if w.op.converts then ({ t with mq := t.mq ++ [e], entrySerial := t.entrySerial + 1 } : Slot).takeSr e.rc
        else { t with mq := t.mq ++ [e], entrySerial := t.entrySerial + 1 }) with state := .matrix }
      else (if w.op.converts then ({ t with mq := t.mq ++ [e], entrySerial := t.entrySerial + 1 } : Slot).takeSr e.rc
        else { t with mq := t.mq ++ [e], entrySerial := t.entrySerial + 1 }).advance) = t.matQueued w e := by
  have hsr : ∀ u : Slot, u.takeSr e.rc = { u with srseq := if e.rc = 4 then u.srseq + 1 else u.srseq } := fun u => by
    rw [Slot.takeSr]
    split <;> rfl
  obtain ⟨op, acc, src, qa, bl, keep, a, b, rc⟩ := w
  cases op <;> simp [Slot.matQueued, MatOp.isProduct, MatOp.converts, hsr]

theorem fills_iff (op : MatOp) : op.fills = true ↔ op = .qaLd ∨ op = .accCvtQ := by cases op <;> decide

/-- The entry of a matrix instruction. -/
def State.matEntry (s : State) (w : MatWord) : MatEntry := w.entry (me s) (s.maxsp (me s)) (if w.op.fills then (s.tile (s.cur / 4)).nextFill else 0)

theorem isMatEntry_matEntry (s : State) (w : MatWord) : IsMatEntry s w (s.matEntry w) :=
  ⟨rfl, rfl, rfl, rfl, rfl, rfl, rfl, rfl, rfl, rfl, rfl, rfl, rfl, rfl, rfl, if_congr (fills_iff w.op) rfl rfl⟩

/-- The state whose FIFO has the position that a fill reserves. -/
def State.matReserved (s : State) (w : MatWord) : State :=
  if w.op = .qaLd ∨ w.op = .accCvtQ then s.onTile (s.cur / 4) (reservedTile · w.qa) else s

theorem acceptMatrix_eq (s : State) (w : MatWord) :
    s.acceptMatrix w (me s) = ((s.matReserved w).onSlot s.cur (.matQueued w (s.matEntry w))).post (.matrixEntryBind s.cur) := by
  rw [State.acceptMatrix, ← funext (matQueued_eq w (s.matEntry w)), State.matReserved, State.matEntry]
  by_cases hf : w.op.fills = true
  · simp only [if_pos ((fills_iff _).1 hf), if_pos hf]
    rfl
  · simp only [if_neg (mt (fills_iff _).2 hf), if_neg hf]
    rfl

theorem matReserved_justTiles (s : State) (w : MatWord) : JustTiles s (s.matReserved w) := by
  rw [State.matReserved]
  split
  · exact onTile_justTiles ..
  · exact .refl s

theorem tile_matReserved (s : State) (w : MatWord) : (s.matReserved w).tile (s.cur / 4) =
    if w.op = .qaLd ∨ w.op = .accCvtQ then reservedTile (s.tile (s.cur / 4)) w.qa else s.tile (s.cur / 4) := by
  rw [State.matReserved]
  split
  · exact State.tile_onTile ..
  · rfl

theorem tile_matReserved_other (s : State) (w : MatWord) {h : Nat} (hne : h ≠ s.cur / 4) : (s.matReserved w).tile h = s.tile h := by
  rw [State.matReserved]
  split
  · exact tile_onTile_other s _ hne
  · rfl

theorem gives_acceptMatrix {i : Instr} {rs : List Reg} (hrow : matRow i = some (rs, w)) (hr : Ready s { engine := true, mtile := true } rs)
    (hc : s.matCheck w (me s) = none) (hroom : (me s).mq.length < 4) (hacq : s.acquirePending s.cur = false)
    (hfifo : w.op = .qaLd ∨ w.op = .accCvtQ → (vget (s.tile (s.cur / 4)).fifos w.qa).length < 4) : Gives i s (s.acceptMatrix w (me s)) := by
  have hqueue : ¬(decide (4 ≤ (me s).mq.length) || s.acquirePending s.cur) = true := by
    rw [hacq, Bool.or_false, decide_eq_true_eq]
    exact Nat.not_le.2 hroom
  have hplace : ¬(w.op.fills && decide (4 ≤ (vget (s.tile (tileOfSlot s.cur)).fifos w.qa).length)) = true := by
    rw [Bool.and_eq_true, decide_eq_true_eq, fills_iff]
    exact fun ⟨hf, hfull⟩ => absurd (hfifo hf) (Nat.not_lt.2 hfull)
  refine gives_of_done (exec_of_matRow.apply hrow) hr ?_
  simp only [hc]
  exact (if_neg hqueue).trans (if_neg hplace)

theorem matrixIssue : MatrixIssue := by
  intro s i rs w hrow hr
  refine ⟨fun hg hm hc hroom hacq hfifo => ?_, fun hg => ?_⟩
  · have hgives := gives_acceptMatrix hrow hr (matCheck_of_granted hg hm hc) hroom hacq hfifo
    rw [acceptMatrix_eq] at hgives
    have htile := tile_matReserved s w
    have hother := fun h => tile_matReserved_other s w (h := h)
    obtain ⟨ts, hts⟩ := matReserved_justTiles s w
    rw [hts] at hgives htile hother
    exact ⟨s.matEntry w, _, isMatEntry_matEntry s w, hgives, rfl, fun h hne => State.slot_onSlot_ne _ _ _ _ hne, hother, htile, State.slot_onSlot ..⟩
  · refine gives_of_trap (exec_of_matRow.apply hrow) hr ?_
    simp only [matCheck_of_refused hg]

end

/-! MX.WAIT, PREC.I and PREC.X (spec/08 R193, R194). -/

theorem toNat_precImm (d a : BitVec 5) (b : BitVec 4) : (precImm d a b).toNat =
    d.toNat % 16 + d.toNat / 16 % 2 * 16 + b.toNat / 4 % 2 * 32 + a.toNat % 16 * 256 + a.toNat / 16 % 2 * 4096 + b.toNat / 8 % 2 * 8192 + b.toNat % 4 * 65536 := by
  rw [precImm, wordN, BitVec.toNat_ofNat]
  simp only [bitsN, Nat.reduceAdd, Nat.reduceSub, Nat.reducePow, Nat.div_one]
  omega

/-- The fields of a number put together from them. -/
theorem precFields {x d₀ d₁ b₂ a₀ a₁ b₃ b₀ : Nat} (hx : x = d₀ + d₁ * 16 + b₂ * 32 + a₀ * 256 + a₁ * 4096 + b₃ * 8192 + b₀ * 65536)
    (hd₀ : d₀ < 16) (hd₁ : d₁ < 2) (hb₂ : b₂ < 2) (ha₀ : a₀ < 16) (ha₁ : a₁ < 2) (hb₃ : b₃ < 2) (hb₀ : b₀ < 4) :
    x % 16 = d₀ ∧ x / 16 % 2 = d₁ ∧ x / 32 % 2 = b₂ ∧ x / 256 % 16 = a₀ ∧ x / 4096 % 2 = a₁ ∧ x / 8192 % 2 = b₃ ∧ x / 65536 % 4 = b₀ ∧
      x / 2 ^ 18 = 0 ∧ x / 2 ^ 14 % 4 = 0 ∧ x / 2 ^ 6 % 4 = 0 := by
  omega

/-- PREC.I puts each field where PREC has it. -/
theorem precImm_fields (d a : BitVec 5) (b : BitVec 4) : let p := precImm d a b
    p.extractLsb' 0 4 = d.extractLsb' 0 4 ∧ p.getLsbD 4 = d.getLsbD 4 ∧ p.getLsbD 5 = b.getLsbD 2 ∧ p.extractLsb' 8 4 = a.extractLsb' 0 4 ∧
      p.getLsbD 12 = a.getLsbD 4 ∧ p.getLsbD 13 = b.getLsbD 3 ∧ p.extractLsb' 16 2 = b.extractLsb' 0 2 ∧ p &&& ~~~0x33F3F = 0 := by
  intro p
  have hp : p.toNat = _ := toNat_precImm d a b
  obtain ⟨hd₀, hd₁, hb₂, ha₀, ha₁, hb₃, hb₀, htop, hmid, hlow⟩ := precFields hp (Nat.mod_lt _ (by decide)) (Nat.mod_lt _ (by decide))
    (Nat.mod_lt _ (by decide)) (Nat.mod_lt _ (by decide)) (Nat.mod_lt _ (by decide)) (Nat.mod_lt _ (by decide)) (Nat.mod_lt _ (by decide))
  have hbit : ∀ {v w : Nat} (x : BitVec v) (y : BitVec w) (i j : Nat), x.toNat / 2 ^ i % 2 = y.toNat / 2 ^ j % 2 → x.getLsbD i = y.getLsbD j :=
    fun x y i j h => by rw [← testN_toNat, ← testN_toNat, testN, testN, h]
  have hfield : ∀ {v w : Nat} (x : BitVec v) (y : BitVec w) (i j n : Nat), x.toNat / 2 ^ i % 2 ^ n = y.toNat / 2 ^ j % 2 ^ n →
      x.extractLsb' i n = y.extractLsb' j n := fun x y i j n h => by
    refine BitVec.eq_of_toNat_eq ?_
    rw [BitVec.extractLsb'_toNat, BitVec.extractLsb'_toNat, Nat.shiftRight_eq_div_pow, Nat.shiftRight_eq_div_pow, h]
  have hclear := reserved_clear_iff (m := 0x33F3F) (fields := [(63, 18), (15, 14), (7, 6)]) (by decide) p
  refine ⟨hfield _ _ _ _ _ ?_, hbit _ _ _ _ hd₁, hbit _ _ _ _ hb₂, hfield _ _ _ _ _ ?_, hbit _ _ _ _ ha₁, hbit _ _ _ _ hb₃, hfield _ _ _ _ _ ?_, hclear.2 ?_⟩
  · rw [pow_zero, Nat.div_one, Nat.div_one]; exact hd₀
  · rw [pow_zero, Nat.div_one]; exact ha₀
  · rw [pow_zero, Nat.div_one]; exact hb₀
  · rw [List.forall_mem_cons, List.forall_mem_cons, List.forall_mem_singleton]
    exact ⟨(congrArg (· % _) htop).trans (Nat.zero_mod _), hmid, hlow⟩

theorem precisionAndWait : PrecisionAndWait := by
  intro s
  refine ⟨fun hr => ⟨fun ⟨hq, hb⟩ => ?_, fun hbusy => ?_⟩, fun d a b hr => ?_, fun d a hr => ⟨fun hclear => ?_, fun hbad => ?_⟩⟩
  · exact gives_of_done (i := .mxWait) (execMxWait.eq_1 s) hr (if_pos (by rw [hq, hb]; rfl))
  · refine gives_of_wait (i := .mxWait) (execMxWait.eq_1 s) hr (if_neg fun h => hbusy ?_)
    rw [Bool.and_eq_true, List.isEmpty_iff, List.isEmpty_iff] at h
    exact h
  · exact ⟨precImm d a b, gives_of_done (i := .precI d a b) (execPrecI.eq_1 d a b s) hr rfl, precImm_fields d a b⟩
  · exact gives_of_done (i := .precX d a) (execPrecX.eq_1 d a s) hr (if_neg (by rw [specialBad_eq_false (n := 0) rfl hclear (fun h => absurd h (by decide))]; exact Bool.false_ne_true))
  · refine gives_of_trap (i := .precX d a) (execPrecX.eq_1 d a s) hr (if_pos (specialBad_eq_true fun m hm => .inl ?_))
    cases hm
    exact hbad

/-- Settles O22. -/
theorem matrixIssues : Obligations.MatrixIssues := ⟨matrixIssue, precisionAndWait⟩

end Sys2Proof.Machine

namespace Sys2Proof.Machine

open Sys2Proof.Claims

set_option Elab.async false

/-! ## A matrix entry binds (spec/08 R182, R191, R192) -/

section
variable {s : State} {g gt off : Nat} {e : MatEntry} {rest : List MatEntry}

theorem barred_ownTile (s : State) (part gt off : Nat) : s.barred part gt (.tile gt off) = false := by
  rw [State.barred, bne_self_eq_false, Bool.false_and]

theorem matStore_ownTile (hgt : gt = g / 4) (ht : s.matTarget e = .tile gt off) (hstands : s.lostDie (dieOf gt) = false) (bs : Bytes) :
    s.matStore g e bs = s.writeMem (gt * 2 ^ 30 + off) bs := by
  have hbar : s.barred (s.matIssuer g e).part (tileOfSlot g) (.tile gt off) = false := by rw [hgt]; exact barred_ownTile ..
  rw [State.matStore, ht]
  simp only [hbar, State.writeTarget, hstands]
  rfl

theorem matRequest_ownTile (hgt : gt = g / 4) (ht : s.matTarget e = .tile gt off) (n : Nat) : s.matRequest g e n = s := by
  have hbar : s.barred (s.matIssuer g e).part (tileOfSlot g) (.tile gt off) = false := by rw [hgt]; exact barred_ownTile ..
  rw [State.matRequest, ht]
  simp only [hbar]
  rfl

theorem loneHead_matHeads (hq : (s.slot g).mq = e :: rest) (hready : s.matHeadReady (g / 4) (s.slot g) e = true)
    (hcost : s.matCost (g / 4) (s.slot g) e ≤ 256) (hothers : ∀ k, k < 4 → k ≠ g % 4 → (s.slot (g / 4 * 4 + k)).mq = []) :
    LoneHeadWithin (s.matHeads (g / 4)) (s.quanta (g / 4) true) (Fin.ofNat 4 g) { cost := s.matCost (g / 4) (s.slot g) e, ready := true } 4 where
  head := by
    have hslot : g / 4 * 4 + (Fin.ofNat 4 g).val = g := slot_of_tile g
    simp only [State.matHeads, Vector.get_ofFn, hslot, hq, hready]
  ready := rfl
  others j hj := by
    have hne : j.val ≠ g % 4 := fun h => hj (Fin.ext h)
    simp only [State.matHeads, Vector.get_ofFn, hothers j.val j.isLt hne]
  cost := hcost.trans (Nat.mul_le_mul_left 4 (s.le_quanta _ _ _))

/-- The entry as its slot keeps it while it is bound: a conversion carries its flags. -/
def State.matKept (s : State) (g : Nat) (e : MatEntry) : MatEntry :=
  if e.op == .accCvt then { e with flags := (s.convert (g / 4) e.acc e.xb e.rc (e.srWords (s.slot g))).2 } else e

/-- The state whose array an entry occupies, before its accesses. -/
def State.matOccupied (s : State) (g : Nat) (e : MatEntry) (cost : Nat) (arb : Arbiter) : State :=
  let u := s.onSlot g (fun t => { t with mq := t.mq.drop 1, mbound := t.mbound ++ [s.matKept g e], umat := t.umat + wordN cost })
  u.onTile (g / 4) (fun t => { t with mat := { (arb.emptied (Fin.ofNat 4 g) (u.slot g).mq.isEmpty) with busy := some (g, e.serial) } })

/-- The bytes that an entry writes when it binds. -/
def State.matWrites (s : State) (g : Nat) (e : MatEntry) : Option Bytes :=
  match e.op with
  | .accSt => some (s.accImage (g / 4) e.acc)
  | .accCvt => some (s.convert (g / 4) e.acc e.xb e.rc (e.srWords (s.slot g))).1
  | _ => none

/-- The state with what an entry writes written at `k`. -/
def State.withWrite (s : State) (k : Nat) (bs : Option Bytes) : State :=
  match bs with
  | some bs => s.writeMem k bs
  | none => s

theorem bindMat_ownTile (hgt : gt = g / 4) (ht : s.matTarget e = .tile gt off) (hstands : s.lostDie (dieOf gt) = false) (cost : Nat) (arb : Arbiter) :
    s.bindMat g e cost arb = ((s.matOccupied g e cost arb).withWrite (gt * 2 ^ 30 + off) (s.matWrites g e)).post (.matrixEntryComplete (g / 4)) := by
  have ht' : (s.matOccupied g e cost arb).matTarget e = .tile gt off := ht
  have hstands' : (s.matOccupied g e cost arb).lostDie (dieOf gt) = false := hstands
  have hstore := matStore_ownTile hgt ht' hstands'
  have hrequest := matRequest_ownTile hgt ht'
  have hbind : s.bindMat g e cost arb = (match e.op with
      | .accSt => (s.matOccupied g e cost arb).matStore g e (s.accImage (g / 4) e.acc)
      | .accCvt => (s.matOccupied g e cost arb).matStore g e (s.convert (g / 4) e.acc e.xb e.rc (e.srWords (s.slot g))).1
      | _ => (match e.op.loads with
        | some n => (s.matOccupied g e cost arb).matRequest g e n
        | none => s.matOccupied g e cost arb) : State).post (.matrixEntryComplete (g / 4)) := rfl
  rw [hbind, State.matWrites]
  cases hop : e.op <;> simp only [MatOp.loads, hstore, hrequest, State.withWrite]

theorem gives_bindMat (hgt : gt = g / 4) (hq : (s.slot g).mq = e :: rest) (hbusy : (s.tile gt).mat.busy = none) (hhold : s.enginesHold g = false)
    (htrap : s.matHeadTrap gt (s.slot g) = none) (hready : s.matHeadReady gt (s.slot g) e = true) (hclean : s.matPoisoned gt (s.slot g) e = false)
    (hothers : ∀ k, k < 4 → k ≠ g % 4 → (s.slot (gt * 4 + k)).mq = []) (hcost : s.matCost gt (s.slot g) e ≤ 256) :
    ∃ arb, Gives (.matrixEntryBind g) s (s.bindMat g e (s.matCost gt (s.slot g) e) arb) := by
  subst hgt
  obtain ⟨arb, hpick⟩ := Arbiter.pick_of_loneHeadWithin (loneHead_matHeads hq hready hcost hothers) (by decide) (s.tile (g / 4)).mat
  refine ⟨arb, ?_⟩
  have hexec : exec (.matrixEntryBind g) s = execMatrixEntryBind g s := rfl
  have hval : (Fin.ofNat 4 g).val = g % 4 := rfl
  have htile : tileOfSlot g = g / 4 := rfl
  rw [Gives, hexec, execMatrixEntryBind]
  simp only [hq, hhold, htile, htrap, hpick, hval, hclean, Bool.false_eq_true, if_false, ne_eq, not_true_eq_false]

/-- Settles O23: the lone head is picked, and what it writes goes to the tile's own scratchpad. -/
theorem matrixBind : Obligations.MatrixBind := by
  unfold Obligations.MatrixBind
  intro s g gt off e rest hgt hq hbusy hhold htrap hready hclean hothers hcost ht hstands r
  obtain ⟨arb, hgives⟩ := gives_bindMat hgt hq hbusy hhold htrap hready hclean hothers hcost
  rw [bindMat_ownTile hgt ht hstands] at hgives
  subst hgt
  have hslot : (s.matOccupied g e (s.matCost (g / 4) (s.slot g) e) arb).slot g = { s.slot g with
      mq := rest, mbound := (s.slot g).mbound ++ [if e.op = .accCvt then { e with flags := r.2 } else e],
      umat := (s.slot g).umat + wordN (s.matCost (g / 4) (s.slot g) e) } := by
    have hkept : s.matKept g e = if e.op = .accCvt then { e with flags := r.2 } else e := if_congr beq_iff_eq rfl rfl
    rw [State.matOccupied, State.slot_onTile, State.slot_onSlot, hq, hkept]
    rfl
  have hother : ∀ h, h ≠ g → (s.matOccupied g e (s.matCost (g / 4) (s.slot g) e) arb).slot h = s.slot h := fun h hne => by
    rw [State.matOccupied, State.slot_onTile]
    exact State.slot_onSlot_ne _ _ _ _ hne
  have hbusy' : ((s.matOccupied g e (s.matCost (g / 4) (s.slot g) e) arb).tile (g / 4)).mat.busy = some (g, e.serial) :=
    congrArg (fun t : Tile => t.mat.busy) (State.tile_onTile ..)
  have htiles : ∀ h, h ≠ g / 4 → (s.matOccupied g e (s.matCost (g / 4) (s.slot g) e) arb).tile h = s.tile h := fun h hne => tile_onTile_other _ _ hne
  have hframe : s.matOccupied g e (s.matCost (g / 4) (s.slot g) e) arb = { s with
    slots := (s.matOccupied g e (s.matCost (g / 4) (s.slot g) e) arb).slots, tiles := (s.matOccupied g e (s.matCost (g / 4) (s.slot g) e) arb).tiles } := rfl
  have hwrites : s.matWrites g e = if e.op = .accSt then some (s.accImage (g / 4) e.acc) else if e.op = .accCvt then some r.1 else none := by
    rw [State.matWrites]
    cases e.op <;> rfl
  rw [hwrites] at hgives
  generalize s.matOccupied g e (s.matCost (g / 4) (s.slot g) e) arb = u at hgives hslot hother hbusy' htiles hframe
  obtain ⟨ts, us, rfl⟩ : ∃ ts us, u = { s with slots := ts, tiles := us } := ⟨_, _, hframe⟩
  by_cases hst : e.op = .accSt
  · rw [if_pos hst] at hgives
    exact ⟨_, hgives, rfl, hslot, hbusy', hother, htiles, fun h => absurd hst h, fun _ => rfl, fun h => MatOp.noConfusion (hst.symm.trans h)⟩
  · rw [if_neg hst] at hgives
    by_cases hcvt : e.op = .accCvt
    · rw [if_pos hcvt] at hgives
      exact ⟨_, hgives, rfl, hslot, hbusy', hother, htiles, fun _ h => absurd hcvt h, fun h => absurd h hst, fun _ => rfl⟩
    · rw [if_neg hcvt] at hgives
      exact ⟨_, hgives, rfl, hslot, hbusy', hother, htiles, fun _ _ => rfl, fun h => absurd h hst, fun h => absurd h hcvt⟩

end

end Sys2Proof.Machine

namespace Sys2Proof.Machine

open Sys2Proof.Claims

set_option Elab.async false

/-! ## Accumulator tiles in memory: other tiles, cleared tiles, EB (spec/04 R84, spec/08 R188, R190) -/

/-- A byte of memory with a range cleared. -/
theorem Memory.at_clear (m : List Host.Cell) (k n a : Nat) :
    Memory.at_ (Memory.clear m k n) a = if k ≤ a ∧ a < k + n then 0 else Memory.at_ m a := by
  have hfind : (Memory.clear m k n).find? (fun e => e.1 == a) = if k ≤ a ∧ a < k + n then none else m.find? (fun e => e.1 == a) := by
    rw [Memory.clear, List.find?_filter]
    split
    · next hin =>
      rw [List.find?_eq_none]
      intro e _
      simp only [decide_eq_true_eq, beq_iff_eq]
      omega
    · next hout =>
      refine congrArg (m.find? ·) (funext fun e => Bool.eq_iff_iff.2 ?_)
      simp only [decide_eq_true_eq, beq_iff_eq]
      omega
  rw [Memory.at_, Memory.at_, Assoc.get, Assoc.get, hfind]
  by_cases hin : k ≤ a ∧ a < k + n
  · rw [if_pos hin, if_pos hin]
  · rw [if_neg hin, if_neg hin]

theorem Memory.read_congr {m m' : List Host.Cell} {k n : Nat} (h : ∀ a, k ≤ a → a < k + n → Memory.at_ m' a = Memory.at_ m a) :
    Memory.read m' k n = Memory.read m k n :=
  List.map_congr_left fun _ hi => h _ (Nat.le_add_right _ _) (Nat.add_lt_add_left (List.mem_range.1 hi) _)

/-- An element depends on the bytes at its own keys alone. -/
theorem accElem_congr {s u : State} {gt n e : Nat} (hv : ∀ a, accKey gt n + 16 * e ≤ a → a < accKey gt n + 16 * e + 16 → Memory.at_ u.mem a = Memory.at_ s.mem a)
    (hst : Memory.at_ u.mem (statusKey gt n + e / 2) = Memory.at_ s.mem (statusKey gt n + e / 2)) : u.accElem gt n e = s.accElem gt n e := by
  rw [State.accElem, State.accElem, State.readMem, State.readMem, Memory.read_congr hv, hst]

section
variable {s : State} {gt n m e k : Nat} (hn : n < 64) (hm : m < 64) (he : e < 1024) (hk : k < 1024)
include hn hm he hk

theorem accElem_setAccElem_apart (hne : m ≠ n) (x : AccElem) : (s.setAccElem gt n e x).accElem gt m k = s.accElem gt m k := by
  have hlen := length_toBytes 16 (x.a % (2 ^ 128 : Nat)).toNat
  rw [State.setAccElem_eq, State.accElem_writeMem_apart, State.accElem_writeMem_apart]
  all_goals
    simp only [hlen, List.length_singleton, accKey, statusKey, sramKey]
    omega

end

section
variable {s : State} {gt n e : Nat} (hn : n < 64) (he : e < 1024)
include hn he

theorem readField_setAccElem (m : Nat) (x : AccElem) : (s.setAccElem gt n e x).readMem (fieldKey gt m) 8 = s.readMem (fieldKey gt m) 8 := by
  have hlen := length_toBytes 16 (x.a % (2 ^ 128 : Nat)).toNat
  rw [State.setAccElem_eq, State.readMem_writeMem_apart, State.readMem_writeMem_apart]
  all_goals
    simp only [hlen, List.length_singleton, accKey, statusKey, fieldKey, sramKey]
    omega

theorem accElem_setAccFields_any (m : Nat) (eb : Int) (inx : Bool) : (s.setAccFields gt m eb inx).accElem gt n e = s.accElem gt n e := by
  have hv := accKey_elem_le_statusKey (gt := gt) hn he n
  have hf := status_lt_fieldKey (gt := gt) hn he m
  exact State.accElem_writeMem_apart s (.inl (by omega)) (.inl hf)

end

theorem sextN16_range (v : Nat) : -2 ^ 15 ≤ sextN v 16 ∧ sextN v 16 < 2 ^ 15 := by
  simp only [sextN, testN, beq_iff_eq]
  split <;> omega

/-- EB reads back (spec/04 R84). -/
theorem accEb_setAccFields (s : State) (gt n : Nat) {eb : Int} (hl : -2 ^ 15 ≤ eb) (hu : eb < 2 ^ 15) (inx : Bool) :
    (s.setAccFields gt n eb inx).accEb gt n = eb := by
  have hbit : bit inx ≤ 1 := by cases inx <;> decide
  have hv : (eb % (2 ^ 16 : Nat)).toNat + 2 ^ 16 * bit inx < 256 ^ 8 := by omega
  rw [State.setAccFields, State.accEb, State.ofBytes_readMem_writeMem _ _ hv]
  simp only [sextN, testN, beq_iff_eq]
  split <;> omega

theorem accEb_range (s : State) (gt n : Nat) : -2 ^ 15 ≤ s.accEb gt n ∧ s.accEb gt n < 2 ^ 15 := sextN16_range _

section
variable {s : State} {gt n m k : Nat} {es : List Nat} {f : Nat → AccElem → AccElem × Bool} (hn : n < 64) (hes : ∀ e ∈ es, e < 1024)
include hes

/-- What no change of one element changes, `mapAcc` does not change. -/
theorem mapAcc_induction {P : State → Prop} (hs : P s) (hstep : ∀ u e x, e < 1024 → P u → P (u.setAccElem gt n e x)) : P (s.mapAcc gt n es f).1 := by
  induction es using List.reverseRecOn with
  | nil => exact hs
  | append_singleton es e ih =>
    have hprev := ih fun i hi => hes i (List.mem_append_left _ hi)
    rw [State.mapAcc_concat]
    dsimp only
    split
    · exact hprev
    · exact hstep _ e _ (hes e (List.mem_append_right _ (List.mem_singleton_self e))) hprev

include hn

theorem accElem_mapAcc_apart (hm : m < 64) (hk : k < 1024) (hne : m ≠ n) : (s.mapAcc gt n es f).1.accElem gt m k = s.accElem gt m k :=
  mapAcc_induction hes (P := fun u => u.accElem gt m k = s.accElem gt m k) rfl fun u _ x he hu =>
    (accElem_setAccElem_apart (s := u) hn hm he hk hne x).trans hu

theorem readField_mapAcc (m : Nat) : (s.mapAcc gt n es f).1.readMem (fieldKey gt m) 8 = s.readMem (fieldKey gt m) 8 :=
  mapAcc_induction hes (P := fun u => u.readMem (fieldKey gt m) 8 = s.readMem (fieldKey gt m) 8) rfl fun u _ x he hu =>
    (readField_setAccElem (s := u) hn he m x).trans hu

theorem accEb_mapAcc (m : Nat) : (s.mapAcc gt n es f).1.accEb gt m = s.accEb gt m := by
  rw [State.accEb, readField_mapAcc hn hes m]
  rfl

omit hn in
/-- `mapAcc` touches neither slots nor tiles. -/
theorem mapAcc_frame : (s.mapAcc gt n es f).1.slots = s.slots ∧ (s.mapAcc gt n es f).1.tiles = s.tiles :=
  mapAcc_induction hes (P := fun u => u.slots = s.slots ∧ u.tiles = s.tiles) ⟨rfl, rfl⟩ fun _ _ _ _ hu => hu

end

/-! A cleared tile, a tile with a new EB, and the merge of a tile (spec/08 R190). -/

section
variable {s : State} {gt n m k : Nat} (hn : n < 64) (hk : k < 1024)
include hn hk

theorem accElem_clear (eb : Int) : (s.accClear gt n eb).accElem gt n k = { a := 0, st := 0 } := by
  have hvalue : ∀ a, accKey gt n + 16 * k ≤ a → a < accKey gt n + 16 * k + 16 →
      Memory.at_ (Memory.clear (Memory.clear s.mem (accKey gt n) 16384) (statusKey gt n) 512) a = Memory.at_ [] a := fun a hl hu => by
    rw [Memory.at_clear, Memory.at_clear, if_neg, if_pos]
    · rfl
    · omega
    · simp only [accKey, statusKey, sramKey] at hl hu ⊢
      omega
  have hstatus : Memory.at_ (Memory.clear (Memory.clear s.mem (accKey gt n) 16384) (statusKey gt n) 512) (statusKey gt n + k / 2) = 0 := by
    rw [Memory.at_clear, if_pos (by omega)]
  have hread : ofBytes (Memory.read (Memory.clear (Memory.clear s.mem (accKey gt n) 16384) (statusKey gt n) 512) (accKey gt n + 16 * k) 16) = 0 := by
    have hzero : Memory.read [] (accKey gt n + 16 * k) 16 = List.replicate 16 0 :=
      (List.map_const' ..).trans (congrArg (List.replicate · 0) List.length_range)
    rw [Memory.read_congr hvalue, hzero]
    decide
  rw [State.accClear, accElem_setAccFields_any hn hk, State.accElem, State.readMem, State.clearMem_mem, State.clearMem_mem, hread, hstatus]
  have hnibble : (0 : Byte).toNat / 16 ^ (k % 2) % 16 = 0 := by rw [show (0 : Byte).toNat = 0 from rfl, Nat.zero_div, Nat.zero_mod]
  rw [hnibble]
  rfl

theorem accElem_clear_apart (hm : m < 64) (hne : m ≠ n) (eb : Int) : (s.accClear gt n eb).accElem gt m k = s.accElem gt m k := by
  rw [State.accClear, accElem_setAccFields_any hm hk]
  refine accElem_congr (fun a hl hu => ?_) ?_
  all_goals
    rw [State.clearMem_mem, State.clearMem_mem, Memory.at_clear, Memory.at_clear, if_neg, if_neg]
    all_goals
      simp only [accKey, statusKey, sramKey] at *
      omega

end

end Sys2Proof.Machine

namespace Sys2Proof.Machine

open Sys2Proof.Claims

set_option Elab.async false

/-! ## A matrix entry completes (spec/08 R178, R182 to R192) -/

section
variable {s u : State} {gt g off : Nat} {e : MatEntry}

/-- The array of a tile free. -/
def State.matFreed (s : State) (gt : Nat) : State := s.onTile gt (fun u => { u with mat := u.mat.free })

/-- The array free and the entry gone from its slot. -/
def State.matFinished (s : State) (gt g serial : Nat) : State := (s.matFreed gt).unbindMat g serial

theorem tile_matFreed (s : State) (gt : Nat) : (s.matFreed gt).tile gt = { s.tile gt with mat := (s.tile gt).mat.free } := State.tile_onTile ..

/-- What an entry that leaves the array changes. -/
structure MatFinished (u t : State) (gt g serial : Nat) : Prop where
  mem : t.mem = u.mem
  tile : t.tile gt = { u.tile gt with mat := (u.tile gt).mat.free }
  slot : t.slot g = { u.slot g with mbound := (u.slot g).mbound.filter (fun p => p.serial != serial) }

theorem matFinished_spec (u : State) (gt g serial : Nat) : MatFinished u (u.matFinished gt g serial) gt g serial where
  mem := rfl
  tile := tile_matFreed u gt
  slot := State.slot_onSlot (u.matFreed gt) g fun t => { t with mbound := t.mbound.filter (fun p => p.serial != serial) }

theorem gives_complete (h : Occupies s gt g e) (hc : s.completeMat g e = some u) : Gives (.matrixEntryComplete gt) s (u.matFinished gt g e.serial) := by
  obtain ⟨hbusy, hhold, -, hfind⟩ := h
  have hexec : exec (.matrixEntryComplete gt) s = execMatrixEntryComplete gt s := rfl
  rw [Gives, hexec, execMatrixEntryComplete, hbusy]
  simp only [hhold, Bool.false_eq_true, if_false]
  rw [hfind]
  simp only [hc]
  rfl

theorem gives_beside (h : Occupies s gt g e) (hc : s.completeMat g e = none) :
    Gives (.matrixEntryComplete gt) s (((s.completeWaiting gt).getD s).matFreed gt) := by
  obtain ⟨hbusy, hhold, -, hfind⟩ := h
  have hexec : exec (.matrixEntryComplete gt) s = execMatrixEntryComplete gt s := rfl
  rw [Gives, hexec, execMatrixEntryComplete, hbusy]
  simp only [hhold, Bool.false_eq_true, if_false]
  rw [hfind]
  simp only [hc]
  rfl

/-- The array is free afterwards. -/
theorem complete_frees (h : Occupies s gt g e) {t : State} (ht : Gives (.matrixEntryComplete gt) s t) : (t.tile gt).mat.busy = none := by
  cases hc : s.completeMat g e with
  | none =>
    cases (gives_beside h hc).symm.trans ht
    exact congrArg (fun u : Tile => u.mat.busy) (tile_matFreed ..)
  | some u =>
    cases (gives_complete h hc).symm.trans ht
    exact congrArg (fun u : Tile => u.mat.busy) (tile_matFreed u gt)

/-! Fills and pops (spec/08 R178, R189). -/

theorem fifos_popFifo (s : State) (gt q : Nat) : vget ((s.popFifo gt q).tile gt).fifos q = (vget (s.tile gt).fifos q).drop 1 := by
  rw [State.popFifo, State.tile_onTile]
  exact vget_vset ..

theorem fifos_fillFifo (s : State) (gt q fill : Nat) (img : List Host.Cell) (bad : Bool) :
    vget ((s.fillFifo gt q fill img bad).tile gt).fifos q =
      (vget (s.tile gt).fifos q).map (fun p => if p.full = false ∧ p.fill = fill then { p with full := true, image := img, poison := bad } else p) := by
  rw [State.fillFifo, State.tile_onTile]
  refine (vget_vset ..).trans (List.map_congr_left fun p _ => if_congr ?_ rfl rfl)
  rw [Bool.and_eq_true, Bool.not_eq_true', beq_iff_eq]

theorem matLoaded_ownTile (hgt : gt = g / 4) (ht : s.matTarget e = .tile gt off) (hstands : s.lostDie (dieOf gt) = false) (n : Nat) :
    s.matLoaded g e n = some { image := Memory.slice s.mem (gt * 2 ^ 30 + off) n, bad := fun i m => s.poisoned (gt * 2 ^ 30 + off + i) m, reads := [] } := by
  have hbar : s.barred (s.slot g).part (tileOfSlot g) (.tile gt off) = false := by rw [hgt]; exact barred_ownTile ..
  rw [State.matLoaded, ht]
  simp only [hbar, hstands]
  rfl

/-- The state once QA.LD has filled its position. -/
theorem completeMat_qaLd (hop : e.op = .qaLd) (hgt : gt = g / 4) (ht : s.matTarget e = .tile gt off) (hstands : s.lostDie (dieOf gt) = false) :
    s.completeMat g e = some ((s.fillFifo gt e.qa e.fill (Memory.slice s.mem (gt * 2 ^ 30 + off) 13888) (s.poisoned (gt * 2 ^ 30 + off) 13888)).dropReads []) := by
  have htile : tileOfSlot g = gt := hgt.symm
  rw [State.completeMat]
  simp only [hop, matLoaded_ownTile hgt ht hstands, htile, Option.map_some, imageBytes, Nat.add_zero]

/-- The latch that BL.LD loads. -/
def State.operandLatch (s : State) (k : Nat) : Latch := { image := Memory.slice s.mem k 13888, poison := s.poisoned k 13888 }

/-- The tile once BL.LD has loaded its latch. -/
def Tile.latched (bl : Nat) (l : Latch) (u : Tile) : Tile := { u with latches := vset u.latches bl l }

theorem completeMat_blLd (hop : e.op = .blLd) (hgt : gt = g / 4) (ht : s.matTarget e = .tile gt off) (hstands : s.lostDie (dieOf gt) = false) :
    s.completeMat g e = some ((s.onTile gt (.latched e.bl (s.operandLatch (gt * 2 ^ 30 + off)))).dropReads []) := by
  have htile : tileOfSlot g = gt := hgt.symm
  rw [State.completeMat]
  simp only [hop, matLoaded_ownTile hgt ht hstands, htile, Option.map_some, imageBytes, Nat.add_zero]
  rfl

/-! Writes that have been performed (spec/08 R184). -/

theorem matStoring_done (h : ∀ r ∈ s.requests, r.slot = g → r.entry = e.serial → ∀ bs, r.kind ≠ .block bs) : s.matStoring g e = false := by
  rw [State.matStoring, List.any_eq_false]
  intro r hr hstoring
  rw [Bool.and_eq_true, Bool.and_eq_true, Bool.and_eq_true, beq_iff_eq, beq_iff_eq, beq_iff_eq] at hstoring
  obtain ⟨⟨⟨hslot, -⟩, hentry⟩, hkind⟩ := hstoring
  cases hk : r.kind with
  | block bs => exact h r hr hslot hentry bs hk
  | _ => rw [hk] at hkind; exact Bool.false_ne_true hkind

theorem completeMat_accSt (hop : e.op = .accSt) (h : ∀ r ∈ s.requests, r.slot = g → r.entry = e.serial → ∀ bs, r.kind ≠ .block bs) :
    s.completeMat g e = some s := by
  rw [State.completeMat]
  simp only [hop, matStoring_done h]
  rfl

theorem completeMat_accCvt (hop : e.op = .accCvt) (h : ∀ r ∈ s.requests, r.slot = g → r.entry = e.serial → ∀ bs, r.kind ≠ .block bs) :
    s.completeMat g e = some (s.onSlot g (fun t => t.orFlags e.flags)) := by
  rw [State.completeMat]
  simp only [hop, matStoring_done h]
  rfl

end

/-! Products (spec/08 R188). -/

/-- The elements of an accumulator that a product reaches. -/
def productElems (p : ProductPlan) : List Nat := (List.range p.ad.rows).flatMap (fun i => (List.range (p.latch i).2.rows).map (fun j => 32 * i + j))

/-- What a product makes of an element, and whether a contribution was inexact. -/
def productAt (eb : Int) (p : ProductPlan) (e : Nat) (x : AccElem) : AccElem × Bool :=
  (List.range (min p.ad.cols (p.latch (e / 32)).2.cols)).foldl (fun (acc : AccElem × Bool) k =>
    let y := acc.1.add eb (productOf (operand p.img p.ad (e / 32) k) (operand (p.latch (e / 32)).1 (p.latch (e / 32)).2 (e % 32) k))
    (y.1, acc.2 || y.2)) (x, false)

theorem product_eq (s : State) (gt n : Nat) (p : ProductPlan) : s.product gt n p.img p.ad p.latch =
    if (s.mapAcc gt n (productElems p) (productAt (s.accEb gt n) p)).2 then
      (s.mapAcc gt n (productElems p) (productAt (s.accEb gt n) p)).1.setAccFields gt n (s.accEb gt n) true
    else (s.mapAcc gt n (productElems p) (productAt (s.accEb gt n) p)).1 := rfl

theorem productAt_dot (eb : Int) (p : ProductPlan) {i j : Nat} (hj : j < 32) (x : AccElem) : (productAt eb p (32 * i + j) x).1 = dot eb p i j x := by
  have hi : (32 * i + j) / 32 = i := by omega
  have hm : (32 * i + j) % 32 = j := by omega
  rw [productAt, hi, hm]
  exact (List.foldl_hom Prod.fst fun _ _ => rfl).symm

theorem productAt_fits (eb : Int) (p : ProductPlan) (e : Nat) (x : AccElem) (h : x.Fits) : (productAt eb p e x).1.Fits :=
  List.foldlRecOn _ _ (motive := fun acc : AccElem × Bool => acc.1.Fits) h fun _ hacc _ _ => AccElem.add_fits hacc _ _

section
variable {p : ProductPlan} (hrows : p.ad.rows ≤ 32) (hlatch : ∀ i, (p.latch i).2.rows ≤ 32)
include hrows hlatch

omit hrows in
theorem mem_productElems {i j : Nat} (hj : j < 32) : 32 * i + j ∈ productElems p ↔ i < p.ad.rows ∧ j < (p.latch i).2.rows := by
  simp only [productElems, List.mem_flatMap, List.mem_map, List.mem_range]
  constructor
  · rintro ⟨i', hi', j', hj', heq⟩
    have := hlatch i'
    obtain rfl : i' = i := by omega
    obtain rfl : j' = j := by omega
    exact ⟨hi', hj'⟩
  · rintro ⟨hi, hj⟩
    exact ⟨i, hi, j, hj, rfl⟩

theorem productElems_lt : ∀ e ∈ productElems p, e < 1024 := by
  simp only [productElems, List.mem_flatMap, List.mem_map, List.mem_range]
  rintro e ⟨i, hi, j, hj, rfl⟩
  have := hlatch i
  omega

omit hrows in
theorem productElems_nodup : (productElems p).Nodup := by
  rw [productElems, List.nodup_flatMap]
  refine ⟨fun i _ => List.nodup_range.map fun a b h => by omega, List.nodup_range.imp fun {i i'} hne => ?_⟩
  intro e he he'
  obtain ⟨j, hj, rfl⟩ := List.mem_map.1 he
  obtain ⟨j', hj', heq⟩ := List.mem_map.1 he'
  have h₁ := (List.mem_range.1 hj).trans_le (hlatch i)
  have h₂ := (List.mem_range.1 hj').trans_le (hlatch i')
  omega

end

section
variable {s : State} {gt n : Nat} {p : ProductPlan} (hn : n < 64) (hrows : p.ad.rows ≤ 32) (hlatch : ∀ i, (p.latch i).2.rows ≤ 32)

theorem accElem_ite {c : Bool} {u : State} {eb : Int} {m k : Nat} (hm : m < 64) (hk : k < 1024) :
    (if c then u.setAccFields gt n eb true else u).accElem gt m k = u.accElem gt m k := by
  split
  · exact accElem_setAccFields_any hm hk n eb true
  · rfl

include hn hrows hlatch

theorem accElem_product {i j : Nat} (hi : i < 32) (hj : j < 32) : (s.product gt n p.img p.ad p.latch).accElem gt n (32 * i + j) =
    if i < p.ad.rows ∧ j < (p.latch i).2.rows then dot (s.accEb gt n) p i j (s.accElem gt n (32 * i + j)) else s.accElem gt n (32 * i + j) := by
  rw [product_eq, accElem_ite hn (by omega), State.accElem_mapAcc s hn (by omega) (productAt_fits _ p) (productElems_lt hrows hlatch) (productElems_nodup hlatch),
    productAt_dot _ p hj]
  exact if_congr (mem_productElems hlatch hj) rfl rfl

theorem accElem_product_apart {m k : Nat} (hm : m < 64) (hk : k < 1024) (hne : m ≠ n) :
    (s.product gt n p.img p.ad p.latch).accElem gt m k = s.accElem gt m k := by
  rw [product_eq, accElem_ite hm hk]
  exact accElem_mapAcc_apart hn (productElems_lt hrows hlatch) hm hk hne

theorem accEb_product : (s.product gt n p.img p.ad p.latch).accEb gt n = s.accEb gt n := by
  obtain ⟨hl, hu⟩ := accEb_range s gt n
  rw [product_eq]
  split
  · exact accEb_setAccFields _ gt n hl hu true
  · exact accEb_mapAcc hn (productElems_lt hrows hlatch) n

omit hn in
theorem product_frame : (s.product gt n p.img p.ad p.latch).slots = s.slots ∧ (s.product gt n p.img p.ad p.latch).tiles = s.tiles := by
  have hmap := mapAcc_frame (s := s) (gt := gt) (n := n) (f := productAt (s.accEb gt n) p) (productElems_lt hrows hlatch)
  rw [product_eq]
  split <;> exact hmap

end

section
variable {s : State} {gt g : Nat} {e : MatEntry}

/-- The state once a product is in its accumulator and its slot has left MATRIX. -/
def State.productDone (s : State) (gt g : Nat) (e : MatEntry) (p : ProductPlan) : State :=
  (if e.keep then s.product gt e.acc p.img p.ad p.latch else (s.product gt e.acc p.img p.ad p.latch).popFifo gt e.qa).onSlot g
    (fun t => { t.setFlow e.bank (t.flowOf e.bank).advance with state := t.active })

theorem completeMat_product {p : ProductPlan} (hop : e.op = .mma ∨ e.op = .mmaSeg) (hgt : gt = g / 4) (hp : s.planProduct gt (s.slot g) e = .ok p) :
    s.completeMat g e = some (s.productDone gt g e p) := by
  have htile : tileOfSlot g = gt := hgt.symm
  rw [State.completeMat]
  rcases hop with hop | hop <;> simp only [hop, htile, hp] <;> rfl

theorem productDone_mem (s : State) (gt g : Nat) (e : MatEntry) (p : ProductPlan) : (s.productDone gt g e p).mem = (s.product gt e.acc p.img p.ad p.latch).mem := by
  rw [State.productDone]
  split <;> rfl

theorem productDone_fifos {p : ProductPlan} (hrows : p.ad.rows ≤ 32) (hlatch : ∀ i, (p.latch i).2.rows ≤ 32) :
    vget ((s.productDone gt g e p).tile gt).fifos e.qa = if e.keep then vget (s.tile gt).fifos e.qa else (vget (s.tile gt).fifos e.qa).drop 1 := by
  obtain ⟨-, htiles⟩ := product_frame (s := s) (gt := gt) (n := e.acc) hrows hlatch
  have htile : (s.product gt e.acc p.img p.ad p.latch).tile gt = s.tile gt := by rw [State.tile, htiles]; rfl
  rw [State.productDone, State.tile_onSlot]
  split
  · rw [htile]
  · rw [fifos_popFifo, htile]

theorem productDone_slot {p : ProductPlan} (hrows : p.ad.rows ≤ 32) (hlatch : ∀ i, (p.latch i).2.rows ≤ 32) :
    (s.productDone gt g e p).slot g = { (s.slot g).setFlow e.bank ((s.slot g).flowOf e.bank).advance with state := (s.slot g).active } := by
  obtain ⟨hslots, -⟩ := product_frame (s := s) (gt := gt) (n := e.acc) hrows hlatch
  have hslot : ∀ u : State, u.slots = s.slots → u.slot g = s.slot g := fun u hu => by rw [State.slot, hu]; rfl
  rw [State.productDone, State.slot_onSlot]
  split
  · rw [hslot _ hslots]
  · rw [hslot ((s.product gt e.acc p.img p.ad p.latch).popFifo gt e.qa) hslots]

/-- EB is the low half word of the operand. -/
theorem eb_eq (v : Word) : sextN (bits v 15 0) 16 = (v.setWidth 16).toInt := by
  rw [bits_low, BitVec.toInt_eq_toNat_cond, BitVec.toNat_setWidth]
  simp only [sextN, testN, beq_iff_eq]
  split <;> split <;> omega

theorem completeMat_accClr (hop : e.op = .accClr) (hgt : gt = g / 4) : s.completeMat g e = some (s.accClear gt e.acc (e.xa.setWidth 16).toInt) := by
  have htile : tileOfSlot g = gt := hgt.symm
  rw [State.completeMat]
  simp only [hop, htile, eb_eq]

theorem completeMat_accRebase (hop : e.op = .accRebase) (hgt : gt = g / 4) : s.completeMat g e = some (s.accRebase gt e.acc (e.xa.setWidth 16).toInt) := by
  have htile : tileOfSlot g = gt := hgt.symm
  rw [State.completeMat]
  simp only [hop, htile, eb_eq]

theorem completeMat_accAdd (hop : e.op = .accAdd) (hgt : gt = g / 4) : s.completeMat g e = some (s.accAdd gt e.acc e.src) := by
  have htile : tileOfSlot g = gt := hgt.symm
  rw [State.completeMat]
  simp only [hop, htile]

theorem completeMat_qaPop (hop : e.op = .qaPop) (hgt : gt = g / 4) : s.completeMat g e = some (s.popFifo gt e.qa) := by
  have htile : tileOfSlot g = gt := hgt.symm
  rw [State.completeMat]
  simp only [hop, htile]

theorem half_range (v : Word) : -2 ^ 15 ≤ (v.setWidth 16).toInt ∧ (v.setWidth 16).toInt < 2 ^ 15 :=
  ⟨BitVec.le_toInt _, BitVec.toInt_lt⟩

/-- What ACC.REBASE makes of an element. -/
def rebaseElem (old eb : Int) (x : AccElem) : AccElem × Bool := (AccElem.clamp x.st (floorShift x.a (old - eb)).1, !(floorShift x.a (old - eb)).2)

theorem accRebase_eq (s : State) (gt n : Nat) (eb : Int) : s.accRebase gt n eb =
    (s.mapAcc gt n (List.range 1024) (fun _ => rebaseElem (s.accEb gt n) eb)).1.setAccFields gt n eb
      (s.accInx gt n || (s.mapAcc gt n (List.range 1024) (fun _ => rebaseElem (s.accEb gt n) eb)).2) := rfl

theorem accElem_accRebase {n k : Nat} (hn : n < 64) (hk : k < 1024) (eb : Int) :
    (s.accRebase gt n eb).accElem gt n k = (rebaseElem (s.accEb gt n) eb (s.accElem gt n k)).1 := by
  rw [accRebase_eq, accElem_setAccFields_any hn hk,
    State.accElem_mapAcc s hn hk (fun _ x hx => AccElem.clamp_fits _ hx.status) (fun _ => List.mem_range.1) List.nodup_range, if_pos (List.mem_range.2 hk)]

theorem accEb_accRebase (s : State) (gt n : Nat) {eb : Int} (hl : -2 ^ 15 ≤ eb) (hu : eb < 2 ^ 15) : (s.accRebase gt n eb).accEb gt n = eb := by
  rw [accRebase_eq]
  exact accEb_setAccFields _ gt n hl hu _

theorem accEb_accAdd (s : State) (gt n src : Nat) : (s.accAdd gt n src).accEb gt n = s.accEb gt n := by
  obtain ⟨hl, hu⟩ := accEb_range s gt n
  rw [State.accAdd_eq]
  exact accEb_setAccFields _ gt n hl hu _

theorem accEb_matFinished (u : State) (gt g serial m n : Nat) : (u.matFinished gt g serial).accEb m n = u.accEb m n := rfl
theorem accElem_matFinished (u : State) (gt g serial m n k : Nat) : (u.matFinished gt g serial).accElem m n k = u.accElem m n k := rfl

/-- The value of a merged element is that of the sum, clamped. -/
theorem mergeElem_value (s : State) (gt n src e : Nat) (x : AccElem) : (s.mergeElem gt n src e x).1.a =
    (AccElem.clamp 0 (x.a + (floorShift (s.accElem gt src e).a (s.accEb gt src - s.accEb gt n)).1)).a := by
  have hvalue : (if decide ((s.accElem gt src e).a < 0) = true then -((s.accElem gt src e).a.natAbs : Int) else (s.accElem gt src e).a.natAbs) = (s.accElem gt src e).a := by
    split
    · next h => have := of_decide_eq_true h; omega
    · next h => have := of_decide_eq_false (Bool.of_not_eq_true h); omega
  rw [State.mergeElem, AccElem.add_fin]
  dsimp only
  rw [hvalue]
  rfl

/-- Settles O24: each form's effect is that of `completeMat`, and the array and the queue's books do not touch memory. -/
theorem matrixComplete : Obligations.MatrixComplete := by
  unfold Obligations.MatrixComplete
  intro s gt g e hocc _ hacc hqa hbl
  have ⟨_, _, hgt, _⟩ := hocc
  refine ⟨fun t ht => .inl (complete_frees hocc ht), fun hop => ?_, fun off ht hstands => ⟨fun hop => ?_, fun hop => ?_⟩,
    fun p hop hp hrows hlatch => ?_, fun hop => ?_, fun hop => ?_, fun hop hsrc => ?_, fun hdone => ⟨fun hop => ?_, fun hop => ?_⟩⟩
  · have hf := matFinished_spec (s.popFifo gt e.qa) gt g e.serial
    exact ⟨_, gives_complete hocc (completeMat_qaPop hop hgt), hf.mem, (congrArg (fun u : Tile => vget u.fifos e.qa) hf.tile).trans (fifos_popFifo ..),
      congrArg Slot.mbound hf.slot⟩
  · have hc := completeMat_qaLd hop hgt ht hstands
    have hf := matFinished_spec ((s.fillFifo gt e.qa e.fill (Memory.slice s.mem (gt * 2 ^ 30 + off) 13888) (s.poisoned (gt * 2 ^ 30 + off) 13888)).dropReads []) gt g e.serial
    exact ⟨_, gives_complete hocc hc, hf.mem, (congrArg (fun u : Tile => vget u.fifos e.qa) hf.tile).trans (fifos_fillFifo ..)⟩
  · have hc := completeMat_blLd hop hgt ht hstands
    have hf := matFinished_spec ((s.onTile gt (.latched e.bl (s.operandLatch (gt * 2 ^ 30 + off)))).dropReads []) gt g e.serial
    have hlatch := congrArg (fun u : Tile => vget u.latches e.bl) (State.tile_onTile s gt (.latched e.bl (s.operandLatch (gt * 2 ^ 30 + off))))
    exact ⟨_, gives_complete hocc hc, hf.mem, (congrArg (fun u : Tile => vget u.latches e.bl) hf.tile).trans (hlatch.trans (vget_vset ..))⟩
  · have hf := matFinished_spec (s.productDone gt g e p) gt g e.serial
    have hmem := hf.mem.trans (productDone_mem s gt g e p)
    have hslot := hf.slot
    rw [productDone_slot hrows hlatch] at hslot
    have hfifos := (congrArg (fun u : Tile => vget u.fifos e.qa) hf.tile).trans (productDone_fifos hrows hlatch)
    have helem : ∀ m k, ((s.productDone gt g e p).matFinished gt g e.serial).accElem gt m k = (s.product gt e.acc p.img p.ad p.latch).accElem gt m k :=
      fun m k => by rw [State.accElem, State.readMem, hmem]; rfl
    have heb : ((s.productDone gt g e p).matFinished gt g e.serial).accEb gt e.acc = (s.product gt e.acc p.img p.ad p.latch).accEb gt e.acc := by
      rw [State.accEb, State.readMem, hmem]; rfl
    refine ⟨_, gives_complete hocc (completeMat_product hop hgt hp), congrArg Slot.state hslot, ?_, heb.trans (accEb_product hacc hrows hlatch), hfifos,
      fun i j hi hj => (helem _ _).trans (accElem_product hacc hrows hlatch hi hj),
      fun m hm hne k hk => (helem _ _).trans (accElem_product_apart hacc hrows hlatch hm hk hne)⟩
    rw [hslot]
    exact congrArg Flow.pc ((Slot.flowOf_setFlow (s.slot g) e.bank e.bank _).trans (if_pos rfl))
  · obtain ⟨hl, hu⟩ := half_range e.xa
    exact ⟨_, gives_complete hocc (completeMat_accClr hop hgt), accEb_setAccFields _ gt e.acc hl hu false, State.accInx_setAccFields _ gt e.acc _ false,
      fun k hk => accElem_clear (s := s) hacc hk _, fun m hm hne k hk => accElem_clear_apart (s := s) hacc hk hm hne _⟩
  · obtain ⟨hl, hu⟩ := half_range e.xa
    exact ⟨_, gives_complete hocc (completeMat_accRebase hop hgt), (accEb_matFinished ..).trans (accEb_accRebase s gt e.acc hl hu),
      fun k hk => (accElem_matFinished ..).trans <| accElem_accRebase (s := s) hacc hk _⟩
  · exact ⟨_, gives_complete hocc (completeMat_accAdd hop hgt), (accEb_matFinished ..).trans (accEb_accAdd s gt e.acc e.src),
      fun k hk => (congrArg AccElem.a ((accElem_matFinished ..).trans (s.accElem_accAdd hacc hk))).trans (mergeElem_value s gt e.acc e.src k _)⟩
  · have hf := matFinished_spec s gt g e.serial
    exact ⟨_, gives_complete hocc (completeMat_accSt hop hdone), hf.mem, congrArg Slot.mbound hf.slot⟩
  · have hf := matFinished_spec (s.onSlot g (fun t => t.orFlags e.flags)) gt g e.serial
    have hslot := hf.slot
    rw [State.slot_onSlot] at hslot
    exact ⟨_, gives_complete hocc (completeMat_accCvt hop hdone), hf.mem, congrArg Slot.mbound hslot, congrArg Slot.flags hslot⟩

end

end Sys2Proof.Machine
